-- ==== Sys2Proof/Word.lean ====
section
/-! DEFINITION. The word types of the IM4144 model: the widths the manual gives to registers, addresses, time and
blocks (00 R3, R4, R11, R13), and sparse maps as plain lists. -/

namespace Sys2Proof

/-- One byte. -/
abbrev Byte := BitVec 8

/-- A set-up register (R3). -/
abbrev Word := BitVec 32

/-- A 64-bit quantity (R4). -/
abbrev DWord := BitVec 64

/-- The 4,096 bytes of user data of one logical block (R11); byte k stands at bits [8k+7:8k] (R5). -/
abbrev BlockData := BitVec 32768

/-- A finite map: pairs of a key and a value, keys strictly rising; a key that is not listed has the default that the
reader of the map names. -/
abbrev Assoc (α : Type) := List (Nat × α)

end Sys2Proof
end

