-- ==== Sys2Proof/Machine/Types.lean ====
section
/-! DEFINITION. Plain data shared by every block of the model: time pairs, agents of the set-up map, fault reports and
records, Tail records, event sources. -/

namespace Sys2Proof

/-- A time pair (R13, R14): the 64-bit TAI count and the 32-bit sequence number. -/
structure Pair where
  time : Nat
  seq : BitVec 32
  deriving DecidableEq, Repr

/-- Host protection of one block (R11). -/
structure Prot where
  crc : BitVec 64
  ref : BitVec 64
  wtime : BitVec 64
  deriving DecidableEq, Repr

/-- One logical block as the device stores and returns it: data and protection. (DESIGN CHOICE, safe: log entry 128.) -/
structure BlockVal where
  data : BlockData
  prot : Prot
  deriving DecidableEq, Repr

/-- Who accesses a set-up register (R647): the management port, a session through REG_ACCESS, or a control core.
(DESIGN CHOICE, safe: log entry 129.) -/
inductive Agent where
  | mgmt
  | session (i : Nat)
  | core (c : Nat)
  deriving DecidableEq, Repr

/-- One latch of R4, R648: for one agent and one 64-bit pair (named by the address of its lower register), the lower
half the agent wrote and the upper half its last read of the lower register latched. -/
structure Latch where
  agent : Agent
  pair : Nat
  lower : Option Word
  upper : Option Word
  deriving DecidableEq, Repr

/-- PIN_SETUP_ERR and PIN_SETUP_ADDR (Table 20.4). -/
structure SetupErr where
  valid : Bool
  path : Nat
  cause : Nat
  session : Nat
  count : Nat
  addr : Nat
  deriving DecidableEq, Repr

/-- Time states (Table 16.1). -/
inductive TimeState where
  | locked | unset | acquiring | holdover | slewing | free
  deriving DecidableEq, Repr

/-- What an Announce message of a master gives the best master clock algorithm (R554); the comparison of data sets is
that of IEEE 1588-2019, whose order is carried by the fields in the order listed. -/
structure Master where
  priority1 : Nat
  clockClass : Nat
  accuracy : Nat
  variance : Nat
  priority2 : Nat
  identity : BitVec 64
  steps : Nat
  port : Nat
  logSync : Int
  logDelayReq : Int
  deriving DecidableEq, Repr

/-- The time block (chapter 16). `tick` is the TAI count in units of 2^-32 ns (the resolution of the fractional
adder); `corr` is the offset still to be removed by slewing under R546, in the same units; `trim` is the rate trim, in
those units per nanosecond of reference clock; `trims` the trims of the last 64 s with the moment each began, newest first.
`masters` is keyed 2·identity + port. `delayReq` is the departure stamp of the Delay_Req that waits for its answer,
`syncStamps` the origin and arrival stamps of the last Sync. `ppsLast` is when the last accepted SYNC edge came and the second
it marked, `ppsNext` the second TIM_SET named for the next edge; `ppsHigh` the moment SYNC goes low again; `ppsSec` and
`hbSec` the last seconds that had a PPS pulse and heartbeats. `serial` is the string the digest was computed from. -/
structure Tim where
  state : TimeState
  tick : Nat
  corr : Int
  trim : Int
  seq : BitVec 32
  lastOff : Int
  inLock : Nat
  outLock : Nat
  holdSince : Nat
  slavePort : Nat
  masters : Assoc Master
  master : Option Master
  lastSync : Nat
  pathDelay : Option Nat
  delayReq : Option Nat
  delaySent : Nat
  syncStamps : Option (Nat × Nat)
  trims : List (Nat × Int)
  ppsNext : Option Nat
  ppsLast : Option (Nat × Nat)
  ppsHigh : Option Nat
  ppsSec : Nat
  hbSec : Nat
  digest : BitVec 512
  serial : List Byte
  tagPair : Pair
  gen : Nat
  busy : Bool
  deriving DecidableEq, Repr

/-- A fault report before the collector stamps it (Table 17.1). -/
structure Report where
  source : Nat
  kind : Nat
  addr : Nat
  severity : Nat
  deriving DecidableEq, Repr

/-- The reactions of a source (Table 17.5 bits [6:2]). -/
structure Reactions where
  event : Bool
  errN : Bool
  nmi : Bool
  blockRst : Bool
  warmRst : Bool
  deriving DecidableEq, Repr

/-- A report stamped and with its reactions decided, waiting in the buffer of R576. -/
structure Stamped where
  rep : Report
  pair : Pair
  react : Reactions
  deriving DecidableEq, Repr

/-- A fault record (Table 17.5); `react` is the REACTIONS field. `poisoned` says that its granule is poisoned (R580). -/
structure FaultRecord where
  rep : Report
  react : Reactions
  coalesced : Nat
  pair : Pair
  lost : Nat
  number : BitVec 32
  poisoned : Bool
  deriving DecidableEq, Repr

/-- What the collector keeps of one source: reports lost (FLT_CNT.LOST), lost since its last record, recoveries, the
FAULTED bit and the time of its last report. -/
structure FaultSource where
  lost : Nat
  lostSince : Nat
  recoveries : Nat
  faulted : Bool
  lastReport : Nat
  deriving DecidableEq, Repr

/-- The fault collector (chapter 17). `inbox` holds the reports that blocks have made, with the moment of each, that have not yet
reached the collector, in the order of R568; `errnLost` holds, for each lost report that asserted ERR_N, the value FLT_NEXT had (R663). -/
structure Flt where
  inbox : List (Nat × Report)
  buffer : List Stamped
  slots : Assoc FaultRecord
  next : BitVec 32
  rd : BitVec 32
  overwritten : Nat
  lostTotal : Nat
  bufMax : Nat
  sources : Assoc FaultSource
  errnLost : List (BitVec 32)
  lastWarm : Option Nat
  nmi : List (BitVec 32)
  deriving DecidableEq, Repr

/-- What issued a Tail trigger (Table 17.7 byte 4): 1 fault, 2 SYNC, 3 write, 4 timer. -/
structure TailTrigger where
  trigger : Nat
  list : Nat
  fault : BitVec 16
  pair : Pair
  faultRec : BitVec 32
  deriving DecidableEq, Repr

/-- A Tail record (Table 17.7). -/
structure TailRecord where
  seq : BitVec 32
  trig : TailTrigger
  valid : BitVec 32
  gen : Nat
  values : List Word
  poisoned : Bool
  deriving DecidableEq, Repr

/-- The Tail recorder (chapter 17): `capturing` is the trigger being captured, `queue` those that wait behind it. -/
structure Tal where
  queue : List TailTrigger
  ring : Assoc TailRecord
  next : BitVec 32
  oldest : BitVec 32
  nextSlot : Nat
  gens : BitVec 32
  full : Bool
  capturing : Option TailTrigger
  lostRecs : Nat
  missed : Nat
  periodDue : Option Nat
  deriving DecidableEq, Repr

/-- State of an event source (R411). -/
inductive EvState where
  | idle | pending | claimed
  deriving DecidableEq, Repr

/-- An event source (Tables 11.4, 11.5): `count` saturates at 255, `value` is the snapshot of the most recent edge. -/
structure EvSource where
  state : EvState
  holder : Nat
  count : Nat
  value : BitVec 32
  deriving DecidableEq, Repr

end Sys2Proof
end

