-- ==== Sys2Proof/Machine/TypesHost.lean ====
section
/-! DEFINITION. Plain data of the host side: ports, communication-manager messages, sessions, lineages, rings, grants
and commands in flight (chapters 8 to 11). -/

namespace Sys2Proof

/-- A path of a session (R292): the device's port and GID index, the partner's GID and the fields taken as given. -/
structure Path where
  port : Nat
  gidIndex : Nat
  localGid : BitVec 128
  remoteGid : BitVec 128
  flow : BitVec 20
  tclass : BitVec 8
  hop : BitVec 8
  deriving DecidableEq, Repr

/-- A path as a REQ or LAP gives it: the device's GID and the partner's. -/
structure PathReq where
  localGid : BitVec 128
  remoteGid : BitVec 128
  flow : BitVec 20
  tclass : BitVec 8
  hop : BitVec 8
  deriving DecidableEq, Repr

/-- A communication-manager REQ (R291, R292); `priv` is the 92-byte admission record (Table 8.3), byte k at bits
[8k+7:8k]. -/
structure ReqMsg where
  serviceId : BitVec 64
  rc : Bool
  primary : PathReq
  alternate : Option PathReq
  pkey : BitVec 16
  psn : BitVec 24
  retry : Nat
  rnrRetry : Nat
  ackExp : Nat
  respRes : Nat
  pmtu : Nat
  priv : BitVec 736
  deriving DecidableEq, Repr

/-- Session states (Table 8.6). -/
inductive SessState where
  | free | admitting | active | closing | error
  deriving DecidableEq, Repr

/-- A completion (Table 11.1) but for the phase bit, which the ring gives when the entry is written. -/
structure Completion where
  cmdId : BitVec 64
  result : BitVec 48
  sqHead : Nat
  pair : Pair
  status : BitVec 16
  replay : Bool
  held : Bool
  deriving DecidableEq, Repr

/-- A transfer-ready grant (Table 9.7) but for the phase bit. -/
structure GrantEntry where
  cmdId : BitVec 64
  dataOfs : Nat
  len : Nat
  winOfs : Nat
  grantNo : Nat
  regrant : Bool
  last : Bool
  deriving DecidableEq, Repr

/-- Kinds of event record (Table 11.6). -/
inductive EventKind where
  | raised | claimed | heartbeat
  deriving DecidableEq, Repr

/-- An event record (Table 11.6) but for the phase bit. -/
structure EventRec where
  source : Nat
  count : Nat
  value : BitVec 64
  pair : Pair
  kind : EventKind
  overflow : Bool
  deriving DecidableEq, Repr

/-- What waits for, or was written into, a completion-ring slot (R396, R403). -/
inductive CqItem where
  | completion (c : Completion)
  | grant (g : GrantEntry)
  deriving DecidableEq, Repr

/-- The device's side of a completion ring (R396-R409): `wr` is the write index, `phase` the phase bit of the present
pass, `count` the completions since the last notification, `timer` the moment MOD_TIME runs out, `fresh` whether
entries were written since the last notification. -/
structure CompRing where
  log2 : Nat
  addr : BitVec 64
  rkey : BitVec 32
  wr : Nat
  phase : Bool
  head : Nat
  waiting : List CqItem
  count : Nat
  timer : Option Nat
  fresh : Bool
  deriving DecidableEq, Repr

/-- The device's side of an event ring (R420-R423): deferred RAISED sources in rising order, a deferred heartbeat, and
CLAIMED records that wait for a slot. -/
structure EventRing where
  log2 : Nat
  addr : BitVec 64
  rkey : BitVec 32
  wr : Nat
  phase : Bool
  head : Nat
  deferred : Assoc (BitVec 64 × Nat)
  deferredHb : Bool
  waitingClaim : List EventRec
  overflow : Bool
  fresh : Bool
  deriving DecidableEq, Repr

/-- What a device request of a session is for (R304, R333, R343, R401). -/
inductive ReqKind where
  | fetch (slot count : Nat)
  | chain (tag : Nat)
  | rangeList (tag : Nat)
  | pull (tag ofs len : Nat) (isProt : Bool)
  | data (tag : Nat) (last : Bool)
  | entry (c : Completion)
  | grant (cmdId : BitVec 64)
  | event
  | notify
  deriving DecidableEq, Repr

/-- A device request that the host has not yet answered: its first PSN and PSN count, the retries used, and the moment
its local ACK timeout runs out. -/
structure DevReq where
  psn : BitVec 24
  npsn : Nat
  kind : ReqKind
  tries : Nat
  rnrTries : Nat
  deadline : Nat
  deriving DecidableEq, Repr

/-- An outstanding grant (R337-R342): `written` holds, for each byte offset of the piece written at least once, the
byte last written. -/
structure Grant where
  tag : Nat
  entry : GrantEntry
  written : Assoc Byte
  tmo : Nat
  notified : Bool
  deadline : Nat
  deriving DecidableEq, Repr

/-- A quarantined range of the landing window (R342). -/
structure Quarantine where
  ofs : Nat
  len : Nat
  until_ : Nat
  deriving DecidableEq, Repr

/-- A session (chapters 8, 9, 11). -/
structure Session where
  state : SessState
  group : Nat
  qos : Nat
  events : Bool
  sqLog : Nat
  sqAddr : BitVec 64
  sqRkey : BitVec 32
  modCount : Nat
  modTime : Nat
  pkey : BitVec 16
  path : Path
  alt : Option Path
  retry : Nat
  rnrRetry : Nat
  ackExp : Nat
  respRes : Nat
  pmtu : Nat
  lineage : Nat
  createdLineage : Bool
  releaseLineage : Bool
  admitDeadline : Nat
  fetchPos : Nat
  tail : Nat
  stopFetch : Bool
  resetTag : Option Nat
  reqs : List DevReq
  silentSince : Option Nat
  epsn : BitVec 24
  spsn : BitVec 24
  nakSent : Bool
  wrCursor : Option (BitVec 64 × BitVec 32 × Nat)
  hostPkts : Nat
  ackDue : Option Nat
  rate : Nat
  cnpSent : Option Nat
  cnpTaken : Option Nat
  rateStep : Nat
  cq : CompRing
  eq : EventRing
  pendNotify : Bool
  lwSize : Nat
  grantEnd : Nat
  grants : List Grant
  quarantine : List Quarantine
  tol : BitVec 32
  deriving DecidableEq, Repr

/-- A record of the completion memory (R374): the entry as first written and the opcode it answers. -/
structure CompRecord where
  opcode : Nat
  comp : Completion
  stackA : Nat
  stackB : Nat
  deriving DecidableEq, Repr

/-- A lineage (R297-R301): `held` are the held completions in completion order, `oldSession` a session ended under R299
whose fetched commands still have completions to arise, with the session that resumed (R306). -/
structure Lineage where
  token : BitVec 128
  group : Nat
  bound : Option Nat
  holdUntil : Nat
  held : List (Nat × Completion)
  memory : List CompRecord
  oldPending : Nat
  deriving DecidableEq, Repr

/-- A DATA segment (Table 9.6) as the walk found it. -/
structure Seg where
  addr : BitVec 64
  len : Nat
  rkey : BitVec 32
  deriving DecidableEq, Repr

/-- A chain segment still to be fetched. -/
structure ChainRef where
  addr : BitVec 64
  len : Nat
  rkey : BitVec 32
  deriving DecidableEq, Repr

/-- A landing and headroom reservation (R56): `blocks` of headroom, the pair of stacks once granted. -/
structure Resv where
  blocks : Nat
  granted : Bool
  stackA : Nat
  stackB : Nat
  deriving DecidableEq, Repr

/-- Where a command in flight stands. `handed`: handed to processing, its command row to come; `waiting`: checked,
its acceptance or its data to come; `accepted`: accepted, its completion to come; `done`: its status is decided. -/
inductive Phase where
  | handed | waiting | accepted | done
  deriving DecidableEq, Repr

/-- A range of blocks of one namespace (R366). -/
structure Range where
  nsid : Nat
  lba : Nat
  nblk : Nat
  deriving DecidableEq, Repr

/-- A block that a READ-class command has bound to at acceptance (R368): its address, the value of its last accepted
effect, whether the block is held on media alone, so that a media read must obtain it, and the row, member and position that the
read is bound to (R117). -/
structure Bound where
  nsid : Nat
  lba : Nat
  val : BlockVal
  spot : Option (Nat × Nat × Nat)
  onMedia : Bool
  got : Bool
  lost : Bool
  deriving DecidableEq, Repr

/-- A command in flight (one tag): the entry as fetched, the session and lineage it came from, and its progress. `recopy` is the mask of the
two copies of its data that must be made again before acceptance (R26, R58). -/
structure Cmd where
  sess : Nat
  lineage : Nat
  entry : BitVec 512
  fetch : Pair
  slot : Nat
  phase : Phase
  accept : Option Pair
  walked : Bool
  segs : List Seg
  hops : Nat
  chain : Option ChainRef
  prot : Option Seg
  ranges : List Range
  listRead : Bool
  resv : Option Resv
  issued : Nat
  arrived : Assoc (List Byte)
  protArrived : Assoc (List Byte)
  retries : Assoc Nat
  recopy : Nat
  grantNo : Nat
  regranted : Bool
  present : Bool
  copyStarted : Bool
  bound : List Bound
  status : BitVec 16
  result : BitVec 48
  endPair : Pair
  heldEnd : Bool
  claimWait : Bool
  payload : List Byte
  awaits : List Nat
  noRecord : Bool
  replay : Bool
  deriving DecidableEq, Repr

/-- How a packet of a session travels: the session index, the path it takes, and its UDP source and destination ports (R286, Table 8.1). -/
structure Route where
  sess : Nat
  path : Path
  srcPort : Nat
  dstPort : Nat
  deriving DecidableEq, Repr

/-- A packet, or the run of packets of one message, that the device sends in a session. A resend runs from a PSN, and `migReq` is the
MigReq bit of its first packet (R310). -/
inductive Pkt where
  | ringWrite (ring slot : Nat) (entry : BitVec 256)
  | notify (ring index : Nat)
  | readReq (psn : BitVec 24) (addr : BitVec 64) (rkey : BitVec 32) (len : Nat)
  | dataWrite (tag : Nat) (addr : BitVec 64) (rkey : BitVec 32) (bytes : List Byte)
  | resend (psn : BitVec 24) (migReq : Bool)
  | ack (psn : BitVec 24)
  | nak (psn : BitVec 24) (code : Nat)
  | cnp
  deriving DecidableEq, Repr

/-- One Ethernet port (chapter 8): `rxLevel` is the receive buffer's level in percent, `echoes` the echo replies sent in
the second `echoSec`, `router` the IPv6 router last heard (R656), and the address writes held under R655. -/
structure Port where
  link : Bool
  speed : Nat
  fec : Bool
  linkDowns : Nat
  dropIcrc : Nat
  dropOther : Nat
  rxLevel : Nat
  paused : Bool
  pausedByPeer : Bool
  echoSec : Nat
  echoes : Nat
  router : Option (BitVec 128)
  heldV4 : Option Word
  heldGw : Option Word
  heldV6 : Assoc Word
  deriving DecidableEq, Repr

/-- A staging area (R387). -/
structure Staging where
  owner : Nat
  total : Nat
  bytes : List Byte
  deriving DecidableEq, Repr

/-- An activation in progress (R389): the tag of its IMAGE_ACTIVATE, its KINDS, the last step of Table 10.14 that has taken place,
D of the firmware and of the personality that it puts into force (R604), and whether the recovery from a fault has cut it (R20). -/
structure Activation where
  tag : Nat
  kinds : Nat
  step : Nat
  fwDigest : BitVec 512
  persDigest : BitVec 512
  cut : Bool
  deriving DecidableEq, Repr

/-- The host transport (chapters 8 to 11); `held` is the packets that wait for the end of the pause of their port's partner (R284). -/
structure Eqt where
  ports : Assoc Port
  held : List (Route × Pkt)
  sessions : Assoc Session
  lineages : Assoc Lineage
  nextLineage : Nat
  cmds : Assoc Cmd
  rrNext : Nat
  dbBad : Nat
  sglBad : Nat
  pushBad : Nat
  mraQueue : List (Nat × ReqMsg)
  staged : Assoc Staging
  activation : Option Activation
  acceptCmds : Bool
  firstAccepted : Bool
  deriving DecidableEq, Repr

end Sys2Proof
end

