-- ==== Sys2Proof/Machine/TypesMedia.lean ====
section
/-! DEFINITION. Plain data of placement: personality zones, namespaces, landing blocks, stripe rows, bands, journal,
checkpoints and eclipse generations (chapter 2). -/

namespace Sys2Proof

/-- A zone table entry (Table 2.1) with the zone's guard-track count (R41). -/
structure Zone where
  firstTrack : Nat
  trackCount : Nat
  spt : Nat
  code : Nat
  shingled : Bool
  eclipse : Bool
  symbolRate : Nat
  tracksPerBand : Nat
  guard : Nat
  deriving DecidableEq, Repr

/-- A physical sector's position. -/
structure SecPos where
  surface : Nat
  track : Nat
  sector : Nat
  deriving DecidableEq, Repr

/-- Zone states of a ZONED namespace (Table 2.4). -/
inductive ZState where
  | empty | open_ | closed | full
  deriving DecidableEq, Repr

/-- A zone of a ZONED namespace: its state, its write pointer as an offset from the zone's first block, and the order of
its last accepted write (for R37's least recently written). -/
structure ZoneRec where
  state : ZState
  wp : Nat
  lastWrite : Nat
  deriving DecidableEq, Repr

/-- What a namespace index holds (Table 10.15). -/
inductive NsKind where
  | absent | placed | zoned | deleting
  deriving DecidableEq, Repr

/-- A namespace (R36, R385, R386); `key` names its AES-256-XTS key, 0 once erased. -/
structure Namespace where
  kind : NsKind
  capacity : Nat
  key : BitVec 512
  zones : Assoc ZoneRec
  deriving DecidableEq, Repr

/-- Where the newest accepted effect of a mapped block is held (R62); `lost` where a replay could not read its only copy (R543). -/
inductive Place where
  | landing
  | lost
  | media (row member pos : Nat)
  deriving DecidableEq, Repr

/-- The newest accepted effect of a block that is written (R55 covers every block with no record). -/
structure BlockRec where
  val : BlockVal
  pair : Pair
  place : Place
  deriving DecidableEq, Repr

/-- A block version in the landing area, in acceptance order (R54, R59): its two copies stand in stacks `stackA` and
`stackB`; `missing` names the copy lost to a stack failure (R26); `row` the stripe row it has been put into,
`dead` says that a later deallocation or zone reset took the effect away, and `avoid` is the surface on which its write failed. -/
structure LandBlock where
  key : Nat
  val : BlockVal
  pair : Pair
  stackA : Nat
  stackB : Nat
  missing : Bool
  row : Option Nat
  dead : Bool
  avoid : Option Nat
  deriving DecidableEq, Repr

/-- Band states (Table 2.6). -/
inductive BandState where
  | free | open_ | full | reclaim | reserved | retired
  deriving DecidableEq, Repr

/-- A band: state, write position in sectors, failures, band set. -/
structure Band where
  state : BandState
  writePos : Nat
  failures : Nat
  set : Nat
  deriving DecidableEq, Repr

/-- A band set (R46, R50): surfaces in member order, bands in the same order, effective geometry at its opening, rows
counted from 0. -/
structure BandSet where
  surfaces : List Nat
  bands : List Nat
  w : Nat
  p : Nat
  c : Nat
  rows : Nat
  isOpen : Bool
  reclaiming : Bool
  earlier : Bool
  deriving DecidableEq, Repr

/-- One member of a stripe row: its position in the row, the surface and band it lies on, the actuator that writes it, its first
sector, the sectors written so far, whether it is on media, and the positions whose write failed. -/
structure Member where
  pos : Nat
  surface : Nat
  band : Nat
  act : Nat
  track : Nat
  sector : Nat
  parity : Bool
  written : Nat
  onMedia : Bool
  failed : List Nat
  deriving DecidableEq, Repr

/-- A block of a stripe row: its key, the acceptance pair of the version and its value. -/
structure RowBlock where
  key : Nat
  pair : Pair
  val : BlockVal
  deriving DecidableEq, Repr

/-- Media metadata of a physical sector (Table 2.2), but for its CHECK. -/
structure SecMeta where
  kind : Nat
  nsid : Nat
  member : Nat
  width : Nat
  parity : Nat
  lba : Nat
  row : Nat
  pair : Pair
  band : Nat
  gen : Nat
  deriving DecidableEq, Repr

/-- A stripe row (R42-R49, R59). `wide` is the width of its band set, whose positions its members name; `vals` holds its blocks by 64·member + sector position, a member being counted in the list;
`verifying` counts its trailing verifies outstanding; `copies` says that its blocks were placed before; `jrn` is the journal
record made when all members are on media, `recs` the records that move its blocks and `recorded` the blocks they name. -/
structure Row where
  set : Nat
  r : Nat
  w : Nat
  wide : Nat
  p : Nat
  c : Nat
  pair : Pair
  members : List Member
  vals : Assoc RowBlock
  copies : Bool
  jrn : Option Nat
  recs : List Nat
  recorded : List Nat
  verifying : Nat
  complete : Bool
  deriving DecidableEq, Repr

/-- What a journal record changes. -/
inductive JEffect where
  | row (n : Nat) (spots : List (Nat × Nat))
  | dealloc (nsid lba nblk : Nat)
  | zoneReset (nsid zone : Nat)
  | zoneFinish (nsid zone : Nat)
  | nsCreate (nsid capacity : Nat) (zoned : Bool)
  | nsDelete (nsid : Nat)
  deriving DecidableEq, Repr

/-- A journal record: time pair, stored size, two mirrors in two stacks, on media (R65), and where its JOURNAL sectors lie (surface, track,
sector). -/
structure JRec where
  pair : Pair
  size : Nat
  effect : JEffect
  stackA : Nat
  stackB : Nat
  missing : Bool
  onMedia : Bool
  spots : List (Nat × Nat × Nat)
  owner : Option Nat
  deriving DecidableEq, Repr

/-- A sector run that SQP1 has posted (R65-R67): where it lies, the actuator that writes it, the sectors written so far, how many of them
are verified, and whether it has failed, so that another takes its place. -/
structure SysSpot where
  surface : Nat
  track : Nat
  sector : Nat
  act : Nat
  written : Nat
  verified : Nat
  failed : Bool
  deriving DecidableEq, Repr

/-- What the sectors of a posted write hold. -/
inductive SysKind where
  | journal | page | root
  deriving DecidableEq, Repr

/-- A JOURNAL record's copies, a row of MAP_PAGE chunks or the copies of a CKPT_ROOT record: what they hold; the journal record number, the
number of the row among those of pages, or the root slot; the pair of its posting; the sectors of each run; the map pages the row holds; and
the runs. -/
structure SysWork where
  kind : SysKind
  index : Nat
  pair : Pair
  count : Nat
  pages : List Nat
  spots : List SysSpot
  deriving DecidableEq, Repr

/-- What a checkpoint root brings back (R67, R69), and where its copies lie. `cuts` are the ranges of block keys that covered records
deallocated, with the pair of each, for the blocks that an eclipse generation may still bring back (R74). -/
structure Root where
  covered : Pair
  cuts : List (Nat × Nat × Pair)
  blocks : Assoc BlockRec
  spaces : Assoc Namespace
  copies : Nat
  spots : List (Nat × Nat × Nat)
  deriving DecidableEq, Repr

/-- A sector of a save (R534, R535): manifest, ECLIPSE or DELTA, by its index. -/
inductive EclSector where
  | manifest (i : Nat)
  | block (i : Nat)
  | delta (i : Nat)
  deriving DecidableEq, Repr

/-- A sector of a save as it stands on media. -/
structure EclSpot where
  what : EclSector
  surface : Nat
  track : Nat
  sector : Nat
  deriving DecidableEq, Repr

/-- A save of one eclipse generation (R72-R74, R534-R538): the umbra pair, the generation number, the blocks and records fixed at step
1, and the sectors written. -/
structure Generation where
  pair : Pair
  gen : Nat
  blocks : List LandBlock
  deltas : List JRec
  spots : List EclSpot
  deriving DecidableEq, Repr

/-- Placement, landing area, map, journal and checkpoints (chapter 2). `journal` is keyed by a device-wide record
number; `mediaJournal` keeps the records whose JOURNAL sectors stand on media; `roots` the two root slots, `ckptSlot` the one the
next checkpoint writes and `ckpt` the checkpoint in progress; `pagesDue` the changed map pages that no row of it holds yet and `pageRows` the rows
of pages posted; `sys` the writes SQP1 has posted; `reclaim` says that the front reclaims; `rewriting` lists the blocks being read to be placed
in longer extents (R64); `mapLost` keeps, for each stack that failed, the map pages on it that have been loaded again (R26), and `mapBad` other
pages that wait for that;
`generations` the unreleased saves, keyed by the generation area they lie in, 0 or 1 (R72, R536), and `genNo` the generation number of
the newest. -/
structure Plc where
  spaces : Assoc Namespace
  blocks : Assoc BlockRec
  zoneClock : Nat
  landing : List LandBlock
  resvQueue : List Nat
  hold : Bool
  bands : Assoc Band
  sets : Assoc BandSet
  rows : Assoc Row
  nextRow : Nat
  nextJrn : Nat
  journal : Assoc JRec
  mediaJournal : Assoc JRec
  roots : Assoc Root
  ckpt : Option Root
  ckptLast : Nat
  ckptSlot : Nat
  pagesDue : List Nat
  pageRows : Nat
  userCap : Nat
  generations : Assoc Generation
  genNo : Nat
  sys : Assoc SysWork
  nextSys : Nat
  reclaim : Bool
  rewriting : List Nat
  mapLost : Assoc (List Nat)
  mapBad : List Nat
  rebuilt : Bool
  deriving DecidableEq, Repr

end Sys2Proof
end

