-- ==== Sys2Proof/Machine/TypesWire.lean ====
section
/-! DEFINITION. What the device receives as the operand of a command (packets, messages) and what it sends: `Out` is the
plain record of every output the model makes, in order. -/

namespace Sys2Proof

/-- RDMA WRITE opcodes a host may use (Table 8.2); `other` stands for every other RoCEv2 request opcode. -/
inductive WrOp where
  | first | middle | last | only | other
  deriving DecidableEq, Repr

/-- A RoCEv2 request packet from a host (R288, R322, R340). -/
structure WritePkt where
  port : Nat
  qp : Nat
  psn : BitVec 24
  pkey : BitVec 16
  icrcOk : Bool
  ce : Bool
  op : WrOp
  addr : BitVec 64
  rkey : BitVec 32
  dmaLen : Nat
  payload : List Byte
  deriving DecidableEq, Repr

/-- What a host answers to a device request (R304). -/
inductive AckKind where
  | ack | nakSeq | nakAccess | nakOperational | nakInvalid
  deriving DecidableEq, Repr

/-- What a frame arriving on a port carries, as far as R284, R553 and Table 8.2 tell frames apart. -/
inductive Frame where
  | arp (target : Word)
  | neighbour (target : BitVec 128)
  | routerAdvert (router : BitVec 128)
  | echo (target : BitVec 128) (len : Nat)
  | ptpAccepted
  | ptpDropped
  | rocePacket
  | roceUnsupported
  | pfcPause (prio : Nat) (on : Bool)
  | annex31b
  | other
  deriving DecidableEq, Repr

/-- A frame arriving on a port (R283): its length in bytes with the tags and the FCS, its IEEE 802.1Q tags, whether its FCS is right, and
what it carries. -/
structure RxFrame where
  len : Nat
  tags : Nat
  fcsOk : Bool
  body : Frame
  deriving DecidableEq, Repr

/-- Communication-manager messages the device sends (R291). -/
inductive CmOut where
  | rep (sess : Nat) (resumed : Bool) (lwSize : Nat) (token : BitVec 128) (admission : Pair) (heldCount : Nat)
      (tag : BitVec 64)
  | rej (reason : Nat) (status : BitVec 16)
  | mra
  | apr (sess : Nat)
  | drep (sess : Nat)
  | dreq (sess : Nat)
  deriving DecidableEq, Repr

/-- Every output of the device, oldest first in the state. (DESIGN CHOICE, safe: log entry 125.) -/
inductive Out where
  | packet (r : Route) (p : Pkt)
  | cm (port : Nat) (m : CmOut)
  | arpReply (port : Nat)
  | neighbourReply (port : Nat)
  | echoReply (port len : Nat)
  | pfc (port : Nat) (pause : Bool)
  | delayReq (port : Nat)
  | mgmt (bytes : List Byte)
  | mgmtNoAck
  | writer (wd clock : Nat) (symbols : List Bool) (shifts : List (Nat × Int))
  | writerIdle (wd : Nat)
  | linkFrame (link : Nat) (frame : BitVec 64)
  | seqSignal (n : Nat)
  | nmi (record : BitVec 32)
  | jtag (reg : Nat) (len : Nat)
  deriving DecidableEq, Repr

end Sys2Proof
end

