-- ==== Sys2Proof/Machine/TypesPower.lean ====
section
/-! DEFINITION. Plain data of power and eclipse save (chapter 15), of HBM, SRAM and cache (13), of security and boot (18)
and of the pins (19). -/

namespace Sys2Proof

/-- The eclipse block of the personality (Table 15.7). -/
structure EclipseBlock where
  inertia : Nat
  pWind : Nat
  pElec : Nat
  eHoldup : Nat
  ePark : Nat
  tReach : Nat
  margin : Nat
  deriving DecidableEq, Repr

/-- One attempt in the POWER log (Table 15.11): outcome 0 entered, 1 abandoned, 2 refused. -/
structure Attempt where
  pair : Pair
  target : Nat
  outcome : Nat
  part : Nat
  reason : Nat
  durationUs : Nat
  deriving DecidableEq, Repr

/-- An entry or exit in progress: for an entry, the target, when it began, the participant being stopped (1-8) and since when;
for an exit, the participant to restart next, and whether its restart has begun. -/
inductive PointChange where
  | entering (target : Nat) (pair : Pair) (begun next partAt : Nat)
  | exiting (next : Nat) (begun : Bool)
  deriving DecidableEq, Repr

/-- The eclipse save (Table 15.8): the umbra pair of step 1, the generation it writes and the area it writes it to, the blocks and records
fixed at step 1. `streams` are those SQP0 uses (R192), `rings` the ring of each actuator, `steps` how many of its tracks it has taken (R536),
`shares` the sectors each actuator still has to write, each with a surface on which it failed, `posted` those in a stream's work item, and
`spots` those on media. -/
structure Save where
  pair : Pair
  gen : Nat
  blocks : List LandBlock
  deltas : List JRec
  area : Nat
  streams : List Nat
  rings : Assoc Nat
  steps : Assoc Nat
  shares : Assoc (List (EclSector × Option Nat))
  posted : Assoc (List (EclSector × Option Nat))
  spots : List EclSpot
  ended : Bool
  outcome : Nat
  deriving DecidableEq, Repr

/-- LAST_SAVE of the POWER log. -/
structure LastSave where
  gen : Nat
  pair : Pair
  manifest : Nat
  eclipse : Nat
  delta : Nat
  outcome : Nat
  deriving DecidableEq, Repr

/-- The power controller (chapter 15). Levels are in millivolts; `belowAt` holds since when the level has stood below each
stage's threshold (keys 1-4), `aboveAt` since when it has stood at or above it plus HYST; `sampleDue` is when SENSE_12V is sampled
next. `wake` is the wake event that will abandon the entry in progress, as Table 15.11 codes it, 0 for none. `savedSpn` and
`savedHeads` are SPN_CTL and the head selections before the entry, `parked` the actuators it unloaded, and `toLoad` those that
the device loads once the spindle is AT_SPEED. -/
structure Pwr where
  point : Nat
  target : Nat
  stage : Nat
  change : Option PointChange
  lastPart : Nat
  lastReason : Nat
  quietSince : Option Nat
  samples : List Nat
  level : Nat
  minMv : Nat
  belowAt : Assoc Nat
  aboveAt : Assoc Nat
  sampleDue : Nat
  stageChanged : Nat
  dmax : Nat
  tSave : Nat
  umbra : Bool
  save : Option Save
  lastSave : LastSave
  resetPending : Bool
  wake : Nat
  savedSpn : Word
  savedHeads : Assoc Word
  parked : List Nat
  toLoad : List Nat
  pwrgood : Bool
  resetN : Bool
  railEn : Bool
  entered : Nat
  aborted : Nat
  refused : Nat
  attempts : List Attempt
  offValid : Bool
  offBlock : Nat
  offCount : Nat
  warmPending : Bool
  deriving DecidableEq, Repr

/-- One diagnostic half of HBM (R472): 32 data bytes and four check bytes as stored. -/
structure DiagHalf where
  data : BitVec 256
  check : BitVec 32
  deriving DecidableEq, Repr

/-- One diagnostic SRAM byte with its five check bits. -/
structure DiagByte where
  data : Byte
  check : BitVec 5
  deriving DecidableEq, Repr

/-- HBM and its controllers (chapter 13). `cold` is the mask of stacks in use since the cold
power-on; `lapCorr` the granules with a correctable error in this scrub lap (R465), `mapUnits` the size of the extent map region, in units (R453);
`unitMap` lists the units mapped to another stack than R451, R452 and R481 put them (none: the unit is unmapped); `mem` the bytes of the device address space that differ from the fill value 0 (R468); `poisoned` the
granules that decode as uncorrectable. -/
structure Hbm where
  cold : Nat
  failed : Nat
  inUse : Nat
  redundant : Bool
  softPpr : Nat
  retired : Nat
  corr : Assoc Nat
  uncorr : Assoc Nat
  ondie : Assoc Nat
  unitMap : Assoc (Option Nat)
  mem : Assoc Byte
  poisoned : List Nat
  correctable : List Nat
  diag : Assoc DiagHalf
  diagResult : Nat
  lapStart : Nat
  lapS : Nat
  lostStacks : Assoc Nat
  scrubPos : Nat
  sramPos : Nat
  lapLate : Bool
  lapCorr : List Nat
  mapUnits : Nat
  deriving DecidableEq, Repr

/-- What a byte of SRAM is part of: plain memory, the payload of a sector-buffer slot (256·stream + slot), a channel profile or a write
profile (head·64 + zone), with the offset in it. Each stream has 256 slots of 8 KiB after the system cache, and the two profile tables stand
from 8 MiB on in the control partition. (DESIGN CHOICE, unsafe: log entry 136.) -/
inductive SramPart where
  | plain
  | slot (n k : Nat)
  | profile (n k : Nat)
  | wprofile (n k : Nat)
  | diag (k : Nat)
  deriving DecidableEq, Repr

/-- SRAM (chapter 13): `mem` holds the bytes that differ from the fill value 0, but for the channel and write profiles in force, kept by
head·64 + zone in `profiles` and `wprofiles` (R85, R132), and the payloads of the sector-buffer slots, which the channel keeps. -/
structure Srm where
  corr : Nat
  uncorr : Nat
  repairs : Nat
  mem : Assoc Byte
  profiles : Assoc (BitVec 1024)
  wprofiles : Assoc (BitVec 256)
  poisoned : List Nat
  correctable : List Nat
  diag : Assoc DiagByte
  diagResult : Nat
  fabResends : Nat
  fabFails : Nat
  deriving DecidableEq, Repr

/-- A cache line (R474): its 128 bytes, dirty or clean, way, and the corrected-error count of its way is kept apart. -/
structure Line where
  way : Nat
  dirty : Bool
  bytes : BitVec 1024
  deriving DecidableEq, Repr

/-- The system cache (chapter 13); `lines` is keyed by line address (device address ÷ 128). `stores` holds for each requester that allocates
the line that would follow its last full-line write and the full-line write misses in a row (R476). -/
structure Cch where
  draining : Bool
  drainWays : Nat
  waysOff : Nat
  lines : Assoc Line
  side : Assoc (BitVec 1024)
  victims : Assoc (BitVec 1024)
  wayErrs : Assoc (List Nat)
  stores : Assoc (Nat × Nat)
  deriving DecidableEq, Repr

/-- Fuse values (chapter 18, Tables 18.11, 18.12). -/
structure Fuses where
  debugClosed : Bool
  boot : Nat
  firmware : Nat
  personality : Nat
  imageKey : Nat
  makerKey : Nat
  makerId : Nat
  revoked : Nat
  deriving DecidableEq, Repr

/-- A half of the key area that holds a wrapped key table (R619, R620): its generation, the wrapped key of each namespace index that has one,
and its SHA3-512 check. -/
structure KeyTable where
  gen : BitVec 32
  wrapped : Assoc (BitVec 576)
  check : BitVec 512
  deriving DecidableEq, Repr

/-- A package as verified and put in force: KIND, VERSION, SVN, FLOOR, REVOKE, KEY_SVN, KEY_FLOOR, TOTAL and D (R600). -/
structure PkgInfo where
  version : BitVec 64
  svn : Nat
  floor : Nat
  revoke : Nat
  keySvn : Nat
  keyFloor : Nat
  total : Nat
  digest : BitVec 512
  deriving DecidableEq, Repr

/-- What a flash operation of R623 does once it completes. -/
structure FlashOp where
  op : Nat
  addr : Nat
  window : List Byte
  deriving DecidableEq, Repr

/-- Pins and thermal state (chapter 19). -/
structure Pin where
  tempC : Nat
  maxC : Nat
  thermHot : Bool
  straps : Nat
  sdaHeld : Bool
  lastStatus : Nat
  coresOut : Nat
  deriving DecidableEq, Repr

end Sys2Proof
end

