-- ==== Sys2Proof/Machine/TypesPers.lean ====
section
/-! DEFINITION. The personality in force and the security block (chapter 18, and the personality blocks of the other
chapters). -/

namespace Sys2Proof

/-- An actuator entry of the servo block (Table 6.4), in the table's units. -/
structure ActPers where
  vMax : Nat
  aMax : Nat
  jMax : Nat
  vqMax : Nat
  aqMax : Nat
  jqMax : Nat
  kAcc : Nat
  iFs : Nat
  tSeekMax : Nat
  stroke : Nat
  hmaSpan : Nat
  vDead : Nat
  rCoil : Nat
  kBemf : Nat
  loadV : Nat
  unloadV : Nat
  curKp : Nat
  curKi : Nat
  deriving DecidableEq, Repr

/-- A head entry of the servo block (Table 6.5). -/
structure HeadPers where
  pitch : Nat
  weight : Nat
  hmaGain : Nat
  hmaLimit : Nat
  deriving DecidableEq, Repr

/-- The spindle block (Table 7.1), in the table's units. -/
structure SpnPers where
  formatRpm : Nat
  polePairs : Nat
  advance : Nat
  iFs : Nat
  iAlign : Nat
  tAlign : Nat
  olRpm : Nat
  tOl : Nat
  rampUp : Nat
  rampDn : Nat
  tSpinup : Nat
  rectV : Nat
  unloadPct : Nat
  curKp : Nat
  curKi : Nat
  dead : Nat
  deriving DecidableEq, Repr

/-- The personality in force, as its sections give it (Table 18.5). `zones` lists the zone table of each populated
surface; `windows` the words of the coefficient banks and of the friction, coupling, cogging and RRO tables by their
offset in the SCE block (Table 6.7); `profiles` and `wprofiles` the channel and write profiles by head·64 + zone (R85,
R132); `words` the microcode; `vectors` STREAM_ENTRY, the SQP0 and SQP1 entries, ECLIPSE, and the two trap vectors. -/
structure Pers where
  surfaces : Nat
  servoRate : Nat
  lowMark : Nat
  highMark : Nat
  failBand : Nat
  overprov : Nat
  zones : List (List Zone)
  eclipse : EclipseBlock
  nW : Nat
  slewHma : Nat
  slewVcm : Nat
  acts : List ActPers
  heads : List HeadPers
  windows : Assoc Word
  spindle : SpnPers
  profiles : Assoc (BitVec 1024)
  wprofiles : Assoc (BitVec 256)
  words : Assoc (BitVec 128)
  vectors : List Nat
  deriving DecidableEq, Repr

/-- The security block (chapter 18): images in force, fuses, flash contents (bytes that differ from the erased value
0xFF), the flash window and the operation in progress. `keyHalves` is the flash's key area (R620), a half
that is erased not listed; `booted` says that the device runs since its last cold power-on. -/
structure Sec where
  pers : Pers
  fw : PkgInfo
  persPkg : PkgInfo
  bootPkg : PkgInfo
  fuses : Fuses
  bank : Nat
  fallback : Bool
  recovery : Bool
  booted : Bool
  failKind : Nat
  context : Nat
  reason : Nat
  section_ : Nat
  ofs : Nat
  flash : Assoc Byte
  window : List Byte
  flashBusy : Option FlashOp
  flashError : Bool
  keyHalves : Assoc KeyTable
  deriving DecidableEq, Repr

end Sys2Proof
end

