-- ==== Sys2Proof/Config.lean ====
section
/-! DEFINITION. The free values: constants without a body, so that nothing can prove a value of them. Each is a value
that the manual leaves open or takes from a cited standard; the assumption log names every one. -/

namespace Sys2Proof.Config

/-- A fresh value drawn from the device's random generator (R616), by draw number. (DESIGN CHOICE, unsafe: log entry 22.) -/
opaque random : Nat → BitVec 512

/-- A value that the manual leaves open, by the state's counter of such values. -/
opaque openNat : Nat → Nat

/-- SHA3-512 of FIPS 202 (R596), by its standard alone. (DESIGN CHOICE, safe: log entry 19.) -/
opaque sha3 : List Byte → BitVec 512

/-- The stored form of a block's 4,160 bytes under a namespace key and an LBA (R33, R618): XTS-AES-256 of IEEE 1619. -/
opaque xtsEncrypt : BitVec 512 → Nat → BitVec 33280 → BitVec 33280

/-- The inverse transform of the same standard. -/
opaque xtsDecrypt : BitVec 512 → Nat → BitVec 33280 → BitVec 33280

/-- The 256-bit device secret held in fuses (R619): set at manufacture. (DESIGN CHOICE, safe: log entry 177.) -/
opaque deviceSecret : BitVec 256

/-- A 256-bit key-encryption key from a secret: KMAC256 of SP 800-185 (R619); the manual states no customisation string. -/
opaque kmac256 : BitVec 256 → BitVec 256

/-- AES key wrap of SP 800-38F of a 512-bit key under a key-encryption key (R619). -/
opaque keyWrap : BitVec 256 → BitVec 512 → BitVec 576

/-- The inverse transform of the same standard. -/
opaque keyUnwrap : BitVec 256 → BitVec 576 → BitVec 512

/-- The gain of the velocity loop of an actuator, in 2^-16 current-command LSB per reference track/s (R237): the manual gives no figure.
(DESIGN CHOICE, safe: log entry 107.) -/
opaque velGain : Nat → Nat

/-- The device's own estimate, in nanoseconds, of the seek time and the rotational wait of an actuator, standing at a
reference track, to a first sector (R429, R434): the manual gives no figure for it. (DESIGN CHOICE, safe: log entry 23.) -/
opaque accessEstimate : Nat → Nat → Nat → Nat → Nat → Nat

/-- Contents of a byte of a striped HBM region after the stack that held it failed (R481): token of the failure, address. -/
opaque lostByte : Nat → Nat → BitVec 8

/-- The four check bytes of a 32-byte half (R454): the manual names the code's field and not its generator.
(DESIGN CHOICE, safe: log entry 20.) -/
opaque hbmCheck : BitVec 256 → BitVec 32

/-- The five check bits of an SRAM byte (R459): the manual does not state the matrix. -/
opaque srmCheck : BitVec 8 → BitVec 5

/-- Whether a signature verifies under a public key with a context string over a 64-byte digest: ML-DSA-87 of FIPS 204 (R596). -/
opaque mldsaVerify : List Byte → List Byte → BitVec 512 → List Byte → Bool

/-- The public key of a vendor root slot in boot ROM (Table 18.1). -/
opaque rootKey : Nat → List Byte

/-- The 64 KiB page of the extent map, by its place in the map region, that holds what the map has of a block key: the manual gives no
layout. (DESIGN CHOICE, unsafe: log entry 86.) -/
opaque mapPage : Nat → Nat

/-- The frame of 4,160 bytes that a landing copy of an effect takes in the landing space of its stack, by block key and sequence number.
(DESIGN CHOICE, unsafe: log entry 149.) -/
opaque landFrame : Nat → Nat → Nat

/-- The byte of its map page at which what the map has of a block key stands. -/
opaque mapByte : Nat → Nat

/-- The 4,160 bytes of sector i of a write that SQP1 has posted, by the number of the posting: the manual states no format of map pages, root
records and journal records. -/
opaque sysBytes : Nat → Nat → BitVec 33280

/-- The AGC's move of a front end's gain (R93), in units of 2^-14 gain code, from the gain, the step exponent in force, AGC_TARGET and the
peak amplitude of a symbol: the manual gives the step and the target, and no law. (DESIGN CHOICE, safe: log entry 164.) -/
opaque agcMove : Int → Nat → Nat → Nat → Int

/-- The predictors of the noise-predictive detector after a symbol (R100), from those before, the adaptation step exponent, the condition
(the 3 most recent symbols) and the last equaliser errors: the manual gives no law. (DESIGN CHOICE, safe: log entry 165.) -/
opaque predictorStep : List (List Int) → Nat → Nat → List Int → List (List Int)

/-- The amplitude, in units of 2^-29 ADC code, of a target coefficient of 1.0 (Table 3.4): the manual gives no figure.
(DESIGN CHOICE, safe: log entry 166.) -/
opaque targetScale : Nat

/-- The level that the board drives at the SYNC ball at a moment (Table 19.9): no row tells it. (DESIGN CHOICE, safe: log entry 131.) -/
opaque syncInput : Nat → Bool

/-- The fused MAC address of E0; E1's is one more (chapter 8). (DESIGN CHOICE, safe: log entry 21.) -/
opaque mac : BitVec 48

/-- DB_ADDR of a session's doorbell page (Table 8.4): the device chooses it, and the manual gives no figure. -/
opaque dbAddr : Nat → BitVec 64

/-- DB_RKEY of a session's doorbell page. -/
opaque dbRkey : Nat → BitVec 32

/-- LW_ADDR of a session's landing windows. -/
opaque lwAddr : Nat → BitVec 64

/-- LW_RKEY of a session's landing windows. -/
opaque lwRkey : Nat → BitVec 32

/-- SERIAL of the device (R614, Table 18.9): set at manufacture. -/
opaque serial : BitVec 128

/-- The public identity key, 2,592 bytes, derived from the fuse seed (R614). -/
opaque identityKey : BitVec 20736

/-- The signature, 4,627 bytes, of the identity key over a digest with signing randomness: ML-DSA-87 of FIPS 204. -/
opaque identitySign : BitVec 512 → BitVec 512 → BitVec 37016

end Sys2Proof.Config
end

