-- ==== Sys2Proof/Machine/TypesMediaPath.lean ====
section
/-! DEFINITION. Plain data of the media path: read channel (chapter 3), write path and preamplifier links (4), sector
sequencers (5). -/

namespace Sys2Proof

/-- A servo record (Table 3.7) and the moment it was delivered. -/
structure ServoRec where
  head : Nat
  track : Nat
  wedge : Nat
  pes : Int
  qual : Nat
  sam : Bool
  gray : Bool
  parity : Bool
  oneReader : Bool
  samTime : Int
  at_ : Nat
  deriving DecidableEq, Repr

/-- What the servo fields of one wedge show under one head (R107, R108): the decoded fields, and for each reader in use
the amplitudes of bursts A, B, C and D. -/
structure WedgeObs where
  sam : Bool
  track : Nat
  wedge : Nat
  gray : Bool
  parity : Bool
  qual : Nat
  samTime : Int
  bursts : List (Nat × Nat × Nat × Nat)
  expected : Nat
  interval : Nat
  deriving DecidableEq, Repr

/-- How the search for the sector's marks stands (Table 5.3 codes 17-21). -/
inductive MarkState where
  | none | found | missed
  deriving DecidableEq, Repr

/-- What one symbol shows the stream (R93 to R100): the 12 interpolated samples of each reader that stand in the combiner, newest
first, in ADC codes; the peak amplitude of each reader in ADC codes; the timing error in units of 2^-16 symbol; the detector's
tentative decision. (DESIGN CHOICE, safe: log entry 8.) -/
structure SymObs where
  x0 : List Int
  x1 : List Int
  peak0 : Nat
  peak1 : Nat
  timing : Int
  bit : Bool
  deriving DecidableEq, Repr

/-- What the media path shows a waiting sequencer (R91-R94, R173): the best match of a mark (symbols after, or about, the expected
place, and mismatches) or none, with the symbols seen since the last observation, and for the sync mark the down-track offset at which the
neighbour's record is found (R98); the sector's last symbol, with the symbols up to it; or nothing. -/
inductive MediaObs where
  | nothing
  | syncMark (at_ : Option (Nat × Nat)) (neighbour : Option Int) (syms : List SymObs)
  | resyncMark (at_ : Option (Int × Nat)) (syms : List SymObs)
  | sectorDone (syms : List SymObs)
  deriving DecidableEq, Repr

/-- What the stream decoder leaves when it stops (R103): the word it holds, descrambled; the detector's value of each symbol
(R100); global iterations used. -/
structure DecodeObs where
  word : BitVec 41216
  values : List Int
  iter : Nat
  deriving DecidableEq, Repr

/-- The adaptive state of a stream (R83, R91-R100). `gain0` and `gain1` are the gain codes of the two front ends in units of 2^-14
code; `tracking` says that the AGC uses its tracking step; `start` is the oscillator's start ratio, `ratio` its present one and `phase` its
phase, in units of 2^-32; `comb0`, `comb1`, `nac` and `pred` are the taps of combiner, canceller and predictors in units of 2^-29;
`adapting` says that the combiner adapts, `held` that a wedge gap holds everything; `symbols` counts the codeword symbols of the sector,
`bits` and `errs` the last tentative decisions and equaliser errors, newest first; `ideal` and `error` are the energies of the SNR estimate; `nbr` is the neighbour's
offset where the canceller runs. -/
structure Adapt where
  gain0 : Int
  gain1 : Int
  tracking : Bool
  start : Int
  ratio : Int
  phase : Int
  comb0 : List Int
  comb1 : List Int
  nac : List Int
  pred : List (List Int)
  adapting : Bool
  held : Bool
  symbols : Nat
  bits : List Bool
  errs : List Int
  ideal : Nat
  error : Nat
  nbr : Option Int
  deriving DecidableEq, Repr

/-- A neighbour record (R97): the track it is of, the head that read it, and for each sector read the soft value of every codeword
symbol in the scrambled domain. -/
structure NbrRec where
  surface : Nat
  head : Nat
  track : Nat
  sectors : Assoc (List Int)
  deriving DecidableEq, Repr

/-- A sector whose gate has opened for reading and whose decode has not stopped: slot, place, and the work item's KIND, FLAGS
and TAG; `missed` is 3 or 4 once its sync or resync mark has been missed; `endAt` is when its last symbol passed, `snr` its estimate,
`nac` whether the canceller ran, `one` whether one reader read it. -/
structure Reading where
  slot : Nat
  surface : Nat
  track : Nat
  sector : Nat
  kind : Nat
  flags : Nat
  tag : Nat
  missed : Nat
  endAt : Option Nat
  snr : Nat
  nac : Bool
  one : Bool
  deriving DecidableEq, Repr

/-- A sector as it was written: its place, the value of WRP_TV_CFG at the begin of its write (R160) and when it ended (R157). -/
structure Wrote where
  track : Nat
  sector : Nat
  cfg : Word
  endAt : Nat
  deriving DecidableEq, Repr

/-- One stream of the read channel and write path. `pending` is the head selection waiting for the next sector boundary
(R80); `headReady` the moment its outputs are valid; `zone` the zone whose profiles are loaded; `writeClock` f_w in units
of 1 Hz, `writePhase` its phase in symbols after the last servo record (R135); `noMark` the consecutive servo records without a mark;
`lastAt` the surface, track and sector that `last` is of; `adapt` the receiver's adaptive state,
`nbrs` the neighbour records, the track being read first (R97); `word` the scrambled codeword of the sector being written,
`sent` how many of its bits have been, `gateSyms` the symbols written since the write gate opened, and `wrote` the sectors written of items not yet retired. -/
structure Stream where
  head : Nat
  readers : Nat
  pendingHead : Option Word
  headReady : Nat
  zone : Nat
  profile : BitVec 1024
  wprofile : BitVec 256
  readGate : Bool
  writeGate : Bool
  inSector : Bool
  inFragment : Bool
  fragEnds : Nat
  fragStart : Nat
  sync : MarkState
  resync : MarkState
  sectorDone : Bool
  slotPort : Nat
  record : Option ServoRec
  fresh : Option ServoRec
  nbrs : List NbrRec
  adapt : Adapt
  word : BitVec 41216
  sent : Nat
  gateSyms : List Bool
  decoding : List Reading
  lastMark : Option Nat
  writeClock : Nat
  writePhase : Int
  locked : Bool
  noMark : Nat
  last : Word
  lastAt : Nat × Nat × Nat
  sticky : Nat
  cur : Option (Nat × Nat)
  failedSectors : List (Nat × Nat)
  sinceGood : List (Nat × Nat)
  wrote : List Wrote
  deriving DecidableEq, Repr

/-- What a sector-buffer slot holds (R103, R487, Table 5.3 code 22). -/
inductive SlotState where
  | free | source | waiting | decoded | failed
  deriving DecidableEq, Repr

/-- A soft-retain record (Table 3.9), but for its TIME pair's layout: `track` and `sector` with `band` give its place, `mark` the row,
member and position that it lies in, `values` the channel values, kept saturated at ±31 (R111). -/
structure SoftRec where
  pair : Pair
  stream : Nat
  head : Nat
  code : Nat
  reads : Nat
  band : Nat
  track : Nat
  sector : Nat
  step : Nat
  nac : Bool
  oneReader : Bool
  missed : Bool
  miscorrect : Bool
  unsat : Nat
  snr : Nat
  values : List Int
  spot : Option (Nat × Nat × Nat)
  deriving DecidableEq, Repr

/-- A failing sector's ladder (Table 3.8, R109-R118): the sector; the value of CHN_ESC_CFG when it started (R123); the last
step reached (0, 1, 2, 3 for step R); re-reads made; the slot of its soft-retain record, if it has one; the member reads issued, those
gathered with what they gave, and those refused (by member number); the row, member and position of the sector, if it lies in a row.
`deep` says that a deep decode is queued or running. -/
structure Ladder where
  surface : Nat
  track : Nat
  sector : Nat
  head : Nat
  stream : Nat
  code : Nat
  pair : Pair
  cfg : Word
  step : Nat
  reads : Nat
  slot : Option Nat
  rereadDue : Bool
  rebuild : Bool
  issued : List Nat
  gathered : List (Nat × BitVec 33792)
  refused : List Nat
  row : Option (Nat × Nat × Nat)
  deep : Bool
  deriving DecidableEq, Repr

/-- A deep decode (R105): its ladder, the member whose rebuild read it serves if any, whether it is a first-pass decode, and when it
began. -/
structure DeepJob where
  ladder : Nat
  member : Option Nat
  first : Bool
  begun : Nat
  deriving DecidableEq, Repr

/-- The read channel (chapter 3). `counters` is keyed (head·64 + zone)·16 + k; `deepBusy` lists the deep
decodes running, at most four; `slotData` the payload that a sector buffer's slot holds, in the clear; `soft` the soft-retain records by
slot (R120), some of which outlive their ladder (R113); `recovered` the blocks to be placed again, each with the
surface on which its write failed (R53, R78, R115); `statData` the last
snapshot. -/
structure Chn where
  streams : Assoc Stream
  afFailed : List Nat
  counters : Assoc Nat
  statData : List Word
  slots : Assoc SlotState
  slotData : Assoc (BitVec 33792)
  ladders : Assoc Ladder
  nextLadder : Nat
  deepQueue : List DeepJob
  deepBusy : List DeepJob
  soft : Assoc SoftRec
  recovered : Assoc (Option Nat)
  deriving DecidableEq, Repr

/-- A head as the preamplifier link keeps it: heater code and the kind acknowledged (0 read, 1 write, 2 idle, 3 zero) with
the moment of the acknowledgement, the same of arming, contact and when it was last reported, and STATUS
acknowledgements in a row that reported its writer open or short; `hmaFaultAt` is when an HMA slot last faulted that served it (R245). -/
structure LinkHead where
  heater : Nat
  heaterKind : Nat
  heaterAck : Option Nat
  armed : Bool
  armAck : Option Nat
  contact : Bool
  contactClean : Nat
  openCount : Nat
  out : Bool
  hmaFaultAt : Option Nat
  deriving DecidableEq, Repr

/-- A frame waiting for its acknowledgement, or for its turn (Table 4.5): command, head, sequence number, data, sends. -/
structure LinkFrame where
  cmd : Nat
  head : Nat
  seq : Nat
  data : Nat
  tries : Nat
  sentAt : Nat
  deriving DecidableEq, Repr

/-- A preamplifier link (chapter 4): `flight` are the frames sent and not yet acknowledged, oldest first. -/
structure Link where
  up : Bool
  resends : Nat
  upCrc : Nat
  nextSeq : Nat
  queue : List LinkFrame
  flight : List LinkFrame
  restoring : Bool
  resetDue : Nat
  wfltUntil : Nat
  wfltRaised : Bool
  deriving DecidableEq, Repr

/-- A touchdown sweep (R153): `readings` are the contact-sensor readings of the present step with the moment of each, `stepAt` when the
step began. -/
structure Sweep where
  busy : Bool
  head : Nat
  code : Nat
  result : Nat
  tdCode : Nat
  stepAt : Nat
  readings : List (Nat × Nat)
  baseline : Option Nat
  overAt : Option Nat
  deriving DecidableEq, Repr

/-- A run of sectors written and awaiting its trailing verify (R156-R159): its row and member, or its posted write and run, or the
sectors of the save that it holds (R73, `row` then names the actuator that reads it), the value
of WRP_TV_CFG when its write began (R160), the end of its window, whether it has been read, and the offsets of the sectors whose
verify read did not pass (R159). -/
structure VerifyItem where
  surface : Nat
  track : Nat
  sector : Nat
  count : Nat
  row : Option (Nat × Nat)
  sys : Option (Nat × Nat)
  ecl : List EclSector
  cfg : Word
  deadline : Nat
  read : Bool
  bad : List Nat
  deriving DecidableEq, Repr

/-- The write path and the links (chapter 4). -/
structure Wrp where
  links : Assoc Link
  heads : Assoc LinkHead
  sweep : Sweep
  verifies : Assoc VerifyItem
  nextVerify : Nat
  supplyStop : Bool
  deriving DecidableEq, Repr

/-- A work item (Table 5.6). -/
structure WorkItem where
  kind : Nat
  head : Nat
  flags : Nat
  track : Nat
  first : Nat
  count : Nat
  slot : Nat
  tag : Nat
  deriving DecidableEq, Repr

/-- What a sequencer's commit snapshot holds (R186). -/
structure Snapshot where
  pc : Nat
  vars : List Word
  zero : Bool
  neg : Bool
  carry : Bool
  stack : List Nat
  item : Nat
  framed : Nat
  deriving DecidableEq, Repr

/-- Where a sequencer stands in the order of R171: before its word's position or operation, in the wait of step 6, or about
to form the next address. (DESIGN CHOICE, safe: log entry 127.) -/
inductive WordStage where
  | fetch | wait | flow
  deriving DecidableEq, Repr

/-- Sequencer states (Table 5.13); a privileged sequencer with a trap record in use shows IN_TRAP. -/
inductive SeqState where
  | idle | running | waiting | failed | stopped
  deriving DecidableEq, Repr

/-- A trap save record (Table 5.9), as its words hold it: `links` are LINK0 to LINK3. -/
structure TrapRec where
  pc : Nat
  zero : Bool
  neg : Bool
  carry : Bool
  inWait : Bool
  timeout : Bool
  late : Bool
  depth : Nat
  links : List Nat
  cause : Nat
  pair : Pair
  vars : List Word
  deriving DecidableEq, Repr

/-- A sequencer (chapter 5). `itemNo` counts the work items retired, so that the current one has that index; `framed` counts
the sectors started since it became current; `posAt` is when POS had the value `pos` (R170); `inherit_` lists the work of failed sequencers,
one entry taken at each of the next commits (R163); `other` is the role of the failed privileged sequencer, or its own, that waits while
it runs the other one, and whether it is the eclipse save's (R164). -/
structure Seq where
  state : SeqState
  stage : WordStage
  pc : Nat
  stream : Nat
  vars : List Word
  zero : Bool
  neg : Bool
  carry : Bool
  stack : List Nat
  pos : Nat
  posAt : Nat
  late : Bool
  timeout : Bool
  newWedge : Bool
  idx : Bool
  cause : Nat
  snap : Option Snapshot
  fromSnap : Nat
  restarts : Nat
  items : List WorkItem
  itemNo : Nat
  framed : Nat
  waitSince : Nat
  refHead : Nat
  trap : Option TrapRec
  pendingCause : Nat
  inherit_ : List (Snapshot × List WorkItem)
  other : Option (TrapRec × Bool)
  deriving DecidableEq, Repr

/-- A work item retired: the result of Table 5.7, the places of its sectors that failed while it was written (R140), and its sectors as they
were written. -/
structure WorkDone where
  item : WorkItem
  stream : Nat
  count : Nat
  result : Nat
  failed : List (Nat × Nat)
  wrote : List Wrote
  deriving DecidableEq, Repr

/-- The sequencers and the control store (chapter 5): `done` lists retired work items their poster has not yet seen; `bad` lists word quarters whose parity bit is inverted, `spares` the
addresses mapped to spare words, once for each spare, `dead` those that found none left (R168), `reloads` when an address was last
reloaded. -/
structure Seqs where
  seqs : Assoc Seq
  words : Assoc (BitVec 128)
  bad : List (Nat × Nat)
  spares : List Nat
  dead : List Nat
  reloads : Assoc Nat
  mchkValid : Bool
  mchkSeq : Nat
  mchkAddr : Nat
  csData : List Word
  stopReq : Bool
  done : List WorkDone
  deriving DecidableEq, Repr

end Sys2Proof
end

