-- ==== Sys2Proof/Machine/TypesServo.lean ====
section
/-! DEFINITION. Plain data of the servo engine (chapter 6), of the spindle and transit lock (chapter 7) and of the DMA
engine (chapter 14). -/

namespace Sys2Proof

/-- Actuator states (Table 6.8). -/
inductive ActState where
  | unloaded | loading | seeking | settling | following | unloading | retract | outOfUse
  deriving DecidableEq, Repr

/-- A planned trajectory (R227, R228): start and end in 2^-42 reference track, when it began, its phases (signed jerk in
reference tracks/s³, duration in ps), and t_plan in ps. -/
structure Trajectory where
  start : Int
  target : Int
  begun : Nat
  phases : List (Int × Nat)
  tPlan : Nat
  deriving DecidableEq, Repr

/-- One actuator. `xRef` is x_ref of the last valid sample in 2^-42 reference track; `commands` the last 16 current
commands, newest first, in LSB; `began` is when its last sample began (R202); `headsOn` whether its heads lie on the media; `seekTo` the target
of its last GO; `velocity` v_b in reference tracks/s, and `slowSince` the moment from which it has stayed below 5 % of UNLOAD_V on the way to the
ramp (R237, R239). -/
structure Act where
  state : ActState
  lastFault : Nat
  xRef : Int
  xKnown : Bool
  direction : Nat
  traj : Option Trajectory
  goTime : Nat
  timeouts : Nat
  stateSince : Nat
  settleRun : Nat
  handover : Int
  tPlan : Nat
  aPeak : Nat
  lastVcmIn : Int
  lostRun : Nat
  sampleAt : Option Nat
  began : Option Nat
  commands : List Int
  command : Int
  current : Int
  integ : Int
  duty : Int
  diffRun : Nat
  stageOn : Bool
  headsOn : Bool
  faultAt : Option Nat
  reloadDue : Option Nat
  retireAfter : Bool
  seekTo : Int
  velocity : Int
  slowSince : Option Nat
  deriving DecidableEq, Repr

/-- One stream's head as the servo engine tracks it: set-point and last position in 1/4,096 track, last HMA command,
on-track and its runs. -/
structure HeadLoop where
  setPoint : Int
  pos : Int
  seen : Bool
  command : Int
  onTrack : Bool
  regain : Nat
  lostRun : Nat
  lastIn : Int
  deriving DecidableEq, Repr

/-- One loop slot (R206-R212): active bank, swap request, states (Q17.30), sticky saturations, spare serving it, last
inputs (newest first), clamped samples in a row, last output. -/
structure Slot where
  bank : Bool
  swap : Bool
  swapBy : Agent
  run : Bool
  outSat : Bool
  stateSat : Bool
  phys : Nat
  states : List (Int × Int)
  inputs : List Int
  satRun : Nat
  out : Int
  deriving DecidableEq, Repr

/-- The servo compute engine. `heads` is keyed by stream. -/
structure Sce where
  acts : Assoc Act
  slots : Assoc Slot
  heads : Assoc HeadLoop
  deriving DecidableEq, Repr

/-- Spindle states (Table 7.2). -/
inductive SpnState where
  | stopped | listen | sense | align | openLoop | ramp | atSpeed | coast | brake | fault
  deriving DecidableEq, Repr

/-- Transit lock states (Table 7.3). -/
inductive TlState where
  | off | wait | acquire | locked | holdover
  deriving DecidableEq, Repr

/-- The spindle and transit lock. Speeds are in 1/16 rpm; `crossings` the times of the last zero crossings in ns, newest
first; `target` the target speed in force where a lowering is held (R260). `gates` is the mask of the gate outputs that are on, SPN_UH,
SPN_UL, SPN_VH, SPN_VL, SPN_WH, SPN_WL from bit 0, and `gateFree` the earliest moment, by its number, at which each may turn on (R248). -/
structure Spn where
  state : SpnState
  since : Nat
  enabledAt : Nat
  attempts : Nat
  retryDue : Option Nat
  thenSense : Bool
  rotor : Nat
  lastFault : Nat
  anchored : Bool
  speed : Nat
  setPoint : Nat
  setAt : Nat
  goodRevs : Nat
  badRevs : Nat
  target : Nat
  crossings : List Nat
  command : Int
  integ : Int
  duty : Int
  overRun : Nat
  diffRun : Nat
  slotFaultAt : Option Nat
  faultPending : Bool
  tlState : TlState
  tlCfg : Word
  tlOfs : Word
  lockLoss : Bool
  syncBad : Nat
  phErr : Int
  phRun : Nat
  lossRun : Nat
  corr : Int
  syncEdge : Option Nat
  gates : Nat
  gateFree : List Nat
  deriving DecidableEq, Repr

/-- DMA channel states (Table 14.12). -/
inductive DmaState where
  | idle | armed | running | waiting | stopped | error | timeout
  deriving DecidableEq, Repr

/-- A DMA channel (chapter 14). `cursors` and `loops` are keyed by instruction index; `counts` by event source
(kind·256 + index); `watch` lists the sources of WAITs executed, `waitOn` the one waited for now and `waitEnd` that WAIT's END; `progress` the moment of the last beat or completed instruction. -/
structure DmaCh where
  state : DmaState
  cause : Nat
  overrun : Bool
  pc : Nat
  badCnt : Nat
  lastKind : Nat
  eaddr : Nat
  cursors : Assoc Nat
  loops : Assoc Nat
  counts : Assoc Nat
  watch : List Nat
  waitOn : Option Nat
  waitEnd : Bool
  progress : Nat
  deriving DecidableEq, Repr

/-- The arbiter of the fabric (R502, R503): the normal and the high-priority channel granted last, whether each of the last 15 blocks went
to a normal channel, newest first, and the blocks granted to channels whose MOVE has not completed. -/
structure Arb where
  norm : Nat
  high : Nat
  window : List Bool
  ahead : Assoc Nat
  deriving DecidableEq, Repr

/-- The DMA engine: channels, when each timer emits its next event, the events that have occurred and not yet been
counted, oldest first (kind·256 + index: 0 timer, 1 channel, 2 sequencer signal), and the arbiter. -/
structure Dma where
  chans : Assoc DmaCh
  timers : Assoc Nat
  events : List Nat
  arb : Arb
  deriving DecidableEq, Repr

end Sys2Proof
end

