-- ==== Sys2Proof/Machine/TypesOrb.lean ====
section
/-! DEFINITION. Plain data of the Orbit scheduler (chapter 12), and the row plans of the placement front. -/

namespace Sys2Proof

/-- Kinds of piece (Table 12.1). -/
inductive PieceKind where
  | host | ladder | placement | reclaim | journal | verify
  deriving DecidableEq, Repr

/-- A piece waiting in, or served by, an actuator's turns (R429-R434). `owner` is the command tag, ladder, row, band set or
journal record it belongs to; `items` the indices within the owner; `surfaces` the surfaces it works on; `track` and
`sector` where it begins. -/
structure Piece where
  kind : PieceKind
  owner : Nat
  items : List Nat
  act : Nat
  surfaces : List Nat
  track : Nat
  sector : Nat
  cls : Nat
  count : Nat
  ages : List Nat
  dueAt : Option Nat
  pair : Pair
  head : Option Nat
  deriving DecidableEq, Repr

/-- An actuator as Orbit sees it: the number of its present turn, the pieces served in it (the lead first), the last target
track, long normal seeks begun (when), and the counters of ORB_STAT_a. -/
structure Turn where
  number : Nat
  busy : Bool
  served : Assoc Piece
  target : Nat
  longSeeks : List Nat
  overaged : Nat
  quiet : Nat
  deriving DecidableEq, Repr

/-- The Orbit scheduler (chapter 12). -/
structure Orb where
  pieces : Assoc Piece
  nextPiece : Nat
  turns : Assoc Turn
  deriving DecidableEq, Repr

/-- A member of a row as the placement front lays it out: its position and the actuator that writes it. -/
structure MemberPlan where
  pos : Nat
  act : Nat
  deriving DecidableEq, Repr

/-- A row the placement front forms (R42-R49): of landing data, or of blocks placed before (`copies`); in the band set, with its
surfaces and band indexes in member order where the set is opened for it; and its members in position order.
(DESIGN CHOICE, safe: log entry 9.) -/
structure RowPlan where
  copies : Bool
  set : Nat
  surfaces : List Nat
  bands : List Nat
  members : List MemberPlan
  deriving DecidableEq, Repr

/-- A write that SQP1 posts (R65-R67): what it holds, the journal record number, and for each run its surface, track, first sector and
actuator. -/
structure SysPlan where
  kind : SysKind
  index : Nat
  spots : List (Nat × Nat × Nat × Nat)
  deriving DecidableEq, Repr

end Sys2Proof
end

