-- ==== Sys2Proof/Machine/TypesReg.lean ====
section
/-! DEFINITION. The set-up registers of Table 20.5, by the manual's names. -/

namespace Sys2Proof

/-- A set-up register (Table 20.5). An index is the manual's subscript. -/
inductive Reg where
  | eqtSessCfg | eqtFetchCfg | eqtPushCfg | eqtXferErr | eqtAdminMaskLo | eqtAdminMaskHi
  | ethCfg (p : Nat) | ethStat (p : Nat) | ethDrop (p : Nat) | ethIpv4 (p : Nat) | ethIpCtl (p : Nat)
  | ethIpv4Gw (p : Nat) | ethIpv6 (p k : Nat) | ethPkey (k : Nat)
  | evcMaskLo (n : Nat) | evcMaskHi (n : Nat) | evcStat (n : Nat) | evcRaise
  | chnEscCfg | chnStatSel | chnStatData (k : Nat) | chnAfSel (n : Nat) | chnStHead (s : Nat) | chnStLast (s : Nat)
  | wrpTvCfg | wrpInh (s : Nat) | plkCtl (n : Nat) | plkTdCtl
  | seqVec (n : Nat) | seqMchk | seqCsDiag | seqCsData (k : Nat) | seqStat (q : Nat)
  | sceOtCfg | sceMonCfg | sceSlot (n : Nat) | sceTgt (s : Nat) | sceActCmd (a : Nat) | sceActStat (a : Nat)
  | sceActPlan (a : Nat) | sceWindow (ofs : Nat)
  | spnCtl | spnStat | spnTlCfg | spnTlOfs | spnTlStat
  | plcStripeCfg | plcLandingStatus | plcCkptCfg
  | orbCfg | orbQos (q : Nat) | orbSeekCfg | orbStat (a : Nat)
  | hbmStat | hbmErr (k : Nat) | hbmScrubCfg | hbmScrubStat | hbmDiag | hbmDiagVal
  | srmStat | srmDiag | srmFabStat | cchCtl | cchErrCfg | cchStat
  | dmaArb | dmaTm (n : Nat) | dmaChProgLo (c : Nat) | dmaChProgHi (c : Nat) | dmaChCfg (c : Nat) | dmaChCtl (c : Nat)
  | dmaChStat (c : Nat) | dmaChErr (c : Nat) | dmaChEaddrLo (c : Nat) | dmaChEaddrHi (c : Nat)
  | pwrCfg | pwrStat | pwrSagCfg | pwrSagTim | pwrSense | pwrAccessOff
  | timCfg | timStat | timNowLo | timNowHi | timSetLo | timSetHi | timFleet | timHbCfg | timConjTagLo | timConjTagHi
  | timConjStat
  | fltCfg | fltStat | fltNext | fltRd | fltLost | fltSrc (n : Nat) | fltCnt (n : Nat)
  | talCfg | talCtl | talStat | talNext | talOldest | talGen | talNextSlot | talList (l i : Nat)
  | secVerifyStat | secVerifyOfs | secFuse0 | secFuse1 | secFlashCtl | secFlashAddr | secFlashWindow (k : Nat)
  | pinThermCfg | pinThermStat | pinStat | pinSetupErr | pinSetupAddr
  deriving DecidableEq, Repr

end Sys2Proof
end

