-- ==== Sys2Proof/Syntax.lean ====
section
/-! DEFINITION. The commands of the block: one constructor for each row of spec/opcode_table.json, in the table's order.
An operand is what the arrival of the command brings with it: an index, a register word, a packet, an observation of the analog side,
a choice that the manual leaves to the device. -/

namespace Sys2Proof

/-- A command of the IM4144 block. -/
inductive Instr where
  /-- SETUP_REGISTER_WRITE (R647): a write of a set-up register by its address (R647). -/
  | setupRegisterWrite (ag : Agent) (addr : Nat) (v : Word)
  /-- PLC_STRIPE_CFG_WRITE (R41): a write of PLC_STRIPE_CFG (R41, R50). -/
  | plcStripeCfgWrite (ag : Agent) (v : Word)
  /-- BAND_SET_FREE (R53): band set n returns to FREE (R53). -/
  | bandSetFree (n : Nat)
  /-- RESERVATION_GRANT (R56): the first waiting reservation is granted (R56). -/
  | reservationGrant
  /-- WRITE_ACCEPT (R54): the WRITE or COPY of tag t is accepted (R54). -/
  | writeAccept (t : Nat)
  /-- LANDING_RECOPY_DONE (R26): a copy into a third stack completes (R26, R58, R374). -/
  | landingRecopyDone (kind : Nat) (n : Nat) (stack : Nat)
  /-- ROW_COMPLETE (R59): stripe row n is complete (R59). -/
  | rowComplete (n : Nat)
  /-- JOURNAL_ON_MEDIA (R65): journal record n is on media (R65). -/
  | journalOnMedia (n : Nat)
  /-- CHECKPOINT_BEGIN (R66): a checkpoint begins (R66). -/
  | checkpointBegin
  /-- CHECKPOINT_IN_FORCE (R67): a checkpoint comes into force (R67). -/
  | checkpointInForce
  /-- MAP_REBUILD (R69): the map is rebuilt and generations replayed (R69, R74). -/
  | mapRebuild (badRoots : List Nat) (bad : List (Nat × Nat × Nat))
  /-- CHN_ST_HEAD_WRITE (R81): a write of CHN_ST_HEAD_s (R80, R81). -/
  | chnStHeadWrite (ag : Agent) (st : Nat) (v : Word)
  /-- HEAD_SWITCH (R80): the held head selection takes effect (R80, R86). -/
  | headSwitch (st : Nat)
  /-- CHN_AF_SEL_WRITE (R84): a write of CHN_AF_SEL_n (R84). -/
  | chnAfSelWrite (ag : Agent) (n : Nat) (v : Word)
  /-- FRONT_END_FAIL (R82): a front end is taken out of use (R82). -/
  | frontEndFail (n : Nat)
  /-- SERVO_WEDGE (R107): a servo wedge passes under the head of a stream (R107). -/
  | servoWedge (st : Nat) (o : WedgeObs)
  /-- DECODE_STOP (R103): the stream decoder stops a sector (R103). -/
  | decodeStop (st : Nat) (o : DecodeObs)
  /-- DEEP_DECODE_DONE (R105): a deep decode ends (R105). -/
  | deepDecodeDone (k : Nat) (word : BitVec 41216)
  /-- REREAD_DONE (R111): a re-read of ladder i ends (R111). -/
  | rereadDone (ix : Nat) (missed : Bool) (values : List Int)
  /-- REBUILD_DONE (R112): the rebuild of ladder i ends (R112). -/
  | rebuildDone (ix : Nat)
  /-- CHN_STAT_SNAP (R124): SNAP without CLEAR (R124). -/
  | chnStatSnap (ag : Agent) (v : Word)
  /-- CHN_STAT_SNAP_CLEAR (R124): SNAP with CLEAR (R124). -/
  | chnStatSnapClear (ag : Agent) (v : Word)
  /-- LINK_ACK (R145): an acknowledgement frame arrives on link a (R145). -/
  | linkAck (a : Nat) (w : BitVec 64) (parts : List Nat)
  /-- PREAMP_FAULT (R149): an unsolicited FAULT frame arrives on link a (R149). -/
  | preampFault (a : Nat) (w : BitVec 64) (parts : List Nat)
  /-- LINK_ACK_TIMEOUT (R146): no acknowledgement within 1.6 µs (R146). -/
  | linkAckTimeout (a : Nat)
  /-- LINK_RESET_RETRY (R147): LINK_RESET is sent again (R147). -/
  | linkResetRetry (a : Nat)
  /-- CONTACT_RESTORE (R152): a revolution without contact restores the heater (R152). -/
  | contactRestore (h : Nat)
  /-- PLK_CLR (R142): PLK_CTL_n.CLR (R142). -/
  | plkClr (ag : Agent) (n : Nat) (v : Word)
  /-- TOUCHDOWN_START (R153): START of a touchdown sweep (R153, R154). -/
  | touchdownStart (ag : Agent) (v : Word)
  /-- TOUCHDOWN_STEP (R153): a step of the touchdown sweep ends (R153). -/
  | touchdownStep
  /-- WFLT_ASSERT (R155): a low pulse on write-fault input a (R155). -/
  | wfltAssert (a : Nat) (ns : Nat)
  /-- VERIFY_DONE (R159): a trailing verify read completes (R159). -/
  | verifyDone (id : Nat)
  /-- VERIFY_WINDOW_EXPIRE (R159): a run is not verified within TV_WINDOW (R159). -/
  | verifyWindowExpire (id : Nat)
  /-- NOP (R171): sequencer q executes a word with operation NOP at a position (R171). -/
  | nop (q : Nat) (pos : Nat)
  /-- LDI (R171): sequencer q executes a word with operation LDI at a position (R171). -/
  | ldi (q : Nat) (pos : Nat)
  /-- LDIH (R171): sequencer q executes a word with operation LDIH at a position (R171). -/
  | ldih (q : Nat) (pos : Nat)
  /-- ADD (R171): sequencer q executes a word with operation ADD at a position (R171). -/
  | add (q : Nat) (pos : Nat)
  /-- ADDV (R171): sequencer q executes a word with operation ADDV at a position (R171). -/
  | addv (q : Nat) (pos : Nat)
  /-- AND (R171): sequencer q executes a word with operation AND at a position (R171). -/
  | and (q : Nat) (pos : Nat)
  /-- CMP (R171): sequencer q executes a word with operation CMP at a position (R171). -/
  | cmp (q : Nat) (pos : Nat)
  /-- CMPV (R171): sequencer q executes a word with operation CMPV at a position (R171). -/
  | cmpv (q : Nat) (pos : Nat)
  /-- LDP (R171): sequencer q executes a word with operation LDP at a position (R171). -/
  | ldp (q : Nat) (pos : Nat)
  /-- STP (R171): sequencer q executes a word with operation STP at a position (R171). -/
  | stp (q : Nat) (pos : Nat)
  /-- BRANCH (R175): sequencer q forms its next address (R175). -/
  | branch (q : Nat)
  /-- CALL (R176): sequencer q calls (R176). -/
  | call (q : Nat)
  /-- RET (R176): sequencer q returns (R176). -/
  | ret (q : Nat)
  /-- RETT (R194): a privileged sequencer returns from its trap (R194). -/
  | rett (q : Nat)
  /-- ACT_AT_POSITION (R172): a word acts at its symbol position (R172). -/
  | actAtPosition (q : Nat) (pos : Nat)
  /-- WAIT_END (R173): a wait ends at its condition (R173). -/
  | waitEnd (q : Nat) (o : MediaObs)
  /-- WAIT_TIMEOUT (R173): a wait ends at its TMO (R173). -/
  | waitTimeout (q : Nat)
  /-- SEQ_INTERRUPT (R187): a stream sequencer restarts (R187). -/
  | seqInterrupt (q : Nat)
  /-- PRIV_TRAP (R193): a privileged sequencer traps (R193). -/
  | privTrap (q : Nat)
  /-- CONTROL_STORE_RELOAD (R167): a control-store word is reloaded (R167, R168). -/
  | controlStoreReload (q : Nat) (flip : Bool)
  /-- LOCKSTEP_FAIL (R162): the copies of sequencer q disagree (R162, R163). -/
  | lockstepFail (q : Nat)
  /-- SEQ_CS_READ (R165): SEQ_CS_DIAG.READ (R165). -/
  | seqCsRead (ag : Agent) (v : Word)
  /-- SEQ_CS_INJECT (R167): SEQ_CS_DIAG.INJECT (R167). -/
  | seqCsInject (ag : Agent) (v : Word)
  /-- SERVO_SAMPLE (R203): a sample of actuator a (R203). -/
  | servoSample (a : Nat) (late : Bool)
  /-- SWAP_REQUEST (R210): SCE_SLOT_n.SWAP (R210). -/
  | swapRequest (ag : Agent) (n : Nat) (v : Word)
  /-- SCE_WINDOW_WRITE (R225): a write of a bank or table of the SCE block (R209, R225). -/
  | sceWindowWrite (ag : Agent) (ofs : Nat) (v : Word)
  /-- SCE_TGT_WRITE (R218): a write of SCE_TGT_s (R218). -/
  | sceTgtWrite (ag : Agent) (st : Nat) (v : Word)
  /-- GO (R227): GO (R227). -/
  | go (ag : Agent) (a : Nat) (v : Word)
  /-- LOAD (R238): LOAD (R238). -/
  | load (ag : Agent) (a : Nat) (v : Word)
  /-- UNLOAD (R239): UNLOAD (R239). -/
  | unload (ag : Agent) (a : Nat) (v : Word)
  /-- SEEK_END (R228): a trajectory reaches its target (R228). -/
  | seekEnd (a : Nat)
  /-- SEEK_TIMEOUT (R231): a seek has not reached FOLLOWING within T_SEEK_MAX (R231). -/
  | seekTimeout (a : Nat)
  /-- LOAD_FAIL (R238): a load has not reached SETTLING within 150 ms (R238). -/
  | loadFail (a : Nat)
  /-- UNLOAD_DONE (R239): an actuator is UNLOADED (R239). -/
  | unloadDone (a : Nat)
  /-- UNLOAD_FAIL (R244): an unload has not ended within 200 ms (R244). -/
  | unloadFail (a : Nat)
  /-- FAULT_RELOAD (R243): one second after a fault retract (R243). -/
  | faultReload (a : Nat)
  /-- CURRENT_LOOP_PERIOD (R236): a PWM period of the VCM current loop (R236). -/
  | currentLoopPeriod (a : Nat) (isense : Int) (vcoil : Int)
  /-- SLOT_MEM (R246): an uncorrectable slot memory error (R246). -/
  | slotMem (n : Nat)
  /-- SPINDLE_ENABLE (R252): SPN_CTL with ENABLE (R252). -/
  | spindleEnable (ag : Agent) (v : Word)
  /-- SPINDLE_DISABLE (R259): SPN_CTL without ENABLE (R259). -/
  | spindleDisable (ag : Agent) (v : Word)
  /-- TARGET_RPM_WRITE (R260): a write of TARGET_RPM (R255, R260). -/
  | targetRpmWrite (ag : Agent) (v : Word)
  /-- LISTEN_END (R252): LISTEN ends with the back-EMF seen (R252). -/
  | listenEnd (speed : Option Nat)
  /-- SENSE_END (R253): inductive sensing gives the rotor sector (R253). -/
  | senseEnd (sector : Nat)
  /-- ALIGN_END (R253): ALIGN ends (R253). -/
  | alignEnd
  /-- OPEN_LOOP_END (R254): OPEN_LOOP ends (R254). -/
  | openLoopEnd
  /-- START_RETRY (R254): one second after START_FAIL (R254). -/
  | startRetry
  /-- SPINUP_TIMEOUT (R256): AT_SPEED not reached within T_SPINUP (R256). -/
  | spinupTimeout
  /-- BRAKE_END (R259): 500 ms without a zero crossing (R259). -/
  | brakeEnd
  /-- ZERO_CROSSING (R262): a back-EMF zero crossing (R262). -/
  | zeroCrossing (late : Bool)
  /-- SPINDLE_CURRENT_PERIOD (R249): a PWM period of the spindle current loop (R249). -/
  | spindleCurrentPeriod (isense : Int)
  /-- SPINDLE_INDEX (R267): the spindle index passes (R267). -/
  | spindleIndex (late : Bool)
  /-- SYNC_EDGE (R641): a rising edge on SYNC (R641). -/
  | syncEdge
  /-- TL_HOLDOVER (R273): no accepted SYNC edge for 4 × SYNC_DIV revolutions (R273). -/
  | tlHoldover
  /-- ETH_FRAME_RECEIVE (R283): a frame arrives on a port (R283). -/
  | ethFrameReceive (p : Nat) (f : RxFrame) (level : Nat)
  /-- ROCE_WRITE_RECEIVE (R288): a host RDMA WRITE packet arrives (R288). -/
  | roceWriteReceive (k : WritePkt) (bad : Nat)
  /-- SQ_DB (R324): a write of SQ_DB (R324). -/
  | sqDb (ix : Nat) (w : DWord)
  /-- CQ_DB (R402): a write of CQ_DB (R402). -/
  | cqDb (ix : Nat) (w : DWord)
  /-- EV_DB (R423): a write of EV_DB (R423). -/
  | evDb (ix : Nat) (w : DWord)
  /-- PUSH_DATA_WRITE (R340): push data is written into a landing window (R340). -/
  | pushDataWrite (ix : Nat) (ofs : Nat) (bytes : List Byte) (bad : Nat)
  /-- RDMA_READ_RESPONSE (R333): the data of a device RDMA READ arrives (R333). -/
  | rdmaReadResponse (ix : Nat) (bytes : List Byte) (bad : Nat)
  /-- ROCE_ACK_RECEIVE (R304): an ACK or NAK from the host (R304). -/
  | roceAckReceive (ix : Nat) (k : AckKind) (psn : BitVec 24)
  /-- RNR_NAK_RECEIVE (R405): an RNR NAK from the host (R405). -/
  | rnrNakReceive (ix : Nat)
  /-- REQUEST_RETRY_TIMEOUT (R304): a device request is not acknowledged in time (R304). -/
  | requestRetryTimeout (ix : Nat)
  /-- CNP_RECEIVE (R287): a CNP arrives (R287). -/
  | cnpReceive (ix : Nat)
  /-- RATE_INCREASE (R287): 55 µs without a CNP (R287). -/
  | rateIncrease (ix : Nat)
  /-- HOST_ACK_TIMER (R290): host requests are acknowledged (R290). -/
  | hostAckTimer (ix : Nat)
  /-- REQ (R659): a CM REQ arrives (R659). -/
  | req (port : Nat) (m : ReqMsg)
  /-- RTU (R296): an RTU arrives (R296). -/
  | rtu (ix : Nat)
  /-- DREQ (R302): a DREQ arrives (R302). -/
  | dreq (ix : Nat) (release : Bool)
  /-- DREP (R291): a DREP answers a device DREQ (R291). -/
  | drep (ix : Nat)
  /-- LAP (R310): a LAP arrives (R310). -/
  | lap (ix : Nat) (p : PathReq)
  /-- REJ (R291): a REJ arrives (R291). -/
  | rej (ix : Nat)
  /-- ADMIT_TIMEOUT (R296): no RTU within 1 s (R296). -/
  | admitTimeout (ix : Nat)
  /-- LINEAGE_RELEASE (R300): LINEAGE_HOLD has passed (R300). -/
  | lineageRelease (l : Nat)
  /-- LINK_LOSS (R312): alignment has been lost for 10 µs (R312). -/
  | linkLoss (p : Nat)
  /-- PATH_TIMEOUT (R309): device requests unanswered for PATH_TMO (R309). -/
  | pathTimeout (ix : Nat)
  /-- LINK_UP (R311): a port completes training (R311). -/
  | linkUp (p : Nat) (partner : Nat) (fec74 : Bool)
  /-- ETH_CFG_WRITE (R312): a write of ETH_CFG_p (R312). -/
  | ethCfgWrite (ag : Agent) (p : Nat) (v : Word)
  /-- FETCH_ISSUE (R327): a batch of submission entries is fetched (R327). -/
  | fetchIssue
  /-- GRANT_ISSUE (R337): a transfer-ready grant is issued (R337). -/
  | grantIssue (t : Nat)
  /-- PUSH_TIMEOUT (R342): a grant is not written within PUSH_TMO (R342). -/
  | pushTimeout (t : Nat)
  /-- QUARANTINE_END (R342): a quarantine ends (R342). -/
  | quarantineEnd (ix : Nat)
  /-- READ (R368): the command of tag t: READ (R350, R368). -/
  | read (t : Nat)
  /-- WRITE (R352): the command of tag t: WRITE (R352). -/
  | write (t : Nat)
  /-- DEALLOCATE (R353): the command of tag t: DEALLOCATE (R353). -/
  | deallocate (t : Nat)
  /-- FLUSH (R355): the command of tag t: FLUSH (R355). -/
  | flush (t : Nat)
  /-- COPY (R357): the command of tag t: COPY (R357, R358). -/
  | copy (t : Nat)
  /-- GATHER (R360): the command of tag t: GATHER (R359, R360). -/
  | gather (t : Nat)
  /-- VERIFY (R354): the command of tag t: VERIFY (R354). -/
  | verify (t : Nat)
  /-- ZONE_CLOSE (R361): the command of tag t: ZONE_ACTION CLOSE (R361). -/
  | zoneClose (t : Nat)
  /-- ZONE_FINISH (R361): the command of tag t: ZONE_ACTION FINISH (R361). -/
  | zoneFinish (t : Nat)
  /-- ZONE_RESET (R361): the command of tag t: ZONE_ACTION RESET (R361). -/
  | zoneReset (t : Nat)
  /-- ZONE_REPORT (R362): the command of tag t: ZONE_REPORT (R362). -/
  | zoneReport (t : Nat)
  /-- NS_CREATE (R385): the command of tag t: NS_CREATE (R385). -/
  | nsCreate (t : Nat)
  /-- NS_DELETE (R386): the command of tag t: NS_DELETE (R386). -/
  | nsDelete (t : Nat)
  /-- NS_DELETE_DONE (R386): the command of tag t: NS_DELETE completes (R386). -/
  | nsDeleteDone (t : Nat)
  /-- IMAGE_DOWNLOAD (R387): the command of tag t: IMAGE_DOWNLOAD (R387). -/
  | imageDownload (t : Nat)
  /-- IMAGE_ACTIVATE (R388): the command of tag t: IMAGE_ACTIVATE (R388). -/
  | imageActivate (t : Nat)
  /-- ACTIVATION_SEQUENCE (R389): the next step of an activation (R389, R604). -/
  | activationSequence (flashOk : Bool)
  /-- LATENCY_TOLERANCE (R512): the command of tag t: LATENCY_TOLERANCE (R512). -/
  | latencyTolerance (t : Nat)
  /-- GET_LOG (R393): the command of tag t: GET_LOG (R393). -/
  | getLog (t : Nat)
  /-- ATTEST (R615): the command of tag t: ATTEST (R615). -/
  | attest (t : Nat)
  /-- QUEUE_RESET (R378): the command of tag t: QUEUE_RESET (R378). -/
  | queueReset (t : Nat)
  /-- QUEUE_RESET_DONE (R379): the command of tag t: QUEUE_RESET completes (R379). -/
  | queueResetDone (t : Nat)
  /-- REG_ACCESS_READ (R394): the command of tag t: REG_ACCESS with WRITE 0 (R394). -/
  | regAccessRead (t : Nat)
  /-- REG_ACCESS_WRITE (R394): the command of tag t: REG_ACCESS with WRITE 1 (R394). -/
  | regAccessWrite (t : Nat)
  /-- CLAIM_EVENT (R413): the command of tag t: CLAIM_EVENT (R413). -/
  | claimEvent (t : Nat)
  /-- COMPLETE_EVENT (R417): the command of tag t: COMPLETE_EVENT (R417). -/
  | completeEvent (t : Nat)
  /-- COMMAND_COMPLETE (R397): the command of tag t: its completion is written or held (R397). -/
  | commandComplete (t : Nat)
  /-- READ_DATA_DELIVERED (R351): the command of tag t: its data is delivered (R351). -/
  | readDataDelivered (t : Nat)
  /-- FLUSH_DONE (R355): the command of tag t: a FLUSH completes (R355). -/
  | flushDone (t : Nat)
  /-- MOD_TIMER_EXPIRE (R406): MOD_TIME has passed (R406). -/
  | modTimerExpire (ix : Nat)
  /-- EVC_MASK_WRITE (R419): a write of a target mask (R419). -/
  | evcMaskWrite (ag : Agent) (n : Nat) (hi : Bool) (v : Word)
  /-- EVC_RAISE (R664): a write of EVC_RAISE (R664). -/
  | evcRaise (ag : Agent) (v : Word)
  /-- HEARTBEAT (R562): a whole TAI second due for heartbeats (R562). -/
  | heartbeat
  /-- TURN_END (R434): a turn of actuator a ends and the next begins (R424, R434). -/
  | turnEnd (a : Nat) (rows : List RowPlan) (posts : List SysPlan)
  /-- SCRUB_READ (R461): the scrubber reads its next granule or byte (R461). -/
  | scrubRead (sram : Bool) (err : Nat)
  /-- SCRUB_LATE (R462): a scrub lap exceeds LAP_LIMIT (R462). -/
  | scrubLate
  /-- ROW_REPAIR (R465): a failing HBM row is repaired (R465). -/
  | rowRepair (adr : Nat) (grans : List Nat) (spare : Bool)
  /-- STACK_FAIL (R480): an HBM stack fails (R480). -/
  | stackFail (k : Nat)
  /-- CACHE_DRAIN (R479): a write of CCH_CTL (R479). -/
  | cacheDrain (ag : Agent) (v : Word)
  /-- DRAIN_DONE (R479): a drain of the cache ends (R479). -/
  | drainDone
  /-- HBM_DIAG_WRITE (R472): HBM_DIAG.WRITE (R472). -/
  | hbmDiagWrite (ag : Agent) (v : Word)
  /-- HBM_DIAG_READ (R472): HBM_DIAG.READ (R472). -/
  | hbmDiagRead (ag : Agent) (v : Word)
  /-- SRM_DIAG_WRITE (R472): SRM_DIAG.WRITE (R472). -/
  | srmDiagWrite (ag : Agent) (v : Word)
  /-- SRM_DIAG_READ (R472): SRM_DIAG.READ (R472). -/
  | srmDiagRead (ag : Agent) (v : Word)
  /-- WARM_RESET (R469): a warm chip reset (R469). -/
  | warmReset
  /-- MOVE_INDEX (R487): channel c performs an index-mode MOVE (R487). -/
  | moveIndex (c : Nat) (fab : Option (Nat × Nat))
  /-- MOVE_TWO_DIMENSIONAL (R488): channel c performs a two-dimensional MOVE (R488). -/
  | moveTwoDimensional (c : Nat) (fab : Option (Nat × Nat))
  /-- LOOP (R490): channel c executes LOOP (R490). -/
  | loop (c : Nat)
  /-- WAIT (R491): channel c executes WAIT on a timer, channel or signal (R491). -/
  | wait (c : Nat)
  /-- WAIT_SLOT (R492): channel c executes WAIT on a slot (R492). -/
  | waitSlot (c : Nat)
  /-- SIGNAL (R493): channel c executes SIGNAL KIND 0 (R493). -/
  | signal (c : Nat)
  /-- FLAG_WRITE (R493): channel c executes SIGNAL KIND 1 (R493). -/
  | flagWrite (c : Nat)
  /-- DMA_EVENT (R491): the oldest event is counted (R491, R494). -/
  | dmaEvent
  /-- TIMER_EVENT (R495): timer n emits an event (R495). -/
  | timerEvent (n : Nat)
  /-- START (R494): DMA_CH_CTL_c.START (R494). -/
  | start (ag : Agent) (c : Nat) (v : Word)
  /-- STOP (R505): DMA_CH_CTL_c.STOP (R505). -/
  | stop (ag : Agent) (c : Nat) (v : Word)
  /-- CLR (R499): DMA_CH_CTL_c.CLR (R499). -/
  | clr (ag : Agent) (c : Nat) (v : Word)
  /-- DMA_WATCHDOG (R504): the watchdog of channel c runs out (R504). -/
  | dmaWatchdog (c : Nat)
  /-- POWER_ENTRY_BEGIN (R513): an armed entry begins (R513). -/
  | powerEntryBegin
  /-- PARTICIPANT_READY (R515): an entry participant answers (R515). -/
  | participantReady (repairing : Bool)
  /-- WAKE_EXIT (R519): the participants restart (R519). -/
  | wakeExit
  /-- WAKE_ASSERT (R634): WAKE is asserted (R514, R634). -/
  | wakeAssert
  /-- SUPPLY_SAMPLE (R525): SENSE_12V is sampled (R525). -/
  | supplySample (mv : Nat)
  /-- STAGE_ENTER (R526): a stage is entered (R526). -/
  | stageEnter
  /-- STAGE_LEAVE (R527): a stage is left (R527). -/
  | stageLeave
  /-- PWRGOOD_FALL (R528): PWRGOOD falls (R528). -/
  | pwrgoodFall
  /-- ECLIPSE_SAVE_END (R538): the eclipse save ends (R538). -/
  | eclipseSaveEnd
  /-- RESET_N_FALL (R637): RESET_N stays low for 1 µs (R637). -/
  | resetNFall
  /-- COLD_BOOT (R606): the device boots (R606). -/
  | coldBoot (trained : Nat) (checkFailed : Nat) (checker : Nat)
  /-- FLASH_READ (R623): SEC_FLASH_CTL.GO with OP 0 (R623). -/
  | flashRead (ag : Agent) (v : Word)
  /-- FLASH_PROGRAM (R623): SEC_FLASH_CTL.GO with OP 1 (R623). -/
  | flashProgram (ag : Agent) (v : Word)
  /-- FLASH_ERASE (R623): SEC_FLASH_CTL.GO with OP 2 (R623). -/
  | flashErase (ag : Agent) (v : Word)
  /-- FLASH_OP_DONE (R605): a flash operation completes (R605). -/
  | flashOpDone (ok : Bool)
  /-- PTP_SYNC (R556): a Sync and its origin time (R556). -/
  | ptpSync (port : Nat) (identity : BitVec 64) (origin : Nat)
  /-- PTP_ANNOUNCE (R554): an Announce message (R554). -/
  | ptpAnnounce (m : Master)
  /-- DELAY_REQ_SEND (R554): a Delay_Req is due (R554). -/
  | delayReqSend
  /-- DELAY_RESP (R556): a Delay_Resp arrives (R556). -/
  | delayResp (port : Nat) (identity : BitVec 64) (received : Nat)
  /-- PTP_HOLDOVER (R557): the PTP reference is lost (R557). -/
  | ptpHoldover (announce : Bool)
  /-- PPS_HOLDOVER (R558): 2 s without an accepted SYNC edge (R558). -/
  | ppsHoldover
  /-- PPS_OUTPUT_SECOND (R559): a whole TAI second on the PPS output (R559). -/
  | ppsOutputSecond
  /-- TIM_SET_WRITE (R549): a write of TIM_SET, with the lower half held (R549, R4). -/
  | timSetWrite (ag : Agent) (v : Word)
  /-- CONJUNCTION_COMPUTE (R565): a computation of the digest finishes (R565). -/
  | conjunctionCompute
  /-- FAULT_REPORT (R568): a fault report reaches the collector (R568). -/
  | faultReport (rep : Option Report)
  /-- FAULT_RECORD_WRITE (R576): a buffered report becomes a record (R576). -/
  | faultRecordWrite
  /-- FAULT_FORCE (R573): FLT_SRC_n.FORCE (R573). -/
  | faultForce (ag : Agent) (n : Nat) (v : Word)
  /-- FLT_RD_WRITE (R575): a write of FLT_RD (R575). -/
  | fltRdWrite (ag : Agent) (v : Word)
  /-- FAULT_RECOVERY (R581): a source leaves FAULTED (R581). -/
  | faultRecovery (n : Nat)
  /-- TRIG (R586): TAL_CTL.TRIG (R586). -/
  | trig (ag : Agent) (v : Word)
  /-- REARM (R592): TAL_CTL.REARM (R592). -/
  | rearm (ag : Agent) (v : Word)
  /-- TAIL_PERIOD (R586): PERIOD_MS has passed (R586). -/
  | tailPeriod
  /-- TAIL_CAPTURE (R589): a capture goes on (R589). -/
  | tailCapture
  /-- TAL_LIST_WRITE (R590): a write of a capture list entry (R590). -/
  | talListWrite (ag : Agent) (l : Nat) (ix : Nat) (v : Word)
  /-- TAL_CFG_WRITE (R592): a write of TAL_CFG (R592). -/
  | talCfgWrite (ag : Agent) (v : Word)
  /-- READ_MGMT (R649): a management-port READ (R649). -/
  | readMgmt (addr : Nat) (pecOk : Bool)
  /-- LAST_STATUS (R649): a management-port LAST_STATUS (R649). -/
  | lastStatus
  /-- MGMT_SCL_TIMEOUT (R642): SCL has been low for 35 ms (R642). -/
  | mgmtSclTimeout
  /-- ETH_IP_CTL_WRITE (R655): a write of ETH_IP_CTL_p (R655). -/
  | ethIpCtlWrite (ag : Agent) (p : Nat) (v : Word)
  /-- ETH_ADDRESS_WRITE (R655): a write of ETH_IPV4_p, ETH_IPV4_GW_p or ETH_IPV6_p_k (R655). -/
  | ethAddressWrite (ag : Agent) (p : Nat) (k : Nat) (v : Word)
  /-- SHARED_RESOURCE_WRITE (R640): a write of a register of Table 19.6 (R640). -/
  | sharedResourceWrite (ag : Agent) (reg : Reg) (v : Word)
  /-- PWRGOOD_RISE (R539): PWRGOOD rises (R539, R642). -/
  | pwrgoodRise (straps : Nat) (railsLost : Bool)
  /-- POWER_UP (R634): VDD_AON comes within tolerance (R634). -/
  | powerUp
  /-- DIE_TEMPERATURE_CHANGE (R644): the die temperature changes (R644). -/
  | dieTemperatureChange (temp : Int)
  /-- CORE_LOCKSTEP_FAIL (R28): a control core fails its lockstep check (R28). -/
  | coreLockstepFail (c : Nat)
  /-- SLEW_END (R546): an offset has been removed by slewing (R546). -/
  | slewEnd
  /-- JTAG_INSTRUCTION (R613): a JTAG instruction (R613). -/
  | jtagInstruction (ir : Nat)
  deriving DecidableEq, Repr

end Sys2Proof
end

