-- ==== Sys2Proof/Machine/State.lean ====
section
/-! DEFINITION. The state of the block, its faults and refusals, and the state right after reset. -/

namespace Sys2Proof.Machine

/-- Everything the manual gives the machine. -/
structure State where
  now : Nat
  free : Nat
  regs : Assoc Word
  latches : List Latch
  setupErr : SetupErr
  tim : Tim
  flt : Flt
  tal : Tal
  evc : Assoc EvSource
  eqt : Eqt
  plc : Plc
  orb : Orb
  sce : Sce
  spn : Spn
  chn : Chn
  wrp : Wrp
  seq : Seqs
  dma : Dma
  pwr : Pwr
  hbm : Hbm
  srm : Srm
  cch : Cch
  sec : Sec
  pin : Pin
  out : List Out
  pending : List Instr
  deriving DecidableEq, Repr

/-- Faults: the block has none. What the manual calls a fault is a report to its collector, and the machine goes on. -/
inductive Fault where
  deriving DecidableEq, Repr

/-- Refusals. `notModelled`: raised by the dispatch for a command without a meaning; safe. `illFormed`: raised by the row guard for a
command whose operands lie outside the ranges of its row (a stream above 15, an agent that does not exist, a register row without
the bit that makes it that row); safe, since no such command can be sent. -/
inductive Refusal where
  | notModelled (mnemonic : String)
  | illFormed
  deriving DecidableEq, Repr

/-! ## The machine right after reset -/

/-- A time pair of zero. -/
def zeroPair : Pair := { time := 0, seq := 0 }

/-- A spindle block of zeros. -/
def noSpindle : SpnPers :=
  { formatRpm := 0, polePairs := 0, advance := 0, iFs := 0, iAlign := 0, tAlign := 0, olRpm := 0, tOl := 0, rampUp := 0, rampDn := 0,
    tSpinup := 0, rectV := 0, unloadPct := 0, curKp := 0, curKi := 0, dead := 0 }

/-- No personality: nothing has been installed. -/
def noPers : Pers :=
  { surfaces := 0, servoRate := 0, lowMark := 0, highMark := 0, failBand := 0, overprov := 0, zones := [],
    eclipse := { inertia := 0, pWind := 0, pElec := 0, eHoldup := 0, ePark := 0, tReach := 0, margin := 0 },
    nW := 0, slewHma := 0, slewVcm := 0, acts := [], heads := [], windows := [], spindle := noSpindle, profiles := [],
    wprofiles := [], words := [], vectors := [] }

/-- No package: nothing has been put into force. -/
def noPkg : PkgInfo := { version := 0, svn := 0, floor := 0, revoke := 0, keySvn := 0, keyFloor := 0, total := 0, digest := 0 }

/-- The fuses of a device of stepping B1: DEBUG_CLOSED blown (R612); the other fuses are unblown (DESIGN CHOICE, log entry 12).
(DESIGN CHOICE, unsafe: log entry 12.) -/
def blankFuses : Fuses :=
  { debugClosed := true, boot := 0, firmware := 0, personality := 0, imageKey := 0, makerKey := 0, makerId := 0, revoked := 0 }

/-- Time at cold power-on: the count at 0 in UNSET, the sequence counter at 0 (R549). -/
def timReset : Tim :=
  { state := .unset, tick := 0, corr := 0, trim := 0, seq := 0, lastOff := 0, inLock := 0, outLock := 0, holdSince := 0, slavePort := 0,
    masters := [], master := none, lastSync := 0, pathDelay := none, delayReq := none, delaySent := 0, syncStamps := none, trims := [],
    ppsNext := none, ppsLast := none, ppsHigh := none, ppsSec := 0, hbSec := 0, digest := 0, serial := [], tagPair := zeroPair,
    gen := 0, busy := false }

/-- The collector after a cold power-on (R585). -/
def fltReset : Flt :=
  { inbox := [], buffer := [], slots := [], next := 1, rd := 1, overwritten := 0, lostTotal := 0, bufMax := 0, sources := [],
    errnLost := [], lastWarm := none, nmi := [] }

/-- The Tail recorder after a cold power-on (R585). -/
def talReset : Tal :=
  { queue := [], ring := [], next := 1, oldest := 1, nextSlot := 0, gens := 0, full := false, capturing := none, lostRecs := 0,
    missed := 0, periodDue := none }

/-- The host transport: every port down, every session FREE, no lineage (R301, R372). -/
def eqtReset : Eqt :=
  { ports := [], held := [], sessions := [], lineages := [], nextLineage := 0, cmds := [], rrNext := 0, dbBad := 0, sglBad := 0, pushBad := 0,
    mraQueue := [], staged := [], activation := none, acceptCmds := false, firstAccepted := false }

/-- Placement on media that holds nothing, with nothing accepted. -/
def plcReset : Plc :=
  { spaces := [], blocks := [], zoneClock := 0, landing := [], resvQueue := [], hold := false, bands := [], sets := [], rows := [],
    nextRow := 0, nextJrn := 0, journal := [], mediaJournal := [], roots := [], ckpt := none, ckptLast := 0, ckptSlot := 0, pagesDue := [], pageRows := 0,
    userCap := 0, generations := [], genNo := 0, sys := [], nextSys := 0, reclaim := false, rewriting := [], mapLost := [],
    mapBad := [], rebuilt := false }

/-- The spindle STOPPED with its gates off, transit lock as SPN_TL_CFG resets it (Table 7.6). -/
def spnReset : Spn :=
  { state := .stopped, since := 0, enabledAt := 0, attempts := 0, retryDue := none, thenSense := false, rotor := 0, lastFault := 0,
    anchored := false, speed := 0, setPoint := 0, setAt := 0, goodRevs := 0, badRevs := 0, target := 0, crossings := [],
    command := 0, integ := 0, duty := 0, overRun := 0, diffRun := 0, slotFaultAt := none, faultPending := false,
    tlState := .off, tlCfg := 0x147800B6, tlOfs := 0, lockLoss := false, syncBad := 0, phErr := 0, phRun := 0, lossRun := 0, corr := 0,
    syncEdge := none, gates := 0, gateFree := [] }

/-- The read channel with no head selected. -/
def chnReset : Chn :=
  { streams := [], afFailed := [], counters := [], statData := List.replicate 16 0, slots := [], slotData := [], ladders := [], nextLadder := 0,
    deepQueue := [], deepBusy := [], soft := [], recovered := [] }

/-- The write path with every link unacknowledged and every heater at 0. -/
def wrpReset : Wrp :=
  { links := [], heads := [],
    sweep := { busy := false, head := 0, code := 0, result := 0, tdCode := 0, stepAt := 0, readings := [], baseline := none, overAt := none },
    verifies := [], nextVerify := 0, supplyStop := false }

/-- The arbiter of the fabric before its first grant. -/
def arbReset : Arb := { norm := 31, high := 31, window := [], ahead := [] }

/-- The sequencers with an empty control store. -/
def seqReset : Seqs :=
  { seqs := [], words := [], bad := [], spares := [], dead := [], reloads := [], mchkValid := false, mchkSeq := 0, mchkAddr := 0,
    csData := List.replicate 4 0, stopReq := false, done := [] }

/-- The power controller in Run with no supply sampled (Tables 15.13 to 15.17); nothing is at work, so the quiet conditions of R513 have
held since the beginning. -/
def pwrReset : Pwr :=
  { point := 0, target := 0xFF, stage := 0, change := none, lastPart := 0, lastReason := 0, quietSince := some 0, samples := [],
    level := 0, minMv := 0xFFFF, belowAt := [], aboveAt := [], sampleDue := 0, stageChanged := 0, dmax := 0, tSave := 0,
    umbra := false, save := none,
    lastSave := { gen := 0, pair := zeroPair, manifest := 0, eclipse := 0, delta := 0, outcome := 0 }, resetPending := false,
    wake := 0, savedSpn := 0, savedHeads := [], parked := [], toLoad := [], pwrgood := false, resetN := true, railEn := false,
    entered := 0, aborted := 0, refused := 0, attempts := [], offValid := false, offBlock := 0, offCount := 0, warmPending := false }

/-- HBM before its training (Table 13.6). -/
def hbmReset : Hbm :=
  { cold := 0, failed := 0, inUse := 0, redundant := false, softPpr := 0, retired := 0, corr := [], uncorr := [], ondie := [],
    unitMap := [], mem := [], poisoned := [], correctable := [], diag := [], diagResult := 0, lapStart := 0, lapS := 0,
    lostStacks := [], scrubPos := 0, sramPos := 0, lapLate := false, lapCorr := [], mapUnits := 0 }

/-- SRAM before its fill. -/
def srmReset : Srm :=
  { corr := 0, uncorr := 0, repairs := 0, mem := [], profiles := [], wprofiles := [], poisoned := [], correctable := [], diag := [], diagResult := 0, fabResends := 0,
    fabFails := 0 }

/-- An empty system cache. -/
def cchReset : Cch :=
  { draining := false, drainWays := 0, waysOff := 0, lines := [], side := [], victims := [], wayErrs := [], stores := [] }

/-- The security block with an erased flash and nothing in force (Tables 18.10, 18.13). (DESIGN CHOICE, unsafe: log entry 14.) -/
def secReset : Sec :=
  { pers := noPers, fw := noPkg, persPkg := noPkg, bootPkg := noPkg, fuses := blankFuses, bank := 0, fallback := false,
    recovery := false, booted := false, failKind := 0, context := 0, reason := 0, section_ := 0, ofs := 0, flash := [],
    window := List.replicate 256 0, flashBusy := none, flashError := false, keyHalves := [] }

/-- Pins and temperature before any sample. (DESIGN CHOICE, unsafe: log entry 13; DESIGN CHOICE, unsafe: log entry 18.) -/
def pinReset : Pin :=
  { tempC := 0, maxC := 0, thermHot := false, straps := 0, sdaHeld := false, lastStatus := 0, coresOut := 0 }

/-- The device at a cold power-on before step 1 of Table 18.8: every register at its reset value, RAIL_EN and PWRGOOD low, nothing
booted, no command waiting. (DESIGN CHOICE, unsafe: log entry 11.) -/
def State.reset : State :=
  { now := 0, free := 0, regs := [], latches := [],
    setupErr := { valid := false, path := 0, cause := 0, session := 0, count := 0, addr := 0 },
    tim := timReset, flt := fltReset, tal := talReset, evc := [], eqt := eqtReset, plc := plcReset,
    orb := { pieces := [], nextPiece := 0, turns := [] }, sce := { acts := [], slots := [], heads := [] }, spn := spnReset,
    chn := chnReset, wrp := wrpReset, seq := seqReset, dma := { chans := [], timers := [], events := [], arb := arbReset }, pwr := pwrReset,
    hbm := hbmReset, srm := srmReset, cch := cchReset, sec := secReset, pin := pinReset, out := [], pending := [] }

end Sys2Proof.Machine
end

