-- ==== Sys2Proof/Machine/Ops.lean ====
section
/-! DEFINITION. Operations that every block shares: sparse maps, bit fields, byte order, the clock, time stamps, outputs,
free values and raising a fault report. -/

namespace Sys2Proof.Machine

/-! ## Sparse maps -/

/-- The value listed for a key, if any. -/
def aget {α : Type} : Assoc α → Nat → Option α
  | [], _ => none
  | (j, v) :: rest, k => if j = k then some v else aget rest k

/-- The value listed for a key, or the default. -/
def agetD {α : Type} (m : Assoc α) (k : Nat) (d : α) : α := (aget m k).getD d

/-- Lists a value for a key, keeping the keys in rising order. -/
def aput {α : Type} : Assoc α → Nat → α → Assoc α
  | [], k, v => [(k, v)]
  | (j, w) :: rest, k, v =>
    if k < j then (k, v) :: (j, w) :: rest
    else if k = j then (k, v) :: rest
    else (j, w) :: aput rest k v

/-- Takes a key off the list. -/
def adel {α : Type} : Assoc α → Nat → Assoc α
  | [], _ => []
  | (j, w) :: rest, k => if j = k then adel rest k else (j, w) :: adel rest k

/-- Changes the value listed for a key, where one is listed. -/
def amod {α : Type} (m : Assoc α) (k : Nat) (f : α → α) : Assoc α :=
  match aget m k with
  | none => m
  | some v => aput m k (f v)

/-- Changes the value of a key whose default is `d`. -/
def aupd {α : Type} (m : Assoc α) (k : Nat) (d : α) (f : α → α) : Assoc α := aput m k (f (agetD m k d))

/-- Lists a value for a key unless it is the default of the key: a map so kept has one form for each content, and of two such writes of
one key the second alone counts. -/
def acanon {α : Type} [DecidableEq α] (m : Assoc α) (k : Nat) (d v : α) : Assoc α :=
  if v = d then adel m k else aput (adel m k) k v

/-- The keys of a map. -/
def akeys {α : Type} (m : Assoc α) : List Nat := m.map Prod.fst

/-- The values of a map. -/
def avals {α : Type} (m : Assoc α) : List α := m.map Prod.snd

/-- Changes every value of a map. -/
def amapv {α : Type} (m : Assoc α) (f : Nat → α → α) : Assoc α := m.map fun e => (e.1, f e.1 e.2)

/-- The entries of a map that satisfy a test. -/
def afilter {α : Type} (m : Assoc α) (f : Nat → α → Bool) : Assoc α := m.filter fun e => f e.1 e.2

/-- The keys stand in strictly rising order, all above a bound. -/
def risingFrom {α : Type} : Option Nat → Assoc α → Bool
  | _, [] => true
  | none, (k, _) :: rest => risingFrom (some k) rest
  | some b, (k, _) :: rest => decide (b < k) && risingFrom (some k) rest

/-! ## Bit fields and byte order -/

/-- Bits [hi:lo] of a register, as a number. -/
def fld (w : Word) (hi lo : Nat) : Nat := w.toNat / 2 ^ lo % 2 ^ (hi + 1 - lo)

/-- Bit i of a register. -/
def bit (w : Word) (i : Nat) : Bool := w.getLsbD i

/-- Bits [hi:lo] of any bit vector, as a number. -/
def fldN {n : Nat} (w : BitVec n) (hi lo : Nat) : Nat := w.toNat / 2 ^ lo % 2 ^ (hi + 1 - lo)

/-- A field of a bit vector with its width. -/
def ext {n : Nat} (w : BitVec n) (lo len : Nat) : BitVec len := w.extractLsb' lo len

/-- A register word from values and the bit each begins at. -/
def word (fs : List (Nat × Nat)) : Word := BitVec.ofNat 32 (fs.foldl (fun a f => a + f.1 * 2 ^ f.2) 0)

/-- 1 for true. -/
def b2n (b : Bool) : Nat := if b then 1 else 0

/-- The little-endian bytes of a number (R5). -/
def leBytes : Nat → Nat → List Byte
  | 0, _ => []
  | n + 1, v => BitVec.ofNat 8 (v % 256) :: leBytes n (v / 256)

/-- The number of little-endian bytes. -/
def leNat : List Byte → Nat
  | [] => 0
  | b :: bs => b.toNat + 256 * leNat bs

/-- The number whose big-endian bytes are given. -/
def beNat (bs : List Byte) : Nat := bs.foldl (fun a b => a * 256 + b.toNat) 0

/-- `len` bytes of a list from an offset, bytes beyond the end counting as 0. -/
def sliceBytes (bs : List Byte) (ofs len : Nat) : List Byte :=
  let t := (bs.drop ofs).take len
  t ++ List.replicate (len - t.length) 0

/-- The little-endian number in `len` bytes of a list from an offset. -/
def leAt (bs : List Byte) (ofs len : Nat) : Nat := leNat (sliceBytes bs ofs len)

/-- Saturating increment. -/
def satInc (v top : Nat) : Nat := if v < top then v + 1 else top

/-- Saturating addition. -/
def satAdd (v n top : Nat) : Nat := if v + n < top then v + n else top

/-- Writes bits [lo + len - 1 : lo] of a bit mask kept as a number. -/
def setBitN (m i : Nat) (v : Bool) : Nat :=
  if m.testBit i then (if v then m else m - 2 ^ i) else (if v then m + 2 ^ i else m)

/-- The two's-complement value of the low n bits. -/
def signed (n v : Nat) : Int := if v % 2 ^ n < 2 ^ (n - 1) then (v % 2 ^ n : Int) else (v % 2 ^ n : Int) - 2 ^ n

/-- The low n bits of an integer in two's complement. -/
def wrapBits (n : Nat) (v : Int) : Nat := (v % (2 ^ n : Int)).toNat

/-- Ceiling division. -/
def ceilDiv (a b : Nat) : Nat := (a + b - 1) / b

/-- Division of integers rounded to the nearest, ties away from zero. -/
def roundAway (a : Int) (b : Nat) : Int :=
  if 0 ≤ a then ((2 * a + b) / (2 * b : Int)) else -((2 * (-a) + b) / (2 * b : Int))

/-- The values 0 to n-1 for which a test holds. -/
def below (n : Nat) (f : Nat → Bool) : List Nat := (List.range n).filter f

/-! ## The ECMA-182 CRC (R11) -/

/-- One bit of the CRC-64 of ECMA-182, most significant bit first. -/
def crc64Bit (c : BitVec 64) (b : Bool) : BitVec 64 :=
  if c.msb != b then (c <<< 1) ^^^ 0x42F0E1EBA9EA3693#64 else c <<< 1

/-- One byte of the CRC-64, most significant bit first. -/
def crc64Byte (c : BitVec 64) (b : Byte) : BitVec 64 :=
  [7, 6, 5, 4, 3, 2, 1, 0].foldl (fun a i => crc64Bit a (b.getLsbD i)) c

/-- CRC-64 of ECMA-182 over bytes in increasing address order (R11). -/
def crc64 (bs : List Byte) : BitVec 64 := bs.foldl crc64Byte 0

/-- The bytes of a block's user data. -/
def dataBytes (d : BlockData) : List Byte := (List.range 4096).map fun i => d.extractLsb' (8 * i) 8

/-- The CRC of a block's user data (R11). -/
def dataCrc (d : BlockData) : BitVec 64 := crc64 (dataBytes d)

/-- The 4,160 stored bytes of a block before encryption: user data, then protection (R618). -/
def blockBits (v : BlockVal) : BitVec 33280 :=
  BitVec.ofNat 33280 (v.data.toNat + 2 ^ 32768 * (v.prot.crc.toNat + 2 ^ 64 * v.prot.ref.toNat + 2 ^ 128 * v.prot.wtime.toNat))

/-- The block that 4,160 plain bytes hold. -/
def blockOf (b : BitVec 33280) : BlockVal :=
  { data := b.extractLsb' 0 32768,
    prot := { crc := b.extractLsb' 32768 64, ref := b.extractLsb' 32832 64, wtime := b.extractLsb' 32896 64 } }

/-- The deallocated pattern (R55). -/
def zeroBlock (lba : Nat) : BlockVal :=
  { data := 0, prot := { crc := 0, ref := BitVec.ofNat 64 lba, wtime := 0 } }

/-! ## Time and stamps -/

/-- The TAI count (R13). -/
def timCount (t : Tim) : Nat := t.tick / 2 ^ 32

/-- Advances the clock by dt nanoseconds of the reference clock: the count follows the trimmed rate, and an offset that
is being removed changes it by at most 1,000 ppm of dt (R546). The count never decreases. (DEDUCED, unsafe: log entry 96.) -/
def timAdvance (t : Tim) (dt : Nat) : Tim :=
  let base : Int := dt * (2 ^ 32 + t.trim)
  let limit : Int := dt * 2 ^ 32 / 1000
  let step : Int := if 0 ≤ t.corr then min t.corr limit else -(min (-t.corr) limit)
  { t with tick := (t.tick + max 0 (base + step)).toNat, corr := t.corr - step }

/-- Lets dt nanoseconds pass. (DESIGN CHOICE, unsafe: log entry 126.) -/
def State.advance (s : State) (dt : Nat) : State :=
  { s with now := s.now + dt, tim := timAdvance s.tim dt }

/-- Lets time pass until a moment, where it is still to come. (DESIGN CHOICE, unsafe: log entry 3.) -/
def State.advanceTo (s : State) (t : Nat) : State := s.advance (t - s.now)

/-- The time pair a record stamped now would carry (R13). -/
def State.pair (s : State) : Pair := { time := timCount s.tim, seq := s.tim.seq }

/-- The state once a record has been stamped: the device-wide sequence counter has gone up by one (R13). -/
def State.stamped (s : State) : State := { s with tim := { s.tim with seq := s.tim.seq + 1 } }

/-- Whether a pair comes before another (R15). -/
def pairBefore (a b : Pair) : Bool :=
  decide (a.time < b.time) || (decide (a.time = b.time) && decide (0 < (b.seq - a.seq).toNat) &&
    decide ((b.seq - a.seq).toNat < 2 ^ 31))

/-- The 12 bytes of a time pair in memory (R14). -/
def pairBytes (p : Pair) : List Byte := leBytes 8 p.time ++ leBytes 4 p.seq.toNat

/-! ## Outputs, free values, fault reports -/

/-- Adds an output. (DESIGN CHOICE, safe: log entry 7.) -/
def State.emit (s : State) (o : Out) : State := { s with out := s.out ++ [o] }

/-- The present free value. (DESIGN CHOICE, safe: log entry 10.) -/
def State.freeVal (s : State) : Nat := Config.openNat s.free

/-- Moves on to the next free value. -/
def State.freeUsed (s : State) : State := { s with free := s.free + 1 }

/-- A report joins those on their way: after every earlier one, and among those of the same moment in SOURCE order (R568). -/
def joinReports (t : Nat) (r : Report) : List (Nat × Report) → List (Nat × Report)
  | [] => [(t, r)]
  | e :: rest => if e.1 = t ∧ r.source < e.2.source then (t, r) :: e :: rest else e :: joinReports t r rest

/-- A block reports a fault: the report travels to the collector (R568), which takes it at its next FAULT_REPORT.
(DEDUCED, unsafe: log entry 115.) -/
def State.report (s : State) (source kind addr severity : Nat) : State :=
  let r : Report := { source := source, kind := kind, addr := addr, severity := severity }
  { s with flt := { s.flt with inbox := joinReports s.now r s.flt.inbox } }

end Sys2Proof.Machine
end

