-- ==== Sys2Proof/WellFormed.lean ====
section
/-! DEFINITION. Which commands can arrive at all: the ranges of their operands, and for a row that is one form of a register write the
bits that make it that row. -/

namespace Sys2Proof

open Sys2Proof.Machine

/-- Who can write a set-up register by a command of its own: the management port and a control core (R647). A session writes
through REG_ACCESS, which is a row of its own. -/
def agentOk : Agent → Bool
  | .mgmt => true
  | .core c => decide (c < 8)
  | .session _ => false

/-- A command whose operands lie in the ranges of its row. (DESIGN CHOICE, safe: log entry 6.) -/
def Instr.wf : Instr → Bool
  | .setupRegisterWrite ag _ _ => agentOk ag
  | .plcStripeCfgWrite ag _ => agentOk ag
  | .bandSetFree _ => true
  | .reservationGrant => true
  | .writeAccept _ => true
  | .landingRecopyDone kind _ stack => decide (kind < 5) && decide (stack < 4)
  | .rowComplete _ => true
  | .journalOnMedia _ => true
  | .checkpointBegin => true
  | .checkpointInForce => true
  | .mapRebuild _ _ => true
  | .chnStHeadWrite ag st _ => agentOk ag && decide (st < 16)
  | .headSwitch st => decide (st < 16)
  | .chnAfSelWrite ag n _ => agentOk ag && decide (n < 32)
  | .frontEndFail n => decide (n < 32)
  | .servoWedge st _ => decide (st < 16)
  | .decodeStop st _ => decide (st < 16)
  | .deepDecodeDone k _ => decide (k < 4)
  | .rereadDone _ _ _ => true
  | .rebuildDone _ => true
  | .chnStatSnap ag v => agentOk ag && bit v 31 && !bit v 30
  | .chnStatSnapClear ag v => agentOk ag && bit v 31 && bit v 30
  | .linkAck a _ _ => decide (a < 4)
  | .preampFault a _ _ => decide (a < 4)
  | .linkAckTimeout a => decide (a < 4)
  | .linkResetRetry a => decide (a < 4)
  | .contactRestore h => decide (h < 72)
  | .plkClr ag n v => agentOk ag && decide (n < 4) && bit v 7
  | .touchdownStart ag v => agentOk ag && bit v 31
  | .touchdownStep => true
  | .wfltAssert a _ => decide (a < 4)
  | .verifyDone _ => true
  | .verifyWindowExpire _ => true
  | .nop q _ => decide (q < 18)
  | .ldi q _ => decide (q < 18)
  | .ldih q _ => decide (q < 18)
  | .add q _ => decide (q < 18)
  | .addv q _ => decide (q < 18)
  | .and q _ => decide (q < 18)
  | .cmp q _ => decide (q < 18)
  | .cmpv q _ => decide (q < 18)
  | .ldp q _ => decide (q < 18)
  | .stp q _ => decide (q < 18)
  | .branch q => decide (q < 18)
  | .call q => decide (q < 18)
  | .ret q => decide (q < 18)
  | .rett q => decide (q < 18)
  | .actAtPosition q _ => decide (q < 18)
  | .waitEnd q _ => decide (q < 18)
  | .waitTimeout q => decide (q < 18)
  | .seqInterrupt q => decide (q < 16)
  | .privTrap q => decide (16 ≤ q) && decide (q < 18)
  | .controlStoreReload q _ => decide (q < 18)
  | .lockstepFail q => decide (q < 18)
  | .seqCsRead ag v => agentOk ag && bit v 31
  | .seqCsInject ag v => agentOk ag && bit v 30
  | .servoSample a _ => decide (a < 4)
  | .swapRequest ag n v => agentOk ag && decide (n < 24) && bit v 31
  | .sceWindowWrite ag ofs _ => agentOk ag && decide (0x10000 ≤ ofs) && decide (ofs < 0x64000)
  | .sceTgtWrite ag st _ => agentOk ag && decide (st < 16)
  | .go ag a v => agentOk ag && decide (a < 4) && bit v 31
  | .load ag a v => agentOk ag && decide (a < 4) && bit v 30
  | .unload ag a v => agentOk ag && decide (a < 4) && bit v 29
  | .seekEnd a => decide (a < 4)
  | .seekTimeout a => decide (a < 4)
  | .loadFail a => decide (a < 4)
  | .unloadDone a => decide (a < 4)
  | .unloadFail a => decide (a < 4)
  | .faultReload a => decide (a < 4)
  | .currentLoopPeriod a _ _ => decide (a < 4)
  | .slotMem n => decide (n < 24)
  | .spindleEnable ag v => agentOk ag && bit v 31
  | .spindleDisable ag v => agentOk ag && !bit v 31
  | .targetRpmWrite ag _ => agentOk ag
  | .listenEnd _ => true
  | .senseEnd sector => decide (sector < 6)
  | .alignEnd => true
  | .openLoopEnd => true
  | .startRetry => true
  | .spinupTimeout => true
  | .brakeEnd => true
  | .zeroCrossing _ => true
  | .spindleCurrentPeriod _ => true
  | .spindleIndex _ => true
  | .syncEdge => true
  | .tlHoldover => true
  | .ethFrameReceive p _ _ => decide (p < 2)
  | .roceWriteReceive k bad => decide (k.port < 2) && decide (bad < 4)
  | .sqDb ix _ => decide (ix < 1024)
  | .cqDb ix _ => decide (ix < 1024)
  | .evDb ix _ => decide (ix < 1024)
  | .pushDataWrite ix _ _ bad => decide (ix < 1024) && decide (bad < 4)
  | .rdmaReadResponse ix _ bad => decide (ix < 1024) && decide (bad < 4)
  | .roceAckReceive ix _ _ => decide (ix < 1024)
  | .rnrNakReceive ix => decide (ix < 1024)
  | .requestRetryTimeout ix => decide (ix < 1024)
  | .cnpReceive ix => decide (ix < 1024)
  | .rateIncrease ix => decide (ix < 1024)
  | .hostAckTimer ix => decide (ix < 1024)
  | .req port _ => decide (port < 2)
  | .rtu ix => decide (ix < 1024)
  | .dreq ix _ => decide (ix < 1024)
  | .drep ix => decide (ix < 1024)
  | .lap ix _ => decide (ix < 1024)
  | .rej ix => decide (ix < 1024)
  | .admitTimeout ix => decide (ix < 1024)
  | .lineageRelease _ => true
  | .linkLoss p => decide (p < 2)
  | .pathTimeout ix => decide (ix < 1024)
  | .linkUp p _ _ => decide (p < 2)
  | .ethCfgWrite ag p _ => agentOk ag && decide (p < 2)
  | .fetchIssue => true
  | .grantIssue _ => true
  | .pushTimeout _ => true
  | .quarantineEnd ix => decide (ix < 1024)
  | .read _ => true
  | .write _ => true
  | .deallocate _ => true
  | .flush _ => true
  | .copy _ => true
  | .gather _ => true
  | .verify _ => true
  | .zoneClose _ => true
  | .zoneFinish _ => true
  | .zoneReset _ => true
  | .zoneReport _ => true
  | .nsCreate _ => true
  | .nsDelete _ => true
  | .nsDeleteDone _ => true
  | .imageDownload _ => true
  | .imageActivate _ => true
  | .activationSequence _ => true
  | .latencyTolerance _ => true
  | .getLog _ => true
  | .attest _ => true
  | .queueReset _ => true
  | .queueResetDone _ => true
  | .regAccessRead _ => true
  | .regAccessWrite _ => true
  | .claimEvent _ => true
  | .completeEvent _ => true
  | .commandComplete _ => true
  | .readDataDelivered _ => true
  | .flushDone _ => true
  | .modTimerExpire ix => decide (ix < 1024)
  | .evcMaskWrite ag n _ _ => agentOk ag && decide (n < 256)
  | .evcRaise ag _ => agentOk ag
  | .heartbeat => true
  | .turnEnd a _ _ => decide (a < 4)
  | .scrubRead sram err => decide (err < 4) && !(sram && err == 3)
  | .scrubLate => true
  | .rowRepair _ _ _ => true
  | .stackFail k => decide (k < 4)
  | .cacheDrain ag _ => agentOk ag
  | .drainDone => true
  | .hbmDiagWrite ag v => agentOk ag && bit v 31
  | .hbmDiagRead ag v => agentOk ag && bit v 30
  | .srmDiagWrite ag v => agentOk ag && bit v 31
  | .srmDiagRead ag v => agentOk ag && bit v 30
  | .warmReset => true
  | .moveIndex c _ => decide (c < 32)
  | .moveTwoDimensional c _ => decide (c < 32)
  | .loop c => decide (c < 32)
  | .wait c => decide (c < 32)
  | .waitSlot c => decide (c < 32)
  | .signal c => decide (c < 32)
  | .flagWrite c => decide (c < 32)
  | .dmaEvent => true
  | .timerEvent n => decide (n < 8)
  | .start ag c v => agentOk ag && decide (c < 32) && bit v 31
  | .stop ag c v => agentOk ag && decide (c < 32) && bit v 30
  | .clr ag c v => agentOk ag && decide (c < 32) && bit v 29
  | .dmaWatchdog c => decide (c < 32)
  | .powerEntryBegin => true
  | .participantReady _ => true
  | .wakeExit => true
  | .wakeAssert => true
  | .supplySample _ => true
  | .stageEnter => true
  | .stageLeave => true
  | .pwrgoodFall => true
  | .eclipseSaveEnd => true
  | .resetNFall => true
  | .coldBoot trained checkFailed checker => decide (trained < 16) && decide (checkFailed < 16) && decide (checker < 4)
  | .flashRead ag v => agentOk ag && bit v 31 && fld v 25 24 == 0
  | .flashProgram ag v => agentOk ag && bit v 31 && fld v 25 24 == 1
  | .flashErase ag v => agentOk ag && bit v 31 && fld v 25 24 == 2
  | .flashOpDone _ => true
  | .ptpSync port _ _ => decide (port < 2)
  | .ptpAnnounce m => decide (m.port < 2)
  | .delayReqSend => true
  | .delayResp port _ _ => decide (port < 2)
  | .ptpHoldover _ => true
  | .ppsHoldover => true
  | .ppsOutputSecond => true
  | .timSetWrite ag _ => agentOk ag
  | .conjunctionCompute => true
  | .faultReport _ => true
  | .faultRecordWrite => true
  | .faultForce ag n v => agentOk ag && decide (n < 1024) && bit v 31
  | .fltRdWrite ag _ => agentOk ag
  | .faultRecovery n => decide (n < 1024)
  | .trig ag v => agentOk ag && bit v 31
  | .rearm ag v => agentOk ag && bit v 30
  | .tailPeriod => true
  | .tailCapture => true
  | .talListWrite ag l ix _ => agentOk ag && decide (l < 4) && decide (ix < 32)
  | .talCfgWrite ag _ => agentOk ag
  | .readMgmt _ _ => true
  | .lastStatus => true
  | .mgmtSclTimeout => true
  | .ethIpCtlWrite ag p _ => agentOk ag && decide (p < 2)
  | .ethAddressWrite ag p k _ => agentOk ag && decide (p < 2) && decide (k < 6)
  | .sharedResourceWrite ag reg _ => agentOk ag && (reg == .timCfg || reg == .spnTlCfg || reg == .talCfg)
  | .pwrgoodRise straps _ => decide (straps < 4)
  | .powerUp => true
  | .dieTemperatureChange _ => true
  | .coreLockstepFail c => decide (c < 8)
  | .slewEnd => true
  | .jtagInstruction _ => true

end Sys2Proof
end

