-- ==== Sys2Proof/Machine/RegMap.lean ====
section
/-! DEFINITION. The set-up register map (chapter 20): addresses, reset values, RW fields, and the check of R9 and R665 of
a written word against the word itself and the personality in force. -/

namespace Sys2Proof.Machine

/-- Base of the block with id b (R645, Table 20.1). -/
def blockBase (b : Nat) : Nat := 0x01000000 + 0x100000 * b

/-- The block id of a register (Table 15.5) and its offset from the block base (Table 20.5). -/
def regSpot : Reg → Nat × Nat
  | .eqtSessCfg => (0, 0x000) | .eqtFetchCfg => (0, 0x010) | .eqtPushCfg => (0, 0x014) | .eqtXferErr => (0, 0x018)
  | .eqtAdminMaskLo => (0, 0x020) | .eqtAdminMaskHi => (0, 0x024)
  | .ethCfg p => (1, 0x100 * p) | .ethStat p => (1, 0x004 + 0x100 * p) | .ethDrop p => (1, 0x008 + 0x100 * p)
  | .ethIpv4 p => (1, 0x010 + 0x100 * p) | .ethIpCtl p => (1, 0x014 + 0x100 * p)
  | .ethIpv4Gw p => (1, 0x018 + 0x100 * p) | .ethIpv6 p k => (1, 0x020 + 0x100 * p + 4 * k)
  | .ethPkey k => (1, 0x200 + 4 * k)
  | .evcMaskLo n => (2, 8 * n) | .evcMaskHi n => (2, 8 * n + 4) | .evcStat n => (2, 0x800 + 4 * n)
  | .evcRaise => (2, 0xC00)
  | .chnEscCfg => (3, 0x000) | .chnStatSel => (3, 0x010) | .chnStatData k => (3, 0x020 + 4 * k)
  | .chnAfSel n => (3, 0x080 + 4 * n) | .chnStHead s => (3, 0x100 + 0x20 * s) | .chnStLast s => (3, 0x108 + 0x20 * s)
  | .wrpTvCfg => (4, 0x000) | .wrpInh s => (4, 0x040 + 4 * s)
  | .plkCtl n => (5, 0x40 * n) | .plkTdCtl => (5, 0x100)
  | .seqVec n => (6, 4 * n) | .seqMchk => (6, 0x010) | .seqCsDiag => (6, 0x020) | .seqCsData k => (6, 0x024 + 4 * k)
  | .seqStat q => (6, 0x100 + 0x10 * q)
  | .sceOtCfg => (7, 0x040) | .sceMonCfg => (7, 0x044) | .sceSlot n => (7, 0x100 + 4 * n) | .sceTgt s => (7, 0x200 + 4 * s)
  | .sceActCmd a => (7, 0x300 + 0x10 * a) | .sceActStat a => (7, 0x304 + 0x10 * a)
  | .sceActPlan a => (7, 0x308 + 0x10 * a) | .sceWindow o => (7, o)
  | .spnCtl => (8, 0x000) | .spnStat => (8, 0x004) | .spnTlCfg => (8, 0x010) | .spnTlOfs => (8, 0x014)
  | .spnTlStat => (8, 0x018)
  | .plcStripeCfg => (9, 0x000) | .plcLandingStatus => (9, 0x010) | .plcCkptCfg => (9, 0x020)
  | .orbCfg => (10, 0x000) | .orbQos q => (10, 0x010 + 4 * q) | .orbSeekCfg => (10, 0x020)
  | .orbStat a => (10, 0x100 + 0x10 * a)
  | .hbmStat => (11, 0x000) | .hbmErr k => (11, 0x010 + 4 * k) | .hbmScrubCfg => (11, 0x020)
  | .hbmScrubStat => (11, 0x024) | .hbmDiag => (11, 0x030) | .hbmDiagVal => (11, 0x034)
  | .srmStat => (12, 0x000) | .srmDiag => (12, 0x010) | .srmFabStat => (12, 0x020)
  | .cchCtl => (13, 0x000) | .cchErrCfg => (13, 0x004) | .cchStat => (13, 0x008)
  | .dmaArb => (14, 0x000) | .dmaTm n => (14, 0x040 + 4 * n)
  | .dmaChProgLo c => (14, 0x100 + 0x20 * c) | .dmaChProgHi c => (14, 0x104 + 0x20 * c)
  | .dmaChCfg c => (14, 0x108 + 0x20 * c) | .dmaChCtl c => (14, 0x10C + 0x20 * c)
  | .dmaChStat c => (14, 0x110 + 0x20 * c) | .dmaChErr c => (14, 0x114 + 0x20 * c)
  | .dmaChEaddrLo c => (14, 0x118 + 0x20 * c) | .dmaChEaddrHi c => (14, 0x11C + 0x20 * c)
  | .pwrCfg => (15, 0x000) | .pwrStat => (15, 0x004) | .pwrSagCfg => (15, 0x010) | .pwrSagTim => (15, 0x014)
  | .pwrSense => (15, 0x018) | .pwrAccessOff => (15, 0x01C)
  | .timCfg => (16, 0x000) | .timStat => (16, 0x004) | .timNowLo => (16, 0x008) | .timNowHi => (16, 0x00C)
  | .timSetLo => (16, 0x010) | .timSetHi => (16, 0x014) | .timFleet => (16, 0x020) | .timHbCfg => (16, 0x024)
  | .timConjTagLo => (16, 0x028) | .timConjTagHi => (16, 0x02C) | .timConjStat => (16, 0x030)
  | .fltCfg => (17, 0x000) | .fltStat => (17, 0x004) | .fltNext => (17, 0x008) | .fltRd => (17, 0x00C)
  | .fltLost => (17, 0x010) | .fltSrc n => (17, 0x1000 + 4 * n) | .fltCnt n => (17, 0x2000 + 4 * n)
  | .talCfg => (18, 0x000) | .talCtl => (18, 0x004) | .talStat => (18, 0x008) | .talNext => (18, 0x00C)
  | .talOldest => (18, 0x010) | .talGen => (18, 0x014) | .talNextSlot => (18, 0x018)
  | .talList l i => (18, 0x100 + 0x80 * l + 4 * i)
  | .secVerifyStat => (19, 0x000) | .secVerifyOfs => (19, 0x004) | .secFuse0 => (19, 0x008) | .secFuse1 => (19, 0x00C)
  | .secFlashCtl => (19, 0x010) | .secFlashAddr => (19, 0x014) | .secFlashWindow k => (19, 0x100 + 4 * k)
  | .pinThermCfg => (20, 0x000) | .pinThermStat => (20, 0x004) | .pinStat => (20, 0x008) | .pinSetupErr => (20, 0x010)
  | .pinSetupAddr => (20, 0x014)

/-- The set-up address of a register. -/
def regAddr (r : Reg) : Nat := blockBase (regSpot r).1 + (regSpot r).2

/-- Whether a register exists: its indices within the ranges of Table 20.5. -/
def regExists : Reg → Bool
  | .ethCfg p | .ethStat p | .ethDrop p | .ethIpv4 p | .ethIpCtl p | .ethIpv4Gw p => p < 2
  | .ethIpv6 p k => p < 2 && k < 4
  | .ethPkey k => k < 8
  | .evcMaskLo n | .evcMaskHi n | .evcStat n => n < 256
  | .chnStatData k => k < 16
  | .chnAfSel n => n < 32
  | .chnStHead s | .chnStLast s | .wrpInh s | .sceTgt s => s < 16
  | .plkCtl n => n < 4
  | .seqVec n => n < 4
  | .seqCsData k => k < 4
  | .seqStat q => q < 18
  | .sceSlot n => n < 24
  | .sceActCmd a | .sceActStat a | .sceActPlan a | .orbStat a => a < 4
  | .sceWindow o => o % 4 == 0 && ((0x10000 ≤ o && o < 0x13000) || (0x20000 ≤ o && o < 0x22200) ||
      (0x28000 ≤ o && o < 0x28800) || (0x40000 ≤ o && o < 0x64000))
  | .orbQos q => q < 4
  | .hbmErr k => k < 4
  | .dmaTm n => n < 8
  | .dmaChProgLo c | .dmaChProgHi c | .dmaChCfg c | .dmaChCtl c | .dmaChStat c | .dmaChErr c | .dmaChEaddrLo c
  | .dmaChEaddrHi c => c < 32
  | .fltSrc n | .fltCnt n => n < 1024
  | .talList l i => l < 4 && i < 32
  | .secFlashWindow k => k < 64
  | _ => true

/-- The register of a block at an offset that is a multiple of 4, before the range of its index is checked. -/
def regCandidate (b o : Nat) : Option Reg :=
  match b with
  | 0 => if o = 0 then some .eqtSessCfg else if o = 0x10 then some .eqtFetchCfg else if o = 0x14 then some .eqtPushCfg
    else if o = 0x18 then some .eqtXferErr else if o = 0x20 then some .eqtAdminMaskLo
    else if o = 0x24 then some .eqtAdminMaskHi else none
  | 1 =>
    if 0x200 ≤ o then some (.ethPkey ((o - 0x200) / 4))
    else
      let p := o / 0x100
      let q := o % 0x100
      if q = 0 then some (.ethCfg p) else if q = 4 then some (.ethStat p) else if q = 8 then some (.ethDrop p)
      else if q = 0x10 then some (.ethIpv4 p) else if q = 0x14 then some (.ethIpCtl p)
      else if q = 0x18 then some (.ethIpv4Gw p) else if 0x20 ≤ q then some (.ethIpv6 p ((q - 0x20) / 4)) else none
  | 2 => if o < 0x800 then (if o % 8 = 0 then some (.evcMaskLo (o / 8)) else some (.evcMaskHi (o / 8)))
    else if o < 0xC00 then some (.evcStat ((o - 0x800) / 4)) else if o = 0xC00 then some .evcRaise else none
  | 3 => if o = 0 then some .chnEscCfg else if o = 0x10 then some .chnStatSel
    else if o < 0x20 then none else if o < 0x60 then some (.chnStatData ((o - 0x20) / 4))
    else if o < 0x80 then none else if o < 0x100 then some (.chnAfSel ((o - 0x80) / 4))
    else if o % 0x20 = 0 then some (.chnStHead ((o - 0x100) / 0x20))
    else if o % 0x20 = 8 then some (.chnStLast ((o - 0x100) / 0x20)) else none
  | 4 => if o = 0 then some .wrpTvCfg else if 0x40 ≤ o then some (.wrpInh ((o - 0x40) / 4)) else none
  | 5 => if o = 0x100 then some .plkTdCtl else if o % 0x40 = 0 then some (.plkCtl (o / 0x40)) else none
  | 6 => if o < 0x10 then some (.seqVec (o / 4)) else if o = 0x10 then some .seqMchk
    else if o = 0x20 then some .seqCsDiag else if o < 0x24 then none
    else if o < 0x34 then some (.seqCsData ((o - 0x24) / 4))
    else if 0x100 ≤ o ∧ o % 0x10 = 0 then some (.seqStat ((o - 0x100) / 0x10)) else none
  | 7 => if o = 0x40 then some .sceOtCfg else if o = 0x44 then some .sceMonCfg
    else if o < 0x100 then none else if o < 0x200 then some (.sceSlot ((o - 0x100) / 4))
    else if o < 0x300 then some (.sceTgt ((o - 0x200) / 4))
    else if o < 0x340 then
      (if o % 0x10 = 0 then some (.sceActCmd ((o - 0x300) / 0x10))
       else if o % 0x10 = 4 then some (.sceActStat ((o - 0x300) / 0x10))
       else if o % 0x10 = 8 then some (.sceActPlan ((o - 0x300) / 0x10)) else none)
    else some (.sceWindow o)
  | 8 => if o = 0 then some .spnCtl else if o = 4 then some .spnStat else if o = 0x10 then some .spnTlCfg
    else if o = 0x14 then some .spnTlOfs else if o = 0x18 then some .spnTlStat else none
  | 9 => if o = 0 then some .plcStripeCfg else if o = 0x10 then some .plcLandingStatus
    else if o = 0x20 then some .plcCkptCfg else none
  | 10 => if o = 0 then some .orbCfg else if 0x10 ≤ o ∧ o < 0x20 then some (.orbQos ((o - 0x10) / 4))
    else if o = 0x20 then some .orbSeekCfg
    else if 0x100 ≤ o ∧ o % 0x10 = 0 then some (.orbStat ((o - 0x100) / 0x10)) else none
  | 11 => if o = 0 then some .hbmStat else if 0x10 ≤ o ∧ o < 0x20 then some (.hbmErr ((o - 0x10) / 4))
    else if o = 0x20 then some .hbmScrubCfg else if o = 0x24 then some .hbmScrubStat
    else if o = 0x30 then some .hbmDiag else if o = 0x34 then some .hbmDiagVal else none
  | 12 => if o = 0 then some .srmStat else if o = 0x10 then some .srmDiag else if o = 0x20 then some .srmFabStat else none
  | 13 => if o = 0 then some .cchCtl else if o = 4 then some .cchErrCfg else if o = 8 then some .cchStat else none
  | 14 => if o = 0 then some .dmaArb else if o < 0x40 then none else if o < 0x60 then some (.dmaTm ((o - 0x40) / 4))
    else if o < 0x100 then none
    else
      let c := (o - 0x100) / 0x20
      let q := o % 0x20
      if q = 0 then some (.dmaChProgLo c) else if q = 4 then some (.dmaChProgHi c) else if q = 8 then some (.dmaChCfg c)
      else if q = 0xC then some (.dmaChCtl c) else if q = 0x10 then some (.dmaChStat c)
      else if q = 0x14 then some (.dmaChErr c) else if q = 0x18 then some (.dmaChEaddrLo c)
      else some (.dmaChEaddrHi c)
  | 15 => if o = 0 then some .pwrCfg else if o = 4 then some .pwrStat else if o = 0x10 then some .pwrSagCfg
    else if o = 0x14 then some .pwrSagTim else if o = 0x18 then some .pwrSense
    else if o = 0x1C then some .pwrAccessOff else none
  | 16 => if o = 0 then some .timCfg else if o = 4 then some .timStat else if o = 8 then some .timNowLo
    else if o = 0xC then some .timNowHi else if o = 0x10 then some .timSetLo else if o = 0x14 then some .timSetHi
    else if o = 0x20 then some .timFleet else if o = 0x24 then some .timHbCfg else if o = 0x28 then some .timConjTagLo
    else if o = 0x2C then some .timConjTagHi else if o = 0x30 then some .timConjStat else none
  | 17 => if o = 0 then some .fltCfg else if o = 4 then some .fltStat else if o = 8 then some .fltNext
    else if o = 0xC then some .fltRd else if o = 0x10 then some .fltLost
    else if o < 0x1000 then none else if o < 0x2000 then some (.fltSrc ((o - 0x1000) / 4))
    else some (.fltCnt ((o - 0x2000) / 4))
  | 18 => if o = 0 then some .talCfg else if o = 4 then some .talCtl else if o = 8 then some .talStat
    else if o = 0xC then some .talNext else if o = 0x10 then some .talOldest else if o = 0x14 then some .talGen
    else if o = 0x18 then some .talNextSlot
    else if o < 0x100 then none else some (.talList ((o - 0x100) / 0x80) ((o - 0x100) % 0x80 / 4))
  | 19 => if o = 0 then some .secVerifyStat else if o = 4 then some .secVerifyOfs else if o = 8 then some .secFuse0
    else if o = 0xC then some .secFuse1 else if o = 0x10 then some .secFlashCtl else if o = 0x14 then some .secFlashAddr
    else if o < 0x100 then none else some (.secFlashWindow ((o - 0x100) / 4))
  | 20 => if o = 0 then some .pinThermCfg else if o = 4 then some .pinThermStat else if o = 8 then some .pinStat
    else if o = 0x10 then some .pinSetupErr else if o = 0x14 then some .pinSetupAddr else none
  | _ => none

/-- The register at a set-up address, or none outside the map (R646). An access is to the word that contains the address
(R3). -/
def regAt (a : Nat) : Option Reg :=
  if a < 0x01000000 then none
  else
    let w := (a - 0x01000000) / 4 * 4
    match regCandidate (w / 0x100000) (w % 0x100000) with
    | none => none
    | some r => if regExists r then some r else none

/-- The ids of Table 17.3; every other fault source is reserved (R570). -/
def faultListed (n : Nat) : Bool :=
  n ≤ 18 || (32 ≤ n && n ≤ 55) || n == 64 || (72 ≤ n && n ≤ 75) || (80 ≤ n && n ≤ 151) || (160 ≤ n && n ≤ 191) ||
  (192 ≤ n && n ≤ 207) || (224 ≤ n && n ≤ 230) || (256 ≤ n && n ≤ 289) || n == 296 || (304 ≤ n && n ≤ 311) ||
  n == 320 || (992 ≤ n && n ≤ 1022)

/-- The fault sources whose unit Table 17.3 gives a block reset. -/
def faultBlockReset (n : Nat) : Bool :=
  (72 ≤ n && n ≤ 75) || (256 ≤ n && n ≤ 289) || n == 320

/-- The reset value of a register's RW fields (Table 20.5 and the register's own table). -/
def regReset : Reg → Word
  | .eqtSessCfg => 0x012C00C8#32 | .eqtFetchCfg => 0x01000020#32 | .eqtPushCfg => 0x04640040#32
  | .eqtAdminMaskLo => 1#32 | .ethCfg _ => 0x83020010#32 | .ethIpCtl _ => 0x00180040#32
  | .ethPkey k => if k = 0 then 0x8000FFFF#32 else 0#32
  | .evcMaskLo n => if n ≤ 18 then 1#32 else 0#32
  | .chnEscCfg => 0x00000331#32 | .wrpTvCfg => 0x00002181#32 | .plkCtl _ => 4#32 | .plkTdCtl => 0x00020000#32
  | .sceOtCfg => 0x7B521404#32 | .sceMonCfg => 0x40204000#32
  | .spnTlCfg => 0x147800B6#32 | .plcStripeCfg => 0x00000210#32 | .plcCkptCfg => 0x003C0C00#32
  | .orbCfg => 0x00400230#32
  | .orbQos q => if q = 0 then 0x00030000#32 else if q = 1 then 0x000301F4#32 else if q = 2 then 0x000307D0#32
    else 0x00031F40#32
  | .orbSeekCfg => 0x20001000#32 | .hbmScrubCfg => 0x80000018#32 | .cchCtl => 0x8010FFFF#32
  | .cchErrCfg => 0x0040003C#32 | .dmaArb => 1#32 | .dmaTm _ => 0x400#32
  | .pwrCfg => 0x7F320000#32 | .pwrSagCfg => 0xDCD2C8B4#32 | .pwrSagTim => 0x04140064#32
  | .timCfg => 0x41001932#32 | .timHbCfg => 0x3C#32
  | .fltCfg => 0x03E80A0A#32 | .fltSrc n => if faultListed n then 0x201#32 else 0#32
  | .talCfg => 0xC00FA3FF#32 | .pinThermCfg => 0x6400#32
  | _ => 0#32

/-- The RW fields of a register, as a mask. -/
def regRw : Reg → Word
  | .eqtSessCfg => 0xFFFF01FF#32 | .eqtFetchCfg => 0xFFFF007F#32 | .eqtPushCfg => 0xFFFF1FFF#32
  | .eqtAdminMaskLo | .eqtAdminMaskHi | .ethIpv4 _ | .ethIpv4Gw _ | .ethIpv6 _ _ | .evcMaskLo _ | .evcMaskHi _
  | .sceOtCfg | .hbmDiagVal | .pwrSagCfg | .pwrSagTim | .timSetLo | .timSetHi
  | .fltCfg | .talCfg | .secFlashWindow _ | .sceWindow _ => 0xFFFFFFFF#32
  | .ethCfg _ => 0x8F030033#32 | .ethIpCtl _ => 0x803F80FF#32 | .ethPkey _ => 0x8000FFFF#32
  | .chnEscCfg => 0x00000F33#32 | .chnStatSel => 0x00003F7F#32 | .chnAfSel _ => 0x8000003F#32
  | .chnStHead _ => 0x0000031F#32 | .wrpTvCfg => 0x0000F3E1#32 | .plkCtl _ => 0x0000000F#32 | .plkTdCtl => 0x000F007F#32
  | .seqCsDiag => 0x0000FFFF#32 | .sceMonCfg => 0xF0FFFF00#32 | .sceSlot _ => 0x40000000#32 | .sceTgt _ => 0x80FFFFFF#32
  | .sceActCmd _ => 0x10000000#32 | .spnCtl => 0x80003FFF#32 | .spnTlCfg => 0xFFFF0FFF#32 | .spnTlOfs => 0x0000FFFF#32
  | .plcStripeCfg => 0x0013031F#32 | .plcCkptCfg => 0x00FFFF00#32
  | .orbCfg => 0x1FFF0330#32 | .orbQos _ => 0x003FFFFF#32 | .orbSeekCfg => 0xF0FFFFFF#32
  | .hbmScrubCfg => 0x800000FF#32 | .hbmDiag => 0x33007FFF#32 | .srmDiag => 0x33FFFFFF#32
  | .cchCtl => 0x80FFFFFF#32 | .cchErrCfg => 0xFFFF00FF#32
  | .dmaChProgLo _ => 0xFFFFFFE0#32 | .dmaChProgHi _ => 0x0000FFFF#32
  | .dmaArb => 0x0000000F#32 | .dmaTm _ => 0x80FFFFFF#32 | .dmaChCfg _ => 0x8CFFFFFF#32
  | .pwrCfg => 0xFFFF3FFF#32
  | .timCfg => 0xE3FFFFFF#32 | .timFleet => 0x800FFFFF#32 | .timHbCfg => 0x00000FFF#32
  | .fltRd => 0xFFFFFFFF#32
  | .fltSrc n => if faultListed n then (if faultBlockReset n then 0x6700031F#32 else 0x67000317#32) else 0#32
  | .talList _ _ => 0xFFFFFFFD#32
  | .secFlashCtl => 0x03000000#32 | .secFlashAddr => 0x1FFFFFFF#32
  | .pinThermCfg => 0x0000FF00#32
  | _ => 0#32

/-- The conjunct registers (R654), those marked C in Table 20.5. -/
def regConjunct : Reg → Bool
  | .eqtSessCfg | .eqtFetchCfg | .eqtPushCfg | .eqtAdminMaskLo | .eqtAdminMaskHi | .ethCfg _ | .ethPkey _
  | .evcMaskLo _ | .evcMaskHi _ | .chnEscCfg | .wrpTvCfg | .seqVec _ | .sceOtCfg | .sceMonCfg | .spnTlCfg
  | .plcStripeCfg | .plcCkptCfg | .orbCfg | .orbQos _ | .orbSeekCfg | .hbmScrubCfg | .cchCtl | .cchErrCfg
  | .pwrCfg | .pwrSagCfg | .pwrSagTim | .timCfg | .timHbCfg | .fltCfg | .fltSrc _ | .talCfg | .talList _ _
  | .pinThermCfg => true
  | _ => false

/-- The value in force of a register's RW fields. -/
def State.rv (s : State) (r : Reg) : Word := agetD s.regs (regAddr r) (regReset r)

/-- Puts a value of a register's RW fields into force; the list of values keeps only those that differ from reset. -/
def State.setRv (s : State) (r : Reg) (v : Word) : State :=
  { s with regs := acanon s.regs (regAddr r) (regReset r) (v &&& regRw r) }

/-- A 64-bit value in force of a pair of registers (R4). -/
def State.rv64 (s : State) (lo hi : Reg) : Nat := (s.rv lo).toNat + 2 ^ 32 * (s.rv hi).toNat

/-- The lower register of a 64-bit pair, for its upper register (R4). -/
def regLower : Reg → Option Reg
  | .eqtAdminMaskHi => some .eqtAdminMaskLo
  | .evcMaskHi n => some (.evcMaskLo n)
  | .dmaChProgHi c => some (.dmaChProgLo c)
  | .dmaChEaddrHi c => some (.dmaChEaddrLo c)
  | .timNowHi => some .timNowLo
  | .timSetHi => some .timSetLo
  | .timConjTagHi => some .timConjTagLo
  | _ => none

/-- The upper register of a 64-bit pair, for its lower register (R4). -/
def regUpper : Reg → Option Reg
  | .eqtAdminMaskLo => some .eqtAdminMaskHi
  | .evcMaskLo n => some (.evcMaskHi n)
  | .dmaChProgLo c => some (.dmaChProgHi c)
  | .dmaChEaddrLo c => some (.dmaChEaddrHi c)
  | .timNowLo => some .timNowHi
  | .timSetLo => some .timSetHi
  | .timConjTagLo => some .timConjTagHi
  | _ => none

/-- Number of populated surfaces (R30). -/
def State.surfaces (s : State) : Nat := s.sec.pers.surfaces

/-- Whether a number lies in a range whose ends count (R19). -/
def within (v lo hi : Nat) : Bool := decide (lo ≤ v) && decide (v ≤ hi)

/-- Whether the word written would be refused in any state, judged against itself and the personality in force alone
(R9, R665: CAUSE 1 RESERVED). RSV fields never count (R7). (DESIGN CHOICE, safe: log entry 55.) -/
def regReserved (s : State) (r : Reg) (v : Word) : Bool :=
  match r with
  | .eqtSessCfg => fld v 31 16 == 0 || !within (fld v 8 0) 50 350
  | .eqtFetchCfg => !within (fld v 31 16) 16 16384 || !within (fld v 6 0) 1 64
  | .eqtPushCfg => decide (16 < fld v 31 24) || fld v 23 16 == 0 || !within (fld v 12 0) 16 4096
  | .ethCfg _ => fld v 17 16 == 3 || fld v 1 0 == 3
  | .ethIpCtl _ => !within (fld v 21 16) 1 32 || !within (fld v 7 0) 1 128
  | .chnEscCfg => decide (3 < fld v 11 8) || fld v 1 0 == 3
  | .chnStatSel => decide (71 < fld v 6 0)
  | .chnAfSel _ => decide (35 < fld v 5 0)
  | .chnStHead _ => decide (17 < fld v 4 0)
  | .wrpTvCfg => !within (fld v 15 12) 1 8 || !within (fld v 9 5) 1 24
  | .plkTdCtl => decide (71 < fld v 6 0) || fld v 19 16 == 0
  | .sceOtCfg => decide (fld v 31 24 < 8) || !within (fld v 23 16) 8 (fld v 31 24) || fld v 15 8 == 0 || fld v 7 0 == 0
  | .sceMonCfg => decide (fld v 31 28 < 2) || fld v 23 16 == 0 || fld v 15 8 == 0
  | .spnCtl => !(fld v 13 0 == 0 || within (fld v 13 0) 5400 10000)
  | .spnTlCfg => fld v 31 30 == 3 || !within (fld v 29 24) 1 50 || fld v 23 16 == 0 || fld v 11 0 == 0
  | .plcStripeCfg => fld v 17 16 == 3 || !within (fld v 9 8) 1 2 ||
      !within (fld v 4 0) (min 4 s.surfaces) (min 16 s.surfaces) || decide (fld v 4 0 ≤ fld v 9 8)
  | .plcCkptCfg => fld v 23 16 == 0 || !within (fld v 15 8) 1 15
  | .orbCfg => !within (fld v 28 16) 16 4096
  | .hbmScrubCfg => fld v 7 0 == 0
  | .hbmDiag => fld v 29 28 == 3 || (bit v 31 && bit v 30)
  | .srmDiag => fld v 29 28 == 3 || (bit v 31 && bit v 30)
  | .cchCtl => decide (fld v 23 16 < 4) || decide ((below 16 fun i => v.getLsbD i).length < 2)
  | .cchErrCfg => fld v 31 16 == 0 || fld v 7 0 == 0
  | .dmaArb => !within (fld v 3 0) 1 8
  | .dmaTm _ => decide (fld v 23 0 < 64)
  | .dmaChCfg _ => (fld v 27 26 == 1 && decide (7 < fld v 23 16)) || (fld v 27 26 == 2 && decide (31 < fld v 23 16)) ||
      (fld v 27 26 == 3 && decide (143 < fld v 23 16))
  | .pwrCfg => fld v 23 16 == 0 || !(fld v 13 0 == 0 || decide (5400 ≤ fld v 13 0))
  | .pwrSagCfg => !(decide (fld v 23 16 < fld v 31 24) && decide (fld v 15 8 < fld v 23 16) &&
      decide (fld v 7 0 < fld v 15 8)) || decide (fld v 7 0 < 140)
  | .pwrSagTim => !within (fld v 31 24) 1 40 || fld v 23 16 == 0 || fld v 15 0 == 0
  | .timCfg => fld v 31 30 == 3 || fld v 25 24 == 3 || decide (127 < fld v 23 16) || fld v 15 8 == 0 || fld v 7 0 == 0
  | .timHbCfg => decide (3600 < fld v 11 0)
  | .fltCfg => fld v 31 16 == 0 || fld v 7 0 == 0
  | .fltSrc n => faultListed n && !faultBlockReset n && bit v 3
  | .talCfg => fld v 23 10 == 0 || fld v 9 0 == 0
  | .secFlashCtl => fld v 25 24 == 3
  | .secFlashAddr => decide (fld v 28 0 % 256 ≠ 0)
  | .pinThermCfg => !within (fld v 15 8) 60 105
  | _ => false

/-- A refused write is recorded (R652): path 0 management port, 1 REG_ACCESS, 2 control core; cause 1 RESERVED, 2 STATE,
3 CONFLICT, 4 UNMAPPED. -/
def State.setupError (s : State) (ag : Agent) (cause addr : Nat) : State :=
  { s with setupErr := {
      valid := true, cause := cause, addr := addr, count := satInc s.setupErr.count 0xFFFF,
      path := match ag with | .mgmt => 0 | .session _ => 1 | .core _ => 2,
      session := match ag with | .session i => i | _ => 0 } }

end Sys2Proof.Machine
end

