-- ==== Sys2Proof/Machine/Rings.lean ====
section
/-! DEFINITION. Sessions and their rings (chapters 8, 9, 11): reading and changing a session, device requests and their
PSNs, writing completion-ring and event-ring entries, notifications, and the event sources. -/

namespace Sys2Proof.Machine

/-- A completion ring nothing has been written into. -/
def emptyCompRing : CompRing :=
  { log2 := 0, addr := 0, rkey := 0, wr := 0, phase := true, head := 0, waiting := [], count := 0, timer := none,
    fresh := false }

/-- An event ring nothing has been written into. -/
def emptyEventRing : EventRing :=
  { log2 := 0, addr := 0, rkey := 0, wr := 0, phase := true, head := 0, deferred := [], deferredHb := false,
    waitingClaim := [], overflow := false, fresh := false }

/-- A path that names nothing. -/
def noPath : Path :=
  { port := 0, gidIndex := 0, localGid := 0, remoteGid := 0, flow := 0, tclass := 0, hop := 0 }

/-- A session in FREE (Table 8.6). -/
def freeSession : Session :=
  { state := .free, group := 0, qos := 0, events := false, sqLog := 0, sqAddr := 0, sqRkey := 0, modCount := 0,
    modTime := 0, pkey := 0, path := noPath, alt := none, retry := 0, rnrRetry := 0, ackExp := 0, respRes := 0,
    pmtu := 0, lineage := 0, createdLineage := false, releaseLineage := false, admitDeadline := 0, fetchPos := 0,
    tail := 0, stopFetch := false, resetTag := none, reqs := [], silentSince := none, epsn := 0, spsn := 0,
    nakSent := false, wrCursor := none, hostPkts := 0, ackDue := none, rate := 0, cnpSent := none, cnpTaken := none,
    rateStep := 0, cq := emptyCompRing, eq := emptyEventRing, pendNotify := false, lwSize := 0, grantEnd := 0,
    grants := [], quarantine := [], tol := 0 }

/-- A port at cold power-on. -/
def downPort : Port :=
  { link := false, speed := 0, fec := false, linkDowns := 0, dropIcrc := 0, dropOther := 0, rxLevel := 0,
    paused := false, pausedByPeer := false, echoSec := 0, echoes := 0, router := none, heldV4 := none, heldGw := none,
    heldV6 := [] }

/-- The session with an index. -/
def State.sess (s : State) (i : Nat) : Session := agetD s.eqt.sessions i freeSession

/-- The route of a packet of a session: the path in use, from UDP port 0xC000 plus the session index to port 4791 (R286, Table 8.1). -/
def State.route (s : State) (i : Nat) : Route := { sess := i, path := (s.sess i).path, srcPort := 0xC000 + i, dstPort := 4791 }

/-- Replaces a session. -/
def State.setSess (s : State) (i : Nat) (x : Session) : State :=
  { s with eqt := { s.eqt with sessions := acanon s.eqt.sessions i freeSession x } }

/-- Changes a session. -/
def State.modSess (s : State) (i : Nat) (f : Session → Session) : State := s.setSess i (f (s.sess i))

/-- The port with an index. -/
def State.port (s : State) (p : Nat) : Port := agetD s.eqt.ports p downPort

/-- Changes a port. -/
def State.modPort (s : State) (p : Nat) (f : Port → Port) : State :=
  { s with eqt := { s.eqt with ports := acanon s.eqt.ports p downPort (f (s.port p)) } }

/-- A packet of a session is sent; while the partner of its port pauses the priority, it waits behind those that wait (R284).
(DEDUCED, unsafe: log entry 146.) -/
def State.sendPkt (s : State) (i : Nat) (p : Pkt) : State :=
  let r := s.route i
  if (s.port r.path.port).pausedByPeer then { s with eqt := { s.eqt with held := s.eqt.held ++ [(r, p)] } }
  else s.emit (.packet r p)

/-- The packets that wait at a port are gone from the device. -/
def State.dropHeld (s : State) (p : Nat) : State :=
  { s with eqt := { s.eqt with held := s.eqt.held.filter fun e => e.1.path.port != p } }

/-- The partner of a port pauses the priority, or ends the pause: the packets that waited leave in their order (R284). -/
def State.peerPause (s : State) (p : Nat) (on : Bool) : State :=
  let s := s.modPort p fun y => { y with pausedByPeer := on }
  if on then s else (s.eqt.held.filter fun e => e.1.path.port == p).foldl (fun s e => s.emit (.packet e.1 e.2)) (s.dropHeld p)

/-- The indices of the sessions that are not FREE. -/
def State.sessIds (s : State) : List Nat := akeys s.eqt.sessions

/-- A command in flight. -/
def State.cmd? (s : State) (t : Nat) : Option Cmd := aget s.eqt.cmds t

/-- Changes a command in flight. -/
def State.modCmd (s : State) (t : Nat) (f : Cmd → Cmd) : State :=
  { s with eqt := { s.eqt with cmds := amod s.eqt.cmds t f } }

/-- Changes a lineage. -/
def State.modLin (s : State) (l : Nat) (f : Lineage → Lineage) : State :=
  { s with eqt := { s.eqt with lineages := amod s.eqt.lineages l f } }

/-- Whether the device may send to the host on the session: not in ERROR and its current path has its link (R408). -/
def State.reachable (s : State) (i : Nat) : Bool :=
  ((s.sess i).state == .active || (s.sess i).state == .closing) && (s.port (s.sess i).path.port).link

/-- The local ACK timeout of a session, in ns (R292). -/
def ackTimeout (x : Session) : Nat := 4096 * 2 ^ x.ackExp

/-- A device request takes the next PSNs of the session and is kept until the host answers it. -/
def State.request (s : State) (i : Nat) (npsn : Nat) (k : ReqKind) : State :=
  let x := s.sess i
  s.setSess i { x with
    spsn := x.spsn + BitVec.ofNat 24 npsn,
    silentSince := some (x.silentSince.getD s.now),
    reqs := x.reqs ++ [{ psn := x.spsn, npsn := npsn, kind := k, tries := 0, rnrTries := 0,
                         deadline := s.now + ackTimeout x }] }

/-! ## Ring entries as bits -/

/-- The 32 bytes of a completion entry (Table 11.1). -/
def completionBits (c : Completion) (phase : Bool) : BitVec 256 :=
  BitVec.ofNat 256 (c.cmdId.toNat + 2 ^ 64 * c.result.toNat + 2 ^ 112 * (c.sqHead % 2 ^ 16) +
    2 ^ 128 * (c.pair.time % 2 ^ 64) + 2 ^ 192 * c.pair.seq.toNat + 2 ^ 224 * c.status.toNat + 2 ^ 240 * 1 +
    2 ^ 248 * (b2n phase + 2 * b2n c.replay + 4 * b2n c.held))

/-- The 32 bytes of a transfer-ready grant (Table 9.7). -/
def grantBits (g : GrantEntry) (phase : Bool) : BitVec 256 :=
  BitVec.ofNat 256 (g.cmdId.toNat + 2 ^ 64 * (g.dataOfs % 2 ^ 32) + 2 ^ 96 * (g.len % 2 ^ 32) +
    2 ^ 128 * (g.winOfs % 2 ^ 32) + 2 ^ 160 * (g.grantNo % 2 ^ 16) + 2 ^ 176 * (b2n g.regrant + 2 * b2n g.last) +
    2 ^ 240 * 2 + 2 ^ 248 * b2n phase)

/-- The 32 bytes of an event record (Table 11.6). -/
def eventBits (e : EventRec) (phase : Bool) : BitVec 256 :=
  BitVec.ofNat 256 (e.source % 2 ^ 16 + 2 ^ 24 * (e.count % 2 ^ 8) + 2 ^ 32 * e.value.toNat +
    2 ^ 96 * (e.pair.time % 2 ^ 64) + 2 ^ 160 * e.pair.seq.toNat +
    2 ^ 240 * (match e.kind with | .raised => 0x10 | .claimed => 0x11 | .heartbeat => 0x12) +
    2 ^ 248 * (b2n phase + 2 * b2n e.overflow))

/-! ## Notification (R404-R409) -/

/-- Notifies a ring of a session, or sets the pending-notification bit where the session cannot be reached (R406, R408).
Ring 1 is the completion ring, whose count and timer a notification resets; ring 2 is the event ring. -/
def State.notify (s : State) (i ring : Nat) : State :=
  let x := s.sess i
  let y := if ring = 1 then { x with cq := { x.cq with count := 0, timer := none } } else x
  if s.reachable i then
    let z := if ring = 1 then { y with cq := { y.cq with fresh := false } } else { y with eq := { y.eq with fresh := false } }
    ((s.setSess i z).sendPkt i (.notify ring (if ring = 1 then x.cq.wr else x.eq.wr))).request i 1 .notify
  else s.setSess i { y with pendNotify := true }

/-- Sends the notifications a set pending-notification bit asks for, one for each ring with entries written since its last
notification, and clears the bit (R408). -/
def State.sendPending (s : State) (i : Nat) : State :=
  let x := s.sess i
  if x.pendNotify && s.reachable i then
    let s := s.setSess i { x with pendNotify := false }
    let s := if x.cq.fresh then s.notify i 1 else s
    if x.eq.fresh then s.notify i 2 else s
  else s

/-! ## The completion ring (R396-R403) -/

/-- Unconsumed entries of a ring of 2^log2 slots. -/
def unconsumed (log2 wr head : Nat) : Nat := (wr + 2 ^ log2 - head) % 2 ^ log2

/-- Whether an item is a held completion. -/
def itemHeld : CqItem → Bool
  | .completion c => c.held
  | .grant _ => false

/-- How many completions are still to arise in a session's lineage from a session that its resumption ended (R306). -/
def State.oldPending (s : State) (i : Nat) : Nat :=
  match aget s.eqt.lineages (s.sess i).lineage with
  | some l => l.oldPending
  | none => 0

/-- The next item that may be written: with completions of an ended session of the lineage still to arise, no completion
of the new session goes before them (R306). -/
def State.cqReady (s : State) (i : Nat) : Option CqItem :=
  let x := s.sess i
  match x.cq.waiting with
  | [] => none
  | it :: _ =>
    match it with
    | .completion c => if c.held = false ∧ s.oldPending i ≠ 0 then none else some it
    | .grant _ => some it

/-- The position SQ_HEAD reports (R317, Table 11.1): the slot of the first fetch whose entries have not arrived, else the
fetch position. A slot before it may be used again by the host. (DEDUCED, unsafe: log entry 182.) -/
def fetchedPos (x : Session) : Nat :=
  match x.reqs.find? fun r => match r.kind with | .fetch _ n => decide (n ≠ 0) | _ => false with
  | some r => match r.kind with | .fetch a _ => a | _ => x.fetchPos
  | none => x.fetchPos

/-- Writes the first waiting item into the next slot (R397, R400, R401): the phase turns at the end of the ring, a
completion counts for moderation unless it is held, a grant is notified at once. -/
def State.cqWriteOne (s : State) (i : Nat) (it : CqItem) : State :=
  let x := s.sess i
  let last := x.cq.wr + 1 = 2 ^ x.cq.log2
  let ring := { x.cq with wr := if last then 0 else x.cq.wr + 1, phase := if last then !x.cq.phase else x.cq.phase,
                          waiting := x.cq.waiting.tail, fresh := true }
  match it with
  | .grant g =>
    let s := (s.setSess i { x with cq := ring }).sendPkt i (.ringWrite 1 x.cq.wr (grantBits g x.cq.phase))
    let s := s.request i 1 (.grant g.cmdId)
    let s := s.modSess i fun y => { y with grants := y.grants.map fun h =>
      if h.entry.cmdId = g.cmdId then { h with notified := true, deadline := s.now + h.tmo } else h }
    s.notify i 1
  | .completion c =>
    let c := { c with sqHead := fetchedPos x }
    let ring := { ring with timer := some (x.cq.timer.getD (s.now + 1000 * x.modTime)),
                            count := if c.held then x.cq.count else x.cq.count + 1 }
    let s := (s.setSess i { x with cq := ring }).sendPkt i (.ringWrite 1 x.cq.wr (completionBits c x.cq.phase))
    let s := s.request i 1 (.entry c)
    if (c.held && !(ring.waiting.any itemHeld) && s.oldPending i == 0) || decide (x.modCount ≤ ring.count) then s.notify i 1
    else s

/-- Writes waiting items while slots are free (R402, R403); `n` bounds the items written. -/
def State.cqDrain (s : State) (i : Nat) : Nat → State
  | 0 => s
  | n + 1 =>
    let x := s.sess i
    if (x.state == .active || x.state == .closing) && decide (unconsumed x.cq.log2 x.cq.wr x.cq.head + 1 < 2 ^ x.cq.log2) then
      match s.cqReady i with
      | none => s
      | some it => (s.cqWriteOne i it).cqDrain i n
    else s

/-- Puts an item into the completion ring's order and writes what can be written. A held completion goes before every
item that is not held (R306). -/
def State.cqPush (s : State) (i : Nat) (it : CqItem) : State :=
  let s := s.modSess i fun x =>
    let w := x.cq.waiting
    let w := if itemHeld it then w.takeWhile itemHeld ++ it :: w.dropWhile itemHeld else w ++ [it]
    { x with cq := { x.cq with waiting := w } }
  s.cqDrain i ((s.sess i).cq.waiting.length)

/-! ## The event ring (R420-R423) -/

/-- Writes a record into the next slot of the event ring and notifies the ring where it was empty (R423). -/
def State.evWrite (s : State) (i : Nat) (e : EventRec) : State :=
  let x := s.sess i
  let last := x.eq.wr + 1 = 2 ^ x.eq.log2
  let wasEmpty := x.eq.wr = x.eq.head
  let e := { e with pair := s.pair }
  let s := s.stamped
  let s := s.setSess i { x with eq := { x.eq with
    wr := if last then 0 else x.eq.wr + 1, phase := if last then !x.eq.phase else x.eq.phase, fresh := true } }
  let s := (s.sendPkt i (.ringWrite 2 x.eq.wr (eventBits e x.eq.phase))).request i 1 .event
  if wasEmpty then s.notify i 2 else s

/-- Whether a RAISED or HEARTBEAT record finds a slot: one slot is kept back for the CLAIMED record (R422). -/
def evRoom (x : Session) : Bool :=
  decide (unconsumed x.eq.log2 x.eq.wr x.eq.head + 2 < 2 ^ x.eq.log2) && x.eq.deferred.isEmpty && !x.eq.deferredHb &&
    x.eq.waitingClaim.isEmpty

/-- Whether a CLAIMED record finds a slot. -/
def evClaimRoom (x : Session) : Bool :=
  decide (unconsumed x.eq.log2 x.eq.wr x.eq.head + 1 < 2 ^ x.eq.log2)

/-- A RAISED record for a session: written, or deferred and coalesced per source (R422). -/
def State.evRaised (s : State) (i n count : Nat) (v : BitVec 64) : State :=
  let x := s.sess i
  if evRoom x then
    s.evWrite i { source := n, count := count, value := v, pair := s.pair, kind := .raised, overflow := false }
  else s.setSess i { x with eq := { x.eq with deferred := aput x.eq.deferred n (v, count), overflow := true } }

/-- A HEARTBEAT record for a session: written, or deferred (R422). -/
def State.evHeartbeat (s : State) (i : Nat) (tag : BitVec 64) : State :=
  let x := s.sess i
  if evRoom x then
    s.evWrite i { source := 0xFFFF, count := 0, value := tag, pair := s.pair, kind := .heartbeat, overflow := false }
  else s.setSess i { x with eq := { x.eq with deferredHb := true, overflow := true } }

/-! ## Event sources (R410-R419) -/

/-- An event source in IDLE. -/
def idleSource : EvSource := { state := .idle, holder := 0, count := 0, value := 0 }

/-- The event source with a number. -/
def State.src (s : State) (n : Nat) : EvSource := agetD s.evc n idleSource

/-- Replaces an event source. -/
def State.setSrc (s : State) (n : Nat) (e : EvSource) : State := { s with evc := acanon s.evc n idleSource e }

/-- Level sources (Table 11.4). -/
def evcIsLevel (n : Nat) : Bool := n ≤ 6 || (10 ≤ n && n ≤ 13) || n == 17

/-- Sources that exist (Table 11.4). -/
def evcListed (n : Nat) : Bool := n ≤ 18 || (192 ≤ n && n ≤ 255)

/-- The target mask of a source (R412). -/
def State.evcMask (s : State) (n : Nat) : Nat := s.rv64 (.evcMaskLo n) (.evcMaskHi n)

/-- Whether a session is eligible for a source (R412). -/
def State.eligible (s : State) (n i : Nat) : Bool :=
  (s.sess i).state == .active && (s.evcMask n).testBit (s.sess i).group

/-- The sessions that receive the records of a source: eligible and with an event ring (R421). -/
def State.evTargets (s : State) (n : Nat) : List Nat :=
  s.sessIds.filter fun i => s.eligible n i && (s.sess i).events

/-- A source enters PENDING: a RAISED record goes to every eligible session with an event ring (R421). -/
def State.enterPending (s : State) (n : Nat) (v : BitVec 32) : State :=
  let e := s.src n
  let s := s.setSrc n { e with state := .pending, holder := 0 }
  (s.evTargets n).foldl (fun s i => s.evRaised i n (if evcIsLevel n then 0 else e.count) (v.setWidth 64)) s

/-- One event of an edge source: counted, and the source raised where it is IDLE and its mask is not 0 (R411, R416). -/
def State.evcEdge (s : State) (n : Nat) (v : BitVec 32) : State :=
  let e := s.src n
  let s := s.setSrc n { e with count := satInc e.count 255, value := v }
  if e.state = .idle ∧ s.evcMask n ≠ 0 then s.enterPending n v else s

end Sys2Proof.Machine
end

