-- ==== Sys2Proof/Machine/Totals.lean ====
section
/-! DEFINITION. Figures that several blocks read: band and capacity totals (R41, R52, R64), the effective stripe geometry
(R43), the dirty total (R54, R658), tolerances and points (chapter 15). -/

namespace Sys2Proof.Machine

/-- The zone table of a surface. -/
def State.zoneTable (s : State) (surface : Nat) : List Zone := s.sec.pers.zones.getD surface []

/-- Whole bands of a shingled zone (R41). -/
def zoneBands (z : Zone) : Nat := if z.shingled && !z.eclipse then z.trackCount / (z.tracksPerBand + z.guard) else 0

/-- Bands of a surface that may hold stripe rows. -/
def State.surfaceBands (s : State) (surface : Nat) : Nat := ((s.zoneTable surface).map zoneBands).sum

/-- The id of a band (Table 2.2 BAND). -/
def bandId (surface index : Nat) : Nat := surface * 2 ^ 26 + index

/-- The index of the band of a surface that holds a track, if one does: bands are counted through the zones in order, each of
TRACKS_PER_BAND tracks and its guard tracks (R41). -/
def bandIndex : List Zone → Nat → Nat → Option Nat
  | [], _, _ => none
  | z :: zs, track, base =>
    if z.firstTrack ≤ track ∧ track < z.firstTrack + z.trackCount then
      (if 0 < zoneBands z ∧ (track - z.firstTrack) / (z.tracksPerBand + z.guard) < zoneBands z then
         some (base + (track - z.firstTrack) / (z.tracksPerBand + z.guard))
       else none)
    else bandIndex zs track (base + zoneBands z)

/-- The band that holds a track. -/
def State.bandAt (s : State) (surface track : Nat) : Option Nat :=
  (bandIndex (s.zoneTable surface) track 0).map (bandId surface)

/-- A band nothing has been written into. -/
def freeBand : Band := { state := .free, writePos := 0, failures := 0, set := 0 }

/-- A band by id. -/
def State.band (s : State) (id : Nat) : Band := agetD s.plc.bands id freeBand

/-- Changes a band. -/
def State.modBand (s : State) (id : Nat) (f : Band → Band) : State :=
  { s with plc := { s.plc with bands := acanon s.plc.bands id freeBand (f (s.band id)) } }

/-- The state of the band that a track belongs to (Table 2.6): eclipse rings and the conventional zones, where checkpoint, journal and root
bands lie, are RESERVED; a guard track belongs to none (R51). -/
def State.bandStateAt (s : State) (surface track : Nat) : Option BandState :=
  match (s.zoneTable surface).find? fun z => decide (z.firstTrack ≤ track) && decide (track < z.firstTrack + z.trackCount) with
  | none => none
  | some z => if z.eclipse || !z.shingled then some .reserved else (s.bandAt surface track).map fun id => (s.band id).state

/-- The bands of a set, by id. -/
def setBands (b : BandSet) : List Nat := (b.surfaces.zip b.bands).map fun e => bandId e.1 e.2

/-- A member laid in a band of a set is still to be written. -/
def State.bandOwed (s : State) (n id : Nat) : Bool :=
  s.plc.rows.any fun e => e.2.set == n && e.2.members.any fun m => bandId m.surface m.band == id && !m.onMedia

/-- The bands of a closed set that have been written to the end of what was laid in them are FULL (R51, R52). -/
def State.fillBands (s : State) (n : Nat) : State :=
  match aget s.plc.sets n with
  | none => s
  | some b =>
    if b.isOpen then s
    else (setBands b).foldl (fun s id => if s.bandOwed n id then s
      else s.modBand id fun x => if x.state = .open_ then { x with state := .full } else x) s

/-- A band set is closed: no row is formed in it any more. -/
def State.closeSet (s : State) (n : Nat) : State :=
  match aget s.plc.sets n with
  | none => s
  | some b => ({ s with plc := { s.plc with sets := aput s.plc.sets n { b with isOpen := false } } }).fillBands n

/-- Bands of a surface in FREE. -/
def State.freeBands (s : State) (surface : Nat) : Nat :=
  s.surfaceBands surface -
    (s.plc.bands.filter fun e => e.1 / 2 ^ 26 == surface && e.2.state != .free).length

/-- Whether the free bands of some populated surface are below the low mark (R52). -/
def State.bandsLow (s : State) : Bool :=
  (List.range s.surfaces).any fun u => decide (100 * s.freeBands u < s.sec.pers.lowMark * s.surfaceBands u)

/-- Where a block on media lies: band ring, surface, track, sector. -/
def State.recSpot (s : State) (b : BlockRec) : Option (Nat × Nat × Nat × Nat) :=
  match b.place with
  | .landing => none
  | .lost => none
  | .media r m pos =>
    match (s.plc.rows.find? fun e => e.1 == r).map Prod.snd with
    | none => none
    | some row => (row.members[m]?).map fun mem => (mem.band, mem.surface, mem.track, mem.sector + pos)

/-- Extents of a list of mapped blocks in key order: a run of consecutive blocks in consecutive sector positions of one surface counts
once. `k` and `at_` are the block before. -/
def countExtents (k : Nat) (at_ : Nat × Nat × Nat) : List (Nat × Nat × Nat × Nat) → Nat
  | [] => 0
  | (j, u, t, i) :: rest =>
    let next := j = k + 1 ∧ u = at_.1 ∧ ((t = at_.2.1 ∧ i = at_.2.2 + 1) ∨ (t = at_.2.1 + 1 ∧ i = 0))
    (if next then 0 else 1) + countExtents j (u, t, i) rest

/-- Extents in the map (R64). -/
def State.extents (s : State) : Nat :=
  countExtents (2 ^ 80) (0, 0, 0) (s.plc.blocks.filterMap fun e => (s.recSpot e.2).map fun p => (e.1, p.2))

/-- Whether the map region is 90 % full (R64). (DEDUCED, unsafe: log entry 85.) -/
def State.mapNearFull (s : State) : Bool := decide (9 * 2 ^ 32 ≤ 10 * s.extents)

/-- Whether the map region is full (R64). -/
def State.mapFull (s : State) : Bool := decide (2 ^ 32 ≤ s.extents)

/-- The effective width of a row (R43). -/
def State.effW (s : State) : Nat :=
  if s.surfaces < fld (s.rv .plcStripeCfg) 4 0 then s.surfaces else fld (s.rv .plcStripeCfg) 4 0

/-- The effective number of parity members (R43). -/
def State.effP (s : State) : Nat := min (fld (s.rv .plcStripeCfg) 9 8) (s.effW - 1)

/-- The chunk size C (R42, Table 2.5). -/
def State.chunk (s : State) : Nat := 16 * 2 ^ fld (s.rv .plcStripeCfg) 17 16

/-- Raw shingled sectors of a personality (R41). -/
def rawSectors (p : Pers) : Nat :=
  ((p.zones.take p.surfaces).map fun t => (t.map fun z => zoneBands z * z.tracksPerBand * z.spt).sum).sum

/-- USER_CAPACITY of a personality under a geometry (R41). -/
def capacityOf (p : Pers) (w par : Nat) : Nat :=
  let cap := rawSectors p * (w - par) / w * (100 - p.overprov) / 100
  min (2 ^ 36) (cap / 65536 * 65536)

/-- Blocks allocated to namespaces (R385). -/
def State.allocated (s : State) : Nat :=
  (s.plc.spaces.map fun e => if e.2.kind = .absent then 0 else e.2.capacity).sum

/-- Blocks for which headroom is reserved (R56): of every granted reservation of a command not yet accepted. -/
def State.headroom (s : State) : Nat :=
  (s.eqt.cmds.map fun e => match e.2.resv with | some r => if r.granted then r.blocks else 0 | none => 0).sum

/-- Bytes of journal records not yet on media (R658). -/
def State.journalBytes (s : State) : Nat := (s.plc.journal.map fun e => if e.2.onMedia then 0 else e.2.size).sum

/-- The dirty total (R54, R658). (DEDUCED, unsafe: log entry 155.) -/
def State.dirty (s : State) : Nat := 4096 * (s.plc.landing.length + s.headroom) + s.journalBytes

/-- PLC_LANDING_STATUS (Table 2.7): D_max rounded down and the dirty total rounded up, in MiB. -/
def State.landingStatus (s : State) : Word :=
  word [(s.pwr.dmax / 2 ^ 20 % 2 ^ 16, 16), (ceilDiv s.dirty (2 ^ 20) % 2 ^ 16, 0)]

/-- PWR_STAT.STAGE: 0 none, 1-3 a penumbra stage, 4 umbra. -/
def State.stageCode (s : State) : Nat := if s.pwr.umbra then 4 else s.pwr.stage

/-- Admission is held: the dirty total stands above D_max (R60), or PN2 or deeper holds it (Table 15.6). -/
def State.admissionHeld (s : State) : Bool := s.plc.hold || decide (2 ≤ s.stageCode)

/-- The power domains of Table 15.3. -/
inductive Dom where
  | sys | motor | media | core | mem
  deriving DecidableEq, Repr

/-- States of a power domain (R510). -/
inductive DomState where
  | on | gated | retention | off
  deriving DecidableEq, Repr

/-- The point whose column of Table 15.3 holds: once an exit has restarted participant 8, that of Run (R519). -/
def State.domPoint (s : State) : Nat :=
  match s.pwr.change with
  | some (.exiting n _) => if n < 8 then 0 else s.pwr.point
  | _ => s.pwr.point

/-- Table 15.3. -/
def State.domState (s : State) (d : Dom) : DomState :=
  let p := s.domPoint
  match p / 16 with
  | 0 => .on
  | 1 => (match d with | .media => .gated | .core => .gated | _ => .on)
  | 2 => (match d with
    | .sys => .on
    | .motor => if p / 2 % 4 = 2 then .gated else .on
    | .mem => .retention
    | _ => .gated)
  | 3 => (match d with | .sys => .on | .mem => .retention | _ => .off)
  | _ => .off

/-- Whether HBM answers: its domain is on (Table 15.3) and the boot has filled it (R468, R583, R584, R585). -/
def State.hbmUp (s : State) : Bool := s.hbm.inUse != 0 && s.domState .mem == .on

/-- A computation of the conjunction digest is due (R565). -/
def State.conjStart (s : State) : State := { s with tim := { s.tim with busy := true } }

/-- An activation that has not reached step 3 is to be abandoned at its next step (R20). -/
def State.cutActivation (s : State) : State :=
  { s with eqt := { s.eqt with activation := s.eqt.activation.map fun a => { a with cut := a.cut || decide (a.step < 3) } } }

/-- A wake event (R514) or an event that R20 ranks above a power-point entry, by its code of Table 15.11: it abandons an entry at
the next abort point (R516), and begins the exit from a point below Run at once (R519). In Off only WAKE wakes the device. Code 7 is the
recovery from a fault, which R20 ranks above an activation as well. -/
def State.wakeEvent (s : State) (reason : Nat) : State :=
  let s := if reason = 7 then s.cutActivation else s
  match s.pwr.change with
  | some (.entering _ _ _ _ _) => if s.pwr.wake = 0 then { s with pwr := { s.pwr with wake := reason } } else s
  | some (.exiting _ _) => s
  | none =>
    if s.pwr.point = 0 ∨ s.pwr.point = 0x45 ∨ reason = 7 then s
    else { s with pwr := { s.pwr with change := some (.exiting 8 false) } }

/-- The stacks in use, as a list (R480). -/
def State.stacks (s : State) : List Nat := below 4 fun k => s.hbm.inUse.testBit k

end Sys2Proof.Machine
end

