-- ==== Sys2Proof/Machine/Faults.lean ====
section
/-! DEFINITION. The fault collector (chapter 17) up to the reactions that act on other blocks, and the triggers of the
Tail recorder. -/

namespace Sys2Proof.Machine

/-- A fault source of which nothing has been reported. -/
def quietSource : FaultSource := { lost := 0, lostSince := 0, recoveries := 0, faulted := false, lastReport := 0 }

/-- What the collector keeps of a source. -/
def State.fsrc (s : State) (n : Nat) : FaultSource := agetD s.flt.sources n quietSource

/-- Changes what the collector keeps of a source. -/
def State.modFsrc (s : State) (n : Nat) (f : FaultSource → FaultSource) : State :=
  { s with flt := { s.flt with sources := acanon s.flt.sources n quietSource (f (s.fsrc n)) } }

/-- No reactions. -/
def noReactions : Reactions := { event := false, errN := false, nmi := false, blockRst := false, warmRst := false }

/-- The reactions a source's bits give a report (R571). (DEDUCED, unsafe: log entry 31.) -/
def decideReactions (cfg : Word) (severity : Nat) : Reactions :=
  if fld cfg 9 8 ≤ severity then
    { event := bit cfg 0, errN := bit cfg 1, nmi := bit cfg 2, blockRst := bit cfg 3, warmRst := bit cfg 4 }
  else noReactions

/-- Whether a warm reset requested now would come within WARM_HOLD_S of the start of the previous one (R574). -/
def State.warmHeld (s : State) : Bool :=
  match s.flt.lastWarm with
  | none => false
  | some t => decide (s.now < t + 1000000000 * fld (s.rv .fltCfg) 7 0)

/-- The report and its reactions as the collector takes them on arrival: a warm reset that R574 forbids is not performed,
and the report is recorded as FATAL instead. -/
def State.judge (s : State) (r : Report) : Report × Reactions :=
  let d := decideReactions (s.rv (.fltSrc r.source)) r.severity
  if d.warmRst && s.warmHeld then
    let r := { r with severity := 3 }
    (r, { decideReactions (s.rv (.fltSrc r.source)) 3 with warmRst := false })
  else (r, d)

/-- A report that asserts ERR_N whatever becomes of its record (R571, R663). -/
def assertsErr (r : Report) (d : Reactions) : Bool := d.errN || r.severity == 3

/-- A report is lost (R578). -/
def State.faultLost (s : State) (r : Report) (d : Reactions) : State :=
  let s := s.modFsrc r.source fun f => { f with lost := satInc f.lost 0xFFFF, lostSince := satInc f.lostSince 0xFFFF }
  { s with flt := { s.flt with
      lostTotal := satInc s.flt.lostTotal 0xFFFF,
      errnLost := if assertsErr r d then s.flt.errnLost ++ [s.flt.next] else s.flt.errnLost } }

/-- A report arrives (R568, R572): stamped, its reactions decided, put into the buffer of 64 or lost. -/
def State.faultArrive (s : State) (r0 : Report) : State × Report × Reactions :=
  let (r, d) := s.judge r0
  let p := s.pair
  let s := s.stamped
  let s := s.modFsrc r.source fun f => { f with lastReport := s.now, faulted := f.faulted || decide (2 ≤ r.severity) }
  if s.flt.buffer.length < 64 then
    let b := s.flt.buffer ++ [{ rep := r, pair := p, react := d }]
    ({ s with flt := { s.flt with buffer := b, bufMax := max s.flt.bufMax b.length } }, r, d)
  else (s.faultLost r d, r, d)

/-- Unread records (R575). -/
def State.unread (s : State) : Nat := (s.flt.next - s.flt.rd).toNat

/-- Whether a record number lies in the unread range (R575). -/
def State.isUnread (s : State) (n : BitVec 32) : Bool := decide ((n - s.flt.rd).toNat < s.unread)

/-- The newest record of a source. -/
def State.newestOf (s : State) (n : Nat) : Option FaultRecord :=
  (avals s.flt.slots).foldl (fun a r =>
    if r.rep.source = n then
      match a with
      | none => some r
      | some b => if (s.flt.next - r.number).toNat < (s.flt.next - b.number).toNat then some r else a
    else a) none

/-- Unread records that satisfy a test. -/
def State.unreadCount (s : State) (f : FaultRecord → Bool) : Nat :=
  ((avals s.flt.slots).filter fun r => s.isUnread r.number && f r).length

/-- ERR_N is driven low (R571, R663); in RECOVERY it is asserted too (R608). -/
def State.errN (s : State) : Bool :=
  decide (0 < s.unreadCount fun r => assertsErr r.rep r.react) ||
  s.flt.buffer.any (fun b => assertsErr b.rep b.react) || !s.flt.errnLost.isEmpty || s.sec.recovery

/-- Reaction bits folded into a record by a coalesced report: every reaction but EVENT, which a coalesced report does not
take (R572, R577). (DEDUCED, unsafe: log entry 33.) -/
def foldReactions (a b : Reactions) : Reactions :=
  { event := a.event, errN := a.errN || b.errN, nmi := a.nmi || b.nmi, blockRst := a.blockRst || b.blockRst,
    warmRst := a.warmRst || b.warmRst }

/-- Whether a report is folded into the newest record of its source (R577); a RECOVERY record is no report (R581). -/
def State.coalesces (s : State) (b : Stamped) : Option FaultRecord :=
  let coal := fld (s.rv .fltCfg) 15 8
  if b.rep.kind = 0 ∨ b.rep.kind = 63 ∨ b.rep.severity = 3 ∨ coal = 0 then none
  else match s.newestOf b.rep.source with
    | none => none
    | some r => if r.rep.kind = b.rep.kind ∧ s.isUnread r.number ∧ b.pair.time < r.pair.time + 1000000 * coal then some r
      else none

/-! ## Tail triggers (R586, R588) -/

/-- CAPACITY of the Tail ring. -/
def State.tailCapacity (s : State) : Nat := 4096 * fld (s.rv .talCfg) 9 0

/-- Tail capture is powered off: from umbra on in the points that save (Table 15.8 step 4, R530). -/
def State.captureOff (s : State) : Bool := s.pwr.umbra && (s.pwr.point == 0 || s.pwr.point == 0x10)

/-- A Tail trigger is queued, or counted as missed (R588); one that finds capture powered off is missed. -/
def State.tailTrigger (s : State) (t : TailTrigger) : State :=
  if bit (s.rv .talCfg) 31 && s.tal.capturing.isNone && !s.tal.full && !s.captureOff then
    { s with tal := { s.tal with capturing := some t } }
  else if bit (s.rv .talCfg) 31 && decide (s.tal.queue.length < 16) && !s.tal.full && !s.captureOff then
    { s with tal := { s.tal with queue := s.tal.queue ++ [t] } }
  else { s with tal := { s.tal with missed := satInc s.tal.missed 0xFFFF } }.report 320 2 s.tal.nextSlot 0

/-- A trigger that is not a fault: the pair is stamped at the trigger (Table 17.7). -/
def State.tailPlain (s : State) (kind list : Nat) : State :=
  (s.stamped).tailTrigger { trigger := kind, list := list, fault := 0xFFFF, pair := s.pair, faultRec := 0 }

/-- Writes a new record (Table 17.5). -/
def State.putRecord (s : State) (b : Stamped) : State :=
  let n := s.flt.next
  let f := s.fsrc b.rep.source
  let rec_ : FaultRecord := {
    rep := b.rep, react := b.react, coalesced := 0, pair := b.pair, lost := f.lostSince,
    number := n, poisoned := false }
  let s := s.modFsrc b.rep.source fun f => { f with lostSince := 0 }
  let s := { s with flt := { s.flt with slots := aput s.flt.slots (n.toNat % 4096) rec_, next := n + 1 } }
  if bit (s.rv (.fltSrc b.rep.source)) 26 && b.rep.kind != 0 then
    s.tailTrigger {
      trigger := 1, list := fld (s.rv (.fltSrc b.rep.source)) 25 24,
      fault := BitVec.ofNat 16 (b.rep.source + 1024 * b.rep.kind), pair := b.pair, faultRec := n }
  else s

/-- The first buffered report is coalesced, recorded or lost (R576-R579). -/
def State.recordOne (s : State) : State :=
  match s.flt.buffer with
  | [] => s
  | b :: rest =>
    let s := { s with flt := { s.flt with buffer := rest } }
    match s.coalesces b with
    | some r =>
      let r := { r with coalesced := satInc r.coalesced 0xFFFF, react := foldReactions r.react b.react }
      { s with flt := { s.flt with slots := aput s.flt.slots (r.number.toNat % 4096) r } }
    | none =>
      if s.unread = 4096 then
        if b.rep.severity = 3 then
          ({ s with flt := { s.flt with rd := s.flt.rd + 1, overwritten := satInc s.flt.overwritten 0xFFFF } }).putRecord b
        else s.faultLost b.rep b.react
      else s.putRecord b

/-- FLT_RD moves: records before it are read, and lost reports it has reached no longer hold ERR_N (R575, R663). -/
def State.moveRead (s : State) (v : BitVec 32) : State :=
  { s with flt := { s.flt with rd := v, errnLost := s.flt.errnLost.filter fun x => decide (2 ^ 31 ≤ (v - x).toNat) } }

/-- Whether a write of FLT_RD is within READ to FLT_NEXT (R575). -/
def State.readInRange (s : State) (v : BitVec 32) : Bool := decide ((v - s.flt.rd).toNat ≤ s.unread)

end Sys2Proof.Machine
end

