-- ==== Sys2Proof/Machine/Events.lean ====
section
/-! DEFINITION. The event controller (chapter 11): conditions and snapshots of level sources, raising, claiming,
releasing and completing, and the doorbell of the event ring. -/

namespace Sys2Proof.Machine

/-- The time state code (Table 16.1). -/
def timeCode : TimeState → Nat
  | .locked => 0 | .unset => 1 | .acquiring => 2 | .holdover => 3 | .slewing => 4 | .free => 5

/-- The unread records with EVENT, or the unread FATAL records (R575). -/
def State.eventRecords (s : State) : Nat := s.unreadCount fun r => r.react.event

/-- Unread FATAL records. -/
def State.fatalRecords (s : State) : Nat := s.unreadCount fun r => r.rep.severity == 3

/-- The ports that are enabled and whose link is down (source 5). (DEDUCED, unsafe: log entry 29.) -/
def State.portsDown (s : State) : Nat :=
  ((below 2 fun p => bit (s.rv (.ethCfg p)) 31 && !(s.port p).link).map (2 ^ ·)).sum

/-- Actuators in RETRACT (bits [7:4]) and OUT_OF_USE (bits [3:0]) (source 4). -/
def State.actuatorMask (s : State) : Nat :=
  ((List.range 4).map fun a => match aget s.sce.acts a with
    | some x => (if x.state = .outOfUse then 2 ^ a else 0) + (if x.state = .retract then 2 ^ (a + 4) else 0)
    | none => 0).sum

/-- Transit lock state code (Table 7.3). -/
def tlCode : TlState → Nat
  | .off => 0 | .wait => 1 | .acquire => 2 | .locked => 3 | .holdover => 4

/-- SPN_TL_STAT (Table 7.8). -/
def State.tlStat (s : State) : Word :=
  word [(tlCode s.spn.tlState, 29), (b2n s.spn.lockLoss, 28), (s.spn.syncBad, 16), (wrapBits 16 s.spn.phErr, 0)]

/-- Whether the condition of a level source holds (Table 11.4). -/
def State.levelHolds (s : State) (n : Nat) : Bool :=
  match n with
  | 0 => decide (0 < s.fatalRecords)
  | 1 => decide (0 < s.stageCode)
  | 2 => s.plc.hold
  | 3 => s.hbm.failed != 0 && !s.hbm.redundant
  | 4 => s.actuatorMask != 0
  | 5 => s.portsDown != 0
  | 6 => decide (0 < s.eventRecords)
  | 10 => s.tim.state != .locked
  | 11 => fld (s.rv .spnTlCfg) 31 30 != 0 && s.spn.tlState != .locked
  | 12 => s.pin.thermHot
  | 13 => s.mapNearFull || s.bandsLow
  | 17 => s.tal.full
  | _ => false

/-- The snapshot of a level source (Table 11.4). -/
def State.levelSnapshot (s : State) (n : Nat) : BitVec 32 :=
  match n with
  | 0 => BitVec.ofNat 32 s.fatalRecords
  | 1 => BitVec.ofNat 32 s.stageCode
  | 2 => s.landingStatus
  | 3 => BitVec.ofNat 32 s.hbm.failed
  | 4 => BitVec.ofNat 32 s.actuatorMask
  | 5 => BitVec.ofNat 32 s.portsDown
  | 6 => BitVec.ofNat 32 s.eventRecords
  | 10 => BitVec.ofNat 32 (timeCode s.tim.state)
  | 11 => s.tlStat
  | 12 => BitVec.ofNat 32 s.pin.tempC
  | 13 => BitVec.ofNat 32 (b2n s.mapNearFull + 2 * b2n s.bandsLow)
  | _ => 0

/-- The snapshot a claim of the source takes (R415, R416). -/
def State.snapshot (s : State) (n : Nat) : BitVec 32 := if evcIsLevel n then s.levelSnapshot n else (s.src n).value

/-- A level source is looked at again after its condition may have changed: IDLE, holding and targeted, it enters PENDING
(Table 11.5). -/
def State.evcLevel (s : State) (n : Nat) : State :=
  if (s.src n).state = .idle ∧ s.levelHolds n ∧ s.evcMask n ≠ 0 then s.enterPending n (s.levelSnapshot n) else s

/-- The level sources (Table 11.4). -/
def levelSources : List Nat := [0, 1, 2, 3, 4, 5, 6, 10, 11, 12, 13, 17]

/-- Every level source is looked at again: none stays IDLE while its condition holds and its mask is not 0 (R410, Table 11.5).
(DEDUCED, unsafe: log entry 26.) -/
def State.noteLevels (s : State) : State := if s.sec.booted then levelSources.foldl State.evcLevel s else s

/-- The source a session holds, if any: claims do not nest (R414). -/
def State.heldSource (s : State) (i : Nat) : Option Nat :=
  (s.evc.find? fun e => e.2.state == .claimed && e.2.holder == i).map Prod.fst

/-- The source a claim obtains (R413): the one wanted, or the lowest-numbered one that is PENDING and eligible. -/
def State.claimable (s : State) (i want : Nat) : Option Nat :=
  if (s.heldSource i).isSome then none
  else
    ((s.evc.filter fun e => e.2.state == .pending && s.eligible e.1 i && (want == 0xFFFF || want == e.1)).map Prod.fst).head?

/-- A claim obtains a source (R413, R416, R421): COUNT goes into the CLAIMED record and returns to 0. Answers the state and
whether the CLAIMED record has to wait for a slot (R422). (DEDUCED, unsafe: log entry 30.) -/
def State.claim (s : State) (i n : Nat) : State × Bool :=
  let e := s.src n
  let v := s.snapshot n
  let r : EventRec := { source := n, count := if evcIsLevel n then 0 else e.count, value := v.setWidth 64, pair := s.pair,
                        kind := .claimed, overflow := false }
  let s := s.setSrc n { e with state := .claimed, holder := i, count := 0 }
  if (s.sess i).events then
    if evClaimRoom (s.sess i) then (s.evWrite i r, false)
    else (s.modSess i fun x => { x with eq := { x.eq with waitingClaim := x.eq.waitingClaim ++ [r] } }, true)
  else (s, false)

/-- A claim is released and its source returns to PENDING (R418). -/
def State.releaseClaim (s : State) (n : Nat) : State :=
  if (s.src n).state = .claimed then s.enterPending n (s.snapshot n) else s

/-- Releases the claim a session holds (R418). -/
def State.releaseClaimOf (s : State) (i : Nat) : State :=
  match s.heldSource i with
  | none => s
  | some n => s.releaseClaim n

/-- COMPLETE_EVENT by the holder (Table 11.5). -/
def State.completeEvent (s : State) (n : Nat) : State :=
  let again := if evcIsLevel n then s.levelHolds n else decide ((s.src n).count ≠ 0)
  if again then s.enterPending n (s.snapshot n) else s.setSrc n { s.src n with state := .idle, holder := 0 }

/-- A new target mask takes effect (R411, R418, R419): the source becomes IDLE where the mask is 0, its claim is released
where the holder's group lost its bit, it is raised where it was waiting for a mask, and sessions that have just become
eligible receive RAISED records. (DEDUCED, unsafe: log entry 25.) -/
def State.maskChanged (s : State) (n : Nat) (oldMask : Nat) : State :=
  let new := s.evcMask n
  if !evcListed n then s
  else match (s.src n).state with
  | .idle =>
    if new ≠ 0 then
      if evcIsLevel n then s.evcLevel n
      else if (s.src n).count ≠ 0 then s.enterPending n (s.src n).value else s
    else s
  | .pending =>
    if new = 0 then s.setSrc n { s.src n with state := .idle, holder := 0 }
    else
      ((s.evTargets n).filter fun i => !oldMask.testBit (s.sess i).group).foldl
        (fun s i => s.evRaised i n (if evcIsLevel n then 0 else (s.src n).count) ((s.snapshot n).setWidth 64)) s
  | .claimed =>
    if new.testBit (s.sess (s.src n).holder).group then s else s.releaseClaim n

/-- Writes CLAIMED records that wait, while slots are free; answers the number written. -/
def State.evWaiting (s : State) (i : Nat) : Nat → State
  | 0 => s
  | n + 1 =>
    match (s.sess i).eq.waitingClaim with
    | [] => s
    | r :: rest =>
      if evClaimRoom (s.sess i) then
        ((s.modSess i fun x => { x with eq := { x.eq with waitingClaim := rest } }).evWrite i r).evWaiting i n
      else s

/-- Writes deferred RAISED records in source-number order, then the deferred heartbeat, as slots are free; a record of a
source that has left PENDING is discarded, and the first record written has OVERFLOW set (R422). -/
def State.evDeferred (s : State) (i : Nat) : Nat → State
  | 0 => s
  | n + 1 =>
    let x := s.sess i
    let room := decide (unconsumed x.eq.log2 x.eq.wr x.eq.head + 2 < 2 ^ x.eq.log2)
    match x.eq.deferred with
    | (k, v, c) :: rest =>
      if (s.src k).state ≠ .pending then
        (s.setSess i { x with eq := { x.eq with deferred := rest } }).evDeferred i n
      else if room then
        let s := s.setSess i { x with eq := { x.eq with deferred := rest, overflow := false } }
        (s.evWrite i { source := k, count := c, value := v, pair := s.pair, kind := .raised,
                       overflow := x.eq.overflow }).evDeferred i n
      else s
    | [] =>
      if x.eq.deferredHb && room then
        let s := s.setSess i { x with eq := { x.eq with deferredHb := false, overflow := false } }
        s.evWrite i { source := 0xFFFF, count := 0, value := (s.tim.digest.extractLsb' 0 64), pair := s.pair,
                      kind := .heartbeat, overflow := x.eq.overflow }
      else s

/-- The host's head of the event ring moves (R420, R422, R423): waiting CLAIMED records go first, then deferred records,
and the ring is notified where records remain. -/
def State.evHead (s : State) (i idx : Nat) : State :=
  let s := s.modSess i fun x => { x with eq := { x.eq with head := idx } }
  let s := s.evWaiting i ((s.sess i).eq.waitingClaim.length)
  let s := s.evDeferred i ((s.sess i).eq.deferred.length + 1)
  if (s.sess i).eq.wr ≠ idx then s.notify i 2 else s

end Sys2Proof.Machine
end

