-- ==== Sys2Proof/Machine/Landing.lean ====
section
/-! DEFINITION. The logical block store (chapter 2): what a block reads as, accepting effects, landing space, the journal,
admission hold, and the zones of ZONED namespaces. -/

namespace Sys2Proof.Machine

/-- The key of a block of a namespace. -/
def blockKey (nsid lba : Nat) : Nat := nsid * 2 ^ 64 + lba

/-- A namespace index that holds nothing. -/
def absentNs : Namespace := { kind := .absent, capacity := 0, key := 0, zones := [] }

/-- The namespace with an index. -/
def State.ns (s : State) (n : Nat) : Namespace := agetD s.plc.spaces n absentNs

/-- Changes a namespace. -/
def State.modNs (s : State) (n : Nat) (f : Namespace → Namespace) : State :=
  { s with plc := { s.plc with spaces := acanon s.plc.spaces n absentNs (f (s.ns n)) } }

/-- What a block reads as: its newest accepted effect, or the deallocated pattern (R55, R368). -/
def State.readBlock (s : State) (nsid lba : Nat) : BlockVal :=
  match aget s.plc.blocks (blockKey nsid lba) with
  | some b => b.val
  | none => zeroBlock lba

/-- Whether the newest effect of a block is held on media alone. -/
def State.blockOnMedia (s : State) (nsid lba : Nat) : Bool :=
  match aget s.plc.blocks (blockKey nsid lba) with
  | some b => match b.place with | .media _ _ _ => true | .landing => false | .lost => false
  | none => false

/-- Whether the newest effect of a block was lost at a replay (R543). -/
def State.blockLost (s : State) (nsid lba : Nat) : Bool :=
  match aget s.plc.blocks (blockKey nsid lba) with
  | some b => b.place == .lost
  | none => false

/-- Bytes one landing copy of a block occupies: its user data and host protection (R54, R56). -/
def landCopyBytes : Nat := 4160

/-- Landing space of one stack: 4 GiB over the stacks in use (Table 13.1, R452). (DESIGN CHOICE, unsafe: log entry 133.) -/
def State.landCap (s : State) : Nat := 2 ^ 32 / s.stacks.length

/-- Landing bytes in use in a stack, reservations included. -/
def State.landUsed (s : State) (k : Nat) : Nat :=
  landCopyBytes * (s.plc.landing.filter fun b => b.stackA == k || (b.stackB == k && !b.missing)).length +
  landCopyBytes * (s.eqt.cmds.map fun e => match e.2.resv with
    | some r => if r.granted && (r.stackA == k || r.stackB == k) then r.blocks else 0
    | none => 0).sum

/-- Whether a reservation of some blocks fits now (R27, R56): landing space in both stacks, headroom under D_max, and room in
the map for a PLACED namespace (R64). -/
def State.resvFits (s : State) (blocks sa sb : Nat) (placed : Bool) : Bool :=
  sa != sb && s.stacks.contains sa && s.stacks.contains sb &&
  decide (s.landUsed sa + landCopyBytes * blocks ≤ s.landCap) &&
  decide (s.landUsed sb + landCopyBytes * blocks ≤ s.landCap) &&
  decide (s.dirty + 4096 * blocks ≤ s.pwr.dmax) && !(placed && s.mapFull)

/-- The dirty total is held against D_max again: admission hold begins or ends, and event source 2 is looked at (R60).
(DEDUCED, unsafe: log entry 28.) -/
def State.checkHold (s : State) : State :=
  ({ s with plc := { s.plc with hold := decide (s.pwr.dmax < s.dirty) } }).evcLevel 2

/-- One block version goes into the landing area and becomes the block's newest effect (R54, R367). -/
def State.landBlock (s : State) (nsid lba : Nat) (v : BlockVal) (p : Pair) (sa sb : Nat) : State :=
  { s with plc := { s.plc with
      blocks := aput s.plc.blocks (blockKey nsid lba) { val := v, pair := p, place := .landing },
      landing := s.plc.landing ++ [{ key := blockKey nsid lba, val := v, pair := p, stackA := sa, stackB := sb,
                                     missing := false, row := none, dead := false, avoid := none }] } }

/-- The blocks of a run go into the landing area in order. -/
def State.landRun (s : State) (nsid lba : Nat) (vs : List BlockVal) (p : Pair) (sa sb : Nat) : State :=
  match vs with
  | [] => s
  | v :: rest => (s.landBlock nsid lba v p sa sb).landRun nsid (lba + 1) rest p sa sb

/-- The blocks of a range lose their newest effect: they read under R55 from now on. -/
def State.dropRange (s : State) (nsid lba nblk : Nat) : State :=
  let hit (k : Nat) : Bool := decide (blockKey nsid lba ≤ k) && decide (k < blockKey nsid (lba + nblk))
  { s with plc := { s.plc with
      blocks := afilter s.plc.blocks fun k _ => !hit k,
      landing := s.plc.landing.map fun b => if hit b.key then { b with dead := true } else b } }

/-- Stored size of a journal record: the manual states no length (R658), so it is an open value of the record. -/
def State.jrnSize (s : State) : Nat := Config.openNat s.free

/-- The two journal mirrors stand in stacks 0 and 1, or in the two lowest stacks in use (Table 13.1, R452, R481). -/
def State.jrnStacks (s : State) : Nat × Nat :=
  match s.stacks with
  | a :: b :: _ => (a, b)
  | _ => (0, 1)

/-- A journal record is created in both mirrors with a time pair (R63-R65); `owner` is the command whose completion waits
for it. -/
def State.journal (s : State) (e : JEffect) (owner : Option Nat) : State :=
  let (a, b) := s.jrnStacks
  let r : JRec := { pair := s.pair, size := s.jrnSize, effect := e, stackA := a, stackB := b, missing := false,
                    onMedia := false, spots := [], owner := owner }
  let s := (s.stamped).freeUsed
  { s with plc := { s.plc with journal := aput s.plc.journal s.plc.nextJrn r, nextJrn := s.plc.nextJrn + 1 } }

/-! ## Zones (R36-R40, R361, R363) -/

/-- Blocks of a zone. -/
def zoneBlocks : Nat := 65536

/-- A zone nothing has been written into. -/
def emptyZone : ZoneRec := { state := .empty, wp := 0, lastWrite := 0 }

/-- A zone of a namespace. -/
def State.zone (s : State) (n z : Nat) : ZoneRec := agetD (s.ns n).zones z emptyZone

/-- Replaces a zone of a namespace. -/
def State.setZone (s : State) (n z : Nat) (r : ZoneRec) : State :=
  s.modNs n fun x => { x with zones := acanon x.zones z emptyZone r }

/-- Every OPEN zone of the device: namespace, zone, order of its last write. -/
def State.openZones (s : State) : List (Nat × Nat × Nat) :=
  s.plc.spaces.flatMap fun e => (e.2.zones.filter fun z => z.2.state == .open_).map fun z => (e.1, z.1, z.2.lastWrite)

/-- The least recently written zone of a list. -/
def oldestZone (l : List (Nat × Nat × Nat)) : Option (Nat × Nat × Nat) :=
  l.foldl (fun a z => match a with
    | none => some z
    | some b => if z.2.2 < b.2.2 then some z else some b) none

/-- The status a write to a ZONED namespace fails with, if any (R363), in the order of that rule. -/
def State.zoneWriteStatus (s : State) (n lba nblk : Nat) : Option (BitVec 16) :=
  let z := lba / zoneBlocks
  let r := s.zone n z
  if r.state = .full then some 0x0103
  else if lba % zoneBlocks ≠ r.wp then some 0x0101
  else if zoneBlocks < r.wp + nblk then some 0x0102
  else none

/-- The write pointer of a zone moves to an offset (R37, R38): the zone is OPEN or FULL, and where more than 1,024 zones would be OPEN the
least recently written one is closed. -/
def State.zoneAdvance (s : State) (n z wp : Nat) : State :=
  let others := s.openZones.filter fun t => !(t.1 == n && t.2.1 == z)
  let full := wp = zoneBlocks
  let s := if full ∨ others.length < 1024 then s
    else match oldestZone others with
      | none => s
      | some t => s.setZone t.1 t.2.1 { s.zone t.1 t.2.1 with state := .closed }
  let s := s.setZone n z { state := if full then .full else .open_, wp := wp, lastWrite := s.plc.zoneClock }
  { s with plc := { s.plc with zoneClock := s.plc.zoneClock + 1 } }

/-- A write to a zone is accepted (R37, R40): its write pointer moves by the blocks written. -/
def State.zoneWrote (s : State) (n lba nblk : Nat) : State :=
  s.zoneAdvance n (lba / zoneBlocks) ((s.zone n (lba / zoneBlocks)).wp + nblk)

/-- What a zone action does to a zone (Table 10.8): the new state, or none where the action gives ZONE_STATE. 0 CLOSE,
1 FINISH, 2 RESET. -/
def zoneAction (action : Nat) (st : ZState) : Option ZState :=
  match action, st with
  | 0, .open_ => some .closed
  | 0, .closed => some .closed
  | 0, _ => none
  | 1, _ => some .full
  | 2, _ => some .empty
  | _, _ => none

/-- A zone action takes effect on one zone (R361). -/
def State.zoneApply (s : State) (action n z : Nat) : State :=
  let r := s.zone n z
  match zoneAction action r.state with
  | none => s
  | some st =>
    if action = 2 then (s.setZone n z emptyZone).dropRange n (z * zoneBlocks) zoneBlocks
    else if action = 1 then s.setZone n z { r with state := st, wp := zoneBlocks }
    else s.setZone n z { r with state := st }

/-- The zones a zone action changes: the one named, or with ALL every zone of the namespace for which Table 10.8 gives a
change. -/
def State.zoneTargets (s : State) (action n lba : Nat) (all : Bool) : List Nat :=
  if all then
    (List.range ((s.ns n).capacity / zoneBlocks)).filter fun z =>
      match zoneAction action (s.zone n z).state with
      | some st => st != (s.zone n z).state
      | none => false
  else [lba / zoneBlocks]

end Sys2Proof.Machine
end

