-- ==== Sys2Proof/Machine/Dmax.lean ====
section
/-! DEFINITION. D_max(t) (R27, R532, R533): how much unplaced data an eclipse save that began now could carry. -/

namespace Sys2Proof.Machine

/-- An actuator at cold power-on: unloaded. -/
def restingAct : Act :=
  { state := .unloaded, lastFault := 0, xRef := 0, xKnown := false, direction := 0, traj := none, goTime := 0,
    timeouts := 0, stateSince := 0, settleRun := 0, handover := 0, tPlan := 0, aPeak := 0, lastVcmIn := 0,
    lostRun := 0, sampleAt := none, began := none, commands := [], command := 0, current := 0, integ := 0, duty := 0, diffRun := 0, stageOn := true,
    headsOn := false, faultAt := none, reloadDue := none, retireAfter := false, seekTo := 0, velocity := 0, slowSince := none }

/-- The actuator with an index. -/
def State.act (s : State) (a : Nat) : Act := agetD s.sce.acts a restingAct

/-- Replaces an actuator. -/
def State.setAct (s : State) (a : Nat) (x : Act) : State :=
  { s with sce := { s.sce with acts := acanon s.sce.acts a restingAct x } }

/-- Changes an actuator. -/
def State.modAct (s : State) (a : Nat) (f : Act → Act) : State := s.setAct a (f (s.act a))

/-- π to 18 decimal places. (DESIGN CHOICE, unsafe: log entry 105.) -/
def piRat : Rat := 3141592653589793238 / 1000000000000000000

/-- The eclipse ring zones of every populated surface, a list for each surface (R70). -/
def ringZones (p : Pers) : List (List Zone) := (p.zones.take p.surfaces).map fun t => t.filter (·.eclipse)

/-- The least of a list of numbers, 0 of none. -/
def leastOf (l : List Nat) : Nat := (l.min?).getD 0

/-- Capacity in bytes of ring j across the populated surfaces. -/
def ringCapacity (p : Pers) (j : Nat) : Nat :=
  ((ringZones p).map fun t => match t[j]? with | some z => z.trackCount * z.spt * 4096 | none => 0).sum

/-- Half the capacity of the smallest ring (R72). -/
def ringHalf (p : Pers) : Nat := leastOf ((List.range 3).map (ringCapacity p)) / 2

/-- Capacity in bytes of one actuator's quarter of one generation area on two surfaces of the smallest ring (R532, R536). -/
def ringQuarter (p : Pers) : Nat :=
  leastOf (((ringZones p).flatten).map fun z => z.trackCount / 2 / 4 * z.spt * 2 * 4096)

/-- Number of actuators in SEEKING, SETTLING or FOLLOWING (R532). -/
def State.nAct (s : State) : Nat :=
  (below 4 fun a => (s.act a).state == .seeking || (s.act a).state == .settling || (s.act a).state == .following).length

/-- s_min of R532 in rpm. -/
def sMin (p : Pers) : Rat :=
  let f : Rat := (p.spindle.formatRpm : Rat)
  let r : Rat := (leastOf (((ringZones p).flatten).map (·.symbolRate)) : Rat)
  max (f * 3 / 5) (f * 800 / r)

/-- t_save of R532 in seconds. -/
def State.tSaveRat (s : State) : Rat :=
  let p := s.sec.pers
  let e := p.eclipse
  let sp : Rat := (s.spn.speed : Rat) / 16
  let f : Rat := (p.spindle.formatRpm : Rat)
  let w : Rat := 2 * piRat * sp / 60
  let wm : Rat := 2 * piRat * sMin p / 60
  let energy : Rat := (e.inertia : Rat) / 10000000 / 2 * (w * w - wm * wm) - (e.ePark : Rat) / 1000
  let use_ : Rat := if s.stageCode < 2 then energy + (e.eHoldup : Rat) / 1000 else energy
  let power : Rat := (e.pWind : Rat) / 1000 * (sp / f) * (sp / f) * (sp / f) + (e.pElec : Rat) / 1000
  use_ / power - (e.tReach : Rat) / 1000000

/-- The data rate of a save in bytes per second (R532). -/
def State.saveRate (s : State) : Rat :=
  let p := s.sec.pers
  let k : Rat := (leastOf (((ringZones p).flatten).map (·.spt)) : Rat)
  2 * (s.nAct : Rat) * k * 4096 * (128 / 129) * (((s.spn.speed : Rat) / 16 + sMin p) / 2) / 60

/-- D_max(t) in bytes (R532, R533), rounded down to a whole byte. -/
def State.dmaxNow (s : State) : Nat :=
  let p := s.sec.pers
  if s.spn.state ≠ .atSpeed ∨ 0x10 < s.pwr.point then 0
  else
    let d : Rat := s.saveRate * s.tSaveRat * (100 - (p.eclipse.margin : Rat)) / 100
    let limit : Rat := (min (ringHalf p) (s.nAct * ringQuarter p) : Nat)
    (max 0 (min d limit)).floor.toNat

/-- T_SAVE of the POWER log: t_save in whole microseconds, 0 where it is negative. -/
def State.tSaveUs (s : State) : Nat := (max 0 (s.tSaveRat * 1000000)).floor.toNat

/-- The device recomputes D_max(t); admission is held again where the dirty total stands above it (R60, R533). -/
def State.recomputeDmax (s : State) : State :=
  ({ s with pwr := { s.pwr with dmax := s.dmaxNow, tSave := s.tSaveUs } }).checkHold

end Sys2Proof.Machine
end

