-- ==== Sys2Proof/Machine/OrbitQueue.lean ====
section
/-! DEFINITION. Orbit's queue (chapter 12): classes and aging limits, making pieces, grouping the runs of a READ-class
command and assigning the groups to actuators. -/

namespace Sys2Proof.Machine

/-- An actuator with no turn yet. -/
def idleTurn : Turn :=
  { number := 0, busy := false, served := [], target := 0, longSeeks := [], overaged := 0, quiet := 0 }

/-- Orbit's view of an actuator. -/
def State.turn (s : State) (a : Nat) : Turn := agetD s.orb.turns a idleTurn

/-- Changes Orbit's view of an actuator. -/
def State.modTurn (s : State) (a : Nat) (f : Turn → Turn) : State :=
  { s with orb := { s.orb with turns := acanon s.orb.turns a idleTurn (f (s.turn a)) } }

/-- AGE of a QOS class (Table 12.5). -/
def State.age (s : State) (q : Nat) : Nat := fld (s.rv (.orbQos q)) 21 16 + 1

/-- PENALTY of a QOS class, in ns. -/
def State.penalty (s : State) (q : Nat) : Nat := 1000 * fld (s.rv (.orbQos q)) 15 0

/-- Free bands on some populated surface are below one quarter of the low mark (Table 12.1). -/
def State.bandsVeryLow (s : State) : Bool :=
  (List.range s.surfaces).any fun u => decide (400 * s.freeBands u < s.sec.pers.lowMark * s.surfaceBands u)

/-- The class of a piece (Table 12.1, R436); with the map 90 % full its rewriting goes ahead of other drive-managed work (R64). -/
def State.pieceClass (s : State) (p : Piece) : Nat :=
  match p.kind with
  | .host => p.cls
  | .ladder | .journal | .verify => 0
  | .placement => if s.admissionHeld then 0 else fld (s.rv .orbCfg) 9 8
  | .reclaim => if s.bandsVeryLow || s.mapNearFull then 0 else fld (s.rv .orbCfg) 5 4

/-- The aging limit of a piece (Table 12.1, R436): AGE of its class as it stood when the piece became eligible (Table 12.5). -/
def State.pieceLimit (s : State) (p : Piece) : Nat :=
  let age := p.ages.getD (s.pieceClass p) (s.age (s.pieceClass p))
  match p.kind with
  | .ladder => 0
  | .placement => if s.admissionHeld then 1 else age
  | _ => age

/-- The actuators not out of use (R429). -/
def State.actsInUse (s : State) : List Nat :=
  below 4 fun a => match aget s.sce.acts a with
    | some x => x.state != .outOfUse
    | none => true

/-- The device's estimate of an actuator's access to a sector (R429, R434). -/
def State.estimate (s : State) (a surface track sector : Nat) : Nat :=
  Config.accessEstimate a (s.turn a).target surface track sector

/-- The member of a list with the least figure, the first of equals. -/
def argMin (l : List Nat) (f : Nat → Nat) : Option Nat :=
  l.foldl (fun b a => match b with
    | none => some a
    | some c => if f a < f c then some a else some c) none

/-- The actuator a group goes to (R429): the shortest estimated access among the actuators that have no group of the
command yet, or among all once each has one; an actuator with a head out of use on one of the surfaces is passed over (R75), unless every
actuator has one. -/
def State.pickActuator (s : State) (used surfaces : List Nat) (track sector : Nat) : Nat :=
  let headOk (a u : Nat) : Bool := match aget s.wrp.heads (18 * a + u) with | some h => !h.out | none => true
  let able := s.actsInUse.filter fun a => surfaces.all (headOk a)
  let some_ := s.actsInUse.filter fun a => headOk a (surfaces.headD 0)
  let all := if !able.isEmpty then able else if !some_.isEmpty then some_ else s.actsInUse
  let fresh := all.filter fun a => !used.contains a
  ((argMin (if fresh.isEmpty then all else fresh) fun a => s.estimate a (surfaces.headD 0) track sector).getD 0)

/-- A piece joins the queue of its actuator: its count starts at 1 where a turn is in progress there (R430). -/
def State.addPiece (s : State) (p : Piece) : State :=
  let p := { p with count := if (s.turn p.act).busy then 1 else 0, ages := (List.range 4).map s.age, dueAt := none }
  let p := { p with dueAt := if s.pieceLimit p ≤ p.count ∧ p.kind ≠ .verify then some (s.turn p.act).number else none }
  { s with orb := { s.orb with pieces := aput s.orb.pieces s.orb.nextPiece p, nextPiece := s.orb.nextPiece + 1 } }

/-- Where a block on media lies: band ring, surface, track, sector. -/
def State.blockSpot (s : State) (key : Nat) : Option (Nat × Nat × Nat × Nat) :=
  match aget s.plc.blocks key with
  | none => none
  | some b => s.recSpot b

/-- Where the sector lies that a read is bound to (R117): band ring, surface, track, sector. -/
def State.boundSpot (s : State) (b : Bound) : Option (Nat × Nat × Nat × Nat) :=
  match b.spot with
  | none => none
  | some (n, k, pos) => match aget s.plc.rows n with
    | none => none
    | some row => (row.members[k]?).map fun m => (m.band, m.surface, m.track, m.sector + pos)

/-- A group of runs in one band ring: ring, surfaces, first track and sector, items. -/
structure Group where
  ring : Nat
  surfaces : List Nat
  track : Nat
  sector : Nat
  items : List Nat
  deriving DecidableEq, Repr

/-- Puts one block into the groups of its band ring, at most four surfaces to a group (R429) and at most `cap` sectors to
a head (R426). -/
def joinGroup (cap : Nat) (gs : List Group) (item ring surface track sector : Nat) : List Group :=
  match gs with
  | [] => [{ ring := ring, surfaces := [surface], track := track, sector := sector, items := [item] }]
  | g :: rest =>
    if g.ring = ring ∧ g.items.length < cap * g.surfaces.length ∧ (g.surfaces.contains surface ∨ g.surfaces.length < 4) then
      { g with surfaces := if g.surfaces.contains surface then g.surfaces else g.surfaces ++ [surface],
               items := g.items ++ [item] } :: rest
    else g :: joinGroup cap rest item ring surface track sector

/-- The groups of a command's blocks that need a media read (R429). -/
def State.groupsOf (s : State) (bound : List Bound) : List Group :=
  let cap := fld (s.rv .orbCfg) 28 16
  (bound.zipIdx.filter fun b => b.1.onMedia && !b.1.got).foldl (fun gs b =>
    match s.boundSpot b.1 with
    | none => gs
    | some (ring, surface, track, sector) => joinGroup cap gs b.2 ring surface track sector) []

/-- Assigns groups to actuators and queues their pieces (R429). -/
def State.queueGroups (s : State) (tag cls : Nat) (pair : Pair) (used : List Nat) : List Group → State
  | [] => s
  | g :: rest =>
    let a := s.pickActuator used g.surfaces g.track g.sector
    let p : Piece := { kind := .host, owner := tag, items := g.items, act := a, surfaces := g.surfaces, track := g.track,
                       sector := g.sector, cls := cls, count := 0, ages := [], dueAt := none, pair := pair, head := none }
    (s.addPiece p).queueGroups tag cls pair (a :: used) rest

/-- The media reads of a READ-class command or of a COPY's source are queued (R429). -/
def State.queueReads (s : State) (tag cls : Nat) (pair : Pair) (bound : List Bound) : State :=
  s.queueGroups tag cls pair [] (s.groupsOf bound)

/-- The pieces of an owner of one kind leave the queue. -/
def State.dropPieces (s : State) (k : PieceKind) (owner : Nat) : State :=
  { s with orb := { s.orb with pieces := afilter s.orb.pieces fun _ p => !(p.kind == k && p.owner == owner) } }

end Sys2Proof.Machine
end

