-- ==== Sys2Proof/Machine/Sector.lean ====
section
/-! DEFINITION. The physical sector as bits: media metadata (Table 2.2), parity members (R45), the payload (R88), the scrambler
(R89), the LDPC codes (R101, R102), convergence (R104), and the symbols and edges that a writer output carries (R130, R131). -/

namespace Sys2Proof.Machine

/-! ## Media metadata (R34, R35) -/

/-- Bytes 0 to 55 of the media metadata (Table 2.2). -/
def metaBody (m : SecMeta) : List Byte :=
  leBytes 1 m.kind ++ leBytes 1 m.nsid ++ leBytes 1 m.member ++ leBytes 1 m.width ++ leBytes 1 m.parity ++ leBytes 3 0 ++
  leBytes 8 m.lba ++ leBytes 8 m.row ++ pairBytes m.pair ++ leBytes 4 m.band ++ leBytes 4 m.gen ++ leBytes 12 0

/-- The 64 bytes of media metadata with their CHECK (R34). -/
def metaBytes (m : SecMeta) : List Byte := metaBody m ++ leBytes 8 (crc64 (metaBody m)).toNat

/-- The metadata that 64 bytes give. -/
def metaOf (b : List Byte) : SecMeta :=
  { kind := leAt b 0 1, nsid := leAt b 1 1, member := leAt b 2 1, width := leAt b 3 1, parity := leAt b 4 1, lba := leAt b 8 8,
    row := leAt b 16 8, pair := { time := leAt b 24 8, seq := BitVec.ofNat 32 (leAt b 32 4) }, band := leAt b 36 4, gen := leAt b 40 4 }

/-- A sector's metadata is good: its CHECK matches and its KIND is listed (R35, R104). -/
def metaGood (b : List Byte) : Bool := leAt b 56 8 == (crc64 (b.take 56)).toNat && within (leAt b 0 1) 1 8

/-! ## Parity members (R45) -/

/-- Bit 0 of each of the 4,160 bytes. -/
def byteOnes : BitVec 33280 := BitVec.ofNat 33280 ((2 ^ 33280 - 1) / 255)

/-- Every byte times g = 0x02 in GF(2^8) with field polynomial x^8 + x^4 + x^3 + x^2 + 1. -/
def gfDouble (x : BitVec 33280) : BitVec 33280 :=
  ((x <<< 1) &&& ~~~byteOnes) ^^^ (((x >>> 7) &&& byteOnes) * 0x1D)

/-- Every byte times a constant of the field, taken bit by bit. -/
def gfScale (c : Nat) (x : BitVec 33280) : BitVec 33280 :=
  ((List.range 8).foldl (fun (a : BitVec 33280 × BitVec 33280) i =>
    (if c.testBit i then a.1 ^^^ a.2 else a.1, gfDouble a.2)) (0, x)).1

/-- A byte of the field times g. -/
def gfByte2 (v : Nat) : Nat := if v < 128 then 2 * v else (2 * v - 256) ^^^ 0x1D

/-- Product of two bytes of the field. -/
def gfMul (a b : Nat) : Nat :=
  ((List.range 8).foldl (fun (p : Nat × Nat) i => (if a.testBit i then p.1 ^^^ p.2 else p.1, gfByte2 p.2)) (0, b)).1

/-- g to a power. -/
def gfPow : Nat → Nat
  | 0 => 1
  | n + 1 => gfByte2 (gfPow n)

/-- The inverse of a byte of the field, 0 for 0. -/
def gfInv (a : Nat) : Nat := ((List.range 256).find? fun b => gfMul a b == 1).getD 0

/-- The first parity sector: the byte-wise XOR of the data sectors. -/
def xorParity (ds : List (BitVec 33280)) : BitVec 33280 := ds.foldl (· ^^^ ·) 0

/-- The second parity sector: the sum of g^j times data sector j. -/
def gfParity (ds : List (BitVec 33280)) : BitVec 33280 := ds.foldr (fun d a => d ^^^ gfDouble a) 0

/-- The data sectors of one position of a row from those that could be read and the parity sectors that could: one missing sector by
either parity, two by both (R112). -/
def solveRow (ds : List (Option (BitVec 33280))) (p q : Option (BitVec 33280)) : Option (List (BitVec 33280)) :=
  let known := ds.map fun d => d.getD 0
  let fill (l : List (Nat × BitVec 33280)) : List (BitVec 33280) := l.foldl (fun a e => a.set e.1 e.2) known
  match below ds.length (fun j => ds[j]? == some none), p, q with
  | [], _, _ => some known
  | [x], some p, _ => some (fill [(x, p ^^^ xorParity known)])
  | [x], none, some q => some (fill [(x, gfScale (gfInv (gfPow x)) (q ^^^ gfParity known))])
  | [x, y], some p, some q =>
    let a := p ^^^ xorParity known
    let dx := gfScale (gfInv (gfPow x ^^^ gfPow y)) ((q ^^^ gfParity known) ^^^ gfScale (gfPow y) a)
    some (fill [(x, dx), (y, a ^^^ dx)])
  | _, _, _ => none

/-! ## Payload and codeword (R88, R101, R102) -/

/-- The payload of a sector: 4,160 stored bytes, then the metadata (R88). -/
def payloadOf (stored : BitVec 33280) (m : SecMeta) : BitVec 33792 :=
  BitVec.ofNat 33792 (stored.toNat + 2 ^ 33280 * leNat (metaBytes m))

/-- The stored bytes of a payload. -/
def payloadData (p : BitVec 33792) : BitVec 33280 := p.extractLsb' 0 33280

/-- The metadata bytes of a payload. -/
def payloadMeta (p : BitVec 33792) : List Byte := leBytes 64 (p.toNat / 2 ^ 33280)

/-- Parity circulants m of a code option (Table 3.6). -/
def codeM (c : Nat) : Nat := if c = 0 then 8 else if c = 1 then 14 else if c = 2 then 21 else 29

/-- The step q of a code option (R101). -/
def codeQ (c : Nat) : Nat := 2 * (min c 3 + 1)

/-- Codeword bits of a code option (Table 3.6). -/
def codeBits (c : Nat) : Nat := 256 * (132 + codeM c)

/-- A circulant of a codeword. -/
def circ (w : BitVec 41216) (j : Nat) : BitVec 256 := w.extractLsb' (256 * j) 256

/-- P^s applied to a circulant: row r takes bit (r + s) mod 256 (R101). -/
def circShift (x : BitVec 256) (s : Nat) : BitVec 256 := (x >>> (s % 256)) ||| (x <<< (256 - s % 256))

/-- What the payload circulants bring to block row i of the checks (R101). -/
def payloadChecks (c : Nat) (w : BitVec 41216) (i : Nat) : BitVec 256 :=
  (List.range 132).foldl (fun a j => (List.range 4).foldl (fun a t =>
    if (j + t * codeQ c) % codeM c = i then a ^^^ circShift (circ w j) (((2 * t + 1) * (j + 1) * 73 + 17 * t) % 256) else a) a) 0

/-- What the parity circulants bring to block row i. -/
def parityChecks (c : Nat) (w : BitVec 41216) (i : Nat) : BitVec 256 :=
  let m := codeM c
  let p0 := circ w 132
  (if i = 0 then circShift p0 1 else 0) ^^^ (if i = m / 2 then p0 else 0) ^^^ (if i + 1 = m then circShift p0 1 else 0) ^^^
    (if i + 1 < m then circ w (133 + i) else 0) ^^^ (if 0 < i ∧ i < m then circ w (132 + i) else 0)

/-- The checks of block row i: a set bit is an unsatisfied check. -/
def checkRow (c : Nat) (w : BitVec 41216) (i : Nat) : BitVec 256 := payloadChecks c w i ^^^ parityChecks c w i

/-- Unsatisfied checks of a word. -/
def unsatisfied (c : Nat) (w : BitVec 41216) : Nat :=
  ((List.range (codeM c)).map fun i => ((List.range 256).filter fun r => (checkRow c w i).getLsbD r).length).sum

/-- Every parity check is satisfied. -/
def checksHold (c : Nat) (w : BitVec 41216) : Bool := (List.range (codeM c)).all fun i => checkRow c w i == 0

/-- The parity circulants of a payload in order: the sum of all rows gives the first, and each further row the next (R102). -/
def parityOf (c : Nat) (w : BitVec 41216) : List (BitVec 256) :=
  let lam := (List.range (codeM c)).map (payloadChecks c w)
  let p0 := lam.foldl (· ^^^ ·) 0
  let step (a : List (BitVec 256)) (i : Nat) : List (BitVec 256) :=
    a ++ [lam.getD i 0 ^^^ (if i = 0 then circShift p0 1 else a.getD i 0) ^^^ (if i = codeM c / 2 then p0 else 0)]
  (List.range (codeM c - 1)).foldl step [p0]

/-- The codeword of a payload: the payload, then its parity from bit 33,792 on (R88, R102). -/
def encodeSector (c : Nat) (p : BitVec 33792) : BitVec 41216 :=
  let w : BitVec 41216 := p.setWidth 41216
  (parityOf c w).zipIdx.foldl (fun (a : BitVec 41216) (e : BitVec 256 × Nat) => a ||| (e.1.setWidth 41216 <<< (256 * (132 + e.2)))) w

/-- The payload of a codeword. -/
def wordPayload (w : BitVec 41216) : BitVec 33792 := w.extractLsb' 0 33792

/-- What a stopped decoder's word is (R104): 0 converged, 1 a check is not satisfied, 2 a miscorrection, whose metadata fails. -/
def wordOutcome (c : Nat) (w : BitVec 41216) : Nat :=
  if !checksHold c w then 1 else if metaGood (payloadMeta (wordPayload w)) then 0 else 2

/-! ## Scrambling (R89) -/

/-- The seed of a sector: (track × 1,024 + sector) mod 2^31, and 1 for 0. -/
def prbsSeed (track sector : Nat) : BitVec 31 :=
  let v := (track * 1024 + sector) % 2 ^ 31
  BitVec.ofNat 31 (if v = 0 then 1 else v)

/-- The register of the generator x^31 + x^28 + 1 moves on by one bit: stages 31 and 28 feed stage 1. -/
def prbsStep (r : BitVec 31) : BitVec 31 := (r <<< 1) ||| (if r.getLsbD 30 != r.getLsbD 27 then 1 else 0)

/-- The first n bits of the sequence, bit i at position i; each bit leaves stage 31 of the register, which the seed fills.
(DEDUCED, unsafe: log entry 161.) -/
def prbs (seed : BitVec 31) (n : Nat) : BitVec 41216 :=
  ((List.range n).foldl (fun (a : BitVec 41216 × BitVec 31) i =>
    (if a.2.getLsbD 30 then a.1 ||| (1#41216 <<< i) else a.1, prbsStep a.2)) (0, seed)).1

/-- A codeword scrambled, or descrambled, for its place (R89). -/
def scramble (track sector c : Nat) (w : BitVec 41216) : BitVec 41216 := w ^^^ prbs (prbsSeed track sector) (codeBits c)

/-! ## Symbols (Table 3.5, R130) -/

/-- Repeated 0b1100. (DEDUCED, unsafe: log entry 162.) -/
def preamble (n : Nat) : List Bool := (List.range n).map fun i => decide (i % 4 < 2)

/-- A mark of n bits, its highest bit first. -/
def markBits (n v : Nat) : List Bool := (List.range n).map fun i => v.testBit (n - 1 - i)

/-- Bits of a codeword from a position on, in increasing order (R88). -/
def wordBits (w : BitVec 41216) (ofs n : Nat) : List Bool := (List.range n).map fun i => w.getLsbD (ofs + i)

/-- The symbols ahead of a fragment's codeword bits: preamble and sync mark, or the resync field (Table 3.5). -/
def leadSymbols (first : Bool) (preLen rpreLen : Nat) : List Bool :=
  if first then preamble preLen ++ markBits 32 0xB5C62F13 else preamble rpreLen ++ markBits 16 0x9E35

/-! ## Write precompensation (Table 4.1, R131) -/

/-- Symbol i of a gate; beyond its ends the first or last one. -/
def symAt (b : List Bool) (i : Int) : Bool := b.getD (max 0 (min i (b.length - 1))).toNat false

/-- The entry of PRECOMP for a transition between symbols i - 1 and i: polarity·8 + pattern. -/
def precompIndex (b : List Bool) (i : Int) : Nat :=
  (if symAt b i then 0 else 8) + 4 * b2n (symAt b (i - 2) != symAt b (i - 1)) + 2 * b2n (symAt b (i - 3) != symAt b (i - 2)) +
    b2n (symAt b i != symAt b (i + 1))

/-- The transitions of a gate's symbols, each with its shift in units of T/64, positive for later (R131). -/
def precompShifts (profile : BitVec 256) (b : List Bool) : List (Nat × Int) :=
  (below b.length fun i => 0 < i ∧ symAt b i != symAt b (i - 1 : Int)).map fun i =>
    (i, signed 8 (profile.toNat / 2 ^ (8 * precompIndex b i) % 256))

end Sys2Proof.Machine
end

