-- ==== Sys2Proof/Machine/Receive.lean ====
section
/-! DEFINITION. The receiver of a stream (R83, R91 to R100): its adaptive state from the profile, what each symbol does to it, what a wedge
gap holds, the marks, the canceller's neighbour records, the detector's values and the SNR estimate. -/

namespace Sys2Proof.Machine

/-- Byte k of a channel profile. -/
def profByte (p : BitVec 1024) (k : Nat) : Nat := p.toNat / 2 ^ (8 * k) % 256

/-- Byte k of a write profile. -/
def wprofByte (p : BitVec 256) (k : Nat) : Nat := p.toNat / 2 ^ (8 * k) % 256

/-- A signed 16-bit field of a channel profile. -/
def profHalf (p : BitVec 1024) (k : Nat) : Int := signed 16 (profByte p k + 256 * profByte p (k + 1))

/-- PRE_LEN of a profile. -/
def preLen (p : BitVec 1024) : Nat := profByte p 8 + 256 * profByte p 9

/-- `n` taps of a profile in Q2.13 from a byte on, in units of 2^-29. -/
def profTaps (p : BitVec 1024) (at_ n : Nat) : List Int := (List.range n).map fun i => profHalf p (at_ + 2 * i) * 2 ^ 16

/-- The taps of a combiner input: the profile's initial taps, or 0 for a reader that is not in use (R83). -/
def combTaps (p : BitVec 1024) (readers k : Nat) : List Int :=
  if readers.testBit k then profTaps p (32 + 24 * k) 12 else List.replicate 12 0

/-- The adaptive state that a profile starts (R86, R100): predictors restart from zero taps. -/
def startAdapt (p : BitVec 1024) (readers : Nat) : Adapt :=
  let g : Int := (profByte p 0 + 256 * profByte p 1 : Nat) * 2 ^ 14
  { gain0 := g, gain1 := g, tracking := false, start := 0, ratio := 0, phase := 0, comb0 := combTaps p readers 0,
    comb1 := combTaps p readers 1, nac := profTaps p 80 8, pred := List.replicate 8 (List.replicate (profByte p 24 % 4) 0),
    adapting := false, held := false, symbols := 0, bits := [], errs := [], ideal := 0, error := 0, nbr := none }

/-- A stream that reads on one reader, or on none, holds the taps of the other input at 0 and starts the one in use from the profile
(R83); every other stage is left as it is. -/
def oneReader (p : BitVec 1024) (readers : Nat) (a : Adapt) : Adapt :=
  { a with comb0 := combTaps p readers 0, comb1 := combTaps p readers 1 }

/-- A read gate opens (R93, R94): within a sector, after a wedge gap, everything is held; otherwise the oscillator starts at SYMBOL_RATE
÷ 3,125 MHz, its phase by zero-phase start, and the AGC with its acquisition step. -/
def openGate (rate : Nat) (inSector : Bool) (a : Adapt) : Adapt :=
  if inSector then a
  else
    let r : Int := (rate * 2 ^ 32 / 3125 : Nat)
    { a with start := r, ratio := r, phase := 0, tracking := false, adapting := false, held := false }

/-- A sector begins: the SNR estimate and the counts start again. -/
def beginSector (a : Adapt) : Adapt :=
  { a with adapting := false, held := false, symbols := 0, bits := [], errs := [], ideal := 0, error := 0, nbr := none }

/-! ## One symbol -/

/-- A sum of products of taps and inputs. -/
def fir (taps xs : List Int) : Int := ((taps.zip xs).map fun e => e.1 * e.2).sum

/-- A step of sign-error LMS (R96, R98): each tap moves against the error's sign by 2^-mu times its input, an input being a fraction of
2^6; 0 for mu freezes the taps. (DEDUCED, unsafe: log entry 167.) -/
def lms (mu : Nat) (err : Int) (taps xs : List Int) : List Int :=
  if mu = 0 then taps else (taps.zip xs).map fun e => e.1 - err.sign * roundAway (e.2 * 2 ^ 23) (2 ^ mu)

/-- The combiner's output for a symbol, less what the canceller subtracts (R96, R98). -/
def equalised (a : Adapt) (o : SymObs) (nb : List Int) : Int := fir a.comb0 o.x0 + fir a.comb1 o.x1 - fir a.nac nb

/-- The ideal target response to the last decisions, newest first (R100): TGT_LEN coefficients in Q1.6. -/
def idealSample (p : BitVec 1024) (bits : List Bool) : Int :=
  ((List.range (profByte p 18)).map fun k =>
    signed 8 (profByte p (19 + k)) * (if bits.getD k false then 1 else -1)).sum * (Config.targetScale : Int) / 64

/-- The detector state of a symbol (R100): the last TGT_LEN - 1 decisions, one of 2^(TGT_LEN - 1). -/
def detectorState (p : BitVec 1024) (bits : List Bool) : Nat :=
  ((bits.take (profByte p 18 - 1)).zipIdx.map fun e => b2n e.1 * 2 ^ e.2).sum

/-- The predictor condition of a symbol (R100): the 3 most recent symbols. -/
def predCondition (bits : List Bool) : Nat := ((bits.take 3).zipIdx.map fun e => b2n e.1 * 2 ^ e.2).sum

/-- The timing loop moves on by one symbol with gains 2^-TR_KP and 2^-TR_KI (R94, R95: both readers share it).
(DEDUCED, unsafe: log entry 169.) -/
def timingStep (p : BitVec 1024) (err : Int) (a : Adapt) : Adapt :=
  let ratio := a.ratio + roundAway (err * 2 ^ 16) (2 ^ profByte p 7)
  { a with ratio := ratio, phase := a.phase + ratio + roundAway (err * 2 ^ 16) (2 ^ profByte p 6) }

/-- The instant of reader 1 against reader 0, in 1/64 symbol (R95). -/
def readerOneDelay (p : BitVec 1024) : Int := 64 * signed 8 (profByte p 14) + profByte p 15

/-- The AGC moves both gains with the step in force: acquisition up to the sync mark, tracking after it (R93). -/
def agc (p : BitVec 1024) (o : SymObs) (a : Adapt) : Adapt :=
  let e := if a.tracking then profByte p 3 / 16 else profByte p 3 % 16
  { a with gain0 := Config.agcMove a.gain0 e (profByte p 2) o.peak0, gain1 := Config.agcMove a.gain1 e (profByte p 2) o.peak1 }

/-- The adaptation on a codeword symbol (R96, R98, R100): combiner and canceller by LMS against the tentative decision, predictors where
PDNP bit 2 is set. `nb` are the neighbour's symbols at the canceller's taps; it contributes 0 where the canceller does not run. -/
def adaptTaps (p : BitVec 1024) (readers n : Nat) (nb : List Int) (o : SymObs) (a : Adapt) : Adapt :=
  if n ≤ a.symbols then a
  else
    let bits := (o.bit :: a.bits).take 5
    let d := idealSample p bits
    let err := equalised a o nb - d
    let errs := (err :: a.errs).take 4
    { a with
      symbols := a.symbols + 1, bits := bits, errs := errs,
      comb0 := if readers.testBit 0 then lms (profByte p 13) err a.comb0 o.x0 else a.comb0,
      comb1 := if readers.testBit 1 then lms (profByte p 13) err a.comb1 o.x1 else a.comb1,
      nac := lms (profByte p 17) (-err) a.nac nb,
      pred := if (profByte p 24).testBit 2 then Config.predictorStep a.pred (profByte p 24 / 8) (predCondition bits) errs else a.pred,
      ideal := a.ideal + d.natAbs ^ 2, error := a.error + err.natAbs ^ 2 }

/-- One symbol: nothing moves in a wedge gap (R91); combiner, canceller and predictors adapt from the first symbol after the sync mark on,
never on preamble, marks or postamble (R96). -/
def onSymbol (p : BitVec 1024) (readers n : Nat) (nbr : List Int) (a : Adapt) (o : SymObs) : Adapt :=
  if a.held then a
  else
    let a := timingStep p o.timing (agc p o a)
    if a.adapting then
      let nb := match a.nbr with
        | none => []
        | some ofs => (List.range 8).map fun (k : Nat) =>
          let i : Int := (a.symbols : Int) + ofs - (k : Int)
          if i < 0 then 0 else nbr.getD i.toNat 0
      adaptTaps p readers n nb o a
    else a

/-- A run of symbols. -/
def onSymbols (p : BitVec 1024) (readers n : Nat) (nbr : List Int) (a : Adapt) (l : List SymObs) : Adapt :=
  l.foldl (onSymbol p readers n nbr) a

/-! ## Marks (R91, R92, R94) -/

/-- The timing loop stands within 2,000 ppm of its start (R94). -/
def timingInRange (a : Adapt) : Bool := decide (1000000 * (a.ratio - a.start).natAbs ≤ 2000 * a.start.natAbs)

/-- A sync mark is found: within SM_WIN symbols after the nominal place, with at most SM_TOL mismatches, and the loop in its range. -/
def syncFound (p : BitVec 1024) (a : Adapt) (at_ : Option (Nat × Nat)) : Bool :=
  match at_ with
  | none => false
  | some (ofs, bad) => decide (ofs ≤ profByte p 12) && decide (bad ≤ profByte p 11 % 16) && timingInRange a

/-- A resync mark is found: within 2 symbols of the extrapolated place, with at most SM_TOL [7:4] mismatches. -/
def resyncFound (p : BitVec 1024) (at_ : Option (Int × Nat)) : Bool :=
  match at_ with
  | none => false
  | some (ofs, bad) => decide (ofs.natAbs ≤ 2) && decide (bad ≤ profByte p 11 / 16)

/-- After the sync mark the AGC tracks and the taps adapt (R93, R96). -/
def afterSync (a : Adapt) : Adapt := { a with tracking := true, adapting := true }

/-- The resync mark restores the timing phase and ends the hold of a wedge gap (R91). -/
def afterResync (ofs : Int) (a : Adapt) : Adapt := { a with phase := a.phase + ofs * 2 ^ 32, held := false }

/-! ## Values, neighbour records and the SNR -/

/-- A value saturated at a magnitude. -/
def satAt (n : Nat) (v : Int) : Int := max (-(n : Int)) (min n v)

/-- The detector's output for a symbol: a 6-bit signed value scaled by LLR_SCALE/8 (R100). (DEDUCED, unsafe: log entry 163.) -/
def scaledValue (p : BitVec 1024) (v : Int) : Int := satAt 31 (roundAway (v * profByte p 28) 8)

/-- The values of two reads of a sector added, saturated at ±31 (R111). -/
def addValues : List Int → List Int → List Int
  | [], ys => ys
  | xs, [] => xs
  | x :: xs, y :: ys => satAt 31 (x + y) :: addValues xs ys

/-- The soft values a neighbour record keeps of a sector (R97): the decided symbols at ±7 where it decoded, else the detector's values
saturated at ±7. -/
def neighbourValues (ok : Bool) (n : Nat) (scrambled : BitVec 41216) (values : List Int) : List Int :=
  if ok then (List.range n).map fun i => if scrambled.getLsbD i then 7 else -7 else values.map (satAt 7)

/-- Corrected bits: the detector's hard decisions that differ from the codeword, both in the scrambled domain (Table 3.11). -/
def correctedBits (scrambled : BitVec 41216) (values : List Int) : Nat :=
  (values.zipIdx.filter fun e => decide (0 < e.1) != scrambled.getLsbD e.2).length

/-- The SNR estimate in 0.125 dB, 0 to 255: the energy of the ideal response over that of the error. (DEDUCED, unsafe: log entry 168.) -/
def snrCode (ideal error : Nat) : Nat :=
  (below 255 fun k => decide (error ^ 80 * 10 ^ (k + 1) ≤ ideal ^ 80) && decide (0 < ideal)).length

/-- The records of a stream with the values of one more sector: the record of its track, which becomes the one being read, and the
previous one (R97). -/
def putNeighbour (l : List NbrRec) (surface head track sector : Nat) (v : List Int) : List NbrRec :=
  match l with
  | r :: rest =>
    if r.surface = surface ∧ r.head = head ∧ r.track = track then { r with sectors := aput r.sectors sector v } :: rest
    else [{ surface := surface, head := head, track := track, sectors := [(sector, v)] }, r]
  | [] => [{ surface := surface, head := head, track := track, sectors := [(sector, v)] }]

end Sys2Proof.Machine
end

