-- ==== Sys2Proof/Machine/MediaBase.lean ====
section
/-! DEFINITION. The media path's parts by number: streams, heads, links, sequencers, loop slots and heads as loops see
them; inhibit causes (Table 4.4), causes to a sequencer (Table 5.8), and frames to a preamplifier (Table 4.5). -/

namespace Sys2Proof.Machine

/-! ## Parts by number -/

/-- A stream with no head. -/
def idleStream : Stream :=
  { head := 0, readers := 0, pendingHead := none, headReady := 0, zone := 0, profile := 0, wprofile := 0,
    readGate := false, writeGate := false, inSector := false, inFragment := false, fragEnds := 0, fragStart := 0, sync := .none,
    resync := .none, sectorDone := false, slotPort := 0, record := none, fresh := none, nbrs := [], adapt := startAdapt 0 0,
    word := 0, sent := 0, gateSyms := [], decoding := [], lastMark := none, writeClock := 0, writePhase := 0, locked := false, noMark := 0, last := 0, lastAt := (0, 0, 0), sticky := 0, cur := none,
    failedSectors := [], sinceGood := [], wrote := [] }

/-- The stream with a number. -/
def State.stream (s : State) (i : Nat) : Stream := agetD s.chn.streams i idleStream

/-- Changes a stream. -/
def State.modStream (s : State) (i : Nat) (f : Stream → Stream) : State :=
  { s with chn := { s.chn with streams := acanon s.chn.streams i idleStream (f (s.stream i)) } }

/-- A head that no stream has selected. -/
def restingHead : LinkHead :=
  { heater := 0, heaterKind := 3, heaterAck := none, armed := false, armAck := none, contact := false, contactClean := 0,
    openCount := 0, out := false, hmaFaultAt := none }

/-- Head H(n). -/
def State.lhead (s : State) (h : Nat) : LinkHead := agetD s.wrp.heads h restingHead

/-- Changes a head. -/
def State.modHead (s : State) (h : Nat) (f : LinkHead → LinkHead) : State :=
  { s with wrp := { s.wrp with heads := acanon s.wrp.heads h restingHead (f (s.lhead h)) } }

/-- A link not yet acknowledged. -/
def restingLink : Link :=
  { up := false, resends := 0, upCrc := 0, nextSeq := 0, queue := [], flight := [], restoring := false, resetDue := 0,
    wfltUntil := 0, wfltRaised := false }

/-- Link PL(a). -/
def State.link (s : State) (a : Nat) : Link := agetD s.wrp.links a restingLink

/-- Changes a link. -/
def State.modLink (s : State) (a : Nat) (f : Link → Link) : State :=
  { s with wrp := { s.wrp with links := acanon s.wrp.links a restingLink (f (s.link a)) } }

/-- A sequencer that has executed nothing. -/
def idleSeq (q : Nat) : Seq :=
  { state := .idle, stage := .fetch, pc := 0, stream := if q < 16 then q else 0, vars := List.replicate 16 0,
    zero := false, neg := false, carry := false, stack := [], pos := 0, posAt := 0, late := false, timeout := false,
    newWedge := false, idx := false, cause := 0, snap := none, fromSnap := 0, restarts := 0, items := [],
    itemNo := 0, framed := 0, waitSince := 0, refHead := 0, trap := none, pendingCause := 0, inherit_ := [], other := none }

/-- The sequencer with a number. -/
def State.seqr (s : State) (q : Nat) : Seq := agetD s.seq.seqs q (idleSeq q)

/-- Changes a sequencer. -/
def State.modSeq (s : State) (q : Nat) (f : Seq → Seq) : State :=
  { s with seq := { s.seq with seqs := acanon s.seq.seqs q (idleSeq q) (f (s.seqr q)) } }

/-- A loop slot with no states. -/
def restingSlot (n : Nat) : Slot :=
  { bank := false, swap := false, swapBy := .core 0, run := false, outSat := false, stateSat := false, phys := n,
    states := List.replicate 12 (0, 0), inputs := [], satRun := 0, out := 0 }

/-- A loop slot. -/
def State.slot (s : State) (n : Nat) : Slot := agetD s.sce.slots n (restingSlot n)

/-- Changes a loop slot. -/
def State.modSlot (s : State) (n : Nat) (f : Slot → Slot) : State :=
  { s with sce := { s.sce with slots := acanon s.sce.slots n (restingSlot n) (f (s.slot n)) } }

/-- A stream's head before its first record. -/
def restingLoop : HeadLoop :=
  { setPoint := 0, pos := 0, seen := false, command := 0, onTrack := false, regain := 0, lostRun := 0, lastIn := 0 }

/-- A stream's head as the servo engine tracks it. -/
def State.loop (s : State) (st : Nat) : HeadLoop := agetD s.sce.heads st restingLoop

/-- Changes it. -/
def State.modLoop (s : State) (st : Nat) (f : HeadLoop → HeadLoop) : State :=
  { s with sce := { s.sce with heads := acanon s.sce.heads st restingLoop (f (s.loop st)) } }

/-- The actuator of a stream (R79). -/
def actOf (st : Nat) : Nat := st / 4

/-- The number n of the head H(n) that a stream has selected. -/
def headOf (st : Nat) (x : Stream) : Nat := 18 * actOf st + x.head

/-- The streams of an actuator. -/
def streamsOf (a : Nat) : List Nat := [4 * a, 4 * a + 1, 4 * a + 2, 4 * a + 3]

/-- The stream sequencer that drives a stream, unless it has failed (R161, R163). -/
def State.seqOf (s : State) (st : Nat) : Option Nat :=
  (below 16 fun q => (s.seqr q).stream == st && (s.seqr q).state != .failed).head?

/-- A head is active (R201). -/
def State.activeHead (s : State) (st : Nat) : Bool :=
  (s.stream st).readers != 0 && bit (s.rv (.sceTgt st)) 31

/-- The zone index of a track of a surface, from its zone table. -/
def zoneIndex (t : List Zone) (track : Nat) : Nat :=
  (t.takeWhile fun z => decide (z.firstTrack + z.trackCount ≤ track)).length

/-- The zone of a track. -/
def State.zoneOf (s : State) (surface track : Nat) : Option Zone :=
  (s.zoneTable surface)[zoneIndex (s.zoneTable surface) track]?

/-! ## SRAM as bytes -/

/-- The part of SRAM that an offset lies in. -/
def sramPart (o : Nat) : SramPart :=
  if 0x1000000 ≤ o ∧ o < 0x3000000 ∧ (o - 0x1000000) % 8192 < 4224 then .slot ((o - 0x1000000) / 8192) ((o - 0x1000000) % 8192)
  else if 0x3800000 ≤ o ∧ o < 0x3890000 then .profile ((o - 0x3800000) / 128) ((o - 0x3800000) % 128)
  else if 0x3890000 ≤ o ∧ o < 0x38B4000 then .wprofile ((o - 0x3890000) / 32) ((o - 0x3890000) % 32)
  else if 0x3FFE000 ≤ o ∧ o < 0x4000000 then .diag (o - 0x3FFE000)
  else .plain

/-- Byte k of a bit vector. -/
def byteOf {w : Nat} (v : BitVec w) (k : Nat) : Byte := BitVec.ofNat 8 (v.toNat / 2 ^ (8 * k))

/-- A bit vector with byte k replaced. -/
def withByte {w : Nat} (v : BitVec w) (k : Nat) (b : Byte) : BitVec w :=
  (v &&& ~~~(BitVec.ofNat w (255 * 2 ^ (8 * k)))) ||| BitVec.ofNat w (b.toNat * 2 ^ (8 * k))

/-- How a stored SRAM byte decodes (R459): 0 clean, 1 corrected, 2 uncorrectable. -/
def byteOutcome (d : DiagByte) : Nat :=
  let c := Config.srmCheck d.data
  if c = d.check then 0
  else if (List.range 5).any fun i => c ^^^ (1#5 <<< i) == d.check then 1
  else if (List.range 8).any fun i => Config.srmCheck (d.data ^^^ (1#8 <<< i)) == d.check then 1
  else 2

/-- A diagnostic SRAM byte. -/
def State.diagByte (s : State) (o : Nat) : DiagByte := agetD s.srm.diag o { data := 0, check := Config.srmCheck 0 }

/-- The byte that a read of a stored SRAM byte delivers (R459). -/
def byteData (d : DiagByte) : Byte :=
  if byteOutcome d ≠ 1 ∨ ((List.range 5).any fun i => Config.srmCheck d.data ^^^ (1#5 <<< i) == d.check) then d.data
  else match (List.range 8).find? fun i => Config.srmCheck (d.data ^^^ (1#8 <<< i)) == d.check with
    | some i => d.data ^^^ (1#8 <<< i)
    | none => d.data

/-- A byte of SRAM by its offset. -/
def State.sramByte (s : State) (o : Nat) : Byte :=
  match sramPart o with
  | .plain => agetD s.srm.mem o 0
  | .slot n k => byteOf (agetD s.chn.slotData n 0) k
  | .profile n k => byteOf (agetD s.srm.profiles n 0) k
  | .wprofile n k => byteOf (agetD s.srm.wprofiles n 0) k
  | .diag k => byteData (s.diagByte k)

/-- Writes a byte of SRAM with new check bits (R459). -/
def State.sramPut (s : State) (o : Nat) (b : Byte) : State :=
  let s := { s with srm := { s.srm with
    poisoned := s.srm.poisoned.filter (· != o), correctable := s.srm.correctable.filter (· != o) } }
  match sramPart o with
  | .plain => { s with srm := { s.srm with mem := acanon s.srm.mem o 0 b } }
  | .slot n k => { s with chn := { s.chn with slotData := acanon s.chn.slotData n 0 (withByte (agetD s.chn.slotData n 0) k b) } }
  | .profile n k => { s with srm := { s.srm with profiles := acanon s.srm.profiles n 0 (withByte (agetD s.srm.profiles n 0) k b) } }
  | .wprofile n k => { s with srm := { s.srm with wprofiles := acanon s.srm.wprofiles n 0 (withByte (agetD s.srm.wprofiles n 0) k b) } }
  | .diag k => { s with srm := { s.srm with diag := aput s.srm.diag k { data := b, check := Config.srmCheck b } } }

/-- How an SRAM byte reads: 0 clean, 1 corrected, 2 uncorrectable, by what is known of it or planted in the diagnostic window. -/
def State.sramOutcome (s : State) (o : Nat) : Nat :=
  max (if s.srm.poisoned.contains o then 2 else if s.srm.correctable.contains o then 1 else 0)
    (match sramPart o with | .diag k => byteOutcome (s.diagByte k) | _ => 0)

/-- The diagnostic window after the scrubber has rewritten a byte that it corrected (R461). -/
def State.sramFixed (s : State) (o : Nat) : Assoc DiagByte :=
  match sramPart o with
  | .diag k => if byteOutcome (s.diagByte k) = 1 then
      aput s.srm.diag k { data := byteData (s.diagByte k), check := Config.srmCheck (byteData (s.diagByte k)) } else s.srm.diag
  | _ => s.srm.diag

/-! ## Seek budgets (R439-R441) -/

/-- TARGET_RPM, 0 standing for FORMAT_RPM (Table 7.4). -/
def State.targetRpm (s : State) : Nat :=
  let v := fld (s.rv .spnCtl) 13 0
  if v = 0 then s.sec.pers.spindle.formatRpm else v

/-- t_rev in ns (R118, R276): a revolution at the target speed, under transit lock at the lowest speed that the lock may set. -/
def State.tRev (s : State) : Nat :=
  let cfg := s.rv .spnTlCfg
  let share := if fld cfg 31 30 = 0 then 10000 else 10000 - fld cfg 29 24
  60000000000 * 10000 / max 1 (s.targetRpm * share)

/-- One revolution at the measured speed, in ns. -/
def State.revNs (s : State) : Nat := 960000000000 / max 1 s.spn.speed

/-- A track of a head in units of 1/16,384 reference track. -/
def State.refUnits (s : State) (h track : Nat) : Nat :=
  track * (match s.sec.pers.heads[h]? with | some p => p.pitch | none => 16384)

/-- An actuator is protected: one of its streams holds a WRITE, ECLIPSE_WRITE or VERIFY work item (R439). -/
def State.isProtected (s : State) (a : Nat) : Bool :=
  (List.range 16).any fun q => decide ((s.seqr q).stream / 4 = a) &&
    (s.seqr q).items.any fun w => w.kind == 2 || w.kind == 4 || w.kind == 3

/-- The actuators R440 allows no more long seeks with normal limits than its budget: another one is protected. -/
def State.othersProtected (s : State) (a : Nat) : Bool := (List.range 4).any fun b => b != a && s.isProtected b

/-- Long seeks with normal limits that an actuator has begun within the last t_rev. -/
def State.longRecent (s : State) (a : Nat) : Nat :=
  ((s.turn a).longSeeks.filter fun t => decide (s.now < t + s.tRev)).length

/-- The budget of R440 allows one more long seek with normal limits now. -/
def State.budgetLeft (s : State) (a : Nat) : Bool :=
  !s.othersProtected a || decide (s.longRecent a < fld (s.rv .orbSeekCfg) 31 28)

/-- A seek of an actuator to a track of a surface is long (R440); distances are counted from its last target. -/
def State.longTo (s : State) (a surface track : Nat) : Bool :=
  let h := 18 * a + surface
  let d := (s.refUnits h track : Int) - s.refUnits h (s.turn a).target
  decide (fld (s.rv .orbSeekCfg) 23 0 * 16384 < d.natAbs)

/-- The seek budget of an actuator allows a seek (R441). -/
def State.budgetAllows (s : State) (a surface track : Nat) : Bool := !s.longTo a surface track || s.budgetLeft a

/-- The actuators, other than one, that may be given a cross-actuator read of a sector (R110, R157): in use, with a healthy head
on the surface, and within their budget. -/
def State.crossActs (s : State) (not_ surface track : Nat) : List Nat :=
  s.actsInUse.filter fun a => a != not_ && !(s.lhead (18 * a + surface)).out && s.budgetAllows a surface track

/-! ## Frames to a preamplifier (Tables 4.5, 4.7) -/

/-- One bit of the CRC-8 of R144. -/
def crc8Bit (c : BitVec 8) (b : Bool) : BitVec 8 :=
  if c.msb != b then (c <<< 1) ^^^ 0x07#8 else c <<< 1

/-- The CRC-8 over bits [59:8] of a frame in transmission order (R144). -/
def crc8 (w : BitVec 64) : BitVec 8 :=
  (List.range 52).foldl (fun c i => crc8Bit c (w.getLsbD (59 - i))) 0xFF

/-- A frame with its CRC. -/
def frameBits (start cmd head seq data : Nat) : BitVec 64 :=
  let w := BitVec.ofNat 64 (start % 16 * 2 ^ 60 + cmd % 16 * 2 ^ 56 + head % 32 * 2 ^ 51 + seq % 8 * 2 ^ 48 +
    data % 2 ^ 32 * 2 ^ 16)
  w + (crc8 w).setWidth 64

/-- From a frame's start to the next one's (Table 4.9): 64 bit periods of 10.24 ns and 2 idle bits (R142, R143), rounded up to whole ns. -/
def framePitch : Nat := 676

/-- The moment at which the line is free after the frames sent. -/
def lineFree (l : Link) : Nat := (l.flight.map fun f => f.sentAt + framePitch).foldl max 0

/-- The first waiting frame goes onto the wire: HMA and STATUS frames back to back (Table 4.9), any other once the line is free; at most
eight wait for their acknowledgement, the SEQ values that tell them apart (R143, R145, R148). `n` bounds the frames sent. -/
def State.linkPumpN (s : State) (a : Nat) : Nat → State
  | 0 => s
  | n + 1 =>
    let l := s.link a
    match l.queue with
    | [] => s
    | f :: rest =>
      if 8 ≤ l.flight.length ∨ !(f.cmd == 5 || f.cmd == 6 || decide (lineFree l ≤ s.now)) then s
      else
        let f := { f with seq := l.nextSeq, tries := 1, sentAt := max s.now (lineFree l) }
        ((s.modLink a fun l => { l with flight := l.flight ++ [f], queue := rest, nextSeq := (l.nextSeq + 1) % 8 }).emit
          (.linkFrame a (frameBits 0xB f.cmd f.head f.seq f.data))).linkPumpN a n

/-- Frames of a link go onto the wire. -/
def State.linkPump (s : State) (a : Nat) : State := s.linkPumpN a 8

/-- A frame joins a link's queue (R148): HMA frames go ahead of every other one, in stream order, the STATUS frame of the wedge directly after
them, and other frames follow in issue order. -/
def State.linkSend (s : State) (a cmd head data : Nat) : State :=
  let f : LinkFrame := { cmd := cmd, head := head, seq := 0, data := data, tries := 0, sentAt := 0 }
  let ahead (g : LinkFrame) : Bool := g.cmd == 5 || (cmd == 6 && g.cmd == 6)
  let s := s.modLink a fun l => { l with queue :=
    if cmd = 5 ∨ cmd = 6 then l.queue.takeWhile ahead ++ f :: l.queue.dropWhile ahead else l.queue ++ [f] }
  s.linkPump a

/-- SELECT for a stream's head (Table 4.7). -/
def State.sendSelect (s : State) (st : Nat) (head readers : Nat) : State :=
  s.linkSend (actOf st) 1 head (readers * 4 + st % 4)

/-- SELECT with deselect. -/
def State.sendDeselect (s : State) (st head : Nat) : State := s.linkSend (actOf st) 1 head (16 + st % 4)

/-- HEATER with the code of a kind: 0 HTR_READ, 1 HTR_WRITE, 2 HTR_IDLE, 3 zero (Tables 4.2, 5.5). -/
def State.sendHeater (s : State) (st kind : Nat) : State :=
  let x := s.stream st
  let code := if kind < 3 then wprofByte x.wprofile (19 + kind) else 0
  let s := s.modHead (headOf st x) fun h => { h with heater := code, heaterKind := kind, heaterAck := none }
  s.linkSend (actOf st) 2 x.head code

/-- WRITE_CUR for a stream's head. -/
def State.sendWriteCur (s : State) (st : Nat) : State :=
  let x := s.stream st
  s.linkSend (actOf st) 3 x.head
    (wprofByte x.wprofile 18 * 65536 + wprofByte x.wprofile 17 * 256 + wprofByte x.wprofile 16)

/-- ARM with arm 1 or 0. -/
def State.sendArm (s : State) (st : Nat) (arm : Bool) : State :=
  let x := s.stream st
  let s := s.modHead (headOf st x) fun h => { h with armed := false, armAck := none }
  s.linkSend (actOf st) 4 x.head (b2n arm)

/-! ## Causes and inhibits -/

/-- A touchdown sweep ends: aborted, or with a result; the heater goes to 0 (R153, R154). -/
def State.sweepEnd (s : State) (result tdCode : Nat) : State :=
  let h := s.wrp.sweep.head
  let s := { s with wrp := { s.wrp with sweep := { s.wrp.sweep with
    busy := false, result := result, tdCode := tdCode, code := 0, readings := [], baseline := none, overAt := none } } }
  (s.modHead h fun x => { x with heater := 0, heaterKind := 3, heaterAck := none }).linkSend (h / 18) 2 (h % 18) 0

/-- A sweep on a head is aborted (R154). -/
def State.sweepAbort (s : State) (h : Nat) : State :=
  if s.wrp.sweep.busy && s.wrp.sweep.head == h then s.sweepEnd 3 s.wrp.sweep.tdCode else s

/-- A cause arises for a sequencer (Table 5.8): it restarts or traps at the SEQ_INTERRUPT or PRIV_TRAP that follows. -/
def State.cause (s : State) (q c : Nat) : State :=
  if (s.seqr q).state = .failed then s
  else s.modSeq q fun x => { x with pendingCause := if x.pendingCause.testBit c then x.pendingCause else x.pendingCause + 2 ^ c }

/-- A cause arises for the sequencer of a stream. -/
def State.causeStream (s : State) (st c : Nat) : State :=
  match s.seqOf st with
  | none => s
  | some q => s.cause q c

/-- Whether SQP0 has given the stream eclipse work: SUPPLY never stops its gates (Table 4.4). -/
def State.eclipseStream (s : State) (st : Nat) : Bool :=
  match s.seqOf st with
  | none => false
  | some q => match (s.seqr q).items with | w :: _ => w.kind == 4 | [] => false

/-- The inhibit causes active on a stream, as the bits of WRP_INH_s (Table 4.4): SUPPLY stands for the whole device and WFLT for an
actuator, whether a head is selected or not; the other causes concern the selected head. (DEDUCED, unsafe: log entry 57.) -/
def State.inhibits (s : State) (st : Nat) : Nat :=
  let x := s.stream st
  let l := s.link (actOf st)
  let h := headOf st x
  4 * b2n l.wfltRaised + 32 * b2n (s.wrp.supplyStop && !s.eclipseStream st) +
    (if x.readers = 0 then 0
     else b2n (!(s.loop st).onTrack) + 2 * b2n (!x.locked) + 8 * b2n (!l.up) +
       16 * b2n ((s.lhead h).contact || (s.wrp.sweep.busy && s.wrp.sweep.head == h)))

/-- A write gate that closes: its writer has put out the symbols of the gate, at the write clock with each transition shifted (R130, R131),
and is idle (R126). -/
def State.writerIdle (s : State) (st : Nat) : State :=
  let x := s.stream st
  if x.writeGate then
    ((s.emit (.writer (headOf st x) x.writeClock x.gateSyms (precompShifts x.wprofile x.gateSyms))).emit
      (.writerIdle (headOf st x))).modStream st fun y => { y with writeGate := false, gateSyms := [] }
  else s

/-- An inhibit cause reaches a stream (R139-R141): its sticky bit is set, an open write gate closes, the sectors of R140 are
failed (the one in progress, and for SERVO those that ended after the last good record), and the sequencer is interrupted. -/
def State.inhibitOnly (s : State) (st b : Nat) : State :=
  let s := (s.writerIdle st).modStream st fun x =>
    let lost := x.cur.toList ++ (if b = 0 then x.sinceGood.filter (!x.cur.toList.contains ·) else [])
    { x with sticky := if x.sticky.testBit b then x.sticky else x.sticky + 2 ^ b,
             failedSectors := x.failedSectors ++ lost,
             sinceGood := if b = 0 then [] else x.sinceGood,
             cur := none,
             inSector := if x.cur.isSome then false else x.inSector,
             inFragment := if x.cur.isSome then false else x.inFragment }
  s.causeStream st 0

/-- An inhibit cause reaches a stream; a touchdown sweep on its head is aborted (R154). -/
def State.inhibit (s : State) (st b : Nat) : State :=
  if (s.stream st).readers = 0 then s.inhibitOnly st b else (s.inhibitOnly st b).sweepAbort (headOf st (s.stream st))

/-- An inhibit cause reaches the streams of an actuator: WFLT all of them, LINK those that have a head (Table 4.4). -/
def State.inhibitAct (s : State) (a b : Nat) : State :=
  ((streamsOf a).filter fun st => b == 2 || (s.stream st).readers != 0).foldl (fun s st => s.inhibit st b) s

/-- The SUPPLY write stop (Table 15.6, Table 15.8 step 1): every gate that SQP0 did not open closes. -/
def State.supplyStop (s : State) (v : Bool) : State :=
  let s := { s with wrp := { s.wrp with supplyStop := v } }
  if v then
    ((List.range 16).filter fun st => !s.eclipseStream st).foldl (fun s st => s.inhibit st 5) s
  else s

/-- The head of a stream is on-track, or loses it: the loss is a SERVO inhibit (R232-R235). -/
def State.setOnTrack (s : State) (st : Nat) (v : Bool) : State :=
  let was := (s.loop st).onTrack
  let s := s.modLoop st fun l => { l with onTrack := v, regain := 0 }
  if was && !v then s.inhibit st 0 else s

/-- A head that no stream selects any more: heater 0 and disarmed (R151). -/
def restHead (h : LinkHead) : LinkHead :=
  { h with heater := 0, heaterKind := 3, heaterAck := none, armed := false, armAck := none }

/-- A stream's READERS change without a head switch (R82, R150, R239): with one left its combiner input starts from the profile and the
other's taps are 0 (R83); with none left the stream is idle and its head is deselected (R151). -/
def State.setReaders (s : State) (st readers : Nat) : State :=
  let x := s.stream st
  let s := if x.readers ≠ 0 ∧ readers = 0 then ((s.writerIdle st).sendDeselect st x.head).modHead (headOf st x) restHead else s
  s.modStream st fun x => { x with
    readers := readers, record := if readers = 0 then none else x.record,
    readGate := x.readGate && readers != 0,
    adapt := if readers = x.readers then x.adapt else oneReader x.profile readers x.adapt }

/-- Whether an actuator can serve a set of surfaces: in use, with a head in use on each. -/
def State.canServe (s : State) (a : Nat) (surfaces : List Nat) : Bool :=
  s.actsInUse.contains a && surfaces.all fun u => !(s.lhead (18 * a + u)).out

/-- A piece whose actuator or head can no longer serve it goes to another (R28, R75, R122, R438). -/
def State.rehome (s : State) (p : Piece) : Piece :=
  if s.canServe p.act p.surfaces then p
  else { p with act := s.pickActuator [p.act] p.surfaces p.track p.sector, head := none }

/-- Every waiting piece is looked at again. -/
def State.rehomeAll (s : State) : State :=
  { s with orb := { s.orb with pieces := amapv s.orb.pieces fun _ p => s.rehome p } }

end Sys2Proof.Machine
end

