-- ==== Sys2Proof/Machine/Channel.lean ====
section
/-! DEFINITION. The read channel (chapter 3): counters, servo records, head switches, decode outcomes, deep decoders and the
escalation ladder. -/

namespace Sys2Proof.Machine

/-! ## Counters (R124, R125) -/

/-- Key of a counter of a head and zone. -/
def statKey (head zone k : Nat) : Nat := (head * 64 + zone) * 16 + k

/-- A live counter; CORR_BITS is kept in bits. -/
def State.statRaw (s : State) (key : Nat) : Nat := agetD s.chn.counters key 0

/-- A live counter as a snapshot shows it (R125). -/
def State.statValue (s : State) (head zone k : Nat) : Nat :=
  let v := s.statRaw (statKey head zone k)
  min 0xFFFFFFFF (if k = 1 then v / 256 else v)

/-- Adds to a counter of a head and zone. -/
def State.countAt (s : State) (head zone k n : Nat) : State :=
  let key := statKey head zone k
  let top := if k = 1 then 0xFFFFFFFF * 256 + 255 else 0xFFFFFFFF
  { s with chn := { s.chn with counters := aput s.chn.counters key (satAdd (s.statRaw key) n top) } }

/-- Adds to a counter of the head and zone of a stream. -/
def State.count (s : State) (st k n : Nat) : State :=
  let x := s.stream st
  let key := statKey (headOf st x) x.zone k
  let top := if k = 1 then 256 * 0xFFFFFFFF + 255 else 0xFFFFFFFF
  { s with chn := { s.chn with counters := acanon s.chn.counters key 0 (satAdd (s.statRaw key) n top) } }

/-- A snapshot of the 16 counters, with or without zeroing them (R124). -/
def State.statSnap (s : State) (head zone : Nat) (clear : Bool) : State :=
  let vals := (List.range 16).map fun k => BitVec.ofNat 32 (s.statValue head zone k)
  let s := { s with chn := { s.chn with statData := vals } }
  if clear then
    { s with chn := { s.chn with
        counters := afilter s.chn.counters fun k _ => decide (k / 16 ≠ head * 64 + zone) } }
  else s

/-! ## Servo records (R107, R108) -/

/-- The nearest integer to a fraction, ties away from zero. -/
def roundRat (r : Rat) : Int := if 0 ≤ r then (r + 1 / 2).floor else -((-r + 1 / 2).floor)

/-- Magnitude of a fraction. -/
def absRat (r : Rat) : Rat := if 0 ≤ r then r else -r

/-- Position from one reader's bursts, or none where a burst pair has no amplitude. -/
def burstPos (b : Nat × Nat × Nat × Nat) : Option Rat :=
  let (a, b, c, d) := b
  if a + b = 0 ∨ c + d = 0 then none
  else
    let n : Rat := ((a : Rat) - b) / (a + b)
    let q : Rat := ((c : Rat) - d) / (c + d)
    some (if absRat n ≤ absRat q then n / 2 else if 0 ≤ n then (1 - absRat q) / 2 else -((1 - absRat q) / 2))

/-- The reader, as h·2 + k within the actuator, whose signal a front end takes (R79): the one of the stream's selected head, or READER of
CHN_AF_SEL_n while OVR is set. -/
def State.afReader (s : State) (n : Nat) : Nat :=
  if bit (s.rv (.chnAfSel n)) 31 then fld (s.rv (.chnAfSel n)) 5 0 else (s.stream (n / 2)).head * 2 + n % 2

/-- The readers in use, as reader numbers (Table 3.2). -/
def readersInUse (r : Nat) : List Nat := below 2 fun k => r.testBit k

/-- The positions of the readers in use, each less the offset of the reader that its front end takes (R79, R107). -/
def State.readerPositions (s : State) (st : Nat) (bursts : List (Nat × Nat × Nat × Nat)) : List (Option Rat) :=
  let x := s.stream st
  ((readersInUse x.readers).zip bursts).map fun e =>
    (burstPos e.2).map fun p => p - (signed 8 (profByte x.profile (29 + s.afReader (2 * st + e.1) % 2)) : Rat) / 256

/-- The average of positions in 1/4,096 track, to the nearest with ties away from zero, held within the field's ±2,048; none where one of them
is not known. (DESIGN CHOICE, unsafe: log entry 158.) -/
def averagePes (l : List (Option Rat)) : Option Int :=
  if l.isEmpty ∨ l.any Option.isNone then none
  else
    let v := l.map fun o => o.getD 0
    some (max (-2048) (min 2048 (roundRat (v.sum / v.length * 4096))))

/-- The servo record of a wedge (Table 3.7, R108); where the bursts give no position, PES is a free value. Without a mark, TRACK, PES and
QUAL are 0 with all four bytes of TRACK, the head among them; WEDGE is the expected one, and SAM_TIME, Gray and parity are 0.
(DESIGN CHOICE, unsafe: log entry 109.) -/
def State.servoRecord (s : State) (st : Nat) (o : WedgeObs) : ServoRec :=
  let x := s.stream st
  if o.sam then
    { head := headOf st x, track := o.track % 2 ^ 24, wedge := o.wedge,
      pes := (averagePes (s.readerPositions st o.bursts)).getD ((s.freeVal % 4097 : Int) - 2048),
      qual := o.qual % 256, sam := true, gray := o.gray, parity := o.parity,
      oneReader := decide ((readersInUse x.readers).length = 1), samTime := o.samTime, at_ := s.now }
  else
    { head := 0, track := 0, wedge := o.expected, pes := 0, qual := 0, sam := false, gray := false,
      parity := false, oneReader := decide ((readersInUse x.readers).length = 1), samTime := 0, at_ := s.now }

/-- A valid record (R213). -/
def validRec (r : ServoRec) : Bool := r.sam && r.gray && r.parity

/-! ## The write clock (R134-R136) -/

/-- The nominal wedge interval in ps. -/
def nominalWedge (p : Pers) : Nat := 60000000000000 / (p.spindle.formatRpm * p.nW)

/-- f_w of R134 in Hz, before the limit of R135 and the range of R136. -/
def State.clockTarget (s : State) (x : Stream) (interval : Nat) : Nat :=
  match (s.zoneTable x.head)[x.zone]? with
  | none => 0
  | some z => z.symbolRate * 1000000 * nominalWedge s.sec.pers / max 1 interval

/-- Whether R136 calls the value of R134 outside the range by more than 1,000 ppm. -/
def clockOut (f : Nat) : Bool :=
  decide (f * 1000 < 800000000 * 999) || decide (2900000000 * 1001 < f * 1000)

/-- f_w after a servo record: moved by at most 500 ppm (R135), held in its range (R136). -/
def clockStep (old target : Nat) : Nat :=
  let lim := old * 500 / 1000000
  let f := if old = 0 then target else if old + lim < target then old + lim else if target + lim < old then old - lim else target
  max 800000000 (min 2900000000 f)

/-! ## Head selection (R79-R86) -/

/-- Whether another stream of the actuator has a head selected, or is about to have it (R81). -/
def State.headTaken (s : State) (st head : Nat) : Bool :=
  (streamsOf (actOf st)).any fun t => t != st &&
    ((match (s.stream t).pendingHead with
      | some w => fld w 9 8 != 0 && fld w 4 0 == head
      | none => false) || ((s.stream t).readers != 0 && (s.stream t).head == head))

/-- Readers of a stream that can serve: those whose front end is in use (R79, R82). -/
def State.usableReaders (s : State) (st readers : Nat) : Nat :=
  (if readers.testBit 0 && !s.chn.afFailed.contains (2 * st) then 1 else 0) +
  (if readers.testBit 1 && !s.chn.afFailed.contains (2 * st + 1) then 2 else 0)

/-- The zone that a stream enters with a head (R86): that of its current work item on that surface, else of its target track. -/
def State.itemZone (s : State) (st head : Nat) : Nat :=
  let target := zoneIndex (s.zoneTable head) (fld (s.rv (.sceTgt st)) 23 0)
  match s.seqOf st with
  | none => target
  | some q => match (s.seqr q).items with
    | w :: _ => if w.head = head then zoneIndex (s.zoneTable head) w.track else target
    | [] => target

/-- A profile entry in which a poisoned byte is found is loaded again from its golden copy (R460, Table 13.2). -/
def State.healProfile (s : State) (k : Nat) : State :=
  let hit (o n p : Nat) : Bool := decide (o ≤ p) && decide (p < o + n)
  let ch := hit (0x3800000 + 128 * k) 128
  let wr := hit (0x3890000 + 32 * k) 32
  if s.srm.poisoned.any fun p => ch p || wr p then
    { s with srm := { s.srm with
        profiles := if s.srm.poisoned.any ch then acanon s.srm.profiles k 0 (agetD s.sec.pers.profiles k 0) else s.srm.profiles,
        wprofiles := if s.srm.poisoned.any wr then acanon s.srm.wprofiles k 0 (agetD s.sec.pers.wprofiles k 0) else s.srm.wprofiles,
        poisoned := s.srm.poisoned.filter fun p => !(ch p || wr p) } }
  else s

/-- A stream loads the profiles of its head and zone from the tables in SRAM: every adaptive stage restarts, and neighbour records are
discarded (R85, R86, R99, R132). -/
def State.loadProfile (s : State) (st zone : Nat) : State :=
  let s := s.healProfile (headOf st (s.stream st) * 64 + zone)
  s.modStream st fun x =>
    let p := agetD s.srm.profiles (headOf st x * 64 + zone) 0
    { x with zone := zone, profile := p, wprofile := agetD s.srm.wprofiles (headOf st x * 64 + zone) 0,
             adapt := startAdapt p x.readers, nbrs := [] }

/-- A new zone under the same head takes effect at a sector boundary (R86). -/
def State.zoneChange (s : State) (st zone : Nat) : State := if (s.stream st).zone = zone then s else s.loadProfile st zone

/-- A head selection takes effect (R80, R86, R99, R151, R154, R220). -/
def State.headSwitch (s : State) (st : Nat) (w : Word) : State :=
  let x := s.stream st
  let old := headOf st x
  let s := if x.readers ≠ 0 then s.sweepAbort old else s
  let s := if x.readers ≠ 0 && (x.head != fld w 4 0 || fld w 9 8 == 0) then (s.sendDeselect st x.head).modHead old restHead else s
  let s := s.setOnTrack st false
  let readers := if (s.lhead (18 * actOf st + fld w 4 0)).out then 0 else s.usableReaders st (fld w 9 8)
  let s := s.modStream st fun y =>
    { y with head := fld w 4 0, readers := readers, pendingHead := none, headReady := s.now + 150, record := none,
             fresh := none, sync := .none, resync := .none, sectorDone := false, noMark := 0, lastMark := none,
             locked := false, sinceGood := [] }
  let s := s.loadProfile st (s.itemZone st (fld w 4 0))
  let s := s.modSlot (4 + st) fun y => { y with states := List.replicate 12 (0, 0) }
  let s := s.modLoop st fun l => { l with command := 0, seen := false, regain := 0 }
  if readers ≠ 0 then s.sendHeater st 2
  else if fld w 9 8 ≠ 0 then s.causeStream st 3 else s

/-- A front end is taken out of use (R82, R83). -/
def State.frontEndOut (s : State) (n : Nat) : State :=
  let s := { s with chn := { s.chn with afFailed := if s.chn.afFailed.contains n then s.chn.afFailed else n :: s.chn.afFailed } }
  let s := ((s.report (160 + n) 1 0 2).evcEdge 8 (BitVec.ofNat 32 n)).wakeEvent 7
  let st := n / 2
  let x := s.stream st
  if x.readers ≠ 0 then s.setReaders st (s.usableReaders st x.readers) else s

/-! ## Sectors and rows -/

/-- The row, member and position that a sector holds, if it lies in a row. -/
def State.rowOf (s : State) (surface track sector : Nat) : Option (Nat × Nat × Nat) :=
  s.plc.rows.findSome? fun r =>
    (r.2.members.zipIdx.find? fun m => m.1.surface == surface && m.1.track == track &&
      decide (m.1.sector ≤ sector) && decide (sector < m.1.sector + r.2.c)).map fun m => (r.1, m.2, sector - m.1.sector)

/-- The block whose newest effect a sector of a row holds, if any. -/
def State.blockAt (s : State) (row m pos : Nat) : Option Nat :=
  (s.plc.blocks.find? fun b => b.2.place == .media row m pos).map Prod.fst

/-- The zone index of a sector's place. -/
def State.zoneIx (s : State) (surface track : Nat) : Nat := zoneIndex (s.zoneTable surface) track

/-- The code option of a place. -/
def State.codeOf (s : State) (surface track : Nat) : Nat := match s.zoneOf surface track with | some z => z.code | none => 0

/-- The copy of a block on media is to be placed again, not on a surface on which that failed. -/
def State.placeCopy (s : State) (key : Nat) (avoid : Option Nat) : State :=
  { s with chn := { s.chn with recovered := aput s.chn.recovered key avoid } }

/-- Marks the media blocks of every READ-class command and COPY that is bound to a sector of a row: obtained, or lost. The newest block of
a band set being reclaimed, or of a run being rewritten, is to be placed again once it has been read (R52, R64). -/
def State.mediaOutcome (s : State) (row m pos : Nat) (good : Bool) : State :=
  let s := match s.blockAt row m pos with
    | none => s
    | some key =>
      let moved := good && (aget s.chn.recovered key).isNone && (s.plc.rewriting.contains key || s.plc.sets.any fun e => e.2.reclaiming && (s.plc.rows.any fun r => r.1 == row && r.2.set == e.1))
      let s := { s with plc := { s.plc with rewriting := s.plc.rewriting.filter (· != key) } }
      if moved then s.placeCopy key none else s
  { s with eqt := { s.eqt with cmds := amapv s.eqt.cmds fun _ c =>
      { c with bound := c.bound.map fun b =>
          if b.onMedia && !b.got && b.spot == some (row, m, pos) then
            (if good then { b with got := true } else { b with lost := true })
          else b } } }

/-! ## Soft-retain records (Table 3.9, R120, R121) -/

/-- Slots of the soft-retain area (R120). -/
def softSlots : Nat := 131072

/-- The first byte of a slot in HBM: the area's first 1 GiB is the neighbour partition (Table 13.1, R120). -/
def softAddr (slot : Nat) : Nat := 5376 * 2 ^ 20 + 2 ^ 30 + 24576 * slot

/-- The lowest free slot. -/
def freeSlot (l : Assoc SoftRec) (n : Nat) : Nat → Option Nat
  | 0 => none
  | k + 1 => if (aget l n).isSome then freeSlot l (n + 1) k else if n < softSlots then some n else none

/-- A free slot of the area, if there is one. (DESIGN CHOICE, unsafe: log entry 160.) -/
def State.softRoom (s : State) : Option Nat := freeSlot s.chn.soft 0 (s.chn.soft.length + 1)

/-- The STEP code of a step (Table 3.9). -/
def stepCode (k : Nat) : Nat := if k < 3 then k else 0x52

/-- A value of a record in four bits, saturated at ±7. -/
def softNibble (v : Int) : Nat := wrapBits 4 (satAt 7 v)

/-- The VALUES of a record: two to a byte, the even symbol in bits [3:0]. -/
def softBytes : List Int → List Byte
  | [] => []
  | [x] => [BitVec.ofNat 8 (softNibble x)]
  | x :: y :: rest => BitVec.ofNat 8 (softNibble x + 16 * softNibble y) :: softBytes rest

/-- The bytes of a soft-retain record (Table 3.9). -/
def softRecord (r : SoftRec) : List Byte :=
  pairBytes r.pair ++ leBytes 1 r.stream ++ leBytes 1 r.head ++ leBytes 1 r.code ++ leBytes 1 r.reads ++ leBytes 4 r.band ++
  leBytes 4 r.track ++ leBytes 2 r.sector ++ leBytes 1 (stepCode r.step) ++
  leBytes 1 (b2n r.nac + 2 * b2n r.oneReader + 4 * b2n r.missed + 8 * b2n r.miscorrect) ++ leBytes 2 r.unsat ++ leBytes 1 r.snr ++
  leBytes 33 0 ++ softBytes r.values

/-- Changes a record. -/
def State.modSoft (s : State) (slot : Option Nat) (f : SoftRec → SoftRec) : State :=
  match slot with
  | none => s
  | some k => { s with chn := { s.chn with soft := amod s.chn.soft k f } }

/-- A record's slot becomes free. -/
def State.freeSoft (s : State) (slot : Option Nat) : State :=
  match slot with
  | none => s
  | some k => { s with chn := { s.chn with soft := adel s.chn.soft k } }

/-- The records that outlived their ladders are released once their block is rewritten or deallocated (R113). -/
def State.softSweep (s : State) : State :=
  let owned (k : Nat) : Bool := s.chn.ladders.any fun l => l.2.slot == some k
  { s with chn := { s.chn with soft := afilter s.chn.soft fun k r => owned k ||
      (match r.spot with | some (n, m, pos) => (s.blockAt n m pos).isSome | none => true) } }

/-! ## Ladders (R109-R118, R657) -/

/-- Adds to a counter of a ladder's head and zone. -/
def State.ladCount (s : State) (l : Ladder) (k n : Nat) : State := s.countAt l.head (s.zoneIx l.surface l.track) k n

/-- Changes a ladder. -/
def State.modLadder (s : State) (i : Nat) (f : Ladder → Ladder) : State :=
  { s with chn := { s.chn with ladders := amod s.chn.ladders i f } }

/-- A ladder reaches a step, which its record shows. -/
def State.ladderStep (s : State) (i step : Nat) : State :=
  match aget s.chn.ladders i with
  | none => s
  | some l => (s.modLadder i fun l => { l with step := step }).modSoft l.slot fun r => { r with step := step }

/-- N_REREAD of a ladder. -/
def ladRereads (l : Ladder) : Nat := fld l.cfg 1 0

/-- EARLY_REBUILD of a ladder. -/
def ladEarly (l : Ladder) : Bool := bit l.cfg 4

/-- The healthy heads of a surface (R110): on an actuator not out of use, not themselves out of use. -/
def State.healthyHeads (s : State) (surface : Nat) : List Nat :=
  ((List.range 4).filter fun a => (s.act a).state != .outOfUse && !(s.lhead (18 * a + surface)).out).map (18 * · + surface)

/-- The deep decoders take work: ladder decodes before first-pass decodes, each in arrival order, at most four at once
(R105); from PN2 on they serve ladder decodes only (Table 15.6). -/
def State.deepPump (s : State) : Nat → State
  | 0 => s
  | n + 1 =>
    if s.chn.deepBusy.length < 4 then
      let l := s.chn.deepQueue
      match (l.filter fun j => !j.first) ++ (l.filter fun j => j.first && decide (s.stageCode < 2)) with
      | [] => s
      | j :: _ =>
        ({ s with chn := { s.chn with deepQueue := l.erase j, deepBusy := s.chn.deepBusy ++ [{ j with begun := s.now }] } }).deepPump n
    else s

/-- A deep decode is queued (R105). A ladder decode is never turned away: beyond 64 sectors it waits its turn, and no first-pass sector
enters the queue meanwhile. (DEDUCED, unsafe: log entry 64.) -/
def State.deepAdd (s : State) (j : DeepJob) : State :=
  let s := { s with chn := { s.chn with deepQueue := s.chn.deepQueue ++ [j] } }
  (s.modLadder j.ladder fun l => if j.member.isNone then { l with deep := true } else l).deepPump 4

/-- A sector outside the rows that another copy doubles: a JOURNAL or CKPT_ROOT sector, in a conventional zone (R114). -/
def State.otherCopy (s : State) (surface track sector : Nat) : Option (Nat × Nat × Nat) :=
  let lists := (s.plc.mediaJournal.map fun e => e.2.spots) ++ s.plc.roots.map fun e => e.2.spots
  (lists.find? fun l => l.contains (surface, track, sector)).bind fun l => l.find? fun e => e != (surface, track, sector)

/-- The members that a rebuild may read, in the order of its preference (R112): on media and not failed there, with two parity members the
data members first; for a sector that another copy doubles, that copy. -/
def State.rebuildMembers (s : State) (l : Ladder) : List Nat :=
  match l.row with
  | none => if (s.otherCopy l.surface l.track l.sector).isSome then [0] else []
  | some (r, m, pos) => match aget s.plc.rows r with
    | none => []
    | some row =>
      let able := below row.members.length fun k => k != m &&
        (match row.members[k]? with | some x => x.onMedia && !x.failed.contains pos | none => false)
      let data (k : Nat) : Bool := match row.members[k]? with | some x => !x.parity | none => false
      (able.filter data) ++ able.filter fun k => !data k

/-- Members a rebuild needs (R112). -/
def State.rebuildNeed (s : State) (l : Ladder) : Nat :=
  match l.row with
  | none => 1
  | some (r, _, _) => match aget s.plc.rows r with
    | none => 0
    | some row => row.members.length - row.p

/-- Where a rebuild read lies: surface, track, sector. -/
def State.rebuildSpot (s : State) (l : Ladder) (k : Nat) : Option (Nat × Nat × Nat) :=
  match l.row with
  | none => s.otherCopy l.surface l.track l.sector
  | some (r, _, pos) => (aget s.plc.rows r).bind fun row => (row.members[k]?).map fun m => (m.surface, m.track, m.sector + pos)

/-- One rebuild read of a ladder is issued with rebuild priority. -/
def State.issueMember (s : State) (i : Nat) (l : Ladder) (k : Nat) : State :=
  match s.rebuildSpot l k with
  | none => s
  | some (u, t, x) =>
    (s.modLadder i fun l => { l with issued := l.issued ++ [k] }).addPiece
      { kind := .ladder, owner := i, items := [16 + k], act := s.pickActuator [] [u] t x, surfaces := [u], track := t, sector := x,
        cls := 0, count := 0, ages := [], dueAt := none, pair := l.pair, head := none }

/-- The rebuild member reads of a ladder are issued (R109, R112, R657): as many as the rebuild needs, less those gathered and those still
running; further ones as members are refused. -/
def State.issueRebuild (s : State) (i : Nat) : State :=
  match aget s.chn.ladders i with
  | none => s
  | some l =>
    let s := s.modLadder i fun l => { l with rebuild := true }
    let running := l.issued.length - l.refused.length
    let next := ((s.rebuildMembers l).filter fun k => !l.issued.contains k).take (s.rebuildNeed l - running)
    next.foldl (fun s k => s.issueMember i l k) s

/-- A re-read of a ladder is scheduled (R109, R110): items names the re-read. The head of another actuator makes it where CROSS_ACT and the
seek budgets allow one and it can reach the sector before the same head comes round again, one revolution later; otherwise the same head,
or any healthy one where that is lost. -/
def State.issueReread (s : State) (i : Nat) : State :=
  match aget s.chn.ladders i with
  | none => s
  | some l =>
    let s := s.modLadder i fun l => { l with rereadDue := true }
    let own := l.head / 18
    let cross := if bit l.cfg 5 then s.crossActs own l.surface l.track else []
    let same := !(s.lhead l.head).out && (s.act own).state != .outOfUse
    let wait (b : Nat) : Nat := s.estimate b l.surface l.track l.sector
    let a := match argMin cross wait with
      | some b => if same && decide (s.revNs < wait b) then own else b
      | none => if same then own else s.pickActuator [own] [l.surface] l.track l.sector
    s.addPiece { kind := .ladder, owner := i, items := [l.reads], act := a, surfaces := [l.surface], track := l.track,
                 sector := l.sector, cls := 0, count := 0, ages := [], dueAt := none, pair := l.pair,
                 head := if a = own then some l.head else none }

/-- A ladder ends: its decodes, those running among them, and its pieces go (R106, R116, R117). (DEDUCED, unsafe: log entry 159.) -/
def State.ladderDrop (s : State) (i : Nat) (keep : Bool) : State :=
  let slot := (aget s.chn.ladders i).bind (·.slot)
  let s := { s with chn := { s.chn with
    ladders := adel s.chn.ladders i,
    deepQueue := s.chn.deepQueue.filter fun j => j.ladder != i,
    deepBusy := s.chn.deepBusy.filter fun j => j.ladder != i } }
  let s := if keep then s else s.freeSoft slot
  (s.dropPieces .ladder i).deepPump 4

/-- A ladder recovers its sector at a step (R106, R115): every read bound to it has it, and from RELOC_STEP on the block is
to be placed again; a rebuilt one is (R78). -/
def State.ladderRecovered (s : State) (i step : Nat) : State :=
  match aget s.chn.ladders i with
  | none => s
  | some l =>
    let s := s.ladCount l (if step = 0 then 2 else if step = 1 then 5 else if step = 2 then 6 else 7) 1
    let s := match l.row with
      | none => s
      | some (r, m, pos) =>
        let s := s.mediaOutcome r m pos true
        match s.blockAt r m pos with
        | none => s
        | some key =>
          if fld l.cfg 11 8 ≤ step ∧ (aget s.chn.recovered key).isNone then
            s.placeCopy key none
          else s
    s.ladderDrop i false

/-- A ladder ends unrecovered (R113): its record is kept. -/
def State.ladderLost (s : State) (i : Nat) : State :=
  match aget s.chn.ladders i with
  | none => s
  | some l =>
    let s := s.ladCount l 8 1
    let s := s.report (192 + l.stream) 1 (l.track % 2 ^ 24 * 1024 + l.sector % 1024) 2
    let s := match l.row with
      | none => s
      | some (r, m, pos) => s.mediaOutcome r m pos false
    s.ladderDrop i true

/-- Every step before step R has ended, but for a deep decode of the first pass that still runs beside the rebuild: the re-reads are made and
no decode of their sums is queued or running (R657). -/
def State.readsOver (s : State) (i : Nat) (l : Ladder) : Bool :=
  !l.rereadDue && (decide (ladRereads l ≤ l.reads)) &&
    !((s.chn.deepQueue ++ s.chn.deepBusy).any fun d => d.ladder == i && d.member.isNone && (!d.first || ladRereads l == 0))

/-- What a ladder does next: a further re-read where one is left, a healthy head serves the surface, and the sum of the last is decoded;
the rebuild reads once the last step before step R has ended without recovery, or no healthy head remains (R122, R657), and more of them
where members have been refused; and it ends unrecovered where the rebuild cannot gather its members and nothing else runs (R113). -/
def State.ladderNext (s : State) (i : Nat) : State :=
  match aget s.chn.ladders i with
  | none => s
  | some l =>
    let healthy := !(s.healthyHeads l.surface).isEmpty
    if healthy && !l.deep && !l.rereadDue && decide (l.reads < ladRereads l) then s.issueReread i
    else
      let s := if l.rebuild || s.readsOver i l || !healthy then s.issueRebuild i else s
      match aget s.chn.ladders i with
      | none => s
      | some l =>
        let left := (s.rebuildMembers l).filter fun k => !l.refused.contains k
        if l.rebuild && !l.deep && (!l.rereadDue || !healthy) && decide (left.length < max 1 (s.rebuildNeed l)) then s.ladderLost i else s

/-- A sector fails its first pass (R109): one ladder serves all reads of it (R117). Its channel values are retained in the lowest free slot
of the soft-retain area, every value 0 after a missed mark; without a free slot nothing is retained (R120). -/
def State.ladderStart (s : State) (st : Nat) (r : Reading) (missed mis : Bool) (values : List Int) (unsat : Nat) : State :=
  if s.chn.ladders.any fun l => l.2.surface == r.surface && l.2.track == r.track && l.2.sector == r.sector then s
  else
    let i := s.chn.nextLadder
    let code := s.codeOf r.surface r.track
    let eclipse := match s.zoneOf r.surface r.track with | some z => z.eclipse | none => false
    let cfg := s.rv .chnEscCfg
    let cfg := if eclipse && !s.plc.rebuilt then cfg &&& ~~~3#32 ||| 2#32 else cfg
    let head := 18 * actOf st + r.surface
    let spot := s.rowOf r.surface r.track r.sector
    let vals := if missed then List.replicate (codeBits code) 0 else values
    let rec_ : SoftRec := {
      pair := s.pair, stream := st, head := head, code := code, reads := 1,
      band := (s.bandAt r.surface r.track).getD (bandId r.surface 0), track := r.track, sector := r.sector, step := 0, nac := r.nac,
      oneReader := r.one, missed := missed, miscorrect := mis, unsat := unsat, snr := r.snr, values := vals, spot := spot }
    let slot := s.softRoom
    let l : Ladder := {
      surface := r.surface, track := r.track, sector := r.sector, head := head, stream := st, code := code, pair := s.pair, cfg := cfg,
      step := 0, reads := 0, slot := slot, rereadDue := false, rebuild := false, issued := [], gathered := [],
      refused := [], row := spot, deep := false }
    let s := s.stamped
    let s := { s with chn := { s.chn with
      ladders := aput s.chn.ladders i l, nextLadder := i + 1,
      soft := match slot with | some k => aput s.chn.soft k rec_ | none => s.chn.soft } }
    let s := if slot.isSome then s else s.ladCount l 14 1
    let s := if missed then s
      else if s.chn.deepQueue.length < 64 then s.deepAdd { ladder := i, member := none, first := true, begun := 0 }
      else s.ladCount l 4 1
    let s := if 1 ≤ ladRereads l then s.issueReread i else s
    let s := if ladEarly l then s.issueRebuild i else s
    s.ladderNext i

/-- A member of a ladder's row has been read for its rebuild, with the payload it gave, or cannot be (R112). -/
def State.memberRead (s : State) (i k : Nat) (got : Option (BitVec 33792)) : State :=
  match got with
  | some p => s.modLadder i fun l => { l with gathered := l.gathered ++ [(k, p)] }
  | none => (s.modLadder i fun l => { l with refused := l.refused ++ [k] }).ladderNext i

/-- Whether a read or drive-managed work still needs a ladder's sector (R117): a read bound to it, a trailing place for its block, or a
reclaim of its band set. -/
def State.ladderNeeded (s : State) (l : Ladder) : Bool :=
  match l.row with
  | none => true
  | some (r, m, pos) =>
    (s.eqt.cmds.any fun c => c.2.bound.any fun b => b.onMedia && !b.got && !b.lost && b.spot == some (r, m, pos)) ||
    (match s.blockAt r m pos with
     | none => false
     | some key => (aget s.chn.recovered key).isSome || s.plc.rewriting.contains key ||
        (match aget s.plc.rows r with
         | some row => (match aget s.plc.sets row.set with | some b => b.reclaiming | none => false)
         | none => false))

/-- At a step boundary, a ladder that nothing needs is abandoned (R117). -/
def State.ladderBoundary (s : State) (i : Nat) : State :=
  match aget s.chn.ladders i with
  | none => s
  | some l => if s.ladderNeeded l then s else s.ladderDrop i false

/-- The re-reads of a ladder leave the queue. -/
def State.dropRereads (s : State) (i : Nat) : State :=
  { s with orb := { s.orb with pieces := afilter s.orb.pieces fun _ p =>
      !(p.kind == .ladder && p.owner == i && p.items.all fun k => decide (k < 16)) } }

/-- A head of a surface is lost: with no healthy head left, every ladder of the surface goes to step R at once (R122). -/
def State.laddersLost (s : State) (surface : Nat) : State :=
  if !(s.healthyHeads surface).isEmpty then s
  else (s.chn.ladders.filter fun e => e.2.surface == surface).foldl (fun s e =>
    ((s.modLadder e.1 fun l => { l with rereadDue := false }).dropRereads e.1).ladderNext e.1) s

/-! ## What a decode leaves (R103, R104, Table 3.11) -/

/-- CHN_ST_LAST_s after a sector. -/
def State.lastWord (outcome iter corr snr : Nat) : Word :=
  word [(snr % 256, 24), (iter % 32, 19), (outcome % 8, 16), (min 0xFFFF corr, 0)]

/-- OUTCOME of CHN_ST_LAST_s for a sector that failed its first pass (Table 3.11). -/
def lastOutcome (how : Nat) : Nat :=
  if how = 0 then 0 else if how = 1 then 2 else if how = 2 then 5 else if how = 3 then 3 else 4

/-- What a slot of the sector buffers holds. -/
def State.slotState (s : State) (st n : Nat) : SlotState := agetD s.chn.slots (256 * st + n % 256) .free

/-- Sets what a slot holds. -/
def State.setSlot (s : State) (st n : Nat) (v : SlotState) : State :=
  { s with chn := { s.chn with slots := acanon s.chn.slots (256 * st + n % 256) .free v } }

/-- The payload in a slot, in the clear. -/
def State.slotPayload (s : State) (st n : Nat) : BitVec 33792 := agetD s.chn.slotData (256 * st + n % 256) 0

/-- The first byte of a slot in SRAM. -/
def slotBase (st n : Nat) : Nat := 0x1000000 + 8192 * (256 * st + n % 256)

/-- A byte of a slot is poisoned (Table 13.2). -/
def State.slotPoisoned (s : State) (st n : Nat) : Bool := s.srm.poisoned.any fun p => decide (slotBase st n ≤ p) && decide (p < slotBase st n + 8192)

/-- Puts a payload into a slot, whose bytes get new check bits (R459). -/
def State.setPayload (s : State) (st n : Nat) (v : BitVec 33792) : State :=
  let out (p : Nat) : Bool := decide (p < slotBase st n) || decide (slotBase st n + 8192 ≤ p)
  { s with srm := { s.srm with poisoned := s.srm.poisoned.filter out, correctable := s.srm.correctable.filter out }, chn := { s.chn with slotData := acanon s.chn.slotData (256 * st + n % 256) 0 v } }

/-! ## The stored form (R33, R34, R45) -/

/-- The stored form of a block: what its namespace's key makes of its 4,160 bytes under its LBA (R33, R618). -/
def State.storedForm (s : State) (key : Nat) (v : BlockVal) : BitVec 33280 :=
  Config.xtsEncrypt (s.ns (key / 2 ^ 64)).key (key % 2 ^ 64) (blockBits v)

/-- A payload as it is stored: the 4,160 bytes of a DATA sector under the key and LBA that its metadata name, any other sector as it is (the
slot of an ECLIPSE sector holds the stored form already, R534); the metadata are not encrypted (R33). -/
def State.sealPayload (s : State) (p : BitVec 33792) : BitVec 33792 :=
  let m := metaOf (payloadMeta p)
  if m.kind = 1 then
    (p &&& ~~~((BitVec.allOnes 33280).setWidth 33792)) |||
      (Config.xtsEncrypt (s.ns m.nsid).key m.lba (payloadData p)).setWidth 33792
  else p

/-- A stored payload in the clear. -/
def State.openPayload (s : State) (p : BitVec 33792) : BitVec 33792 :=
  let m := metaOf (payloadMeta p)
  if m.kind = 1 then
    (p &&& ~~~((BitVec.allOnes 33280).setWidth 33792)) |||
      (Config.xtsDecrypt (s.ns m.nsid).key m.lba (payloadData p)).setWidth 33792
  else p

/-- The metadata of a sector of a row (Table 2.2): DATA with its block, PARITY, or PAD where the member has no block there. -/
def rowMeta (n : Nat) (r : Row) (k pos : Nat) (m : Member) : SecMeta :=
  let b := aget r.vals (64 * k + pos)
  { kind := if m.parity then 2 else if b.isSome then 1 else 8,
    nsid := match b with | some x => if m.parity then 0 else x.key / 2 ^ 64 | none => 0,
    member := m.pos, width := r.w, parity := r.p,
    lba := match b with | some x => if m.parity then 0 else x.key % 2 ^ 64 | none => 0,
    row := n, pair := r.pair, band := bandId m.surface m.band, gen := 0 }

/-- The stored bytes that a data member holds at a position: 0 where it has no block, since PAD sectors take no part in the parity
(R49). -/
def State.memberStored (s : State) (r : Row) (k pos : Nat) : BitVec 33280 :=
  match aget r.vals (64 * k + pos) with
  | some b => s.storedForm b.key b.val
  | none => 0

/-- The member numbers of a row's data members, in order of member position: data index j is the place in this list (R45, R46). -/
def dataMembers (r : Row) : List Nat := (r.members.zipIdx.filter fun e => !e.1.parity).map Prod.snd

/-- Whether a parity member is the first of its row, at position r mod W (R46). -/
def firstParity (r : Row) (m : Member) : Bool := m.pos == r.r % max 1 r.wide

/-- The stored bytes of a sector of a row (R45). -/
def State.rowStored (s : State) (r : Row) (k pos : Nat) : BitVec 33280 :=
  match r.members[k]? with
  | none => 0
  | some m =>
    if !m.parity then s.memberStored r k pos
    else
      let ds := (dataMembers r).map fun j => s.memberStored r j pos
      if firstParity r m then xorParity ds else gfParity ds

/-- The payload of a sector of a row as it is stored. -/
def State.rowPayload (s : State) (n : Nat) (r : Row) (k pos : Nat) : BitVec 33792 :=
  match r.members[k]? with
  | none => 0
  | some m => payloadOf (s.rowStored r k pos) (rowMeta n r k pos m)

/-- What a rebuild makes of the member payloads it has gathered, at a position of a row (R45, R112). -/
def rebuildFrom (r : Row) (k : Nat) (got : List (Nat × BitVec 33792)) : Option (BitVec 33280) :=
  let read (j : Nat) : Option (BitVec 33280) := (got.find? fun e => e.1 == j).map fun e => payloadData e.2
  let par (first : Bool) : Option (BitVec 33280) :=
    (r.members.zipIdx.find? fun e => e.1.parity && firstParity r e.1 == first).bind fun e => if e.2 = k then none else read e.2
  let ds := (dataMembers r).map fun j => if j = k then none else read j
  match solveRow ds (par true) (par false), r.members[k]? with
  | some l, some m =>
    if m.parity then some (if firstParity r m then xorParity l else gfParity l)
    else ((dataMembers r).zip l).findSome? fun e => if e.1 = k then some e.2 else none
  | _, _ => none

/-- Whether the members gathered are those of the row: each names its row number and its own position in metadata that pass (R104, R112). -/
def gatheredGood (n : Nat) (r : Row) (got : List (Nat × BitVec 33792)) : Bool :=
  got.all fun e => match r.members[e.1]? with
    | none => false
    | some m => metaGood (payloadMeta e.2) &&
        (metaOf (payloadMeta e.2)).row == n && (metaOf (payloadMeta e.2)).member == m.pos

end Sys2Proof.Machine
end

