-- ==== Sys2Proof/Machine/Sequencer.lean ====
section
/-! DEFINITION. Sector sequencers (chapter 5): the microcode word, conditions, ports, the order of R171, commit, restart,
trap, and the control store. -/

namespace Sys2Proof.Machine

/-! ## The microcode word (Table 5.2) -/

/-- Bits [hi:lo] of a microcode word. -/
def mw (w : BitVec 128) (hi lo : Nat) : Nat := fldN w hi lo

/-- NEXT. -/
def mwNext (w : BitVec 128) : Nat := mw w 127 114
/-- FLOW. -/
def mwFlow (w : BitVec 128) : Nat := mw w 113 112
/-- COND_A. -/
def mwCondA (w : BitVec 128) : Nat := mw w 111 106
/-- COND_B. -/
def mwCondB (w : BitVec 128) : Nat := mw w 105 100
/-- WAIT. -/
def mwWait (w : BitVec 128) : Nat := mw w 99 94
/-- WNEG. -/
def mwWneg (w : BitVec 128) : Bool := w.getLsbD 93
/-- TMO. -/
def mwTmo (w : BitVec 128) : Nat := mw w 92 81
/-- ATM. -/
def mwAtm (w : BitVec 128) : Nat := mw w 80 79
/-- AT. -/
def mwAt (w : BitVec 128) : Nat := mw w 78 59
/-- RG. -/
def mwRg (w : BitVec 128) : Nat := mw w 58 57
/-- WG. -/
def mwWg (w : BitVec 128) : Nat := mw w 56 55
/-- SECT. -/
def mwSect (w : BitVec 128) : Nat := mw w 54 53
/-- COMMIT. -/
def mwCommit (w : BitVec 128) : Bool := w.getLsbD 48
/-- OPC. -/
def mwOpc (w : BitVec 128) : Nat := mw w 47 44
/-- DST. -/
def mwDst (w : BitVec 128) : Nat := mw w 43 40
/-- SRC. -/
def mwSrc (w : BitVec 128) : Nat := mw w 39 36
/-- IMM. -/
def mwImm (w : BitVec 128) : Nat := mw w 35 20

/-- The word a sequencer is at; an address without a word holds 0. -/
def State.mword (s : State) (q : Nat) : BitVec 128 := agetD s.seq.words (s.seqr q).pc 0

/-- Whether the word a sequencer is at fails parity (R166, R167). -/
def State.badWord (s : State) (q : Nat) : Bool := s.seq.bad.any fun e => e.1 == (s.seqr q).pc

/-- Variable Vn. -/
def seqVar (x : Seq) (n : Nat) : Word := x.vars.getD n 0

/-- Sets variable Vn. -/
def seqSetVar (x : Seq) (n : Nat) (v : Word) : Seq := { x with vars := x.vars.set n v }

/-- The flags after a result (Table 5.4). -/
def seqFlags (x : Seq) (r : Word) (c : Bool) : Seq := { x with zero := r == 0, neg := r.msb, carry := c }

/-- The stream that a sequencer's conditions concern: its own, or for a privileged one the stream that has REF_HEAD. -/
def State.seqStream (s : State) (q : Nat) : Option Nat :=
  if q < 16 then some (s.seqr q).stream
  else (below 16 fun st => (s.stream st).readers != 0 && headOf st (s.stream st) == (s.seqr q).refHead).head?

/-! ## Conditions (Table 5.3) -/

/-- Whether a time has come since an acknowledgement. -/
def State.since (s : State) (t : Option Nat) (d : Nat) : Bool :=
  match t with
  | none => false
  | some t => decide (t + d ≤ s.now)

/-- HTR_LEAD of a stream's write profile, in ns. -/
def htrLead (x : Stream) : Nat := 2000 * wprofByte x.wprofile 22

/-- WR_ARM of a stream's write profile, in ns. -/
def wrArm (x : Stream) : Nat := 250 * wprofByte x.wprofile 24

/-- A condition of the stream (Table 5.3 codes 8-22). Reads go on while a contact keeps the heater at 0 (R152), so that HTR_RD_READY holds
then. (DEDUCED, unsafe: log entry 137.) -/
def State.streamCond (s : State) (st code : Nat) : Bool :=
  let x := s.stream st
  let h := s.lhead (headOf st x)
  match code with
  | 8 => match x.record with | some r => r.sam | none => false
  | 9 => x.readers != 0 && (s.loop st).onTrack
  | 10 => s.inhibits st == 0
  | 11 => h.contact || (h.heaterKind == 0 && s.since h.heaterAck (htrLead x))
  | 12 => h.heaterKind == 1 && s.since h.heaterAck (htrLead x)
  | 13 => h.armed && s.since h.armAck (wrArm x)
  | 14 => x.pendingHead.isNone && decide (x.headReady ≤ s.now)
  | 15 => x.locked
  | 16 => (s.link (actOf st)).up
  | 17 => x.sync != .none
  | 18 => x.sync == .found
  | 19 => x.resync != .none
  | 20 => x.resync == .found
  | 21 => x.sectorDone
  | 22 => if x.writeGate || (match s.seqOf st with
      | some q => (match (s.seqr q).items with | w :: _ => w.kind == 2 || w.kind == 4 | [] => false)
      | none => false) then s.slotState st x.slotPort == .source else s.slotState st x.slotPort == .free
  | _ => false

/-- The value of a condition for a sequencer (Table 5.3). -/
def State.seqCond (s : State) (q code : Nat) : Bool :=
  let x := s.seqr q
  match code with
  | 0 => false
  | 1 => true
  | 2 => x.zero
  | 3 => x.neg
  | 4 => x.carry
  | 5 => x.timeout
  | 6 => x.late
  | 7 => x.newWedge
  | 23 => !x.items.isEmpty
  | 24 => match x.items with | w :: _ => decide (w.count ≤ x.framed + 1) | [] => false
  | 25 => x.idx
  | 26 => s.seq.stopReq
  | 27 => decide (16 ≤ q) && s.pwr.umbra
  | 28 => decide (16 ≤ q) && s.pwr.stage != 0
  | c => match s.seqStream q with | some st => s.streamCond st c | none => false

/-- The conditions a word names: sampling NEW_WEDGE and IDX clears them, and naming LATE ends it (Table 5.3, R172). -/
def sampleConds (x : Seq) (cs : List Nat) : Seq :=
  { x with newWedge := x.newWedge && !cs.contains 7, idx := x.idx && !cs.contains 25, late := x.late && !cs.contains 6 }

/-! ## Work items (R179) -/

/-- A work item is retired, and its poster will learn of it (Table 5.7). -/
def State.retire (s : State) (q : Nat) (count result : Nat) : State :=
  let x := s.seqr q
  match x.items with
  | [] => s
  | w :: rest =>
    let failed := (s.stream x.stream).failedSectors.filter fun e => e.1 == w.track
    let d : WorkDone := { item := w, stream := x.stream, count := count, result := if result < 4 then result else 3, failed := failed,
                          wrote := (s.stream x.stream).wrote.filter (fun e => e.track == w.track) }
    let s := s.modSeq q fun x => { x with items := rest, itemNo := x.itemNo + 1, framed := 0 }
    let s := s.modStream x.stream fun y => { y with
      failedSectors := y.failedSectors.filter (fun e => e.1 != w.track), wrote := y.wrote.filter fun e => e.track != w.track }
    { s with seq := { s.seq with done := s.seq.done ++ [d] } }

/-- Every work item of a sequencer is retired with one result. -/
def State.retireAll (s : State) (q result : Nat) : State :=
  (List.range (s.seqr q).items.length).foldl (fun s _ => s.retire q 0 result) s

/-- The queued work items of a sequencer that name a head go back to their poster as ABANDONED; its current one is the microcode's to
retire, on HEAD_LOST (Table 5.8). -/
def State.withdrawHead (s : State) (q head : Nat) : State :=
  let x := s.seqr q
  let gone := (x.items.drop 1).filter fun w => w.head == head
  let s := s.modSeq q fun x => { x with items := x.items.take 1 ++ (x.items.drop 1).filter fun w => w.head != head }
  { s with seq := { s.seq with done := s.seq.done ++ gone.map fun w =>
      { item := w, stream := x.stream, count := 0, result := 2, failed := [], wrote := [] } } }

/-- A work item is posted to a stream sequencer: refused at once as FAILED where its KIND is reserved or its HEAD is not
populated (R179), or where one item and 15 queued ones are held already. -/
def State.postItem (s : State) (q : Nat) (w : WorkItem) : State :=
  if within w.kind 1 5 && decide (w.head < s.surfaces) && decide ((s.seqr q).items.length < 16) &&
      (s.seqr q).state != .failed && decide (q < 16) then
    s.modSeq q fun x => { x with items := x.items ++ [w], framed := if x.items.isEmpty then 0 else x.framed }
  else { s with seq := { s.seq with done := s.seq.done ++
      [{ item := w, stream := (s.seqr q).stream, count := 0, result := 3, failed := [], wrote := [] }] } }

/-- The 32 bytes of a work item (Table 5.6). -/
def workBytes (w : WorkItem) : List Byte :=
  leBytes 1 w.kind ++ leBytes 1 w.head ++ leBytes 1 w.flags ++ leBytes 1 0 ++ leBytes 4 w.track ++ leBytes 2 w.first ++
  leBytes 2 w.count ++ leBytes 2 w.slot ++ leBytes 2 0 ++ leBytes 8 w.tag ++ leBytes 8 0

/-- The work item that 32 bytes hold. -/
def workOf (b : List Byte) : WorkItem :=
  { kind := leAt b 0 1, head := leAt b 1 1, flags := leAt b 2 1, track := leAt b 4 4, first := leAt b 8 2,
    count := leAt b 10 2, slot := leAt b 12 2 % 256, tag := leAt b 16 8 }

/-! ## Gates and framing (R126-R128, R180-R184) -/

/-- The sector being read has missed its sync mark (3) or a resync mark (4): it is a decode failure with no soft values (R92). -/
def markMissed (x : Stream) (k : Nat) : List Reading :=
  x.decoding.zipIdx.map fun e =>
    if e.2 + 1 = x.decoding.length ∧ e.1.missed = 0 then { e.1 with missed := k } else e.1

/-- The gates of a stream close outside a FRAG_END: a fragment in progress makes the sector fail (R184). -/
def State.closeGates (s : State) (st : Nat) (rd wr : Bool) : State :=
  let cutWrite := wr && (s.stream st).writeGate && (s.stream st).inFragment
  (if wr then s.writerIdle st else s).modStream st fun x =>
    let cutRead := rd && x.readGate && x.inFragment
    { x with readGate := x.readGate && !rd,
             inFragment := x.inFragment && !cutRead && !cutWrite,
             inSector := x.inSector && !cutRead && !cutWrite,
             sync := if cutRead then .missed else x.sync,
             decoding := if cutRead then markMissed x 4 else x.decoding,
             failedSectors := if cutWrite then x.failedSectors ++ x.cur.toList else x.failedSectors }

/-- SYMBOL_RATE of the zone that a stream is in, in MHz. -/
def State.streamRate (s : State) (x : Stream) : Nat :=
  match (s.zoneTable x.head)[x.zone]? with | some z => z.symbolRate | none => 0

/-- Whether R128, R137 and WR_SAFE allow a write gate to open. -/
def State.writeAllowed (s : State) (st : Nat) : Bool :=
  let x := s.stream st
  x.readers != 0 && !x.readGate && s.streamCond st 12 && s.streamCond st 13 && s.inhibits st == 0

/-- RG of a word takes effect: a read gate opens only once HTR_READ has settled (R137), its loops start (R93, R94), and they are held from
its closing within a sector to the resync mark (R91). -/
def State.applyRg (s : State) (st : Nat) (w : BitVec 128) : State :=
  if mwRg w = 2 then
    (if mwSect w ≠ 3 then s.closeGates st true false else s).modStream st fun x =>
      { x with readGate := false, adapt := { x.adapt with held := x.adapt.held || x.inSector } }
  else if mwRg w = 1 ∧ (s.stream st).readers ≠ 0 ∧ s.streamCond st 11 ∧ !(s.stream st).writeGate ∧ !(s.stream st).readGate then
    s.modStream st fun x => { x with readGate := true, adapt := openGate (s.streamRate x) x.inSector x.adapt }
  else s

/-- RG and WG of a word take effect (step 3). A write gate that may not open is an interrupt with cause INHIBIT (R183). -/
def State.applyGates (s : State) (q st : Nat) (w : BitVec 128) : State :=
  let s := s.applyRg st w
  if mwWg w = 2 ∧ mwSect w = 3 then s
  else if mwWg w = 2 then s.closeGates st false true
  else if mwWg w = 1 then
    if s.writeAllowed st then s.modStream st fun x =>
      { x with writeGate := true, gateSyms := if x.writeGate then x.gateSyms else [] } else s.cause q 0
  else s

/-- No work item. -/
def noItem : WorkItem := { kind := 0, head := 0, flags := 0, track := 0, first := 0, count := 0, slot := 0, tag := 0 }

/-- The current work item of a sequencer. -/
def curItem (x : Seq) : WorkItem := x.items.headD noItem

/-- A work item writes. -/
def writesItem (w : WorkItem) : Bool := w.kind == 2 || w.kind == 4

/-- The reading of the next sector of a sequencer's work item. -/
def nextReading (x : Seq) (y : Stream) : Reading :=
  let w := curItem x
  { slot := y.slotPort, surface := y.head, track := w.track, sector := w.first + x.framed, kind := w.kind, flags := w.flags, tag := w.tag,
    missed := 0, endAt := none, snr := 0, nac := false, one := decide ((readersInUse y.readers).length = 1) }

/-- A framing fault (R182): the sector in progress fails, or the one that was to begin. -/
def State.frameFault (s : State) (q st : Nat) : State :=
  let z := s.seqr q
  (s.modStream st fun x =>
    if x.inSector then
      { x with sync := if x.cur.isNone then .missed else x.sync, decoding := if x.cur.isNone then markMissed x 4 else x.decoding,
               inFragment := false, inSector := false, failedSectors := x.failedSectors ++ x.cur.toList }
    else if mwSect (s.mword q) ≠ 1 ∨ z.items.isEmpty then x
    else if writesItem (curItem z) then
      { x with failedSectors := x.failedSectors ++ [((curItem z).track, (curItem z).first + z.framed)] }
    else { x with decoding := x.decoding ++ [{ nextReading z x with missed := 4 }] }).cause q 11

/-- The write path ends a fragment: the codeword bits up to it have been put out (R181). -/
def State.writeFragment (s : State) (st n : Nat) : State :=
  s.modStream st fun x => { x with gateSyms := x.gateSyms ++ wordBits x.word x.sent n, sent := x.sent + n }

/-- A sector begins to be read (R180). -/
def State.startRead (s : State) (q st start : Nat) : State :=
  let r := nextReading (s.seqr q) (s.stream st)
  (s.setSlot st r.slot .waiting).modStream st fun y =>
    { y with inSector := true, inFragment := true, fragEnds := 0, fragStart := start, sync := .none, resync := .none,
             sectorDone := false, decoding := y.decoding ++ [r], cur := none, adapt := beginSector y.adapt }

/-- A sector begins to be written (R180): its codeword is made from the slot, in its stored form and scrambled (R33, R88, R89, R102); the
splice gap after the sector before it in the gate, the preamble and the sync mark go out (R130, R138). WRP_TV_CFG is taken for its trailing
verify (R160). A poisoned slot makes the sector a failed write (Table 13.2). -/
def State.startWrite (s : State) (q st start : Nat) : State :=
  let item := curItem (s.seqr q)
  let sector := item.first + (s.seqr q).framed
  let x := s.stream st
  let code := s.codeOf x.head item.track
  let word := scramble item.track sector code (encodeSector code (s.sealPayload (s.slotPayload st x.slotPort)))
  let bad := s.slotPoisoned st x.slotPort
  s.modStream st fun y =>
    { y with inSector := true, inFragment := true, fragEnds := 0, fragStart := start, sectorDone := false,
             failedSectors := if bad then y.failedSectors ++ [(item.track, sector)] else y.failedSectors,
             cur := some (item.track, sector), sinceGood := y.sinceGood ++ [(item.track, sector)],
             wrote := y.wrote ++ [{ track := item.track, sector := sector, cfg := s.rv .wrpTvCfg, endAt := s.now }],
             word := word, sent := 0,
             gateSyms := (if y.gateSyms.isEmpty then [] else y.gateSyms ++ preamble (4 * wprofByte y.wprofile 23)) ++
               leadSymbols true (preLen y.profile) 0 }

/-- SECT of a word takes effect (step 4; R180-R182): the zone of the item's track takes effect at its sector's start (R86). -/
def State.applySect (s : State) (q st pos : Nat) (w : BitVec 128) (open_ : Bool) : State :=
  match mwSect w with
  | 1 =>
    if !open_ then s.frameFault q st
    else
      let s := s.zoneChange st (s.zoneIx (s.stream st).head (curItem (s.seqr q)).track)
      let start := pos + preLen (s.stream st).profile + 32
      let s := if (s.stream st).readGate then s.startRead q st start else s.startWrite q st start
      s.modSeq q fun y => { y with framed := y.framed + 1 }
  | 2 =>
    if !open_ then s.frameFault q st
    else s.modStream st fun y =>
      { y with inFragment := true, resync := .none, fragStart := pos + profByte y.profile 10 + 16,
               gateSyms := if y.writeGate then y.gateSyms ++ leadSymbols false 0 (profByte y.profile 10) else y.gateSyms }
  | 3 =>
    let x := s.stream st
    let s := if pos < x.fragStart + 256 ∨ 3 ≤ x.fragEnds then s.frameFault q st
      else (if x.writeGate then s.writeFragment st (pos - x.fragStart) else s).modStream st fun y =>
        { y with inFragment := false, fragEnds := y.fragEnds + 1,
                 wrote := if y.writeGate then y.wrote.modify (y.wrote.length - 1) fun e => { e with endAt := s.now } else y.wrote }
    if mwWg w = 2 then s.writerIdle st else s
  | _ => s

/-! ## Ports (Table 5.5, R178) -/

/-- The bytes of a trap save record (Table 5.9) as 32-bit words. -/
def trapWords (t : TrapRec) : List Word :=
  let bytes := leBytes 2 t.pc ++
    leBytes 1 (b2n t.zero + 2 * b2n t.neg + 4 * b2n t.carry + 8 * b2n t.inWait + 16 * b2n t.timeout + 32 * b2n t.late) ++
    leBytes 1 t.depth ++ ((List.range 4).flatMap fun i => leBytes 2 (t.links.getD i 0)) ++ leBytes 4 t.cause ++
    pairBytes t.pair ++ leBytes 4 0 ++ (t.vars.flatMap fun v => leBytes 4 v.toNat) ++ leBytes 32 0
  (List.range 32).map fun i => BitVec.ofNat 32 (leAt bytes (4 * i) 4)

/-- The trap save record that 32 words hold: LINK0 to LINK3 whatever DEPTH says. -/
def trapOf (ws : List Word) : TrapRec :=
  let b := ws.flatMap fun v => leBytes 4 v.toNat
  let f := leAt b 2 1
  { pc := leAt b 0 2 % 2 ^ 14, zero := f.testBit 0, neg := f.testBit 1, carry := f.testBit 2, inWait := f.testBit 3,
    timeout := f.testBit 4, late := f.testBit 5, depth := leAt b 3 1,
    links := (List.range 4).map fun i => leAt b (4 + 2 * i) 2 % 2 ^ 14,
    cause := leAt b 12 4, pair := { time := leAt b 16 8, seq := BitVec.ofNat 32 (leAt b 24 4) },
    vars := (List.range 16).map fun i => BitVec.ofNat 32 (leAt b (32 + 4 * i) 4) }

/-- The save record of a sequencer's present state (Table 5.9). -/
def saveOf (x : Seq) (cause : Nat) (pair : Pair) : TrapRec :=
  { pc := x.pc, zero := x.zero, neg := x.neg, carry := x.carry, inWait := x.stage == .wait, timeout := x.timeout,
    late := x.late, depth := x.stack.length, links := (List.range 4).map fun i => x.stack.getD i 0, cause := cause, pair := pair,
    vars := x.vars }

/-- A sequencer goes on from a save record: at its PC, or in that word's wait with the full TMO (R194). -/
def restoreFrom (x : Seq) (t : TrapRec) (now : Nat) : Seq :=
  { x with pc := t.pc, zero := t.zero, neg := t.neg, carry := t.carry, timeout := t.timeout, late := t.late,
           stack := t.links.take (min 4 t.depth), vars := t.vars, stage := if t.inWait then .wait else .fetch,
           state := if t.inWait then .waiting else .running, waitSince := now }

/-- The ports of Table 5.5. -/
def listedPort (p : Nat) : Bool :=
  within p 0x00 0x03 || within p 0x08 0x10 || within p 0x18 0x1A || p == 0x1C || within p 0x80 0x83 || within p 0xC0 0xDF

/-- Whether a sequencer may access a port (R178): listed, privileged ones from SQP0 and SQP1 only, SAVE in a trap routine only. -/
def State.portOk (s : State) (q p : Nat) : Bool :=
  listedPort p && (decide (p < 0x80) || decide (16 ≤ q)) && (decide (p < 0xC0) || (s.seqr q).trap.isSome)

/-- The causes whose condition is still asserted (Table 5.5 CAUSE). -/
def State.assertedCauses (s : State) (q : Nat) : Nat :=
  match s.seqStream q with
  | none => 0
  | some st =>
    let x := s.stream st
    (if s.inhibits st ≠ 0 then 1 else 0) + (if 2 ≤ x.noMark then 4 else 0) +
      (if (s.lhead (headOf st x)).out then 8 else 0)

/-- The value of a port (Table 5.5); a write-only one reads 0 (R6). -/
def State.portValue (s : State) (q p : Nat) : Word :=
  let x := s.seqr q
  let y := s.stream ((s.seqStream q).getD 0)
  let item := match x.items with
    | w :: _ => workBytes w
    | [] => []
  match p with
  | 0x00 => word [(y.readers, 8), (y.head, 0)]
  | 0x01 => BitVec.ofNat 32 y.slotPort
  | 0x18 => BitVec.ofNat 32 x.pos
  | 0x19 => match y.record with | some r => BitVec.ofNat 32 r.wedge | none => 0
  | 0x1A => match y.record with | some r => BitVec.ofNat 32 r.track | none => 0
  | 0x1C => BitVec.ofNat 32 x.cause
  | 0x82 => BitVec.ofNat 32 x.refHead
  | 0x83 => word [(if s.pwr.umbra then 3 else s.pwr.stage, 0), (b2n s.pwr.umbra, 2)]
  | _ =>
    if within p 0x08 0x0F then BitVec.ofNat 32 (leAt item (4 * (p - 8)) 4)
    else if within p 0xC0 0xDF then
      match x.trap with
      | some t => (trapWords t).getD (p - 0xC0) 0
      | none => 0
    else 0

/-- Cause bits that a sequencer reports to the collector (Table 17.3): RESTART_LIMIT a NOTE, the others CORRECTED. -/
def State.reportCauses (s : State) (q mask : Nat) : State :=
  [6, 8, 9, 10, 11].foldl (fun s b =>
    if mask.testBit b then s.report q (b + 1) (s.seqr q).pc (if b = 6 then 0 else 1) else s) s

/-- A FORCE port write (R191); causes that wait are shown with it (R190). -/
def State.force (s : State) (q vec : Nat) : State :=
  if (s.seqr q).state = .failed then s
  else
    let s := s.reportCauses q (s.seqr q).pendingCause
    let s := s.closeGates (s.seqr q).stream true true
    let s := s.modStream (s.seqr q).stream fun y => { y with inSector := false, inFragment := false, cur := none }
    let s := s.retireAll q 2
    s.modSeq q fun x =>
      { x with state := .running, stage := .fetch, pc := vec % 2 ^ 14, vars := List.replicate 16 0, stack := [],
               cause := (x.cause ||| x.pendingCause) ||| 16, pendingCause := 0, snap := none, fromSnap := 0 }

/-- Selects a head for a stream (R80, R81): held for the next sector boundary, or refused as a set-up error.
(DEDUCED, unsafe: log entry 123.) -/
def State.selectHead (s : State) (ag : Agent) (st : Nat) (w : Word) : State :=
  if 18 ≤ fld w 4 0 ∨ (fld w 9 8 ≠ 0 ∧ s.surfaces ≤ fld w 4 0) then s.setupError ag 1 (regAddr (.chnStHead st))
  else if fld w 9 8 ≠ 0 ∧ s.headTaken st (fld w 4 0) then s.setupError ag 2 (regAddr (.chnStHead st))
  else s.modStream st fun x => { x with pendingHead := some (w &&& 0x31F) }

/-- A write to a port (Table 5.5); a read-only one takes none (R6). During a contact the heater stays at 0 (R152). -/
def State.portWrite (s : State) (q p : Nat) (v : Word) : State :=
  match p with
  | 0x00 =>
    match s.seqStream q with
    | none => s
    | some st =>
      if decide (s.surfaces ≤ fld v 4 0) && fld v 9 8 != 0 then s.setupError (.core 0) 1 (regAddr (.chnStHead st))
      else
        let bad := fld v 9 8 ≠ 0 ∧ s.headTaken st (fld v 4 0)
        let s := s.selectHead (.core 0) st v
        if bad then s else s.sendSelect st (fld v 4 0) (fld v 9 8)
  | 0x01 => match s.seqStream q with
    | none => s
    | some st => s.modStream st fun x => { x with slotPort := v.toNat % 256 }
  | 0x02 => match s.seqStream q with
    | none => s
    | some st => if (s.stream st).readers = 0 ∨ 2 < v.toNat ∨ (s.lhead (headOf st (s.stream st))).contact then s else s.sendHeater st v.toNat
  | 0x03 => match s.seqStream q with
    | none => s
    | some st => if (s.stream st).readers = 0 then s
      else if bit v 0 then (s.sendWriteCur st).sendArm st true else s.sendArm st false
  | 0x10 => s.retire q (fld v 31 16) (fld v 3 0)
  | 0x80 => if fld v 3 0 < 16 then s.force (fld v 3 0) (fld v 17 4) else s
  | 0x81 =>
    let at_ := 0x3000000 + 32 * fld v 23 0
    if (List.range 32).any fun i => s.sramOutcome (at_ + i) == 2 then
      { s with seq := { s.seq with done := s.seq.done ++
          [{ item := noItem, stream := (s.seqr (fld v 27 24)).stream, count := 0, result := 2, failed := [], wrote := [] }] } }
    else s.postItem (fld v 27 24) (workOf ((List.range 32).map fun i => s.sramByte (at_ + i)))
  | 0x82 => s.modSeq q fun x => { x with refHead := if v.toNat % 128 < 72 then v.toNat % 128 else x.refHead }
  | _ => if within p 0xC0 0xDF then
      s.modSeq q fun x => { x with trap := x.trap.map fun t => trapOf ((trapWords t).set (p - 0xC0) v) }
    else s

/-! ## The operation of a word (step 2, Table 5.4) -/

/-- The sign-extended immediate. -/
def immSext (w : BitVec 128) : Word := (BitVec.ofNat 16 (mwImm w)).signExtend 32

/-- Carry out of a 32-bit addition. -/
def addCarry (a b : Word) : Bool := decide (2 ^ 32 ≤ a.toNat + b.toNat)

/-- Performs a word's operation. A port access that R178 forbids is a fault and has no other effect.
(DESIGN CHOICE, safe: log entry 108.) -/
def State.operate (s : State) (q : Nat) (w : BitVec 128) : State :=
  let x := s.seqr q
  let a := seqVar x (mwSrc w)
  let d := seqVar x (mwDst w)
  let imm : Word := BitVec.ofNat 32 (mwImm w)
  match mwOpc w with
  | 1 => s.modSeq q fun x => seqSetVar x (mwDst w) imm
  | 2 => s.modSeq q fun x => seqSetVar x (mwDst w) (imm <<< 16 ||| (d &&& 0xFFFF#32))
  | 3 => s.modSeq q fun x => seqFlags (seqSetVar x (mwDst w) (a + immSext w)) (a + immSext w) (addCarry a (immSext w))
  | 4 => s.modSeq q fun x => seqFlags (seqSetVar x (mwDst w) (d + a)) (d + a) (addCarry d a)
  | 5 => s.modSeq q fun x => { seqFlags (seqSetVar x (mwDst w) (a &&& imm)) (a &&& imm) false with
      carry := (s.freeVal % 2 == 1) }
  | 6 => s.modSeq q fun x => seqFlags x (a - immSext w) (decide (a.toNat < (immSext w).toNat))
  | 7 => s.modSeq q fun x => seqFlags x (d - a) (decide (d.toNat < a.toNat))
  | 8 =>
    if s.portOk q (mwImm w) then
      let v := s.portValue q (mwImm w)
      let keep := s.assertedCauses q
      s.modSeq q fun x =>
        let x := seqSetVar x (mwDst w) v
        if mwImm w = 0x1C then { x with cause := x.cause &&& keep } else x
    else s.cause q 10
  | 9 => if s.portOk q (mwImm w) then s.portWrite q (mwImm w) a else s.cause q 10
  | _ => s

/-- Whether the operation of a word faults on its port. -/
def State.portFault (s : State) (q : Nat) (w : BitVec 128) : Bool :=
  (mwOpc w == 8 || mwOpc w == 9) && !s.portOk q (mwImm w)

/-! ## Steps of R171 -/

/-- Symbols of POS in a second (R170): write-clock periods while a write gate is open, else the zone's SYMBOL_RATE; 0 where nothing is
selected. -/
def State.posRate (s : State) (q : Nat) : Nat :=
  match s.seqStream q with
  | none => 0
  | some st =>
    let x := s.stream st
    if x.readers = 0 then 0 else if x.writeGate then x.writeClock else 1000000 * s.streamRate x

/-- POS now: what has been counted since it had its last value, saturated (R170). -/
def State.posNow (s : State) (q : Nat) : Nat :=
  min 0xFFFFF ((s.seqr q).pos + (s.now - (s.seqr q).posAt) * s.posRate q / 1000000000)

/-- POS comes to a value, where it does not stand beyond it already: the time that takes passes. -/
def State.posReach (s : State) (q pos : Nat) : State :=
  let p := max (min pos 0xFFFFF) (s.posNow q)
  let rate := s.posRate q
  let s := if rate = 0 then s
    else s.advanceTo ((s.seqr q).posAt + ((p - (s.seqr q).pos) * 1000000000 + rate - 1) / rate)
  s.modSeq q fun x => { x with pos := p, posAt := s.now }

/-- Steps 2 to 5 of R171 at a position, and the start of the wait of step 6. -/
def State.actWord (s : State) (q pos : Nat) (late : Bool) : State :=
  let w := s.mword q
  let force := mwOpc w = 9 ∧ mwImm w = 0x80
  let s := s.modSeq q fun x => { x with late := x.late || late, timeout := false, state := .running }
  if s.portFault q w then s.cause q 10
  else
    let sig := (8 * q + mw w 51 49)
    let open_ (s : State) := match s.seqStream q with
      | some st => (s.stream st).readGate || (s.stream st).writeGate
      | none => false
    let s := s.operate q w
    let s := if mwOpc w = 5 then s.freeUsed else s
    let s := match s.seqStream q with
      | some st =>
        if q < 16 then
          let before := open_ s
          let s := s.applyGates q st w
          if mwSect w = 0 then s else s.applySect q st pos w (open_ s || (mwSect w = 3 && before))
        else s
      | none => s
    let s := if w.getLsbD 52 then
        { (s.emit (.seqSignal sig)) with dma := { s.dma with events := s.dma.events ++ [512 + sig] } }
      else s
    if force ∧ q < 16 then s
    else if mwWait w = 0 ∧ !mwWneg w then s.modSeq q fun x => { x with stage := .flow }
    else s.modSeq q fun x => { x with
      stage := .wait, waitSince := s.now,
      state := if s.seq.stopReq && mwWait w == 23 && x.items.isEmpty && decide (q < 16) then .stopped else .waiting }

/-- Whether a sequencer is about to execute its word: it runs, no cause is pending, its word's parity is right. -/
def State.seqReady (s : State) (q : Nat) : Bool :=
  let x := s.seqr q
  decide (q < 18) && x.stage == .fetch && (x.state == .running || x.state == .waiting) &&
    (x.pendingCause == 0 || (decide (16 ≤ q) && x.trap.isSome)) && !s.badWord q

/-- A word without a position performs its operation (R171): the sequencer must be at a word of that operation. -/
def State.runOp (s : State) (q pos opc : Nat) : State :=
  if s.seqReady q && mwAtm (s.mword q) == 0 && mwOpc (s.mword q) == opc then
    let s := s.posReach q pos
    s.actWord q (s.seqr q).pos false
  else s

/-- The position a word waits for (step 1). -/
def State.wordPos (s : State) (q : Nat) : Nat :=
  let w := s.mword q
  if mwAtm w = 1 then mwAt w else (seqVar (s.seqr q) (mwSrc w)).toNat % 2 ^ 20

/-- A word that waits for its position acts when POS reaches it, or at once with LATE where POS stands beyond it already (R172). -/
def State.actAtPosition (s : State) (q pos : Nat) : State :=
  let w := s.mword q
  if s.seqReady q && mwAtm w != 0 then
    let at_ := s.wordPos q
    let s := s.posReach q (if s.posRate q = 0 then pos else min pos at_)
    let p := (s.seqr q).pos
    if at_ < p then s.actWord q p true
    else if at_ = p then s.actWord q p false
    else s.modSeq q fun x => { x with state := .waiting }
  else s

/-- The neighbour record of a track's side that a stream holds for a sector (R98): of the track on the side of NAC_CFG bit 1, in the same
band and zone, read by the same head, with the sector in it. -/
def State.nbrValues (s : State) (st : Nat) (r : Reading) : Option (List Int) :=
  let x := s.stream st
  let track : Option Nat := if (profByte x.profile 16).testBit 1 then some (r.track + 1) else if r.track = 0 then none else some (r.track - 1)
  match track with
  | none => none
  | some t =>
    if s.bandAt r.surface t = s.bandAt r.surface r.track ∧ (s.bandAt r.surface t).isSome ∧ s.zoneIx r.surface t = s.zoneIx r.surface r.track then
      (x.nbrs.find? fun n => n.surface == r.surface && n.track == t && n.head == headOf st x).bind fun n => aget n.sectors r.sector
    else none

/-- The offset at which the canceller runs on a sector, if it does (R98). -/
def State.nacOffset (s : State) (st : Nat) (r : Reading) (found : Option Int) : Option Int :=
  match found with
  | none => none
  | some ofs => if (profByte (s.stream st).profile 16).testBit 0 ∧ ofs.natAbs ≤ 64 ∧ (s.nbrValues st r).isSome then some ofs else none

/-- Symbols pass a stream while its read gate is open: its loops and taps move (R93-R100). -/
def State.symbolsPass (s : State) (st : Nat) (l : List SymObs) : State :=
  let x := s.stream st
  match x.decoding.getLast? with
  | none => s
  | some r => s.modStream st fun x => { x with
      adapt := onSymbols x.profile x.readers (codeBits (s.codeOf r.surface r.track)) ((s.nbrValues st r).getD []) x.adapt l }

/-- The sector being read ends: its last codeword symbol has entered the detector, and its SNR estimate stands. -/
def endReading (x : Stream) (now : Nat) : List Reading :=
  x.decoding.zipIdx.map fun e =>
    if e.2 + 1 = x.decoding.length then
      { e.1 with endAt := some now, snr := snrCode x.adapt.ideal x.adapt.error, nac := x.adapt.nbr.isSome,
                 one := decide ((readersInUse x.readers).length = 1) }
    else e.1

/-- What the media shows reaches a stream that is in a sector (Table 5.3 codes 17-21, R91, R92, R94). A written sector ends with the rest of its
codeword and its postamble. -/
def State.observe (s : State) (st : Nat) (o : MediaObs) : State :=
  let reading := (s.stream st).inSector && (s.stream st).readGate
  match o with
  | .nothing => s
  | .syncMark at_ nb syms =>
    if !reading ∨ (s.stream st).sync ≠ .none then s
    else
      let s := s.symbolsPass st syms
      s.modStream st fun x =>
        if syncFound x.profile x.adapt at_ then
          { x with sync := .found, adapt := { afterSync x.adapt with nbr := (x.decoding.getLast?).bind fun r => s.nacOffset st r nb } }
        else { x with sync := .missed, decoding := markMissed x 3 }
  | .resyncMark at_ syms =>
    if !reading ∨ (s.stream st).resync ≠ .none then s
    else
      let s := s.modStream st fun x =>
        if resyncFound x.profile at_ then
          { x with resync := .found, adapt := afterResync (match at_ with | some e => e.1 | none => 0) x.adapt }
        else { x with resync := .missed, decoding := markMissed x 4 }
      s.symbolsPass st syms
  | .sectorDone syms =>
    if !(s.stream st).inSector then s
    else if reading then
      let s := s.symbolsPass st syms
      s.modStream st fun x => { x with sectorDone := true, inFragment := false, inSector := false, decoding := endReading x s.now }
    else
      let x := s.stream st
      let code := match x.cur with | some c => s.codeOf x.head c.1 | none => 0
      (s.writeFragment st (codeBits code - x.sent)).modStream st fun x => { x with
        sectorDone := true, inFragment := false, inSector := false, cur := none, gateSyms := x.gateSyms ++ preamble 16 }

/-- Whether a saved role could go on now: it is not in a wait, or its wait's condition holds. -/
def State.roleReady (s : State) (q : Nat) (t : TrapRec) : Bool :=
  let w := agetD s.seq.words t.pc 0
  !t.inWait || (s.seqCond q (mwWait w) != mwWneg w)

/-- A privileged sequencer goes over to its other role (R164). -/
def State.roleSwap (s : State) (q : Nat) : State :=
  match (s.seqr q).other with
  | none => s
  | some (t, e) => s.modSeq q fun x => { restoreFrom x t s.now with other := some (saveOf x x.cause s.pair, !e) }

/-- Between words, the role that can go on is taken: the eclipse save's first at umbra, else the two in turn; in a wait, the other role once it
can go on (R164). (DESIGN CHOICE, safe: log entry 138.) -/
def State.roleTurn (s : State) (q : Nat) : State :=
  let x := s.seqr q
  match x.other with
  | none => s
  | some (t, e) =>
    let mine := s.roleReady q (saveOf x x.cause s.pair)
    if x.trap.isNone && s.roleReady q t && (!mine || (if s.pwr.umbra then e else true)) then s.roleSwap q else s

/-- A wait ends when its condition reaches the awaited value (R173). -/
def State.waitEnd (s : State) (q : Nat) (o : MediaObs) : State :=
  let s := match s.seqStream q with | some st => s.observe st o | none => s
  let s := if (s.seqr q).stage = .wait ∧ s.seqCond q (mwWait (s.mword q)) = mwWneg (s.mword q) then s.roleTurn q else s
  let w := s.mword q
  if (s.seqr q).stage = .wait ∧ s.seqCond q (mwWait w) ≠ mwWneg w ∧ (s.seqr q).state ≠ .failed ∧ (s.seqr q).state ≠ .stopped then
    s.modSeq q fun x => { sampleConds x [mwWait w] with stage := .flow, state := .running, timeout := false }
  else s

/-- A wait ends by its timeout (R173). -/
def State.waitTimeout (s : State) (q : Nat) : State :=
  let w := s.mword q
  if (s.seqr q).stage = .wait ∧ mwTmo w ≠ 0 ∧ (s.seqr q).state ≠ .failed ∧ (s.seqr q).state ≠ .stopped then
    let s := s.advanceTo ((s.seqr q).waitSince + 4000 * mwTmo w)
    s.modSeq q fun x => { sampleConds x [mwWait w] with stage := .flow, state := .running, timeout := true }
  else s

/-- The next address under BRANCH (R175). -/
def State.branchTo (s : State) (q : Nat) : Nat :=
  let w := s.mword q
  mwNext w ||| (2 * b2n (s.seqCond q (mwCondB w))) ||| b2n (s.seqCond q (mwCondA w))

/-- The snapshot that a committing word takes (R186). -/
def snapOf (x : Seq) (pc : Nat) : Snapshot :=
  { pc := pc, vars := x.vars, zero := x.zero, neg := x.neg, carry := x.carry, stack := x.stack, item := x.itemNo,
    framed := x.framed }

/-- A sequencer continues from a snapshot. -/
def fromSnapshot (x : Seq) (n : Snapshot) : Seq :=
  { x with pc := n.pc, vars := n.vars, zero := n.zero, neg := n.neg, carry := n.carry, stack := n.stack, framed := n.framed,
           stage := .fetch }

/-- The work of a failed sequencer is taken at a commit (R163). -/
def takeWork (x : Seq) : Seq :=
  match x.inherit_ with
  | [] => x
  | (n, items) :: rest =>
    { fromSnapshot x n with items := items ++ x.items, inherit_ := rest, snap := some n, fromSnap := 0, cause := x.cause ||| 32 }

/-- Steps 7 and 8 of R171: the commit snapshot, then the next address with its link stack; `cs` are the conditions sampled. A stop request
takes effect at the commit (R196), for a privileged sequencer within its trap routine (R197), and so does the work of a failed sequencer
(R163) or the other role (R164). -/
def State.finishWord (s : State) (q next : Nat) (stack : List Nat) (cs : List Nat) : State :=
  let w := s.mword q
  let s := s.modSeq q fun x => { sampleConds x cs with pc := next, stack := stack, stage := .fetch }
  if !mwCommit w then s
  else
    let x := s.seqr q
    let stop := s.seq.stopReq && (decide (q < 16) || x.trap.isSome)
    let s := s.modSeq q fun x =>
      takeWork { x with snap := some (snapOf x x.pc), fromSnap := 0, state := if stop then .stopped else x.state }
    if stop then s else s.roleTurn q

/-- Whether a sequencer's word is about to form its next address with a FLOW: a privileged one ends its word before it traps (R193). -/
def State.flowReady (s : State) (q flow : Nat) : Bool :=
  let x := s.seqr q
  decide (q < 18) && x.stage == .flow && x.state == .running && mwFlow (s.mword q) == flow &&
    (x.pendingCause == 0 || (decide (16 ≤ q) && (x.trap.isSome || x.pendingCause &&& 0x0F00 == 0)))

/-- The conditions that a word names for its next address. -/
def flowConds (w : BitVec 128) : List Nat := [mwCondA w, mwCondB w]

/-- BRANCH (R175). -/
def State.seqBranch (s : State) (q : Nat) : State :=
  if s.flowReady q 0 then s.finishWord q (s.branchTo q) (s.seqr q).stack (flowConds (s.mword q)) else s

/-- CALL (R176, R177). -/
def State.seqCall (s : State) (q : Nat) : State :=
  if s.flowReady q 1 then
    if 4 ≤ (s.seqr q).stack.length then s.cause q 9
    else s.finishWord q (s.branchTo q) ((s.seqr q).stack ++ [((s.seqr q).pc + 1) % 2 ^ 14]) (flowConds (s.mword q))
  else s

/-- RET (R176, R177): it samples no condition. -/
def State.seqRet (s : State) (q : Nat) : State :=
  if s.flowReady q 2 then
    match (s.seqr q).stack.reverse with
    | [] => s.cause q 9
    | a :: rest => s.finishWord q a rest.reverse []
  else s

/-- RETT (R177, R194); with COMMIT = 1 the snapshot holds what is restored (R171, R186). Under a stop request the sequencer stays in its trap
(R197). (DEDUCED, safe: log entry 139.) -/
def State.seqRett (s : State) (q : Nat) : State :=
  if s.flowReady q 3 then
    match (s.seqr q).trap with
    | none => s.cause q 9
    | some t =>
      if q < 16 then s.cause q 9
      else if s.seq.stopReq then s
      else
        let commit := mwCommit (s.mword q)
        s.modSeq q fun x =>
          let y := { restoreFrom x t s.now with trap := none }
          if commit then { y with snap := some (snapOf y y.pc), fromSnap := 0 } else y
  else s

/-! ## Restart, trap, control store -/

/-- A vector of the personality (Table 5.10): 0 STREAM_ENTRY, 1 SQP0 entry, 2 SQP1 entry, 3 ECLIPSE, 4 and 5 the trap vectors
of SQP0 and SQP1. (DESIGN CHOICE, unsafe: log entry 122.) -/
def State.vector (s : State) (i : Nat) : Nat := s.sec.pers.vectors.getD i 0

/-- The entry vector of a sequencer (R198). -/
def State.entryVector (s : State) (q : Nat) : Nat := s.vector (if q = 16 then 1 else if q = 17 then 2 else 0)

/-- A stream sequencer restarts on its pending causes (R187, R189, R190). -/
def State.seqInterrupt (s : State) (q : Nat) : State :=
  let x := s.seqr q
  if q < 16 ∧ x.pendingCause ≠ 0 ∧ x.state ≠ .failed ∧ x.state ≠ .stopped then
    let s := s.reportCauses q x.pendingCause
    let s := s.closeGates x.stream true true
    let s := s.modStream x.stream fun y => { y with inSector := false, inFragment := false, cur := none }
    if 8 ≤ x.fromSnap + 1 then
      let s := s.report q 7 x.pc 0
      let s := s.retire q 0 2
      s.modSeq q fun x =>
        { x with pc := s.vector 0, vars := List.replicate 16 0, stack := [], stage := .fetch, state := .running,
                 cause := (x.cause ||| x.pendingCause) ||| 64, pendingCause := 0, snap := none, fromSnap := 0,
                 restarts := satInc x.restarts 255 }
    else
      s.modSeq q fun x =>
        let y := { x with cause := x.cause ||| x.pendingCause, pendingCause := 0, fromSnap := x.fromSnap + 1,
                          restarts := satInc x.restarts 255, state := .running, stage := .fetch }
        match x.snap with
        | some n => fromSnapshot y n
        | none => { y with pc := s.vector 0, vars := List.replicate 16 0, stack := [] }
  else s

/-- The fault causes of Table 5.8. -/
def faultCauses : Nat := 0x0F00

/-- A privileged sequencer traps on its pending causes, at a word boundary, in its word's wait, or at a word that a fault keeps from its next
address (R193); a fault within a trap routine restarts the routine (R195). -/
def State.privTrap (s : State) (q : Nat) : State :=
  let x := s.seqr q
  if (q = 16 ∨ q = 17) ∧ x.pendingCause ≠ 0 ∧ x.state ≠ .failed then
    match x.trap with
    | none =>
      if x.stage = .flow ∧ x.pendingCause &&& faultCauses = 0 then s
      else
      let s := s.reportCauses q x.pendingCause
      let t := saveOf x (x.cause ||| x.pendingCause) s.pair
      (s.stamped).modSeq q fun x =>
        { x with trap := some t, pc := s.vector (q - 12), stage := .fetch, state := .running,
                 cause := x.cause ||| x.pendingCause, pendingCause := 0, restarts := satInc x.restarts 255 }
    | some _ =>
      if x.pendingCause &&& faultCauses ≠ 0 then
        let s := s.reportCauses q (x.pendingCause &&& faultCauses)
        s.modSeq q fun x =>
          { x with pc := s.vector (q - 12), stage := .fetch, state := .running,
                   pendingCause := x.pendingCause - (x.pendingCause &&& faultCauses) }
      else s
  else s

/-- A fetched word fails parity (R167, R168): machine check, reload from the golden copy or from a spare on a repeat within 1 ms, then a
restart with PARITY, or a second fetch by a privileged sequencer. A word for which no spare is left stays bad. -/
def State.storeReload (s : State) (q : Nat) (flip : Bool) : State :=
  let pc := (s.seqr q).pc
  let s := if flip && (s.seqr q).stage == .fetch && (s.seqr q).state != .failed then
      { s with seq := { s.seq with bad := if s.seq.bad.contains (pc, 0) then s.seq.bad else (pc, 0) :: s.seq.bad } }
    else s
  if s.badWord q ∧ (s.seqr q).stage = .fetch ∧ (s.seqr q).state ≠ .failed ∧ q < 18 then
    let again := match aget s.seq.reloads pc with | some t => decide (s.now < t + 1000000) | none => false
    let was := s.seq.dead.contains pc
    let none_ := was || (again && decide (64 ≤ s.seq.spares.length))
    let s := if was then s else s.report 18 (if none_ then 3 else if again then 2 else 1) pc (if none_ then 3 else 1)
    let s := { s with seq := { s.seq with
      mchkValid := true, mchkSeq := q, mchkAddr := pc, reloads := aput s.seq.reloads pc s.now,
      words := match aget s.sec.pers.words pc with | some w => if none_ then s.seq.words else aput s.seq.words pc w | none => s.seq.words,
      bad := if none_ then s.seq.bad else s.seq.bad.filter fun e => e.1 != pc,
      dead := if none_ && !was then pc :: s.seq.dead else s.seq.dead,
      spares := if again && !none_ then pc :: s.seq.spares else s.seq.spares } }
    if q < 16 then s.cause q 8 else if none_ then s.cause q 8 else s
  else s

/-- The surviving sequencer that takes the work of a failed one (R163, R164). -/
def State.heirOf (s : State) (q : Nat) : Option Nat :=
  if q < 16 then (streamsOf (q / 4)).find? fun k => k != q && (s.seqr k).state != .failed
  else (if q = 16 then [17] else [16]).find? fun k => (s.seqr k).state != .failed

/-- Two copies of a sequencer disagree (R162-R164): it is FAILED; the work it holds and the work it had still to take pass to another sequencer
of the actuator with the snapshots, and the role of a privileged one to the other. -/
def State.lockstepFail (s : State) (q : Nat) : State :=
  let x := s.seqr q
  if x.state = .failed ∨ 18 ≤ q then s
  else
    let s := (s.report q 32 x.pc 2).wakeEvent 7
    let s := if q < 16 then ((s.closeGates x.stream true true).setOnTrack x.stream false).setReaders x.stream 0 else s
    let n := x.snap.getD (snapOf { x with vars := List.replicate 16 0, stack := [] } (s.entryVector q))
    let out (s : State) : State :=
      s.modSeq q fun x => { x with state := .failed, items := [], pendingCause := 0, inherit_ := [], other := none }
    match s.heirOf q with
    | none => out (s.retireAll q 2)
    | some k =>
      let s := out s
      if q < 16 then s.modSeq k fun y => { y with inherit_ := y.inherit_ ++ (n, x.items) :: x.inherit_ }
      else
        let s := s.modSeq k fun y => { y with other := some (saveOf { fromSnapshot x n with stage := .fetch } x.cause s.pair, q == 16) }
        if (s.seqr k).state = .idle then s.roleSwap k else s

/-- A head is taken out of use (R28, R75, R150): reported, its streams idle with cause HEAD_LOST, the queued work items that name it withdrawn;
the work that waits for it goes to other heads (R75, R122). -/
def State.headOut (s : State) (h : Nat) : State :=
  if (s.lhead h).out then s
  else
  let s := s.modHead h fun x => { x with out := true }
  let s := ((s.report (80 + h) 1 0 2).evcEdge 7 (BitVec.ofNat 32 h)).wakeEvent 7
  let on := (streamsOf (h / 18)).filter fun st => (s.stream st).readers != 0 && headOf st (s.stream st) == h
  let s := on.foldl (fun s st => ((s.causeStream st 3).setOnTrack st false).setReaders st 0) s
  let s := (below 16 fun q => (s.seqr q).stream / 4 == h / 18).foldl (fun s q => s.withdrawHead q (h % 18)) s
  s.rehomeAll.laddersLost (h % 18)

end Sys2Proof.Machine
end

