-- ==== Sys2Proof/Machine/ServoLoop.lean ====
section
/-! DEFINITION. The servo engine's arithmetic (chapter 6): the section cascade, banks and tables, trajectories, and the
conversion of positions. Positions of an actuator are in units of 2^-42 reference track, positions of a head in 1/4,096
track. -/

namespace Sys2Proof.Machine

/-! ## The cascade (R206-R208) -/

/-- Saturation to 48 bits (Q17.30, R207). -/
def sat48 (v : Int) : Int := max (-(2 ^ 47)) (min (2 ^ 47 - 1) v)

/-- A product of Q2.30 and Q17.30 rounded to Q17.30, to nearest with ties away from zero (R207). (DEDUCED, unsafe: log entry 104.) -/
def qmul (a b : Int) : Int := roundAway (a * b) (2 ^ 30)

/-- A word of a coefficient bank. -/
def State.bankWord (s : State) (phys : Nat) (bank : Bool) (k : Nat) : Word :=
  s.rv (.sceWindow (0x10000 + 0x200 * phys + 0x100 * b2n bank + 4 * k))

/-- NSEC, SHIFT_IN, SHIFT_OUT and CLAMP of a bank (Table 6.6). -/
def State.bankHeader (s : State) (phys : Nat) (bank : Bool) : Nat × Int × Int × Nat :=
  let w := s.bankWord phys bank 0
  (fld w 3 0, signed 5 (fld w 12 8), signed 5 (fld w 20 16), fld (s.bankWord phys bank 1) 15 0)

/-- Whether a bank's header holds a reserved value (R211, Table 6.6). -/
def State.bankBad (s : State) (phys : Nat) (bank : Bool) : Bool :=
  let w := s.bankWord phys bank 0
  let c := s.bankWord phys bank 1
  !within (fld w 3 0) 1 12 || w &&& 0xFFE0E0F0#32 != 0 || !within (fld c 15 0) 1 32767 || fld c 31 16 != 0 ||
    s.bankWord phys bank 2 != 0 || s.bankWord phys bank 3 != 0

/-- One section: output, new states, whether a state saturated. -/
def section_ (b0 b1 b2 a1 a2 x s1 s2 : Int) : Int × Int × Int × Bool :=
  let y := sat48 (qmul b0 x + s1)
  let t1 := sat48 (qmul b1 x - qmul a1 y) + s2
  let t2 := qmul b2 x - qmul a2 y
  (y, sat48 t1, sat48 t2, sat48 t1 != t1 || sat48 t2 != t2)

/-- The sections k to NSEC - 1 over the states that remain: output, new states, saturation. -/
def State.cascade (s : State) (phys : Nat) (bank : Bool) (nsec k : Nat) (x : Int) :
    List (Int × Int) → Int × List (Int × Int) × Bool
  | [] => (x, [], false)
  | (s1, s2) :: rest =>
    if nsec ≤ k then (x, (s1, s2) :: rest, false)
    else
      let c (i : Nat) : Int := (s.bankWord phys bank (4 + 5 * k + i)).toInt
      let (y, t1, t2, sat) := section_ (c 0) (c 1) (c 2) (c 3) (c 4) x s1 s2
      let (out, sts, sat') := s.cascade phys bank nsec (k + 1) y rest
      (out, (t1, t2) :: sts, sat || sat')

/-- A value times a power of two, rounded to nearest with ties away from zero. -/
def shiftRound (v : Int) (sh : Int) : Int :=
  if 0 ≤ sh then v * 2 ^ sh.toNat else roundAway v (2 ^ (-sh).toNat)

/-- Computes a slot: `err` is the error in units of 2^-30 of 1/4,096 track. Answers the state and the output (R208). -/
def State.runSlot (s : State) (n : Nat) (err : Int) : State × Int :=
  let x := s.slot n
  let (nsec, shIn, shOut, clamp) := s.bankHeader x.phys x.bank
  let (y, sts, sat) := s.cascade x.phys x.bank nsec 0 (sat48 (shiftRound err shIn)) x.states
  let raw := shiftRound y (shOut - 30)
  let out := max (-(clamp : Int)) (min clamp raw)
  (s.modSlot n fun z => { z with
    states := sts, stateSat := z.stateSat || sat, outSat := z.outSat || out != raw, run := true, out := out,
    satRun := if out != raw then z.satRun + 1 else 0 }, out)

/-- A slot whose output a limit beyond CLAMP holds as well: OUT_SAT, and one more sample in a row (R217, R221); `run_` is the count
before the sample. -/
def State.limitSlot (s : State) (n : Nat) (limited : Bool) (run_ : Nat) : State :=
  if limited then s.modSlot n fun x => { x with outSat := true, satRun := run_ + 1 } else s

/-- Whether the last computation of a slot saturated a state. -/
def State.slotSaturates (s : State) (n : Nat) (err : Int) : Bool :=
  let x := s.slot n
  let (nsec, shIn, _, _) := s.bankHeader x.phys x.bank
  (s.cascade x.phys x.bank nsec 0 (sat48 (shiftRound err shIn)) x.states).2.2

/-- A pending bank switch takes effect at the first sample of the slot (R210, R211). -/
def State.swapBank (s : State) (n : Nat) : State :=
  let x := s.slot n
  if !x.swap then s
  else if s.bankBad x.phys (!x.bank) then
    (s.modSlot n fun z => { z with swap := false }).setupError x.swapBy 2 (regAddr (.sceSlot n))
  else s.modSlot n fun z => { z with
    swap := false, bank := !z.bank,
    states := if bit (s.rv (.sceSlot n)) 30 then List.replicate 12 (0, 0) else z.states }

/-- Both banks of a slot take their golden copy, the bank that the personality gives, in the slot that serves the loop, and its states are zeroed (R212, R243,
R245, R246). -/
def State.reloadSlot (s : State) (n : Nat) : State :=
  let p := (s.slot n).phys
  let s := (List.range 128).foldl (fun s k =>
    s.setRv (.sceWindow (0x10000 + 0x200 * p + 4 * k)) (agetD s.sec.pers.windows (0x10000 + 0x200 * n + 4 * (k % 64)) 0)) s
  s.modSlot n fun z => { z with states := List.replicate 12 (0, 0), swap := false, satRun := 0, inputs := [] }

/-! ## Tables (Table 6.7) -/

/-- A signed 16-bit entry of a table at an offset of the SCE block. -/
def State.tableEntry (s : State) (ofs : Nat) : Int :=
  let w := s.rv (.sceWindow (ofs / 4 * 4))
  signed 16 (if ofs % 4 = 0 then fld w 15 0 else fld w 31 16)

/-- RRO of a head at a wedge, in 1/4,096 track (R223). -/
def State.rro (s : State) (h w : Nat) : Int := s.tableEntry (0x40000 + 0x800 * h + 2 * (w % 1024))

/-- The actuator entry of the personality. -/
def State.actPers (s : State) (a : Nat) : ActPers :=
  s.sec.pers.acts.getD a {
    vMax := 1, aMax := 1, jMax := 1, vqMax := 1, aqMax := 1, jqMax := 1, kAcc := 0, iFs := 100,
    tSeekMax := 1000, stroke := 1000, hmaSpan := 16, vDead := 1, rCoil := 500, kBemf := 1, loadV := 1, unloadV := 1,
    curKp := 0, curKi := 0 }

/-- The head entry of the personality. -/
def State.headPers (s : State) (h : Nat) : HeadPers :=
  s.sec.pers.heads.getD h { pitch := 16384, weight := 0, hmaGain := 1, hmaLimit := 1 }

/-- The friction term (R222) in LSB: interpolated between bin centres, the edge entries beyond them. -/
def State.friction (s : State) (a dir : Nat) (xRef : Int) : Rat :=
  let e (b : Nat) : Rat := (s.tableEntry (0x20000 + 0x800 * a + 0x400 * dir + 2 * b) : Rat)
  let b : Rat := (xRef : Rat) / 2 ^ 42 * 512 / (s.actPers a).stroke - 1 / 2
  if b ≤ 0 then e 0
  else if 511 ≤ b then e 511
  else
    let k := b.floor.toNat
    let f := b - k
    e k * (1 - f) + e (k + 1) * f

/-- The coupling term (R224) in LSB. -/
def State.coupling (s : State) (i : Nat) : Rat :=
  (((List.range 4).filter (· != i)).map fun j =>
    let x := s.act j
    if x.state = .unloaded ∨ x.state = .outOfUse then (0 : Rat)
    else ((List.range 16).map fun m =>
      (s.tableEntry (0x22000 + 0x80 * i + 0x20 * j + 2 * m) : Rat) / 8192 * (x.commands.getD m 0 : Rat)).sum).sum

/-! ## Trajectories (R227, R228) -/

/-- Integer square root by bits. -/
def sqrtBits (n : Nat) : Nat → Nat → Nat
  | 0, r => r
  | k + 1, r => let t := r + 2 ^ k; sqrtBits n k (if t * t ≤ n then t else r)

/-- The greatest number whose square is at most n. -/
def isqrt (n : Nat) : Nat := sqrtBits n (n.log2 / 2 + 1) 0

/-- Integer cube root by bits. -/
def cbrtBits (n : Nat) : Nat → Nat → Nat
  | 0, r => r
  | k + 1, r => let t := r + 2 ^ k; cbrtBits n k (if t * t * t ≤ n then t else r)

/-- The greatest number whose cube is at most n. -/
def icbrt (n : Nat) : Nat := cbrtBits n (n.log2 / 3 + 1) 0

/-- The phases of a seek over `dist` (2^-42 track), with limits in tracks and seconds: signed jerk and duration in ps. Each
time is rounded down to a whole ps. Answers the phases and the peak acceleration in tracks/s². -/
def planPhases (dist v a0 j : Nat) : List (Int × Nat) × Nat :=
  let a := if v * j < a0 * a0 then isqrt (v * j) else a0
  let ps := 1000000000000
  let tj := a * ps / j
  let tv := v * ps / a + tj
  let ji : Int := j
  if v * tv * 2 ^ 42 ≤ dist * ps then
    let cruise := (dist * ps - v * tv * 2 ^ 42) / (v * 2 ^ 42)
    let tc := tv - 2 * tj
    ([(ji, tj), (0, tc), (-ji, tj), (0, cruise), (-ji, tj), (0, tc), (ji, tj)], a)
  else
    let half := (isqrt (tj * tj + 4 * dist * ps * ps / (a * 2 ^ 42)) - tj) / 2
    if tj ≤ half then
      let tc := half - tj
      ([(ji, tj), (0, tc), (-ji, tj), (-ji, tj), (0, tc), (ji, tj)], a)
    else
      let t := icbrt (dist * ps * ps * ps / (2 * j * 2 ^ 42))
      ([(ji, t), (-ji, 2 * t), (ji, t)], j * t / ps)

/-- Duration of phases in ps. -/
def phasesTime (l : List (Int × Nat)) : Nat := (l.map Prod.snd).sum

/-- Motion after `t` ps along phases from rest: position in units of 1/(6·10^36) track, velocity in 1/(2·10^24) track/s,
acceleration in 1/10^12 track/s². -/
def motion (t : Nat) (x v a : Int) : List (Int × Nat) → Int × Int × Int
  | [] => (x, v, a)
  | (j, d) :: rest =>
    let dt : Int := (min t d : Nat)
    let x' := x + 3 * v * dt + 3 * a * dt * dt + j * dt * dt * dt
    let v' := v + 2 * a * dt + j * dt * dt
    let a' := a + j * dt
    if t ≤ d then (x', v', a') else motion (t - d) x' v' a' rest

/-- r and a_ref of a trajectory at a moment: position in 2^-42 track, acceleration in tracks/s². -/
def trajAt (r : Trajectory) (now : Nat) : Rat × Rat :=
  let t := 1000 * (now - r.begun)
  if r.tPlan ≤ t then ((r.target : Rat), 0)
  else
    let (x, _, a) := motion t 0 0 0 r.phases
    let sgn : Rat := if r.start ≤ r.target then 1 else -1
    ((r.start : Rat) + sgn * (x : Rat) / (6 * 10 ^ 36) * 2 ^ 42, sgn * (a : Rat) / 10 ^ 12)

/-- The planned seek of an actuator between two positions, quiet or not (R227). -/
def State.planSeek (s : State) (a : Nat) (from_ to_ : Int) (quiet : Bool) : Trajectory × Nat :=
  let p := s.actPers a
  let (ph, peak) := planPhases (to_ - from_).natAbs ((if quiet then p.vqMax else p.vMax) * 1000)
    ((if quiet then p.aqMax else p.aMax) * 1000000) ((if quiet then p.jqMax else p.jMax) * 10000000000)
  ({ start := from_, target := to_, begun := s.now, phases := ph, tPlan := phasesTime ph }, peak / 1000000)

/-! ## Positions (R213-R215, R218) -/

/-- x_i in 1/4,096 track (R213). -/
def State.headPos (s : State) (r : ServoRec) : Int := (r.track : Int) * 4096 + r.pes - s.rro r.head r.wedge

/-- d_i in 1/4,096 track (R214). -/
def State.displacement (s : State) (st : Nat) : Rat :=
  ((s.loop st).command : Rat) * (s.headPers (headOf st (s.stream st))).hmaGain / 2 ^ 20

/-- t_i in 1/4,096 track. -/
def State.target (s : State) (st : Nat) : Int := (fld (s.rv (.sceTgt st)) 23 0 : Int) * 4096

/-- p_i as a fraction. -/
def State.pitch (s : State) (st : Nat) : Rat := (s.headPers (headOf st (s.stream st))).pitch / 16384

/-- w_i. -/
def State.weight (s : State) (st : Nat) : Nat := (s.headPers (headOf st (s.stream st))).weight

/-- A weighted mean over streams, in 2^-42 reference track; none where no stream has a weight above 0. -/
def State.fused (s : State) (sts : List Nat) (f : Nat → Rat) : Option Int :=
  let w := (sts.map s.weight).sum
  if w = 0 then none
  else some (roundRat ((sts.map fun st => (s.weight st : Rat) * s.pitch st * f st).sum / w * 2 ^ 30))

/-- The active streams of an actuator (R201). -/
def State.activeStreams (s : State) (a : Nat) : List Nat := (streamsOf a).filter s.activeHead

/-- T_ref of a GO (R227). -/
def State.targetRef (s : State) (a : Nat) : Option Int := s.fused (s.activeStreams a) fun st => (s.target st : Rat)

/-- Whether the targets of one actuator's streams would spread by more than HMA_SPAN/16, or a TRACK exceeds STROKE/p (R218). -/
def State.targetRefused (s : State) (st : Nat) (v : Word) : Bool :=
  let a := actOf st
  let p := s.actPers a
  let refs := ((streamsOf a).filter fun t => if t = st then bit v 31 else bit (s.rv (.sceTgt t)) 31).map fun t =>
    s.pitch t * (if t = st then fld v 23 0 else fld (s.rv (.sceTgt t)) 23 0 : Nat)
  let hi := refs.foldl max (refs.headD 0)
  let lo := refs.foldl min (refs.headD 0)
  (bit v 31 && decide ((p.hmaSpan : Rat) / 16 < hi - lo)) || decide ((p.stroke : Rat) < s.pitch st * fld v 23 0)

end Sys2Proof.Machine
end

