-- ==== Sys2Proof/Machine/Servo.lean ====
section
/-! DEFINITION. Actuators (chapter 6): samples, settle and on-track, seeks, loading and unloading, the VCM current loop, monitors
and the fault paths. -/

namespace Sys2Proof.Machine

/-! ## Loss, retract, unload -/

/-- Work items of a sequencer are withdrawn by their poster: the queued ones go back as ABANDONED, and the current one, where it is among them
and `current` says so, gets CANCEL (Table 5.8). -/
def State.withdraw (s : State) (q : Nat) (current : Bool) (mine : WorkItem → Bool) : State :=
  let x := s.seqr q
  let s := if current && (x.items.take 1).any mine then s.cause q 1 else s
  let s := s.modSeq q fun x => { x with items := x.items.take 1 ++ (x.items.drop 1).filter fun w => !mine w }
  { s with seq := { s.seq with done := s.seq.done ++ ((x.items.drop 1).filter mine).map fun w =>
      { item := w, stream := x.stream, count := 0, result := 2, failed := [], wrote := [] } } }

/-- The work items of an actuator's sequencers are withdrawn. -/
def State.withdrawAct (s : State) (a : Nat) : State :=
  (below 16 fun q => (s.seqr q).stream / 4 == a).foldl (fun s q => s.withdraw q true fun _ => true) s

/-- An actuator is out of use: its work goes to the others, D_max and event source 4 follow, and ladders whose surface has no healthy head left
go to step R (R28, R76, R77, R122, R438). -/
def State.actLost (s : State) (a : Nat) (headsOn : Bool) : State :=
  let s := s.modAct a fun x => { x with state := .outOfUse, headsOn := headsOn, traj := none, reloadDue := none, command := 0 }
  let s := ((streamsOf a).filter fun st => (s.stream st).readers != 0).foldl (fun s st => s.setOnTrack st false) s
  let s := (s.withdrawAct a).rehomeAll
  let s := (List.range s.surfaces).foldl (fun s u => s.laddersLost u) s
  ((s.recomputeDmax).evcLevel 4).wakeEvent 7

/-- Every head of an actuator is deselected (R239): READERS of its streams become 0b00. -/
def State.deselectAll (s : State) (a : Nat) : State :=
  ((streamsOf a).filter fun st => (s.stream st).readers != 0).foldl (fun s st =>
    let s := s.sweepAbort (headOf st (s.stream st))
    let s := s.setOnTrack st false
    (s.setReaders st 0).modLoop st fun l => { l with command := 0, seen := false }) s

/-- An actuator starts towards the ramp (R239). -/
def State.toRamp (s : State) (a : Nat) (st : ActState) : State :=
  let s := s.deselectAll a
  let s := s.modAct a fun x => { x with state := st, stateSince := s.now, traj := none, settleRun := 0, command := 0, slowSince := none }
  s.recomputeDmax

/-- RETRACT (R239, R243): from any state with heads on or moving. -/
def State.retract (s : State) (a : Nat) : State :=
  let x := s.act a
  if x.state = .unloaded ∨ x.state = .outOfUse ∨ x.state = .retract then s
  else (s.toRamp a .retract).evcLevel 4

/-- Every loaded actuator retracts. -/
def State.retractAll (s : State) : State := (List.range 4).foldl (fun s a => s.retract a) s

/-- The VCM slot of an actuator and its HMA slots are reloaded after a fault, and LOAD is due after 1 s (R243). -/
def State.faultSlots (s : State) (a : Nat) : State :=
  let s := (a :: (streamsOf a).map (4 + ·)).foldl (fun (s : State) n => s.reloadSlot n) s
  s.modAct a fun x => { x with reloadDue := some (s.now + 1000000000) }

/-- The actuator fault path (R243); an actuator that is UNLOADED already needs no retract. -/
def State.actFault (s : State) (a : Nat) : State :=
  let x := s.act a
  let again := match x.faultAt with | some t => decide (s.now < t + 600000000000) | none => false
  let s := (s.modAct a fun x => { x with faultAt := some s.now, retireAfter := again, reloadDue := some 0, timeouts := 0 }).wakeEvent 7
  if x.state = .unloaded then s.faultSlots a else s.retract a

/-- A servo fault is reported and recorded (R242): `n` the slot, code of Table 6.9, owner a. -/
def State.servoReport (s : State) (n a code sev : Nat) : State :=
  (s.report (32 + n) code 0 sev).modAct a fun x => { x with lastFault := code }

/-- STAGE and UNLOAD_FAIL: the stage enable goes at once, with the heads where they are (R244). -/
def State.stageFault (s : State) (a code : Nat) : State :=
  let s := s.servoReport a a code 2
  let s := s.modAct a fun x => { x with stageOn := false }
  s.actLost a (s.act a).headsOn

/-- A fault of an HMA slot (R245): the head loses on-track, the slot restarts, and a second such fault of the head within 10 s
takes the head out of use. -/
def State.hmaFault (s : State) (st code : Nat) : State :=
  let h := headOf st (s.stream st)
  let again := match (s.lhead h).hmaFaultAt with | some t => decide (s.now < t + 10000000000) | none => false
  let s := s.servoReport (4 + st) (actOf st) code (if again then 2 else 1)
  let s := s.setOnTrack st false
  let s := (s.reloadSlot (4 + st)).modLoop st fun l => { l with seen := false, lostRun := 0 }
  let s := s.modHead h fun x => { x with hmaFaultAt := some s.now }
  if again then s.headOut h else s

/-- A fault of a VCM slot that takes the actuator fault path (R243). -/
def State.vcmFault (s : State) (a code : Nat) : State := (s.servoReport a a code 2).actFault a

/-! ## The sample (R202-R224) -/

/-- When a sample of an actuator begins: the arrival of the first record of its active heads (R202). -/
def State.sampleStart (s : State) (a : Nat) : Nat :=
  let l := (s.activeStreams a).filterMap fun st => ((s.stream st).fresh).map ServoRec.at_
  l.foldl min (l.headD 0)

/-- The records of a sample (R202): of the actuator's active heads, those within 600 ns of the first. -/
def State.sampleRecords (s : State) (a : Nat) : List (Nat × ServoRec) :=
  let l := (s.activeStreams a).filterMap fun st => ((s.stream st).fresh).map fun r => (st, r)
  l.filter fun e => decide (e.2.at_ ≤ s.sampleStart a + 600)

/-- Moves a value towards another by at most a step. -/
def toward (v t : Int) (step : Nat) : Int := if v < t then min t (v + step) else max t (v - step)

/-- The HMA loop of a stream's head for one sample: set-point, error, command (R214, R216, R217, R230). While the actuator seeks, the set-point
stays at the measured position and the command is 0 (R227). (DEDUCED, unsafe: log entry 106.) -/
def State.hmaSample (s : State) (st : Nat) (r : Option ServoRec) : State :=
  let seek := (s.act (actOf st)).state = .seeking
  let good := match r with | some r => validRec r | none => false
  let l := s.loop st
  let pos := match r with | some r => if validRec r then s.headPos r else l.pos | none => l.pos
  let sp := if seek ∨ (good && !l.seen) then pos else toward l.setPoint (s.target st) s.sec.pers.slewHma
  let err : Int := if good then (sp - pos) * 2 ^ 30 else if seek then 0 else l.lastIn
  let run_ := (s.slot (4 + st)).satRun
  let sat := s.slotSaturates (4 + st) err
  let (s, out) := s.runSlot (4 + st) err
  let lim : Int := (s.headPers (headOf st (s.stream st))).hmaLimit
  let cmd := if seek then 0 else max (-lim) (min lim out)
  let s := s.modLoop st fun l => { l with
    setPoint := sp, pos := pos, seen := l.seen || (good && !decide seek), command := cmd, lastIn := err,
    lostRun := if good then 0 else l.lostRun + 1 }
  let s := (s.limitSlot (4 + st) (cmd == lim || cmd == -lim) run_).modSlot (4 + st) fun x => { x with
    inputs := if (s.act (actOf st)).state = .following then (err :: x.inputs).take 64 else [] }
  let s := s.linkSend (actOf st) 5 (s.stream st).head (wrapBits 16 cmd)
  let lost := fld (s.rv .sceMonCfg) 31 28
  if lost ≤ (s.loop st).lostRun then s.hmaFault st 1
  else if sat then s.hmaFault st 4
  else if ((s.act (actOf st)).state = .settling ∨ (s.act (actOf st)).state = .following) ∧
      fld (s.rv .sceMonCfg) 23 16 ≤ (s.slot (4 + st)).satRun then s.hmaFault st 3
  else s

/-- A write of SCE_TGT_s that clears VALID: the head is no longer active, its command goes to 0 and it is not on-track (R201). -/
def State.targetWrite (s : State) (st : Nat) (v : Word) : State :=
  let was := s.activeHead st
  let s := s.setRv (.sceTgt st) v
  if was && !bit v 31 then
    ((s.setOnTrack st false).modLoop st fun l => { l with command := 0, seen := false }).linkSend (actOf st) 5 (s.stream st).head 0
  else s

/-- Whether 64 inputs exceed RMS_LIM (Table 6.9 code 5), in units of 2^-30 of 1/4,096 track. -/
def State.rmsOver (s : State) (n : Nat) : Bool :=
  let l := (s.slot n).inputs
  let lim := 4 * fld (s.rv .sceMonCfg) 15 8 * 2 ^ 30
  decide (l.length = 64) && decide (64 * lim * lim < (l.map fun v => v.natAbs * v.natAbs).sum)

/-- Whether a head meets every on-track condition of R233 in a sample, with a limit in 1/1,024 track. -/
def State.headGood (s : State) (st : Nat) (r : Option ServoRec) (limit : Nat) : Bool :=
  let l := s.loop st
  let lim : Int := (s.headPers (headOf st (s.stream st))).hmaLimit
  (match r with | some r => validRec r | none => false) && decide ((s.target st - l.pos).natAbs ≤ 4 * limit) &&
    l.command != lim && l.command != -lim && (s.link (actOf st)).up

/-- On-track after a sample of an actuator in FOLLOWING (R233, R234). -/
def State.trackHead (s : State) (st : Nat) (r : Option ServoRec) : State :=
  let cfg := s.rv .sceOtCfg
  if s.headGood st r (fld cfg 31 24) then
    let s := s.modStream st fun x => { x with sinceGood := if (s.loop st).onTrack then x.cur.toList else x.sinceGood }
    if (s.loop st).onTrack then s
    else if fld cfg 7 0 ≤ (s.loop st).regain + 1 then s.setOnTrack st true
    else s.modLoop st fun l => { l with regain := l.regain + 1 }
  else if (s.loop st).onTrack then s.setOnTrack st false
  else s.modLoop st fun l => { l with regain := 0 }

/-- The current command of an actuator (R221): the sum of its terms, rounded and clamped. -/
def State.vcmSum (s : State) (a : Nat) (out aRef : Rat) : Int × Bool :=
  let x := s.act a
  let p := s.actPers a
  let raw := roundRat (out + (p.kAcc : Rat) / 256 * aRef / 1000000 + s.friction a x.direction x.xRef + s.coupling a)
  (max (-32767) (min 32767 raw), decide (32767 < raw.natAbs))

/-- The current command reaches the current loop (R224). -/
def State.vcmCommand (s : State) (a : Nat) (c : Int) : State :=
  s.modAct a fun x => { x with command := c, commands := (c :: x.commands).take 16 }

/-- x_ref of a sample, and the friction direction (R215, R222). -/
def State.measure (s : State) (a : Nat) (recs : List (Nat × ServoRec)) : State × Bool :=
  let good := (recs.filter fun e => validRec e.2 && decide (0 < s.weight e.1)).map Prod.fst
  match s.fused good fun st => ((s.loop st).pos : Rat) - s.displacement st with
  | none => (s.modAct a fun x => { x with lostRun := x.lostRun + 1 }, false)
  | some v =>
    let x := s.act a
    let at_ := x.began.getD s.now
    let dt := match x.sampleAt with | some t => at_ - t | none => 0
    let vel : Rat := if dt = 0 ∨ !x.xKnown then 0 else ((v - x.xRef : Int) : Rat) / 2 ^ 42 * 1000000000 / dt
    let dead : Rat := (s.actPers a).vDead
    let dir := if dead < vel then 0 else if vel < -dead then 1 else x.direction
    (s.modAct a fun x => { x with xRef := v, xKnown := true, direction := dir, lostRun := 0, sampleAt := some at_ }, true)

/-- The VCM slot's error of a sample, in units of 2^-30 of 1/4,096 reference track (R215, R216, R230). -/
def State.vcmError (s : State) (a : Nat) (recs : List (Nat × ServoRec)) : Int :=
  let x := s.act a
  let good := (recs.filter fun e => validRec e.2 && decide (0 < s.weight e.1)).map Prod.fst
  if x.state = .seeking then
    match x.traj with
    | some t => roundRat (trajAt t (x.began.getD s.now)).1 - x.xRef
    | none => x.lastVcmIn
  else match s.fused good fun st => (s.target st : Rat) - (s.loop st).pos + s.displacement st with
    | none => x.lastVcmIn
    | some v => v - x.handover

/-- The VCM part of a sample in SEEKING, SETTLING or FOLLOWING (R203, R215, R221). -/
def State.vcmSample (s : State) (a : Nat) (recs : List (Nat × ServoRec)) (known : Bool) : State :=
  let x := s.act a
  let err := if known then s.vcmError a recs else x.lastVcmIn
  let run_ := (s.slot a).satRun
  let sat := s.slotSaturates a err
  let (s, out) := s.runSlot a err
  let aRef : Rat := match x.traj with
    | some t => if x.state = .seeking then (trajAt t (x.began.getD s.now)).2 else 0
    | none => 0
  let (c, overAt) := s.vcmSum a out aRef
  let s := (s.limitSlot a overAt run_).modSlot a fun y => { y with
    inputs := if x.state = .following then (err :: y.inputs).take 64 else [] }
  let s := s.modAct a fun y => { y with lastVcmIn := err, handover := toward y.handover 0 (s.sec.pers.slewVcm * 2 ^ 30) }
  let s := s.vcmCommand a c
  if fld (s.rv .sceMonCfg) 31 28 ≤ (s.act a).lostRun then s.vcmFault a 1
  else if sat then s.vcmFault a 4
  else if (x.state = .settling ∨ x.state = .following) ∧ fld (s.rv .sceMonCfg) 23 16 ≤ (s.slot a).satRun then s.vcmFault a 3
  else if x.state = .following ∧ s.rmsOver a then s.vcmFault a 5
  else s

/-- The settle criterion of a sample (R232). -/
def State.settleSample (s : State) (a : Nat) (recs : List (Nat × ServoRec)) : State :=
  let cfg := s.rv .sceOtCfg
  let sts := s.activeStreams a
  let ok := !sts.isEmpty && sts.all fun st => s.headGood st ((recs.find? fun e => e.1 == st).map Prod.snd) (fld cfg 23 16)
  if !ok then s.modAct a fun x => { x with settleRun := 0 }
  else if (s.act a).settleRun + 1 < fld cfg 15 8 then s.modAct a fun x => { x with settleRun := x.settleRun + 1 }
  else
    let s := s.modAct a fun x => { x with state := .following, settleRun := 0, timeouts := 0, stateSince := s.now, traj := none }
    let s := sts.foldl (fun s st => s.setOnTrack st true) s
    s.recomputeDmax

/-- LOADING (R238): valid records in 4 consecutive wedges of an active head end it; no GO is under way then. -/
def State.loadSample (s : State) (a : Nat) (recs : List (Nat × ServoRec)) : State :=
  let s := (s.activeStreams a).foldl (fun s st =>
    let good := recs.any fun e => e.1 == st && validRec e.2
    s.modLoop st fun l => { l with regain := if good then l.regain + 1 else 0 }) s
  let s := recs.foldl (fun s e => if validRec e.2 then s.modLoop e.1 fun l => { l with pos := s.headPos e.2 } else s) s
  if (s.activeStreams a).any fun st => decide (4 ≤ (s.loop st).regain) then
    let s := recs.foldl (fun s e =>
      if validRec e.2 then s.setRv (.sceTgt e.1) (BitVec.ofNat 32 (2 ^ 31 + e.2.track % 2 ^ 24)) else s) s
    let s := (s.activeStreams a).foldl (fun s st => s.modLoop st fun l => { l with regain := 0, seen := false }) s
    let (s, _) := s.measure a recs
    let s := s.modAct a fun x => { x with state := .settling, stateSince := s.now, settleRun := 0, headsOn := true, goTime := 0 }
    let s := s.modAct a fun x => { x with handover := s.vcmError a recs + x.handover }
    s.recomputeDmax
  else s

/-- OVERRUN (R247): the outputs of the previous sample stay, and the inputs are discarded. -/
def State.overrun (s : State) (a : Nat) : State := s.servoReport a a 6 0

/-- The HMA slots of a sample are computed and their commands released, then the wedge's STATUS frame and, in a touchdown sweep, SENSOR
(R148, R153, R203). -/
def State.releaseHma (s : State) (a : Nat) (recs : List (Nat × ServoRec)) : State :=
  let s := (s.activeStreams a).foldl (fun s st => s.hmaSample st ((recs.find? fun e => e.1 == st).map Prod.snd)) s
  let s := s.linkSend a 6 31 0
  if s.wrp.sweep.busy && s.wrp.sweep.head / 18 == a then s.linkSend a 9 (s.wrp.sweep.head % 18) 0 else s

/-- One sample of an actuator (R202, R203), once its window has closed; a pending bank switch of its slots takes effect in any state
(Table 6.1, R210). -/
def State.servoSample (s : State) (a : Nat) (late : Bool) : State :=
  let recs := s.sampleRecords a
  let start := s.sampleStart a
  let any := !recs.isEmpty
  let s := (streamsOf a).foldl (fun s st => s.modStream st fun x => { x with fresh := none }) s
  if !any then s
  else
  let s := (s.advanceTo (start + 600)).modAct a fun x => { x with began := some start }
  let s := (a :: (streamsOf a).map (4 + ·)).foldl (fun (s : State) n => s.modSlot n fun x => { x with run := false }) s
  if late then s.overrun a
  else
  let s := (a :: (streamsOf a).map (4 + ·)).foldl (fun s n => s.swapBank n) s
  match (s.act a).state with
  | .loading => s.loadSample a recs
  | .seeking =>
    let s := s.releaseHma a recs
    let (s, known) := s.measure a recs
    s.vcmSample a recs known
  | .settling | .following =>
    let sts := s.activeStreams a
    let s := s.releaseHma a recs
    let (s, known) := s.measure a recs
    let s := s.vcmSample a recs known
    if (s.act a).state = .settling then s.settleSample a recs
    else if (s.act a).state = .following then
      let s := sts.foldl (fun s st => s.trackHead st ((recs.find? fun e => e.1 == st).map Prod.snd)) s
      sts.foldl (fun s st => if (s.act a).state = .following ∧ s.rmsOver (4 + st) then s.hmaFault st 5 else s) s
    else s
  | _ => s

/-! ## Commands (R226-R231, R238, R239) -/

/-- A seek of an actuator to a reference position (R227): plan, or SETTLING at once for less than one reference track. -/
def State.goTo (s : State) (a : Nat) (t : Int) (quiet : Bool) : State :=
    let x := s.act a
    let d := (t - x.xRef).natAbs
    let s := s.modAct a fun x => { x with seekTo := t }
    let s := (s.activeStreams a).foldl (fun s st => s.setOnTrack st false) s
    if d < 2 ^ 42 then
      let s := (s.activeStreams a).foldl (fun s st => s.modLoop st fun l => { l with seen := false }) s
      (s.modAct a fun x => { x with state := .settling, stateSince := s.now, settleRun := 0, goTime := s.now, traj := none }).recomputeDmax
    else
      let (tr, peak) := s.planSeek a x.xRef t quiet
      let s := (s.activeStreams a).foldl (fun s st => s.modLoop st fun l => { l with command := 0, seen := false }) s
      (s.modAct a fun x => { x with
        state := .seeking, stateSince := s.now, settleRun := 0, goTime := s.now, traj := some tr,
        tPlan := min 0xFFFF (tr.tPlan / 1000000), aPeak := min 0xFFFF peak }).recomputeDmax

/-- GO (R227). -/
def State.go (s : State) (a : Nat) (quiet : Bool) : State := match s.targetRef a with | none => s | some t => s.goTo a t quiet

/-- LOAD (R238). -/
def State.load (s : State) (a : Nat) : State :=
  let s := (s.activeStreams a).foldl (fun s st => s.modLoop st fun l => { l with regain := 0, seen := false, command := 0 }) s
  (s.modAct a fun x => { x with state := .loading, stateSince := s.now, reloadDue := none, xKnown := false, handover := 0 }).recomputeDmax

/-- Whether some active head of an actuator has a WEIGHT above 0 (R226). -/
def State.hasWeight (s : State) (a : Nat) : Bool := (s.activeStreams a).any fun st => decide (0 < s.weight st)

/-- Whether a write to SCE_ACT_CMD_a is refused for the state of the actuator (R226, R257). -/
def State.actCmdRefused (s : State) (a : Nat) (v : Word) : Bool :=
  let st := (s.act a).state
  let n := b2n (bit v 31) + b2n (bit v 30) + b2n (bit v 29)
  decide (1 < n) ||
  (bit v 31 && !((st == .settling || st == .following) && s.hasWeight a)) ||
  (bit v 30 && !(st == .unloaded && s.hasWeight a && s.spn.state == .atSpeed)) ||
  (bit v 29 && !(st == .loading || st == .seeking || st == .settling || st == .following))

/-- An accepted write to SCE_ACT_CMD_a. -/
def State.actCmd (s : State) (a : Nat) (v : Word) : State :=
  let s := s.setRv (.sceActCmd a) v
  if bit v 31 then s.go a (bit v 28)
  else if bit v 30 then s.load a
  else if bit v 29 then s.toRamp a .unloading
  else s

/-- The trajectory ends at t_plan (R228). (DESIGN CHOICE, safe: log entry 5.) -/
def State.seekEnd (s : State) (a : Nat) : State :=
  match (s.act a).traj with
  | none => s
  | some t =>
    if (s.act a).state = .seeking then
      let s := s.advanceTo (t.begun + (t.tPlan + 999) / 1000)
      let s := (s.activeStreams a).foldl (fun s st => s.modLoop st fun l => { l with seen := false, command := 0 }) s
      (s.modAct a fun x => { x with state := .settling, stateSince := s.now, settleRun := 0, traj := none }).recomputeDmax
    else s

/-- A seek not in FOLLOWING within T_SEEK_MAX of its GO (R231): the first time a seek to the same target is planned from the present
position. A settling that ends a load has had no GO, which `goTime` 0 tells. -/
def State.seekTimeout (s : State) (a : Nat) : State :=
  let x := s.act a
  if (x.state = .seeking ∨ x.state = .settling) ∧ x.goTime ≠ 0 then
    let s := s.advanceTo (x.goTime + 1000 * (s.actPers a).tSeekMax)
    let s := s.servoReport a a 2 (if 1 ≤ x.timeouts then 2 else 1)
    if 1 ≤ x.timeouts then s.actFault a
    else
      let s := s.modAct a fun x => { x with timeouts := x.timeouts + 1 }
      s.goTo a x.seekTo (bit (s.rv (.sceActCmd a)) 28)
  else s

/-- LOAD_FAIL (R238). -/
def State.loadFail (s : State) (a : Nat) : State :=
  let x := s.act a
  if x.state = .loading then
    let s := s.advanceTo (x.stateSince + 150000000)
    (s.servoReport a a 8 2).actFault a
  else s

/-- UNLOAD_FAIL (R239, R244). -/
def State.unloadFail (s : State) (a : Nat) : State :=
  let x := s.act a
  if x.state = .unloading ∨ x.state = .retract then (s.advanceTo (x.stateSince + 200000000)).stageFault a 9 else s

/-- Whether every actuator is UNLOADED, or out of use with its heads unloaded (R259, R266). -/
def State.allUnloaded (s : State) : Bool :=
  (List.range 4).all fun a => (s.act a).state == .unloaded || ((s.act a).state == .outOfUse && !(s.act a).headsOn)

/-- An actuator has reached the ramp, its velocity having stayed low for 2 ms (R239): after a fault its slots are reloaded, and LOAD is due
after 1 s (R243). -/
def State.unloadDone (s : State) (a : Nat) : State :=
  let x := s.act a
  match x.slowSince with
  | none => s
  | some since => if x.state = .unloading ∨ x.state = .retract then
    let s := s.advanceTo (since + 2000000)
    let s := s.modAct a fun x => { x with state := .unloaded, stateSince := s.now, headsOn := false, command := 0, lostRun := 0 }
    let s := match x.reloadDue with
      | none => s
      | some _ => s.faultSlots a
    s.recomputeDmax
  else s

/-- One second after the retract of a fault the actuator is loaded again, or taken out of use on a repeat (R243).
(DEDUCED, unsafe: log entry 117.) -/
def State.faultReload (s : State) (a : Nat) : State :=
  let x := s.act a
  match x.reloadDue with
  | none => s
  | some t =>
    if x.state = .unloaded ∧ t ≠ 0 then
      let s := s.advanceTo t
      if x.retireAfter then (s.modAct a fun x => { x with reloadDue := none }).actLost a false
      else if s.spn.state = .atSpeed then s.load a
      else s
    else s

/-- v_b in reference tracks/s from the coil current in LSB and the coil voltage in µV (R237). -/
def State.backEmf (s : State) (a : Nat) (isense vcoil : Int) : Int :=
  let p := s.actPers a
  roundRat (((vcoil : Rat) - (p.rCoil : Rat) * (isense * p.iFs / 32767 : Rat)) * 1000 / p.kBemf)

/-- The output of the proportional velocity loop towards LOAD_V, or UNLOAD_V towards lower tracks (R237-R239). -/
def State.velocityLoop (s : State) (a : Nat) (v : Int) : Rat :=
  let p := s.actPers a
  let want : Int := if (s.act a).state = .loading then 1000 * p.loadV else -(1000 * p.unloadV)
  (Config.velGain a : Rat) / 65536 * ((want - v : Int) : Rat)

/-- One PWM period of an actuator's current loop (R236, R237): sensed current in LSB and coil voltage in µV. STAGE after 32 periods that
differ by more than 10 % of I_FS. In LOADING, UNLOADING and RETRACT the velocity loop gives the command, with the friction and coupling terms
(R221). -/
def State.currentPeriod (s : State) (a : Nat) (isense vcoil : Int) : State :=
  let x := s.act a
  if !x.stageOn then s
  else
    let p := s.actPers a
    let moving := x.state = .loading ∨ x.state = .unloading ∨ x.state = .retract
    let v := s.backEmf a isense vcoil
    let slow := decide ((x.state = .unloading ∨ x.state = .retract) ∧ 100 * v.natAbs < 5000 * p.unloadV)
    let (fed, sat) := s.vcmSum a (s.velocityLoop a v) 0
    let cmd : Int := if moving then fed else if x.state = .unloaded then 0 else x.command
    let s := if moving then (s.limitSlot a sat (s.slot a).satRun).vcmCommand a cmd else s
    let err := cmd - isense
    let integ := x.integ + p.curKi * err
    let off := decide (32767 < 10 * err.natAbs)
    let s := s.modAct a fun x => { x with
      current := isense, command := cmd, integ := integ, duty := p.curKp * err + integ,
      diffRun := if off then x.diffRun + 1 else 0, velocity := v,
      slowSince := if slow then some (x.slowSince.getD s.now) else none }
    if 32 ≤ (s.act a).diffRun then s.stageFault a 7 else s

/-- An uncorrectable error in a slot's memory (R246): the loop moves to a free spare slot, or SLOT_MEM is raised. -/
def State.slotMem (s : State) (n : Nat) : State :=
  let used := (List.range 22).map fun k => (s.slot k).phys
  match [22, 23].find? fun p => !used.contains p with
  | some p =>
    let s := s.modSlot n fun x => { x with phys := p, swap := false }
    s.reloadSlot n
  | none =>
    if n < 4 then s.vcmFault n 10
    else if n < 20 then s.hmaFault (n - 4) 10
    else s.report (32 + n) 10 0 2

end Sys2Proof.Machine
end

