-- ==== Sys2Proof/Machine/Spindle.lean ====
section
/-! DEFINITION. The spindle and transit lock (chapter 7). Speeds are in 1/16 rpm. -/

namespace Sys2Proof.Machine

/-- Changes the spindle. -/
def State.modSpn (s : State) (f : Spn → Spn) : State := { s with spn := f s.spn }

/-- The spindle block in force. -/
def State.spnPers (s : State) : SpnPers := s.sec.pers.spindle

/-! ## The gate outputs (R248, R249, R252-R254, R262, R277) -/

/-- The step of commutation in force: the step of the last zero crossing takes over 30 − ADVANCE electrical degrees after it, as the
interval of the last two crossings, 60 degrees, times it (R262); in OPEN_LOOP the rate rises linearly from 0 to OL_RPM over T_OL (R253). -/
def State.commStep (s : State) : Nat :=
  let p := s.spnPers
  let x := s.spn
  match x.state with
  | .align => x.rotor
  | .openLoop =>
    let dt := (s.now - x.since) / 1000
    (x.rotor + 6 * p.polePairs * p.olRpm * dt * dt / (2 * 60000000 * (1000 * max 1 p.tOl))) % 6
  | _ => match x.crossings with
    | c :: d :: _ => if c + (c - d) * (30 - p.advance) / 60 ≤ s.now then x.rotor else (x.rotor + 5) % 6
    | _ => x.rotor

/-- The switches a conducting pair of phases closes: the high side of one by PWM, so only with a duty above 0, the low side of another.
(DESIGN CHOICE, unsafe: log entry 142.) -/
def pairGates (step : Nat) (duty : Int) : Nat :=
  let (h, l) := match step with | 0 => (0, 1) | 1 => (0, 2) | 2 => (1, 2) | 3 => (1, 0) | 4 => (2, 0) | _ => (2, 1)
  (if 0 < duty then 2 ^ (2 * h) else 0) + 2 ^ (2 * l + 1)

/-- The gate outputs that the state of the spindle calls for (Table 7.2). -/
def State.gatesWanted (s : State) : Nat :=
  match s.spn.state with
  | .align | .openLoop | .ramp | .atSpeed => pairGates s.commStep s.spn.duty
  | .coast => if 16 * s.spnPers.olRpm ≤ s.spn.speed then pairGates s.commStep 1 else 0
  | .brake => 42
  | _ => 0

/-- The other gate output of the same phase. -/
def gateTwin (k : Nat) : Nat := if k % 2 = 0 then k + 1 else k - 1

/-- The gate outputs are switched: one that is no longer called for turns off and holds its twin off for the dead time DEAD, and one that
is called for turns on once its twin is off and that time is over (R248). -/
def State.switchGates (s : State) : State :=
  let want := s.gatesWanted
  let rest := s.now + 4 * s.spnPers.dead
  s.modSpn fun x =>
    let free := (List.range 6).map fun k =>
      if x.gates.testBit (gateTwin k) && !want.testBit (gateTwin k) then rest else x.gateFree.getD k 0
    { x with
      gateFree := free,
      gates := ((below 6 fun k => want.testBit k && !want.testBit (gateTwin k) && decide (free.getD k 0 ≤ s.now)).map fun k => 2 ^ k).sum }

/-- The spindle enters a state: the current command is I_ALIGN in ALIGN and OPEN_LOOP, and I_FS in BRAKE (R253, R259). -/
def State.spnEnter (s : State) (st : SpnState) : State :=
  let p := s.spnPers
  let c : Int := match st with
    | .align | .openLoop => ((p.iAlign * 32767 / max 1 p.iFs : Nat) : Int)
    | .brake => 32767
    | .ramp | .atSpeed => s.spn.command
    | _ => 0
  (s.modSpn fun x => { x with state := st, since := s.now, command := c }).switchGates

/-- Transit lock goes to a state. -/
def State.tlEnter (s : State) (st : TlState) : State :=
  (s.modSpn fun x => { x with tlState := st, phRun := 0, lossRun := 0,
                              corr := if st = .acquire ∨ st = .locked ∨ st = .holdover then x.corr else 0 }).evcLevel 11

/-- Transit lock follows the spindle leaving AT_SPEED (R273). -/
def State.tlWait (s : State) : State := if s.spn.tlState = .off then s else s.tlEnter .wait

/-- A spindle fault is reported and recorded (R279). -/
def State.spnReport (s : State) (code sev : Nat) : State :=
  (s.report 64 code 0 sev).modSpn fun x => { x with lastFault := code }

/-- The spindle enters FAULT (R254, R256, R266, R280). -/
def State.spnFault (s : State) : State :=
  (((s.spnEnter .fault).modSpn fun x => { x with command := 0, duty := 0, enabledAt := 0, retryDue := none }).tlWait).recomputeDmax

/-- RAMP from the measured speed towards the target (R255). -/
def State.spnRamp (s : State) : State :=
  (((s.spnEnter .ramp).modSpn fun x => { x with setPoint := x.speed, setAt := s.now, goodRevs := 0, badRevs := 0 }).tlWait).recomputeDmax

/-- The speed set-point now (R255). -/
def State.setPointNow (s : State) : Nat :=
  let t := 16 * s.spn.target
  let dt := s.now - s.spn.setAt
  if s.spn.setPoint < t then min t (s.spn.setPoint + 16 * s.spnPers.rampUp * dt / 1000000000)
  else max t (s.spn.setPoint - 16 * s.spnPers.rampDn * dt / 1000000000)

/-- The condition of R61 for lowering the speed: the dirty total is within the D_max(t) of the lower speed. -/
def State.mayLower (s : State) (rpm : Nat) : Bool :=
  decide (s.dirty ≤ ({ s with spn := { s.spn with speed := 16 * rpm } }).dmaxNow)

/-- A target speed takes effect: a raise at once, but from PN1 on only once the stage is left (Table 15.6), a lowering in any state of a
driven motor once R61 allows it (R255, R260). (DEDUCED, unsafe: log entry 59.) -/
def State.takeTarget (s : State) : State :=
  let t := s.targetRpm
  if t = s.spn.target then s
  else if t < s.spn.target ∧ s.spn.state ≠ .stopped ∧ s.spn.state ≠ .fault ∧ !s.mayLower t then s
  else if s.spn.target < t ∧ s.spn.state = .atSpeed ∧ 1 ≤ s.stageCode then s
  else
    let sp := s.setPointNow
    let s := s.modSpn fun x => { x with target := t, setPoint := sp, setAt := s.now }
    if s.spn.state = .atSpeed then s.spnRamp else s

/-- Whether clearing ENABLE is refused (R259). -/
def State.disableRefused (s : State) (v : Word) : Bool := bit (s.rv .spnCtl) 31 && !bit v 31 && !s.allUnloaded

/-- An accepted write of SPN_CTL (R252, R255, R259, R260). A write of TARGET_RPM in AT_SPEED returns the state to RAMP even
where it repeats the value (R255, R664). -/
def State.spnCtlWrite (s : State) (v : Word) : State :=
  let was := bit (s.rv .spnCtl) 31
  let s := s.setRv .spnCtl v
  let s := if bit v 31 && (s.spn.state == .stopped || s.spn.state == .fault) && s.spn.retryDue.isNone then
      (s.spnEnter .listen).modSpn fun x =>
        { x with enabledAt := s.now + 1, attempts := 0, retryDue := none, thenSense := false, target := s.targetRpm }
    else s
  if was && !bit v 31 then
    if s.spn.state = .stopped ∨ s.spn.state = .fault then s.modSpn fun x => { x with retryDue := none, enabledAt := 0 }
    else (((s.spnEnter .brake).modSpn fun x => { x with thenSense := false, enabledAt := 0 }).tlWait).recomputeDmax
  else if s.spn.state = .atSpeed ∧ s.targetRpm = s.spn.target then s.spnRamp
  else s.takeTarget

/-- LISTEN ends after 5 ms (R252): the back-EMF seen gives a speed, or none. -/
def State.listenEnd (s : State) (speed : Option Nat) : State :=
  if s.spn.state = .listen then
    let s := s.advanceTo (s.spn.since + 5000000)
    match speed with
    | none => s.spnEnter .sense
    | some v =>
      if 16 * s.spnPers.olRpm ≤ v then (s.modSpn fun x => { x with speed := v, anchored := false }).spnRamp
      else (s.spnEnter .brake).modSpn fun x => { x with thenSense := true }
  else s

/-- SENSE ends with the rotor's sector (R253). -/
def State.senseEnd (s : State) (sector : Nat) : State :=
  if s.spn.state = .sense then (s.modSpn fun x => { x with rotor := sector % 6 }).spnEnter .align else s

/-- ALIGN ends after T_ALIGN (R253). -/
def State.alignEnd (s : State) : State :=
  if s.spn.state = .align then (s.advanceTo (s.spn.since + 1000000 * s.spnPers.tAlign)).spnEnter .openLoop else s

/-- Commutation steps of OPEN_LOOP up to a moment (R253). -/
def State.olSteps (s : State) (t : Nat) : Rat :=
  let p := s.spnPers
  let dt : Rat := ((t - s.spn.since : Nat) : Rat) / 1000000000
  (6 * p.polePairs * p.olRpm : Nat) * dt * dt * 1000 / (120 * max 1 p.tOl : Nat)

/-- The last 12 zero crossings of OPEN_LOOP each fell within a quarter of a commutation interval of where commutation expects them, 30 −
ADVANCE electrical degrees before a step (R254, R262). (DEDUCED, unsafe: log entry 145.) -/
def State.olMatched (s : State) : Bool :=
  let l := (s.spn.crossings.filter fun t => decide (s.spn.since ≤ t)).take 12
  l.length == 12 && l.all fun t =>
    let x : Rat := s.olSteps t + ((30 - s.spnPers.advance : Int) : Rat) / 60
    let d : Rat := x - (roundRat x : Rat)
    decide (-1 / 4 ≤ d) && decide (d ≤ 1 / 4)

/-- OPEN_LOOP ends after T_OL (R254): the last 12 crossings were where they were expected, or START_FAIL. -/
def State.openLoopEnd (s : State) : State :=
  if s.spn.state = .openLoop then
    let matched := s.olMatched
    let s := s.advanceTo (s.spn.since + 1000000 * s.spnPers.tOl)
    if matched then (s.modSpn fun x => { x with speed := 16 * s.spnPers.olRpm, anchored := false }).spnRamp
    else
      let s := (s.spnReport 1 (if 2 ≤ s.spn.attempts then 2 else 1)).modSpn fun x => { x with attempts := min 3 (x.attempts + 1) }
      if 3 ≤ s.spn.attempts then s.spnFault
      else (s.spnEnter .stopped).modSpn fun x => { x with retryDue := some (s.now + 1000000000) }
  else s

/-- SENSE is started again 1 s after START_FAIL (R254). -/
def State.startRetry (s : State) : State :=
  match s.spn.retryDue with
  | none => s
  | some t => ((s.advanceTo t).spnEnter .sense).modSpn fun x => { x with retryDue := none }

/-- AT_SPEED not reached within T_SPINUP of the ENABLE write (R256). -/
def State.spinupTimeout (s : State) : State :=
  if s.spn.enabledAt = 0 ∨ s.spn.state = .atSpeed ∨ s.spn.state = .coast then s
  else
    let s := s.advanceTo (s.spn.enabledAt - 1 + 100000000 * s.spnPers.tSpinup)
    (s.spnReport 2 2).spnFault

/-- BRAKE ends 500 ms after the last zero crossing (R252, R259). -/
def State.brakeEnd (s : State) : State :=
  if s.spn.state = .brake then
    let t := max s.spn.since (s.spn.crossings.headD 0)
    let s := s.advanceTo (t + 500000000)
    let sense := s.spn.thenSense
    (s.spnEnter (if sense then .sense else .stopped)).modSpn fun x =>
      { x with thenSense := false, speed := 0, anchored := false, crossings := [] }
  else s

/-- A second fault of slot 20 that waits for the actuators puts the spindle into FAULT once each is unloaded (R266). -/
def State.spnPending (s : State) : State :=
  if s.spn.faultPending && s.allUnloaded then (s.modSpn fun x => { x with faultPending := false }).spnFault else s

/-- A fault of slot 20 or 21 (R266). -/
def State.spnSlotFault (s : State) (n code : Nat) : State :=
  let again := n == 20 && (match s.spn.slotFaultAt with | some t => decide (s.now < t + 10000000000) | none => false)
  let sev := if again then 2 else 1
  let s := s.report (32 + n) code 0 sev
  let s := (s.spnReport 6 sev).reloadSlot n
  let s := if n = 20 then s.modSpn fun x => { x with slotFaultAt := some s.now } else s
  if again then
    let s := s.retractAll
    if s.allUnloaded then s.spnFault else s.modSpn fun x => { x with faultPending := true }
  else s

/-- The monitors of slot 20 or 21 after a computation (R266). -/
def State.spnMonitor (s : State) (n : Nat) (sat : Bool) (err : Int) : State :=
  let s := s.modSlot n fun x => { x with inputs := if s.spn.state = .atSpeed then (err :: x.inputs).take 64 else [] }
  if sat then s.spnSlotFault n 4
  else if s.spn.state = .atSpeed ∧ fld (s.rv .sceMonCfg) 23 16 ≤ (s.slot n).satRun then s.spnSlotFault n 3
  else if s.spn.state = .atSpeed ∧ s.rmsOver n then s.spnSlotFault n 5
  else s

/-- Actuators with heads over the media retract where the speed has fallen below UNLOAD_PCT of the target (R258). -/
def State.speedGuard (s : State) : State :=
  if !s.pwr.umbra && decide (100 * s.spn.speed < s.spnPers.unloadPct * 16 * s.spn.target) then
    ((List.range 4).filter fun a =>
      let st := (s.act a).state
      st == .loading || st == .seeking || st == .settling || st == .following).foldl (fun s a => s.retract a) s
  else s

/-- The fractional part of a number. -/
def fracRat (r : Rat) : Rat := r - r.floor

/-- The bin of the rotor's electrical angle now, interpolated from the last zero crossing at the measured speed (R265). -/
def State.rotorBin (s : State) : Nat :=
  let dt := s.now - s.spn.crossings.headD s.now
  let turns : Rat := (s.spn.rotor : Rat) / 6 + ((s.spnPers.polePairs * s.spn.speed * dt : Nat) : Rat) / 960000000000
  (fracRat turns * 1024).floor.toNat

/-- The cogging term at the rotor's angle, in LSB (R265). -/
def State.cogging (s : State) : Int :=
  if s.spn.state = .ramp ∨ s.spn.state = .atSpeed then s.tableEntry (0x28000 + 2 * s.rotorBin) else 0

/-- The current command now: once slot 20 has run in RAMP or AT_SPEED, its output and the cogging term of the present angle, held within 0
and 32,767 (R264, R265). -/
def State.commandNow (s : State) : Int :=
  if (s.spn.state = .ramp ∨ s.spn.state = .atSpeed) ∧ (s.slot 20).run then max 0 (min 32767 ((s.slot 20).out + s.cogging))
  else s.spn.command

/-- A back-EMF zero crossing (R262-R265): speed over the last six, and the speed loop. A computation of slot 20 that is not finished in time
leaves its output and is a slot fault (R247, R266). -/
def State.zeroCrossing (s : State) (late : Bool) : State :=
  let running := s.spn.state = .ramp ∨ s.spn.state = .atSpeed ∨ s.spn.state = .coast ∨ s.spn.state = .brake ∨ s.spn.state = .openLoop
  if !decide running then s
  else
    let cs := (s.now :: s.spn.crossings).take 13
    let sp := match cs[6]? with
      | some t => if t < s.now then 16 * 60000000000 / (s.spnPers.polePairs * (s.now - t)) else s.spn.speed
      | none => s.spn.speed
    let s := s.modSpn fun x => { x with crossings := cs, speed := min sp (2 ^ 20 - 1), rotor := (x.rotor + 1) % 6 }
    let s := s.speedGuard
    if (s.spn.state = .ramp ∨ s.spn.state = .atSpeed) ∧ late then s.spnSlotFault 20 6
    else if s.spn.state = .ramp ∨ s.spn.state = .atSpeed then
      let err : Int := ((s.setPointNow : Int) + s.spn.corr - s.spn.speed) * 2 ^ 30
      let s := s.swapBank 20
      let sat := s.slotSaturates 20 err
      let run_ := (s.slot 20).satRun
      let (s, out) := s.runSlot 20 err
      let s := s.limitSlot 20 (decide (32767 < out + s.cogging)) run_
      let c := s.commandNow
      (s.modSpn fun x => { x with command := c }).spnMonitor 20 sat err
    else s.modSlot 20 fun x => { x with run := false }

/-- One PWM period of the spindle current loop (R249, R280): the sensed current in LSB of I_FS/32,767. -/
def State.spnCurrent (s : State) (isense : Int) : State :=
  let p := s.spnPers
  let cmd := s.commandNow
  let err := cmd - isense
  let overAt := decide (12 * 32767 < 10 * isense)
  let off := (s.spn.state = .ramp ∨ s.spn.state = .atSpeed) ∧ 32767 < 10 * err.natAbs
  let s := s.modSpn fun x => { x with
    command := cmd, integ := x.integ + p.curKi * err, duty := p.curKp * err + (x.integ + p.curKi * err),
    overRun := if overAt then x.overRun + 1 else 0, diffRun := if off then x.diffRun + 1 else 0 }
  let s := s.switchGates
  if 2 ≤ s.spn.overRun then ((s.spnReport 4 2).retractAll).spnFault
  else if 32 ≤ s.spn.diffRun then ((s.spnReport 3 2).retractAll).spnFault
  else s

/-! ## Transit lock (R269-R276) -/

/-- φ at the present moment in revolutions, if there is a reference (R269, R270). -/
def State.phase (s : State) : Option Rat :=
  let ofs : Rat := (fld s.spn.tlOfs 15 0 : Rat) / 65536
  let turns (t : Nat) : Rat := (t : Rat) * s.targetRpm / 60000000000
  match fld s.spn.tlCfg 31 30 with
  | 1 => some (fracRat (turns (timCount s.tim) - ofs))
  | 2 => s.spn.syncEdge.map fun t => fracRat (turns (s.now - t) - ofs)
  | _ => none

/-- e in units of 1/65,536 revolution, mapped into [-0.5, +0.5) (R272). -/
def State.phaseError (s : State) : Option Int :=
  s.phase.map fun f => signed 16 (roundRat (f * 65536)).toNat

/-- The correction limit in 1/16 rpm (R272). -/
def State.corrLimit (s : State) : Int := 16 * s.targetRpm * fld s.spn.tlCfg 29 24 / 10000

/-- Slot 21 and the lock state at an index (R272, R273); a computation that is not finished in time is a slot fault (R247, R266). -/
def State.tlIndex (s : State) (late : Bool) : State :=
  let changed := s.spn.tlCfg ≠ s.rv .spnTlCfg
  let mode := fld (s.rv .spnTlCfg) 31 30
  let s := s.modSpn fun x => { x with tlCfg := s.rv .spnTlCfg, tlOfs := s.rv .spnTlOfs }
  let s := if changed then
      if mode = 0 then s.tlEnter .off
      else if s.spn.state = .atSpeed then s.tlEnter .acquire else s.tlEnter .wait
    else s
  let s := s.modSlot 21 fun x => { x with run := false }
  match s.spn.tlState with
  | .off => s
  | .wait => if s.spn.state = .atSpeed then s.tlEnter .acquire else s
  | st =>
    match s.phaseError with
    | none => s
    | some e => if late then s.spnSlotFault 21 6 else
      let err := e * 2 ^ 30
      let s := s.swapBank 21
      let sat := s.slotSaturates 21 err
      let (s, out) := s.runSlot 21 err
      let s := s.modSpn fun x => { x with phErr := e, corr := max (-s.corrLimit) (min s.corrLimit out) }
      let s := s.spnMonitor 21 sat err
      let th := fld s.spn.tlCfg 11 0
      match st with
      | .acquire =>
        if th < e.natAbs then s.modSpn fun x => { x with phRun := 0 }
        else if s.spn.phRun + 1 < 32 then s.modSpn fun x => { x with phRun := x.phRun + 1 }
        else s.tlEnter .locked
      | .locked =>
        if e.natAbs ≤ 2 * th then s.modSpn fun x => { x with lossRun := 0 }
        else if s.spn.lossRun + 1 < 4 then s.modSpn fun x => { x with lossRun := x.lossRun + 1 }
        else ((s.modSpn fun x => { x with lockLoss := true }).spnReport 8 0).tlEnter .acquire
      | _ => s

/-- The index is observed at the first valid servo record (R268): ANCHORED while LOCKED sends the lock to ACQUIRE. -/
def State.anchor (s : State) : State :=
  let turning := s.spn.state = .ramp ∨ s.spn.state = .atSpeed ∨ s.spn.state = .coast
  if s.spn.anchored || !decide turning then s
  else
    let s := s.modSpn fun x => { x with anchored := true }
    if s.spn.tlState = .locked then s.tlEnter .acquire else s

/-- AT_SPEED and SPEED_ERR at an index (R255, R256). -/
def State.speedIndex (s : State) : State :=
  let t := 16 * s.spn.target
  let diff := ((s.spn.speed : Int) - t).natAbs
  if s.spn.state = .ramp then
    if s.setPointNow = t ∧ 1000 * diff ≤ t then
      if 8 ≤ s.spn.goodRevs + 1 then
        let s := (s.spnEnter .atSpeed).modSpn fun x => { x with goodRevs := 0, badRevs := 0, enabledAt := 0 }
        if s.spn.tlState = .wait then s.tlEnter .acquire else s
      else s.modSpn fun x => { x with goodRevs := x.goodRevs + 1 }
    else s.modSpn fun x => { x with goodRevs := 0 }
  else if s.spn.state = .atSpeed then
    if 100 * diff ≤ t then s.modSpn fun x => { x with badRevs := 0 }
    else if 16 ≤ s.spn.badRevs + 1 then (s.spnReport 5 1).spnRamp
    else s.modSpn fun x => { x with badRevs := x.badRevs + 1 }
  else s

/-- The spindle index (R267): the sequencers' IDX, the phase loop, the speed states and D_max (R533). -/
def State.spindleIndex (s : State) (late : Bool) : State :=
  let turning := s.spn.state = .ramp ∨ s.spn.state = .atSpeed ∨ s.spn.state = .coast
  if !decide turning then s
  else
    let s := (List.range 18).foldl (fun s q => s.modSeq q fun x => { x with idx := true }) s
    let s := s.speedIndex
    let s := s.tlIndex late
    (s.recomputeDmax).takeTarget

/-- No accepted SYNC edge for 4 × SYNC_DIV revolutions (R273). -/
def State.tlHoldover (s : State) : State :=
  if fld s.spn.tlCfg 31 30 = 2 ∧ (s.spn.tlState = .acquire ∨ s.spn.tlState = .locked) then
    let s := match s.spn.syncEdge with
      | some t => s.advanceTo (t + 4 * fld s.spn.tlCfg 23 16 * 60000000000 / max 1 s.targetRpm)
      | none => s
    (s.spnReport 7 0).tlEnter .holdover
  else s

/-- A rising edge on SYNC as the transit lock reference (R270). -/
def State.tlEdge (s : State) : State :=
  if fld (s.rv .spnTlCfg) 31 30 ≠ 2 then s
  else
    let span := fld (s.rv .spnTlCfg) 23 16 * 60000000000 / max 1 s.targetRpm
    let ok := match s.spn.syncEdge with
      | none => true
      | some t => decide (1000 * ((s.now : Int) - t - span).natAbs ≤ span)
    if ok then
      let s := s.modSpn fun x => { x with syncEdge := some s.now }
      if s.spn.tlState = .holdover then s.tlEnter .acquire else s
    else s.modSpn fun x => { x with syncBad := satInc x.syncBad 255 }

/-- A MODE write (R273, R274): lock begins anew, and SYNC_BAD is cleared. (DEDUCED, unsafe: log entry 52.) -/
def State.tlModeWrite (s : State) : State :=
  let s := s.modSpn fun x => { x with syncBad := 0, syncEdge := none }
  s.tlWait

/-! ## Umbra (R277, R278) -/

/-- COAST at umbra from any state. -/
def State.spnCoast (s : State) : State :=
  (((s.spnEnter .coast).modSpn fun x => { x with command := 0, retryDue := none }).tlWait)

/-- The spindle after umbra (R278); one that is no longer enabled stays off. (DEDUCED, unsafe: log entry 181.) -/
def State.spnResume (s : State) : State :=
  if s.spn.state ≠ .coast then s
  else if !bit (s.rv .spnCtl) 31 then s.spnEnter .stopped
  else if 16 * s.spnPers.olRpm ≤ s.spn.speed then s.spnRamp
  else (s.spnEnter .listen).modSpn fun x => { x with enabledAt := s.now + 1, attempts := 0 }

end Sys2Proof.Machine
end

