-- ==== Sys2Proof/Machine/Memory.lean ====
section
/-! DEFINITION. HBM, SRAM and the system cache as memory (chapter 13), and the DMA address map (Table 14.1). SRAM bytes are
keyed by their DMA address less 0x100_0000_0000. -/

namespace Sys2Proof.Machine

/-! ## Units (R450-R453, R481) -/

/-- The first unit above the read cache (Table 13.1). -/
def readCacheTop : Nat := 98172

/-- The stacks of a mask, in increasing order. -/
def stacksOf (m : Nat) : List Nat := below 4 fun k => m.testBit k

/-- The first unit of the extent map region; the two journal mirrors take its first 512 units (Table 13.1).
(DESIGN CHOICE, unsafe: log entry 148.) -/
def mapBase : Nat := 10496

/-- The pages of 64 KiB of the extent map, in the region after the mirrors. -/
def State.mapPages (s : State) : Nat := max 1 (16 * (s.hbm.mapUnits - 512))

/-- The page of the extent map that a block's entry stands in. -/
def State.pageOf (s : State) (key : Nat) : Nat := Config.mapPage key % s.mapPages

/-- The unit a page of the extent map lies in. -/
def pageUnit (page : Nat) : Nat := mapBase + 512 + page / 16

/-- The stack Table 13.1 pins a unit to, with the stack that holds its partner; none for a striped unit. -/
def pinnedTo (u : Nat) : Option (Nat × Nat) :=
  if u < 128 then some (0, 2)
  else if u < 256 then some (2, 0)
  else if u < 768 then some (1, 3)
  else if u < 1280 then some (3, 1)
  else if within u mapBase (mapBase + 255) then some (0, 1)
  else if within u (mapBase + 256) (mapBase + 511) then some (1, 0)
  else none

/-- The lowest-numbered stack of a list that is not a given one. -/
def otherStack (l : List Nat) (not_ : Nat) : Option Nat := (l.filter (· != not_)).head?

/-- The home of a unit among some stacks in use (R451, R452). (DESIGN CHOICE, unsafe: log entry 153.) -/
def homeStack (use_ : List Nat) (u : Nat) : Option Nat :=
  let n := max 1 use_.length
  match pinnedTo u with
  | some (a, b) => if use_.contains a then some a else otherStack use_ b
  | none =>
    if within u 1280 5375 then
      let k := (u - 1280) / 1024
      if use_.contains k then some k else use_[u % n]?
    else if 98300 ≤ u then
      if use_.contains (u - 98300) then some (u - 98300) else none
    else if n = 3 ∧ within u (readCacheTop - 24575) (readCacheTop - 1) then none
    else use_[u % n]?

/-- The stack a unit is mapped to now, or none (R450). -/
def State.unitStack (s : State) (u : Nat) : Option Nat :=
  match aget s.hbm.unitMap u with
  | some v => v
  | none =>
    if 98304 ≤ u then none
    else match homeStack (stacksOf s.hbm.cold) u with
      | none => none
      | some k =>
        if s.hbm.inUse.testBit k then
          (if decide ((stacksOf s.hbm.inUse).length < (stacksOf s.hbm.cold).length) &&
              within u (readCacheTop - 24576) (readCacheTop - 1) then none else some k)
        else if 98300 ≤ u then (stacksOf s.hbm.inUse).head?
        else homeStack (stacksOf s.hbm.inUse) u

/-- Whether a unit's region is striped and holds nothing in two copies: what it held is lost with its stack (R25, R481). -/
def State.loneUnit (s : State) (u : Nat) : Bool := within u 5376 10495 || within u (mapBase + s.hbm.mapUnits) 98303

/-- What a byte of HBM that nothing has written holds: the fill's 0 (R468), or what a failed stack left (R481).
(DESIGN CHOICE, unsafe: log entry 15.) -/
def State.hbmFillByte (s : State) (a : Nat) : Byte :=
  let u := a / 2 ^ 20
  if s.loneUnit u then
    match homeStack (stacksOf s.hbm.cold) u with
    | none => 0
    | some k => match aget s.hbm.lostStacks k with
      | none => 0
      | some t => Config.lostByte t a
  else 0

/-! ## The check symbols of the diagnostic units (R454-R457, R472) -/

/-- The eight bits of a value spread over symbol j: those that data pin j carries over the burst of eight beats of 32 pins.
(DEDUCED, unsafe: log entry 114.) -/
def spreadSymbol (j v : Nat) : BitVec 256 :=
  (List.range 8).foldl (fun m t => if v.testBit t then m ||| (1#256 <<< (32 * t + j)) else m) 0

/-- A data symbol whose correction makes a half agree with its check bytes, with the data corrected (R454). -/
def symbolFix (h : DiagHalf) : Option (BitVec 256) :=
  (List.range 32).findSome? fun j => ((List.range 255).find? fun v =>
    Config.hbmCheck (h.data ^^^ spreadSymbol j (v + 1)) == h.check).map fun v => h.data ^^^ spreadSymbol j (v + 1)

/-- The check bytes of a half are its data's, or differ from them in one symbol. -/
def checkNear (h : DiagHalf) : Bool :=
  (List.range 4).any fun i => (Config.hbmCheck h.data ^^^ h.check) &&& ~~~(0xFF#32 <<< (8 * i)) == 0

/-- How a stored half decodes (R454): 0 clean, 1 corrected (an error within one symbol), 2 uncorrectable. -/
def halfOutcome (h : DiagHalf) : Nat :=
  if Config.hbmCheck h.data = h.check then 0
  else if checkNear h || (symbolFix h).isSome then 1
  else 2

/-- The data that a read of a half delivers (R455, R456). -/
def halfData (h : DiagHalf) : BitVec 256 :=
  if Config.hbmCheck h.data = h.check ∨ checkNear h then h.data else (symbolFix h).getD h.data

/-- The half that an address lies in, where it lies in a diagnostic unit (Table 13.1): stack, granule, half. -/
def diagKeyAt (a : Nat) : Option Nat := if 0x17FFC00000 ≤ a ∧ a < 0x1800000000 then some ((a - 0x17FFC00000) / 32) else none

/-- A half of a diagnostic unit; one that nothing has written holds the fill with valid check bits (R468). -/
def State.diagHalf (s : State) (key : Nat) : DiagHalf :=
  let d : BitVec 256 := BitVec.ofNat 256 (leNat ((List.range 32).map fun i => s.hbmFillByte (0x17FFC00000 + 32 * key + i)))
  agetD s.hbm.diag key { data := d, check := Config.hbmCheck d }

/-- How a granule reads: 0 clean, 1 corrected, 2 uncorrectable, by what is known of it or planted in a diagnostic unit. -/
def State.granOutcome (s : State) (g : Nat) : Nat :=
  max (if s.hbm.poisoned.contains g then 2 else if s.hbm.correctable.contains g then 1 else 0)
    (match diagKeyAt (64 * g) with
     | some k => max (halfOutcome (s.diagHalf k)) (halfOutcome (s.diagHalf (k + 1)))
     | none => 0)

/-- The diagnostic units after the scrubber has rewritten a granule that it corrected (R461). -/
def State.diagFixed (s : State) (g : Nat) : Assoc DiagHalf :=
  match diagKeyAt (64 * g) with
  | some k => [k, k + 1].foldl (fun m n => if halfOutcome (s.diagHalf n) = 1 then
      aput m n { data := halfData (s.diagHalf n), check := Config.hbmCheck (halfData (s.diagHalf n)) } else m) s.hbm.diag
  | none => s.hbm.diag

/-- A byte of HBM itself. -/
def State.hbmRaw (s : State) (a : Nat) : Byte :=
  match diagKeyAt a with
  | some k => byteOf (halfData (s.diagHalf k)) (a % 32)
  | none => agetD s.hbm.mem a (s.hbmFillByte a)

/-! ## Cache (R474-R479) -/

/-- Number of ways in effect (Table 13.16). -/
def State.waysOn (s : State) : Nat :=
  if bit (s.rv .cchCtl) 31 then fld (s.rv .cchCtl) 15 0 &&& (0xFFFF - s.cch.waysOff) else 0

/-- The 128 bytes of HBM that a line covers. -/
def State.hbmLine (s : State) (l : Nat) : BitVec 1024 :=
  BitVec.ofNat 1024 (leNat ((List.range 128).map fun i => s.hbmRaw (128 * l + i)))

/-- Writes a byte of HBM itself. In a diagnostic unit the half takes new check bytes; one that was uncorrectable leaves its granule
poisoned (R457). -/
def State.hbmPut (s : State) (a : Nat) (b : Byte) : State :=
  { s with hbm := match diagKeyAt a with
      | some k =>
        let d := withByte (halfData (s.diagHalf k)) (a % 32) b
        { s.hbm with diag := aput s.hbm.diag k { data := d, check := Config.hbmCheck d },
                     poisoned := if halfOutcome (s.diagHalf k) = 2 then a / 64 :: s.hbm.poisoned else s.hbm.poisoned }
      | none => { s.hbm with mem := acanon s.hbm.mem a (s.hbmFillByte a) b } }

/-- A line's bytes go to HBM. -/
def State.writeBack (s : State) (l : Nat) (v : BitVec 1024) : State :=
  (List.range 128).foldl (fun s i => s.hbmPut (128 * l + i) (v.extractLsb' (8 * i) 8)) s

/-- Cleans the cache: every dirty line is written back and every line invalidated (R479, Table 13.4 step 2). -/
def State.cacheFlush (s : State) : State :=
  let s := s.cch.lines.foldl (fun s e => if e.2.dirty then s.writeBack e.1 e.2.bytes else s) s
  let s := s.cch.victims.foldl (fun s e => s.writeBack e.1 e.2) s
  { s with cch := { s.cch with lines := [], side := [], victims := [] } }

/-- Lines of some ways are written back and invalidated (R478, R479). -/
def State.flushWays (s : State) (ways : Nat) : State :=
  let s := s.cch.lines.foldl (fun s e => if e.2.dirty && ways.testBit e.2.way then s.writeBack e.1 e.2.bytes else s) s
  { s with cch := { s.cch with lines := afilter s.cch.lines fun _ l => !ways.testBit l.way } }

/-- A dirty line leaves the cache for one of the 8 entries of the victim buffer; where all are taken, the first is written back (R477).
(DESIGN CHOICE, safe: log entry 178.) -/
def State.evict (s : State) (l : Nat) (v : BitVec 1024) : State :=
  match s.cch.victims with
  | (k, x) :: rest =>
    if 8 ≤ s.cch.victims.length then
      let s := s.writeBack k x
      { s with cch := { s.cch with victims := aput rest l v } }
    else { s with cch := { s.cch with victims := aput s.cch.victims l v } }
  | [] => { s with cch := { s.cch with victims := [(l, v)] } }

/-- An allocating agent misses a line (R474, R475, R477): a free way of its set takes it, or a victim's way that the manual's
pseudo-LRU leaves open. A line in the victim buffer is served from there and not put back.
(DESIGN CHOICE, safe: log entry 110; DESIGN CHOICE, safe: log entry 112.) -/
def State.cacheFill (s : State) (l : Nat) : State :=
  if (aget s.cch.lines l).isSome ∨ (aget s.cch.victims l).isSome ∨ s.waysOn = 0 then s
  else
    let ways := below 16 fun w => s.waysOn.testBit w
    let inSet := s.cch.lines.filter fun e => e.1 % 8192 == l % 8192
    let free := ways.filter fun w => !(inSet.any fun e => e.2.way == w)
    let v := match aget s.cch.side l with
      | some v => v
      | none => s.hbmLine l
    match free with
    | w :: _ => { s with cch := { s.cch with lines := aput s.cch.lines l { way := w, dirty := false, bytes := v },
                                             side := adel s.cch.side l } }
    | [] =>
      let w := ways.getD (s.freeVal % max 1 ways.length) 0
      let s := s.freeUsed
      let s := (inSet.filter fun e => e.2.way == w).foldl (fun s e => if e.2.dirty then s.evict e.1 e.2.bytes else s) s
      { s with cch := { s.cch with
          lines := aput (afilter s.cch.lines fun k x => !(k % 8192 == l % 8192 && x.way == w)) l { way := w, dirty := false, bytes := v },
          side := adel s.cch.side l } }

/-- A byte of HBM as any agent reads it: from the cache, the victim buffer, the side buffer, or HBM (R474). -/
def State.hbmByte (s : State) (a : Nat) : Byte :=
  let l := a / 128
  match aget s.cch.lines l with
  | some x => x.bytes.extractLsb' (8 * (a % 128)) 8
  | none => match aget s.cch.victims l with
    | some v => v.extractLsb' (8 * (a % 128)) 8
    | none => match aget s.cch.side l with
      | some v => v.extractLsb' (8 * (a % 128)) 8
      | none => s.hbmRaw a

/-- A line with one byte replaced. -/
def lineByte (v : BitVec 1024) (i : Nat) (b : Byte) : BitVec 1024 :=
  (v &&& ~~~(0xFF#1024 <<< (8 * i))) ||| ((b.setWidth 1024) <<< (8 * i))

/-- A byte written by an agent that does not allocate (R474, R477, R479). -/
def State.hbmWrite (s : State) (a : Nat) (b : Byte) : State :=
  let l := a / 128
  match aget s.cch.lines l with
  | some x =>
    let drains := s.cch.draining && s.cch.drainWays.testBit x.way
    let s := { s with cch := { s.cch with lines := aput s.cch.lines l { x with bytes := lineByte x.bytes (a % 128) b, dirty := !drains || x.dirty } } }
    if drains then s.hbmPut a b else s
  | none =>
    let s := { s with cch := { s.cch with side := adel s.cch.side l } }
    match aget s.cch.victims l with
    | some v => { s with cch := { s.cch with victims := aput s.cch.victims l (lineByte v (a % 128) b) } }
    | none => s.hbmPut a b

/-! ## Agents that allocate (R474, R476) -/

/-- The requester number of map and table lookups; the control cores are 0 to 7, the DMA channels 16 to 47. -/
def lookupAgent : Nat := 8

/-- A requester that allocates reads a byte: its run of full-line stores is over, and a miss takes the line. -/
def State.allocRead (s : State) (r a : Nat) : State :=
  ({ s with cch := { s.cch with stores := adel s.cch.stores r } }).cacheFill (a / 128)

/-- The line after a requester's last full-line write and its full-line write misses in a row (R476). -/
def State.storeRun (s : State) (r : Nat) : Nat × Nat := agetD s.cch.stores r (0, 0)

/-- A requester has made STREAM_LINES full-line write misses in a row. -/
def State.streaming (s : State) (r : Nat) : Bool := decide (fld (s.rv .cchCtl) 23 16 ≤ (s.storeRun r).2)

/-- A write of a requester to a line is counted (R476): a full line that follows its last one goes on with the run, where it misses or the
run has already stopped allocation; any other write begins again. -/
def State.noteStore (s : State) (r l : Nat) (full : Bool) : State :=
  let (next, n) := s.storeRun r
  let miss := (aget s.cch.lines l).isNone
  let n' := if !full then 0
    else if l = next ∧ s.streaming r then n
    else if !miss then 0
    else if l = next then n + 1 else 1
  { s with cch := { s.cch with stores := acanon s.cch.stores r (0, 0) (if n' = 0 then (0, 0) else (l + 1, n')) } }

/-- A requester that allocates writes bytes within one line (R474, R476, R477): a miss takes the line, but not that of a full line while its
stores stream. -/
def State.allocWrite (s : State) (r a : Nat) (bytes : List Byte) : State :=
  let l := a / 128
  let full := bytes.length = 128
  let around := decide full && (s.streaming r && decide ((s.storeRun r).1 = l))
  let s := s.noteStore r l (decide full)
  let s := if around then s else s.cacheFill l
  bytes.zipIdx.foldl (fun s e => s.hbmWrite (a + e.2) e.1) s

/-! ## The DMA address map (R483, Table 14.1) -/

/-- Base of SRAM in the DMA address map. -/
def sramBase : Nat := 0x10000000000

/-- Kinds of bus error (Table 14.7) an address gives for itself: 1 outside the map or unmapped, 4 the cache partition. -/
def State.addrFault (s : State) (a : Nat) : Option Nat :=
  if a < 0x1800000000 then (if (s.unitStack (a / 2 ^ 20)).isSome then none else some 1)
  else if a < sramBase then some 1
  else if a < sramBase + 0x1000000 then some 4
  else if a < sramBase + 0x4000000 then none
  else some 1

/-- Whether the granule or byte at an address is poisoned (R456, R459). -/
def State.poisonAt (s : State) (a : Nat) : Bool :=
  (if a < sramBase then s.granOutcome (a / 64) else s.sramOutcome (a - sramBase)) == 2

/-- The kind of bus error a read of one byte meets, if any. -/
def State.readFault (s : State) (a : Nat) : Option Nat :=
  match s.addrFault a with
  | some k => some k
  | none => if s.poisonAt a then some 2 else none

/-- A byte at a DMA address. -/
def State.dmaByte (s : State) (a : Nat) : Byte := if a < sramBase then s.hbmByte a else s.sramByte (a - sramBase)

/-- Writes a byte at a DMA address. (DESIGN CHOICE, unsafe: log entry 16.) -/
def State.dmaPut (s : State) (a : Nat) (b : Byte) : State := if a < sramBase then s.hbmWrite a b else s.sramPut (a - sramBase) b

/-- Writes bytes from an address on, modulo 2^48. -/
def State.dmaPutAll (s : State) (a : Nat) : List Byte → State
  | [] => s
  | b :: bs => (s.dmaPut (a % 2 ^ 48) b).dmaPutAll (a + 1) bs

/-- Granules all of whose 64 bytes a write replaces are no longer poisoned (R456, R496); one that a write merges with is written back with
new check bytes (R457). -/
def State.healGranules (s : State) (a len : Nat) : State :=
  { s with hbm := { s.hbm with
      poisoned := s.hbm.poisoned.filter fun g => !(decide (a ≤ 64 * g) && decide (64 * g + 64 ≤ a + len)),
      correctable := s.hbm.correctable.filter fun g => !(decide (a < 64 * g + 64) && decide (64 * g < a + len)) } }

/-- Bytes from an address on, modulo 2^48. -/
def State.dmaBytes (s : State) (a len : Nat) : List Byte := (List.range len).map fun i => s.dmaByte ((a + i) % 2 ^ 48)

/-- The first byte of a range that a read, or a write, faults on: its offset and the kind. -/
def State.firstFault (s : State) (a len : Nat) (rd : Bool) : Option (Nat × Nat) :=
  (List.range len).findSome? fun i =>
    (if rd then s.readFault ((a + i) % 2 ^ 48) else s.addrFault ((a + i) % 2 ^ 48)).map fun k => (i, k)

end Sys2Proof.Machine
end

