-- ==== Sys2Proof/Machine/Dma.lean ====
section
/-! DEFINITION. The DMA engine (chapter 14): programs, moves, loops, waits and signals, events, halts and the watchdog. -/

namespace Sys2Proof.Machine

/-- A channel at reset. -/
def idleCh : DmaCh :=
  { state := .idle, cause := 0, overrun := false, pc := 0, badCnt := 0, lastKind := 0, eaddr := 0, cursors := [],
    loops := [], counts := [], watch := [], waitOn := none, waitEnd := false, progress := 0 }

/-- The channel with a number. -/
def State.ch (s : State) (c : Nat) : DmaCh := agetD s.dma.chans c idleCh

/-- Changes a channel. -/
def State.modCh (s : State) (c : Nat) (f : DmaCh → DmaCh) : State :=
  { s with dma := { s.dma with chans := acanon s.dma.chans c idleCh (f (s.ch c)) } }

/-- DMA_CH_STAT_c.STATE (Table 14.12). -/
def dmaCode : DmaState → Nat
  | .idle => 0 | .armed => 1 | .running => 2 | .waiting => 3 | .stopped => 4 | .error => 5 | .timeout => 6

/-- ARMED, RUNNING or WAITING. -/
def dmaActive (st : DmaState) : Bool := st == .armed || st == .running || st == .waiting

/-- The event source of a channel's trigger (Table 14.10): kind·256 + index. -/
def State.trigger (s : State) (c : Nat) : Option Nat :=
  let v := s.rv (.dmaChCfg c)
  if fld v 27 26 = 0 then none else some (256 * (fld v 27 26 - 1) + fld v 23 16)

/-! ## Instructions (Tables 14.2-14.6) -/

/-- The bytes of the instruction a channel is at. -/
def State.dmaInstr (s : State) (c : Nat) : List Byte :=
  s.dmaBytes (s.rv64 (.dmaChProgLo c) (.dmaChProgHi c) + 32 * (s.ch c).pc) 32

/-- OP. -/
def diOp (b : List Byte) : Nat := leAt b 0 1 % 16
/-- END. -/
def diEnd (b : List Byte) : Bool := (leAt b 1 1).testBit 0
/-- BAD. -/
def diBad (b : List Byte) : Bool := (leAt b 1 1).testBit 1
/-- MODE of a MOVE, KIND of a WAIT or SIGNAL. -/
def diMode (b : List Byte) : Nat := leAt b 2 1
/-- Bytes 4-5. -/
def diCount (b : List Byte) : Nat := leAt b 4 2
/-- Bytes 6-7. -/
def diTarget (b : List Byte) : Nat := leAt b 6 2

/-- Bytes of a range are all 0. -/
def zeroBytes (b : List Byte) (ofs len : Nat) : Bool := leAt b ofs len == 0

/-- Whether the INDEX of a WAIT lies in its range (Table 14.6). -/
def waitIndexOk (kind idx : Nat) : Bool :=
  if kind = 0 then decide (idx < 8) else if kind = 1 then decide (idx < 32) else if kind = 2 then decide (idx < 144)
  else decide (idx < 16)

/-- A reserved OP or encoding, or a nonzero reserved byte (R486). -/
def diReserved (b : List Byte) : Bool :=
  decide (16 ≤ leAt b 0 1) || decide (4 ≤ leAt b 1 1) ||
  (diBad b && !(diOp b == 1 && diMode b == 1)) ||
  (match diOp b with
   | 1 =>
     if diMode b = 0 then !zeroBytes b 3 1 || !within (diCount b) 1 4096 || !zeroBytes b 6 2 || leAt b 8 8 % 16 != 0
     else diMode b != 1 || !zeroBytes b 3 1 || diCount b == 0 || diTarget b == 0 || !zeroBytes b 14 2 || !zeroBytes b 30 2
   | 2 => !zeroBytes b 2 2 || !zeroBytes b 8 24
   | 3 => decide (3 < diMode b) || !waitIndexOk (diMode b) (diCount b) || !zeroBytes b 8 24 ||
       (if diMode b = 3 then decide (15 < leAt b 3 1) || decide (255 < diTarget b) else !zeroBytes b 3 1 || !zeroBytes b 6 2)
   | 4 => decide (1 < diMode b) || !zeroBytes b 3 5 ||
       (if diMode b = 0 then !zeroBytes b 8 24 else leAt b 8 8 % 4 != 0 || !zeroBytes b 20 12)
   | _ => true)

/-- Whether the instruction a channel is at halts it with cause PROG (R486). -/
def State.dmaBadProg (s : State) (c : Nat) (b : List Byte) : Bool :=
  let x := s.ch c
  decide (1023 < x.pc) || diReserved b ||
  (diOp b == 2 && (decide (x.pc < diTarget b) || ((aget x.loops x.pc).isNone && decide (8 ≤ x.loops.length)))) ||
  (diOp b == 3 && decide (diMode b < 3) &&
    !x.watch.contains (256 * diMode b + diCount b) && decide (8 ≤ x.watch.length))

/-! ## Halts and run ends -/

/-- A channel halts in ERROR (R486, R501): 1 PROG, 2 FETCH, 3 MARK. -/
def State.dmaHalt (s : State) (c cause : Nat) : State :=
  let s := s.modCh c fun x => { x with state := .error, cause := cause, waitOn := none }
  s.report (256 + c) (16 + cause) ((s.rv64 (.dmaChProgLo c) (.dmaChProgHi c) + 32 * (s.ch c).pc) % 2 ^ 40) 2

/-- An event occurs (R491, R493, R495): it is counted at the DMA_EVENT that follows. -/
def State.dmaPost (s : State) (code : Nat) : State := { s with dma := { s.dma with events := s.dma.events ++ [code] } }

/-- An instruction has completed: the run ends where it has END (R484, R493, R494), else the channel goes on at `pc`. -/
def State.dmaDone (s : State) (c pc : Nat) (end_ : Bool) : State :=
  let s := s.modCh c fun x => { x with progress := s.now, waitOn := none }
  if !end_ then s.modCh c fun x => { x with pc := pc, state := .running }
  else
    let s := s.dmaPost (256 + c)
    match s.trigger c with
    | none => s.modCh c fun x => { x with state := .idle }
    | some t =>
      let n := agetD (s.ch c).counts t 0
      if n = 0 then s.modCh c fun x => { x with state := .armed }
      else s.modCh c fun x => { x with state := .running, pc := 0, counts := acanon x.counts t 0 (n - 1) }

/-- What a row of the DMA engine does at its channel: nothing unless the channel runs; a fetch that fails, or a bad
instruction, halts the channel (R486, R501); else the row acts where the instruction is one of its kind. -/
def State.dmaAt (s : State) (c : Nat) (isKind : List Byte → Bool) (act : List Byte → State) : State :=
  if c < 32 ∧ (s.ch c).state = .running then
    let base := s.rv64 (.dmaChProgLo c) (.dmaChProgHi c) + 32 * (s.ch c).pc
    if 1023 < (s.ch c).pc then s.dmaHalt c 1
    else if (s.firstFault base 32 true).isSome then s.dmaHalt c 2
    else
      let b := s.dmaInstr c
      if s.dmaBadProg c b then s.dmaHalt c 1
      else if isKind b then act b else s
  else s

/-! ## Moves (R487, R488, R496-R500) -/

/-- A bus error is recorded and reported (R499). -/
def State.busError (s : State) (c kind a : Nat) : State :=
  (s.modCh c fun x => { x with badCnt := satInc x.badCnt 0xFFFF, lastKind := kind, eaddr := a }).report
    (256 + c) kind (a % 2 ^ 40) 1

/-- The first byte at which a transfer faults: offset, kind, address. `fab` is the offset of a block that the fabric failed to
deliver (R473). -/
def State.moveFault (s : State) (src dst len : Nat) (fab : Option Nat) : Option (Nat × Nat × Nat) :=
  let r := (s.firstFault src len true).map fun e => (e.1, e.2, (src + e.1) % 2 ^ 48)
  let w := (s.firstFault dst len false).map fun e => (e.1, e.2, (dst + e.1) % 2 ^ 48)
  let f := match fab with
    | some o => if o < len then some (o, 3, (src + o) % 2 ^ 48) else none
    | none => none
  [r, w, f].foldl (fun a b => match a, b with
    | some x, some y => if y.1 < x.1 then some y else some x
    | some x, none => some x
    | none, y => y) none

/-- The destination receives bytes: granules written whole lose their poison; a write to a slot leaves it holding a source
sector. (DESIGN CHOICE, safe: log entry 111.) -/
def State.landBytes (s : State) (dst : Nat) (bs : List Byte) : State :=
  let s := (s.dmaPutAll dst bs).healGranules dst bs.length
  if within dst (sramBase + 0x1000000) (sramBase + 0x2FFFFFF) then
    let o := dst - sramBase - 0x1000000
    s.setSlot (o / 0x200000) (o / 0x2000 % 256) .source
  else s

/-- Frees the sector-buffer slot that holds an address (R487). -/
def State.freeSlotAt (s : State) (a : Nat) : State :=
  if within a (sramBase + 0x1000000) (sramBase + 0x2FFFFFF) then
    let o := a - sramBase - 0x1000000
    s.setSlot (o / 0x200000) (o / 0x2000 % 256) .free
  else s

/-- Sets the BAD bit in memory; where that write fails the channel halts with MARK (R501). -/
def State.markBad (s : State) (c a : Nat) (bitNo : Nat) : State :=
  if (s.addrFault (a % 2 ^ 48)).isSome then s.dmaHalt c 3
  else s.dmaPut (a % 2 ^ 48) (s.dmaByte (a % 2 ^ 48) ||| BitVec.ofNat 8 (2 ^ bitNo))

/-! ## Grants of the fabric (R502, R503) -/

/-- A channel is ready for the fabric: it runs and stands at a MOVE that can be fetched. -/
def State.moveReady (s : State) (c : Nat) : Bool :=
  (s.ch c).state == .running &&
  (s.firstFault (s.rv64 (.dmaChProgLo c) (.dmaChProgHi c) + 32 * (s.ch c).pc) 32 true).isNone && diOp (s.dmaInstr c) == 1

/-- The channel of a list in increasing order that follows the one granted last, round and round. -/
def nextRound (l : List Nat) (last : Nat) : Nat := (l.find? fun c => decide (last < c)).getD (l.headD 0)

/-- A block of up to 256 bytes is granted to one of the ready channels, `norm` of normal and `high` of high priority: to a high one, unless
fewer than NORM_MIN of the last 15 blocks went to normal ones (R503). Answers the channel. (DESIGN CHOICE, safe: log entry 143.) -/
def grantBlock (normMin : Nat) (norm high : List Nat) (a : Arb) : Arb × Nat :=
  let owed := decide ((a.window.take 15).count true < normMin)
  if !norm.isEmpty && (high.isEmpty || owed) then
    let c := nextRound norm a.norm
    ({ a with norm := c, window := true :: a.window.take 14 }, c)
  else
    let c := nextRound high a.high
    ({ a with high := c, window := false :: a.window.take 14 }, c)

/-- Blocks are granted until one more has gone to channel c; the others keep those they receive for their own MOVE. -/
def grantUntil (normMin : Nat) (norm high : List Nat) (c : Nat) : Nat → Arb → Arb
  | 0, a => a
  | n + 1, a =>
    let (a, d) := grantBlock normMin norm high a
    if d = c then a else grantUntil normMin norm high c n { a with ahead := aput a.ahead d (agetD a.ahead d 0 + 1) }

/-- Channel c moves bytes in blocks of up to 256, each of them granted: of every 16 blocks a class receives one at least and goes round at
most 32 channels. -/
def State.grants (s : State) (c len : Nat) : State :=
  let all := below 32 fun d => d == c || s.moveReady d
  let isHigh (d : Nat) : Bool := bit (s.rv (.dmaChCfg d)) 31
  let norm := all.filter fun d => !isHigh d
  let high := all.filter isHigh
  let n := ceilDiv len 256
  let have_ := min n (agetD s.dma.arb.ahead c 0)
  let a := { s.dma.arb with ahead := acanon s.dma.arb.ahead c 0 (agetD s.dma.arb.ahead c 0 - have_) }
  let a := (List.range (n - have_)).foldl (fun a _ => grantUntil (fld (s.rv .dmaArb) 3 0) norm high c 512 a) a
  { s with dma := { s.dma with arb := a } }

/-- The MOVE of a channel has completed: blocks that were granted to it beyond its bytes are given up. -/
def State.grantsEnd (s : State) (c : Nat) : State := { s with dma := { s.dma with arb := { s.dma.arb with ahead := adel s.dma.arb.ahead c } } }

/-- A fabric block that failed its fourth attempt is counted with its three resends (R473, Table 13.13). -/
def State.fabricFault (s : State) (kind : Nat) : State :=
  if kind = 3 then { s with srm := { s.srm with fabResends := min 0xFFFF (s.srm.fabResends + 3), fabFails := satInc s.srm.fabFails 0xFFFF } } else s

/-- The run of full-line stores of a channel, as requester 16 + c (R476): a read of HBM ends it, and each line written is counted.
(DESIGN CHOICE, safe: log entry 180.) -/
def State.noteMove (s : State) (c src dst len : Nat) : State :=
  let s := if src < sramBase then { s with cch := { s.cch with stores := adel s.cch.stores (16 + c) } } else s
  if sramBase ≤ dst ∨ len = 0 then s
  else (List.range ((dst + len - 1) / 128 + 1 - dst / 128)).foldl (fun s i =>
    let a := 128 * (dst / 128 + i)
    s.noteStore (16 + c) (a / 128) (decide (dst ≤ a) && decide (a + 128 ≤ dst + len))) s

/-- One transfer (R497, R499): all its bytes, or on a bus error a prefix whose length the manual leaves open. Answers the fault
met. -/
def State.transfer (s : State) (src dst len : Nat) (fab : Option Nat) : State × Option (Nat × Nat × Nat) :=
  let bytes := s.dmaBytes src len
  match s.moveFault src dst len fab with
  | none => (s.landBytes dst bytes, none)
  | some f => (((s.landBytes dst (bytes.take (s.freeVal % (f.1 + 1)))).freeUsed).fabricFault f.2.1, some f)

/-- Moves the descriptors from number k on, `n` of them (R487, R499, R500). -/
def State.moveDescs (s : State) (c : Nat) (b : List Byte) (idx k : Nat) (fab : Option (Nat × Nat)) : Nat → State
  | 0 => s
  | n + 1 =>
    if (s.ch c).state ≠ .running then s
    else
      let at_ := leAt b 8 8 + 16 * k
      if (s.firstFault at_ 16 true).isSome then s.dmaHalt c 2
      else
        let d := s.dmaBytes at_ 16
        let src := (leAt b 16 8 + leAt d 0 6) % 2 ^ 48
        let dst := (leAt b 24 8 + leAt d 6 6) % 2 ^ 48
        let len := leAt d 12 3
        let free := (leAt d 15 1).testBit 1
        let s := s.modCh c fun x => { x with cursors := aput x.cursors idx (k + 1) }
        if (leAt d 15 1).testBit 0 then
          (s.modCh c fun x => { x with badCnt := satInc x.badCnt 0xFFFF }).moveDescs c b idx (k + 1) (fab.map fun f => (f.1 - 1, f.2)) n
        else if len = 0 ∨ 4 ≤ leAt d 15 1 then s.dmaHalt c 1
        else
          let fo := match fab with | some (0, o) => some o | _ => none
          let fab' := match fab with | some (j + 1, o) => some (j, o) | _ => none
          let (s, f) := ((s.grants c len).noteMove c src dst len).transfer src dst len fo
          let s := if free then s.freeSlotAt src else s
          match f with
          | none => s.moveDescs c b idx (k + 1) fab' n
          | some (_, kind, a) => ((s.busError c kind a).markBad c (at_ + 15) 0).moveDescs c b idx (k + 1) fab' n

/-- An index-mode MOVE (R487). `fab` names a descriptor of this execution and the offset of a fabric block that failed. -/
def State.dmaMoveIndex (s : State) (c : Nat) (fab : Option (Nat × Nat)) : State :=
  s.dmaAt c (fun b => diOp b == 1 && diMode b == 0) fun b =>
    let pc := (s.ch c).pc
    let s := (s.moveDescs c b pc (agetD (s.ch c).cursors pc 0) fab (diCount b)).grantsEnd c
    if (s.ch c).state = .running then s.dmaDone c (pc + 1) (diEnd b) else s

/-- The addresses of the lines of a two-dimensional MOVE from line i on. -/
def lineAddr (base : Nat) (stride : Int) (i : Nat) : Nat := wrapBits 48 ((base : Int) + stride * i)

/-- The transfers of lines, from data read before the execution began (R497): stops at the first fault. -/
def State.moveLines (s : State) (old : State) (c src dst len : Nat) (ss ds : Int) (k : Nat) (fab : Option (Nat × Nat)) :
    Nat → State × Bool
  | 0 => (s, false)
  | n + 1 =>
    let sa := lineAddr src ss k
    let da := lineAddr dst ds k
    let fo := match fab with | some (0, o) => some o | _ => none
    let fab' := match fab with | some (j + 1, o) => some (j, o) | _ => none
    let bytes := old.dmaBytes sa len
    match old.moveFault sa da len fo with
    | none => (((s.grants c len).noteMove c sa da len).landBytes da bytes).moveLines old c src dst len ss ds (k + 1) fab' n
    | some (o, kind, a) =>
      ((((((s.grants c (o + 1)).noteMove c sa da (o + 1)).landBytes da (bytes.take (s.freeVal % (o + 1)))).freeUsed).fabricFault kind).busError c kind a, true)

/-- A two-dimensional MOVE (R488, R489, R500). -/
def State.dmaMove2d (s : State) (c : Nat) (fab : Option (Nat × Nat)) : State :=
  s.dmaAt c (fun b => diOp b == 1 && diMode b == 1) fun b =>
    let pc := (s.ch c).pc
    let k := agetD (s.ch c).cursors pc 0
    let n := diTarget b
    let s1 := s.modCh c fun x => { x with cursors := aput x.cursors pc (k + n) }
    if diBad b then
      ((s1.modCh c fun x => { x with badCnt := satInc x.badCnt 0xFFFF }).grantsEnd c).dmaDone c (pc + 1) (diEnd b)
    else
      let (s2, bad) := s1.moveLines s1 c (leAt b 8 6) (leAt b 24 6) (diCount b) (signed 32 (leAt b 16 4)) (signed 32 (leAt b 20 4)) k fab n
      let s2 := s2.grantsEnd c
      let s3 := if bad then s2.markBad c (s.rv64 (.dmaChProgLo c) (.dmaChProgHi c) + 32 * pc + 1) 1 else s2
      if (s3.ch c).state = .running then s3.dmaDone c (pc + 1) (diEnd b) else s3

/-! ## LOOP, WAIT, SIGNAL (R490-R493) -/

/-- LOOP (R490): `loops` keeps the passes made. -/
def State.dmaLoop (s : State) (c : Nat) : State :=
  s.dmaAt c (fun b => diOp b == 2) fun b =>
    let pc := (s.ch c).pc
    let made := agetD (s.ch c).loops pc 0 + 1
    if diCount b = 0 ∨ made < diCount b then
      (s.modCh c fun x => { x with loops := aput x.loops pc (if diCount b = 0 then 0 else made) }).dmaDone c (diTarget b) (diEnd b)
    else (s.modCh c fun x => { x with loops := aput x.loops pc 0 }).dmaDone c (pc + 1) (diEnd b)

/-- WAIT on a timer, channel or signal (R491). -/
def State.dmaWait (s : State) (c : Nat) : State :=
  s.dmaAt c (fun b => diOp b == 3 && decide (diMode b < 3)) fun b =>
    let code := 256 * diMode b + diCount b
    let pc := (s.ch c).pc
    let n := agetD (s.ch c).counts code 0
    let s := s.modCh c fun x => { x with
      watch := if x.watch.contains code then x.watch else code :: x.watch, overrun := x.overrun || n == 255 }
    if n = 0 then s.modCh c fun x => { x with state := .waiting, waitOn := some code, waitEnd := diEnd b, progress := s.now }
    else (s.modCh c fun x => { x with counts := acanon x.counts code 0 (n - 1) }).dmaDone c (pc + 1) (diEnd b)

/-- Skips `n` instructions after a failed sector (R492): a skipped index MOVE advances its cursor by COUNT, a skipped LOOP does
nothing. -/
def State.dmaSkip (s : State) (c pc : Nat) : Nat → State × Nat
  | 0 => (s, pc)
  | n + 1 =>
    let b := s.dmaBytes (s.rv64 (.dmaChProgLo c) (.dmaChProgHi c) + 32 * pc) 32
    let s := if diOp b = 1 ∧ diMode b = 0 then
        s.modCh c fun x => { x with cursors := aput x.cursors pc (agetD x.cursors pc 0 + diCount b) }
      else s
    s.dmaSkip c (pc + 1) n

/-- WAIT of KIND 3 (R492): proceeds once the slot's decode outcome is known. -/
def State.dmaWaitSlot (s : State) (c : Nat) : State :=
  s.dmaAt c (fun b => diOp b == 3 && diMode b == 3) fun b =>
    let pc := (s.ch c).pc
    let n := agetD (s.ch c).cursors pc 0
    let slot := (diTarget b + n) % 256
    match s.slotState (diCount b) slot with
    | .decoded => (s.modCh c fun x => { x with cursors := aput x.cursors pc (n + 1) }).dmaDone c (pc + 1) (diEnd b)
    | .failed =>
      let s := s.modCh c fun x => { x with cursors := aput x.cursors pc (n + 1) }
      let s := s.setSlot (diCount b) slot .free
      let (s, pc') := s.dmaSkip c (pc + 1) (leAt b 3 1)
      s.dmaDone c pc' (diEnd b)
    | _ => s

/-- SIGNAL of KIND 0: a channel event (R493). -/
def State.dmaSignal (s : State) (c : Nat) : State :=
  s.dmaAt c (fun b => diOp b == 4 && diMode b == 0) fun b =>
    (s.dmaPost (256 + c)).dmaDone c ((s.ch c).pc + 1) (diEnd b)

/-- SIGNAL of KIND 1: a flag write (R493). An address that faults is a bus error. -/
def State.dmaFlagWrite (s : State) (c : Nat) : State :=
  s.dmaAt c (fun b => diOp b == 4 && diMode b == 1) fun b =>
    let a := leAt b 8 8 % 2 ^ 48
    let s := match s.addrFault a with
      | some k => s.busError c k a
      | none => s.dmaPutAll a (leBytes 4 (leAt b 16 4))
    s.dmaDone c ((s.ch c).pc + 1) (diEnd b)

/-! ## Events, timers, control -/

/-- One channel counts an event: a waiting channel takes it, an armed one begins a run (R491, R494). (DEDUCED, unsafe: log entry 113.) -/
def State.countEvent (s : State) (c code : Nat) : State :=
  let x := s.ch c
  if !dmaActive x.state then s
  else if x.waitOn = some code ∧ x.state = .waiting then
    s.dmaDone c (x.pc + 1) x.waitEnd
  else if x.state = .armed ∧ s.trigger c = some code then
    s.modCh c fun x => { x with state := .running, pc := 0, progress := s.now }
  else
    let n := agetD x.counts code 0
    s.modCh c fun x => { x with
      counts := acanon x.counts code 0 (satInc n 255),
      overrun := x.overrun || (decide (255 ≤ n + 1) && (s.trigger c == some code || x.watch.contains code)) }

/-- The oldest event that has occurred is counted by every channel that watches it. -/
def State.dmaEvent (s : State) : State :=
  match s.dma.events with
  | [] => s
  | e :: rest =>
    let s := { s with dma := { s.dma with events := rest } }
    (List.range 32).foldl (fun s c => s.countEvent c e) s

/-- CK_SRV cycles in ns: 2.56 ns each, rounded up (Table 1.2). -/
def srvNs (n : Nat) : Nat := (n * 256 + 99) / 100

/-- Timer TM(n) ends its PERIOD (R495). -/
def State.timerEvent (s : State) (n : Nat) : State :=
  match aget s.dma.timers n with
  | none => s
  | some t =>
    let s := s.advanceTo t
    ({ s with dma := { s.dma with timers := aput s.dma.timers n (t + srvNs (fld (s.rv (.dmaTm n)) 23 0)) } }).dmaPost n

/-- A write to DMA_TM_n: a timer counts from the write that sets EN (R495). -/
def State.timerWrite (s : State) (n : Nat) (v : Word) : State :=
  let was := bit (s.rv (.dmaTm n)) 31
  let s := s.setRv (.dmaTm n) v
  if !bit v 31 then { s with dma := { s.dma with timers := adel s.dma.timers n } }
  else if was then s
  else { s with dma := { s.dma with timers := aput s.dma.timers n (s.now + srvNs (fld v 23 0)) } }

/-- START (R489, R494). -/
def State.dmaStart (s : State) (c : Nat) : State :=
  s.modCh c fun x => { x with
    state := if (s.trigger c).isSome then .armed else .running, pc := 0, cursors := [], loops := [], counts := [],
    watch := [], waitOn := none, progress := s.now }

/-- STOP (R505). -/
def State.dmaStop (s : State) (c : Nat) : State :=
  if dmaActive (s.ch c).state then s.modCh c fun x => { x with state := .stopped, waitOn := none } else s

/-- Whether a write to DMA_CH_CTL_c is refused for the channel's state, or for itself (Table 14.11). -/
def State.dmaCtlRefused (s : State) (c : Nat) (v : Word) : Option Nat :=
  if bit v 31 && bit v 30 then some 1
  else if bit v 31 && dmaActive (s.ch c).state then some 2
  else none

/-- An accepted write to DMA_CH_CTL_c. -/
def State.dmaCtl (s : State) (c : Nat) (v : Word) : State :=
  let s := if bit v 29 then s.modCh c fun x => { x with badCnt := 0 } else s
  if bit v 31 then s.dmaStart c
  else if bit v 30 then s.dmaStop c
  else s

/-- The watchdog of a channel (R504). -/
def State.dmaWatchdog (s : State) (c : Nat) : State :=
  let w := fld (s.rv (.dmaChCfg c)) 15 0
  let x := s.ch c
  if w ≠ 0 ∧ (x.state = .running ∨ x.state = .waiting) then
    let s := s.advanceTo (x.progress + 16000 * w)
    (s.modCh c fun x => { x with state := .timeout, cause := 4, waitOn := none }).report (256 + c) 20
      ((s.rv64 (.dmaChProgLo c) (.dmaChProgHi c) + 32 * x.pc) % 2 ^ 40) 2
  else s

/-- Every channel goes to IDLE, and the channels' registers to their reset values (R506). -/
def State.dmaReset (s : State) : State :=
  let regs := afilter s.regs fun a _ => !within a (blockBase 14 + 0x100) (blockBase 14 + 0x4FF)
  { s with dma := { s.dma with chans := [], events := [], arb := arbReset }, regs := regs }

/-- One channel goes to IDLE as under R506 (Table 17.3 block reset). -/
def State.dmaChReset (s : State) (c : Nat) : State :=
  let lo := blockBase 14 + 0x100 + 0x20 * c
  { s with dma := { s.dma with chans := adel s.dma.chans c },
           regs := afilter s.regs fun a _ => !within a lo (lo + 0x1F) }

end Sys2Proof.Machine
end

