-- ==== Sys2Proof/Machine/Hbm.lean ====
section
/-! DEFINITION. Integrity of HBM and SRAM (chapter 13): scrubbing, repair, diagnostic access, cache drain and the failure of a
stack. -/

namespace Sys2Proof.Machine

/-! ## Counters -/

/-- Counts a corrected read of a stack (Table 13.7). -/
def State.hbmCorr (s : State) (k : Nat) : State :=
  { s with hbm := { s.hbm with corr := acanon s.hbm.corr k 0 (satInc (agetD s.hbm.corr k 0) 0xFFFF) } }

/-- Counts an on-die correction that a stack reports (R454). -/
def State.onDie (s : State) (k : Nat) : State :=
  { s with hbm := { s.hbm with ondie := acanon s.hbm.ondie k 0 (satInc (agetD s.hbm.ondie k 0) 255) } }

/-- Counts and reports an uncorrectable read (R456). -/
def State.hbmUncorr (s : State) (k a : Nat) : State :=
  ({ s with hbm := { s.hbm with uncorr := acanon s.hbm.uncorr k 0 (satInc (agetD s.hbm.uncorr k 0) 255) } }).report
    (224 + k) 1 a 1

/-- Counts a corrected SRAM error (R459). -/
def State.srmCorr (s : State) : State := { s with srm := { s.srm with corr := satInc s.srm.corr 0xFFFF } }

/-- Counts and reports a double-bit SRAM error (R459). -/
def State.srmUncorr (s : State) (a : Nat) : State :=
  ({ s with srm := { s.srm with uncorr := satInc s.srm.uncorr 255 } }).report 228 1 (a % 2 ^ 40) 1

/-! ## Cache ways (R478, R479) -/

/-- Some ways of the cache begin to drain (R479). -/
def State.beginDrain (s : State) (ways : Nat) : State :=
  { s with cch := { s.cch with draining := true, drainWays := s.cch.drainWays ||| ways, side := [] } }

/-- A way is taken off (R478); with fewer than two left the whole cache disables itself. -/
def State.wayOff (s : State) (w : Nat) : State :=
  let s := s.flushWays (2 ^ w)
  let s := { s with cch := { s.cch with waysOff := setBitN s.cch.waysOff w true, wayErrs := adel s.cch.wayErrs w } }
  let s := s.report 230 1 w 2
  if (below 16 fun i => (fld (s.rv .cchCtl) 15 0 &&& (0xFFFF - s.cch.waysOff)).testBit i).length < 2 then
    (s.setRv .cchCtl (s.rv .cchCtl &&& 0x7FFFFFFF#32)).beginDrain 0xFFFF
  else s

/-- A corrected error in a way's lines (R478). -/
def State.wayError (s : State) (w : Nat) : State :=
  let win := 1000000000 * fld (s.rv .cchErrCfg) 7 0
  let l := (agetD s.cch.wayErrs w []).filter (fun t => decide (s.now < t + win)) ++ [s.now]
  let s := { s with cch := { s.cch with wayErrs := aput s.cch.wayErrs w l } }
  if fld (s.rv .cchErrCfg) 31 16 ≤ l.length ∧ !s.cch.waysOff.testBit w then s.wayOff w else s

/-- An accepted write to CCH_CTL (R479). -/
def State.cchWrite (s : State) (v : Word) : State :=
  let old := s.rv .cchCtl
  let s := s.setRv .cchCtl v
  let gone := fld old 15 0 - (fld old 15 0 &&& fld v 15 0)
  if (bit old 31 && !bit v 31) || gone ≠ 0 then s.beginDrain (if bit v 31 then gone else 0xFFFF) else s

/-- The drain ends (R479). -/
def State.drainDone (s : State) : State :=
  if s.cch.draining then
    let s := if s.cch.drainWays = 0xFFFF ∨ !bit (s.rv .cchCtl) 31 then s.cacheFlush else s.flushWays s.cch.drainWays
    { s with cch := { s.cch with draining := false, drainWays := 0 } }
  else s

/-! ## Repair (R465, R466) -/

/-- The highest read-cache unit that is mapped: the frame that a retired unit takes. -/
def State.topCacheUnit (s : State) : Nat → Nat → Option Nat
  | _, 0 => none
  | u, n + 1 => if (s.unitStack u).isSome then some u else s.topCacheUnit (u - 1) n

/-- Whether the device repairs a row, by its granules: one was uncorrectable, or two different ones were corrected in this lap (R465).
(DEDUCED, unsafe: log entry 151.) -/
def State.rowWorn (s : State) (grans : List Nat) : Bool :=
  grans.any s.hbm.poisoned.contains || decide (2 ≤ (grans.eraseDups.filter s.hbm.lapCorr.contains).length)

/-- A row is repaired, or its unit retired where the bank has no spare row left. -/
def State.rowRepair (s : State) (a : Nat) (grans : List Nat) (spare : Bool) : State :=
  let u := a / 2 ^ 20
  match (if s.rowWorn grans then s.unitStack u else none) with
  | none => s
  | some k =>
    let s := { s with hbm := { s.hbm with correctable := s.hbm.correctable.filter fun g => !grans.contains g } }
    if spare then
      ({ s with hbm := { s.hbm with softPpr := satInc s.hbm.softPpr 255 } }).report (224 + k) 2 a 1
    else
      match s.topCacheUnit (readCacheTop - 1) 24576 with
      | none => s
      | some t =>
        let s := { s with hbm := { s.hbm with
          unitMap := aput (aput s.hbm.unitMap u (s.unitStack t)) t none, retired := satInc s.hbm.retired 255 } }
        s.report (224 + k) 3 a 2

/-! ## Diagnostic access (R472) -/

/-- The key of a half: stack, granule, half. -/
def diagKey (v : Word) (half : Nat) : Nat := fld v 25 24 * 32768 + fld v 13 0 * 2 + half

/-- HBM_DIAG.WRITE (R472). -/
def State.hbmDiagWrite (s : State) (v : Word) : State :=
  let key := diagKey v (b2n (bit v 14))
  let val := s.rv .hbmDiagVal
  let rep : BitVec 256 := (List.range 8).foldl (fun m i => m ||| ((val.setWidth 256) <<< (32 * i))) 0
  let old := s.diagHalf key
  let new : DiagHalf := match fld v 29 28 with
    | 0 => { data := rep, check := Config.hbmCheck rep }
    | 1 => { old with data := rep }
    | _ => { old with check := val }
  { s with hbm := { s.hbm with diag := aput s.hbm.diag key new } }

/-- HBM_DIAG.READ (R472): the outcome of the granule, counted and reported as any read (R455, R456). -/
def State.hbmDiagRead (s : State) (v : Word) : State :=
  let k := fld v 25 24
  let a := 0x17FFC00000 + 0x100000 * k + 64 * fld v 13 0
  let r := s.granOutcome (a / 64)
  let s := if r = 1 then s.hbmCorr k else if r = 2 then s.hbmUncorr k a else s
  { s with hbm := { s.hbm with diagResult := r } }

/-- An accepted write to HBM_DIAG. -/
def State.hbmDiag (s : State) (v : Word) : State :=
  let s := s.setRv .hbmDiag v
  if bit v 31 then s.hbmDiagWrite v else if bit v 30 then s.hbmDiagRead v else s

/-- SRM_DIAG.WRITE (R472). -/
def State.srmDiagWrite (s : State) (v : Word) : State :=
  let o := fld v 12 0
  let d : Byte := BitVec.ofNat 8 (fld v 20 13)
  let old := s.diagByte o
  let new : DiagByte := match fld v 29 28 with
    | 0 => { data := d, check := Config.srmCheck d }
    | 1 => { old with data := d }
    | _ => { old with check := BitVec.ofNat 5 (fld v 25 21) }
  { s with srm := { s.srm with diag := aput s.srm.diag o new } }

/-- SRM_DIAG.READ (R472): DATA and CHK take the stored byte and check bits. -/
def State.srmDiagRead (s : State) (v : Word) : State :=
  let d := s.diagByte (fld v 12 0)
  let r := byteOutcome d
  let s := if r = 1 then s.srmCorr else if r = 2 then s.srmUncorr (sramBase + 0x3FFE000 + fld v 12 0) else s
  let s := { s with srm := { s.srm with diagResult := r } }
  s.setRv .srmDiag (word [(fld v 29 28, 28), (d.check.toNat, 21), (d.data.toNat, 13), (fld v 12 0, 0)])

/-- An accepted write to SRM_DIAG. -/
def State.srmDiag (s : State) (v : Word) : State :=
  let s := s.setRv .srmDiag v
  if bit v 31 then s.srmDiagWrite v else if bit v 30 then s.srmDiagRead v else s

/-! ## Failure of a stack (R480-R482) -/

/-- A landing copy or mirrored record that stood on a stack is missing; the survivor is named first (R26). -/
def loseCopy (k a b : Nat) (missing : Bool) : Nat × Nat × Bool :=
  if a = k ∧ !missing then (b, a, true) else if b = k ∧ !missing then (a, b, true) else (a, b, missing)

/-- A landing block without its copy on a stack. -/
def loseCopyOf (k : Nat) (b : LandBlock) : LandBlock :=
  let (x, y, m) := loseCopy k b.stackA b.stackB b.missing
  { b with stackA := x, stackB := y, missing := m }

/-- Whether a slot of the soft-retain area has a byte on a stack. -/
def State.softOn (s : State) (k n : Nat) : Bool :=
  s.unitStack (softAddr n / 2 ^ 20) == some k || s.unitStack ((softAddr n + 24575) / 2 ^ 20) == some k

/-- The page of the extent map that a block needs has been lost and not yet loaded again (R26, Table 13.2). -/
def State.pageOut (s : State) (key : Nat) : Bool :=
  let p := s.pageOf key
  s.plc.mapBad.contains p || s.plc.mapLost.any fun e => homeStack (stacksOf s.hbm.cold) (pageUnit p) == some e.1 && !e.2.contains p

/-- Landing data whose last copy stood on a stack, of the blocks that a test takes, is lost: it leaves the landing area and the rows that were to be
written with it, and its block is completed with a media status until it is written again (R29). (DEDUCED, unsafe: log entry 172.) -/
def State.loseLanding (s : State) (k : Nat) (test : LandBlock → Bool) : State :=
  let written (b : LandBlock) : Bool := match b.row.bind (aget s.plc.rows) with
    | none => false
    | some r => r.vals.any fun e => e.2.key == b.key && e.2.pair == b.pair &&
        (match r.members[e.1 / 64]? with | some m => m.onMedia | none => false)
  let gone (b : LandBlock) : Bool := test b && (b.missing && b.stackA == k && !written b)
  let lost := s.plc.landing.filter gone
  let hit (key : Nat) (p : Pair) : Bool := lost.any fun b => b.key == key && b.pair == p
  let s := { s with plc := { s.plc with
    landing := s.plc.landing.filter fun b => !gone b,
    rows := amapv s.plc.rows fun _ r => if r.copies then r else { r with vals := afilter r.vals fun _ b => !hit b.key b.pair },
    blocks := amapv s.plc.blocks fun key (b : BlockRec) => if b.place == Place.landing && hit key b.pair then { b with place := .lost } else b } }
  { s with eqt := { s.eqt with cmds := amapv s.eqt.cmds fun _ (c : Cmd) => { c with
      bound := c.bound.map fun (b : Bound) => if !b.onMedia && s.blockLost b.nsid b.lba && c.phase == Phase.accepted then { b with got := false, lost := true } else b } } }

/-- Everything kept in two copies loses the one that stood on the stack; a reservation that stood there needs another (R26). A journal record
that had only that copy is made again from the map. Retained records
with a byte on it are lost, and every neighbour record: their partition is striped over all stacks (R121).
(DEDUCED, unsafe: log entry 141.) -/
def State.loseStackCopies (s : State) (k : Nat) : State :=
  { s with
    plc := { s.plc with
      landing := s.plc.landing.map (loseCopyOf k),
      journal := amapv s.plc.journal fun _ r =>
        let (x, y, m) := loseCopy k r.stackA r.stackB r.missing
        match r.missing && r.stackA == k, s.stacks.filter (· != k) with
        | true, a :: b :: _ => { r with stackA := a, stackB := b, missing := false }
        | _, _ => { r with stackA := x, stackB := y, missing := m } },
    eqt := { s.eqt with
      staged := [],
      cmds := amapv s.eqt.cmds fun _ c => match c.resv with
        | some r =>
          if !r.granted then c
          else if r.stackA = k then { c with recopy := c.recopy ||| 1 }
          else if r.stackB = k then { c with recopy := c.recopy ||| 2 } else c
        | none => c,
      lineages := amapv s.eqt.lineages fun _ l => { l with memory := l.memory.map fun r =>
        if r.stackA = k then { r with stackA := r.stackB } else if r.stackB = k then { r with stackB := r.stackA } else r } },
    chn := { s.chn with
      ladders := amapv s.chn.ladders fun _ l => match l.slot with
        | some n => if s.softOn k n then { l with slot := none } else l
        | none => l,
      soft := afilter s.chn.soft fun n _ => !s.softOn k n,
      streams := amapv s.chn.streams fun _ x => { x with nbrs := [] } } }

/-- Records of the FAULTS log and the Tail ring whose granules were on the stack are lost (R580, R595). -/
def State.loseLogs (s : State) (k : Nat) : State :=
  let on (u : Nat) : Bool := homeStack (stacksOf s.hbm.cold) u == some k
  { s with
    flt := { s.flt with
      slots := amapv s.flt.slots fun _ r => if on 9472 then { r with poisoned := true } else r },
    tal := { s.tal with
      ring := amapv s.tal.ring fun i r => if on (9473 + i / 4096) then { r with poisoned := true } else r } }

/-- A stack fails (R480, R482). -/
def State.stackFail (s : State) (k : Nat) : State :=
  if !s.hbm.inUse.testBit k then s
  else
    let second := s.hbm.failed ≠ 0
    let home (l : Nat) : Bool := s.unitStack (l / 8192) == some k
    let s := { s with cch := { s.cch with
      lines := afilter s.cch.lines fun l _ => !home l, side := afilter s.cch.side fun l _ => !home l,
      victims := afilter s.cch.victims fun l _ => !home l } }
    let s := (((s.loseLanding k fun _ => true).loseStackCopies k).loseLogs k)
    let s := { s with plc := { s.plc with mapLost := aput s.plc.mapLost k [] } }
    let t := s.free
    let s := s.freeUsed
    let s := { s with hbm := { s.hbm with
      inUse := setBitN s.hbm.inUse k false, failed := setBitN s.hbm.failed k true, redundant := false,
      mem := afilter s.hbm.mem fun a _ => !(s.loneUnit (a / 2 ^ 20) && homeStack (stacksOf s.hbm.cold) (a / 2 ^ 20) == some k),
      diag := afilter s.hbm.diag fun n _ => n / 32768 != k,
      lostStacks := aput s.hbm.lostStacks k t } }
    let s := (s.report (224 + k) 4 0 2).wakeEvent 7
    let s := if second then s.report (224 + k) 7 0 3 else s
    s.evcLevel 3

/-- Every duplicated and mirrored region holds two copies again (R481); after a second failure too little memory is left for that
(R482). (DEDUCED, safe: log entry 116.) -/
def State.redundancyCheck (s : State) : State :=
  let whole := s.plc.landing.all (fun b => !b.missing) && s.plc.journal.all (fun e => !e.2.missing) &&
    s.eqt.lineages.all (fun l => l.2.memory.all fun r => r.stackA != r.stackB)
  if whole && decide ((below 4 fun k => s.hbm.failed.testBit k).length < 2) then { s with hbm := { s.hbm with redundant := true } } else s

/-! ## Scrubbing (R461, R462) -/

/-- Granules of the HBM device address space. -/
def granules : Nat := 98304 * 16384

/-- A record of the FAULTS or Tail ring whose granule is poisoned is lost (R580, R595). -/
def State.poisonLogs (s : State) (g : Nat) : State :=
  let f := 9472 * 16384
  let t := 9473 * 16384
  if g < f then s
  else if g < t then { s with flt := { s.flt with
    slots := amapv s.flt.slots fun k r => if k / 2 = g - f then { r with poisoned := true } else r } }
  else { s with tal := { s.tal with ring := amapv s.tal.ring fun i r => if i = (g - t) / 4 then { r with poisoned := true } else r } }

/-- A retained record or a stream's neighbour record with a poisoned granule is discarded (Table 13.2); the neighbour partition is shared
equally by the 16 streams. (DESIGN CHOICE, unsafe: log entry 150.) -/
def State.poisonSoft (s : State) (g : Nat) : State :=
  let hit (k : Nat) : Bool := decide (softAddr k ≤ 64 * g) && decide (64 * g < softAddr k + 24576)
  let n := g - 5376 * 16384
  { s with chn := { s.chn with
      ladders := amapv s.chn.ladders fun _ l => match l.slot with
        | some k => if hit k then { l with slot := none } else l
        | none => l,
      soft := afilter s.chn.soft fun k _ => !hit k,
      streams := amapv s.chn.streams fun st x => if n < 2 ^ 24 ∧ n / 2 ^ 20 = st then { x with nbrs := [] } else x } }

/-- The staged image whose area holds a poisoned granule is discarded (Table 13.2). -/
def State.poisonStaged (s : State) (g : Nat) : State :=
  let n := g - readCacheTop * 16384
  let kind := if n < 2 ^ 20 then 1 else 2
  match aget s.eqt.staged kind with
  | some x => if 64 * (n % 2 ^ 20) < x.bytes.length then { s with eqt := { s.eqt with staged := adel s.eqt.staged kind } } else s
  | none => s

/-- A landing copy whose frame holds a poisoned granule is lost, and its block with it where that was the only copy (Table 13.2, R29). -/
def State.poisonLanding (s : State) (g : Nat) : State :=
  let k := (g / 16384 - 1280) / 1024
  let at_ (b : LandBlock) : Bool :=
    let a := 2 ^ 30 * (k + 1) + 2 ^ 28 + 4160 * (Config.landFrame b.key b.pair.seq.toNat % 258111)
    decide (a < 64 * g + 64) && decide (64 * g < a + 4160)
  let s := s.loseLanding k at_
  { s with plc := { s.plc with landing := s.plc.landing.map fun b => if at_ b then loseCopyOf k b else b } }

/-- A granule is found uncorrectable: what stands there goes as Table 13.2 says for its place. -/
def State.poisonGranule (s : State) (g : Nat) : State :=
  let u := g / 16384
  let s := { s with hbm := { s.hbm with poisoned := if s.hbm.poisoned.contains g then s.hbm.poisoned else g :: s.hbm.poisoned } }
  if within u 1280 5375 then s.poisonLanding g
  else if within u 5376 9471 then s.poisonSoft g
  else if within u 9472 10495 then s.poisonLogs g
  else if within u (mapBase + 512) (mapBase + s.hbm.mapUnits - 1) then
    { s with plc := { s.plc with mapBad := ((g - (mapBase + 512) * 16384) / 1024) :: s.plc.mapBad } }
  else if within u readCacheTop 98299 then s.poisonStaged g
  else s

/-- The scrubber reads its next HBM granule: 0 clean, 1 correctable, 2 uncorrectable, as the array shows it beyond what the model
knows; 3 clean, with an on-die correction that the stack reports (R454). -/
def State.scrubHbm (s : State) (err : Nat) : State :=
  let g := s.hbm.scrubPos
  let e := max (err % 3) (s.granOutcome g)
  let s := match s.unitStack (g / 16384) with
    | none => s
    | some k =>
      let s := if err = 3 then s.onDie k else s
      if e = 1 then
        let s := s.hbmCorr k
        { s with hbm := { s.hbm with correctable := s.hbm.correctable.filter (· != g), lapCorr := g :: s.hbm.lapCorr, diag := s.diagFixed g } }
      else if e = 2 then (s.hbmUncorr k (64 * g)).poisonGranule g
      else s
  if g + 1 < granules then { s with hbm := { s.hbm with scrubPos := g + 1 } }
  else { s with hbm := { s.hbm with
    scrubPos := 0, lapS := min 0xFFFFF ((s.now - s.hbm.lapStart) / 1000000000), lapStart := s.now, lapLate := false, lapCorr := [] } }

/-- The scrubber reads its next SRAM byte. A corrected error in the cache partition counts against its way; the control store
keeps its own parity. -/
def State.scrubSram (s : State) (err : Nat) : State :=
  let a := s.srm.mem
  let p := s.hbm.sramPos
  let e := max err (s.sramOutcome p)
  let s := if e = 1 then
      let s := s.srmCorr
      let s := { s with srm := { s.srm with mem := a, correctable := s.srm.correctable.filter (· != p), diag := s.sramFixed p } }
      if p < 0x1000000 then s.wayError (p / 0x100000) else s
    else if e = 2 then
      let s := s.srmUncorr (sramBase + p)
      { s with srm := { s.srm with poisoned := if s.srm.poisoned.contains p then s.srm.poisoned else p :: s.srm.poisoned } }
    else s
  { s with hbm := { s.hbm with sramPos := (p + 1) % 0x4000000 } }

/-- The scrubber runs: enabled, with its domain on (R461, R463, R520), and no stage in force in Run (Table 15.6, R530). -/
def State.scrubRuns (s : State) : Bool :=
  bit (s.rv .hbmScrubCfg) 31 && s.hbmUp && (s.stageCode == 0 || (s.pwr.point != 0 && s.pwr.point != 0x10))

/-- SCRUB_READ: the next granule or byte is read while the scrubber runs.
(DEDUCED, unsafe: log entry 132; DESIGN CHOICE, safe: log entry 179.) -/
def State.scrub (s : State) (sram : Bool) (err : Nat) : State :=
  if !s.scrubRuns then s else if sram then s.scrubSram err else s.scrubHbm err

/-- The lap in progress has run longer than LAP_LIMIT (R462). -/
def State.scrubLate (s : State) : State :=
  if s.hbm.lapLate || !s.scrubRuns then s
  else
    let s := s.advanceTo (s.hbm.lapStart + 3600000000000 * fld (s.rv .hbmScrubCfg) 7 0)
    ({ s with hbm := { s.hbm with lapLate := true } }).report 224 5 0 0

end Sys2Proof.Machine
end

