-- ==== Sys2Proof/Machine/LinkRows.lean ====
section
/-! DEFINITION. The preamplifier links (chapter 4): acknowledgements, faults, time-outs, contact, the touchdown sweep and the
write-fault inputs. -/

namespace Sys2Proof.Machine

/-- How long a frame lasts on the link, rounded up to whole ns: 64 bit periods of 10.24 ns (R142, R143). -/
def frameNs : Nat := 656

/-- The streams whose slot of the link (s mod 4) a status nibble names and which have a head. -/
def State.slotStreams (s : State) (a nibble : Nat) : List Nat :=
  (streamsOf a).filter fun st => nibble.testBit (st % 4) && (s.stream st).readers != 0

/-! ## Status words (R149, R150, R152, R155) -/

/-- Contact on a head (R152): heater 0, CONTACT raised, the fault reported. -/
def State.contactSeen (s : State) (st : Nat) : State :=
  let h := headOf st (s.stream st)
  if (s.lhead h).contact then s.modHead h fun x => { x with contactClean := s.now }
  else
    let s := s.sendHeater st 3
    let s := s.modHead h fun x => { x with contact := true, contactClean := s.now }
    (s.inhibit st 4).report (72 + actOf st) 4 (h % 18) 1

/-- An open or short on a stream's head (R150): `part` names what the preamplifier found, bit 0 and 1 its readers, bit 2 its
writer, whose reports count only in acknowledgements that follow each other; `ack` says that a STATUS acknowledgement reported it.
(DESIGN CHOICE, safe: log entry 62.) -/
def State.openShort (s : State) (st part : Nat) (ack : Bool) : State :=
  let x := s.stream st
  let h := headOf st x
  let s := s.report (72 + actOf st) 3 (h % 18) 1
  let keep := (if part.testBit 0 then 0 else x.readers % 2) + (if part.testBit 1 then 0 else x.readers / 2 % 2 * 2)
  let s := if keep ≠ x.readers then s.setReaders st keep else s
  if !ack then s
  else if !part.testBit 2 then s.modHead h fun y => { y with openCount := 0 }
  else if 1 ≤ (s.lhead h).openCount then (s.modHead h fun y => { y with openCount := 0 }).headOut h
  else s.modHead h fun y => { y with openCount := 1 }

/-- A status word reaches the device: in a STATUS acknowledgement, or in an unsolicited FAULT frame. `parts` tells, for each slot
with OPEN_SHORT, which part of its head is open or short. -/
def State.statusWord (s : State) (a : Nat) (w : Word) (parts : List Nat) (ack : Bool) : State :=
  let s := (s.slotStreams a (fld w 11 8)).foldl (fun s st => s.contactSeen st) s
  let s := if ack then
      (s.slotStreams a (15 - fld w 15 12)).foldl (fun s st => s.modHead (headOf st (s.stream st)) fun h => { h with openCount := 0 }) s
    else s
  let s := (s.slotStreams a (fld w 15 12)).foldl (fun s st => s.openShort st (parts.getD (st % 4) 0) ack) s
  let s := if fld w 19 16 ≠ 0 then
      (s.slotStreams a (fld w 19 16)).foldl (fun s st => s.report (72 + a) 2 (headOf st (s.stream st) % 18) 1) s
    else s
  if ack ∧ fld w 19 16 = 0 ∧ (s.link a).wfltUntil ≤ s.now then s.modLink a fun l => { l with wfltRaised := false } else s

/-! ## Acknowledgements (R145-R147) -/

/-- The frames a link sends again after LINK_RESET: SELECT, HEATER and WRITE_CUR for every selected head (R147).
(DEDUCED, unsafe: log entry 61.) -/
def State.linkRestore (s : State) (a : Nat) : State :=
  let kept := (s.link a).queue.filter fun f => !(f.cmd == 1 || f.cmd == 2 || f.cmd == 3)
  let s := s.modLink a fun l => { l with restoring := true, resetDue := 0, queue := [] }
  let sel := (streamsOf a).filter fun st => (s.stream st).readers != 0
  let s := sel.foldl (fun s st =>
    let x := s.stream st
    let h := s.lhead (headOf st x)
    let s := s.sendSelect st x.head x.readers
    let s := s.modHead (headOf st x) fun y => { y with heaterAck := none }
    (s.linkSend a 2 x.head h.heater).sendWriteCur st) s
  let s := if sel.isEmpty then s.modLink a fun l => { l with restoring := false, up := true } else s
  (s.modLink a fun l => { l with queue := l.queue ++ kept }).linkPump a

/-- The effect of an acknowledged frame on the head it names. -/
def State.ackEffect (s : State) (a : Nat) (f : LinkFrame) : State :=
  let h := 18 * a + f.head
  let again := ((s.link a).queue ++ (s.link a).flight).any fun g => g.cmd == f.cmd && g.head == f.head
  if f.cmd = 2 && !again then s.modHead h fun x => { x with heaterAck := some s.now }
  else if f.cmd = 4 && !again then s.modHead h fun x => { x with armed := f.data % 2 == 1, armAck := some s.now }
  else s

/-- A link that has sent again all that R147 asks is up; so is one whose first frame is acknowledged. -/
def State.linkUpCheck (s : State) (a : Nat) : State :=
  let l := s.link a
  let owed (f : LinkFrame) : Bool := f.cmd == 1 || f.cmd == 2 || f.cmd == 3
  if l.up ∨ l.resetDue ≠ 0 then s
  else if l.restoring && (l.queue.any owed || l.flight.any owed) then s
  else (s.modLink a fun l => { l with up := true, restoring := false })

/-- A SENSOR acknowledgement gives a reading of the touchdown sweep on its head (R153). -/
def State.sensorRead (s : State) (h v : Nat) : State :=
  if s.wrp.sweep.busy && s.wrp.sweep.head == h then
    { s with wrp := { s.wrp with sweep := { s.wrp.sweep with readings := s.wrp.sweep.readings ++ [(s.now, v)] } } }
  else s

/-- An uplink frame other than FAULT arrives on PL(a) (R145): with a good CRC and the CMD, HEAD and SEQ of a frame that waits for its
acknowledgement it acknowledges that frame. -/
def State.linkAck (s : State) (a : Nat) (w : BitVec 64) (parts : List Nat) : State :=
  if 4 ≤ a then s
  else if fldN w 63 60 ≠ 0xD ∨ fldN w 7 0 ≠ (crc8 w).toNat then
    s.modLink a fun l => { l with upCrc := satInc l.upCrc 255 }
  else match (s.link a).flight.find? fun f => fldN w 59 56 == f.cmd && fldN w 55 51 == f.head && fldN w 50 48 == f.seq with
    | none => s
    | some f =>
      let s := s.modLink a fun l => { l with flight := l.flight.erase f }
      if f.cmd = 10 then s.linkRestore a
      else
        let s := s.ackEffect a f
        let s := if f.cmd = 6 then s.statusWord a (BitVec.ofNat 32 (fldN w 47 16)) parts true
          else if f.cmd = 9 then s.sensorRead (18 * a + f.head) (fldN w 31 16) else s
        (s.linkPump a).linkUpCheck a

/-- An unsolicited FAULT frame arrives (R149). -/
def State.preampFault (s : State) (a : Nat) (w : BitVec 64) (parts : List Nat) : State :=
  if 4 ≤ a then s
  else if fldN w 63 60 ≠ 0xD ∨ fldN w 7 0 ≠ (crc8 w).toNat then
    s.modLink a fun l => { l with upCrc := satInc l.upCrc 255 }
  else if fldN w 59 56 = 15 ∧ fldN w 55 51 = 31 ∧ fldN w 50 48 = 0 then s.statusWord a (BitVec.ofNat 32 (fldN w 47 16)) parts false
  else s

/-- The link is down (R147): LINK for the actuator, its heads no longer armed, LINK_RESET due every 100 µs.
(DEDUCED, unsafe: log entry 60.) -/
def State.linkDown (s : State) (a : Nat) : State :=
  let s := s.modLink a fun l => { l with up := false, restoring := false, flight := [], resetDue := s.now + 100000 }
  let s := { s with wrp := { s.wrp with heads := amapv s.wrp.heads fun h x =>
    if h / 18 = a then { x with armed := false, armAck := none, heaterAck := none } else x } }
  s.inhibitAct a 3

/-- A resend of a frame (R146): the same SEQ, or the value and a new SEQ of the newest HMA command for the same head. It starts once the
line is free. -/
def State.linkResend (s : State) (a : Nat) (f : LinkFrame) : State :=
  let l := s.link a
  let newer := if f.cmd = 5 then (l.flight.drop 1 ++ l.queue).reverse.find? fun g => g.cmd == 5 && g.head == f.head else none
  let s := s.modLink a fun l => { l with resends := satInc l.resends 255 }
  let g : LinkFrame := { f with tries := f.tries + 1, sentAt := max s.now (lineFree l) }
  match newer with
  | none => (s.modLink a fun l => { l with flight := l.flight.erase f ++ [g] }).emit (.linkFrame a (frameBits 0xB g.cmd g.head g.seq g.data))
  | some n =>
    let g := { g with seq := l.nextSeq, data := n.data }
    (s.modLink a fun l => { l with flight := l.flight.erase f ++ [g], queue := l.queue.erase n, nextSeq := (l.nextSeq + 1) % 8 }).emit
      (.linkFrame a (frameBits 0xB g.cmd g.head g.seq g.data))

/-- No valid acknowledgement of the oldest frame within 1.6 µs of its end (R146, R147). -/
def State.linkAckTimeout (s : State) (a : Nat) : State :=
  if 4 ≤ a ∨ (s.link a).resetDue ≠ 0 then s
  else match (s.link a).flight with
    | [] => s
    | f :: _ =>
      let s := s.advanceTo (f.sentAt + frameNs + 1600)
      if f.tries < 3 then s.linkResend a f else (s.linkDown a).report (72 + a) 1 f.head 2

/-- LINK_RESET is sent again every 100 µs while the link is down (R147). -/
def State.linkResetRetry (s : State) (a : Nat) : State :=
  let l := s.link a
  if 4 ≤ a ∨ l.resetDue = 0 then s
  else
    let s := s.advanceTo l.resetDue
    let f : LinkFrame := { cmd := 10, head := 31, seq := l.nextSeq, data := 0, tries := 1, sentAt := s.now }
    (s.modLink a fun l => { l with flight := [f], nextSeq := (l.nextSeq + 1) % 8, resetDue := s.now + 100000 }).emit
      (.linkFrame a (frameBits 0xB 10 31 f.seq 0))

/-- The block reset of a link (Table 17.3): the LINK_RESET sequence of R147. -/
def State.linkBlockReset (s : State) (a : Nat) : State :=
  let s := s.linkDown a
  (s.modLink a fun l => { l with resetDue := max 1 s.now }).linkResetRetry a

/-! ## Contact, sweeps, write faults -/

/-- One full revolution without contact (R152): CONTACT clears and the heater is restored. -/
def State.contactRestore (s : State) (h : Nat) : State :=
  let x := s.lhead h
  if h < 72 ∧ x.contact then
    let s := s.advanceTo (x.contactClean + s.revNs)
    let s := s.modHead h fun y => { y with contact := false }
    match (streamsOf (h / 18)).find? fun st => (s.stream st).readers != 0 && headOf st (s.stream st) == h with
    | some st => s.sendHeater st 2
    | none => s
  else s

/-- Why a write to PLK_TD_CTL with START is refused (R154, Table 15.6): no stream selects the head, a write gate is open on it, a
sweep runs, or a stage is in force. -/
def State.tdRefused (s : State) (v : Word) : Bool :=
  let h := fld v 6 0
  let on := (streamsOf (h / 18)).filter fun st => (s.stream st).readers != 0 && headOf st (s.stream st) == h
  bit v 31 && (on.isEmpty || on.any (fun st => (s.stream st).writeGate) || s.wrp.sweep.busy || s.stageCode != 0)

/-- An accepted write to PLK_TD_CTL: START begins a sweep from heater code 0 (R153). -/
def State.tdWrite (s : State) (v : Word) : State :=
  let s := s.setRv .plkTdCtl v
  if bit v 31 then
    let h := fld v 6 0
    let s := { s with wrp := { s.wrp with
      sweep := { busy := true, head := h, code := 0, result := 0, tdCode := 0, stepAt := s.now, readings := [], baseline := none, overAt := none } } }
    let s := ((streamsOf (h / 18)).filter fun st => (s.stream st).readers != 0 && headOf st (s.stream st) == h).foldl
      (fun s st => s.inhibitOnly st 4) s
    (s.modHead h fun x => { x with heater := 0, heaterKind := 3, heaterAck := none }).linkSend (h / 18) 2 (h % 18) 0
  else s

/-- The readings of each revolution of a step: those taken in it. -/
def State.stepReadings (s : State) (revs : Nat) : List (List Nat) :=
  let w := s.wrp.sweep
  (List.range revs).map fun k => (w.readings.filter fun e =>
    decide (w.stepAt + k * s.revNs ≤ e.1) && decide (e.1 < w.stepAt + (k + 1) * s.revNs)).map Prod.snd

/-- The deviation of a revolution's readings: their greatest less their least; none of no readings. The manual does not define it.
(DESIGN CHOICE, unsafe: log entry 140.) -/
def deviation (l : List Nat) : Option Nat := if l.isEmpty then none else some (l.foldl max 0 - l.foldl min (l.headD 0))

/-- One revolution is judged (R153). Contact is found in the second of two revolutions in a row above the baseline by CS_THRESH; the first of
the two gave its heater code. (DEDUCED, unsafe: log entry 63.) -/
def sweepJudge (thresh : Nat) (w : Sweep) (dev : Nat) : Sweep × Bool :=
  match w.baseline with
  | none => ({ w with baseline := some dev }, false)
  | some b =>
    if b + thresh < dev then
      (match w.overAt with
       | some c => ({ w with tdCode := c }, true)
       | none => ({ w with overAt := some w.code }, false))
    else ({ w with overAt := none }, false)

/-- The revolutions of one step are judged, in order, until contact; with the number of them that have passed. -/
def sweepJudgeAll (thresh : Nat) (w : Sweep) (n : Nat) : List (List Nat) → Sweep × Bool × Nat
  | [] => (w, false, n)
  | l :: ls => match deviation l with
    | none => sweepJudgeAll thresh w (n + 1) ls
    | some d => match sweepJudge thresh w d with
      | (w, true) => (w, true, n + 1)
      | (w, false) => sweepJudgeAll thresh w (n + 1) ls

/-- One step of the sweep (R153): STEP_REVS revolutions pass at one heater code, then the next code; no contact up to code 255 ends it. -/
def State.touchdownStep (s : State) : State :=
  if !s.wrp.sweep.busy then s
  else
    let h := s.wrp.sweep.head
    let prof := match (streamsOf (h / 18)).find? fun st => (s.stream st).readers != 0 && headOf st (s.stream st) == h with
      | some st => (s.stream st).wprofile
      | none => 0
    let (w, found, revs) := sweepJudgeAll (wprofByte prof 25) s.wrp.sweep 0 (s.stepReadings (fld (s.rv .plkTdCtl) 19 16))
    let s := s.advanceTo (w.stepAt + revs * s.revNs)
    let s := { s with wrp := { s.wrp with sweep := { w with readings := [], stepAt := s.now } } }
    if found then s.sweepEnd 1 w.tdCode
    else if w.code = 255 then s.sweepEnd 2 w.tdCode
    else
      let s := { s with wrp := { s.wrp with sweep := { s.wrp.sweep with code := w.code + 1 } } }
      (s.modHead h fun x => { x with heater := w.code + 1, heaterAck := none }).linkSend (h / 18) 2 (h % 18) (w.code + 1)

/-- A low pulse of `ns` on WFLTa_N (R155): shorter than 5 ns it is ignored. -/
def State.wfltAssert (s : State) (a ns : Nat) : State :=
  if 4 ≤ a ∨ ns < 5 then s
  else
    let s := s.modLink a fun l => { l with wfltRaised := true, wfltUntil := s.now + ns }
    (s.inhibitAct a 2).report (72 + a) 2 31 1

end Sys2Proof.Machine
end

