-- ==== Sys2Proof/Machine/ChannelRows.lean ====
section
/-! DEFINITION. The rows of the read channel (chapter 3): head selection, front ends, servo wedges, decode outcomes, the ladder's
steps and the counters. -/

namespace Sys2Proof.Machine

/-! ## Heads and front ends -/

/-- HEAD_SWITCH (R80): at a sector boundary with both gates off the held selection takes effect. -/
def State.headSwitchRow (s : State) (st : Nat) : State :=
  let x := s.stream st
  match x.pendingHead with
  | none => s
  | some w => if st < 16 ∧ !x.readGate && !x.writeGate && !x.inSector then s.headSwitch st w else s

/-- FRONT_END_FAIL (R82). -/
def State.frontEndFail (s : State) (n : Nat) : State :=
  if n < 32 ∧ !s.chn.afFailed.contains n then s.frontEndOut n else s

/-- Why a write to CHN_AF_SEL_n is refused (R84): it sets OVR while the owning stream has a head. -/
def State.afSelRefused (s : State) (n : Nat) (v : Word) : Bool := bit v 31 && (s.stream (n / 2)).readers != 0

/-! ## Servo wedges (R107, R108, R134-R136, R170) -/

/-- POS returns to 0 for the sequencer of a stream and for the privileged sequencers that follow its head. -/
def State.wedgePos (s : State) (st : Nat) : State :=
  let h := headOf st (s.stream st)
  let own := (s.seqOf st).toList
  let priv := [16, 17].filter fun q => (s.seqr q).refHead == h
  (own ++ priv).foldl (fun s q => s.modSeq q fun x => { x with pos := 0, posAt := s.now, newWedge := true }) s

/-- The phase that a record's SAM_TIME gives the write clock, in units of 2^-16 symbol (R135): SAM_TIME is in 1/16 servo symbol. -/
def State.clockPhase (s : State) (f : Nat) (samTime : Int) : Int :=
  roundAway (samTime * 2 ^ 12 * (f : Int)) (1000000 * max 1 s.sec.pers.servoRate)

/-- The write clock follows the record (R134-R136): f_w and its phase; unlocked after two records without a mark, or outside the range. -/
def State.wedgeClock (s : State) (st : Nat) (o : WedgeObs) : State :=
  let x := s.stream st
  let miss := if o.sam then 0 else x.noMark + 1
  let target := s.clockTarget x o.interval
  let known := o.sam && x.lastMark.isSome
  let f := if known then clockStep x.writeClock target else x.writeClock
  let s := s.modStream st fun y => { y with
    noMark := miss,
    writeClock := f,
    writePhase := if o.sam then s.clockPhase f o.samTime else y.writePhase,
    lastMark := if o.sam then some s.now else y.lastMark,
    locked := if known then !clockOut target else if 2 ≤ miss then false else y.locked }
  if x.locked && !(s.stream st).locked then s.inhibit st 1 else s

/-- A record arrives too late for the sample of its wedge, which the engine has computed: within half a wedge interval of that sample's
start (R202). -/
def State.lateRecord (s : State) (a : Nat) : Bool :=
  match (s.act a).began with
  | none => false
  | some t => decide (0 < s.spn.speed) && decide (2 * (s.now - t) < s.revNs / max 1 s.sec.pers.nW)

/-- SERVO_WEDGE: a wedge passes under a stream's head and its record is delivered (R107); idle streams demodulate nothing. -/
def State.servoWedge (s : State) (st : Nat) (o : WedgeObs) : State :=
  let x := s.stream st
  if 16 ≤ st ∨ x.readers = 0 then s
  else
    let r := s.servoRecord st o
    let s := if o.sam && (averagePes (s.readerPositions st o.bursts)).isNone then s.freeUsed else s
    let s := s.wedgeClock st o
    let s := s.modStream st fun y => { y with record := some r, fresh := if s.lateRecord (actOf st) then y.fresh else some r }
    let s := if o.sam then (if o.parity then s else s.count st 13 1) else s.count st 12 1
    let s := s.wedgePos st
    let s := if (s.stream st).noMark = 2 ∧ (s.act (actOf st)).state ≠ .loading then s.causeStream st 2 else s
    if validRec r then s.anchor else s

/-! ## Decoding (R103-R106) -/

/-- Every rebuild that waits for a sector takes the outcome of its stream decode (R112): the payload where it converged, a ladder decode
where it did not, and nothing after a missed mark. -/
def State.memberOutcome (s : State) (surface track sector how : Nat) (word : BitVec 41216) : State :=
  s.chn.ladders.foldl (fun s l =>
    match l.2.issued.find? fun k => s.rebuildSpot l.2 k == some (surface, track, sector) &&
        !(l.2.gathered.any fun g => g.1 == k) && !l.2.refused.contains k with
    | none => s
    | some k =>
      if how = 0 then s.memberRead l.1 k (some (wordPayload word))
      else if how < 3 then s.deepAdd { ladder := l.1, member := some k, first := false, begun := 0 }
      else s.memberRead l.1 k none) s

/-- A host or drive-managed read of a sector ends its stream decode: the readers have it, or it enters the ladder (R109). -/
def State.readOutcome (s : State) (st : Nat) (r : Reading) (how : Nat) (values : List Int) (unsat : Nat) : State :=
  if how = 0 then
    match s.rowOf r.surface r.track r.sector with
    | some (row, m, pos) => s.mediaOutcome row m pos true
    | none => s
  else s.ladderStart st r (decide (3 ≤ how)) (how == 2) values unsat

/-- The counters of a decode outcome (Table 3.12). -/
def State.decodeCounts (s : State) (st : Nat) (r : Reading) (how corr : Nat) (deadline enabled : Bool) : State :=
  let h := 18 * actOf st + r.surface
  let z := s.zoneIx r.surface r.track
  let s := if how < 3 then (s.countAt h z 0 1).countAt h z 1 corr else s
  let s := if deadline then s.countAt h z 3 1 else s
  let s := if how = 2 then s.countAt h z 9 1 else s
  let s := if how = 3 then s.countAt h z 10 1 else if how = 4 then s.countAt h z 11 1 else s
  if enabled && !r.nac && decide (how < 3) then s.countAt h z 15 1 else s

/-- Sector time of a place, in ns (R119). -/
def State.sectorNs (s : State) (surface track : Nat) : Nat :=
  match s.zoneOf surface track with | some z => s.revNs / max 1 z.spt | none => 0

/-- The deadline of a sector (R103): when the last codeword symbol of the second sector after it has passed, or 2 sector times after its own
end where no such sector follows. -/
def State.decodeDeadline (s : State) (r : Reading) (rest : List Reading) : Nat :=
  match (rest[1]?).bind (·.endAt), r.endAt with
  | some t, _ => t
  | none, some t => t + 2 * s.sectorNs r.surface r.track
  | none, none => s.now

/-- What a verify read brings to its run (R158, R159): a sector whose decode did not converge, or with TV_COMPARE = 1 one whose payload
differs from the source's, does not pass. -/
def State.verifyOutcome (s : State) (r : Reading) (how : Nat) (word : BitVec 41216) : State :=
  { s with wrp := { s.wrp with verifies := amapv s.wrp.verifies fun _ v =>
    if v.surface = r.surface ∧ v.track = r.track ∧ v.sector ≤ r.sector ∧ r.sector < v.sector + v.count then
      let source : Option (BitVec 33792) := match v.row with
        | some (n, k) => (aget s.plc.rows n).bind fun row => (row.members[k]?).map fun m => s.rowPayload n row k (r.sector - m.sector)
        | none => none
      let differs := bit v.cfg 0 && (match source with | some p => p != wordPayload word | none => false)
      if how = 0 ∧ !differs then { v with bad := v.bad.filter (· != r.sector - v.sector) }
      else { v with bad := v.bad.filter (· != r.sector - v.sector) ++ [r.sector - v.sector] }
    else v } }

/-- Global iterations that bound a decode (R103, R158): GI_MAX of the stream's profile, or TV_ITER for a verify read. -/
def State.iterLimit (s : State) (st : Nat) (r : Reading) : Nat :=
  if r.kind = 3 then
    (match s.wrp.verifies.find? fun e => e.2.surface == r.surface && e.2.track == r.track && decide (e.2.sector ≤ r.sector) &&
        decide (r.sector < e.2.sector + e.2.count) with
     | some e => fld e.2.cfg 9 5
     | none => fld (s.rv .wrpTvCfg) 9 5)
  else profByte (s.stream st).profile 25

/-- What a stopped sector is: 3 or 4 where its mark was missed, else what the decoder's word says (R92, R104). -/
def State.stopHow (s : State) (r : Reading) (o : DecodeObs) : Nat :=
  if r.missed ≠ 0 then r.missed else wordOutcome (s.codeOf r.surface r.track) o.word

/-- DECODE_STOP: the stream decoder stops its oldest sector: it has converged, has made its iterations, or has met its deadline (R103).
A word whose checks hold while its metadata fail is a miscorrection (R104). The payload goes into the sector's slot, the soft values into
the stream's neighbour record (R97). A word that satisfies R104 is taken to be the one written. (DESIGN CHOICE, unsafe: log entry 170.) -/
def State.decodeStop (s : State) (st : Nat) (o : DecodeObs) : State :=
  match (s.stream st).decoding with
  | [] => s
  | r :: rest =>
    if r.missed = 0 ∧ r.endAt.isNone then s
    else
      let x := s.stream st
      let how := s.stopHow r o
      let code := s.codeOf r.surface r.track
      let limit := s.iterLimit st r
      let late := decide (how = 1) && decide (o.iter < limit)
      let s := if late then s.advanceTo (s.decodeDeadline r rest) else s
      let iter := if 3 ≤ how then 0 else max 1 (min o.iter limit)
      let values := o.values.map (scaledValue x.profile)
      let sw := scramble r.track r.sector code o.word
      let corr := if how < 3 then correctedBits sw values else 0
      let s := s.decodeCounts st r how corr late ((profByte x.profile 16).testBit 0)
      let s := s.modStream st fun x => { x with
        decoding := rest, last := lastWord (lastOutcome how) iter corr r.snr, lastAt := (r.surface, r.track, r.sector),
        nbrs := if how < 3 then putNeighbour x.nbrs r.surface (18 * actOf st + r.surface) r.track r.sector
            (neighbourValues (how == 0) (codeBits code) sw values) else x.nbrs }
      let s := s.setSlot st r.slot (if how = 0 then .decoded else .failed)
      let s := if how = 0 then s.setPayload st r.slot (s.openPayload (wordPayload o.word)) else s
      if r.kind = 5 then s.memberOutcome r.surface r.track r.sector how o.word
      else if r.kind = 3 then s.verifyOutcome r how o.word
      else if r.flags.testBit 1 then s
      else s.readOutcome st r how values (if how < 3 then unsatisfied code o.word else 0)

/-- The last sector of a stream, where it is the sector of a ladder, shows that a deep decode recovered it (Table 3.11). -/
def State.lastDeep (s : State) (l : Ladder) : State :=
  s.modStream l.stream fun x =>
    if x.lastAt = (l.surface, l.track, l.sector) ∧ fld x.last 18 16 = 2 then
      { x with last := x.last &&& ~~~0x70000#32 ||| 0x10000#32 } else x

/-- How long a deep decode of a ladder's sector takes that does not converge, in ns (R105): DI_MAX global iterations of N/32 cycles of
1.28 ns. -/
def State.deepLimit (s : State) (l : Ladder) : Nat :=
  profByte (agetD s.srm.profiles (l.head * 64 + s.zoneIx l.surface l.track) 0) 27 * codeBits l.code / 25

/-- DEEP_DECODE_DONE: the deep decode at place `k` of those running ends with a word (R105, R106): at convergence, or after DI_MAX
iterations. -/
def State.deepDecodeDone (s : State) (k : Nat) (word : BitVec 41216) : State :=
  match s.chn.deepBusy[k]? with
  | none => s
  | some j =>
    let s := match aget s.chn.ladders j.ladder with
      | some l => if wordOutcome l.code word = 0 then s else s.advanceTo (j.begun + s.deepLimit l)
      | none => s
    let s := ({ s with chn := { s.chn with deepBusy := s.chn.deepBusy.eraseIdx k } }).deepPump 4
    match aget s.chn.ladders j.ladder with
    | none => s
    | some l =>
      let how := wordOutcome l.code word
      match j.member with
      | some m => s.memberRead j.ladder m (if how = 0 then some (wordPayload word) else none)
      | none =>
        if how = 0 then ((if j.first then s.lastDeep l else s).ladderRecovered j.ladder (if j.first then 0 else l.reads))
        else
          let s := if how = 2 then s.ladCount l 9 1 else s
          let more := (s.chn.deepQueue ++ s.chn.deepBusy).any fun d => d.ladder == j.ladder && d.member.isNone
          let s := (s.modLadder j.ladder fun y => { y with deep := more }).modSoft l.slot fun r =>
            { r with miscorrect := r.miscorrect || how == 2, unsat := unsatisfied l.code word }
          (s.ladderBoundary j.ladder).ladderNext j.ladder

/-! ## Re-reads and rebuilds (R110-R113) -/

/-- REREAD_DONE: a re-read of a ladder's sector ends. Its values are added to those retained, saturated at ±31, and the sum replaces them and
is deep-decoded at ladder priority (R111); without a record they are decoded alone (R120). A first-pass decode that has not begun is
dropped (R106). -/
def State.rereadDone (s : State) (i : Nat) (missed : Bool) (values : List Int) : State :=
  match aget s.chn.ladders i with
  | none => s
  | some l =>
    if !l.rereadDue then s
    else
      let s := { s with chn := { s.chn with
        deepQueue := s.chn.deepQueue.filter fun j => !(j.ladder == i && j.member.isNone && j.first) } }
      let more := (s.chn.deepQueue ++ s.chn.deepBusy).any fun d => d.ladder == i && d.member.isNone
      let s := s.modLadder i fun y => { y with reads := y.reads + 1, rereadDue := false, deep := more }
      let s := s.ladderStep i (l.reads + 1)
      let s := { s with orb := { s.orb with pieces := afilter s.orb.pieces fun _ p => !(p.kind == PieceKind.ladder && p.owner == i && p.items == [l.reads]) } }
      if missed then (s.ladderBoundary i).ladderNext i
      else
        let s := s.modSoft l.slot fun r => { r with values := addValues r.values values, reads := r.reads + 1 }
        s.deepAdd { ladder := i, member := none, first := false, begun := 0 }

/-- Whether the members gathered rebuild a ladder's sector, which passes its check (R112): for a sector of a row they are the members they
should be and give its stored bytes; for a sector that another copy doubles, that copy has been read (R114).
(DEDUCED, unsafe: log entry 65.) -/
def State.rebuildGood (s : State) (l : Ladder) : Bool :=
  match l.row with
  | none => !l.gathered.isEmpty
  | some (n, k, _) => match aget s.plc.rows n with
    | none => false
    | some r => gatheredGood n r l.gathered && (rebuildFrom r k l.gathered).isSome

/-- REBUILD_DONE: a rebuild that has gathered its members reconstructs the sector (R112). -/
def State.rebuildDone (s : State) (i : Nat) : State :=
  match aget s.chn.ladders i with
  | none => s
  | some l =>
    if l.rebuild && decide (s.rebuildNeed l ≤ l.gathered.length) then
      let s := s.ladderStep i 3
      if s.rebuildGood l then s.ladderRecovered i 3
      else (s.modLadder i fun y => { y with refused := s.rebuildMembers l }).ladderNext i
    else s

end Sys2Proof.Machine
end

