-- ==== Sys2Proof/Machine/Entry.lean ====
section
/-! DEFINITION. The submission entry (Tables 9.1, 9.2) and the checks of R349: reserved fields and encodings, restriction,
namespace existence, namespace type, range. -/

namespace Sys2Proof.Machine

/-- `len` bits of an entry from a bit, as a number. -/
def ef (e : BitVec 512) (lo len : Nat) : Nat := e.toNat / 2 ^ lo % 2 ^ len

/-- OPCODE. -/
def eOp (e : BitVec 512) : Nat := ef e 0 8
/-- FLAGS.PUSH. -/
def ePush (e : BitVec 512) : Bool := e.getLsbD 8
/-- FLAGS.PI. -/
def ePi (e : BitVec 512) : Nat := ef e 9 2
/-- NSID. -/
def eNsid (e : BitVec 512) : Nat := ef e 16 8
/-- ARG0. -/
def eArg0 (e : BitVec 512) : Nat := ef e 32 32
/-- CMD_ID. -/
def eCmdId (e : BitVec 512) : BitVec 64 := e.extractLsb' 64 64
/-- Bytes 16-23. -/
def eLba (e : BitVec 512) : Nat := ef e 128 64
/-- Bytes 24-31. -/
def eLba2 (e : BitVec 512) : Nat := ef e 192 64
/-- DPTR. -/
def eDptr (e : BitVec 512) : BitVec 128 := e.extractLsb' 256 128
/-- PPTR. -/
def ePptr (e : BitVec 512) : BitVec 128 := e.extractLsb' 384 128
/-- NBLK of a block command. -/
def eNblk (e : BitVec 512) : Nat := ef e 32 16
/-- SRC_NSID of a COPY. -/
def eSrcNsid (e : BitVec 512) : Nat := ef e 48 8
/-- ALL of a FLUSH. -/
def eFlushAll (e : BitVec 512) : Bool := e.getLsbD 32
/-- ALL of a ZONE_ACTION. -/
def eZoneAll (e : BitVec 512) : Bool := e.getLsbD 40
/-- ACTION of a ZONE_ACTION. -/
def eZoneAction (e : BitVec 512) : Nat := ef e 32 2
/-- WRITE of a REG_ACCESS. -/
def eRegWrite (e : BitVec 512) : Bool := e.getLsbD 63

/-- READ class (Table 10.1). -/
def isReadOp (o : Nat) : Bool := o == 1 || o == 6 || o == 7 || o == 9
/-- ORDERED class. -/
def isOrderedOp (o : Nat) : Bool := o == 2 || o == 3 || o == 5 || o == 8
/-- FREE commands that move host data. -/
def isFreeData (o : Nat) : Bool := o == 0x42 || o == 0x45 || o == 0x46
/-- Repost of a recorded CMD_ID: executed again (Table 10.1). -/
def isRepostable (o : Nat) : Bool := isReadOp o || o == 0x45 || o == 0x46
/-- Opcodes of Table 10.1. -/
def isListedOp (o : Nat) : Bool := (1 ≤ o && o ≤ 9) || (0x40 ≤ o && o ≤ 0x4A)
/-- Commands that move host data. -/
def movesData (o : Nat) : Bool := o == 1 || o == 2 || o == 6 || o == 9 || isFreeData o
/-- Commands whose data is made of logical blocks. -/
def blockData (o : Nat) : Bool := o == 1 || o == 2 || o == 6

/-- Whether the NSID field must be 0 (Table 9.1). -/
def namesNoNs (e : BitVec 512) : Bool :=
  let o := eOp e
  !((1 ≤ o && o ≤ 9 && o != 4) || o == 0x40 || o == 0x41 || o == 4)

/-- Reserved fields and encodings of Table 9.1, Table 9.2, R318 and R347. -/
def badHeader (e : BitVec 512) (lwSize : Nat) : Bool :=
  let o := eOp e
  !isListedOp o || ef e 24 8 != 0 || ef e 11 5 != 0 || ePi e == 3 ||
  (namesNoNs e && eNsid e != 0) ||
  (ePush e && (o != 2 || lwSize == 0 || ePi e == 1)) ||
  (!movesData o && ef e 8 8 != 0) ||
  (movesData o && !blockData o && (ePi e != 0 || ePptr e != 0)) ||
  (blockData o && (if ePi e = 1 then ePptr e == 0 else ePptr e != 0))

/-- Reserved fields and encodings of a command's own fields (R350, R355, Tables 10.3-10.7, 10.12, 10.13, R387-R394,
R413, R417, R661). -/
def badFields (e : BitVec 512) : Bool :=
  let rest := ef e 128 384
  let hi := ef e 256 256
  match eOp e with
  | 1 | 2 => ef e 48 16 != 0 || !within (eNblk e) 1 4096 || eLba2 e != 0
  | 3 | 7 => ef e 48 16 != 0 || !within (eNblk e) 1 4096 || eLba2 e != 0 || hi != 0
  | 4 => ef e 33 31 != 0 || rest != 0
  | 5 => ef e 56 8 != 0 || !within (eNblk e) 1 4096 || hi != 0
  | 6 => ef e 41 23 != 0 || !within (ef e 32 9) 1 256
  | 8 => ef e 41 23 != 0 || ef e 34 6 != 0 || eZoneAction e == 3 || (eZoneAll e && eLba e != 0) || eLba2 e != 0 || hi != 0
  | 9 => ef e 45 19 != 0 || !within (ef e 32 13) 1 4096 || eLba2 e != 0
  | 0x40 => ef e 33 31 != 0 || ef e 192 320 != 0 || eLba e == 0 || (e.getLsbD 32 && eLba e % 65536 != 0)
  | 0x41 => eArg0 e != 0 || rest != 0
  | 0x42 => ef e 34 30 != 0 || !(ef e 32 2 == 1 || ef e 32 2 == 2) || ef e 128 32 % 4096 != 0 ||
      ef e 160 32 % 4096 != 0 || !within (ef e 160 32) 4096 16777216 || ef e 192 32 % 4096 != 0 ||
      !within (ef e 192 32) 4096 67108864 || ef e 224 32 != 0 || decide (ef e 192 32 < ef e 128 32 + ef e 160 32)
  | 0x43 => ef e 34 30 != 0 || ef e 32 2 == 0 || rest != 0
  | 0x44 => rest != 0
  | 0x45 => ef e 40 24 != 0 || eLba e % 64 != 0 || ef e 192 32 % 64 != 0 || !within (ef e 192 32) 64 16777216 ||
      ef e 224 32 != 0
  | 0x46 => eArg0 e != 0
  | 0x47 => eArg0 e != 0 || rest != 0
  | 0x48 => ef e 32 31 != 0 || ef e 128 32 % 4 != 0 || ef e 192 320 != 0
  | 0x49 => ef e 48 16 != 0 || rest != 0 || !(decide (ef e 32 16 ≤ 255) || ef e 32 16 == 0xFFFF)
  | 0x4A => ef e 48 16 != 0 || rest != 0
  | _ => true

/-- Restricted commands (Table 10.1, R348). -/
def isRestricted (e : BitVec 512) : Bool :=
  let o := eOp e
  o == 0x40 || o == 0x41 || o == 0x42 || o == 0x43 || (o == 0x48 && eRegWrite e)

/-- Namespaces a command needs to exist. -/
def needsNs (e : BitVec 512) : List Nat :=
  match eOp e with
  | 1 | 2 | 3 | 6 | 7 | 8 | 9 | 0x41 => [eNsid e]
  | 4 => if eFlushAll e then [] else [eNsid e]
  | 5 => [eNsid e, eSrcNsid e]
  | _ => []

/-- A namespace that exists: PLACED or ZONED (R386). -/
def State.nsExists (s : State) (n : Nat) : Bool := (s.ns n).kind == .placed || (s.ns n).kind == .zoned

/-- Whether the namespace type does not allow the command (R353, zone commands). -/
def State.badType (s : State) (e : BitVec 512) : Bool :=
  match eOp e with
  | 3 => (s.ns (eNsid e)).kind == .zoned
  | 8 | 9 => (s.ns (eNsid e)).kind == .placed
  | _ => false

/-- Whether a range lies beyond the capacity, or a zone start is none (R350, R357, zone commands). -/
def State.badRange (s : State) (e : BitVec 512) : Bool :=
  let cap := (s.ns (eNsid e)).capacity
  match eOp e with
  | 1 | 2 | 3 | 7 => decide (cap < eLba e + eNblk e)
  | 5 => decide (cap < eLba2 e + eNblk e) || decide ((s.ns (eSrcNsid e)).capacity < eLba e + eNblk e)
  | 8 => !eZoneAll e && (eLba e % 65536 != 0 || decide (cap ≤ eLba e))
  | 9 => eLba e % 65536 != 0 || decide (cap ≤ eLba e)
  | _ => false

/-- The status of the first check of R349, after the CMD_ID, that an entry of a session fails. -/
def State.checkEntry (s : State) (i : Nat) (e : BitVec 512) : Option (BitVec 16) :=
  if badHeader e (s.sess i).lwSize || badFields e then some 0x0002
  else if isRestricted e && !(s.rv64 .eqtAdminMaskLo .eqtAdminMaskHi).testBit (s.sess i).group then some 0x0300
  else if (needsNs e).any fun n => !s.nsExists n then some 0x0004
  else if s.badType e then some 0x0005
  else if s.badRange e then some 0x0006
  else none

/-! ## Order of commands (R364-R367) -/

/-- The ranges of a command (R366). -/
def State.rangesOf (s : State) (c : Cmd) : List Range :=
  let e := c.entry
  let n := eNsid e
  match eOp e with
  | 1 | 2 | 3 | 7 => [{ nsid := n, lba := eLba e, nblk := eNblk e }]
  | 5 => [{ nsid := n, lba := eLba2 e, nblk := eNblk e }]
  | 6 => c.ranges
  | 8 => if eZoneAll e then [{ nsid := n, lba := 0, nblk := (s.ns n).capacity }]
    else [{ nsid := n, lba := eLba e, nblk := 65536 }]
  | 9 => [{ nsid := n, lba := eLba e, nblk := min (65536 * ef e 32 13) ((s.ns n).capacity - eLba e) }]
  | _ => []

/-- Namespaces an ORDERED command names: a COPY names both of its namespaces (R357). -/
def namesNs (e : BitVec 512) : List Nat :=
  match eOp e with
  | 5 => [eNsid e, eSrcNsid e]
  | 2 | 3 | 8 => [eNsid e]
  | _ => []

/-- Two ranges share a block (R366). -/
def rangesMeet (a b : Range) : Bool :=
  a.nsid == b.nsid && decide (a.lba < b.lba + b.nblk) && decide (b.lba < a.lba + a.nblk)

/-- Two lists of ranges share a block. -/
def listsMeet (a b : List Range) : Bool := a.any fun x => b.any fun y => rangesMeet x y

/-- ORDERED commands earlier in the ring of a command's session that are neither accepted nor ended. -/
def State.earlierOrdered (s : State) (t : Nat) (c : Cmd) : List Cmd :=
  avals (s.eqt.cmds.filter fun d => d.1 != t && d.2.sess == c.sess && isOrderedOp (eOp d.2.entry) &&
    (d.2.phase == .handed || d.2.phase == .waiting) && pairBefore d.2.fetch c.fetch)

/-- Whether R365 lets a command be accepted: an ORDERED one after the earlier ORDERED ones that name a namespace in common,
a READ-class one after the earlier ORDERED ones that overlap it; a FLUSH under R355. -/
def State.orderAllows (s : State) (t : Nat) (c : Cmd) : Bool :=
  let o := eOp c.entry
  (s.earlierOrdered t c).all fun d =>
    if isOrderedOp o then !((namesNs c.entry).any fun n => (namesNs d.entry).contains n)
    else if isReadOp o then !listsMeet (s.rangesOf c) (s.rangesOf d)
    else if o = 4 then !(eFlushAll c.entry || (namesNs d.entry).contains (eNsid c.entry))
    else true

/-- The source range of a COPY. -/
def copySource (e : BitVec 512) : Range := { nsid := eSrcNsid e, lba := eLba e, nblk := eNblk e }

/-- Whether some COPY that has begun to read its source and is not yet accepted holds a range of the command (R358). -/
def State.heldByCopy (s : State) (t : Nat) (c : Cmd) : Bool :=
  s.eqt.cmds.any fun d => d.1 != t && eOp d.2.entry == 5 && d.2.copyStarted && d.2.phase == .waiting &&
    listsMeet [copySource d.2.entry] (s.rangesOf c)

/-- Whether the device serves reads at all now: ready since cold power-on with TAI taken (R550), no activation step in force (R389), no umbra
(Table 15.8). -/
def State.readOpen (s : State) : Bool :=
  s.eqt.acceptCmds && s.tim.state != .unset && !s.pwr.umbra &&
  (match s.eqt.activation with | some a => a.step == 0 || a.step == 5 | none => true)

/-- Whether the device accepts other commands: with two stacks failed it serves reads alone (R482). (DEDUCED, unsafe: log entry 176.) -/
def State.acceptOpen (s : State) : Bool := s.readOpen && decide ((below 4 fun k => s.hbm.failed.testBit k).length < 2)

end Sys2Proof.Machine
end

