-- ==== Sys2Proof/Machine/Session.lean ====
section
/-! DEFINITION. The life of a session and its lineage (chapter 8), and how a command's status is decided (Table 10.11,
R305, R364, R399). -/

namespace Sys2Proof.Machine

/-! ## Commands in flight -/

/-- A command's reservation is returned and it leaves the reservation queue (R57). -/
def State.dropResv (s : State) (t : Nat) : State :=
  let s := s.modCmd t fun c => { c with resv := none }
  { s with plc := { s.plc with resvQueue := s.plc.resvQueue.filter (· != t) } }

/-- The window range of a command's outstanding grant is quarantined for one further PUSH_TMO (R342). -/
def State.quarantine (s : State) (i t : Nat) : State :=
  let x := s.sess i
  let gone := x.grants.filter (·.tag == t)
  if gone.isEmpty then s
  else s.setSess i { x with
    grants := x.grants.filter (·.tag != t),
    quarantine := x.quarantine ++ gone.map fun g =>
      { ofs := g.entry.winOfs, len := g.entry.len, until_ := s.now + g.tmo } }

/-- EQT_XFER_ERR counts a transfer status (Table 9.12). -/
def State.countStatus (s : State) (status : BitVec 16) : State :=
  if status = 0x0210 ∨ status = 0x0211 ∨ status = 0x0212 then { s with eqt := { s.eqt with sglBad := satInc s.eqt.sglBad 255 } }
  else if status = 0x0213 ∨ status = 0x0214 then { s with eqt := { s.eqt with pushBad := satInc s.eqt.pushBad 255 } }
  else s

/-- Whether a work item of a sequencer was posted for the media reads of a command. -/
def State.itemOf (s : State) (t q : Nat) (w : WorkItem) : Bool :=
  match aget (s.turn ((s.seqr q).stream / 4)).served w.tag with
  | some p => p.kind == .host && p.owner == t
  | none => false

/-- The media work of a command goes: its pieces, its queued work items, and on a QUEUE_RESET the running ones by CANCEL (R305, R380). -/
def State.dropHost (s : State) (t : Nat) (current : Bool) : State :=
  let s := ((below 16 fun q => (s.seqr q).items.any (s.itemOf t q)).foldl (fun s q => s.withdraw q current (s.itemOf t q)) s)
  let s := (List.range 4).foldl (fun s a => if (avals (s.turn a).served).any (fun p => p.kind == .host && p.owner == t) then
      s.modTurn a fun x => { x with served := afilter x.served fun _ p => !(p.kind == .host && p.owner == t) } else s) s
  s.dropPieces .host t

/-- A command's work ends: its reservation, its grant and its media reads go, and it waits for its completion. -/
def State.settleCmd (s : State) (t : Nat) (status : BitVec 16) (result : BitVec 48) (p : Pair) : State :=
  match s.cmd? t with
  | none => s
  | some c =>
    let s := (s.dropResv t).quarantine c.sess t
    let s := s.modCmd t fun c => { c with
      phase := .done, status := status, result := result, endPair := p, bound := [], arrived := [], protArrived := [],
      payload := [], chain := none, segs := [] }
    ((s.dropHost t (status == 0x0008)).countStatus status).checkHold

/-- A command's outcome is known (R399): its pair is its acceptance pair, or where it ends without being accepted one stamped
now. -/
def State.endCmd (s : State) (t : Nat) (status : BitVec 16) (result : BitVec 48) : State :=
  match s.cmd? t with
  | none => s
  | some c =>
    if c.phase = .done then s
    else match c.accept with
      | some p => s.settleCmd t status result p
      | none => (s.stamped).settleCmd t status result s.pair

/-- The rollback counters rise to the floors of the packages in force, and their root slots are revoked (R611).
(DEDUCED, unsafe: log entry 38.) -/
def raiseFuses (c : Sec) : Fuses :=
  let f := c.fuses
  { f with
    boot := max f.boot c.bootPkg.floor, firmware := max f.firmware c.fw.floor, personality := max f.personality c.persPkg.floor,
    imageKey := max f.imageKey (max c.fw.keyFloor c.bootPkg.keyFloor), makerKey := max f.makerKey c.persPkg.keyFloor,
    revoked := f.revoked ||| (c.fw.revoke ||| (c.persPkg.revoke ||| c.bootPkg.revoke)) }

/-- A command is accepted: it is stamped with its acceptance pair (R364). The first one after images have come into force raises the
rollback counters, but not while a stage is in force (R611). -/
def State.accept (s : State) (t : Nat) : State :=
  let p := s.pair
  let s := (s.stamped).modCmd t fun c => { c with phase := .accepted, accept := some p }
  let s := if s.eqt.firstAccepted || s.stageCode != 0 then s else { s with sec := { s.sec with fuses := raiseFuses s.sec } }
  { s with eqt := { s.eqt with firstAccepted := true } }

/-- Commands of a session in flight. -/
def State.cmdsOf (s : State) (i : Nat) : List (Nat × Cmd) := s.eqt.cmds.filter fun c => c.2.sess == i

/-- Entries that a session's outstanding fetch reads will bring. -/
def fetching (x : Session) : Nat := (x.reqs.map fun r => match r.kind with | .fetch _ n => n | _ => 0).sum

/-- Tags a session holds: its commands in flight and the entries being fetched (R327). -/
def State.tagsOf (s : State) (i : Nat) : Nat := (s.cmdsOf i).length + fetching (s.sess i)

/-- Tags free device-wide (R12, R327). (DESIGN CHOICE, unsafe: log entry 67.) -/
def State.tagsFree (s : State) : Nat := 16384 - s.eqt.cmds.length - ((avals s.eqt.sessions).map fetching).sum

/-- The lowest number from n on that is no key of a map. -/
def freeKey {α : Type} : Assoc α → Nat → Nat
  | [], n => n
  | (k, _) :: rest, n => if k = n then freeKey rest (n + 1) else n

/-! ## Held completions (R305, R306, R377) -/

/-- A completion of a lineage is held: it goes into the ring of the session that has resumed the lineage, or waits for one. -/
def State.hold (s : State) (l i : Nat) (c : Completion) : State :=
  let c := { c with held := true }
  match aget s.eqt.lineages l with
  | none => s
  | some x => match x.bound with
    | some j => if j = i then s.modLin l fun y => { y with held := y.held ++ [(i, c)] } else s.cqPush j (.completion c)
    | none => s.modLin l fun y => { y with held := y.held ++ [(i, c)] }

/-- The completions of a session that the host has not acknowledged, or that wait for a slot, in their order. -/
def unsettled (x : Session) : List Completion :=
  (x.reqs.filterMap fun r => match r.kind with | .entry c => some c | _ => none) ++
  (x.cq.waiting.filterMap fun it => match it with | .completion c => some c | .grant _ => none)

/-- They become held completions of the lineage (R302, R377). (DEDUCED, unsafe: log entry 78.) -/
def State.holdUnsettled (s : State) (i : Nat) : State :=
  let x := s.sess i
  let s := (unsettled x).foldl (fun s c => s.hold x.lineage i c) s
  s.modSess i fun y => { y with cq := { y.cq with waiting := [] }, reqs := [] }

/-- A lineage is released with its completion memory and held completions (R300). -/
def State.releaseLineage (s : State) (l : Nat) : State :=
  { s with eqt := { s.eqt with lineages := adel s.eqt.lineages l } }

/-- A session becomes FREE, its lineage unbound or released (R300, R302, R305). (DESIGN CHOICE, unsafe: log entry 152.) -/
def State.freeSess (s : State) (i : Nat) : State :=
  let x := s.sess i
  let s := s.setSess i freeSession
  match aget s.eqt.lineages x.lineage with
  | none => s
  | some l =>
    if l.bound = some i then
      if x.releaseLineage then s.releaseLineage x.lineage
      else s.modLin x.lineage fun y => { y with
        bound := none, holdUntil := s.now + 1000000000 * fld (s.rv .eqtSessCfg) 31 16 }
    else s

/-- A session without commands in flight becomes FREE: in ERROR (R305), or in CLOSING after its DREP (R302). -/
def State.freeCheck (s : State) (i : Nat) : State :=
  let x := s.sess i
  if !(s.cmdsOf i).isEmpty then s
  else if x.state = .error then s.freeSess i
  else if x.state = .closing then ((s.emit (.cm x.path.port (.drep i))).holdUnsettled i).freeSess i
  else s

/-- What session loss does to a command in flight (R305, Table 10.11). -/
def State.lossOutcome (s : State) (t : Nat) (c : Cmd) : State :=
  let s := s.modCmd t fun c => { c with heldEnd := true, claimWait := false }
  let o := eOp c.entry
  if c.phase = .done then s
  else if isOrderedOp o then (if c.phase = .accepted then s else s.endCmd t 0x0230 0)
  else if isReadOp o ∨ o = 4 ∨ isFreeData o then s.endCmd t 0x0230 0
  else s

/-- A session enters ERROR (R303-R305): DREQ on a path still usable, its claim released, its completions held, its commands ended as
the table states. -/
def State.sessionError (s : State) (i : Nat) : State :=
  let x := s.sess i
  if x.state = .active ∨ x.state = .closing then
    let s := if (s.port x.path.port).link then s.emit (.cm x.path.port (.dreq i))
      else match x.alt with
        | some p => if (s.port p.port).link then s.emit (.cm p.port (.dreq i)) else s
        | none => s
    let s := s.modSess i fun y => { y with
      state := .error, pendNotify := true, silentSince := none, ackDue := none, eq := { y.eq with waitingClaim := [] } }
    let s := (s.releaseClaimOf i).holdUnsettled i
    let s := (s.cmdsOf i).foldl (fun s c => s.lossOutcome c.1 c.2) s
    s.freeCheck i
  else s

/-! ## Paths (R309-R314) -/

/-- Whether a session has an armed alternate path whose port has its link. (DEDUCED, unsafe: log entry 72.) -/
def State.altUsable (s : State) (i : Nat) : Bool :=
  match (s.sess i).alt with
  | some p => (s.port p.port).link
  | none => false

/-- A session migrates to its alternate path (R310, R408): it resends from the oldest unacknowledged PSN and sends what it owes. -/
def State.migrate (s : State) (i : Nat) : State :=
  let x := s.sess i
  match x.alt with
  | none => s
  | some p =>
    let s := s.setSess i { x with
      path := p, alt := none, silentSince := if x.reqs.isEmpty then none else some s.now,
      reqs := x.reqs.map fun r => { r with tries := 0, rnrTries := 0, deadline := s.now + ackTimeout x } }
    let s := match x.reqs with
      | r :: _ => s.sendPkt i (.resend r.psn false)
      | [] => s
    (s.sendPending i).cqDrain i x.cq.waiting.length

/-- A session in ADMITTING returns to FREE; a lineage that its admission created is released (R296). (PRESUMED, unsafe: log entry 70.) -/
def State.abandon (s : State) (i : Nat) : State :=
  let x := s.sess i
  if x.state = .admitting then
    let s := s.holdUnsettled i
    let s := s.freeSess i
    if x.createdLineage then s.releaseLineage x.lineage else s
  else s

/-- A session cannot go on with its current path: it migrates, or enters ERROR (R304); an admission in ADMITTING is abandoned at once, as
by R296 (R314). (DEDUCED, unsafe: log entry 147.) -/
def State.pathLost (s : State) (i : Nat) : State :=
  if (s.sess i).state = .active ∨ (s.sess i).state = .closing then
    (if s.altUsable i then s.migrate i else s.sessionError i)
  else s.abandon i

/-- A port loses its link (R309, R312, R314). -/
def State.linkLoss (s : State) (p : Nat) (selfStarted : Bool) : State :=
  if 2 ≤ p ∨ !(s.port p).link then s
  else
    let s := s.modPort p fun x => { x with
      link := false, speed := 0, fec := false, linkDowns := satInc x.linkDowns 255, paused := false, pausedByPeer := false }
    let s := s.dropHeld p
    let s := if selfStarted then s else (s.report (288 + p) 1 0 2).wakeEvent 7
    let s := (s.sessIds.filter fun i => (s.sess i).path.port == p).foldl (fun s i => s.pathLost i) s
    s.evcLevel 5

/-- The link retrains (R312): a loss that the device starts itself. (DEDUCED, unsafe: log entry 51.) -/
def State.retrain (s : State) (p : Nat) : State :=
  s.linkLoss p true

/-- PATH_TIMEOUT (R309): device requests outstanding on the current path for PATH_TMO without any answer. -/
def State.pathTimeout (s : State) (i : Nat) : State :=
  let x := s.sess i
  match x.silentSince with
  | none => s
  | some t =>
    if (x.state = .active ∨ x.state = .closing) ∧ !x.reqs.isEmpty ∧ s.altUsable i then
      let s := s.advanceTo (t + 1000 * fld (s.rv .eqtSessCfg) 8 0)
      ((s.report (288 + x.path.port) 2 0 2).wakeEvent 7).migrate i
    else s

/-- The modes a port runs in against a partner's modes (R281, R282): bit 0 25GBASE-KR, bit 1 25GBASE-CR, bit 2 10GBASE-KR. -/
def commonMode (cfg : Word) (partner : Nat) : Option Nat :=
  let mode := fld cfg 1 0
  let mine := if bit cfg 4 then (if mode = 0 then [0, 2] else [mode]) else [mode]
  mine.find? fun m => partner.testBit m

/-- LINK_UP (R311): training completes in the fastest common mode. -/
def State.linkUp (s : State) (p partner : Nat) (fec74 : Bool) : State :=
  let cfg := s.rv (.ethCfg p)
  if 2 ≤ p ∨ !bit cfg 31 ∨ (s.port p).link then s
  else match commonMode cfg partner with
    | none => s
    | some m =>
      let s := s.modPort p fun x => { x with
        link := true, speed := m + 1, fec := m != 2 || (bit cfg 5 && fec74), rxLevel := 0 }
      s.evcLevel 5

/-! ## Rate (R287) -/

/-- The rate of a port, in bit/s. -/
def State.portRate (s : State) (p : Nat) : Nat :=
  match (s.port p).speed with
  | 0 => 0
  | 3 => 10000000000
  | _ => 25000000000

/-- CNP_RECEIVE: halves the rate, at most once every 50 µs. -/
def State.cnpReceive (s : State) (i : Nat) : State :=
  let x := s.sess i
  if x.state = .active ∨ x.state = .closing then
    let free : Bool := match x.cnpTaken with | none => true | some t => decide (t + 50000 ≤ s.now)
    s.setSess i { x with rate := if free then x.rate / 2 else x.rate, cnpTaken := if free then some s.now else x.cnpTaken,
                         rateStep := s.now }
  else s

/-- RATE_INCREASE: 55 µs without a CNP. -/
def State.rateIncrease (s : State) (i : Nat) : State :=
  let x := s.sess i
  if x.state = .active ∨ x.state = .closing then
    let s := s.advanceTo (x.rateStep + 55000)
    let top := s.portRate x.path.port
    s.setSess i { x with rate := min top (x.rate + top / 16), rateStep := s.now }
  else s

/-! ## The life of a session (R291-R302) -/

/-- RTU (R296): ADMITTING becomes ACTIVE, and its held completions are written first. -/
def State.rtu (s : State) (i : Nat) : State :=
  let x := s.sess i
  if x.state = .admitting then
    let s := s.setSess i { x with state := .active, rateStep := s.now }
    s.cqDrain i x.cq.waiting.length
  else s

/-- A fetch that is outstanding brings no entries any more (R302, R378). -/
def noFetch (r : DevReq) : DevReq :=
  match r.kind with
  | .fetch a _ => { r with kind := .fetch a 0 }
  | _ => r

/-- DREQ (R300, R302). (DEDUCED, unsafe: log entry 69.) -/
def State.dreq (s : State) (i : Nat) (release : Bool) : State :=
  let x := s.sess i
  if x.state = .active then
    let s := s.setSess i { x with state := .closing, releaseLineage := release, reqs := x.reqs.map noFetch }
    (s.releaseClaimOf i).freeCheck i
  else s

/-- ADMIT_TIMEOUT: 1 s without RTU. -/
def State.admitTimeout (s : State) (i : Nat) : State :=
  if (s.sess i).state = .admitting then (s.advanceTo (s.sess i).admitDeadline).abandon i else s

/-- LINEAGE_RELEASE: LINEAGE_HOLD seconds after the lineage became unbound. -/
def State.lineageRelease (s : State) (l : Nat) : State :=
  match aget s.eqt.lineages l with
  | none => s
  | some x => if x.bound.isNone then (s.advanceTo x.holdUntil).releaseLineage l else s

/-- DREP: the answer to a DREQ of the device is received (R291); the session that the device ended left FREE behind when it sent the
DREQ, so nothing is left to change. (DEDUCED, safe: log entry 134.) -/
def State.drep (s : State) (_i : Nat) : State := s

end Sys2Proof.Machine
end

