-- ==== Sys2Proof/Machine/Admission.lean ====
section
/-! DEFINITION. Frames, addresses and admission (chapter 8): GIDs, the checks of R659, REQ, LAP, REJ, and the frames a port
answers. -/

namespace Sys2Proof.Machine

/-! ## Addresses (R285) -/

/-- The MAC address of a port. -/
def macOf (p : Nat) : BitVec 48 := Config.mac + BitVec.ofNat 48 p

/-- The link-local address formed from a MAC address as a modified EUI-64. -/
def linkLocal (m : BitVec 48) : BitVec 128 :=
  BitVec.ofNat 128 (0xFE80 * 2 ^ 112 + (m.toNat / 2 ^ 24 * 2 ^ 40 + 0xFFFE * 2 ^ 24 + m.toNat % 2 ^ 24)) ^^^ 0x0200000000000000

/-- The global IPv6 address of a port: byte 4k in bits [31:24] of ETH_IPV6_p_k (Table 20.6). -/
def State.globalV6 (s : State) (p : Nat) : BitVec 128 :=
  BitVec.ofNat 128 ((List.range 4).foldl (fun a k => a * 2 ^ 32 + (s.rv (.ethIpv6 p k)).toNat) 0)

/-- An IPv4 address as an IPv4-mapped address. -/
def mappedV4 (a : Word) : BitVec 128 := BitVec.ofNat 128 (0xFFFF * 2 ^ 32 + a.toNat)

/-- The GID table of a port: link-local at index 0, global IPv6 at 1, IPv4-mapped IPv4 at 2. -/
def State.gids (s : State) (p : Nat) : List (Nat × BitVec 128) :=
  let c := s.rv (.ethIpCtl p)
  [(0, linkLocal (macOf p))] ++ (if bit c 15 then [(1, s.globalV6 p)] else []) ++
  (if bit c 31 then [(2, mappedV4 (s.rv (.ethIpv4 p)))] else [])

/-- The port and index of a GID of the device. -/
def State.gidAt (s : State) (g : BitVec 128) : Option (Nat × Nat) :=
  ([0, 1].flatMap fun p => (s.gids p).map fun e => (p, e)).findSome? fun e =>
    if e.2.2 = g then some (e.1, e.2.1) else none

/-- Two addresses agree in their first n bits. -/
def samePrefix {w : Nat} (n : Nat) (a b : BitVec w) : Bool := a >>> (w - n) == b >>> (w - n)

/-- The port has the next hop that a path needs (R656): the partner is on the link, or there is a gateway or router. -/
def State.nextHop (s : State) (p idx : Nat) (remote : BitVec 128) : Bool :=
  let c := s.rv (.ethIpCtl p)
  if idx = 2 then
    samePrefix (fld c 21 16) (remote.setWidth 32) (s.rv (.ethIpv4 p)) || s.rv (.ethIpv4Gw p) != 0
  else if idx = 1 then
    samePrefix (fld c 7 0) remote (s.globalV6 p) || samePrefix 10 remote 0xFE800000000000000000000000000000 ||
      (s.port p).router.isSome
  else samePrefix 10 remote 0xFE800000000000000000000000000000 || (s.port p).router.isSome

/-- The path that a request makes from a port and index of its GID, where the port has the next hop (R292, R656). -/
def State.pathAt (s : State) (r : PathReq) (e : Nat × Nat) : Option Path :=
  if s.nextHop e.1 e.2 r.remoteGid then
    some { port := e.1, gidIndex := e.2, localGid := r.localGid, remoteGid := r.remoteGid, flow := r.flow, tclass := r.tclass,
           hop := r.hop }
  else none

/-- A path of the device from a path of a REQ or LAP: its GID is one of the device's, its next hop is known (R292, R656). -/
def State.pathOf (s : State) (r : PathReq) : Option Path := (s.gidAt r.localGid).bind (s.pathAt r)

/-! ## Frames (R283, R284) -/

/-- Counts a dropped frame in ETH_DROP_p.OTHER. -/
def State.dropOther (s : State) (p : Nat) : State := s.modPort p fun x => { x with dropOther := satInc x.dropOther 0xFFFF }

/-- Counts a dropped RoCEv2 packet in ETH_DROP_p.ICRC (R288). -/
def State.dropIcrc (s : State) (p : Nat) : State := s.modPort p fun x => { x with dropIcrc := satInc x.dropIcrc 0xFFFF }

/-- Whether an address belongs to a port. -/
def State.ownAddress (s : State) (p : Nat) (g : BitVec 128) : Bool := (s.gids p).any fun e => e.2 == g

/-- Answers an echo request: payloads up to 1,024 bytes, at most 100 per second and port. -/
def State.echo (s : State) (p len : Nat) : State :=
  let sec := s.now / 1000000000
  let x := s.port p
  let n := if x.echoSec = sec then x.echoes else 0
  if len ≤ 1024 ∧ n < 100 then (s.modPort p fun y => { y with echoSec := sec, echoes := n + 1 }).emit (.echoReply p len)
  else s.dropOther p

/-- The receive buffer of a port stands at a level (R284): PFC pause at 75 %, release at 50 %. -/
def State.rxLevel (s : State) (p level : Nat) : State :=
  let x := s.port p
  let s := s.modPort p fun y => { y with rxLevel := min 100 level }
  if !bit (s.rv (.ethCfg p)) 27 then s
  else if 75 ≤ level ∧ !x.paused then (s.modPort p fun y => { y with paused := true }).emit (.pfc p true)
  else if level ≤ 50 ∧ x.paused then (s.modPort p fun y => { y with paused := false }).emit (.pfc p false)
  else s

/-- Whether the MAC drops a frame (R283): longer than 4,352 bytes, a bad FCS, or two or more tags. -/
def macDrops (f : RxFrame) : Bool := decide (4352 < f.len) || !f.fcsOk || decide (2 ≤ f.tags)

/-- ETH_FRAME_RECEIVE: a frame is dropped and counted, answered, or passed on; `level` is the receive buffer's level then. -/
def State.frameReceive (s : State) (p : Nat) (f : RxFrame) (level : Nat) : State :=
  if 2 ≤ p ∨ !(s.port p).link then s
  else
    let s := s.rxLevel p level
    if macDrops f then s.dropOther p
    else match f.body with
    | .arp t => if bit (s.rv (.ethIpCtl p)) 31 && t == s.rv (.ethIpv4 p) then s.emit (.arpReply p) else s.dropOther p
    | .neighbour t => if (s.ownAddress p t) then s.emit (.neighbourReply p) else s.dropOther p
    | .routerAdvert r => s.modPort p fun y => { y with router := some r }
    | .echo t len => if s.ownAddress p t then s.echo p len else s.dropOther p
    | .pfcPause prio on =>
      if bit (s.rv (.ethCfg p)) 27 && prio == fld (s.rv (.ethCfg p)) 26 24 then s.peerPause p on
      else s
    | .annex31b | .ptpAccepted | .rocePacket => s
    | .ptpDropped | .roceUnsupported | .other => s.dropOther p

/-! ## Admission (R291-R299, R659) -/

/-- `len` bytes of the admission record from a byte, as a number. -/
def adm (m : ReqMsg) (byte len : Nat) : Nat := m.priv.toNat / 2 ^ (8 * byte) % 2 ^ (8 * len)

/-- RESUME of the admission record. -/
def admResume (m : ReqMsg) : Bool := (adm m 1 1).testBit 0
/-- EVENTS of the admission record. -/
def admEvents (m : ReqMsg) : Bool := (adm m 1 1).testBit 1

/-- A field of Table 8.3 is out of range, a reserved byte is not 0, or R315 is broken. -/
def admBad (m : ReqMsg) : Bool :=
  decide (4 ≤ adm m 1 1) || decide (63 < adm m 2 1) || decide (3 < adm m 3 1) || !within (adm m 4 1) 4 12 ||
  !within (adm m 5 1) 4 14 || (if admEvents m then !within (adm m 6 1) 4 10 else adm m 6 1 != 0) || adm m 7 1 != 0 ||
  adm m 8 8 % 64 != 0 || adm m 20 8 % 64 != 0 || adm m 32 8 % 64 != 0 ||
  (!admEvents m && (adm m 32 8 != 0 || adm m 40 4 != 0)) || !within (adm m 44 2) 1 256 || !within (adm m 46 2) 1 10000 ||
  (!admResume m && adm m 48 16 != 0) || adm m 64 28 != 0

/-- REQ fields of R292 outside their ranges. -/
def reqBad (m : ReqMsg) : Bool :=
  decide (7 < m.retry) || decide (7 < m.rnrRetry) || !within m.ackExp 4 20 || !within m.respRes 1 16 ||
  !(m.pmtu == 1024 || m.pmtu == 2048 || m.pmtu == 4096)

/-- The paths a REQ gives, or none where R292 or R656 rejects them. -/
def State.reqPaths (s : State) (m : ReqMsg) : Option (Path × Option Path) :=
  if reqBad m then none
  else match s.pathOf m.primary with
    | none => none
    | some p => match m.alternate with
      | none => some (p, none)
      | some a => match s.pathOf a with
        | none => none
        | some q => if q.port = p.port then none else some (p, some q)

/-- The P_Key matches a valid entry in bits [14:0] (R293). -/
def State.pkeyOk (s : State) (k : BitVec 16) : Bool :=
  (List.range 8).any fun i => bit (s.rv (.ethPkey i)) 31 && fld (s.rv (.ethPkey i)) 14 0 == k.toNat % 2 ^ 15

/-- The lineage that has a token. -/
def State.lineageOf (s : State) (token : Nat) : Option Nat :=
  (s.eqt.lineages.find? fun l => l.2.token.toNat == token).map Prod.fst

/-- The checks of R659, in order: a REJ reason and status, or none. -/
def State.admCheck (s : State) (m : ReqMsg) : Option (Nat × BitVec 16) :=
  if m.serviceId ≠ 0x4551 then some (8, 0)
  else if !m.rc then some (9, 0)
  else if !s.eqt.acceptCmds then some (28, 0x0247)
  else if adm m 0 1 ≠ 2 then some (28, 0x0240)
  else if admBad m then some (28, 0x0241)
  else if (s.reqPaths m).isNone then some (28, 0x0246)
  else if !s.pkeyOk m.pkey then some (28, 0x0245)
  else if admResume m && (s.lineageOf (adm m 48 16)).isNone then some (28, 0x0244)
  else if admResume m && (match s.lineageOf (adm m 48 16) with
      | some l => (match aget s.eqt.lineages l with | some x => x.group != adm m 2 1 | none => true)
      | none => true) then some (28, 0x0241)
  else if 1024 ≤ s.eqt.sessions.length then some (28, 0x0242)
  else if !admResume m && decide (4096 ≤ s.eqt.lineages.length) then some (28, 0x0243)
  else none

/-- A new session as a REQ describes it (R295, R316, R336, R400). (DESIGN CHOICE, unsafe: log entry 74.) -/
def State.newSession (s : State) (m : ReqMsg) (p : Path) (alt : Option Path) (lin : Nat) (created : Bool) : Session :=
  let cap := 1024 * 2 ^ fld (s.rv (.ethCfg p.port)) 17 16
  { freeSession with
    state := .admitting, group := adm m 2 1, qos := adm m 3 1, events := admEvents m, sqLog := adm m 4 1,
    sqAddr := BitVec.ofNat 64 (adm m 8 8), sqRkey := BitVec.ofNat 32 (adm m 16 4), modCount := adm m 44 2,
    modTime := adm m 46 2, pkey := m.pkey, path := p, alt := alt, retry := m.retry, rnrRetry := m.rnrRetry,
    ackExp := m.ackExp, respRes := m.respRes, pmtu := min m.pmtu cap, lineage := lin, createdLineage := created,
    admitDeadline := s.now + 1000000000, epsn := m.psn, spsn := 0, rate := s.portRate p.port, rateStep := s.now,
    cq := { emptyCompRing with log2 := adm m 5 1, addr := BitVec.ofNat 64 (adm m 20 8), rkey := BitVec.ofNat 32 (adm m 28 4) },
    eq := { emptyEventRing with log2 := adm m 6 1, addr := BitVec.ofNat 64 (adm m 32 8), rkey := BitVec.ofNat 32 (adm m 40 4) },
    lwSize := 2 ^ 20 * fld (s.rv .eqtPushCfg) 31 24 }

/-- The lineage of an admission: a new one with a token from the random generator, or the one resumed, whose bound session ends
(R297, R299). Answers its number. -/
def State.takeLineage (s : State) (m : ReqMsg) : State × Nat :=
  if admResume m then
    match s.lineageOf (adm m 48 16) with
    | none => (s, 0)
    | some l =>
      let s := match aget s.eqt.lineages l with
        | some x => match x.bound with
          | some j => if (s.sess j).state = .admitting then (s.holdUnsettled j).setSess j freeSession else s.sessionError j
          | none => s
        | none => s
      (s, l)
  else
    let l := s.eqt.nextLineage
    let x : Lineage := { token := (Config.random s.free).setWidth 128, group := adm m 2 1, bound := none,
                         holdUntil := 0, held := [], memory := [], oldPending := 0 }
    let s := s.freeUsed
    ({ s with eqt := { s.eqt with lineages := aput s.eqt.lineages l x, nextLineage := l + 1 } }, l)

/-- A REQ that passes every check is answered with REP (Table 8.4); held completions wait in the new ring (R306, R409). -/
def State.admitReq (s : State) (m : ReqMsg) (p : Path) (alt : Option Path) : State :=
  let i := freeKey s.eqt.sessions 0
  let (s, l) := s.takeLineage m
  match aget s.eqt.lineages l with
  | none => s
  | some x =>
    let old := (s.eqt.cmds.filter fun c => c.2.lineage == l).length
    let ns := s.newSession m p alt l (!admResume m)
    let s := s.setSess i { ns with cq := { ns.cq with waiting := x.held.map fun h => .completion h.2 } }
    let s := s.modLin l fun y => { y with bound := some i, held := [], oldPending := old }
    let pr := s.pair
    let s := s.stamped
    s.emit (.cm p.port (.rep i (admResume m) ns.lwSize x.token pr (x.held.length + old) (s.tim.digest.extractLsb' 0 64)))

/-- REQ: answered with MRA during an activation, with REJ where a check fails, with REP otherwise (R294, R295, R659). -/
def State.req (s : State) (port : Nat) (m : ReqMsg) : State :=
  let busy := match s.eqt.activation with | some a => within a.step 1 4 | none => false
  if 2 ≤ port ∨ !(s.port port).link then s
  else
    let s := s.wakeEvent 2
    if busy then ({ s with eqt := { s.eqt with mraQueue := s.eqt.mraQueue ++ [(port, m)] } }).emit (.cm port .mra)
    else match s.admCheck m with
      | some (reason, status) => s.emit (.cm port (.rej reason status))
      | none => match s.reqPaths m with
        | some (p, alt) => s.admitReq m p alt
        | none => s

/-- The admissions that arrived during an activation are processed after it, in arrival order (R295). -/
def State.drainMra (s : State) : State :=
  let q := s.eqt.mraQueue
  q.foldl (fun s e => s.req e.1 e.2) { s with eqt := { s.eqt with mraQueue := [] } }

/-- LAP (R310): a valid path through the other port becomes the armed alternate; the answer is APR. (DEDUCED, unsafe: log entry 71.) -/
def State.lap (s : State) (i : Nat) (r : PathReq) : State :=
  let x := s.sess i
  if x.state = .active then
    let s := match s.pathOf r with
      | some p => if p.port ≠ x.path.port then s.setSess i { x with alt := some p } else s
      | none => s
    s.emit (.cm x.path.port (.apr i))
  else s

end Sys2Proof.Machine
end

