-- ==== Sys2Proof/Machine/Transfer.lean ====
section
/-! DEFINITION. Data transfer (chapter 9): fetches, chain walks, pulls, grants and push data, delivery of read data, and the host's
answers to device requests. -/

namespace Sys2Proof.Machine

/-! ## Segments (Table 9.6, R329-R332) -/

/-- ADDR of a segment. -/
def sgAddr (g : BitVec 128) : BitVec 64 := g.extractLsb' 0 64
/-- LEN of a segment. -/
def sgLen (g : BitVec 128) : Nat := fldN g 88 64
/-- Bits [27:25] of a segment. -/
def sgZero (g : BitVec 128) : Nat := fldN g 91 89
/-- TYPE of a segment. -/
def sgType (g : BitVec 128) : Nat := fldN g 95 92
/-- RKEY of a segment. -/
def sgRkey (g : BitVec 128) : BitVec 32 := g.extractLsb' 96 32

/-- A DATA segment that breaks nothing of R332 but its length. (DEDUCED, unsafe: log entry 76.) -/
def dataSegOk (g : BitVec 128) : Bool := sgType g == 0 && sgZero g == 0 && sgLen g != 0

/-- A CHAIN segment that breaks nothing of R332. -/
def chainSegOk (g : BitVec 128) : Bool :=
  sgType g == 1 && sgZero g == 0 && within (sgLen g) 16 4096 && sgLen g % 16 == 0 && (sgAddr g).toNat % 16 == 0

/-- What a walk has found: the DATA segments so far, a chain to follow, or the status it ends with. -/
inductive WalkResult where
  | more (segs : List Seg) (c : ChainRef)
  | done (segs : List Seg)
  | bad (status : BitVec 16)
  deriving DecidableEq, Repr

/-- Walks the segments of one list in order (R329-R331); `hops` counts the lists fetched before. (DEDUCED, unsafe: log entry 75.) -/
def walkList (segs : List Seg) (hops : Nat) : List (BitVec 128) → WalkResult
  | [] => .done segs
  | g :: rest =>
    if dataSegOk g then
      (if 256 ≤ segs.length then .bad 0x0212
       else walkList (segs ++ [{ addr := sgAddr g, len := sgLen g, rkey := sgRkey g }]) hops rest)
    else if chainSegOk g then
      (if !rest.isEmpty then .bad 0x0210
       else if 16 ≤ hops then .bad 0x0212
       else .more segs { addr := sgAddr g, len := sgLen g, rkey := sgRkey g })
    else .bad 0x0210

/-- The length of a command's data (R350, R359, Table 10.1). -/
def dataLen (c : Cmd) : Nat :=
  let e := c.entry
  let unit := if ePi e = 2 then 4160 else 4096
  match eOp e with
  | 1 | 2 => eNblk e * unit
  | 6 => (c.ranges.map Range.nblk).sum * unit
  | 9 => 16 * ef e 32 13
  | 0x42 => ef e 160 32
  | 0x45 => ef e 192 32
  | 0x46 => 8192
  | _ => 0

/-- Blocks of a block command. -/
def cmdBlocks (c : Cmd) : Nat := if eOp c.entry = 6 then (c.ranges.map Range.nblk).sum else eNblk c.entry

/-- The protection segment of PI 0b01 is a DATA segment of 64 bytes a block (R329, R330). -/
def protStatus (c : Cmd) : Option (BitVec 16) :=
  if blockData (eOp c.entry) && ePi c.entry == 1 then
    let g := ePptr c.entry
    if !dataSegOk g then some 0x0210 else if sgLen g ≠ 64 * cmdBlocks c then some 0x0211 else none
  else none

/-! ## Blocks and bytes (R11, R319, R320) -/

/-- The 64 bytes of host protection. -/
def protBytes (p : Prot) : List Byte :=
  leBytes 8 p.crc.toNat ++ leBytes 8 p.ref.toNat ++ leBytes 8 p.wtime.toNat ++ List.replicate 40 0

/-- 4,096 bytes as a block's data. -/
def dataOf (bs : List Byte) : BlockData := BitVec.ofNat 32768 (leNat bs)

/-- The protection that 64 bytes hold. -/
def protOf (bs : List Byte) : Prot :=
  { crc := BitVec.ofNat 64 (leAt bs 0 8), ref := BitVec.ofNat 64 (leAt bs 8 8), wtime := BitVec.ofNat 64 (leAt bs 16 8) }

/-- The 40 reserved bytes of host protection are 0. -/
def protZero (bs : List Byte) : Bool := leAt bs 24 40 == 0

/-- Bytes of block k of a command's data and of its protection, as they arrived. -/
def arrivedBlock (c : Cmd) (data prot : List Byte) (k : Nat) : List Byte × List Byte :=
  match ePi c.entry with
  | 1 => (sliceBytes data (4096 * k) 4096, sliceBytes prot (64 * k) 64)
  | 2 => (sliceBytes data (4160 * k) 4096, sliceBytes data (4160 * k + 4096) 64)
  | _ => (sliceBytes data (4096 * k) 4096, [])

/-- Every piece of a command's data, in order. -/
def allArrived (c : Cmd) : List Byte := (avals c.arrived).flatten

/-- Host-supplied protection of every block passes (R320). -/
def protPasses (c : Cmd) : Bool :=
  let data := allArrived c
  let prot := (avals c.protArrived).flatten
  ePi c.entry == 0 || (List.range (eNblk c.entry)).all fun k =>
    let (d, p) := arrivedBlock c data prot k
    (protOf p).crc == dataCrc (dataOf d) && protZero p

/-- The blocks a WRITE stores (R319, R320, R369), accepted at a time. -/
def writtenBlocks (c : Cmd) (time : Nat) : List BlockVal :=
  let data := allArrived c
  let prot := (avals c.protArrived).flatten
  (List.range (eNblk c.entry)).map fun k =>
    let (d, p) := arrivedBlock c data prot k
    let v := dataOf d
    if ePi c.entry = 0 then
      { data := v, prot := { crc := dataCrc v, ref := BitVec.ofNat 64 (eLba c.entry + k), wtime := BitVec.ofNat 64 time } }
    else
      let q := protOf p
      { data := v, prot := { q with wtime := if q.wtime = 0 then BitVec.ofNat 64 time else q.wtime } }

/-- The data bytes a READ or GATHER delivers, and its protection bytes (Table 9.3, R360). -/
def deliveredBytes (c : Cmd) : List Byte × List Byte :=
  let vs := c.bound.map Bound.val
  match ePi c.entry with
  | 1 => (vs.flatMap fun v => dataBytes v.data, vs.flatMap fun v => protBytes v.prot)
  | 2 => (vs.flatMap fun v => dataBytes v.data ++ protBytes v.prot, [])
  | _ => (vs.flatMap fun v => dataBytes v.data, [])

/-! ## Device requests (R289, R328, R333) -/

/-- Whether a request is an RDMA READ. -/
def isRead (k : ReqKind) : Bool :=
  match k with
  | .fetch _ _ | .chain _ | .rangeList _ | .pull _ _ _ _ => true
  | _ => false

/-- RDMA READ requests outstanding on a session. -/
def readsOut (x : Session) : Nat := (x.reqs.filter fun r => isRead r.kind).length

/-- Whether a session may issue another RDMA READ (R289). -/
def State.mayRead (s : State) (i : Nat) : Bool :=
  let x := s.sess i
  s.reachable i && decide (readsOut x < min 16 x.respRes) && decide (((avals s.eqt.sessions).map readsOut).sum < 4096)

/-- Issues an RDMA READ. -/
def State.readReq (s : State) (i : Nat) (addr : BitVec 64) (rkey : BitVec 32) (len : Nat) (k : ReqKind) : State :=
  let x := s.sess i
  (s.sendPkt i (.readReq x.spsn addr rkey len)).request i (ceilDiv len (max 1 x.pmtu)) k

/-- Where offset `ofs` of a command's data lies: address, R_Key and bytes left in its segment. -/
def segAt : List Seg → Nat → Option (BitVec 64 × BitVec 32 × Nat)
  | [], _ => none
  | g :: rest, ofs => if ofs < g.len then some (g.addr + BitVec.ofNat 64 ofs, g.rkey, g.len - ofs) else segAt rest (ofs - g.len)

/-- Whether a command pulls data from the host. -/
def pullsData (c : Cmd) : Bool := (eOp c.entry == 2 && !ePush c.entry) || eOp c.entry == 0x42

/-- The space a command needs before its pulls is there (R333): a reservation for a WRITE. -/
def pullReady (c : Cmd) : Bool :=
  c.walked && (eOp c.entry == 0x42 || (match c.resv with | some r => r.granted | none => false))

/-- A command is being processed: checked, its status not yet decided. -/
def inWork (c : Cmd) : Bool := c.phase == .waiting || c.phase == .accepted

/-- The RDMA READ a command needs next (R332, R333, R359): its range list, its next list, or its next piece. -/
def nextRead (x : Session) (t : Nat) (c : Cmd) : Option (BitVec 64 × BitVec 32 × Nat × ReqKind) :=
  let out (f : ReqKind → Bool) : Bool := x.reqs.any fun r => f r.kind
  if !inWork c then none
  else if c.listRead && !(out fun k => k == .rangeList t) then
    let g := c.entry.extractLsb' 128 128
    some (sgAddr g, sgRkey g, sgLen g, .rangeList t)
  else match c.chain with
    | some ch => if out (fun k => k == .chain t) then none else some (ch.addr, ch.rkey, ch.len, .chain t)
    | none =>
      if pullsData c && pullReady c then
        let n := dataLen c
        if c.issued < n then
          match segAt c.segs c.issued with
          | some (a, k, left) => let len := min 65536 left
                                 some (a, k, len, .pull t c.issued len false)
          | none => none
        else match c.prot with
          | some p =>
            let ofs := c.issued - n
            if ofs < p.len then
              let len := min 65536 (p.len - ofs)
              some (p.addr + BitVec.ofNat 64 ofs, p.rkey, len, .pull t ofs len true)
            else none
          | none => none
      else none

/-- The command of a session, earliest fetched first, that needs an RDMA READ. -/
def State.readerOf (s : State) (i : Nat) : Option (Nat × Cmd) :=
  ((s.cmdsOf i).filter fun e => (nextRead (s.sess i) e.1 e.2).isSome).foldl (fun b e =>
    match b with
    | none => some e
    | some d => if pairBefore e.2.fetch d.2.fetch then some e else some d) none

/-- Issues the RDMA READs that a session's commands need, while R289 allows; `n` bounds them. -/
def State.pumpReads (s : State) (i : Nat) : Nat → State
  | 0 => s
  | n + 1 =>
    if !s.mayRead i then s
    else match s.readerOf i with
      | none => s
      | some (t, c) =>
        match nextRead (s.sess i) t c with
        | none => s
        | some (a, k, len, kind) =>
          let s := s.readReq i a k len kind
          let s := match kind with
            | .pull _ _ _ _ => s.modCmd t fun c => { c with issued := c.issued + len }
            | _ => s
          s.pumpReads i n

/-- Issues what a session can. -/
def State.pump (s : State) (i : Nat) : State := s.pumpReads i 16

/-! ## The walk -/

/-- A list has been walked: the chain goes on, or the length is judged (R330). -/
def State.walked (s : State) (t : Nat) (r : WalkResult) : State :=
  match s.cmd? t with
  | none => s
  | some c =>
    match r with
    | .bad st => s.endCmd t st 0
    | .more segs ch => (s.modCmd t fun c => { c with segs := segs, chain := some ch }).pump c.sess
    | .done segs =>
      if (segs.map Seg.len).sum ≠ dataLen c then s.endCmd t 0x0211 0
      else (s.modCmd t fun c => { c with segs := segs, chain := none, walked := true }).pump c.sess

/-- The walk begins at DPTR, once the protection segment is judged. -/
def State.startWalk (s : State) (t : Nat) : State :=
  match s.cmd? t with
  | none => s
  | some c =>
    match protStatus c with
    | some st => s.endCmd t st 0
    | none =>
      let g := ePptr c.entry
      let s := if blockData (eOp c.entry) && ePi c.entry == 1 then
          s.modCmd t fun c => { c with prot := some { addr := sgAddr g, len := sgLen g, rkey := sgRkey g } } else s
      s.walked t (walkList [] 0 [eDptr c.entry])

/-- A chain list arrives (R331, R332). -/
def State.chainArrived (s : State) (t : Nat) (bs : List Byte) : State :=
  match s.cmd? t with
  | none => s
  | some c =>
    match inWork c, c.chain with
    | true, some ch =>
      let gs := (List.range (ch.len / 16)).map fun k => BitVec.ofNat 128 (leAt bs (16 * k) 16)
      let s := s.modCmd t fun c => { c with hops := c.hops + 1, chain := none }
      s.walked t (walkList c.segs (c.hops + 1) gs)
    | _, _ => s

/-- The entries of a range list (Table 10.6); none where one of them breaks the table or they add up to more than 4,096
blocks. -/
def rangesFrom (nsid n : Nat) (bs : List Byte) : Option (List Range) :=
  let l := (List.range n).map fun k => ({ nsid := nsid, lba := leAt bs (16 * k) 8, nblk := leAt bs (16 * k + 8) 2 } : Range)
  let good := (List.range n).all fun k => within (leAt bs (16 * k + 8) 2) 1 4096 && leAt bs (16 * k + 10) 6 == 0
  if good && decide ((l.map Range.nblk).sum ≤ 4096) then some l else none

/-- A GATHER's range list arrives (R359): judged before DPTR is walked. -/
def State.rangesArrived (s : State) (t : Nat) (bs : List Byte) : State :=
  match s.cmd? t with
  | none => s
  | some c =>
    if !inWork c then s
    else match rangesFrom (eNsid c.entry) (ef c.entry 32 9) bs with
      | none => s.endCmd t 0x0002 0
      | some l =>
        if l.any fun r => decide ((s.ns r.nsid).capacity < r.lba + r.nblk) then s.endCmd t 0x0006 0
        else (s.modCmd t fun c => { c with ranges := l, listRead := false }).startWalk t

/-! ## Write data (R333-R342) -/

/-- The data of a WRITE is present and its protection is checked (R320, R54). -/
def State.dataCheck (s : State) (t : Nat) : State :=
  match s.cmd? t with
  | none => s
  | some c =>
    let len (a : Assoc (List Byte)) : Nat := ((avals a).map List.length).sum
    let protLen := match c.prot with | some p => p.len | none => 0
    if inWork c ∧ !c.present ∧ len c.arrived = dataLen c ∧ len c.protArrived = protLen then
      if eOp c.entry = 2 && !protPasses c then s.endCmd t 0x0007 0
      else s.modCmd t fun c => { c with present := true }
    else s

/-- A pulled piece arrives (R333, R335); `bad` is the mask of the landing copies of it that fail their check. With one,
acceptance waits for another copy; with both, the data is fetched again (R58). -/
def State.pullArrived (s : State) (t ofs len : Nat) (isProt : Bool) (bs : List Byte) (bad : Nat) : State :=
  match s.cmd? t with
  | none => s
  | some c =>
    if !inWork c then s
    else if bad = 3 ∧ eOp c.entry = 2 then
      let key := if isProt then 2 ^ 32 + ofs else ofs
      let n := agetD c.retries key 0
      if 2 ≤ n then s.endCmd t 0x0215 0
      else
        let s := s.modCmd t fun c => { c with retries := aput c.retries key (n + 1) }
        let from_ := if isProt then c.prot.map fun p => (p.addr + BitVec.ofNat 64 ofs, p.rkey, p.len) else segAt c.segs ofs
        match from_ with
        | some (a, k, _) => s.readReq c.sess a k len (.pull t ofs len isProt)
        | none => s
    else
      let s := s.modCmd t fun c =>
        let c := { c with recopy := if eOp c.entry = 2 then c.recopy ||| bad else c.recopy }
        if isProt then { c with protArrived := aput c.protArrived ofs (sliceBytes bs 0 len) }
        else { c with arrived := aput c.arrived ofs (sliceBytes bs 0 len) }
      s.dataCheck t

/-- Bytes of one block of a push command. -/
def pushUnit (c : Cmd) : Nat := if ePi c.entry = 2 then 4160 else 4096

/-- G_eff in bytes (R337). -/
def State.pieceMax (s : State) (c : Cmd) : Nat :=
  min (fld (s.rv .eqtPushCfg) 12 0) ((s.sess c.sess).lwSize / pushUnit c) * pushUnit c

/-- The occupied ranges of a landing window: outstanding grants and quarantines. -/
def windowUsed (x : Session) : List (Nat × Nat) :=
  (x.grants.map fun g => (g.entry.winOfs, g.entry.len)) ++ x.quarantine.map fun q => (q.ofs, q.len)

/-- The lowest offset at or after `a` at which `len` bytes of the window are free (R339). -/
def windowSpot (x : Session) (a len : Nat) : Option Nat :=
  let used := windowUsed x
  let ok (o : Nat) : Bool := decide (o + len ≤ x.lwSize) && used.all fun u => decide (o + len ≤ u.1) || decide (u.1 + u.2 ≤ o)
  ((a :: used.map fun u => u.1 + u.2).filter fun o => decide (a ≤ o) && ok o).min?

/-- GRANT_ISSUE (R337-R339, R341). -/
def State.grantIssue (s : State) (t : Nat) : State :=
  match s.cmd? t with
  | none => s
  | some c =>
    let x := s.sess c.sess
    let granted : Bool := match c.resv with | some r => r.granted | none => false
    if eOp c.entry = 2 ∧ ePush c.entry ∧ c.phase = .waiting ∧ c.walked ∧ granted ∧ c.issued < dataLen c ∧
        !(x.grants.any fun g => g.tag == t) ∧ (x.state = .active ∨ x.state = .closing) then
      let len := min (s.pieceMax c) (dataLen c - c.issued)
      let spot := match windowSpot x x.grantEnd len with | some o => some o | none => windowSpot x 0 len
      match spot with
      | none => s
      | some o =>
        let g : GrantEntry := {
          cmdId := eCmdId c.entry, dataOfs := c.issued, len := len, winOfs := o, grantNo := c.grantNo, regrant := c.regranted,
          last := decide (c.issued + len = dataLen c) }
        let s := s.setSess c.sess { x with
          grantEnd := o + len,
          grants := x.grants ++ [{
            tag := t, entry := g, written := [], tmo := 1000000 * fld (s.rv .eqtPushCfg) 23 16, notified := false, deadline := 0 }] }
        let s := s.modCmd t fun c => { c with grantNo := c.grantNo + 1 }
        s.cqPush c.sess (.grant g)
    else s

/-- Writes bytes over those recorded, byte by byte. -/
def writeOver (m : Assoc Byte) (o : Nat) : List Byte → Assoc Byte
  | [] => m
  | b :: bs => writeOver (aput m o b) (o + 1) bs

/-- A granted piece has fully arrived (R337, R341). -/
def State.pieceArrived (s : State) (i : Nat) (g : Grant) (bad : Nat) : State :=
  let s := s.modSess i fun x => { x with grants := x.grants.filter fun h => h.tag != g.tag }
  if bad = 3 then
    (if g.entry.regrant then s.endCmd g.tag 0x0214 0
     else s.modCmd g.tag fun c => { c with regranted := true })
  else
    let s := s.modCmd g.tag fun c => { c with
      arrived := aput c.arrived g.entry.dataOfs (avals g.written), issued := g.entry.dataOfs + g.entry.len, regranted := false,
      recopy := c.recopy ||| bad }
    s.dataCheck g.tag

/-- Push data in a landing window (R340-R342): `some` state, or none where it touches bytes outside every outstanding grant and
quarantined range. `bad` is the mask of the landing copies of the piece that fail their check once it has arrived (R58). -/
def State.pushInto (s : State) (i ofs : Nat) (bs : List Byte) (bad : Nat) : Option State :=
  let x := s.sess i
  let n := bs.length
  match x.grants.find? fun g => decide (g.entry.winOfs ≤ ofs) && decide (ofs + n ≤ g.entry.winOfs + g.entry.len) with
  | some g =>
    let g := { g with written := writeOver g.written (ofs - g.entry.winOfs) bs }
    let s := s.setSess i { x with grants := x.grants.map fun h => if h.tag = g.tag then g else h }
    some (if g.written.length = g.entry.len then s.pieceArrived i g bad else s)
  | none =>
    let covered := (List.range n).all fun k => x.quarantine.any fun q => decide (q.ofs ≤ ofs + k) && decide (ofs + k < q.ofs + q.len)
    if covered then some s else none

/-- PUSH_DATA_WRITE: push data written by the host at an offset of its window. -/
def State.pushData (s : State) (i ofs : Nat) (bs : List Byte) (bad : Nat) : State :=
  let x := s.sess i
  if x.state = .active ∨ x.state = .closing then
    match s.pushInto i ofs bs bad with
    | some s => s
    | none => s.sendPkt i (.nak x.epsn 2)
  else s

/-- PUSH_TIMEOUT (R341, R342). -/
def State.pushTimeout (s : State) (t : Nat) : State :=
  match s.cmd? t with
  | none => s
  | some c =>
    match (s.sess c.sess).grants.find? fun g => g.tag == t && g.notified with
    | none => s
    | some g => (s.advanceTo g.deadline).endCmd t (if g.entry.regrant then 0x0214 else 0x0213) 0

/-- QUARANTINE_END: the oldest quarantined range becomes grantable again. -/
def State.quarantineEnd (s : State) (i : Nat) : State :=
  match (s.sess i).quarantine with
  | [] => s
  | q :: rest => (s.advanceTo q.until_).modSess i fun x => { x with quarantine := rest }

/-! ## Read data (R343) -/

/-- Writes bytes into the host's buffers from an offset of the command's data: at most 64 KiB and within one segment each. -/
def State.sendData (s : State) (t i : Nat) (segs : List Seg) (ofs : Nat) (bs : List Byte) : Nat → State
  | 0 => s
  | n + 1 =>
    if bs.isEmpty then s
    else match segAt segs ofs with
      | none => s
      | some (a, k, left) =>
        let len := min (min 65536 left) bs.length
        let s := s.sendPkt i (.dataWrite t a k (bs.take len))
        let s := s.request i (ceilDiv len (max 1 (s.sess i).pmtu)) (.data t (decide (bs.length = len)))
        s.sendData t i segs (ofs + len) (bs.drop len) n

/-- Delivers a command's data, and its protection into PPTR. -/
def State.deliver (s : State) (t : Nat) (c : Cmd) (data prot : List Byte) : State :=
  let s := s.sendData t c.sess c.segs 0 data (data.length / 65536 + 1 + c.segs.length)
  match c.prot with
  | some p => s.sendData t c.sess [p] 0 prot (prot.length / 65536 + 2)
  | none => s

/-! ## Fetching (R326-R328) -/

/-- Entries of a session waiting to be fetched. -/
def entriesWaiting (x : Session) : Nat := (x.tail + 2 ^ x.sqLog - x.fetchPos) % 2 ^ x.sqLog

/-- Whether a session may fetch (R325, R378, R389, R515, R519; Table 15.8 step 1). -/
def State.mayFetch (s : State) (i : Nat) : Bool :=
  let x := s.sess i
  s.pwr.point == 0 && s.pwr.change.isNone && !s.pwr.umbra &&
  x.state == .active && !x.stopFetch && entriesWaiting x != 0 && s.mayRead i &&
  decide (s.tagsOf i < fld (s.rv .eqtFetchCfg) 31 16) && decide (0 < s.tagsFree) &&
  (match s.eqt.activation with | some a => a.step == 0 || a.step == 5 | none => true)

/-- Sessions in round-robin order from the one whose turn it is. (DESIGN CHOICE, unsafe: log entry 68.) -/
def State.fetchOrder (s : State) : List Nat :=
  (s.sessIds.filter fun i => decide (s.eqt.rrNext ≤ i)) ++ s.sessIds.filter fun i => decide (i < s.eqt.rrNext)

/-- The session that gets the next free tags (R327): one that holds fewer than 16, else the next in turn. -/
def State.fetchChoice (s : State) : Option Nat :=
  let l := s.fetchOrder.filter fun i => s.mayFetch i
  match l.find? fun i => decide (s.tagsOf i < 16) with
  | some i => some i
  | none => l.head?

/-- FETCH_ISSUE: one batch, never across the ring's end (R326, R327). -/
def State.fetchIssue (s : State) : State :=
  match s.fetchChoice with
  | none => s
  | some i =>
    let x := s.sess i
    let cap := if s.tagsOf i < 16 then 16 - s.tagsOf i else fld (s.rv .eqtFetchCfg) 31 16 - s.tagsOf i
    let n := min (min (entriesWaiting x) (fld (s.rv .eqtFetchCfg) 6 0)) (min (2 ^ x.sqLog - x.fetchPos) (min cap s.tagsFree))
    let s := s.readReq i (x.sqAddr + BitVec.ofNat 64 (64 * x.fetchPos)) x.sqRkey (64 * n) (.fetch x.fetchPos n)
    let s := s.modSess i fun y => { y with fetchPos := (x.fetchPos + n) % 2 ^ x.sqLog }
    { s with eqt := { s.eqt with rrNext := i + 1 } }

/-- A command in flight as its entry arrives. -/
def newCmd (i lin slot : Nat) (e : BitVec 512) (p : Pair) : Cmd :=
  { sess := i, lineage := lin, entry := e, fetch := p, slot := slot, phase := .handed, accept := none, walked := false,
    segs := [], hops := 0, chain := none, prot := none, ranges := [], listRead := false, resv := none, issued := 0,
    arrived := [], protArrived := [], retries := [], recopy := 0, grantNo := 0, regranted := false, present := false,
    copyStarted := false, bound := [], status := 0, result := 0, endPair := p, heldEnd := false,
    claimWait := false, payload := [], awaits := [], noRecord := false, replay := false }

/-- One entry arrives: it gets a tag and its fetch pair (R326, R327). -/
def State.entryArrived (s : State) (i slot : Nat) (e : BitVec 512) : State :=
  let c := newCmd i (s.sess i).lineage slot e s.pair
  let s := s.stamped
  { s with eqt := { s.eqt with cmds := aput s.eqt.cmds (freeKey s.eqt.cmds 0) c } }

/-- The entries of a fetch arrive, in ring order; after a QUEUE_RESET none is handed on (R378). -/
def State.fetchArrived (s : State) (i slot n : Nat) (bs : List Byte) : State :=
  if (s.sess i).stopFetch then s
  else (List.range n).foldl (fun s k => s.entryArrived i (slot + k) (BitVec.ofNat 512 (leAt bs (64 * k) 64))) s

/-! ## The host's answers (R288, R304, R333, R405) -/

/-- The session has heard from the host: silence is counted anew while requests remain (R309). -/
def State.heard (s : State) (i : Nat) : State :=
  s.modSess i fun x => { x with silentSince := if x.reqs.isEmpty then none else some s.now }

/-- RDMA_READ_RESPONSE: data of the oldest outstanding RDMA READ; every request before it is answered with it. -/
def State.readResponse (s : State) (i : Nat) (bs : List Byte) (bad : Nat) : State :=
  let x := s.sess i
  if x.state ≠ .active ∧ x.state ≠ .closing then s
  else match x.reqs.dropWhile fun r => !isRead r.kind with
    | [] => s
    | r :: rest =>
      let s := (s.setSess i { x with reqs := rest }).heard i
      let s := match r.kind with
        | .fetch slot n => s.fetchArrived i slot n bs
        | .chain t => s.chainArrived t bs
        | .rangeList t => s.rangesArrived t bs
        | .pull t ofs len isProt => s.pullArrived t ofs len isProt bs bad
        | _ => s
      (s.pump i).freeCheck i

/-- Requests that an acknowledgement of a PSN answers: those wholly at or before it, up to the first RDMA READ. -/
def ackedBy (psn : BitVec 24) (l : List DevReq) : List DevReq :=
  l.dropWhile fun r => !isRead r.kind && decide ((psn - (r.psn + BitVec.ofNat 24 (r.npsn - 1))).toNat < 2 ^ 23)

/-- Resends from a PSN. -/
def State.resendFrom (s : State) (i : Nat) (psn : BitVec 24) : State :=
  let s := s.modSess i fun x => { x with reqs := x.reqs.map fun r => { r with deadline := s.now + ackTimeout x } }
  s.sendPkt i (.resend psn true)

/-- ROCE_ACK_RECEIVE: an ACK completes requests; a NAK of access, operation or request ends the session (R304). -/
def State.ackReceive (s : State) (i : Nat) (k : AckKind) (psn : BitVec 24) : State :=
  let x := s.sess i
  if x.state ≠ .active ∧ x.state ≠ .closing then s
  else match k with
    | .ack => ((s.setSess i { x with reqs := ackedBy psn x.reqs }).heard i).freeCheck i
    | .nakSeq => ((s.setSess i { x with reqs := ackedBy (psn - 1) x.reqs }).heard i).resendFrom i psn
    | _ => s.sessionError i

/-- A request has used up its retries: the other path is tried, or the session enters ERROR (R304). -/
def State.exhausted (s : State) (i : Nat) : State := if s.altUsable i then s.migrate i else s.sessionError i

/-- RNR_NAK_RECEIVE (R292, R405): the oldest request is retried; a count of 7 retries without limit. -/
def State.rnrNak (s : State) (i : Nat) : State :=
  let x := s.sess i
  if x.state ≠ .active ∧ x.state ≠ .closing then s
  else match x.reqs with
    | [] => s
    | r :: rest =>
      if x.rnrRetry < 7 ∧ x.rnrRetry ≤ r.rnrTries then s.exhausted i
      else
        let s := s.setSess i { x with reqs := { r with rnrTries := r.rnrTries + 1 } :: rest }
        (s.heard i).resendFrom i r.psn

/-- REQUEST_RETRY_TIMEOUT: the oldest request has not been answered within the local ACK timeout. -/
def State.retryTimeout (s : State) (i : Nat) : State :=
  let x := s.sess i
  if x.state ≠ .active ∧ x.state ≠ .closing then s
  else match x.reqs with
    | [] => s
    | r :: rest =>
      let s := s.advanceTo r.deadline
      if x.retry ≤ r.tries then s.exhausted i
      else (s.setSess i { x with reqs := { r with tries := r.tries + 1 } :: rest }).resendFrom i r.psn

/-! ## Doorbells (R322-R325, R402, R423) -/

/-- A doorbell is ignored and counted (R323). -/
def State.dbBad (s : State) : State := { s with eqt := { s.eqt with dbBad := satInc s.eqt.dbBad 255 } }

/-- Whether a doorbell word is malformed for a ring of 2^log2 entries (R323). -/
def badDoorbell (w : DWord) (log2 : Nat) : Bool := fldN w 63 16 != 0 || decide (2 ^ log2 ≤ fldN w 15 0)

/-- Whether the session's doorbells are processed. -/
def State.doorbellLive (s : State) (i : Nat) : Bool := (s.sess i).state == .active || (s.sess i).state == .closing

/-- SQ_DB: the tail is replaced (R324), which wakes the device where it makes entries available (R514); during a QUEUE_RESET it
is discarded (R378). -/
def State.sqDb (s : State) (i : Nat) (w : DWord) : State :=
  let x := s.sess i
  if !s.doorbellLive i then s
  else if badDoorbell w x.sqLog then s.dbBad
  else
    let s := if x.stopFetch then s else s.setSess i { x with tail := fldN w 15 0 }
    let s := if entriesWaiting (s.sess i) = 0 then s else s.wakeEvent 1
    s.sendPending i

/-- CQ_DB: the host's head of the completion ring (R402). -/
def State.cqDb (s : State) (i : Nat) (w : DWord) : State :=
  let x := s.sess i
  if !s.doorbellLive i then s
  else if badDoorbell w x.cq.log2 ||
      decide (unconsumed x.cq.log2 x.cq.wr x.cq.head < unconsumed x.cq.log2 (fldN w 15 0) x.cq.head) then s.dbBad
  else
    let s := s.setSess i { x with cq := { x.cq with head := fldN w 15 0 } }
    let s := s.sendPending i
    s.cqDrain i (s.sess i).cq.waiting.length

/-- EV_DB: the host's head of the event ring (R420, R423). -/
def State.evDb (s : State) (i : Nat) (w : DWord) : State :=
  let x := s.sess i
  if !s.doorbellLive i then s
  else if !x.events || badDoorbell w x.eq.log2 ||
      decide (unconsumed x.eq.log2 x.eq.wr x.eq.head < unconsumed x.eq.log2 (fldN w 15 0) x.eq.head) then s.dbBad
  else (s.sendPending i).evHead i (fldN w 15 0)

/-! ## Host writes (R288, R290, R322, R323, R340) -/

/-- A host request packet has been taken: the device acknowledges after 16 packets, or 4 µs after the first (R290). -/
def State.countHostPkt (s : State) (i : Nat) : State :=
  let x := s.sess i
  if 16 ≤ x.hostPkts + 1 then (s.setSess i { x with hostPkts := 0, ackDue := none }).sendPkt i (.ack (x.epsn - 1))
  else s.setSess i { x with hostPkts := x.hostPkts + 1, ackDue := some (x.ackDue.getD (s.now + 4000)) }

/-- HOST_ACK_TIMER. -/
def State.hostAckTimer (s : State) (i : Nat) : State :=
  let x := s.sess i
  match x.ackDue with
  | none => s
  | some t => ((s.advanceTo t).setSess i { x with hostPkts := 0, ackDue := none }).sendPkt i (.ack (x.epsn - 1))

/-- A write to the doorbell page (Table 9.4): an 8-byte word at a doorbell's own offset, or a bad one. -/
def State.pageWrite (s : State) (i ofs : Nat) (bs : List Byte) : State :=
  let w := BitVec.ofNat 64 (leAt bs 0 8)
  if bs.length ≠ 8 then s.dbBad
  else if ofs = 0 then s.sqDb i w
  else if ofs = 8 then s.cqDb i w
  else if ofs = 16 then s.evDb i w
  else s.dbBad

/-- Refuses a request with a NAK (Table 8.2): 0 sequence, 1 invalid request, 2 remote access. -/
def State.nak (s : State) (i code : Nat) : State := s.sendPkt i (.nak (s.sess i).epsn code)

/-- Where the bytes of a packet go: the address and R_Key of its write, from its own header or from the packets before it. -/
def packetSpot (x : Session) (k : WritePkt) : Option (BitVec 64 × BitVec 32) :=
  match k.op with
  | .first | .only => if x.wrCursor.isNone then some (k.addr, k.rkey) else none
  | .middle | .last => x.wrCursor.map fun c => (c.1, c.2.1)
  | .other => none

/-- Whether the length of a packet fits its place in its write. -/
def packetFits (x : Session) (k : WritePkt) : Bool :=
  let n := k.payload.length
  match k.op with
  | .first => decide (n < k.dmaLen) && n == x.pmtu
  | .only => n == k.dmaLen
  | .middle => match x.wrCursor with | some c => decide (n < c.2.2) && n == x.pmtu | none => false
  | .last => match x.wrCursor with | some c => n == c.2.2 | none => false
  | .other => false

/-- A packet of the expected PSN is executed. (PRESUMED, unsafe: log entry 73.) -/
def State.packetExec (s : State) (i : Nat) (k : WritePkt) (bad : Nat) : State :=
  let x := s.sess i
  match packetSpot x k with
  | none => s.nak i 1
  | some (a, key) =>
    if !packetFits x k then s.nak i 1
    else
      let n := k.payload.length
      let left := match k.op with
        | .first => k.dmaLen - n
        | .middle => (match x.wrCursor with | some c => c.2.2 - n | none => 0)
        | _ => 0
      let page := (a - Config.dbAddr i).toNat
      let win := (a - Config.lwAddr i).toNat
      let next := { x with
        epsn := x.epsn + 1, nakSent := false,
        wrCursor := if left = 0 then none else some (a + BitVec.ofNat 64 n, key, left) }
      let whole := match k.op with | .first => k.dmaLen | _ => n + left
      if key = Config.dbRkey i ∧ page + whole ≤ 64 then
        let s := s.setSess i next
        ((if k.op = .only then s.pageWrite i page k.payload else if left = 0 then s.dbBad else s)).countHostPkt i
      else if key = Config.lwRkey i ∧ win + whole ≤ x.lwSize then
        match (s.setSess i next).pushInto i win k.payload bad with
        | some s => s.countHostPkt i
        | none => s.nak i 2
      else s.nak i 2

/-- ROCE_WRITE_RECEIVE: the checks of R288, then the write. `bad` is as for PUSH_DATA_WRITE. -/
def State.writeReceive (s : State) (k : WritePkt) (bad : Nat) : State :=
  if 2 ≤ k.port ∨ !(s.port k.port).link then s
  else
    let x := s.sess k.qp
    if !k.icrcOk || !s.doorbellLive k.qp || k.pkey != x.pkey then s.dropIcrc k.port
    else
      let s := if k.ce && (match x.cnpSent with | none => true | some t => decide (t + 50000 ≤ s.now)) then
          (s.setSess k.qp { x with cnpSent := some s.now }).sendPkt k.qp .cnp else s
      let x := s.sess k.qp
      if k.psn = x.epsn then s.packetExec k.qp k bad
      else if (k.psn - x.epsn).toNat < 2 ^ 23 then
        (if x.nakSent then s else (s.setSess k.qp { x with nakSent := true }).nak k.qp 0)
      else s.sendPkt k.qp (.ack (x.epsn - 1))

end Sys2Proof.Machine
end

