-- ==== Sys2Proof/Machine/Commands.lean ====
section
/-! DEFINITION. Block, zone and namespace commands, queue reset and event claims (chapters 10 and 11): handing to processing,
acceptance, completion. -/

namespace Sys2Proof.Machine

/-! ## Handing to processing (R349, R373-R376) -/

/-- No command of the session fetched before this one still waits to be handed on (R326). -/
def State.oldestHanded (s : State) (t : Nat) (c : Cmd) : Bool :=
  (s.cmdsOf c.sess).all fun d => d.1 == t || d.2.phase != .handed || pairBefore c.fetch d.2.fetch

/-- Another command of the lineage with the same CMD_ID is in flight. -/
def State.idInUse (s : State) (t : Nat) (c : Cmd) : Bool :=
  s.eqt.cmds.any fun d => d.1 != t && d.2.lineage == c.lineage && d.2.phase != .handed && !d.2.noRecord &&
    eCmdId d.2.entry == eCmdId c.entry

/-- The record of a CMD_ID in the completion memory of a lineage. -/
def State.recordOf (s : State) (l : Nat) (id : BitVec 64) : Option CompRecord :=
  match aget s.eqt.lineages l with
  | none => none
  | some x => x.memory.find? fun r => r.comp.cmdId == id

/-- A command is handed to processing: answered from its CMD_ID, ended by the first check of R349 it fails, or put to work. -/
def State.hand (s : State) (t : Nat) (c : Cmd) : State :=
  if c.phase ≠ .handed ∨ !s.oldestHanded t c then s
  else if s.idInUse t c then (s.modCmd t fun c => { c with noRecord := true }).endCmd t 0x0003 0
  else
    let go (s : State) : State := match s.checkEntry c.sess c.entry with
      | some st => s.endCmd t st 0
      | none => s.modCmd t fun c => { c with phase := .waiting }
    match s.recordOf c.lineage (eCmdId c.entry) with
    | some r =>
      if isRepostable r.opcode then go s
      else (s.modCmd t fun c => { c with noRecord := true, replay := true }).settleCmd t r.comp.status r.comp.result r.comp.pair
    | none => go s

/-- The opcode of a row is that of the entry; an entry with an opcode of no row is handed on by any of them, and R346 refuses it. -/
def opIs (c : Cmd) (o : Nat) : Bool := eOp c.entry == o

/-- What a command row does: hands the entry on where that is still to come, and lets the command go on where it has just been put to
work or is at work already. `first` is done once, `later` each time. -/
def State.cmdRow (s : State) (t o : Nat) (first later : State → State) : State :=
  match s.cmd? t with
  | none => s
  | some c =>
    if c.phase = .handed ∧ (opIs c o || !isListedOp (eOp c.entry)) then
      let s := s.hand t c
      match s.cmd? t with
      | none => s
      | some c => if c.phase = .waiting then later (first s) else s
    else if opIs c o && inWork c then later s
    else s

/-! ## Acceptance -/

/-- Whether R364, R365 and R358 let a command be accepted now; `adds` says that its acceptance adds to the dirty total (R60). -/
def State.mayAccept (s : State) (t : Nat) (c : Cmd) (adds : Bool) : Bool :=
  c.phase == .waiting && (if isReadOp (eOp c.entry) then s.readOpen else s.acceptOpen) && s.orderAllows t c &&
  !(isOrderedOp (eOp c.entry) && s.heldByCopy t c) && !(adds && s.admissionHeld)

/-- The row, member and position that the newest effect of a block stands at, if it stands on media. -/
def State.spotOf (s : State) (nsid lba : Nat) : Option (Nat × Nat × Nat) :=
  match aget s.plc.blocks (blockKey nsid lba) with
  | some b => match b.place with | .media r m pos => some (r, m, pos) | _ => none
  | none => none

/-- One block a READ-class command binds to (R117, R368). -/
def State.bindBlock (s : State) (nsid lba : Nat) : Bound :=
  { nsid := nsid, lba := lba, val := s.readBlock nsid lba, spot := s.spotOf nsid lba, onMedia := s.blockOnMedia nsid lba,
    got := !s.blockOnMedia nsid lba && !s.blockLost nsid lba, lost := s.blockLost nsid lba }

/-- The blocks of ranges, in their order. -/
def State.bindRanges (s : State) (rs : List Range) : List Bound :=
  rs.flatMap fun r => (List.range r.nblk).map fun k => s.bindBlock r.nsid (r.lba + k)

/-- The device address of what the map has of a block. -/
def State.mapAddr (s : State) (key : Nat) : Nat := 2 ^ 20 * (mapBase + 512) + 65536 * s.pageOf key + Config.mapByte key % 65536

/-- The map is looked up for the blocks of ranges that the landing index does not hold: lines of the map come into the cache (R62, R474). -/
def State.mapLookups (s : State) (rs : List Range) : State :=
  let keys := rs.flatMap fun r => ((List.range r.nblk).map fun k => blockKey r.nsid (r.lba + k)).filter fun k =>
    match aget s.plc.blocks k with | some b => b.place != .landing | none => true
  let l := keys.foldl (fun s k => s.allocRead lookupAgent (s.mapAddr k)) s
  { s with cch := l.cch, hbm := { s.hbm with mem := l.hbm.mem }, free := l.free }

/-- A command is accepted and binds to blocks, whose media reads are queued (R368, R429). (DEDUCED, unsafe: log entry 77.) -/
def State.acceptReads (s : State) (t : Nat) (c : Cmd) (rs : List Range) : State :=
  let p := s.pair
  let bound := s.bindRanges rs
  let s := (((s.mapLookups rs).accept t)).modCmd t fun c => { c with bound := bound }
  s.queueReads t (s.sess c.sess).qos p bound

/-- Every map page that the blocks of ranges need is there (R26): a block found in the landing index needs none (R62). -/
def State.pagesHere (s : State) (rs : List Range) : Bool :=
  rs.all fun r => (List.range r.nblk).all fun k =>
    (match aget s.plc.blocks (blockKey r.nsid (r.lba + k)) with | some b => b.place == .landing | none => false) ||
      !s.pageOut (blockKey r.nsid (r.lba + k))

/-- READ, GATHER and VERIFY are accepted once they have passed their checks and R365 allows it; a map page that was lost is waited for
(R26). -/
def State.tryRead (s : State) (t : Nat) : State :=
  match s.cmd? t with
  | none => s
  | some c => if s.mayAccept t c false && !c.listRead && s.pagesHere (s.rangesOf c) then s.acceptReads t c (s.rangesOf c) else s

/-- READ (R350, R351, R368). -/
def State.cmdRead (s : State) (t : Nat) : State := s.cmdRow t 1 (fun s => s.startWalk t) (fun s => s.tryRead t)

/-- GATHER (R359, R360): the list is read first. -/
def State.cmdGather (s : State) (t : Nat) : State :=
  s.cmdRow t 6 (fun s => match s.cmd? t with
    | none => s
    | some c =>
      let g := c.entry.extractLsb' 128 128
      if !dataSegOk g then s.endCmd t 0x0210 0
      else if sgLen g ≠ 16 * ef c.entry 32 9 then s.endCmd t 0x0211 0
      else (s.modCmd t fun c => { c with listRead := true }).pump c.sess) (fun s => s.tryRead t)

/-- VERIFY (R354). -/
def State.cmdVerify (s : State) (t : Nat) : State :=
  s.cmdRow t 7 (fun s => s.modCmd t fun c => { c with walked := true }) (fun s => s.tryRead t)

/-- READ_DATA_DELIVERED (R343, R351, R354): once every block is obtained or lost, the data is written to the host and the command
completes; a ZONE_REPORT, GET_LOG or ATTEST delivers what its acceptance prepared. -/
def State.readDelivered (s : State) (t : Nat) : State :=
  match s.cmd? t with
  | none => s
  | some c =>
    if c.phase ≠ .accepted ∨ !c.walked then s
    else if eOp c.entry = 7 ∨ blockData (eOp c.entry) then
      if !(c.bound.all fun b => b.got || b.lost) then s
      else match c.bound.find? fun b => b.lost with
        | some b => s.endCmd t 0x0100 (BitVec.ofNat 48 b.lba)
        | none =>
          if eOp c.entry = 7 then s.endCmd t 0 0
          else if !s.reachable c.sess then s
          else
            let (d, p) := deliveredBytes c
            (s.deliver t c d p).endCmd t 0 0
    else if eOp c.entry = 9 ∨ eOp c.entry = 0x45 ∨ eOp c.entry = 0x46 then
      if !s.reachable c.sess then s else (s.deliver t c c.payload []).endCmd t 0 c.result
    else s

/-! ## Reservations and writes (R54-R60, R352, R357-R364) -/

/-- The pair of stacks a reservation takes: the first pair, in order of number, in which it fits.
(DESIGN CHOICE, unsafe: log entry 66.) -/
def State.resvPair (s : State) (blocks : Nat) (placed : Bool) : Option (Nat × Nat) :=
  (s.stacks.flatMap fun a => (s.stacks.filter fun b => decide (a < b)).map fun b => (a, b)).find? fun e =>
    s.resvFits blocks e.1 e.2 placed

/-- A WRITE or COPY fetched before a pair is still to be handed on, so that its reservation may come first (R56). -/
def State.earlierFetched (s : State) (p : Pair) : Bool :=
  s.eqt.cmds.any fun c => c.2.phase == .handed && (eOp c.2.entry == 2 || eOp c.2.entry == 5) && pairBefore c.2.fetch p

/-- The first reservation that waits is granted where it fits and none fetched before it can still come (R56). -/
def State.grantResv (s : State) : State :=
  match s.plc.resvQueue with
  | [] => s
  | t :: rest => match s.cmd? t with
    | none => { s with plc := { s.plc with resvQueue := rest } }
    | some c => match (if s.earlierFetched c.fetch then none
        else s.resvPair (eNblk c.entry) ((s.ns (eNsid c.entry)).kind == .placed)) with
      | none => s
      | some (a, b) =>
        let s := s.modCmd t fun c => { c with resv := some { blocks := eNblk c.entry, granted := true, stackA := a, stackB := b } }
        ({ s with plc := { s.plc with resvQueue := rest } }).pump c.sess

/-- A reservation joins the queue in fetch order and is granted at once where it is first and fits. -/
def State.reserve (s : State) (t : Nat) : State :=
  match s.cmd? t with
  | none => s
  | some c =>
    if c.phase ≠ .waiting then s
    else
      let before (d : Nat) : Bool := match s.cmd? d with | some x => pairBefore x.fetch c.fetch | none => true
      let q := s.plc.resvQueue
      let s := s.modCmd t fun c => { c with resv := some { blocks := eNblk c.entry, granted := false, stackA := 0, stackB := 0 } }
      let s := { s with plc := { s.plc with resvQueue := q.takeWhile before ++ t :: q.dropWhile before } }
      if s.plc.resvQueue.head? = some t then s.grantResv else s

/-- WRITE (R333, R337, R352): its landing reservation is asked for and its chain is walked. -/
def State.cmdWrite (s : State) (t : Nat) : State := s.cmdRow t 2 (fun s => (s.startWalk t).reserve t) (fun s => s)

/-- A COPY begins to read its source once R358 allows it. -/
def State.copyStart (s : State) (t : Nat) : State :=
  match s.cmd? t with
  | none => s
  | some c =>
    if c.phase = .waiting ∧ !c.copyStarted ∧ s.orderAllows t c ∧ !s.heldByCopy t c ∧ s.pagesHere [copySource c.entry] then
      let bound := s.bindRanges [copySource c.entry]
      let s := s.mapLookups [copySource c.entry]
      let s := s.modCmd t fun c => { c with copyStarted := true, bound := bound }
      s.queueReads t (s.sess c.sess).qos c.fetch bound
    else s

/-- COPY (R357, R358). -/
def State.cmdCopy (s : State) (t : Nat) : State :=
  s.cmdRow t 5 (fun s => (s.modCmd t fun c => { c with walked := true }).reserve t) (fun s => s.copyStart t)

/-- RESERVATION_GRANT (R56). -/
def State.reservationGrant (s : State) : State := s.grantResv

/-- Where a WRITE or COPY puts its blocks. -/
def targetLba (c : Cmd) : Nat := if eOp c.entry = 5 then eLba2 c.entry else eLba c.entry

/-- The effect of an accepted WRITE or COPY: its blocks in both landing copies, the zone's write pointer, ACCEPTED. -/
def State.landCmd (s : State) (t : Nat) (c : Cmd) (r : Resv) : State :=
  let p := s.pair
  let n := eNsid c.entry
  let vs := if eOp c.entry = 5 then c.bound.map Bound.val else writtenBlocks c p.time
  let s := s.accept t
  let s := if (s.ns n).kind = .zoned then s.zoneWrote n (targetLba c) (eNblk c.entry) else s
  let s := ((s.dropResv t).landRun n (targetLba c) vs p r.stackA r.stackB).softSweep
  s.endCmd t 0x0001 0

/-- WRITE_ACCEPT: a WRITE whose data is present, or a COPY whose source has been read, is accepted where R27, R39, R60, R364 and R365
allow it (R352, R357, R363, R660). -/
def State.writeAccept (s : State) (t : Nat) : State :=
  match s.cmd? t with
  | none => s
  | some c =>
    match c.resv with
    | none => s
    | some r =>
      let o := eOp c.entry
      if c.recopy != 0 || !((o == 2 && c.present) || (o == 5 && c.copyStarted && c.bound.all fun b => b.got || b.lost)) || !r.granted then s
      else match (c.bound.filter (·.lost)).map Bound.lba |>.min? with
        | some lba => s.endCmd t 0x0100 (BitVec.ofNat 48 lba)
        | none =>
          if !s.mayAccept t c true || decide (s.pwr.dmax < s.dirty) then s
          else
            let n := eNsid c.entry
            match (if (s.ns n).kind = .zoned then s.zoneWriteStatus n (targetLba c) (eNblk c.entry) else none) with
            | some st => s.endCmd t st 0
            | none => s.landCmd t c r

/-! ## DEALLOCATE and zone commands -/

/-- DEALLOCATE (R353): accepted with its journal record in both mirrors. -/
def State.cmdDeallocate (s : State) (t : Nat) : State :=
  s.cmdRow t 3 (fun s => s) fun s => match s.cmd? t with
    | none => s
    | some c =>
      if s.mayAccept t c true then
        let n := eNsid c.entry
        let s := s.accept t
        let s := ((s.dropRange n (eLba c.entry) (eNblk c.entry)).softSweep).journal (.dealloc n (eLba c.entry) (eNblk c.entry)) (some t)
        s.endCmd t 0x0001 0
      else s

/-- The journal record of a zone action, for the actions that have one. -/
def State.zoneJournal (s : State) (action n z t : Nat) : State :=
  if action = 1 then s.journal (.zoneFinish n z) (some t)
  else if action = 2 then s.journal (.zoneReset n z) (some t)
  else s

/-- A zone action takes effect on its zones (R361), with a journal record for each zone it changes. -/
def State.zoneEffect (s : State) (action n t : Nat) (zs : List Nat) : State :=
  zs.foldl (fun s z =>
    let changes := match zoneAction action (s.zone n z).state with | some st => st != (s.zone n z).state | none => false
    if changes then ((s.zoneApply action n z).softSweep).zoneJournal action n z t else s) s

/-- ZONE_ACTION with a given ACTION (R361, Table 10.8). -/
def State.cmdZone (s : State) (t action : Nat) : State :=
  let mine : Bool := match s.cmd? t with
    | none => false
    | some c => eOp c.entry != 8 || eZoneAction c.entry == action || eZoneAction c.entry == 3
  if !mine then s
  else s.cmdRow t 8 (fun s => s) fun s => match s.cmd? t with
    | none => s
    | some c =>
      let n := eNsid c.entry
      let zs := s.zoneTargets action n (eLba c.entry) (eZoneAll c.entry)
      if s.mayAccept t c (action != 0) then
        if !eZoneAll c.entry && (zs.any fun z => (zoneAction action (s.zone n z).state).isNone) then s.endCmd t 0x0103 0
        else ((s.accept t).zoneEffect action n t zs).endCmd t 0x0001 0
      else s

/-- ZONE_ACTION CLOSE. -/
def State.cmdZoneClose (s : State) (t : Nat) : State := s.cmdZone t 0
/-- ZONE_ACTION FINISH. -/
def State.cmdZoneFinish (s : State) (t : Nat) : State := s.cmdZone t 1
/-- ZONE_ACTION RESET. -/
def State.cmdZoneReset (s : State) (t : Nat) : State := s.cmdZone t 2

/-- State code of a zone (Table 10.9). -/
def zoneCode : ZState → Nat
  | .empty => 0 | .open_ => 1 | .closed => 2 | .full => 3

/-- A zone descriptor (Table 10.9). -/
def State.zoneDesc (s : State) (n z : Nat) : List Byte :=
  leBytes 8 (z * zoneBlocks) ++ leBytes 4 (s.zone n z).wp ++ leBytes 1 (zoneCode (s.zone n z).state) ++ List.replicate 3 0

/-- ZONE_REPORT (R362): the descriptors as of its acceptance. -/
def State.cmdZoneReport (s : State) (t : Nat) : State :=
  s.cmdRow t 9 (fun s => s.startWalk t) fun s => match s.cmd? t with
    | none => s
    | some c =>
      if s.mayAccept t c false then
        let n := eNsid c.entry
        let z0 := eLba c.entry / zoneBlocks
        let k := min (ef c.entry 32 13) ((s.ns n).capacity / zoneBlocks - z0)
        let bytes := (List.range k).flatMap fun j => s.zoneDesc n (z0 + j)
        let pad := List.replicate (16 * ef c.entry 32 13 - 16 * k) (0#8)
        (s.accept t).modCmd t fun c => { c with payload := bytes ++ pad, result := BitVec.ofNat 48 k }
      else s

/-! ## FLUSH (R355, R356) -/

/-- FLUSH is accepted after the earlier ORDERED commands of its session that it covers. -/
def State.cmdFlush (s : State) (t : Nat) : State :=
  s.cmdRow t 4 (fun s => s) fun s => match s.cmd? t with
    | none => s
    | some c => if s.mayAccept t c false then s.accept t else s

/-- The namespace a journal record of an ORDERED effect concerns. -/
def jrnNs : JEffect → Option Nat
  | .dealloc n _ _ => some n
  | .zoneReset n _ => some n
  | .zoneFinish n _ => some n
  | _ => none

/-- Every effect accepted before a pair, of one namespace or of all, is on media: its row complete and its records on media. -/
def State.coveredOnMedia (s : State) (ns : Option Nat) (p : Pair) : Bool :=
  (s.plc.landing.all fun b => !(pairBefore b.pair p && (ns.isNone || ns == some (b.key / 2 ^ 64)))) &&
  s.plc.journal.all fun e => e.2.onMedia || !pairBefore e.2.pair p ||
    (match jrnNs e.2.effect with | some n => !(ns.isNone || ns == some n) | none => true)

/-- The namespace a FLUSH covers, or none for every namespace. -/
def flushScope (c : Cmd) : Option Nat := if eFlushAll c.entry then none else some (eNsid c.entry)

/-- FLUSH_DONE: a FLUSH that waited for effects which a namespace deletion released waits for that deletion to complete (R386). -/
def State.flushDone (s : State) (t : Nat) : State :=
  match s.cmd? t with
  | none => s
  | some c => match c.phase, c.accept with
    | .accepted, some p => if eOp c.entry = 4 && c.awaits.isEmpty && s.coveredOnMedia (flushScope c) p then s.endCmd t 0 0 else s
    | _, _ => s

/-- Whether a command is a FLUSH that waits for a landing block of a namespace. -/
def State.flushWaits (s : State) (n : Nat) (c : Cmd) : Bool :=
  eOp c.entry == 4 && c.phase == .accepted && (flushScope c == none || flushScope c == some n) &&
    match c.accept with
    | some p => s.plc.landing.any fun b => b.key / 2 ^ 64 == n && pairBefore b.pair p
    | none => false

/-- The FLUSH commands that waited for what a deletion released complete with it (R386). -/
def State.flushReleased (s : State) (n : Nat) : State :=
  (s.eqt.cmds.filter fun d => d.2.awaits.contains n).foldl (fun s d =>
    (s.modCmd d.1 fun c => { c with awaits := c.awaits.filter (· != n) }).flushDone d.1) s

/-! ## Namespaces (R385, R386) -/

/-- A 512-bit namespace key is drawn; one whose halves are equal is drawn again (R617). (DEDUCED, unsafe: log entry 40.) -/
def State.drawKey (s : State) : Nat → State × BitVec 512
  | 0 => (s.freeUsed, Config.random s.free)
  | n + 1 =>
    let k := Config.random s.free
    if k.extractLsb' 0 256 = k.extractLsb' 256 256 then (s.freeUsed).drawKey n else (s.freeUsed, k)

/-! ## The key table (R619-R621) -/

/-- The key-encryption key (R619). -/
def keyKek : BitVec 256 := Config.kmac256 Config.deviceSecret

/-- The bytes of a key table that its check covers: 256 entries of 72 bytes, an absent one all 0, and the generation.
(DESIGN CHOICE, safe: log entry 144.) -/
def keyTableBytes (gen : BitVec 32) (w : Assoc (BitVec 576)) : List Byte :=
  ((List.range 256).flatMap fun n => leBytes 72 (agetD w n 0).toNat) ++ leBytes 4 gen.toNat

/-- A half of the key area that holds a valid table. -/
def State.keyHalf (s : State) (k : Nat) : Option KeyTable :=
  (aget s.sec.keyHalves k).filter fun t => t.check == Config.sha3 (keyTableBytes t.gen t.wrapped)

/-- The half in force, the one with the later valid generation, compared as sequence numbers under R15 (R620). -/
def State.keyForce (s : State) : Option (Nat × KeyTable) :=
  match s.keyHalf 0, s.keyHalf 1 with
  | some a, some b => if 0 < (b.gen - a.gen).toNat ∧ (b.gen - a.gen).toNat < 2 ^ 31 then some (1, b) else some (0, a)
  | some a, none => some (0, a)
  | none, some b => some (1, b)
  | none, none => none

/-- The wrapped keys in force, by namespace index. -/
def State.keyEntries (s : State) : Assoc (BitVec 576) := match s.keyForce with | some e => e.2.wrapped | none => []

/-- The half that holds the older table, or half 0 of an empty area. -/
def State.keyOlder (s : State) : Nat := match s.keyForce with | some e => 1 - e.1 | none => 0

/-- A new table, with the generation increased by 1, goes into the half that holds the older table, after that half's erasure (R620). -/
def State.writeKeys (s : State) (w : Assoc (BitVec 576)) : State :=
  let gen := (match s.keyForce with | some e => e.2.gen | none => 0) + 1
  { s with sec := { s.sec with
      keyHalves := aput s.sec.keyHalves s.keyOlder { gen := gen, wrapped := w, check := Config.sha3 (keyTableBytes gen w) } } }

/-- Keys that a test does not keep are erased (R621): a table without them is written, and the other half is erased. -/
def State.eraseKeys (s : State) (keep : Nat → Bool) : State :=
  let k := s.keyOlder
  let s := s.writeKeys (afilter s.keyEntries fun n _ => keep n)
  { s with sec := { s.sec with keyHalves := adel s.sec.keyHalves (1 - k) } }

/-- NS_CREATE: its key goes into the key table before its journal record is written (R620); no flash write begins from PN2 on
(R605). (DEDUCED, unsafe: log entry 45.) -/
def State.cmdNsCreate (s : State) (t : Nat) : State :=
  s.cmdRow t 0x40 (fun s => s) fun s => match s.cmd? t with
    | none => s
    | some c =>
      let n := eNsid c.entry
      if !s.mayAccept t c false || decide (2 ≤ s.stageCode) then s
      else if (s.ns n).kind ≠ .absent then s.endCmd t 0x0301 0
      else if s.plc.userCap < s.allocated + eLba c.entry then s.endCmd t 0x0302 0
      else
        let zoned := c.entry.getLsbD 32
        let s := s.accept t
        let (s, key) := s.drawKey 4
        let s := s.modNs n fun _ => { kind := if zoned then .zoned else .placed, capacity := eLba c.entry,
                                      key := key, zones := [] }
        let s := s.writeKeys (aput s.keyEntries n (Config.keyWrap keyKek key))
        s.journal (.nsCreate n (eLba c.entry) zoned) (some t)

/-- Whether an entry names a namespace. -/
def namesOne (n : Nat) (e : BitVec 512) : Bool := (needsNs e).contains n

/-- Landing data of a namespace that is being deleted is released without placement once no accepted command needs it (R386). -/
def State.releaseDeleted (s : State) (n : Nat) : State :=
  let busy := s.eqt.cmds.any fun d => d.2.phase == .accepted && isReadOp (eOp d.2.entry) && namesOne n d.2.entry
  if (s.ns n).kind ≠ .deleting ∨ busy then s
  else
    let late := (s.eqt.cmds.filter fun d => s.flushWaits n d.2).map Prod.fst
    let s := late.foldl (fun s t => s.modCmd t fun c => { c with awaits := n :: c.awaits }) s
    (({ s with plc := { s.plc with
    landing := s.plc.landing.filter fun b => b.key / 2 ^ 64 != n,
    blocks := afilter s.plc.blocks fun k _ => k / 2 ^ 64 != n } }).softSweep).checkHold

/-- NS_DELETE: commands on the namespace that are not yet accepted end with NS_NOT_FOUND, and none is accepted any more. -/
def State.cmdNsDelete (s : State) (t : Nat) : State :=
  s.cmdRow t 0x41 (fun s => s) fun s => match s.cmd? t with
    | none => s
    | some c =>
      let n := eNsid c.entry
      if !s.mayAccept t c false then s
      else if !s.nsExists n then s.endCmd t 0x0004 0
      else
        let s := ((s.accept t).modNs n fun x => { x with kind := .deleting }).conjStart
        let s := (s.eqt.cmds.filter fun d => d.2.phase == .waiting && namesOne n d.2.entry).foldl
          (fun s d => s.endCmd d.1 0x0004 0) s
        (s.journal (.nsDelete n) (some t)).releaseDeleted n

/-- The journal record of a command is on media. -/
def State.ownOnMedia (s : State) (t : Nat) : Bool :=
  !(s.plc.journal.any fun e => e.2.owner == some t && !e.2.onMedia)

/-- NS_DELETE_DONE: the commands accepted before it have completed and the deletion is on media; the key is erased, in the key table
too (R386, R621), which no stage from PN2 on allows to begin (R605). -/
def State.nsDeleteDone (s : State) (t : Nat) : State :=
  match s.cmd? t with
  | none => s
  | some c =>
    let n := eNsid c.entry
    if eOp c.entry = 0x41 ∧ c.phase = .accepted ∧ s.ownOnMedia t ∧ s.stageCode < 2 ∧
        !(s.eqt.cmds.any fun d => d.1 != t && d.2.phase == .accepted && namesOne n d.2.entry) then
      let s := s.releaseDeleted n
      let s := s.eraseKeys fun m => m != n
      ((s.modNs n fun _ => absentNs).endCmd t 0 0).flushReleased n
    else s

/-! ## QUEUE_RESET (R378-R380) -/

/-- What a QUEUE_RESET does to another command of its session (Table 10.11). -/
def State.resetOutcome (s : State) (t : Nat) (c : Cmd) : State :=
  let o := eOp c.entry
  if c.phase = .done then s
  else if isOrderedOp o then (if c.phase = .accepted then s else s.endCmd t 0x0008 0)
  else if isReadOp o then
    (if c.phase = .accepted && c.walked && c.bound.all (fun b => b.got || b.lost) then s else s.endCmd t 0x0008 0)
  else if o = 4 then s.endCmd t 0x0008 0
  else s

/-- A command that has no order among others is accepted where the device accepts at all (R364, R389). -/
def State.acceptFree (s : State) (t : Nat) : State :=
  match s.cmd? t with
  | none => s
  | some c => if s.mayAccept t c false then s.accept t else s

/-- QUEUE_RESET: it acts as it is handed to processing (R378) and is accepted where the device accepts. -/
def State.cmdQueueReset (s : State) (t : Nat) : State :=
  s.cmdRow t 0x47 (fun s => match s.cmd? t with
    | none => s
    | some c =>
      let i := c.sess
      let s := (s.acceptFree t).modSess i fun x => { x with stopFetch := true, resetTag := some t, reqs := x.reqs.map noFetch }
      let s := { s with eqt := { s.eqt with
        cmds := afilter s.eqt.cmds (fun (_ : Nat) (d : Cmd) => !(d.sess == i && d.phase == Phase.handed)) } }
      ((s.cmdsOf i).filter fun d => d.1 != t).foldl (fun s d => s.resetOutcome d.1 d.2) s) (fun s => s.acceptFree t)

/-- QUEUE_RESET_DONE: every command handed to processing before it has its completion. (DEDUCED, unsafe: log entry 79.) -/
def State.queueResetDone (s : State) (t : Nat) : State :=
  match s.cmd? t with
  | none => s
  | some c =>
    if eOp c.entry = 0x47 ∧ c.phase = .accepted ∧ (s.sess c.sess).resetTag = some t ∧ (s.cmdsOf c.sess).length = 1 then
      s.endCmd t 0 0
    else s

/-- A completed QUEUE_RESET leaves the submission ring empty and releases the session's claim (R380, R418). -/
def State.resetEnds (s : State) (i : Nat) : State :=
  let s := s.modSess i fun x => { x with stopFetch := false, resetTag := none, fetchPos := 0, tail := 0 }
  s.releaseClaimOf i

/-! ## Claims (R413-R417) -/

/-- CLAIM_EVENT. -/
def State.cmdClaim (s : State) (t : Nat) : State :=
  s.cmdRow t 0x49 (fun s => s) fun s => match s.cmd? t with
    | none => s
    | some c =>
      if !s.mayAccept t c false then s
      else
        let s := s.accept t
        match s.claimable c.sess (ef c.entry 32 16) with
        | none => s.endCmd t 0 0xFFFF
        | some n =>
          let v := s.snapshot n
          let (s, waits) := s.claim c.sess n
          (s.modCmd t fun c => { c with claimWait := waits }).endCmd t 0 (BitVec.ofNat 48 (n + 2 ^ 16 * v.toNat))

/-- COMPLETE_EVENT. -/
def State.cmdComplete (s : State) (t : Nat) : State :=
  s.cmdRow t 0x4A (fun s => s) fun s => match s.cmd? t with
    | none => s
    | some c =>
      if !s.mayAccept t c false then s
      else
        let n := ef c.entry 32 16
        let s := s.accept t
        if s.heldSource c.sess = some n then (s.completeEvent n).endCmd t 0 0 else s.endCmd t 0x0002 0

/-! ## Completion (R374, R375, R397) -/

/-- The completion memory of a lineage takes a record (R374, R375): two copies in two stacks. -/
def State.remember (s : State) (c : Cmd) (x : Completion) : State :=
  let (a, b) := s.jrnStacks
  s.modLin c.lineage fun l =>
    let m := l.memory.filter (fun r => r.comp.cmdId != x.cmdId) ++ [{ opcode := eOp c.entry, comp := x, stackA := a, stackB := b }]
    { l with memory := m.drop (m.length - 4096) }

/-- What the completion of a command brings beside its entry: event sources 14 and 15 (Table 11.4), the end of a QUEUE_RESET. -/
def State.completionEffects (s : State) (c : Cmd) : State :=
  let o := eOp c.entry
  if c.status ≠ 0 ∨ c.noRecord then s
  else if o = 0x40 then (s.evcEdge 14 (BitVec.ofNat 32 (eNsid c.entry))).conjStart
  else if o = 0x41 then s.evcEdge 14 (BitVec.ofNat 32 (eNsid c.entry + 256))
  else if o = 0x43 then s.evcEdge 15 (BitVec.ofNat 32 (ef c.entry 32 2))
  else if o = 0x47 ∧ !c.heldEnd then s.resetEnds c.sess
  else s

/-- Whether completions may be written: no activation step in force, and the completion of an IMAGE_ACTIVATE goes first at step 5
(R389, R390). -/
def State.mayComplete (s : State) (t : Nat) : Bool :=
  match s.eqt.activation with
  | none => true
  | some a => a.step == 0 || (a.step == 5 && (a.tag == t || (s.cmd? a.tag).isNone))

/-- COMMAND_COMPLETE: the completion entry of a command goes into its ring, or is held by its lineage. -/
def State.commandComplete (s : State) (t : Nat) : State :=
  match s.cmd? t with
  | none => s
  | some c =>
    if c.phase ≠ .done ∨ !s.mayComplete t ∨ (c.claimWait && !(s.sess c.sess).eq.waitingClaim.isEmpty) then s
    else
      let x : Completion := { cmdId := eCmdId c.entry, result := c.result, sqHead := fetchedPos (s.sess c.sess), pair := c.endPair,
                              status := c.status, replay := c.replay, held := c.heldEnd }
      let s := if c.noRecord then s else s.remember c x
      let s := { s with eqt := { s.eqt with cmds := adel s.eqt.cmds t } }
      let s := match s.eqt.activation with
        | some a => if a.tag = t then { s with eqt := { s.eqt with activation := none } } else s
        | none => s
      let s := if c.heldEnd then
          let s := match aget s.eqt.lineages c.lineage with
            | some l => if l.bound.isSome ∧ l.bound ≠ some c.sess then s.modLin c.lineage fun y => { y with oldPending := y.oldPending - 1 } else s
            | none => s
          s.hold c.lineage c.sess x
        else s.cqPush c.sess (.completion x)
      (s.completionEffects c).freeCheck c.sess

/-- MOD_TIMER_EXPIRE (R406). -/
def State.modTimer (s : State) (i : Nat) : State :=
  match (s.sess i).cq.timer with
  | none => s
  | some t => (s.advanceTo t).notify i 1

end Sys2Proof.Machine
end

