-- ==== Sys2Proof/Machine/Time.lean ====
section
/-! DEFINITION. Time, PTP, the SYNC pin, heartbeats and the conjunction digest (chapter 16). -/

namespace Sys2Proof.Machine

/-! ## Correcting the count (R546) -/

/-- MODE of TIM_CFG. -/
def State.timMode (s : State) : Nat := fld (s.rv .timCfg) 31 30

/-- LOCK_NS in nanoseconds. -/
def State.lockNs (s : State) : Nat := 4 * fld (s.rv .timCfg) 15 8

/-- Changes the time block and looks at event source 10 again (R551). -/
def State.modTim (s : State) (f : Tim → Tim) : State := ({ s with tim := f s.tim }).evcLevel 10

/-- The state of a count that has TAI and whose reference is not locked (R549, Table 16.5). -/
def State.restState (s : State) : TimeState := if s.timMode = 0 then .free else .acquiring

/-- A correction of the count by some nanoseconds: a forward one of more than 100 µs is a single step, any other is removed at up
to 1,000 ppm (R546). -/
def timCorrect (t : Tim) (ns : Int) : Tim :=
  if 100000 < ns then { t with tick := (t.tick + ns * 2 ^ 32).toNat, corr := 0 } else { t with corr := ns * 2 ^ 32 }

/-- The largest rate trim: 1,000 ppm, in 2^-32 ns per nanosecond (R546). -/
def trimMax : Nat := 2 ^ 32 / 1000

/-- The rate trim the PI loop of R556 sets: the manual gives no gains, so it is a free value within R546's limit.
(DESIGN CHOICE, safe: log entry 97.) -/
def State.freeTrim (s : State) : Int := (s.freeVal % (2 * trimMax + 1) : Int) - trimMax

/-- A new rate trim from now on. -/
def State.setTrim (s : State) (v : Int) : State :=
  { s with tim := { s.tim with
      trim := v,
      trims := (s.now, v) :: s.tim.trims.takeWhile fun e => decide (s.now < e.1 + 64000000000) } }

/-- Nanoseconds times trim over the list of trims, newest first, back to a moment. -/
def trimSum (start : Nat) (upTo : Nat) : List (Nat × Int) → Int
  | [] => 0
  | (t, v) :: rest => if t ≤ start then (upTo - start : Nat) * v else (upTo - t : Nat) * v + trimSum start t rest

/-- The mean rate trim of the last 64 s (R557). (DEDUCED, unsafe: log entry 98.) -/
def State.meanTrim (s : State) : Int :=
  let start := s.now - 64000000000
  if s.now = start then s.tim.trim else trimSum start s.now s.tim.trims / (s.now - start : Nat)

/-- How one measured offset changes the time state (R549, R556, Table 16.1); `run` and `out` are the consecutive offsets within
LOCK_NS and above 4 × LOCK_NS. (DEDUCED, unsafe: log entry 99.) -/
def State.offsetState (s : State) (off : Int) (run out : Nat) : TimeState :=
  match s.tim.state with
  | .unset => .acquiring
  | .locked => if 4 ≤ out then .acquiring else .locked
  | _ => if 16 ≤ run then .locked else if 4 * s.lockNs < off then .slewing else .acquiring

/-- An offset, local count minus reference, steers the count and the lock state (R546, R556, R558). -/
def State.offset (s : State) (off : Int) : State :=
  let a := off.natAbs
  let run := if a ≤ s.lockNs then satInc s.tim.inLock 16 else 0
  let out := if 4 * s.lockNs < a then satInc s.tim.outLock 4 else 0
  let st := s.offsetState off run out
  let s := s.modTim fun t => { timCorrect t (-off) with
    state := st, lastOff := off, inLock := if st = .locked ∨ st = .acquiring ∨ st = .slewing then run else 0, outLock := out }
  (s.setTrim s.freeTrim).freeUsed

/-- ERR_NS (Table 16.6, R557). -/
def State.errNs (s : State) : Nat :=
  let drift := if s.tim.state = .holdover then fld (s.rv .timCfg) 7 0 * (s.now - s.tim.holdSince) / 1000000000 else 0
  min 0xFFFFFF (s.tim.lastOff.natAbs + drift)

/-- HOLDOVER begins (R557, R558). -/
def State.holdover (s : State) : State :=
  if s.tim.state = .locked ∨ s.tim.state = .acquiring ∨ s.tim.state = .slewing then
    let s := s.setTrim s.meanTrim
    s.modTim fun t => { t with state := .holdover, holdSince := s.now, corr := 0, inLock := 0, outLock := 0 }
  else s

/-! ## PTP (R552-R557) -/

/-- The order of the default best master clock algorithm (IEEE 1588-2019), best first. -/
def masterRank (m : Master) : List Nat :=
  [m.priority1, m.clockClass, m.accuracy, m.variance, m.priority2, m.identity.toNat, m.steps, m.port]

/-- Whether a list comes before another of the same length. -/
def listBefore : List Nat → List Nat → Bool
  | a :: as, b :: bs => decide (a < b) || (decide (a = b) && listBefore as bs)
  | _, _ => false

/-- The best of the masters heard. -/
def bestMaster (ms : List Master) : Option Master :=
  ms.foldl (fun a m => match a with
    | none => some m
    | some b => if listBefore (masterRank m) (masterRank b) then some m else a) none

/-- A master is selected: its port is SLAVE, and what was measured against another master is dropped (R554).
(DEDUCED, unsafe: log entry 101.) -/
def State.selectMaster (s : State) (m : Master) : State :=
  let same := match s.tim.master with | some b => b.identity == m.identity && b.port == m.port | none => false
  if same then s.modTim fun t => { t with master := some m }
  else s.modTim fun t => { t with
    master := some m, slavePort := m.port, pathDelay := none, delayReq := none, syncStamps := none, lastSync := s.now,
    state := if t.state = .holdover then .acquiring else t.state }

/-- PTP_ANNOUNCE: an Announce message of the domain and transport in force is taken into the best master clock algorithm. -/
def State.ptpAnnounce (s : State) (m : Master) : State :=
  if s.timMode ≠ 1 ∨ 2 ≤ m.port then s
  else
    let s := s.modTim fun t => { t with masters := aput t.masters (2 * m.identity.toNat + m.port) m }
    match bestMaster (avals s.tim.masters) with
    | none => s
    | some b => s.selectMaster b

/-- PTP_SYNC: a Sync, with its Follow_Up from a two-step master, gives the master's origin stamp in nanoseconds. With a measured
path delay it gives an offset (R556). (DEDUCED, unsafe: log entry 102.) -/
def State.ptpSync (s : State) (port : Nat) (identity : BitVec 64) (origin : Nat) : State :=
  let mine := match s.tim.master with | some m => m.identity == identity && m.port == port | none => false
  if s.timMode ≠ 1 || !mine then s
  else
    let s := s.modTim fun t => { t with lastSync := s.now, syncStamps := some (origin, timCount t) }
    match s.tim.pathDelay with
    | none => s
    | some d => s.offset ((timCount s.tim : Int) - origin - d)

/-- Nanoseconds of an interval whose binary logarithm in seconds is given. -/
def logInterval (l : Int) : Nat := if 0 ≤ l then 1000000000 * 2 ^ l.toNat else 1000000000 / 2 ^ (-l).toNat

/-- DELAY_REQ_SEND: at the master's delay request interval a Delay_Req leaves the slave port (R554). -/
def State.delayReqSend (s : State) : State :=
  match s.tim.master with
  | none => s
  | some m =>
    if s.timMode ≠ 1 then s
    else
      let s := s.advanceTo (s.tim.delaySent + logInterval m.logDelayReq)
      (s.modTim fun t => { t with delayReq := some (timCount t), delaySent := s.now }).emit (.delayReq s.tim.slavePort)

/-- DELAY_RESP: the master's receive stamp completes the path delay: half of the sum of both directions (R556). -/
def State.delayResp (s : State) (port : Nat) (identity : BitVec 64) (received : Nat) : State :=
  let mine := match s.tim.master with | some m => m.identity == identity && m.port == port | none => false
  match s.tim.delayReq, s.tim.syncStamps with
  | some t3, some (t1, t2) =>
    if s.timMode ≠ 1 || !mine then s
    else s.modTim fun t => { t with delayReq := none,
                                    pathDelay := some ((((t2 : Int) - t1) + ((received : Int) - t3)) / 2).toNat }
  | _, _ => s

/-- PTP_HOLDOVER: no Sync has been accepted for 4 Sync intervals, or the selected master's announce receipt timeout has expired
(R557). -/
def State.ptpHoldover (s : State) (announce : Bool) : State :=
  match s.tim.master with
  | none => s
  | some m =>
    if s.timMode ≠ 1 then s
    else
      let s := if announce then s else s.advanceTo (s.tim.lastSync + 4 * logInterval m.logSync)
      let s := s.modTim fun t => { t with master := none, masters := adel t.masters (2 * m.identity.toNat + m.port) }
      s.holdover

/-- A change of MODE, TRANSPORT or DOMAIN: the reference is chosen anew (Table 16.5, R549). -/
def State.timResync (s : State) : State :=
  let st := s.restState
  s.modTim fun t => { t with
    state := if t.state = .unset then .unset else st, masters := [], master := none, pathDelay := none, delayReq := none,
    syncStamps := none, inLock := 0, outLock := 0, ppsNext := none, ppsLast := none }

/-- SLEW_END: a backward offset is fully removed (R546). -/
def State.slewEnd (s : State) : State :=
  if s.tim.corr < 0 ∨ s.tim.state = .slewing then
    let s := if s.tim.corr < 0 then s.advance (ceilDiv (1000 * (-s.tim.corr).toNat) (2 ^ 32) + 1) else s
    let st := s.restState
    s.modTim fun t => { t with corr := 0, state := if t.state = .slewing then st else t.state }
  else s

/-! ## TIM_SET and the SYNC pin (R549, R558-R560, R641) -/

/-- TIM_SET_WRITE: an accepted write of the pair (Table 16.6). (DEDUCED, unsafe: log entry 100.) -/
def State.timSet (s : State) (v : Nat) : State :=
  if s.timMode = 0 then
    let off : Int := (timCount s.tim : Int) - v
    s.modTim fun t => { timCorrect t (-off) with
      lastOff := off, state := if 4 * s.lockNs < off then .slewing else .free }
  else if s.timMode = 2 then
    s.modTim fun t => { t with ppsNext := some (v / 1000000000), state := if t.state = .unset then .acquiring else t.state }
  else s

/-- The functions of SYNC that register values enable, as a mask of SYNC_FN codes (Table 19.6). -/
def syncMask (timCfg tlCfg talCfg : Word) : Nat :=
  (if fld timCfg 31 30 = 2 then 2 else 0) + (if bit timCfg 29 then 4 else 0) + (if fld tlCfg 31 30 = 2 then 8 else 0) +
    (if bit talCfg 29 then 16 else 0)

/-- SYNC_FN of the registers in force. -/
def State.syncFn (s : State) : Nat :=
  ((below 5 fun k => (syncMask (s.rv .timCfg) (s.rv .spnTlCfg) (s.rv .talCfg)).testBit k).head?).getD 0

/-- Whether a write of a word would give SYNC two functions (R640). -/
def State.syncConflict (s : State) (r : Reg) (v : Word) : Bool :=
  let m := match r with
    | .timCfg => syncMask v (s.rv .spnTlCfg) (s.rv .talCfg)
    | .spnTlCfg => syncMask (s.rv .timCfg) v (s.rv .talCfg)
    | .talCfg => syncMask (s.rv .timCfg) (s.rv .spnTlCfg) v
    | _ => 0
  decide (1 < (below 5 fun k => m.testBit k).length)

/-- The second a rising edge on SYNC marks, if the edge is accepted (R558). -/
def State.ppsSecond (s : State) : Option Nat :=
  match s.tim.ppsNext, s.tim.ppsLast with
  | some n, _ => some n
  | none, some (t, n) => if t + 999000000 ≤ s.now ∧ s.now ≤ t + 1001000000 then some (n + 1) else none
  | none, none => none

/-- A rising edge on SYNC as PPS input. -/
def State.ppsEdge (s : State) : State :=
  match s.ppsSecond with
  | none => s
  | some n =>
    let s := s.modTim fun t => { t with ppsNext := none, ppsLast := some (s.now, n) }
    s.offset ((timCount s.tim : Int) - 1000000000 * n)

/-- SYNC_EDGE: a rising edge acts for the function in force (R641). -/
def State.syncEdge (s : State) : State :=
  match s.syncFn with
  | 1 => s.ppsEdge
  | 3 => s.tlEdge
  | 4 => s.tailPlain 2 (fld (s.rv .talCfg) 27 26)
  | _ => s

/-- PPS_HOLDOVER: 2 s without an accepted edge (R558). -/
def State.ppsHoldover (s : State) : State :=
  match s.tim.ppsLast with
  | none => s
  | some (t, _) => if s.timMode = 2 then (s.advanceTo (t + 2000000000)).holdover else s

/-- The most nanoseconds, below a power of two, after which the count still stands below a figure. -/
def timSpan (t : Tim) (target : Nat) : Nat → Nat → Nat
  | 0, acc => acc
  | k + 1, acc => timSpan t target k (if timCount (timAdvance t (acc + 2 ^ k)) < target then acc + 2 ^ k else acc)

/-- Lets time pass until the count reaches a figure less than 2^44 ns away. -/
def State.advanceCount (s : State) (target : Nat) : State :=
  if target ≤ timCount s.tim then s else s.advance (timSpan s.tim target 44 0 + 1)

/-- The second that is beginning: the present one, where it has just begun and has not been served, or else the next. -/
def nextSecond (count served : Nat) : Nat :=
  if count % 1000000000 ≤ 1 ∧ count / 1000000000 ≠ served then count / 1000000000 else count / 1000000000 + 1

/-- PPS_OUTPUT_SECOND: at a whole TAI second SYNC is driven high for 100 ms while the state is LOCKED or HOLDOVER (R559). -/
def State.ppsOutput (s : State) : State :=
  if s.syncFn ≠ 2 then s
  else
    let n := nextSecond (timCount s.tim) s.tim.ppsSec
    let s := s.advanceCount (1000000000 * n)
    if s.tim.state = .locked ∨ s.tim.state = .holdover then
      s.modTim fun t => { t with ppsSec := n, ppsHigh := some (s.now + 100000000) }
    else s.modTim fun t => { t with ppsSec := n }

/-- The level at the SYNC ball: what the device drives as PPS output, or what the board drives (R559, R641). -/
def State.syncLevel (s : State) : Bool :=
  if s.syncFn = 2 then
    (s.tim.state == .locked || s.tim.state == .holdover) &&
      (match s.tim.ppsHigh with | some t => decide (s.now < t) | none => false)
  else Config.syncInput s.now

/-- The member number heartbeats are placed by (R562). -/
def State.member (s : State) : Nat := if bit (s.rv .timFleet) 31 then fld (s.rv .timFleet) 19 0 else 0

/-- The first second from one on at which heartbeats are due. -/
def dueSecond (n member period : Nat) : Nat := n + (period - (n + member) % period) % period

/-- HEARTBEAT: at a whole second due for the member, a record goes to every ACTIVE session with EVENTS (R562). -/
def State.heartbeat (s : State) : State :=
  let period := fld (s.rv .timHbCfg) 11 0
  if period = 0 ∨ s.tim.state = .unset then s
  else
    let n := dueSecond (nextSecond (timCount s.tim) s.tim.hbSec) s.member period
    let s := s.advanceCount (1000000000 * n)
    let s := s.modTim fun t => { t with hbSec := n }
    (s.sessIds.filter fun i => (s.sess i).state == .active && (s.sess i).events).foldl
      (fun s i => s.evHeartbeat i (s.tim.digest.extractLsb' 0 64)) s

/-! ## The conjunction digest (R563-R566, R654) -/

/-- The conjunct registers in increasing set-up address. -/
def conjRegs : List Reg :=
  [.eqtSessCfg, .eqtFetchCfg, .eqtPushCfg, .eqtAdminMaskLo, .eqtAdminMaskHi, .ethCfg 0, .ethCfg 1] ++
  (List.range 8).map .ethPkey ++ (List.range 256).flatMap (fun n => [.evcMaskLo n, .evcMaskHi n]) ++
  [.chnEscCfg, .wrpTvCfg] ++ (List.range 4).map .seqVec ++ [.sceOtCfg, .sceMonCfg, .spnTlCfg, .plcStripeCfg, .plcCkptCfg, .orbCfg] ++
  (List.range 4).map .orbQos ++ [.orbSeekCfg, .hbmScrubCfg, .cchCtl, .cchErrCfg, .pwrCfg, .pwrSagCfg, .pwrSagTim, .timCfg,
  .timHbCfg, .fltCfg] ++ (List.range 1024).map .fltSrc ++ [.talCfg] ++
  (List.range 4).flatMap (fun l => (List.range 32).map fun i => .talList l i) ++ [.pinThermCfg]

/-- Namespaces that exist, in increasing index. -/
def State.present (s : State) : List (Nat × Namespace) :=
  s.plc.spaces.filter fun e => e.2.kind == .placed || e.2.kind == .zoned

/-- The bytes of ASCII text. -/
def ascii (t : String) : List Byte := t.toList.map fun c => BitVec.ofNat 8 c.toNat

/-- The canonical serialisation (Table 16.3). -/
def State.conjSerial (s : State) : List Byte :=
  ascii "IM4144CJ" ++ [1, 0xB1] ++ leBytes 2 conjRegs.length ++ leBytes 2 s.present.length ++ [0, 0] ++
  leBytes 64 s.sec.fw.digest.toNat ++ leBytes 64 s.sec.persPkg.digest.toNat ++
  conjRegs.flatMap (fun r => leBytes 4 (regAddr r) ++ leBytes 4 (s.rv r).toNat) ++
  s.present.flatMap fun e => leBytes 1 e.1 ++ [if e.2.kind = .zoned then 2 else 1] ++ leBytes 6 0 ++ leBytes 8 e.2.capacity

/-- The conjunction tag: bytes 0-7 of the digest (R563). -/
def State.conjTag (s : State) : BitVec 64 := s.tim.digest.extractLsb' 0 64

/-- CONJUNCTION_COMPUTE: a computation finishes over the state in force (R565). -/
def State.conjCompute (s : State) : State :=
  if !s.tim.busy then s
  else
    let old := s.conjTag
    let bytes := s.conjSerial
    let s := { s with tim := { s.tim with busy := false, serial := bytes, digest := Config.sha3 bytes } }
    if s.conjTag = old then s
    else
      let s := { s with tim := { s.tim with gen := satInc s.tim.gen 0x7FFFFFFF, tagPair := s.pair } }
      (s.stamped).evcEdge 18 (s.conjTag.extractLsb' 0 32)

end Sys2Proof.Machine
end

