-- ==== Sys2Proof/Machine/Package.lean ====
section
/-! DEFINITION. Packages (chapter 18): layout, endorsement, signature, the content checks of a personality, anti-rollback, and
reading a personality's sections. A package is seen as its bytes by offset. -/

namespace Sys2Proof.Machine

/-! ## Fields -/

/-- The little-endian number in `n` bytes of a package from an offset. -/
def pkNum (g : Nat → Byte) (o n : Nat) : Nat := leNat ((List.range n).map fun i => g (o + i))

/-- `n` bytes of a package from an offset. -/
def pkBytes (g : Nat → Byte) (o n : Nat) : List Byte := (List.range n).map fun i => g (o + i)

/-- Whether `n` bytes of a package from an offset are 0. -/
def pkZero (g : Nat → Byte) (o n : Nat) : Bool := (List.range n).all fun i => g (o + i) == 0

/-- TOTAL of a package. -/
def pkTotal (g : Nat → Byte) : Nat := pkNum g 12 4

/-- TYPE, OFFSET and LENGTH of entry i of the section table (Table 18.4). -/
def pkEntry (g : Nat → Byte) (i : Nat) : Nat × Nat × Nat :=
  (pkNum g (256 + 16 * i) 2, pkNum g (260 + 16 * i) 4, pkNum g (264 + 16 * i) 4)

/-- OFFSET and LENGTH of the section of a TYPE. -/
def pkSection (g : Nat → Byte) (ty : Nat) : Nat × Nat :=
  match ((List.range (pkNum g 10 2)).map (pkEntry g)).find? fun e => e.1 == ty with
  | some e => e.2
  | none => (0, 0)

/-- The little-endian number in a section; bytes beyond its LENGTH count as 0. -/
def secNum (g : Nat → Byte) (sec : Nat × Nat) (o n : Nat) : Nat :=
  leNat ((List.range n).map fun i => if o + i < sec.2 then g (sec.1 + o + i) else 0)

/-- The digest D of a package (R600). -/
def pkDigest (g : Nat → Byte) : BitVec 512 := Config.sha3 (pkBytes g 0 12288 ++ pkBytes g 20480 (pkTotal g - 20480))

/-! ## Checks of the header, endorsement and signature (R598-R601) -/

/-- A check: where its field lies, and whether it passes. -/
abbrev Check := Nat × Bool

/-- The offset of the first check that fails. -/
def firstBad (l : List Check) : Option Nat := (l.find? fun c => !c.2).map Prod.fst

/-- Whether a section TYPE is allowed in a package of a KIND (R599). -/
def typeAllowed (kind ty : Nat) : Bool :=
  match kind with
  | 0 => ty == 0x81
  | 1 => ty == 0x80 || within ty 0x82 0x8F
  | _ => within ty 1 13

/-- Whether entry i overlaps an earlier one, or repeats a TYPE that R599 allows once. -/
def entryClash (g : Nat → Byte) (kind i : Nat) : Bool :=
  let (ty, o, l) := pkEntry g i
  (List.range i).any fun j =>
    let (ty', o', l') := pkEntry g j
    (decide (o < o' + l') && decide (o' < o + l)) || (ty == ty' && (kind == 2 || ty == 0x80))

/-- The checks of one section table entry (Table 18.4, R599). (DEDUCED, unsafe: log entry 43.) -/
def entryChecks (g : Nat → Byte) (kind i : Nat) : List Check :=
  let b := 256 + 16 * i
  let (ty, o, l) := pkEntry g i
  if i < pkNum g 10 2 then
    [(b, typeAllowed kind ty), (b + 2, pkZero g (b + 2) 2),
     (b + 4, o % 4096 == 0 && decide (20480 ≤ o) && decide (o + l ≤ pkTotal g) && !entryClash g kind i),
     (b + 8, decide (1 ≤ l)), (b + 12, pkZero g (b + 12) 4)]
  else [(b, pkZero g b 16)]

/-- The number of sections R599 requires. -/
def sectionsOk (kind n : Nat) : Bool :=
  match kind with
  | 0 => n == 1
  | 1 => within n 1 32
  | _ => n == 13

/-- The checks of Table 18.3 and R599. -/
def headerChecks (g : Nat → Byte) (kind : Nat) : List Check :=
  [(0, pkBytes g 0 8 == ascii "IMRITAPK"), (8, pkNum g 8 1 == kind), (9, pkNum g 9 1 == 1),
   (10, sectionsOk kind (pkNum g 10 2)),
   (12, pkTotal g % 4096 == 0 && within (pkTotal g) 24576 (if kind = 0 then 2 ^ 20 else 2 ^ 26)),
   (24, decide (pkNum g 24 1 ≤ 63)), (25, decide (pkNum g 25 1 ≤ pkNum g 24 1)),
   (26, decide (pkNum g 26 1 < 16) && !(pkNum g 26 1).testBit (pkNum g 4097 1)),
   (27, decide (pkNum g 27 1 ≤ pkNum g 4098 1)),
   (28, pkNum g 28 2 == (if kind = 2 then pkNum g 4100 2 else 0)), (30, pkZero g 30 226)] ++
  ((List.range 32).flatMap fun i => entryChecks g kind i) ++
  [(256, kind != 1 || (pkSection g 0x80).2 != 0), (768, pkZero g 768 3328), (11347, pkZero g 11347 941),
   (16915, pkZero g 16915 3565)]

/-- R598. -/
def endorsed (f : Fuses) (g : Nat → Byte) (kind : Nat) : Bool :=
  let e (o : Nat) : Byte := g (4096 + o)
  let usage := if kind = 2 then 2 else 1
  pkNum e 0 1 == usage && decide (pkNum e 1 1 < 4) && !f.revoked.testBit (pkNum e 1 1) && decide (pkNum e 2 1 < 64) &&
  pkZero e 3 1 && pkZero e 6 26 && pkNum e 4 2 == (if kind = 2 then f.makerId else 0) &&
  Config.mldsaVerify (Config.rootKey (pkNum e 1 1)) (ascii "IMRITA-ENDORSE") (Config.sha3 (pkBytes e 0 2624)) (pkBytes e 2624 4627)

/-- Step 3 of Table 18.6. -/
def signed_ (g : Nat → Byte) : Bool :=
  Config.mldsaVerify (pkBytes g 4128 2592) (ascii "IMRITA-IMAGE") (pkDigest g) (pkBytes g 12288 4627)

/-- Step 5 of Table 18.6: the counters of Table 18.11. -/
def notRolledBack (f : Fuses) (g : Nat → Byte) (kind : Nat) : Bool :=
  decide ((match kind with | 0 => f.boot | 1 => f.firmware | _ => f.personality) ≤ pkNum g 24 1) &&
  decide ((if kind = 2 then f.makerKey else f.imageKey) ≤ pkNum g 4098 1)

/-! ## Content checks of a personality (step 4 of Table 18.6) -/

/-- A value among those a field may hold: 0, or in a range. -/
def zeroOr (v lo hi : Nat) : Bool := v == 0 || within v lo hi

/-- Tracks of a gap are within 1/6 of the stroke of a ring (R70). -/
def nearRing (total dist : Nat) : Bool := decide (6 * dist ≤ total)

/-- The rule on eclipse rings for one surface (R70): `rings` are (first, last) tracks in order. (DEDUCED, unsafe: log entry 156.) -/
def ringsOk (total : Nat) (rings : List (Nat × Nat)) : Bool :=
  match rings with
  | [(a, b), (c, d), (e, f)] =>
    nearRing total a && nearRing total ((c - b - 1 + 1) / 2) && nearRing total ((e - d - 1 + 1) / 2) && nearRing total (total - 1 - f)
  | _ => false

/-- A zone table entry. -/
def zoneOf (v : Nat → Nat → Nat) (o guard : Nat) : Zone :=
  { firstTrack := v o 4, trackCount := v (o + 4) 4, spt := v (o + 8) 2, code := v (o + 10) 1,
    shingled := (v (o + 11) 1).testBit 0, eclipse := (v (o + 11) 1).testBit 1, symbolRate := v (o + 12) 2,
    tracksPerBand := v (o + 14) 2, guard := guard }

/-- The zone table of a surface. -/
def readZones (g : Nat → Byte) (u : Nat) : List Zone :=
  let z := secNum g (pkSection g 2)
  let m := secNum g (pkSection g 1)
  (List.range (z (1028 * u) 4)).map fun k => zoneOf z (1028 * u + 4 + 16 * k) (m (64 + 64 * u + k) 1)

/-- The checks of MEDIA (Table 18.5). -/
def mediaChecks (v : Nat → Nat → Nat) (zones : List (List Zone)) : List Check :=
  [(0, within (v 0 1) 2 18), (1, within (v 1 2) 100 500), (3, within (v 3 1) 1 50),
   (4, within (v 4 1) 2 60 && decide (v 3 1 < v 4 1)), (5, within (v 5 1) 1 16), (6, within (v 6 1) 5 40),
   (7, (List.range 57).all fun i => v (7 + i) 1 == 0)] ++
  zones.zipIdx.flatMap fun (t, u) => t.zipIdx.map fun (z, k) => (64 + 64 * u + k, within z.guard 1 8)

/-- The checks of ZONES (R32, R70). -/
def zoneChecks (v : Nat → Nat → Nat) (u : Nat) (t : List Zone) : List Check :=
  let b := 1028 * u
  let total := (t.map (·.trackCount)).sum
  [(b, within (v b 4) 1 64)] ++
  (t.zipIdx.flatMap fun (z, k) =>
    let o := b + 4 + 16 * k
    [(o, z.firstTrack == ((t.take k).map (·.trackCount)).sum), (o + 4, decide (1 ≤ z.trackCount)), (o + 8, within z.spt 1 1024),
     (o + 10, decide (z.code < 4)), (o + 11, decide (v (o + 11) 1 < 4)), (o + 12, within z.symbolRate 800 2900),
     (o + 14, !z.shingled || within z.tracksPerBand 8 4096)]) ++
  [(b, ringsOk total ((t.filter (·.eclipse)).map fun z => (z.firstTrack, z.firstTrack + z.trackCount - 1)))]

/-- The heads over populated surfaces. -/
def headsOn (surfaces : Nat) : List Nat := (List.range 72).filter fun n => decide (n % 18 < surfaces)

/-- The checks of one channel profile (Table 3.4). -/
def channelChecks (v : Nat → Nat → Nat) (o : Nat) : List Check :=
  let b (k : Nat) : Nat := v (o + k) 1
  [(o, decide (v o 2 ≤ 288)), (o + 2, within (b 2) 24 56), (o + 3, within (b 3 % 16) 2 10 && within (b 3 / 16) 4 14),
   (o + 4, decide (b 4 ≤ 54)), (o + 5, decide (b 5 ≤ 15)), (o + 6, within (b 6) 4 11), (o + 7, within (b 7) 8 18),
   (o + 8, within (v (o + 8) 2) 64 256), (o + 10, within (b 10) 32 128), (o + 11, decide (b 11 % 16 ≤ 4) && decide (b 11 / 16 ≤ 2)),
   (o + 12, within (b 12) 16 255), (o + 13, zeroOr (b 13) 6 16), (o + 14, decide (-16 ≤ signed 8 (b 14)) && decide (signed 8 (b 14) ≤ 15)),
   (o + 15, decide (b 15 ≤ 63)), (o + 16, decide (b 16 < 4)), (o + 17, zeroOr (b 17) 6 16), (o + 18, within (b 18) 3 5),
   (o + 19, b 19 == 0x40), (o + 22, decide (4 ≤ b 18) || b 22 == 0), (o + 23, decide (5 ≤ b 18) || b 23 == 0),
   (o + 24, within (b 24 % 4) 1 3 && within (b 24 / 8) 4 20), (o + 25, within (b 25) 1 24), (o + 26, within (b 26) 1 4),
   (o + 27, within (b 27) 1 64), (o + 28, within (b 28) 1 16), (o + 31, b 31 == 0), (o + 96, v (o + 96) 32 == 0)]

/-- The checks of one write profile (Table 4.2). -/
def writeChecks (v : Nat → Nat → Nat) (o : Nat) : List Check :=
  let b (k : Nat) : Nat := v (o + k) 1
  ((List.range 16).map fun k => (o + k, decide ((signed 8 (b k)).natAbs ≤ 19))) ++
  [(o + 16, decide (b 16 ≤ 127)), (o + 17, decide (b 17 ≤ 63)), (o + 18, decide (b 18 ≤ 15)), (o + 22, decide (b 22 ≤ 250)),
   (o + 23, within (b 23) 4 16), (o + 24, within (b 24) 8 40), (o + 25, decide (1 ≤ b 25)), (o + 26, v (o + 26) 6 == 0)]

/-- Planned time in ps of a seek over a distance in reference tracks, with limits in the units of Table 6.4. -/
def seekTime (tracks v a j : Nat) : Nat := phasesTime (planPhases (tracks * 2 ^ 42) (v * 1000) (a * 1000000) (j * 10000000000)).1

/-- SETTLE_N sample intervals at format speed in ps (R205, R531): SETTLE_N is the reset value of SCE_OT_CFG. -/
def settleTime (nW rpm : Nat) : Nat := fld (regReset .sceOtCfg) 15 8 * (60000000000000 / (max 1 nW * max 1 rpm))

/-- The checks of one actuator entry (Table 6.4, R205). -/
def actChecks (v : Nat → Nat → Nat) (o settle : Nat) : List Check :=
  let h (k : Nat) : Nat := v (o + k) 2
  [(o, decide (1 ≤ h 0)), (o + 2, decide (1 ≤ h 2)), (o + 4, decide (1 ≤ h 4)), (o + 6, within (h 6) 1 (h 0)),
   (o + 8, within (h 8) 1 (h 2)), (o + 10, within (h 10) 1 (h 4)), (o + 14, within (h 14) 100 4000),
   (o + 16, within (v (o + 16) 4) 1000 100000 &&
     decide (seekTime (v (o + 20) 4) (max 1 (h 6)) (max 1 (h 8)) (max 1 (h 10)) + settle ≤ 1000000 * v (o + 16) 4)),
   (o + 20, within (v (o + 20) 4) 1000 16000000), (o + 24, within (h 24) 16 1024), (o + 26, decide (1 ≤ h 26)),
   (o + 28, within (h 28) 500 20000), (o + 30, decide (1 ≤ h 30)), (o + 32, decide (1 ≤ h 32)), (o + 34, decide (1 ≤ h 34)),
   (o + 40, v (o + 40) 24 == 0)]

/-- The checks of SERVO (R200, R204, R205). (DEDUCED, unsafe: log entry 44.) -/
def servoChecks (v : Nat → Nat → Nat) (surfaces rpm : Nat) : List Check :=
  [(0, within (v 0 2) 128 1024 && v 0 2 % 4 == 0), (2, within (v 2 2) 1 4096), (4, decide (1 ≤ v 4 2)), (6, v 6 10 == 0)] ++
  ((List.range 4).flatMap fun a => actChecks v (16 + 64 * a) (settleTime (v 0 2) rpm)) ++
  (headsOn surfaces).flatMap fun n =>
    let o := 272 + 16 * n
    [(o, within (v o 2) 8192 32767), (o + 3, v (o + 3) 1 == 0), (o + 4, decide (1 ≤ v (o + 4) 4)), (o + 8, within (v (o + 8) 2) 1 32767),
     (o + 10, v (o + 10) 6 == 0)]

/-- The checks of SPINDLE (Table 7.1, R251). -/
def spindleChecks (v : Nat → Nat → Nat) : List Check :=
  [(0, within (v 0 2) 5400 10000), (2, within (v 2 1) 2 8), (3, decide (v 3 1 ≤ 30)), (4, within (v 4 2) 500 8000),
   (6, within (v 6 2) 1 (v 4 2)), (8, within (v 8 2) 10 2000), (10, within (v 10 2) 100 1000), (12, within (v 12 2) 100 5000),
   (14, within (v 14 2) 50 5000), (16, within (v 16 2) 10 5000),
   (18, within (v 18 2) 10 600 && decide ((v 8 2 + v 12 2 + 1000) * v 14 2 + 1000 * (v 0 2 - v 10 2) ≤ 100 * v 18 2 * v 14 2)),
   (20, within (v 20 1) 50 120), (21, within (v 21 1) 50 95), (26, within (v 26 1) 5 125), (27, v 27 5 == 0)]

/-- The checks of ECLIPSE (Table 15.7, R531); `sv` reads the servo block. -/
def eclipseChecks (v sv : Nat → Nat → Nat) (rpm : Nat) : List Check :=
  let need (a : Nat) : Nat :=
    let o := 16 + 64 * a
    seekTime (sv (o + 20) 4 / 6) (max 1 (sv o 2)) (max 1 (sv (o + 2) 2)) (max 1 (sv (o + 4) 2)) + settleTime (sv 0 2) rpm + 1000000000
  [(0, within (v 0 4) 1000 10000000), (4, within (v 4 4) 1000 60000), (8, within (v 8 4) 5000 60000), (12, decide (v 12 4 ≤ 20000)),
   (16, within (v 16 4) 100 10000),
   (20, within (v 20 4) 10000 200000 && (List.range 4).all fun a => decide (need a ≤ 1000000 * v 20 4)),
   (24, within (v 24 1) 5 50), (25, v 25 7 == 0)]

/-- The ports of Table 5.5. -/
def portListed (p : Nat) : Bool :=
  p ≤ 3 || within p 8 0x10 || within p 0x18 0x1A || p == 0x1C || within p 0x80 0x83 || within p 0xC0 0xDF

/-- Whether R169 accepts a microcode word. -/
def wordOk (w : BitVec 128) : Bool :=
  decide (mwCondA w ≤ 28) && decide (mwCondB w ≤ 28) && decide (mwWait w ≤ 28) && mwAtm w != 3 && mwAt w != 0xFFFFF && mwRg w != 3 &&
  mwWg w != 3 && decide (mwOpc w ≤ 9) && !((mwOpc w == 8 || mwOpc w == 9) && !portListed (mwImm w)) && mw w 19 0 == 0

/-- The checks of MICROCODE (R169). -/
def microChecks (v : Nat → Nat → Nat) : List Check :=
  ((List.range 6).map fun i => (2 * i, decide (v (2 * i) 2 < 2 ^ 14))) ++ [(12, v 12 52 == 0)] ++
  (List.range 16384).map fun i => (64 + 16 * i, wordOk (BitVec.ofNat 128 (v (64 + 16 * i) 16)))

/-- The words of a microcode section. -/
def readWords (g : Nat → Byte) : Assoc (BitVec 128) :=
  let v := secNum g (pkSection g 13)
  (List.range 16384).map fun i => (i, BitVec.ofNat 128 (v (64 + 16 * i) 16))

/-- The word that follows a word whatever the stream meets: a BRANCH whose two conditions are TRUE or FALSE (Table 5.3). -/
def sureNext (w : BitVec 128) : Option Nat :=
  if mwFlow w = 0 ∧ mwCondA w < 2 ∧ mwCondB w < 2 then some (mwNext w ||| (2 * mwCondB w ||| mwCondA w)) else none

/-- The sector that begins before a word is split more than 3 times, or holds a fragment of fewer than 256 codeword bits (R90): `ends` counts
its FRAG_ENDs and `start` is the position of the first codeword bit of the fragment, as far as words that act at a fixed position give it.
Followed for `n` words. -/
def sectorBroken (words : Assoc (BitVec 128)) : Nat → Nat → Nat → Option Nat → Bool
  | 0, _, _, _ => false
  | n + 1, a, ends, start =>
    match aget words a with
    | none => false
    | some w =>
      let at_ : Option Nat := if mwAtm w = 1 then some (mwAt w) else none
      let short : Bool := match start, at_ with | some x, some y => decide (y < x + 256) | _, _ => false
      if mwSect w = 1 then false
      else if mwSect w = 3 ∧ (3 ≤ ends ∨ short) then true
      else match sureNext w with
        | none => false
        | some b => sectorBroken words n b (if mwSect w = 3 then ends + 1 else ends)
            (if mwSect w = 2 then at_.map (· + 16) else if mwSect w = 3 then none else start)

/-- The format of a microcode breaks R90 on a way through its words that no condition decides; where one does, the sector fails when it
happens (R182). (DEDUCED, safe: log entry 24.) -/
def formatBroken (words : Assoc (BitVec 128)) : Bool :=
  words.any fun e => mwSect e.2 == 1 && (match sureNext e.2 with
    | none => false
    | some b => sectorBroken words 256 b 0 (if mwAtm e.2 = 1 then some (mwAt e.2 + 32) else none))

/-- The content checks of a personality, by section TYPE (step 4 of Table 18.6). -/
def contentChecks (g : Nat → Byte) : List (Nat × List Check) :=
  let v (ty : Nat) : Nat → Nat → Nat := secNum g (pkSection g ty)
  let n := v 1 0 1
  let zones := (List.range n).map (readZones g)
  let rpm := v 11 0 2
  let profs (size : Nat) (f : Nat → List Check) : List Check :=
    (headsOn n).flatMap fun h => (List.range (zones.getD (h % 18) []).length).flatMap fun z => f (size * (h * 64 + z))
  [(1, mediaChecks (v 1) zones), (2, zones.zipIdx.flatMap fun (t, u) => zoneChecks (v 2) u t), (3, profs 128 (channelChecks (v 3))),
   (4, profs 32 (writeChecks (v 4))), (5, servoChecks (v 5) n rpm), (11, spindleChecks (v 11)), (12, eclipseChecks (v 12) (v 5) rpm),
   (13, microChecks (v 13) ++ [(64, !formatBroken (readWords g))])]

/-! ## Verification (R601) -/

/-- An outcome of verification: REASON, SECTION and the package offset of Table 18.10. -/
structure Verdict where
  reason : Nat
  section_ : Nat
  ofs : Nat
  deriving DecidableEq, Repr

/-- The first content check that fails. -/
def contentVerdict (g : Nat → Byte) : Option Verdict :=
  (contentChecks g).findSome? fun e => (firstBad e.2).map fun o => { reason := 4, section_ := e.1, ofs := (pkSection g e.1).1 + o }

/-- Steps 1, 2, 3 and 5 applied to the boot loader inside a firmware package, as its step 1. -/
def bootVerdict (f : Fuses) (g : Nat → Byte) : Option Verdict :=
  let b := (pkSection g 0x80).1
  let h (o : Nat) : Byte := g (b + o)
  match firstBad (headerChecks h 0) with
  | some o => some { reason := 1, section_ := 0, ofs := b + o }
  | none =>
    if endorsed f h 0 && signed_ h && notRolledBack f h 0 && decide (pkTotal h ≤ (pkSection g 0x80).2) then none
    else some { reason := 1, section_ := 0, ofs := b }

/-- Verification of a package: none where it passes, else the first step that fails (Table 18.6, steps 1 to 5). -/
def verify (f : Fuses) (kind : Nat) (g : Nat → Byte) : Option Verdict :=
  match firstBad (headerChecks g kind) with
  | some o => some { reason := 1, section_ := 0, ofs := o }
  | none => match (if kind = 1 then bootVerdict f g else none) with
    | some v => some v
    | none =>
      if !endorsed f g kind then some { reason := 2, section_ := 0, ofs := 0 }
      else if !signed_ g then some { reason := 3, section_ := 0, ofs := 0 }
      else match (if kind = 2 then contentVerdict g else none) with
        | some v => some v
        | none => if notRolledBack f g kind then none else some { reason := 5, section_ := 0, ofs := 0 }

/-! ## Reading a package that has passed -/

/-- What the device keeps of a package in force. -/
def readInfo (g : Nat → Byte) : PkgInfo :=
  { version := BitVec.ofNat 64 (pkNum g 16 8), svn := pkNum g 24 1, floor := pkNum g 25 1, revoke := pkNum g 26 1,
    keySvn := pkNum g 4098 1, keyFloor := pkNum g 27 1, total := pkTotal g, digest := pkDigest g }

/-- The boot loader inside a firmware package. -/
def readBoot (g : Nat → Byte) : PkgInfo := readInfo fun o => g ((pkSection g 0x80).1 + o)

/-- An actuator entry (Table 6.4). -/
def readAct (v : Nat → Nat → Nat) (o : Nat) : ActPers :=
  { vMax := v o 2, aMax := v (o + 2) 2, jMax := v (o + 4) 2, vqMax := v (o + 6) 2, aqMax := v (o + 8) 2, jqMax := v (o + 10) 2,
    kAcc := v (o + 12) 2, iFs := v (o + 14) 2, tSeekMax := v (o + 16) 4, stroke := v (o + 20) 4, hmaSpan := v (o + 24) 2,
    vDead := v (o + 26) 2, rCoil := v (o + 28) 2, kBemf := v (o + 30) 2, loadV := v (o + 32) 2, unloadV := v (o + 34) 2,
    curKp := v (o + 36) 2, curKi := v (o + 38) 2 }

/-- A head entry (Table 6.5). -/
def readHead (v : Nat → Nat → Nat) (o : Nat) : HeadPers :=
  { pitch := v o 2, weight := v (o + 2) 1, hmaGain := v (o + 4) 4, hmaLimit := v (o + 8) 2 }

/-- The spindle block (Table 7.1). -/
def readSpindle (v : Nat → Nat → Nat) : SpnPers :=
  { formatRpm := v 0 2, polePairs := v 2 1, advance := v 3 1, iFs := v 4 2, iAlign := v 6 2, tAlign := v 8 2, olRpm := v 10 2,
    tOl := v 12 2, rampUp := v 14 2, rampDn := v 16 2, tSpinup := v 18 2, rectV := v 20 1, unloadPct := v 21 1, curKp := v 22 2,
    curKi := v 24 2, dead := v 26 1 }

/-- The eclipse block (Table 15.7). -/
def readEclipse (v : Nat → Nat → Nat) : EclipseBlock :=
  { inertia := v 0 4, pWind := v 4 4, pElec := v 8 4, eHoldup := v 12 4, ePark := v 16 4, tReach := v 20 4, margin := v 24 1 }

/-- The words of a window, by their offset in the SCE block (Table 6.7); a word of 0 is not listed. -/
def readWindow (v : Nat → Nat → Nat) (base len step : Nat) (chunk : Nat) : Assoc Word :=
  ((List.range (len / 4)).map fun i => (base + (4 * i / chunk) * step + 4 * i % chunk, BitVec.ofNat 32 (v (4 * i) 4))).filter
    fun e => e.2 != 0

/-- The personality that a package gives (Table 18.5). -/
def readPers (g : Nat → Byte) : Pers :=
  let v (ty : Nat) : Nat → Nat → Nat := secNum g (pkSection g ty)
  let n := v 1 0 1
  let zones := (List.range 18).map fun u => if u < n then readZones g u else []
  let keys := (headsOn n).flatMap fun h => (List.range (zones.getD (h % 18) []).length).map fun z => h * 64 + z
  { surfaces := n, servoRate := v 1 1 2, lowMark := v 1 3 1, highMark := v 1 4 1, failBand := v 1 5 1, overprov := v 1 6 1,
    zones := zones, eclipse := readEclipse (v 12), nW := v 5 0 2, slewHma := v 5 2 2, slewVcm := v 5 4 2,
    acts := (List.range 4).map fun a => readAct (v 5) (16 + 64 * a),
    heads := (List.range 72).map fun h => readHead (v 5) (272 + 16 * h),
    windows := readWindow (v 6) 0x10000 6144 0x200 0x100 ++ readWindow (v 7) 0x20000 0x2000 0x2000 0x2000 ++
      readWindow (v 8) 0x22000 0x200 0x200 0x200 ++ readWindow (v 10) 0x28000 0x800 0x800 0x800 ++
      readWindow (v 9) 0x40000 0x24000 0x24000 0x24000,
    spindle := readSpindle (v 11),
    profiles := keys.map fun k => (k, BitVec.ofNat 1024 (v 3 (128 * k) 128)),
    wprofiles := keys.map fun k => (k, BitVec.ofNat 256 (v 4 (32 * k) 32)),
    words := readWords g,
    vectors := [v 13 0 2, v 13 2 2, v 13 6 2, v 13 10 2, v 13 4 2, v 13 8 2] }

end Sys2Proof.Machine
end

