-- ==== Sys2Proof/Machine/Image.lean ====
section
/-! DEFINITION. Images (chapters 10 and 18): the boot flash, selectors and banks, putting a personality into force, staging,
IMAGE_DOWNLOAD, IMAGE_ACTIVATE and the activation sequence, and the stop request to the sequencers. -/

namespace Sys2Proof.Machine

/-! ## The boot flash (R602, R603) -/

/-- A byte of the flash; an erased one is 0xFF. -/
def State.flashByte (s : State) (a : Nat) : Byte := agetD s.sec.flash a 0xFF

/-- Bytes are programmed: a bit that is 0 stays 0 until its block is erased. -/
def State.flashProgram (s : State) (a : Nat) : List Byte → State
  | [] => s
  | b :: bs => ({ s with sec := { s.sec with flash := acanon s.sec.flash a 0xFF (s.flashByte a &&& b) } }).flashProgram (a + 1) bs

/-- A range of the flash is erased. -/
def State.flashErase (s : State) (a len : Nat) : State :=
  { s with sec := { s.sec with flash := afilter s.sec.flash fun k _ => !(decide (a ≤ k) && decide (k < a + len)) } }

/-- Where a bank keeps its package of a KIND (Table 18.7). -/
def bankSlot (bank kind : Nat) : Nat := (if kind = 2 then 0x04100000 else 0x00100000) + 0x08000000 * bank

/-- The package of a KIND in a bank. -/
def State.bankView (s : State) (bank kind : Nat) (o : Nat) : Byte := s.flashByte (bankSlot bank kind + o)

/-- A selector copy whose digest matches: the bank it names and its generation. -/
def State.selCopy (s : State) (k : Nat) : Option (Nat × BitVec 32) :=
  let g (o : Nat) : Byte := s.flashByte (0x10000 * k + o)
  if pkBytes g 0 8 == ascii "IMRITASL" && decide (pkNum g 8 1 < 2) && pkZero g 9 3 &&
      Config.sha3 (pkBytes g 0 16) == BitVec.ofNat 512 (pkNum g 16 64) then
    some (pkNum g 8 1, BitVec.ofNat 32 (pkNum g 12 4))
  else none

/-- The copy with the later generation (R603): its index, bank and generation. (DESIGN CHOICE, unsafe: log entry 41.) -/
def State.selector (s : State) : Option (Nat × Nat × BitVec 32) :=
  match s.selCopy 0, s.selCopy 1 with
  | some (b, g), some (c, h) => if 0 < (h - g).toNat ∧ (h - g).toNat < 2 ^ 31 then some (1, c, h) else some (0, b, g)
  | some (b, g), none => some (0, b, g)
  | none, some (c, h) => some (1, c, h)
  | none, none => none

/-- A new selector goes into the block that holds the older copy, after that block's erasure (R603). -/
def State.writeSelector (s : State) (bank : Nat) : State :=
  let (k, gen) := match s.selector with
    | some (i, _, g) => (1 - i, g + 1)
    | none => (0, 1)
  let head := ascii "IMRITASL" ++ leBytes 4 bank ++ leBytes 4 gen.toNat
  (s.flashErase (0x10000 * k) 0x10000).flashProgram (0x10000 * k) (head ++ leBytes 64 (Config.sha3 head).toNat)

/-! ## Putting a personality into force (R165, R212) -/

/-- USER_CAPACITY under the geometry in force (R41, R43). -/
def State.capacityNow (s : State) : Nat := capacityOf s.sec.pers s.effW s.effP

/-- The loop that a physical slot serves; one that serves none holds its own contents. (DEDUCED, unsafe: log entry 124.) -/
def State.loopServed (s : State) (q : Nat) : Nat := ((below 22 fun n => (s.slot n).phys == q).head?).getD q

/-- The words of both banks of every physical slot (R212), by address. -/
def State.goldenBanks (s : State) (w : Assoc Word) : Assoc Word :=
  (List.range 24).flatMap fun q =>
    let base := 0x10000 + 0x200 * s.loopServed q
    let one := w.filter fun e => decide (base ≤ e.1) && decide (e.1 < base + 0x100)
    (one.map fun e => (0x01710000 + 0x200 * q + (e.1 - base), e.2)) ++ one.map fun e => (0x01710100 + 0x200 * q + (e.1 - base), e.2)

/-- The units of the extent map region (R453): 48 GiB × USER_MAX ÷ 2³⁶, in whole GiB. -/
def mapUnitsFor (p : Pers) : Nat := 1024 * ceilDiv (48 * capacityOf p (min 16 p.surfaces) 1) (2 ^ 36)

/-- A personality is loaded: control store, servo block, tables, banks with bank A active, the profile tables in SRAM (R85, R132), and the
profiles of the streams that have a head. Loop states are kept in an activation and zeroed at a boot (Table 10.14 step 4, R212); the size of the extent map region is fixed at
the boot (R453). -/
def State.install (s : State) (p : Pers) (keep : Bool) : State :=
  let lo := s.regs.filter fun e => decide (e.1 < 0x01710000)
  let hi := s.regs.filter fun e => decide (0x01764000 ≤ e.1)
  let tables := (p.windows.filter fun e => decide (0x20000 ≤ e.1)).map fun e => (0x01700000 + e.1, e.2)
  let s := { s with
    regs := lo ++ s.goldenBanks p.windows ++ tables ++ hi,
    sec := { s.sec with pers := p },
    srm := { s.srm with profiles := p.profiles, wprofiles := p.wprofiles },
    hbm := { s.hbm with mapUnits := if keep then s.hbm.mapUnits else mapUnitsFor p },
    seq := { s.seq with words := p.words, bad := [] } }
  let s := (List.range 24).foldl (fun s n => s.modSlot n fun x =>
    { x with bank := false, swap := false, states := if keep then x.states else List.replicate 12 (0, 0) }) s
  let s := ((List.range 16).filter fun st => (s.stream st).readers != 0).foldl (fun s st => s.loadProfile st (s.stream st).zone) s
  { s with plc := { s.plc with userCap := s.capacityNow } }

/-! ## Stop requests (R196, R197) -/

/-- A stop request begins: a stream sequencer that waits for work stops at once, the others at their next commit; privileged ones
trap with cause ORDER. -/
def State.stopBegin (s : State) : State :=
  let s := { s with seq := { s.seq with stopReq := true } }
  let s := (List.range 16).foldl (fun (s : State) q =>
    let x := s.seqr q
    if x.state = .waiting ∧ x.stage = .wait ∧ mwWait (s.mword q) = 23 ∧ x.items.isEmpty then
      s.modSeq q fun x => { x with state := .stopped }
    else s) s
  (s.cause 16 13).cause 17 13

/-- A stopped stream sequencer resumes from its snapshot, or at STREAM_ENTRY with NEW_IMAGE where the store was replaced (R196). -/
def State.resumeSeq (s : State) (q : Nat) (newImage : Bool) : State :=
  let entry := s.vector 0
  s.modSeq q fun x =>
    if x.state ≠ .stopped then x
    else
      let fresh : Seq := { x with
        state := .running, stage := .fetch, pc := entry, vars := List.replicate 16 0, stack := [], snap := none, fromSnap := 0 }
      if newImage then { fresh with cause := x.cause ||| 128 }
      else match x.snap with
        | some n => { fromSnapshot x n with state := .running, stage := .fetch }
        | none => fresh

/-- A stop request ends; privileged sequencers go on in their trap routine (R197). -/
def State.stopEnd (s : State) (newImage : Bool) : State :=
  let s := { s with seq := { s.seq with stopReq := false } }
  let s := (List.range 16).foldl (fun s q => s.resumeSeq q newImage) s
  [16, 17].foldl (fun s q => s.modSeq q fun x => if x.state = .stopped then { x with state := .running } else x) s

/-- A privileged sequencer is held in its trap by the stop request: stopped at a commit of its trap routine, or about to return (R197). -/
def State.heldInTrap (s : State) (q : Nat) : Bool :=
  let x := s.seqr q
  x.trap.isSome && (x.state == .stopped || (x.stage == .flow && mwFlow (s.mword q) == 3))

/-- Whether every sequencer has stopped, or has nothing to stop. -/
def State.seqsStopped (s : State) : Bool :=
  (List.range 18).all fun q => (s.seqr q).state == .failed || (s.seqr q).state == .idle ||
    (if q < 16 then (s.seqr q).state == .stopped else s.heldInTrap q)

/-! ## Staging (R387) -/

/-- The image staged for a KIND, if it is complete. -/
def State.stagedWhole (s : State) (kind : Nat) : Option (List Byte) :=
  match aget s.eqt.staged kind with
  | some x => if x.bytes.length = x.total then some x.bytes else none
  | none => none

/-- Whether a download is in sequence. -/
def State.downloadFits (s : State) (c : Cmd) : Bool :=
  ef c.entry 128 32 == 0 ||
  (match aget s.eqt.staged (ef c.entry 32 2) with
   | some x => x.owner == c.lineage && x.bytes.length == ef c.entry 128 32 && x.total == ef c.entry 192 32
   | none => false)

/-- IMAGE_DOWNLOAD: its data is pulled, and staged once it is present. -/
def State.cmdImageDownload (s : State) (t : Nat) : State :=
  s.cmdRow t 0x42 (fun s => match s.cmd? t with
    | none => s
    | some c => if s.downloadFits c then s.startWalk t else s.endCmd t 0x0303 0) fun s => match s.cmd? t with
    | none => s
    | some c =>
      if !c.present || !s.mayAccept t c false then s
      else if !s.downloadFits c then s.endCmd t 0x0303 0
      else
        let k := ef c.entry 32 2
        let old := if ef c.entry 128 32 = 0 then [] else (match aget s.eqt.staged k with | some x => x.bytes | none => [])
        let x : Staging := { owner := c.lineage, total := ef c.entry 192 32, bytes := old ++ allArrived c }
        let s := s.accept t
        ({ s with eqt := { s.eqt with staged := aput s.eqt.staged k x } }).endCmd t 0 0

/-! ## IMAGE_ACTIVATE (R388) -/

/-- A verification's outcome goes into SEC_VERIFY_STAT and SEC_VERIFY_OFS (R601): CONTEXT 1 boot, 2 activation. -/
def State.verdict (s : State) (kind context : Nat) (v : Verdict) : State :=
  { s with sec := { s.sec with failKind := kind, context := context, reason := v.reason, section_ := v.section_, ofs := v.ofs } }

/-- The KINDs that an IMAGE_ACTIVATE names, as package KINDs. -/
def kindsOf (kinds : Nat) : List Nat := (if kinds.testBit 0 then [1] else []) ++ if kinds.testBit 1 then [2] else []

/-- Whether a personality keeps the geometry (R388). -/
def State.sameGeometry (s : State) (p : Pers) : Bool :=
  let o := s.sec.pers
  p.surfaces == o.surfaces && (p.zones.take p.surfaces) == (o.zones.take o.surfaces) && p.nW == o.nW &&
  p.spindle.formatRpm == o.spindle.formatRpm && decide (s.allocated ≤ ({ s with sec := { s.sec with pers := p } }).capacityNow)

/-- The verdict on a staged image: steps 1 to 6 of Table 18.6. -/
def State.stagedVerdict (s : State) (kind : Nat) (bs : List Byte) : Option Verdict :=
  let g (o : Nat) : Byte := bs.getD o 0
  match verify s.sec.fuses kind g with
  | some v => some v
  | none => if kind = 2 && !s.sameGeometry (readPers g) then some { reason := 6, section_ := 0, ofs := 0 } else none

/-- The status of a verdict at IMAGE_ACTIVATE (Table 18.6). -/
def verdictStatus (v : Verdict) : BitVec 16 := if v.reason = 5 then 0x0305 else if v.reason = 6 then 0x0306 else 0x0304

/-- Of the images named, the failure whose status R388 puts first. -/
def State.activateVerdict (s : State) (imgs : List (Nat × List Byte)) : Option (Nat × Verdict) :=
  let vs := imgs.filterMap fun e => (s.stagedVerdict e.1 e.2).map fun v => (e.1, v)
  match vs.find? fun e => e.2.reason < 5 with
  | some e => some e
  | none => match vs.find? fun e => e.2.reason == 5 with
    | some e => some e
    | none => vs.head?

/-- D of a staged image, or of the one in force where the activation does not name its KIND. -/
def State.newDigest (s : State) (imgs : List (Nat × List Byte)) (kind : Nat) : BitVec 512 :=
  match imgs.find? fun e => e.1 == kind with
  | some e => pkDigest fun o => e.2.getD o 0
  | none => if kind = 1 then s.sec.fw.digest else s.sec.persPkg.digest

/-- IMAGE_ACTIVATE. -/
def State.cmdImageActivate (s : State) (t : Nat) : State :=
  s.cmdRow t 0x43 (fun s => s) fun s => match s.cmd? t with
    | none => s
    | some c =>
      let kinds := kindsOf (ef c.entry 32 2)
      let imgs := kinds.filterMap fun k => (s.stagedWhole k).map fun b => (k, b)
      if !s.mayAccept t c false then s
      else if s.eqt.activation.isSome then s.endCmd t 0x0308 0
      else if imgs.length ≠ kinds.length then s.endCmd t 0x0307 0
      else match s.activateVerdict imgs with
        | some (k, v) => (s.verdict k 2 v).endCmd t (verdictStatus v) 0
        | none =>
          let a : Activation := { tag := t, kinds := ef c.entry 32 2, step := 0, fwDigest := s.newDigest imgs 1,
                                  persDigest := s.newDigest imgs 2, cut := false }
          let s := s.accept t
          { s with eqt := { s.eqt with activation := some a } }

/-! ## The activation sequence (Table 10.14, R604) -/

/-- One package of the inactive bank is written: from its staging area, or from the active bank. -/
def State.writeSlot (s : State) (kinds kind : Nat) : State :=
  let dst := bankSlot (1 - s.sec.bank) kind
  let bytes := if (kindsOf kinds).contains kind then
      (match s.stagedWhole kind with | some b => b | none => [])
    else pkBytes (s.bankView s.sec.bank kind) 0 (pkTotal (s.bankView s.sec.bank kind))
  (s.flashErase dst 0x4000000).flashProgram dst bytes

/-- The inactive bank is written and read back; every D is compared (R604). -/
def State.writeBank (s : State) (a : Activation) : State × Bool :=
  let s := (s.writeSlot a.kinds 1).writeSlot a.kinds 2
  (s, pkDigest (s.bankView (1 - s.sec.bank) 1) == a.fwDigest && pkDigest (s.bankView (1 - s.sec.bank) 2) == a.persDigest)

/-- An activation moves to a step. -/
def State.activationAt (s : State) (a : Activation) (n : Nat) : State :=
  { s with eqt := { s.eqt with activation := some { a with step := n } } }

/-- Step 3: the selector write puts the new images into force (R391). -/
def State.newImages (s : State) : State :=
  let b := 1 - s.sec.bank
  let s := s.writeSelector b
  { s with sec := { s.sec with
    bank := b, fw := readInfo (s.bankView b 1), persPkg := readInfo (s.bankView b 2), bootPkg := readBoot (s.bankView b 1) } }

/-- Step 4: a new personality is loaded. -/
def State.newPersonality (s : State) (a : Activation) : State :=
  if a.kinds.testBit 1 then s.install (readPers (s.bankView s.sec.bank 2)) true else s

/-- Step 5: the stop request ends, the admissions that waited are processed, IMAGE_ACTIVATE is answered and the digest is computed. -/
def State.activationEnd (s : State) (a : Activation) : State :=
  let s := s.stopEnd (a.kinds.testBit 1)
  let s := { s with eqt := { s.eqt with activation := some { a with step := 5 }, firstAccepted := false } }
  (((s.endCmd a.tag 0 0).drainMra).conjStart).recomputeDmax

/-- A supply loss, a warm reset (R391) or the recovery from a fault (R20) interrupts an activation: before step 3 it ends without effect, with a status other than
SUCCESS of Table 0.3 that the manual leaves open; from step 3 on it runs to its end. (DEDUCED, safe: log entry 39.) -/
def State.activationCut (s : State) : State :=
  match s.eqt.activation with
  | none => s
  | some a =>
    if a.step < 3 then
      let st := BitVec.ofNat 16 (s.freeVal % 0x3FF + 1)
      let s := (s.freeUsed).stopEnd false
      (({ s with eqt := { s.eqt with activation := none } }).endCmd a.tag st 0).drainMra
    else if a.step = 3 then (s.newPersonality a).activationEnd a
    else if a.step = 4 then s.activationEnd a
    else s

/-- ACTIVATION_SEQUENCE: the next step takes place; `flashOk` says whether the flash took what R604 wrote. No flash write begins from
PN2 on (R605). One that the recovery from a fault has cut is abandoned instead (R20). -/
def State.activationSequence (s : State) (flashOk : Bool) : State :=
  match s.eqt.activation with
  | none => s
  | some a => if a.cut ∧ a.step < 3 then s.activationCut else match a.step with
    | 0 =>
      if 2 ≤ s.stageCode then s
      else
        let (s, same) := s.writeBank a
        if flashOk && same then s.activationAt a 1
        else
          let s := s.verdict ((kindsOf a.kinds).headD 1) 2 { reason := 7, section_ := 0, ofs := 0 }
          ({ s with eqt := { s.eqt with activation := none } }).endCmd a.tag 0x0304 0
    | 1 => (s.stopBegin).activationAt a 2
    | 2 => if s.seqsStopped && decide (s.stageCode < 2) then (s.newImages).activationAt a 3 else s
    | 3 => (s.newPersonality a).activationAt a 4
    | 4 => s.activationEnd a
    | _ => s

end Sys2Proof.Machine
end

