-- ==== Sys2Proof/Machine/Eclipse.lean ====
section
/-! DEFINITION. The eclipse save (R71-R73, R192, R534-R538): its sectors, SQP0's sharing of them among the actuators, their writing and their
trailing verify. -/

namespace Sys2Proof.Machine

/-- A stream is given the head of a surface and its target track (R79, R201). -/
def State.aimStream (s : State) (st surface track : Nat) : State :=
  let x := s.stream st
  let s := if x.readers ≠ 0 ∧ x.head = surface then s
    else if x.readGate || x.writeGate || x.inSector then
      s.modStream st fun y => { y with pendingHead := some (word [(3, 8), (surface, 0)]) }
    else s.headSwitch st (word [(3, 8), (surface, 0)])
  s.setRv (.sceTgt st) (0x80000000#32 + BitVec.ofNat 32 (track % 2 ^ 24))

/-- The nearest eclipse ring of a surface to a track, and the track of it that is nearest (R70, R71); of two as near, that of the lower
number. (DESIGN CHOICE, unsafe: log entry 157.) -/
def ringTrack (t : List Zone) (track : Nat) : Nat :=
  let near (z : Zone) : Nat := max z.firstTrack (min track (z.firstTrack + z.trackCount - 1))
  let gap (n : Nat) : Nat := (track - n) + (n - track)
  (((t.filter (·.eclipse)).map near).foldl (fun b n => match b with
    | none => some n
    | some m => if gap n < gap m then some n else some m) none).getD track

/-- An actuator seeks to its nearest eclipse ring (R71, Table 15.6): its active heads take tracks of one ring and GO follows. -/
def State.ringSeek (s : State) (a : Nat) : State :=
  let st := (s.act a).state
  if (st = .settling ∨ st = .following) ∧ s.hasWeight a then
    let s := (s.activeStreams a).foldl (fun s i =>
      let tr := ringTrack (s.zoneTable (s.stream i).head) (fld (s.rv (.sceTgt i)) 23 0)
      s.setRv (.sceTgt i) (0x80000000#32 + BitVec.ofNat 32 tr)) s
    s.go a false
  else s

/-! ## The sectors of a save (R534, R535) -/

/-- DELTA sectors of a list of journal records, at 4,096 bytes a sector (Table 15.9). (DESIGN CHOICE, safe: log entry 48.) -/
def deltaSectors (l : List JRec) : Nat := ceilDiv (l.map (·.size)).sum 4096

/-- The records that lie wholly within a number of bytes. -/
def recordsWithin : Nat → List JRec → List JRec
  | _, [] => []
  | n, r :: rest => if r.size ≤ n then r :: recordsWithin (n - r.size) rest else []

/-- The generation area a save writes: one that holds no unreleased save (R73). (DESIGN CHOICE, unsafe: log entry 42.) -/
def State.saveArea (s : State) : Nat :=
  if (aget s.plc.generations 0).isNone then 0 else if (aget s.plc.generations 1).isNone then 1 else 0

/-- The sectors of a save in the order of R537: manifest, ECLIPSE, DELTA. -/
def saveSectors (blocks : List LandBlock) (deltas : List JRec) : List EclSector :=
  (List.range (ceilDiv blocks.length 128)).map EclSector.manifest ++ (List.range blocks.length).map EclSector.block ++
    (List.range (deltaSectors deltas)).map EclSector.delta

/-- The user area of an ECLIPSE_DELTA sector (Table 15.9). -/
def deltaArea (type index total count : Nat) (p : Pair) (body : List Byte) : List Byte :=
  leBytes 1 type ++ leBytes 3 0 ++ leBytes 4 index ++ leBytes 4 total ++ leBytes 4 count ++ pairBytes p ++ leBytes 4 0 ++
    (body.take 4096 ++ List.replicate (4096 - body.length) 0) ++ leBytes 32 0

/-- A manifest entry (Table 15.10). -/
def manifestEntry (b : LandBlock) : List Byte :=
  leBytes 1 (b.key / 2 ^ 64) ++ leBytes 7 0 ++ leBytes 8 (b.key % 2 ^ 64) ++ pairBytes b.pair ++ leBytes 4 0

/-- The 4,160 bytes of a sector of a save: an ECLIPSE sector holds its block in the stored form (R534). -/
def State.eclBytes (s : State) (v : Save) : EclSector → BitVec 33280
  | .block i => match v.blocks[i]? with
    | some b => s.storedForm b.key b.val
    | none => 0
  | .manifest i => BitVec.ofNat 33280 (leNat (deltaArea 1 i (ceilDiv v.blocks.length 128) v.blocks.length v.pair
      (((v.blocks.drop (128 * i)).take 128).flatMap manifestEntry)))
  | .delta i =>
    let bytes := (v.deltas.map (·.size)).sum
    BitVec.ofNat 33280 (leNat (deltaArea 2 i (deltaSectors v.deltas) (min 4096 (bytes - 4096 * i)) v.pair
      ((leBytes 4096 (Config.sysBytes (2 ^ 32 + v.gen) i).toNat).take (bytes - 4096 * i))))

/-- The payload of a sector of a save (R34, R535). -/
def State.eclPayload (s : State) (v : Save) (surface : Nat) (e : EclSector) : BitVec 33792 :=
  let (kind, ix) := match e with | .block i => (6, i) | .manifest i => (7, i) | .delta i => (7, i)
  payloadOf (s.eclBytes v e) { kind := kind, nsid := 0, member := 0, width := 2, parity := 1, lba := ix, row := 0, pair := v.pair,
                               band := bandId surface 0, gen := v.gen }

/-! ## Sharing and writing (R192, R536, R537) -/

/-- A privileged sequencer is there to run the save (R164). -/
def State.saveRuns (s : State) : Bool := (s.seqr 16).state != .failed || (s.seqr 17).state != .failed

/-- A stream that can write for a save: its head is active, its sequencer works and its arm is over the disk. -/
def State.saveStream (s : State) (st : Nat) : Bool :=
  let a := (s.act (actOf st)).state
  s.activeHead st && (s.seqOf st).isSome && !(s.lhead (headOf st (s.stream st))).out &&
  (a == .seeking || a == .settling || a == .following)

/-- The streams that SQP0 uses: at most two of each actuator (R71, R192). (DESIGN CHOICE, unsafe: log entry 173.) -/
def State.saveStreams (s : State) : List Nat :=
  (List.range 4).flatMap fun a => ((streamsOf a).filter s.saveStream).take 2

/-- Sectors dealt to actuators in turn, so that their shares are equal (R537). -/
def dealShares (acts : List Nat) (l : List (EclSector × Option Nat)) : Assoc (List (EclSector × Option Nat)) :=
  acts.zipIdx.map fun e => (e.1, (l.zipIdx.filter fun x => x.2 % acts.length == e.2).map Prod.fst)

/-- The actuators of some streams, each once. -/
def actsOf (sts : List Nat) : List Nat := (sts.map actOf).eraseDups

/-- Sectors one work item of a save transfers: a slot each of its stream. -/
def eclRun : Nat := 256

/-- The track and first sector that an actuator's run n takes on a surface (R536): the tracks of its residue in the generation area of its
ring, in increasing order, each from its first sector. None where the area is used up. -/
def State.eclPlace (s : State) (v : Save) (a surface n : Nat) : Option (Nat × Nat × Nat) :=
  match ((s.zoneTable surface).filter (·.eclipse))[agetD v.rings a 0]? with
  | none => none
  | some z =>
    let runs := max 1 (ceilDiv z.spt eclRun)
    let k := a + 4 * (n / runs)
    if k < z.trackCount / 2 then
      some (z.firstTrack + v.area * (z.trackCount / 2) + k, eclRun * (n % runs), min eclRun (z.spt - eclRun * (n % runs)))
    else none

/-- Changes the save in progress. -/
def State.modSave (s : State) (f : Save → Save) : State := { s with pwr := { s.pwr with save := s.pwr.save.map f } }

/-- The eclipse ring that is nearest to an actuator's arm, by number (R71). -/
def State.nearRing (s : State) (st : Nat) : Nat :=
  let t := s.zoneTable (s.stream st).head
  let tr := ringTrack t (fld (s.rv (.sceTgt st)) 23 0)
  ((t.filter (·.eclipse)).takeWhile fun z => decide (z.firstTrack + z.trackCount ≤ tr)).length

/-- SQP0 posts the next sectors of an actuator's share to one of its streams: no sector goes to a surface on which it failed.
(DESIGN CHOICE, unsafe: log entry 174.) -/
def State.eclPost (s : State) (st n : Nat) : State :=
  match s.pwr.save, s.seqOf st with
  | some v, some q =>
    let u := (s.stream st).head
    match s.eclPlace v (actOf st) u n with
    | none => s
    | some (t, x, room) =>
      let share := agetD v.shares (actOf st) []
      let can := (share.filter fun e => e.2 != some u).take room
      if can.isEmpty then s
      else
        let s := s.modSave fun v => { v with
          shares := aput v.shares (actOf st) (share.filter fun e => !can.contains e), posted := aput v.posted st can }
        let s := can.zipIdx.foldl (fun s e => (s.setSlot st e.2 .source).setPayload st e.2 (s.eclPayload v u e.1.1)) s
        s.postItem q { kind := 4, head := u, flags := 1, track := t, first := x, count := can.length, slot := 0, tag := v.gen }
  | _, _ => s

/-- An actuator goes to its next run of tracks and its streams take sectors for it. -/
def State.eclNext (s : State) (a : Nat) : State :=
  match s.pwr.save with
  | none => s
  | some v =>
    let sts := v.streams.filter fun st => actOf st == a
    let n := agetD v.steps a 0
    let s := (streamsOf a).foldl (fun s st => if sts.contains st then s else s.setRv (.sceTgt st) (s.rv (.sceTgt st) &&& 0x00FFFFFF#32)) s
    let s := sts.foldl (fun s st => match s.eclPlace v a (s.stream st).head n with
      | some (t, _, _) => s.setRv (.sceTgt st) (0x80000000#32 + BitVec.ofNat 32 (t % 2 ^ 24))
      | none => s) s
    let s := (s.go a false).modSave fun v => { v with steps := aput v.steps a (n + 1) }
    sts.foldl (fun s st => s.eclPost st n) s

/-- A trailing verify of the save is read by a stream of the actuator behind the one that wrote (R73).
(DESIGN CHOICE, unsafe: log entry 175.) -/
def State.eclVerify (s : State) (a : Nat) : State :=
  match s.pwr.save with
  | none => s
  | some v => match s.wrp.verifies.find? fun e => !e.2.ecl.isEmpty && !e.2.read && e.2.row == some (0, a), v.streams.find? fun st => actOf st == a with
    | some (id, w), some st => match s.seqOf st with
      | none => s
      | some q =>
        let s := s.aimStream st w.surface w.track
        ((s.go a false).modSave fun v => { v with posted := aput v.posted st [] }).postItem q
          { kind := 3, head := w.surface, flags := 0, track := w.track, first := w.sector, count := w.count, slot := 0, tag := id }
    | _, _ => s

/-- SQP0 goes on with the save (R21, R537): streams that failed or lost their head leave it, the share of an actuator without a stream goes
to the others, and every actuator whose streams have nothing posted takes its next run, or once its share is written a verify. -/
def State.saveStep (s : State) : State :=
  match s.pwr.save with
  | none => s
  | some v =>
    if v.ended ∨ !s.saveRuns then s
    else
      let live := v.streams.filter s.saveStream
      let acts := actsOf live
      let orphans := (v.shares.filter fun e => !acts.contains e.1).flatMap Prod.snd
      let dealt := dealShares acts orphans
      let s := s.modSave fun v => { v with
        streams := live,
        shares := if acts.isEmpty then v.shares else (afilter v.shares fun a _ => acts.contains a).map fun e => (e.1, e.2 ++ agetD dealt e.1 []) }
      acts.foldl (fun s a => match s.pwr.save with
        | none => s
        | some v =>
          let busy := v.streams.any fun st => actOf st == a && (aget v.posted st).isSome
          let st := (s.act a).state
          if busy ∨ (st ≠ .settling ∧ st ≠ .following) then s
          else
            let s := if (aget v.rings a).isSome then s else match v.streams.find? fun st => actOf st == a with
              | some st => s.modSave fun v => { v with rings := aput v.rings a (s.nearRing st) }
              | none => s
            if (agetD v.shares a []).isEmpty then s.eclVerify a else s.eclNext a) s

/-- The work of a save that has been retired (R73, R537): sectors written are on media, to be verified where the trailing actuator takes
part; those not written go back to the actuator's share, a failed one not to the same surface. -/
def State.eclWritten (s : State) (d : WorkDone) : State :=
  match s.pwr.save with
  | none => s
  | some v => match aget v.posted d.stream with
    | none => s
    | some l =>
      let w := d.item
      if w.kind = 3 then
        { (s.modSave fun v => { v with posted := adel v.posted d.stream }) with wrp := { s.wrp with
          verifies := amod s.wrp.verifies w.tag fun i => { i with read := decide (w.count ≤ d.count) } } }
      else
        let a := actOf d.stream
        let failed (k : Nat) : Bool := d.failed.contains (w.track, w.first + k)
        let ok := l.zipIdx.filter fun e => decide (e.2 < d.count) && !failed e.2
        let back := (l.zipIdx.filter fun e => !(decide (e.2 < d.count) && !failed e.2)).map fun e =>
          (e.1.1, if failed e.2 then some w.head else e.1.2)
        let spots := ok.map fun e => ({ what := e.1.1, surface := w.head, track := w.track, sector := w.first + e.2 } : EclSpot)
        let s := s.modSave fun v => { v with
          posted := adel v.posted d.stream, spots := v.spots ++ spots, shares := aput v.shares a (back ++ agetD v.shares a []) }
        let t := (a + 1) % 4
        if (actsOf v.streams).contains t ∧ !spots.isEmpty then
          let cfg := s.rv .wrpTvCfg
          { s with wrp := { s.wrp with
            verifies := aput s.wrp.verifies s.wrp.nextVerify
              { surface := w.head, track := w.track, sector := w.first, count := w.count, row := some (0, t), sys := none,
                ecl := l.map fun e => e.1, cfg := cfg, deadline := s.now + fld cfg 15 12 * s.revNs, read := false, bad := [] },
            nextVerify := s.wrp.nextVerify + 1 } }
        else s

/-- A run of the save has been verified: a sector that failed is written again on another surface (R73). -/
def State.eclVerified (s : State) (v : VerifyItem) (bad : List Nat) : State :=
  s.modSave fun x =>
    let again := x.spots.filter fun e => e.surface == v.surface && e.track == v.track && bad.any fun k => e.sector == v.sector + k
    let a := ((actsOf x.streams).head?).getD 0
    { x with spots := x.spots.filter (fun e => !again.contains e),
             shares := aput x.shares a (agetD x.shares a [] ++ again.map fun e => (e.what, some e.surface)) }

/-- Nothing of a save is left to be written or verified (R538). -/
def State.saveWhole (s : State) (v : Save) : Bool :=
  v.shares.all (fun e => e.2.isEmpty) && v.posted.isEmpty && s.wrp.verifies.all fun e => e.2.ecl.isEmpty

/-- The save begins (Table 15.8 step 3, R192): SQP0 writes FORCE with the ECLIPSE vector to the stream sequencers it uses and with
STREAM_ENTRY to the others, and posts their work. -/
def State.saveBegin (s : State) : State :=
  match s.pwr.save with
  | none => s
  | some v =>
    let sts := s.saveStreams
    let s := (List.range 16).foldl (fun s q => s.force q (s.vector (if sts.contains (s.seqr q).stream then 3 else 0))) s
    let s := s.modSave fun v => { v with
      streams := sts, shares := dealShares (actsOf sts) ((saveSectors v.blocks v.deltas).map fun e => (e, none)), posted := [] }
    if v.ended then s else s.saveStep

end Sys2Proof.Machine
end

