-- ==== Sys2Proof/Machine/Power.lean ====
section
/-! DEFINITION. The power controller (chapter 15) and the reset (chapter 19): exit latencies, entries to and exits from an
operating point, supply sensing and the penumbra stages, the eclipse save, the end of umbra, and the warm chip reset. -/

namespace Sys2Proof.Machine

/-! ## Points and exit latencies (R507-R512) -/

/-- The points in depth order (Table 15.1). -/
def pointCodes : List Nat := [0x00, 0x10, 0x11, 0x13, 0x21, 0x23, 0x25, 0x35, 0x45]

/-- Heads unloaded in a point. -/
def pointUnloads (p : Nat) : Bool := p % 2 == 1

/-- Spindle sub-point: 0 FORMAT_RPM, 1 IDLE_RPM, 2 stopped. -/
def pointSpin (p : Nat) : Nat := p / 2 % 4

/-- IDLE_RPM in force (Table 15.12). -/
def State.idleRpm (s : State) : Nat := if fld (s.rv .pwrCfg) 13 0 = 0 then 5400 else fld (s.rv .pwrCfg) 13 0

/-- T_BOOT in µs: 60 ms and the packages of the bank at 0.4 GB/s (R606). -/
def State.tBootUs (s : State) : Nat := 60000 + ceilDiv (s.sec.fw.total + s.sec.persPkg.total) 400

/-- T_MAP in µs: the extent map region at 2 GB/s (Table 15.2, R453). -/
def State.tMapUs (s : State) : Nat := ceilDiv (s.hbm.mapUnits * 2 ^ 20) 2000

/-- T_LOCK in µs (R275). -/
def State.tLockUs (s : State) : Nat :=
  let ph := fld (s.rv .spnTlCfg) 29 24
  let rpm := max 1 s.targetRpm
  ceilDiv (30 * 10000 * 1000000) (max 1 (ph * rpm)) + ceilDiv (3840 * 1000000) rpm

/-- T_dom in µs. -/
def State.tDomUs (s : State) (p : Nat) : Nat :=
  match p / 16 with
  | 0 => 0
  | 1 => 50
  | 2 => 500
  | 3 => 5000
  | _ => s.tBootUs + s.tMapUs

/-- T_spin in µs. -/
def State.tSpinUs (s : State) (p : Nat) : Nat :=
  let f := s.spnPers.formatRpm
  match pointSpin p with
  | 0 => 0
  | 1 => ceilDiv ((f - s.idleRpm) * 1000000) (max 1 s.spnPers.rampUp) + ceilDiv (480 * 1000000) (max 1 f)
  | _ => 100000 * s.spnPers.tSpinup

/-- T_mech in µs. -/
def State.tMechUs (s : State) (p : Nat) : Nat :=
  if !pointUnloads p then 0
  else
    let ld := 150000 + ((s.sec.pers.acts.map (·.tSeekMax)).max?).getD 0
    if pointSpin p ≠ 0 ∧ fld (s.rv .spnTlCfg) 31 30 ≠ 0 then max ld s.tLockUs else ld

/-- T_exit of a point in µs (Table 15.2). -/
def State.tExitUs (s : State) (p : Nat) : Nat := s.tDomUs p + s.tSpinUs p + s.tMechUs p

/-- The device's tolerance in µs: the smallest among the ACTIVE sessions (R511); 0xFFFF_FFFF sets no limit (R392). -/
def State.tolerance (s : State) : Nat :=
  ((s.sessIds.filter fun i => (s.sess i).state == .active).map fun i => (s.sess i).tol.toNat).foldl min 0xFFFFFFFF

/-- Whether R512 lets the device select a point. -/
def State.pointAllowed (s : State) (k : Nat) : Bool :=
  let p := pointCodes.getD k 0
  k == 0 || (bit (s.rv .pwrCfg) (23 + k) && (s.tolerance == 0xFFFFFFFF || decide (s.tExitUs p ≤ s.tolerance)))

/-- The deepest point that R512 allows. -/
def State.deepestPoint (s : State) : Nat := pointCodes.getD ((((List.range 9).filter s.pointAllowed).getLast?).getD 0) 0

/-- LATENCY_TOLERANCE (R392, R512). -/
def State.cmdLatencyTolerance (s : State) (t : Nat) : State :=
  s.cmdRow t 0x44 (fun s => s) fun s => match s.cmd? t with
    | none => s
    | some c =>
      if !s.mayAccept t c false then s
      else
        let s := (s.accept t).modSess c.sess fun x => { x with tol := ext c.entry 128 32 }
        let p := s.deepestPoint
        let s := if p = s.pwr.point then s else { s with pwr := { s.pwr with target := p } }
        s.endCmd t 0 (BitVec.ofNat 48 p)

/-! ## Entries and exits (R513-R521) -/

/-- The quiet conditions of R513. -/
def State.quiet (s : State) : Bool :=
  s.eqt.cmds.isEmpty && s.orb.pieces.isEmpty && s.chn.ladders.isEmpty && s.eqt.lineages.all (fun e => e.2.held.isEmpty) &&
  s.eqt.sessions.all (fun e => e.2.cq.waiting.all fun i => !itemHeld i) && s.stageCode == 0 &&
  (match s.eqt.activation with | some a => a.step == 5 | none => true)

/-- Keeps the moment since which the quiet conditions have held together. (DEDUCED, unsafe: log entry 27.) -/
def State.noteQuiet (s : State) : State :=
  if s.quiet then (if s.pwr.quietSince.isSome then s else { s with pwr := { s.pwr with quietSince := some s.now } })
  else { s with pwr := { s.pwr with quietSince := none } }

/-- An attempt goes into the POWER log (R518), newest first. -/
def State.attempt (s : State) (target begun : Nat) (pair : Pair) (outcome part reason : Nat) : State :=
  let a : Attempt := { pair := pair, target := target, outcome := outcome, part := part, reason := reason,
                       durationUs := (s.now - begun) / 1000 }
  { s with pwr := { s.pwr with
      attempts := (a :: s.pwr.attempts).take 16, target := 0xFF, wake := 0,
      entered := s.pwr.entered + b2n (outcome == 0), aborted := s.pwr.aborted + b2n (outcome == 1),
      refused := s.pwr.refused + b2n (outcome == 2) } }

/-- The actuators whose heads lie over the media or move there. -/
def State.loadedActs (s : State) : List Nat :=
  below 4 fun a =>
    let st := (s.act a).state
    st == .loading || st == .seeking || st == .settling || st == .following

/-- Participant 1 sends a notification for every ring with entries not yet notified. -/
def State.notifyFresh (s : State) : State :=
  (s.sessIds.filter fun i => (s.sess i).state == .active).foldl (fun s i =>
    let s := if (s.sess i).cq.fresh then s.notify i 1 else s
    if (s.sess i).eq.fresh then s.notify i 2 else s) s

/-- A participant's stop begins (Table 15.4). -/
def State.stopPart (s : State) (target k : Nat) : State :=
  match k with
  | 1 => (s.notifyFresh)
  | 3 => s.stopBegin
  | 4 =>
    if pointUnloads target then
      let l := s.loadedActs
      let s := { s with pwr := { s.pwr with parked := l } }
      l.foldl (fun s a => s.toRamp a .unloading) s
    else s
  | 5 =>
    let v := s.rv .spnCtl
    match pointSpin target with
    | 0 => s
    | 1 => s.spnCtlWrite ((v &&& 0xFFFFC000#32) + BitVec.ofNat 32 s.idleRpm)
    | _ => let w := v &&& 0x7FFFFFFF#32
      if s.disableRefused w then s else s.spnCtlWrite w
  | 7 => if 0x35 ≤ target then s.cacheFlush else s
  | _ => s

/-- POWER_ENTRY_BEGIN: an armed entry begins once the quiet conditions have held for QUIET_MS (R513). -/
def State.powerEntryBegin (s : State) : State :=
  match s.pwr.quietSince with
  | none => s
  | some q =>
    if s.pwr.target = 0xFF ∨ s.pwr.point ≠ 0 ∨ s.pwr.change.isSome ∨ !s.quiet then s
    else
      let s := s.advanceTo (q + 1000000 * fld (s.rv .pwrCfg) 23 16)
      let t := s.pwr.target
      let heads := (List.range 16).filterMap fun st =>
        if (s.stream st).readers = 0 then none
        else some (st, word [((s.stream st).readers, 8), ((s.stream st).head, 0)])
      let s := { s with pwr := { s.pwr with
        change := some (.entering t s.pair s.now 1 s.now), wake := 0, savedSpn := s.rv .spnCtl, savedHeads := heads, parked := [] } }
      (s.stamped).stopPart t 1

/-- What a participant answers: `none` not yet, `some 0` ready, otherwise its reason for refusal; for participant 2 also the moment
its drain may last to. `repairing` tells whether a row repair, unit retirement or remap is in progress.
(DEDUCED, unsafe: log entry 46.) -/
def State.partAnswer (s : State) (target k partAt : Nat) (repairing : Bool) : State × Option Nat :=
  let lost := s.hbm.failed != 0 && !s.hbm.redundant
  match k with
  | 1 => (s, if s.sessIds.any (fun i => (s.sess i).state == .admitting && !(s.sess i).createdLineage) then some 1 else some 0)
  | 2 =>
    if lost then (s, some 0x11)
    else
      let drained := target == 0x10 || (s.dirty == 0 && s.plc.journal.all (fun e => e.2.onMedia))
      let covered := target != 0x45 || (s.plc.journal.isEmpty && s.plc.mediaJournal.isEmpty)
      if drained && covered then (s, some 0) else (s.advanceTo (partAt + 20000000000), some 0x10)
  | 3 =>
    if (List.range 16).any fun q => !(s.seqr q).items.isEmpty then (s, some 0x20)
    else (s, if s.seqsStopped then some 0 else none)
  | 4 =>
    if !pointUnloads target then (s, some 0)
    else
      let bad := below 4 fun a => (s.act a).state == .outOfUse && (s.act a).headsOn
      if bad.any fun a => s.pwr.parked.contains a then (s, some 0x31)
      else if !bad.isEmpty then (s, some 0x30)
      else (s, if s.allUnloaded then some 0 else none)
  | 5 =>
    match pointSpin target with
    | 0 => (s, some 0)
    | n =>
      if s.spn.state = .fault then (s, some 0x40)
      else if n = 1 then
        (s, if (s.spn.state = .atSpeed ∧ s.spn.target = s.targetRpm) ∨ s.spn.state = .stopped then some 0 else none)
      else if bit (s.rv .spnCtl) 31 then (s, some 0x41)
      else (s, if s.spn.state = .stopped then some 0 else none)
  | 6 => (s, if (List.range 32).any (fun c => (s.ch c).state == .running || (s.ch c).state == .waiting) then some 0x50 else some 0)
  | 7 => (s, if repairing || lost then some 0x60 else some 0)
  | _ => (s, some 0)

/-- An exit or the restart after an abandonment begins from a participant. -/
def State.exitFrom (s : State) (k : Nat) : State :=
  { s with pwr := { s.pwr with change := if k = 0 then none else some (.exiting k false) } }

/-- A wake event has come and an abort point is reached: the entry is abandoned and its stopped participants restart (R516). -/
def State.abortEntry (s : State) (k : Nat) : State :=
  match s.pwr.change with
  | some (.entering target pair begun _ _) =>
    if s.pwr.wake = 0 then s else (s.attempt target begun pair 1 0 s.pwr.wake).exitFrom k
  | _ => s

/-- The abort points inside participants 2, 4 and 5 (R516). -/
def State.abortPoint (s : State) (k : Nat) : State :=
  match s.pwr.change with
  | some (.entering _ _ _ next _) => if next = k then s.abortEntry k else s
  | _ => s

/-- The entry completes at participant 8 (R508, R518); for Off RAIL_EN falls (R634). -/
def State.entryDone (s : State) (target begun : Nat) (pair : Pair) : State :=
  let s := s.attempt target begun pair 0 0 0
  let s := { s with pwr := { s.pwr with change := none, point := target } }
  let s := (s.evcEdge 16 (BitVec.ofNat 32 target)).recomputeDmax
  if target = 0x45 then { s with pwr := { s.pwr with railEn := false }, sec := { s.sec with booted := false } } else s

/-- PARTICIPANT_READY: the participant being stopped reports ready and the next is stopped, or it refuses (R515-R517). -/
def State.participantReady (s : State) (repairing : Bool) : State :=
  match s.pwr.change with
  | some (.entering target pair begun next partAt) =>
    let (s, ans) := s.partAnswer target next partAt repairing
    match ans with
    | none => s
    | some 0 =>
      if s.pwr.wake ≠ 0 then s.abortEntry next
      else if 8 ≤ next then s.entryDone target begun pair
      else
        let s := { s with pwr := { s.pwr with change := some (.entering target pair begun (next + 1) s.now) } }
        s.stopPart target (next + 1)
    | some r =>
      let s := { s with pwr := { s.pwr with lastPart := next, lastReason := r } }
      (s.attempt target begun pair 2 next r).exitFrom (next - 1)
  | _ => s

/-- Actuators that wait for the spindle are loaded once it is AT_SPEED and a head with a weight is selected (R226, R238). -/
def State.loadDue (s : State) : State :=
  if s.spn.state ≠ .atSpeed ∨ s.pwr.umbra then s
  else
    let s := { s with pwr := { s.pwr with toLoad := s.pwr.toLoad.filter fun a => (s.act a).state == ActState.unloaded || (s.act a).state == ActState.retract } }
    let ready := s.pwr.toLoad.filter fun a => (s.act a).state == ActState.unloaded && s.hasWeight a
    let s := { s with pwr := { s.pwr with toLoad := s.pwr.toLoad.filter fun a => !ready.contains a } }
    ready.foldl (fun s a => s.load a) s

/-- A participant's restart begins (R519). -/
def State.restartPart (s : State) (k : Nat) : State :=
  match k with
  | 5 =>
    if s.rv .spnCtl = s.pwr.savedSpn then s
    else
      let braking := s.spn.state == .brake
      let s := s.spnCtlWrite s.pwr.savedSpn
      if braking && bit s.pwr.savedSpn 31 then s.modSpn fun x => { x with thenSense := true, enabledAt := s.now + 1, target := s.targetRpm }
      else s
  | 4 =>
    let l := s.pwr.parked
    let s := { s with pwr := { s.pwr with toLoad := l, parked := [] } }
    let s := (s.pwr.savedHeads.filter fun e => l.contains (actOf e.1) && (s.stream e.1).readers == 0).foldl
      (fun s e => s.headSwitch e.1 e.2) s
    s.loadDue
  | 3 => s.stopEnd false
  | 2 => { s with plc := { s.plc with ckptLast := s.now } }
  | _ => s

/-- Whether a participant has restarted. -/
def State.restarted (s : State) (k : Nat) : Bool :=
  match k with
  | 5 => s.spn.state == .atSpeed || s.spn.state == .fault || !bit (s.rv .spnCtl) 31
  | 4 => (s.spn.state != .atSpeed || s.pwr.toLoad.all fun a => !s.hasWeight a) &&
      (List.range 4).all fun a => (s.act a).state != .loading && (s.act a).state != .settling && (s.act a).state != .seeking &&
        (s.act a).state != .unloading
  | _ => true

/-- The exit ends: participant 1 resumes fetching and the point is Run (R519). (DEDUCED, unsafe: log entry 47.) -/
def State.exitDone (s : State) : State :=
  let was := s.pwr.point
  let s := { s with pwr := { s.pwr with change := none, point := 0, wake := 0 } }
  let s := if was = 0 then s else s.evcEdge 16 0
  s.recomputeDmax

/-- Restarts participants in turn until one has to wait. -/
def State.exitSteps (s : State) : Nat → State
  | 0 => s
  | f + 1 =>
    match s.pwr.change with
    | some (.exiting n begun) =>
      let s := if begun then s.loadDue else s.restartPart n
      if !s.restarted n then { s with pwr := { s.pwr with change := some (.exiting n true) } }
      else if n ≤ 1 then s.exitDone
      else ({ s with pwr := { s.pwr with change := some (.exiting (n - 1) false) } }).exitSteps f
    | _ => s

/-- WAKE_EXIT: the participants restart, 8 to 1 (R519). -/
def State.wakeExit (s : State) : State := s.exitSteps 9

/-! ## Supply sensing and stages (R525-R530) -/

/-- Threshold k of PWR_SAG_CFG in mV. -/
def State.sagMv (s : State) (k : Nat) : Nat := 50 * fld (s.rv .pwrSagCfg) (39 - 8 * k) (32 - 8 * k)

/-- HYST in mV. -/
def State.hystMv (s : State) : Nat := 50 * fld (s.rv .pwrSagTim) 31 24

/-- Keeps the moment since which a condition has held, for key k. -/
def heldSince (m : Assoc Nat) (k now : Nat) (holds : Bool) : Assoc Nat :=
  if holds then (if (aget m k).isSome then m else aput m k now) else adel m k

/-- SUPPLY_SAMPLE (R525): the level is the mean of the last four samples. -/
def State.supplySample (s : State) (mv : Nat) : State :=
  let s := s.advanceTo s.pwr.sampleDue
  let l := (min mv 15000 / 5 * 5 :: s.pwr.samples).take 4
  let level := l.sum / l.length
  { s with pwr := { s.pwr with
      samples := l, level := level, minMv := min s.pwr.minMv level, sampleDue := s.now + 1000,
      belowAt := [1, 2, 3, 4].foldl (fun m k => heldSince m k s.now (decide (level < s.sagMv k))) s.pwr.belowAt,
      aboveAt := [1, 2, 3, 4].foldl (fun m k => heldSince m k s.now (decide (s.sagMv k + s.hystMv ≤ level))) s.pwr.aboveAt } }

/-- The shedding of a stage (Table 15.6); in points other than Run and 0x10 nothing is shed (R530). -/
def State.shed (s : State) (k : Nat) : State :=
  if s.pwr.point ≠ 0 ∧ s.pwr.point ≠ 0x10 then s
  else match k with
    | 1 => s.sweepAbort s.wrp.sweep.head
    | 3 =>
      let s := s.supplyStop true
      ((List.range 4).filter fun a => !(s.turn a).busy).foldl (fun s a => s.ringSeek a) s
    | _ => s

/-- The newest effects that are not placed: what a save fixes at step 1 (R534). -/
def State.unplaced (s : State) : List LandBlock :=
  s.plc.landing.filter fun b => match aget s.plc.blocks b.key with
    | some r => decide (r.pair = b.pair) && r.place == .landing
    | none => false

/-- The ports lose their links at umbra (Table 15.8 step 4): every session is lost. -/
def State.portsOff (s : State) : State :=
  let s := [0, 1].foldl (fun (s : State) p => s.modPort p fun x => if x.link then
    { x with link := false, speed := 0, fec := false, linkDowns := satInc x.linkDowns 255, paused := false, pausedByPeer := false }
    else x) s
  let s := (s.dropHeld 0).dropHeld 1
  let s := (s.sessIds.filter fun i => (s.sess i).state != .free).foldl (fun s i => s.pathLost i) s
  s.evcLevel 5

/-- Rows whose members are not all on media are given up: their blocks go back to the placement front (R437, R59). -/
def State.dropRows (s : State) : State :=
  let gone := (s.plc.rows.filter fun e => e.2.jrn.isNone).map Prod.fst
  let again := s.plc.rows.flatMap fun e => if e.2.jrn.isNone && e.2.copies then e.2.vals.map (·.2) else []
  let s := again.foldl (fun s b => match aget s.plc.blocks b.key with
    | some x => if x.pair = b.pair then s.placeCopy b.key none else s
    | none => s) s
  { s with
    plc := { s.plc with
      rows := afilter s.plc.rows fun _ r => r.jrn.isSome,
      landing := s.plc.landing.map fun b => match b.row with
        | some r => if gone.contains r then { b with row := none } else b
        | none => b } }

/-- Umbra begins (Table 15.8 steps 1 to 5); in points other than Run and 0x10 there is no save (R530). -/
def State.umbraBegin (s : State) : State :=
  let saves := s.pwr.point == 0 || s.pwr.point == 0x10
  let p := s.pair
  let s := (s.stamped).activationCut
  let s := { s with pwr := { s.pwr with
    umbra := true, stageChanged := s.now,
    save := some { pair := p, gen := s.plc.genNo + 1, blocks := if saves then s.unplaced else [],
                   deltas := if saves then avals (afilter s.plc.journal fun _ r => !r.onMedia) else [],
                   area := s.saveArea, streams := [], rings := [], steps := [], shares := [], posted := [], spots := [],
                   ended := !saves, outcome := 0 } } }
  let cmds := amapv s.eqt.cmds fun _ c => { c with resv := none }
  let s := { s with eqt := { s.eqt with cmds := cmds }, plc := { s.plc with resvQueue := [] } }
  let orb := { s.orb with pieces := [], turns := amapv s.orb.turns fun _ t => { t with busy := false, served := [] } }
  let s := { s with orb := orb, chn := { s.chn with ladders := [], deepQueue := [], deepBusy := [] } }
  let s := s.dropRows
  let s := if saves then s.portsOff else s
  let s := s.spnCoast
  let s := { s with wrp := { s.wrp with verifies := [] } }
  let s := if saves then (s.supplyStop true).saveBegin else s
  s.recomputeDmax

/-- A stage is entered (R526, R528, R529): k 1 to 3 a penumbra stage, 4 umbra. -/
def State.enterStage (s : State) (k : Nat) : State :=
  let s := (s.report 296 k 0 0).wakeEvent 4
  let s := if k = 4 then s.umbraBegin
    else ({ s with pwr := { s.pwr with stage := k, stageChanged := s.now } }).shed k
  (((s.cause 16 12).cause 17 12).recomputeDmax).evcLevel 1

/-- STAGE_ENTER: the level has stayed below the threshold of the next stage for DEB_US (R526). -/
def State.stageEnter (s : State) : State :=
  let k := s.stageCode + 1
  if 4 < k then s
  else match aget s.pwr.belowAt k with
    | none => s
    | some t => (s.advanceTo (t + 1000 * fld (s.rv .pwrSagTim) 23 16)).enterStage k

/-- Umbra is declared from whatever stage is in force: each stage not yet in force is entered in turn (R528). -/
def State.declareUmbra (s : State) : State :=
  if s.pwr.umbra then s
  else ([1, 2, 3, 4].filter fun k => decide (s.pwr.stage < k)).foldl (fun s k => s.enterStage k) s

/-! ## The eclipse save (R534-R540) -/

/-- The level has stood at or above UMB_V plus HYST for REC_MS (R539). -/
def State.umbraDwell (s : State) : Bool :=
  match aget s.pwr.aboveAt 4 with
  | some t => decide (max t s.pwr.stageChanged + 1000000 * fld (s.rv .pwrSagTim) 15 0 ≤ s.now)
  | none => false

/-- The save has ended. (DESIGN CHOICE, unsafe: log entry 49.) -/
def State.saveEnded (s : State) : Bool := match s.pwr.save with | some v => v.ended | none => true

/-- The warm chip reset (Table 13.4, R470, R198, R506). -/
def State.warmBody (s : State) : State :=
  let s := (s.activationCut).cacheFlush
  let s := (s.dmaReset)
  let s := { s with latches := [], srm := { s.srm with
    mem := [], profiles := s.sec.pers.profiles, wprofiles := s.sec.pers.wprofiles, poisoned := [], correctable := [], diag := [] } }
  let s := (List.range 16).foldl (fun (s : State) st => (s.closeGates st true true).modStream st fun x =>
    { x with decoding := [], sync := .none, resync := .none, sectorDone := false, cur := none, inSector := false,
             inFragment := false, failedSectors := [], sinceGood := [] }) s
  let s := { s with seq := { s.seq with words := s.sec.pers.words, bad := [], stopReq := false, done := [] }, chn := { s.chn with slots := [], slotData := [] } }
  let s := (List.range 18).foldl (fun (s : State) q => if (s.seqr q).state = .failed then s else
    let v := s.entryVector q
    s.modSeq q fun x => { idleSeq q with state := .running, pc := v, stream := x.stream, restarts := x.restarts }) s
  let orb := { s.orb with
    pieces := (afilter s.orb.pieces fun _ p => p.kind != .host && p.kind != .ladder),
    turns := amapv s.orb.turns fun _ t => { t with busy := false, served := [] } }
  let s := { s with orb := orb, chn := { s.chn with ladders := [], deepQueue := [], deepBusy := [] } }
  let s := s.dropRows
  let s := s.eqt.cmds.foldl (fun (s : State) e =>
    if e.2.phase = .accepted ∨ e.2.copyStarted then
      match e.2.accept with
      | some p => s.queueReads e.1 (s.sess e.2.sess).qos p e.2.bound
      | none => s.queueReads e.1 (s.sess e.2.sess).qos e.2.fetch e.2.bound
    else s) s
  let s := s.sessIds.foldl (fun (s : State) i => match (s.sess i).reqs with
    | [] => s
    | r :: _ => s.resendFrom i r.psn) s
  let s := { s with flt := { s.flt with lastWarm := some s.now } }
  match s.pwr.change with
  | some (.entering target pair begun next _) => (s.attempt target begun pair 1 0 7).exitFrom next
  | some (.exiting _ _) => s
  | none => if s.pwr.point = 0 then s else s.exitFrom 8

/-- WARM_RESET: the reset takes effect, or during umbra is deferred until umbra ends (R540). -/
def State.warmReset (s : State) : State :=
  if s.pwr.umbra then { s with pwr := { s.pwr with warmPending := true } } else s.warmBody

/-- Umbra ends (R539): the device enters PN3, the spindle proceeds under R278, actuators are to be loaded, and a reset that was
deferred takes effect. -/
def State.umbraEnd (s : State) : State :=
  let s := { s with pwr := { s.pwr with umbra := false, stage := 3, stageChanged := s.now, save := none } }
  let down := below 4 fun a => (s.act a).state == .unloaded || (s.act a).state == .retract
  let s := { s with pwr := { s.pwr with toLoad := down } }
  let s := ((s.spnResume).recomputeDmax).evcLevel 1
  if s.pwr.warmPending then ({ s with pwr := { s.pwr with warmPending := false } }).warmBody else s

/-- Umbra ends where R539 allows it now. -/
def State.umbraCheck (s : State) : State :=
  if s.pwr.umbra && s.saveEnded && s.pwr.pwrgood && s.umbraDwell && !s.pwr.resetPending then s.umbraEnd else s

/-- The manifest sectors of a save (Table 15.9). -/
def isManifest : EclSector → Bool
  | .manifest _ => true
  | .block _ => false
  | .delta _ => false

/-- The ECLIPSE sectors of a save. -/
def isEclBlock : EclSector → Bool
  | .manifest _ => false
  | .block _ => true
  | .delta _ => false

/-- The DELTA sectors of a save. -/
def isDelta : EclSector → Bool
  | .manifest _ => false
  | .block _ => false
  | .delta _ => true

/-- Sectors of a save on media of one TYPE. -/
def spotCount (v : Save) (f : EclSector → Bool) : Nat := (v.spots.filter fun e => f e.what).length

/-- ECLIPSE_SAVE_END: every sector is written and verified as R73 allows, or the speed has fallen to s_min (R538): SQP0 stops writing, and umbra
ends or the actuators retract (R539). A generation that holds something keeps its area until it is released (R72, R74). -/
def State.eclipseSaveEnd (s : State) : State :=
  match s.pwr.save with
  | none => s
  | some v =>
    let whole := s.saveWhole v
    let slow := ((s.spn.speed : Rat) / 16 ≤ sMin s.sec.pers)
    if v.ended ∨ (!whole ∧ !decide slow) then s
    else
      let outcome := if whole then 1 else 2
      let s := v.streams.foldl (fun s st => match s.seqOf st with
        | some q => s.force q (s.vector 0)
        | none => s) s
      let s := { s with wrp := { s.wrp with verifies := afilter s.wrp.verifies fun _ e => e.ecl.isEmpty } }
      let s := { s with pwr := { s.pwr with
        save := some { v with ended := true, outcome := outcome, shares := [], posted := [] },
        lastSave := { gen := v.gen, pair := v.pair, manifest := spotCount v isManifest, eclipse := spotCount v isEclBlock,
                      delta := spotCount v isDelta, outcome := outcome } } }
      let g : Generation := { pair := v.pair, gen := v.gen, blocks := v.blocks, deltas := v.deltas, spots := v.spots }
      let s := if v.blocks = [] ∧ v.deltas = [] then s
        else { s with plc := { s.plc with generations := aput s.plc.generations v.area g, genNo := v.gen } }
      let s := s.umbraCheck
      if s.pwr.umbra then s.retractAll else s

/-- STAGE_LEAVE: the level has stood at or above the threshold plus HYST for REC_MS (R527, R539). -/
def State.stageLeave (s : State) : State :=
  if s.stageCode = 0 then s
  else match aget s.pwr.aboveAt s.stageCode with
    | none => s
    | some t =>
      if s.pwr.umbra && !(s.saveEnded && s.pwr.pwrgood && !s.pwr.resetPending) then s
      else
        let s := s.advanceTo (max t s.pwr.stageChanged + 1000000 * fld (s.rv .pwrSagTim) 15 0)
        if s.pwr.umbra then s.umbraEnd
        else
          let k := s.pwr.stage
          let s := { s with pwr := { s.pwr with stage := k - 1, stageChanged := s.now } }
          let s := if k = 3 then s.supplyStop false else s
          ((s.recomputeDmax).evcLevel 1).takeTarget

/-! ## Pins of the WAKE domain (R634, R637, R539) -/

/-- Whether the device runs: a boot has ended, in RECOVERY or not, and it is not in Off. -/
def State.running (s : State) : Bool := s.sec.booted || s.sec.recovery

/-- PWRGOOD falls: umbra, without debounce, in every point except Off (R528). -/
def State.pwrgoodFall (s : State) : State :=
  let s := { s with pwr := { s.pwr with pwrgood := false } }
  if s.running ∧ s.pwr.point ≠ 0x45 then s.declareUmbra else s

/-- PWRGOOD rises: the straps are sampled (R642); `railsLost` says that the device's rails left tolerance meanwhile, so that this
power-up is cold (R539). -/
def State.pwrgoodRise (s : State) (straps : Nat) (railsLost : Bool) : State :=
  let s := { s with pwr := { s.pwr with pwrgood := true }, pin := { s.pin with straps := straps % 4 } }
  if railsLost then { s with sec := { s.sec with booted := false, recovery := false } } else s.umbraCheck

/-- RESET_N stays low for 1 µs (R637). -/
def State.resetFall (s : State) : State :=
  let s := s.advance 1000
  let s := { s with pwr := { s.pwr with resetN := false } }
  if s.running ∧ s.pwr.point ≠ 0x45 ∧ s.pwr.pwrgood then
    ({ s with pwr := { s.pwr with resetPending := true } }).declareUmbra
  else s

/-- WAKE is asserted: RAIL_EN rises in Off, and elsewhere the device wakes (R514, R634). -/
def State.wakeAssert (s : State) : State :=
  if s.pwr.point = 0x45 then { s with pwr := { s.pwr with railEn := true } } else s.wakeEvent 3

/-- VDD_AON first comes within tolerance (R634). -/
def State.powerUp (s : State) : State :=
  if s.pwr.point = 0x45 then s else { s with pwr := { s.pwr with railEn := true } }

/-! ## Thermal limit and control cores -/

/-- DIE_TEMPERATURE_CHANGE (R644): TEMP_C is 0 below 0 °C. -/
def State.dieTemperature (s : State) (t : Int) : State :=
  let c := min 255 t.toNat
  let warn := fld (s.rv .pinThermCfg) 15 8
  let hot := if warn < c then true else if c + 5 ≤ warn then false else s.pin.thermHot
  ({ s with pin := { s.pin with tempC := c, maxC := max s.pin.maxC c, thermHot := hot } }).evcLevel 12

/-- CORE_LOCKSTEP_FAIL: a control core is out of use and its duties move (R28, Table 17.3). -/
def State.coreLockstep (s : State) (c : Nat) : State :=
  if 8 ≤ c ∨ s.pin.coresOut.testBit c then s
  else ((({ s with pin := { s.pin with coresOut := s.pin.coresOut + 2 ^ c } }).report (304 + c) 1 0 2)).wakeEvent 7

end Sys2Proof.Machine
end

