-- ==== Sys2Proof/Machine/FaultRows.lean ====
section
/-! DEFINITION. The fault collector's rows (chapter 17): a report's arrival with its reactions, the writing of a record, the
recovery of a source; and the Tail recorder's triggers and ring. -/

namespace Sys2Proof.Machine

/-! ## The Tail ring (R586, R588, R592) -/

/-- REARM, or a write that changes SIZE_MIB or WRAP: the ring is empty and FULL is cleared (R592). -/
def State.tailRearm (s : State) : State :=
  { s with tal := { s.tal with ring := [], oldest := s.tal.next, nextSlot := 0, full := false } }

/-- A write to TAL_CTL (Table 17.15). -/
def State.talCtl (s : State) (v : Word) : State :=
  let s := if bit v 30 then s.tailRearm else s
  if bit v 31 then s.tailPlain 3 (fld v 29 28) else s

/-- A write to TAL_CFG (R586, R592): the period is counted from a write that sets PER_EN. (DEDUCED, unsafe: log entry 36.) -/
def State.talCfg (s : State) (v : Word) : State :=
  let old := s.rv .talCfg
  let s := s.setRv .talCfg v
  let s := if bit old 30 != bit v 30 || fld old 9 0 != fld v 9 0 then s.tailRearm else s
  { s with tal := { s.tal with periodDue := if bit v 28 then some (s.now + 1000000 * fld v 23 10) else none } }

/-- A write to TAL_LIST_l_i adds 1 to the GEN of its list (R590). -/
def State.talList (s : State) (l i : Nat) (v : Word) : State :=
  let s := s.setRv (.talList l i) v
  let g := fld s.tal.gens (8 * l + 7) (8 * l)
  let gens := s.tal.gens - BitVec.ofNat 32 (g * 2 ^ (8 * l)) + BitVec.ofNat 32 ((g + 1) % 256 * 2 ^ (8 * l))
  { s with tal := { s.tal with gens := gens } }

/-- TAIL_PERIOD: the end of a period while PER_EN = 1 (R586). -/
def State.tailPeriod (s : State) : State :=
  match s.tal.periodDue with
  | none => s
  | some t =>
    let s := s.advanceTo t
    let s := s.tailPlain 4 (fld (s.rv .talCfg) 25 24)
    { s with tal := { s.tal with periodDue := some (t + 1000000 * fld (s.rv .talCfg) 23 10) } }

/-! ## Reports (R568-R574) -/

/-- The block reset of a source's unit (Table 17.3). -/
def State.blockReset (s : State) (n : Nat) : State :=
  if within n 72 75 then s.linkBlockReset (n - 72)
  else if within n 256 287 then s.dmaChReset (n - 256)
  else if within n 288 289 then s.retrain (n - 288)
  else if n = 320 then s.tailRearm
  else s

/-- A report can be one of Table 17.1 and Table 17.3. -/
def reportOk (r : Report) : Bool :=
  faultListed r.source && within r.kind 1 63 && decide (r.addr < 2 ^ 40) && decide (r.severity < 4)

/-- A report is taken with its reactions (R571, R572, Table 17.4): NMI names the record number the report takes, BLOCK_RST resets its
unit, WARM_RST the chip; a reaction that needs a core or a reset is a wake event (R514).
(DEDUCED, unsafe: log entry 34; DESIGN CHOICE, unsafe: log entry 35.) -/
def State.takeReport (s : State) (r : Report) : State :=
  let (s, r, d) := s.faultArrive r
  let s := if d.nmi then s.emit (.nmi (s.flt.next + BitVec.ofNat 32 (s.flt.buffer.length - 1))) else s
  let s := if d.nmi || d.blockRst || d.warmRst then s.wakeEvent 5 else s
  let s := if d.blockRst then s.blockReset r.source else s
  if d.warmRst then s.warmReset else s

/-- FAULT_REPORT: the report given arrives, or the first of those the blocks have made. -/
def State.faultReport (s : State) (r : Option Report) : State :=
  match r with
  | some r => if reportOk r then s.takeReport r else s
  | none => match s.flt.inbox with
    | [] => s
    | e :: rest => ({ s with flt := { s.flt with inbox := rest } }).takeReport e.2

/-- FAULT_RECORD_WRITE: the next buffered report is written while HBM is available (R576, R583, R584). -/
def State.faultRecordWrite (s : State) : State :=
  if s.hbmUp then ((s.recordOne).evcLevel 0).evcLevel 6 else s

/-- The record numbers that FLT_RD marks read change (R575). -/
def State.fltRdWrite (s : State) (v : BitVec 32) : State := s.moveRead v

/-! ## Recovery (R581) -/

/-- Whether the held condition of a source holds now, where Table 17.3 gives it one. -/
def State.heldCondition (s : State) (n : Nat) : Option Bool :=
  let act (a : Nat) : Bool := (s.act a).state == .retract || (s.act a).reloadDue == some 0
  if within n 32 35 then some (act (n - 32))
  else if within n 36 51 then some (act ((n - 36) / 4))
  else if within n 52 55 then some false
  else if n = 64 then some (s.spn.state == .fault)
  else if within n 72 75 then some (!(s.link (n - 72)).up)
  else if within n 224 227 then some (s.hbm.failed != 0 && !s.hbm.redundant)
  else if n = 230 then some s.cch.draining
  else if within n 288 289 then some (bit (s.rv (.ethCfg (n - 288))) 31 && !(s.port (n - 288)).link)
  else if n = 296 then some (s.stageCode != 0)
  else if within n 304 311 then some false
  else none

/-- The source leaves FAULTED: a RECOVERY record is written and event source 9 raised. (DEDUCED, unsafe: log entry 32.) -/
def State.recover (s : State) (n : Nat) : State :=
  let s := s.modFsrc n fun f => { f with faulted := false, recoveries := satInc f.recoveries 0xFFFF }
  let r : Report := { source := n, kind := 0, addr := 0, severity := 0 }
  let p := s.pair
  let s := s.stamped
  let s := if s.flt.buffer.length < 64 then
      { s with flt := { s.flt with buffer := s.flt.buffer ++ [{ rep := r, pair := p, react := noReactions }] } }
    else s.faultLost r noReactions
  let s := { s with flt := { s.flt with bufMax := max s.flt.bufMax s.flt.buffer.length } }
  s.evcEdge 9 (BitVec.ofNat 32 n)

/-- FAULT_RECOVERY. -/
def State.faultRecovery (s : State) (n : Nat) : State :=
  if !(s.fsrc n).faulted then s
  else match s.heldCondition n with
    | some true => s
    | some false => s.recover n
    | none => (s.advanceTo ((s.fsrc n).lastReport + 1000000 * fld (s.rv .fltCfg) 31 16)).recover n

end Sys2Proof.Machine
end

