-- ==== Sys2Proof/Machine/Registers.lean ====
section
/-! DEFINITION. The set-up arbiter (chapter 20): what a register reads, when a write is refused, what an accepted write does, the
latches of 64-bit pairs, blocks in RETENTION or OFF, the management port and REG_ACCESS. -/

namespace Sys2Proof.Machine

/-! ## What a register reads (Table 20.5) -/

/-- Code of an actuator state (Table 6.8). -/
def actCode : ActState → Nat
  | .unloaded => 0 | .loading => 1 | .seeking => 2 | .settling => 3 | .following => 4 | .unloading => 5 | .retract => 6
  | .outOfUse => 7

/-- Code of a spindle state (Table 7.2). -/
def spnCode : SpnState → Nat
  | .stopped => 0 | .listen => 1 | .sense => 2 | .align => 3 | .openLoop => 4 | .ramp => 5 | .atSpeed => 6 | .coast => 7
  | .brake => 8 | .fault => 9

/-- Code of a sequencer's state (Table 5.13). -/
def seqCode (x : Seq) : Nat :=
  if x.trap.isSome && x.state != .failed then 3
  else match x.state with
    | .idle => 0 | .running => 1 | .waiting => 2 | .failed => 4 | .stopped => 5

/-- Code of an event source's state (Table 11.10). -/
def evCode : EvState → Nat
  | .idle => 0 | .pending => 1 | .claimed => 2

/-- SEQ_VEC_n (Table 5.10). -/
def State.seqVec (s : State) (n : Nat) : Word :=
  word [(s.vector n, 0), (if n = 1 then s.vector 4 else if n = 2 then s.vector 5 else 0, 16)]

/-- The lower and upper half of a 64-bit value. -/
def half64 (v : Nat) (hi : Bool) : Word := BitVec.ofNat 32 (if hi then v / 2 ^ 32 else v)

/-- The value held for an address register until ETH_IP_CTL_p is written, or else the one in force (R655). -/
def heldOr (v : Option Word) (w : Word) : Word := v.getD w

/-- The share of the scrub lap done, in per cent (Table 13.9). -/
def State.scrubShare (s : State) : Nat := 100 * s.hbm.scrubPos / granules

/-- Word k of the flash window. -/
def State.windowWord (s : State) (k : Nat) : Word := BitVec.ofNat 32 (leAt s.sec.window (4 * k) 4)

/-- What a register of an accessible block reads, without any side effect (R589).
(DESIGN CHOICE, unsafe: log entry 17; DEDUCED, unsafe: log entry 53.) -/
def State.regPeek (s : State) (r : Reg) : Word :=
  match r with
  | .eqtXferErr => word [(s.eqt.dbBad, 24), (s.eqt.sglBad, 16), (s.eqt.pushBad, 8)]
  | .ethStat p =>
    let x := s.port p
    let n := ((s.sessIds.filter fun i => (s.sess i).state != .free && (s.sess i).path.port == p)).length
    word [(b2n x.link, 31), (x.speed, 29), (b2n x.fec, 28), (x.linkDowns, 16), (n, 0)]
  | .ethDrop p => word [((s.port p).dropIcrc, 16), ((s.port p).dropOther, 0)]
  | .ethIpv4 p => heldOr (s.port p).heldV4 (s.rv r)
  | .ethIpv4Gw p => heldOr (s.port p).heldGw (s.rv r)
  | .ethIpv6 p k => heldOr (aget (s.port p).heldV6 k) (s.rv r)
  | .evcStat n =>
    let e := s.src n
    word [(evCode e.state, 30), (b2n (evcIsLevel n), 29), (if e.state = .claimed then e.holder else 0, 16), (e.count, 0)]
  | .chnStatData k => s.chn.statData.getD k 0
  | .chnAfSel n => s.rv r + word [(b2n (s.chn.afFailed.contains n), 30)]
  | .chnStHead st => word [((s.stream st).readers, 8), ((s.stream st).head, 0)]
  | .chnStLast st => (s.stream st).last
  | .wrpInh st => word [(b2n (s.inhibits st != 0), 7), ((s.stream st).sticky, 0)]
  | .plkCtl n => s.rv r + word [(b2n (s.link n).up, 31), ((s.link n).resends, 16), ((s.link n).upCrc, 8)]
  | .plkTdCtl => s.rv r + word [(b2n s.wrp.sweep.busy, 30), (s.wrp.sweep.result, 28), (s.wrp.sweep.tdCode, 20)]
  | .seqVec n => s.seqVec n
  | .seqMchk => word [(b2n s.seq.mchkValid, 31), (s.seq.spares.length, 24), (s.seq.mchkSeq, 16), (s.seq.mchkAddr, 0)]
  | .seqCsData k => s.seq.csData.getD k 0
  | .seqStat q =>
    let x := s.seqr q
    word [(seqCode x, 29), (x.restarts, 20), (if q < 16 then x.stream else 0, 16), (x.pc, 0)]
  | .sceSlot n =>
    let x := s.slot n
    s.rv r + word [(b2n x.swap, 31), (b2n x.bank, 29), (b2n x.run, 28), (b2n x.outSat, 25), (b2n x.stateSat, 24), (x.phys, 16)]
  | .sceActStat a => word [(actCode (s.act a).state, 28), ((s.act a).lastFault, 24), (wrapBits 24 ((s.act a).xRef / 2 ^ 42), 0)]
  | .sceActPlan a => word [((s.act a).tPlan, 16), ((s.act a).aPeak, 0)]
  | .spnStat => word [(spnCode s.spn.state, 28), (s.spn.lastFault, 24), (b2n s.spn.anchored, 23), (s.spn.attempts, 21), (s.spn.speed, 0)]
  | .spnTlStat => s.tlStat
  | .plcLandingStatus => s.landingStatus
  | .orbStat a =>
    let t := s.turn a
    word [(t.overaged, 16), (t.quiet, 8), (min 255 (s.orb.pieces.filter fun e => e.2.act == a).length, 0)]
  | .hbmStat => word [(s.hbm.failed, 28), (s.hbm.inUse, 24), (b2n s.hbm.redundant, 16), (s.hbm.softPpr, 8), (s.hbm.retired, 0)]
  | .hbmErr k => word [(agetD s.hbm.corr k 0, 16), (agetD s.hbm.uncorr k 0, 8), (agetD s.hbm.ondie k 0, 0)]
  | .hbmScrubStat => word [(s.hbm.lapS, 12), (s.scrubShare, 0)]
  | .hbmDiag => s.rv r + word [(s.hbm.diagResult, 26)]
  | .srmStat => word [(s.srm.corr, 16), (s.srm.uncorr, 8), (s.srm.repairs, 0)]
  | .srmDiag => s.rv r + word [(s.srm.diagResult, 26)]
  | .srmFabStat => word [(s.srm.fabResends, 16), (s.srm.fabFails, 0)]
  | .cchCtl => s.rv r + word [(b2n s.cch.draining, 30)]
  | .cchStat => word [(s.cch.waysOff, 16), (s.waysOn, 0)]
  | .dmaChStat c => word [(dmaCode (s.ch c).state, 28), ((s.ch c).cause, 24), (b2n (s.ch c).overrun, 23), ((s.ch c).pc, 10)]
  | .dmaChErr c => word [((s.ch c).badCnt, 16), ((s.ch c).lastKind, 4)]
  | .dmaChEaddrLo c => half64 (s.ch c).eaddr false
  | .dmaChEaddrHi c => half64 (s.ch c).eaddr true
  | .pwrStat =>
    word [(s.pwr.point, 24), (s.pwr.target, 16), (s.stageCode, 13), (b2n s.pwr.change.isSome, 12), (s.pwr.lastPart, 8), (s.pwr.lastReason, 0)]
  | .pwrSense => word [(s.pwr.minMv, 16), (s.pwr.level, 0)]
  | .pwrAccessOff => word [(b2n s.pwr.offValid, 31), (s.pwr.offBlock, 16), (s.pwr.offCount, 0)]
  | .timStat => word [(timeCode s.tim.state, 29), (s.tim.slavePort, 28), (s.errNs, 0)]
  | .timNowLo => half64 (timCount s.tim) false
  | .timNowHi => half64 (timCount s.tim) true
  | .timConjTagLo => half64 s.conjTag.toNat false
  | .timConjTagHi => half64 s.conjTag.toNat true
  | .timConjStat => word [(b2n s.tim.busy, 31), (s.tim.gen, 0)]
  | .fltStat => word [(s.unread, 16), (s.flt.overwritten, 0)]
  | .fltNext => s.flt.next
  | .fltRd => s.flt.rd
  | .fltLost => word [(s.flt.bufMax, 24), (s.flt.lostTotal, 0)]
  | .fltSrc n => if faultListed n then s.rv r + word [(b2n (s.fsrc n).faulted, 28)] else 0
  | .fltCnt n => if faultListed n then word [((s.fsrc n).lost, 16), ((s.fsrc n).recoveries, 0)] else 0
  | .talStat => word [(b2n s.tal.full, 31), (b2n s.tal.capturing.isSome, 30), (s.tal.lostRecs, 16), (s.tal.missed, 0)]
  | .talNext => s.tal.next
  | .talOldest => s.tal.oldest
  | .talGen => s.tal.gens
  | .talNextSlot => BitVec.ofNat 32 s.tal.nextSlot
  | .secVerifyStat =>
    let c := s.sec
    word [(c.bank, 31), (b2n c.fallback, 30), (b2n c.recovery, 29), (c.failKind, 26), (c.context, 24), (c.reason, 20), (c.section_, 12)]
  | .secVerifyOfs => BitVec.ofNat 32 s.sec.ofs
  | .secFuse0 =>
    let f := s.sec.fuses
    word [(b2n f.debugClosed, 31), (f.boot % 64, 24), (f.firmware % 64, 18), (f.personality % 64, 12), (f.imageKey % 64, 6), (f.makerKey % 64, 0)]
  | .secFuse1 => word [(s.sec.fuses.makerId % 2 ^ 16, 16), (s.sec.fuses.revoked % 16, 0)]
  | .secFlashCtl => s.rv r + word [(b2n s.sec.flashBusy.isSome, 30), (b2n s.sec.flashError, 29)]
  | .secFlashWindow k => s.windowWord k
  | .pinThermStat => word [(s.pin.tempC, 24), (s.pin.maxC, 16)]
  | .pinStat => word [(s.syncFn, 29), (b2n s.syncLevel, 28), (0x58 + s.pin.straps, 0)]
  | .pinSetupErr =>
    let e := s.setupErr
    word [(b2n e.valid, 31), (e.path, 29), (e.cause, 26), (e.session, 16), (e.count, 0)]
  | .pinSetupAddr => BitVec.ofNat 32 s.setupErr.addr
  | _ => s.rv r

/-! ## Domains (R522, R523) -/

/-- The domain of a block id (Table 15.3, Table 15.5). -/
def blockDom (b : Nat) : Dom :=
  if b = 5 ∨ b = 7 ∨ b = 8 then .motor
  else if b = 3 ∨ b = 4 ∨ b = 6 ∨ b = 9 ∨ b = 10 ∨ b = 14 then .media
  else if b = 13 ∨ b = 19 then .core
  else if b = 11 ∨ b = 12 then .mem
  else .sys

/-- A block is in RETENTION or OFF. -/
def State.blockOff (s : State) (r : Reg) : Bool :=
  match s.domState (blockDom (regSpot r).1) with
  | .retention => true
  | .off => true
  | _ => false

/-- An access reached a block in RETENTION or OFF (R523). -/
def State.accessOff (s : State) (r : Reg) : State :=
  { s with pwr := { s.pwr with offValid := true, offBlock := (regSpot r).1, offCount := satInc s.pwr.offCount 0xFFFF } }

/-! ## Latches (R4, R648) -/

/-- An agent's latch of a 64-bit pair. -/
def State.latch (s : State) (ag : Agent) (pair : Nat) : Latch :=
  (s.latches.find? fun l => l.agent == ag && l.pair == pair).getD { agent := ag, pair := pair, lower := none, upper := none }

/-- Replaces an agent's latch of a pair; one that holds nothing is not listed. -/
def State.setLatch (s : State) (l : Latch) : State :=
  let rest := s.latches.filter fun m => !(m.agent == l.agent && m.pair == l.pair)
  { s with latches := if l.lower.isNone && l.upper.isNone then rest else l :: rest }

/-! ## Reads -/

/-- A read of a register with its side effects (R4, Tables 15.16 and 19.8). (DEDUCED, unsafe: log entry 54.) -/
def State.regReadIn (s : State) (ag : Agent) (r : Reg) : State × Word :=
  let v := s.regPeek r
  match regUpper r with
  | some u =>
    let l := s.latch ag (regAddr r)
    (s.setLatch { l with upper := some (s.regPeek u) }, v)
  | none =>
    match regLower r with
    | some lo =>
      let l := s.latch ag (regAddr lo)
      (s.setLatch { l with upper := none }, l.upper.getD v)
    | none => match r with
      | .pwrSense => ({ s with pwr := { s.pwr with minMv := 0xFFFF } }, v)
      | .pinThermStat => ({ s with pin := { s.pin with maxC := s.pin.tempC } }, v)
      | _ => (s, v)

/-- A read of a set-up address by an agent: the state, the value and the status of Table 20.3. -/
def State.regRead (s : State) (ag : Agent) (addr : Nat) : State × Word × Nat :=
  match regAt addr with
  | none => (s, 0, 3)
  | some r =>
    if s.blockOff r then
      let s := s.accessOff r
      match regUpper r with
      | some _ => (s.setLatch { s.latch ag (regAddr r) with upper := some 0xFFFFFFFF }, 0xFFFFFFFF, 4)
      | none => (s, 0xFFFFFFFF, 4)
    else
      let (s, v) := s.regReadIn ag r
      (s, v, 0)

/-! ## Refusals -/

/-- Reserved whatever the state, besides RegMap's check: a head over an unpopulated surface (R30), more than one actuator command
(R226), START with STOP (Table 14.11), IDLE_RPM at or above FORMAT_RPM (Table 15.12). (DEDUCED, unsafe: log entry 56.) -/
def State.wordRefused (s : State) (r : Reg) (v : Word) : Bool :=
  regReserved s r v ||
  (match r with
   | .chnStHead _ => fld v 9 8 != 0 && decide (s.surfaces ≤ fld v 4 0)
   | .sceActCmd _ => decide (1 < b2n (bit v 31) + b2n (bit v 30) + b2n (bit v 29))
   | .dmaChCtl _ => bit v 31 && bit v 30
   | .pwrCfg => decide (5400 ≤ fld v 13 0 ∧ s.spnPers.formatRpm ≤ fld v 13 0)
   | _ => false)

/-- A write to a bank's window is dropped: the bank is active, or a swap is pending (R209). -/
def State.bankClosed (s : State) (o : Nat) : Bool :=
  if o < 0x13000 then
    let n := s.loopServed ((o - 0x10000) / 0x200)
    (s.slot n).swap || (s.slot n).bank == decide (0x100 ≤ (o - 0x10000) % 0x200)
  else false

/-- USER_CAPACITY under the geometry of a word written to PLC_STRIPE_CFG (R41, R43). -/
def State.capacityUnder (s : State) (v : Word) : Nat :=
  let w := min s.surfaces (fld v 4 0)
  capacityOf s.sec.pers w (min (fld v 9 8) (w - 1))

/-- The value that a write of ETH_IP_CTL_p and the held writes would put in force. -/
def State.withIp (s : State) (p : Nat) (v : Word) : State :=
  let x := s.port p
  let s := s.setRv (.ethIpCtl p) v
  let s := match x.heldV4 with | some w => s.setRv (.ethIpv4 p) w | none => s
  let s := match x.heldGw with | some w => s.setRv (.ethIpv4Gw p) w | none => s
  let s := x.heldV6.foldl (fun s e => s.setRv (.ethIpv6 p e.1) e.2) s
  s.modPort p fun x => { x with heldV4 := none, heldGw := none, heldV6 := [] }

/-- Whether the GID of a path of a session not in FREE would change or go (R655). -/
def State.gidLost (s : State) (p : Nat) (v : Word) : Bool :=
  let new := (s.withIp p v).gids p
  s.sessIds.any fun i =>
    let x := s.sess i
    x.state != .free && (x.path :: x.alt.toList).any fun q => q.port == p && !new.any fun e => e == (q.gidIndex, q.localGid)

/-- The flash address lies in the key area (Table 18.7). -/
def keyArea (a : Nat) : Bool := decide (0x20000 ≤ a) && decide (a < 0x100000)

/-- A GO of SEC_FLASH_CTL is refused (R623); an erase takes a multiple of 65,536. -/
def State.flashRefused (s : State) (v : Word) : Bool :=
  let a := fld (s.rv .secFlashAddr) 28 0
  bit v 31 && (!s.sec.recovery || s.sec.flashBusy.isSome || keyArea a || (fld v 25 24 == 2 && a % 65536 != 0))

/-- Refusals that depend on the state (R665, CAUSE 2). (DEDUCED, safe: log entry 58.) -/
def State.stateRefused (s : State) (r : Reg) (v : Word) : Bool :=
  match r with
  | .ethIpCtl p => s.gidLost p v
  | .chnStHead st => fld v 9 8 != 0 && s.headTaken st (fld v 4 0)
  | .chnAfSel n => s.afSelRefused n v
  | .plkTdCtl => s.tdRefused v
  | .sceWindow o => s.bankClosed o
  | .sceTgt st => s.targetRefused st v
  | .sceActCmd a => s.actCmdRefused a v
  | .spnCtl => s.disableRefused v
  | .plcStripeCfg => decide (s.capacityUnder v < s.allocated)
  | .hbmDiag => !s.stacks.contains (fld v 25 24)
  | .cchCtl => s.cch.draining && bit v 31
  | .dmaChCfg c => dmaActive (s.ch c).state
  | .dmaChProgHi c => dmaActive (s.ch c).state
  | .dmaChCtl c => bit v 31 && dmaActive (s.ch c).state
  | .timSetHi => s.timMode == 1
  | .fltRd => !s.readInRange v
  | .secFlashCtl => s.flashRefused v
  | _ => false

/-! ## What an accepted write does -/

/-- PLC_STRIPE_CFG: the geometry for band sets opened from now on, and USER_CAPACITY (R41, R50).
(DESIGN CHOICE, unsafe: log entry 154.) -/
def State.stripeWrite (s : State) (v : Word) : State :=
  let w := s.effW
  let p := s.effP
  let c := s.chunk
  let s := s.setRv .plcStripeCfg v
  let changed := w ≠ s.effW ∨ p ≠ s.effP ∨ c ≠ s.chunk
  let s := if changed then
      let open_ := (s.plc.sets.filter fun e => e.2.isOpen).map Prod.fst
      let s := { s with plc := { s.plc with sets := amapv s.plc.sets fun _ b => { b with earlier := true } } }
      open_.foldl (fun s n => s.closeSet n) s
    else s
  let cap := s.capacityNow
  if cap ≤ s.plc.userCap ∨ !s.plc.sets.any (fun e => e.2.earlier) then { s with plc := { s.plc with userCap := cap } } else s

/-- A write to SEQ_CS_DIAG (Table 5.12). -/
def State.csDiag (s : State) (v : Word) : State :=
  let s := s.setRv .seqCsDiag v
  let a := fld v 13 0
  let q := fld v 15 14
  let s := if bit v 30 then
      { s with seq := { s.seq with bad := if s.seq.bad.contains (a, q) then s.seq.bad.filter (· != (a, q)) else (a, q) :: s.seq.bad } }
    else s
  if bit v 31 then
    let w := agetD s.seq.words a 0
    { s with seq := { s.seq with csData := (List.range 4).map fun k => w.extractLsb' (32 * k) 32 } }
  else s

/-- A GO of SEC_FLASH_CTL: the operation is in progress from now on (Table 18.13). -/
def State.flashGo (s : State) (v : Word) : State :=
  let s := s.setRv .secFlashCtl v
  if bit v 31 then
    { s with sec := { s.sec with
        flashBusy := some { op := fld v 25 24, addr := fld (s.rv .secFlashAddr) 28 0, window := sliceBytes s.sec.window 0 256 },
        flashError := false } }
  else s

/-- The upper register of a 64-bit pair is written: the lower half held for the agent, or else the one in force, takes effect with
it (R4). (DEDUCED, safe: log entry 50.) -/
def State.upperWrite (s : State) (ag : Agent) (lo hi : Reg) (v : Word) : State :=
  let l := s.latch ag (regAddr lo)
  let s := match l.lower with | some w => s.setRv lo w | none => s
  (s.setLatch { l with lower := none }).setRv hi v

/-- The warning limit is written: the condition of event source 12 is judged again (R644). -/
def State.thermCfg (s : State) (v : Word) : State :=
  let s := s.setRv .pinThermCfg v
  let warn := fld v 15 8
  let hot := if warn < s.pin.tempC then true else if s.pin.tempC + 5 ≤ warn then false else s.pin.thermHot
  ({ s with pin := { s.pin with thermHot := hot } }).evcLevel 12

/-- A write to FLT_SRC_n: FORCE makes the source report FORCED (R573). -/
def State.fltSrcWrite (s : State) (n : Nat) (v : Word) : State :=
  if !faultListed n then s
  else
    let s := s.setRv (.fltSrc n) v
    if bit v 31 then s.report n 63 0 (fld v 30 29) else s

/-- The effect of a write that is not refused (Table 20.5 and the registers' own tables). (DEDUCED, safe: log entry 135.) -/
def State.regAct (s : State) (ag : Agent) (r : Reg) (v : Word) : State :=
  match r with
  | .eqtXferErr => if bit v 0 then { s with eqt := { s.eqt with dbBad := 0, sglBad := 0, pushBad := 0 } } else s
  | .eqtAdminMaskHi => s.upperWrite ag .eqtAdminMaskLo r v
  | .ethCfg p => ((s.setRv r v).retrain p).evcLevel 5
  | .ethIpv4 p => s.modPort p fun x => { x with heldV4 := some v }
  | .ethIpv4Gw p => s.modPort p fun x => { x with heldGw := some v }
  | .ethIpv6 p k => s.modPort p fun x => { x with heldV6 := aput x.heldV6 k v }
  | .ethIpCtl p => s.withIp p v
  | .evcMaskHi n =>
    let old := s.evcMask n
    (s.upperWrite ag (.evcMaskLo n) r v).maskChanged n old
  | .evcRaise => s.evcEdge (192 + fld v 21 16) (v &&& 0xFFFF#32)
  | .chnStatSel =>
    let s := s.setRv r v
    if bit v 31 then s.statSnap (fld v 6 0) (fld v 13 8) (bit v 30) else s
  | .chnStHead st => s.modStream st fun x => { x with pendingHead := some (v &&& 0x31F#32) }
  | .wrpInh st => s.modStream st fun x => { x with sticky := x.sticky - (x.sticky &&& fld v 5 0) }
  | .plkCtl n =>
    let s := s.setRv r v
    if bit v 7 then s.modLink n fun l => { l with resends := 0, upCrc := 0 } else s
  | .plkTdCtl => s.tdWrite v
  | .seqMchk => if bit v 31 then { s with seq := { s.seq with mchkValid := false } } else s
  | .seqCsDiag => s.csDiag v
  | .sceSlot n => (s.setRv r v).modSlot n fun x => { x with
      swap := x.swap || bit v 31, swapBy := if bit v 31 then ag else x.swapBy,
      outSat := x.outSat && !bit v 25, stateSat := x.stateSat && !bit v 24 }
  | .sceTgt st => s.targetWrite st v
  | .sceActCmd a => s.actCmd a v
  | .spnCtl => s.spnCtlWrite v
  | .spnTlCfg => (s.setRv r v).tlModeWrite
  | .spnTlStat => if bit v 28 then s.modSpn fun x => { x with lockLoss := false } else s
  | .plcStripeCfg => s.stripeWrite v
  | .hbmDiag => s.hbmDiag v
  | .srmDiag => s.srmDiag v
  | .cchCtl => s.cchWrite v
  | .dmaTm n => s.timerWrite n v
  | .dmaChProgHi c => s.upperWrite ag (.dmaChProgLo c) r v
  | .dmaChCtl c => s.dmaCtl c v
  | .dmaChStat c => if bit v 23 then s.modCh c fun x => { x with overrun := false } else s
  | .pwrAccessOff => if bit v 31 then { s with pwr := { s.pwr with offValid := false } } else s
  | .timCfg =>
    let old := s.rv .timCfg
    let s := s.setRv r v
    let s := if fld old 31 30 ≠ fld v 31 30 ∨ fld old 25 16 ≠ fld v 25 16 then s.timResync else s
    s.evcLevel 10
  | .timSetHi =>
    let s := s.upperWrite ag .timSetLo r v
    (s.timSet (s.rv64 .timSetLo .timSetHi)).evcLevel 10
  | .fltRd => ((s.fltRdWrite v).evcLevel 0).evcLevel 6
  | .fltSrc n => s.fltSrcWrite n v
  | .talCfg => s.talCfg v
  | .talCtl => s.talCtl v
  | .talList l i => s.talList l i v
  | .secFlashCtl => s.flashGo v
  | .secFlashWindow k =>
    let w := sliceBytes s.sec.window 0 256
    { s with sec := { s.sec with window := w.take (4 * k) ++ leBytes 4 v.toNat ++ w.drop (4 * k + 4) } }
  | .pinThermCfg => s.thermCfg v
  | .pinSetupErr => if bit v 31 then { s with setupErr := { s.setupErr with valid := false } } else s
  | _ => s.setRv r v

/-- Whether a write has changed the value of a conjunct register (R565, R664): its own RW fields, or with an upper register those of
its pair. (DEDUCED, safe: log entry 130.) -/
def conjChanged (old new : State) (r : Reg) : Bool :=
  regConjunct r && (new.rv r != old.rv r || (match regLower r with | some lo => new.rv lo != old.rv lo | none => false))

/-- A write of a register that can be reached: the state and the status of Table 20.3, judged in the order of R665.
(DEDUCED, safe: log entry 103.) -/
def State.regWriteIn (s : State) (ag : Agent) (r : Reg) (v : Word) : State × Nat :=
  if (regUpper r).isSome then
    (s.setLatch { s.latch ag (regAddr r) with lower := some v }, 0)
  else if s.wordRefused r v then (s.setupError ag 1 (regAddr r), 1)
  else if s.stateRefused r v then (s.setupError ag 2 (regAddr r), 1)
  else if s.syncConflict r v then (s.setupError ag 3 (regAddr r), 2)
  else
    let t := s.regAct ag r v
    (if conjChanged s t r then t.conjStart else t, 0)

/-- A write to a set-up address by an agent (R646, R647): the state and the status of Table 20.3. -/
def State.regWrite (s : State) (ag : Agent) (addr : Nat) (v : Word) : State × Nat :=
  match regAt addr with
  | none => (s.setupError ag 4 (addr / 4 * 4), 3)
  | some r => if s.blockOff r then (s.accessOff r, 4) else s.regWriteIn ag r v

/-! ## Paths (R394, R649) -/

/-- A write by the management port or by a control core; the port keeps the status for LAST_STATUS. -/
def State.setupWrite (s : State) (ag : Agent) (addr : Nat) (v : Word) : State :=
  let (s, st) := s.regWrite ag addr v
  if ag = .mgmt then { s with pin := { s.pin with lastStatus := st } } else s

/-- A write to one register of the map. -/
def State.regRow (s : State) (ag : Agent) (r : Reg) (v : Word) : State := s.setupWrite ag (regAddr r) v

/-- The address registers of a port that R655 names: IPv4, its gateway, then the four words of IPv6. -/
def ethAddressReg (p : Nat) : Nat → Reg
  | 0 => .ethIpv4 p
  | 1 => .ethIpv4Gw p
  | k + 2 => .ethIpv6 p k

/-- READ_MGMT: a wrong PEC is not acknowledged and the transaction has no effect (R649). -/
def State.readMgmt (s : State) (addr : Nat) (pecOk : Bool) : State :=
  if pecOk then
    let (s, v, st) := s.regRead .mgmt addr
    s.emit (.mgmt ([5] ++ [BitVec.ofNat 8 st] ++ leBytes 4 v.toNat))
  else s.emit .mgmtNoAck

/-- LAST_STATUS. -/
def State.lastStatusRead (s : State) : State := s.emit (.mgmt [BitVec.ofNat 8 s.pin.lastStatus])

/-- MGMT_SCL_TIMEOUT: SCL has been low for 35 ms and the port releases SDA (R642). -/
def State.sclTimeout (s : State) : State :=
  let s := s.advance 35000000
  { s with pin := { s.pin with sdaHeld := false } }

/-- REG_ACCESS with WRITE = 0 (R394). -/
def State.cmdRegRead (s : State) (t : Nat) : State :=
  s.cmdRow t 0x48 (fun s => s) fun s => match s.cmd? t with
    | none => s
    | some c =>
      if eRegWrite c.entry || !s.mayAccept t c false then s
      else
        let s := s.accept t
        let (s, v, _) := s.regRead (.session c.sess) (ef c.entry 128 32)
        s.endCmd t 0 (v.setWidth 48)

/-- The status of a REG_ACCESS write for a status of Table 20.3 (R394). -/
def regStatus (st : Nat) : BitVec 16 := if st = 0 then 0 else if st = 2 then 0x030A else 0x030B

/-- REG_ACCESS with WRITE = 1. -/
def State.cmdRegWrite (s : State) (t : Nat) : State :=
  s.cmdRow t 0x48 (fun s => s) fun s => match s.cmd? t with
    | none => s
    | some c =>
      if !eRegWrite c.entry || !s.mayAccept t c false then s
      else
        let s := s.accept t
        let (s, st) := s.regWrite (.session c.sess) (ef c.entry 128 32) (BitVec.ofNat 32 (ef c.entry 160 32))
        s.endCmd t (regStatus st) 0

/-! ## Capture (R589-R592) -/

/-- One value of a capture: registers of RETENTION or OFF domains are captured as all ones and not valid; an address outside the map
reads 0. -/
def State.captureOne (s : State) (l i : Nat) : Word × Bool :=
  let e := s.rv (.talList l i)
  if !bit e 0 then (0, false)
  else match regAt (fld e 31 2 * 4) with
    | none => (0, true)
    | some r => if s.blockOff r then (0xFFFFFFFF, false) else (s.regPeek r, true)

/-- The next sequence number of the Tail ring: 0 is skipped (R591). -/
def talAfter (n : BitVec 32) : BitVec 32 := if n + 1 = 0 then 1 else n + 1

/-- Records the ring holds. -/
def State.tailCount (s : State) : Nat :=
  let d := (s.tal.next - s.tal.oldest).toNat
  if s.tal.next.toNat < s.tal.oldest.toNat then d - 1 else d

/-- TAIL_CAPTURE: the trigger being captured becomes a record, and the next one in the queue is taken (R588-R592).
(DEDUCED, unsafe: log entry 37.) -/
def State.tailCapture (s : State) : State :=
  match s.tal.capturing with
  | none => s
  | some g =>
    if !s.hbmUp ∨ s.captureOff then s
    else
      let vals := (List.range 32).map fun i => s.captureOne g.list i
      let cap := s.tailCapacity
      let rec_ : TailRecord := {
        seq := s.tal.next, trig := g, values := vals.map (·.1), gen := fld s.tal.gens (8 * g.list + 7) (8 * g.list),
        valid := BitVec.ofNat 32 ((vals.zipIdx.map fun e => if e.1.2 then 2 ^ e.2 else 0).sum), poisoned := false }
      let wrap := bit (s.rv .talCfg) 30
      let full := decide (cap ≤ s.tailCount)
      let s := { s with tal := { s.tal with
        ring := aput s.tal.ring s.tal.nextSlot rec_, next := talAfter s.tal.next,
        oldest := if full then talAfter s.tal.oldest else s.tal.oldest, nextSlot := (s.tal.nextSlot + 1) % cap,
        capturing := s.tal.queue.head?, queue := s.tal.queue.drop 1 } }
      if !wrap && decide (cap ≤ s.tailCount) then
        let left := s.tal.capturing.toList.length + s.tal.queue.length
        let s := { s with tal := { s.tal with full := true, capturing := none, queue := [], missed := satAdd s.tal.missed left 0xFFFF } }
        (if left = 0 then s else s.report 320 2 s.tal.nextSlot 0).evcLevel 17
      else s

end Sys2Proof.Machine
end

