-- ==== Sys2Proof/Machine/Logs.lean ====
section
/-! DEFINITION. GET_LOG and its six logs (Tables 10.15, 15.11, 16.4, 17.6 and 17.8), and ATTEST (Table 18.9). -/

namespace Sys2Proof.Machine

/-- Bytes of a list padded with 0 to a length. -/
def padTo (n : Nat) (bs : List Byte) : List Byte := bs.take n ++ List.replicate (n - bs.length) 0

/-- The DEVICE log. -/
def State.deviceLog (s : State) : List Byte :=
  padTo 128 (ascii "IM4144" ++ [0, 0, 0xB1, 2] ++ leBytes 1 s.surfaces ++ [0] ++ leBytes 2 s.present.length ++ [0, 0] ++
    leBytes 8 s.sec.fw.version.toNat ++ leBytes 8 s.sec.persPkg.version.toNat ++ leBytes 8 s.plc.userCap ++
    leBytes 8 s.allocated ++ leBytes 8 s.conjTag.toNat)

/-- Code of a namespace's state in the NAMESPACES log. -/
def nsCode (k : NsKind) : Nat :=
  match k with
  | .absent => 0 | .placed => 1 | .zoned => 2 | .deleting => 3

/-- One entry of the NAMESPACES log. -/
def State.nsEntry (s : State) (n : Nat) : List Byte :=
  let x := s.ns n
  if x.kind = .absent then List.replicate 32 0
  else
    let mapped := (s.plc.blocks.filter fun e => e.1 / 2 ^ 64 == n).length
    let zonesOpen := (x.zones.filter fun z => z.2.state == .open_).length
    padTo 32 (leBytes 1 (nsCode x.kind) ++ leBytes 7 0 ++ leBytes 8 x.capacity ++ leBytes 8 mapped ++ leBytes 2 zonesOpen)

/-- The NAMESPACES log. -/
def State.nsLog (s : State) : List Byte := (List.range 256).flatMap s.nsEntry

/-- The reactions of a record as bits [6:2] of its byte 2. -/
def reactBits (r : Reactions) : Nat := 4 * b2n r.event + 8 * b2n r.errN + 16 * b2n r.nmi + 32 * b2n r.blockRst + 64 * b2n r.warmRst

/-- A fault record in memory (Table 17.5). -/
def faultBytes (r : FaultRecord) : List Byte :=
  leBytes 2 (r.rep.source + 1024 * r.rep.kind) ++ leBytes 1 (r.rep.severity + reactBits r.react) ++ [0] ++ leBytes 5 r.rep.addr ++ [0] ++
  leBytes 2 r.coalesced ++ pairBytes r.pair ++ leBytes 2 r.lost ++ [0, 0] ++ leBytes 4 r.number.toNat

/-- A record of a poisoned granule as it is returned (R580). -/
def lostFault (n : BitVec 32) : List Byte := padTo 28 [0xFF, 0x03] ++ leBytes 4 n.toNat

/-- Whether the 64-byte granule of a slot of the FAULTS ring is poisoned. -/
def State.faultPoisoned (s : State) (i : Nat) : Bool :=
  [i / 2 * 2, i / 2 * 2 + 1].any fun k => match aget s.flt.slots k with | some r => r.poisoned | none => false

/-- One slot of the FAULTS log. -/
def State.faultSlot (s : State) (i : Nat) : List Byte :=
  match aget s.flt.slots i with
  | none => List.replicate 32 0
  | some r => if s.faultPoisoned i then lostFault r.number else faultBytes r

/-- The FAULTS log (Table 17.6). -/
def State.faultLog (s : State) : List Byte :=
  padTo 64 (leBytes 4 s.flt.next.toNat ++ leBytes 4 s.flt.rd.toNat ++ leBytes 4 s.fatalRecords ++ leBytes 4 s.eventRecords ++
    leBytes 4 s.flt.overwritten ++ leBytes 4 s.flt.lostTotal) ++ (List.range 4096).flatMap s.faultSlot

/-- A Tail record in memory (Table 17.7). -/
def tailBytes (r : TailRecord) : List Byte :=
  if r.poisoned then padTo 252 (leBytes 4 0 ++ [0xFF]) ++ leBytes 4 0xFFFFFFFF
  else
    let vals := r.values.zipIdx.flatMap fun e => leBytes 4 e.1.toNat
    padTo 252 (leBytes 4 r.seq.toNat ++ leBytes 1 r.trig.trigger ++ leBytes 1 r.trig.list ++ leBytes 2 r.trig.fault.toNat ++
      pairBytes r.trig.pair ++ leBytes 4 r.trig.faultRec.toNat ++ leBytes 4 r.valid.toNat ++ leBytes 1 r.gen ++ [0, 0, 0] ++ vals) ++
    leBytes 4 r.seq.toNat

/-- The header of the TAIL log (Table 17.8). -/
def State.tailHeader (s : State) : List Byte :=
  let lists := (List.range 4).flatMap fun l => (List.range 32).flatMap fun i => leBytes 4 (s.rv (.talList l i)).toNat
  padTo 512 (leBytes 4 s.tal.next.toNat ++ leBytes 4 s.tal.oldest.toNat ++ leBytes 4 s.tailCapacity ++
    leBytes 1 (b2n (bit (s.rv .talCfg) 30) + 2 * b2n s.tal.full) ++ [0, 0, 0] ++ leBytes 4 s.tal.nextSlot ++ leBytes 2 s.tal.missed ++
    leBytes 1 s.tal.lostRecs ++ [0] ++ leBytes 4 s.tal.gens.toNat) ++ lists

/-- Byte o of the TAIL log. -/
def State.tailByte (s : State) (header : List Byte) (o : Nat) : Byte :=
  if o < 1024 then header.getD o 0
  else match aget s.tal.ring ((o - 1024) / 256) with
    | none => 0
    | some r => (tailBytes r).getD (o % 256) 0

/-- One record of ATTEMPTS (Table 15.11). -/
def attemptBytes (a : Attempt) : List Byte :=
  padTo 32 (pairBytes a.pair ++ leBytes 1 a.target ++ leBytes 1 a.outcome ++ leBytes 1 a.part ++ leBytes 1 a.reason ++
    leBytes 4 (min 0xFFFFFFFF a.durationUs))

/-- The POWER log (Table 15.11). -/
def State.powerLog (s : State) : List Byte :=
  let p := s.pwr
  let exits := pointCodes.flatMap fun k => leBytes 4 (min 0xFFFFFFFF (s.tExitUs k))
  let l := p.lastSave
  let save := padTo 64 (leBytes 4 l.gen ++ pairBytes l.pair ++ leBytes 4 l.manifest ++ leBytes 4 l.eclipse ++ leBytes 4 l.delta ++
    leBytes 1 l.outcome)
  padTo 32 (leBytes 1 p.point ++ leBytes 1 p.target ++ leBytes 1 s.stageCode ++ [0] ++ leBytes 4 p.entered ++ leBytes 4 p.aborted ++
    leBytes 4 p.refused ++ leBytes 4 (p.dmax / 2 ^ 20) ++ leBytes 4 (min 0xFFFFFFFF p.tSave)) ++ padTo 96 exits ++ save ++
    padTo 832 (p.attempts.flatMap attemptBytes)

/-- The CONJUNCTION log (Table 16.4). -/
def State.conjLog (s : State) : List Byte :=
  let t := s.tim
  padTo 256 (leBytes 64 t.digest.toNat ++ leBytes 8 s.conjTag.toNat ++ pairBytes t.tagPair ++ leBytes 4 t.gen ++
    leBytes 4 (s.rv .timFleet).toNat ++ leBytes 4 t.serial.length) ++ t.serial

/-- The length of a log, none where it is not listed. -/
def State.logLen (s : State) (n : Nat) : Option Nat :=
  match n with
  | 1 => some 128
  | 2 => some 8192
  | 3 => some 131136
  | 4 => some (1024 + 256 * s.tailCapacity)
  | 5 => some 1024
  | 6 => some (256 + s.tim.serial.length)
  | _ => none

/-- Bytes of a log from an offset; bytes beyond its end are 0 (R393). -/
def State.logBytes (s : State) (n ofs len : Nat) : List Byte :=
  match n with
  | 1 => sliceBytes s.deviceLog ofs len
  | 2 => sliceBytes s.nsLog ofs len
  | 3 => sliceBytes s.faultLog ofs len
  | 4 =>
    let h := s.tailHeader
    (List.range len).map fun i => if ofs + i < 1024 + 256 * s.tailCapacity then s.tailByte h (ofs + i) else 0
  | 5 => sliceBytes s.powerLog ofs len
  | 6 => sliceBytes s.conjLog ofs len
  | _ => []

/-- Poisoned records met by a read of a log are reported: RECORD_LOST for each granule of the FAULTS log (R580) and for each record
of the TAIL log, which also counts it (R595). -/
def State.logPoison (s : State) (n ofs len : Nat) : State :=
  if n = 3 then
    ((List.range 2048).filter fun g => s.faultPoisoned (2 * g) && decide (ofs < 64 + 64 * (g + 1)) && decide (64 + 64 * g < ofs + len)).foldl
      (fun s g => s.report 320 1 (2 * g) 2) s
  else if n = 4 then
    (s.tal.ring.filter fun e => e.2.poisoned && decide (ofs < 1024 + 256 * (e.1 + 1)) && decide (1024 + 256 * e.1 < ofs + len)).foldl
      (fun s e => ({ s with tal := { s.tal with lostRecs := satInc s.tal.lostRecs 255 } }).report 320 1 e.1 2) s
  else s

/-- GET_LOG: the snapshot is taken at acceptance (R393). -/
def State.cmdGetLog (s : State) (t : Nat) : State :=
  s.cmdRow t 0x45 (fun s => s.startWalk t) fun s => match s.cmd? t with
    | none => s
    | some c =>
      if !s.mayAccept t c false then s
      else
        let n := ef c.entry 32 8
        match s.logLen n with
        | none => s.endCmd t 0x0309 0
        | some len =>
          let bytes := s.logBytes n (eLba c.entry) (ef c.entry 192 32)
          let s := s.accept t
          (s.modCmd t fun c => { c with payload := bytes, result := BitVec.ofNat 48 len }).logPoison n (eLba c.entry) (ef c.entry 192 32)

/-- The signed bytes of an attestation report (Table 18.9): bytes 0 to 3,039. -/
def State.attestBody (s : State) (nonce : Nat) (p : Pair) : List Byte :=
  let f := s.sec.fuses
  padTo 448 (ascii "IM4144AT" ++ [1, 0xB1] ++
    leBytes 1 (b2n f.debugClosed + 2 * b2n s.sec.fallback + 4 * b2n (s.tim.state == .locked)) ++ [0] ++
    leBytes 4 (s.rv .timFleet).toNat ++ leBytes 16 nonce ++ pairBytes p ++ leBytes 4 0 ++ leBytes 16 Config.serial.toNat ++
    leBytes 64 s.sec.fw.digest.toNat ++ leBytes 64 s.sec.persPkg.digest.toNat ++ leBytes 64 s.sec.bootPkg.digest.toNat ++
    leBytes 64 s.tim.digest.toNat ++ leBytes 1 f.boot ++ leBytes 1 f.firmware ++ leBytes 1 f.personality ++ leBytes 1 f.imageKey ++
    leBytes 1 f.makerKey ++ leBytes 1 (f.revoked % 16) ++ leBytes 2 f.makerId ++ leBytes 8 s.sec.fw.version.toNat ++
    leBytes 8 s.sec.persPkg.version.toNat) ++ leBytes 2592 Config.identityKey.toNat

/-- ATTEST (R615): the report shows the state at its acceptance. -/
def State.cmdAttest (s : State) (t : Nat) : State :=
  s.cmdRow t 0x46 (fun s => s.startWalk t) fun s => match s.cmd? t with
    | none => s
    | some c =>
      if !s.mayAccept t c false then s
      else
        let s := s.accept t
        let p := match (s.cmd? t).bind (·.accept) with | some p => p | none => s.pair
        let body := s.attestBody (ef c.entry 128 128) p
        let sig := Config.identitySign (Config.sha3 body) (Config.random s.free)
        (s.freeUsed).modCmd t fun c => { c with payload := padTo 8192 (body ++ leBytes 4627 sig.toNat), result := 0 }

end Sys2Proof.Machine
end

