-- ==== Sys2Proof/Machine/Placement.lean ====
section
/-! DEFINITION. The placement front (chapter 2): forming stripe rows, writes and their trailing verify, the journal records of rows, row
completion, reclaim, checkpoints, the journal on media and the copies of R26. -/

namespace Sys2Proof.Machine

/-! ## Chunks and band sets (R41-R52) -/

/-- The zone and the first track of the band with an index, counted through a surface's zones. -/
def bandFirst : List Zone → Nat → Option (Zone × Nat)
  | [], _ => none
  | z :: zs, i =>
    if i < zoneBands z then some (z, z.firstTrack + i * (z.tracksPerBand + z.guard)) else bandFirst zs (i - zoneBands z)

/-- The next chunk of a band: track, first sector and the write position after it. A chunk lies on one track; PAD sectors fill the
rest of a track that has no room for it (R49). -/
def State.chunkAt (s : State) (id c : Nat) : Option (Nat × Nat × Nat) :=
  match bandFirst (s.zoneTable (id / 2 ^ 26)) (id % 2 ^ 26) with
  | none => none
  | some (z, t0) =>
    let wp := (s.band id).writePos
    let start := if wp % max 1 z.spt + c ≤ z.spt then wp else (wp / max 1 z.spt + 1) * z.spt
    if c ≤ z.spt ∧ start / max 1 z.spt < z.tracksPerBand then
      some (t0 + start / max 1 z.spt, start % max 1 z.spt, start + c)
    else none

/-- The band set a plan opens (R46, R50). -/
def State.newSet (s : State) (p : RowPlan) : BandSet :=
  { surfaces := p.surfaces, bands := p.bands, w := s.effW, p := s.effP, c := s.chunk, rows := 0, isOpen := true,
    reclaiming := false, earlier := false }

/-- Whether a plan may open its band set: W distinct populated surfaces (R44), each with a FREE band of that index (Table 2.6). -/
def State.newSetOk (s : State) (b : BandSet) : Bool :=
  decide b.surfaces.Nodup && decide (b.surfaces.length = b.w) && decide (b.bands.length = b.w) &&
  b.surfaces.all (fun u => decide (u < s.surfaces)) &&
  (setBands b).all fun id => (s.band id).state == .free && (bandFirst (s.zoneTable (id / 2 ^ 26)) (id % 2 ^ 26)).isSome

/-- Member position `k` of row `r` holds parity (R46). -/
def parityAt (b : BandSet) (r k : Nat) : Bool := k == r % b.w || (b.p == 2 && k == (r + 1) % b.w)

/-! ## What the front places -/

/-- Landing data not yet in a row, in the order the front takes it: the namespaces with a buffer that has lost a copy first (R26),
each namespace in acceptance order (R59). -/
def State.frontQueue (s : State) : List LandBlock :=
  let l := s.plc.landing.filter fun b => b.row.isNone
  let hurt := (s.plc.landing.filter (·.missing)).map fun b => b.key / 2 ^ 64
  (l.filter fun b => hurt.contains (b.key / 2 ^ 64)) ++ l.filter fun b => !hurt.contains (b.key / 2 ^ 64)

/-- Blocks to be placed again, recovered, reclaimed or rewritten (R52, R64, R78, R115), as they stand, in the order of their keys, each with the
surface on which its write failed. -/
def State.copyQueue (s : State) : List (RowBlock × Option Nat) :=
  s.chn.recovered.filterMap fun e => match aget s.plc.blocks e.1 with
    | some { val := v, pair := p, place := .media _ _ _ } => some ({ key := e.1, pair := p, val := v }, e.2)
    | _ => none

/-- What a plan draws from. -/
def State.planQueue (s : State) (p : RowPlan) : List (RowBlock × Option Nat) :=
  if p.copies then s.copyQueue else s.frontQueue.map fun b => ({ key := b.key, pair := b.pair, val := b.val }, b.avoid)

/-- Whether short rows may be formed (R49): a FLUSH waits for media, or admission presses: it is held, a reservation waits, or a
power-point entry drains the landing area. Blocks placed again do not wait for a full row. (DEDUCED, unsafe: log entry 84.) -/
def State.shortAllowed (s : State) (p : RowPlan) : Bool :=
  p.copies || s.admissionHeld || !s.plc.resvQueue.isEmpty || s.pwr.change.isSome ||
  s.eqt.cmds.any fun c => eOp c.2.entry == 4 && c.2.phase == .accepted

/-- The members of a row before any is written: the chunk each takes in its band, none where a band has no room. -/
def State.layMembers (s : State) (b : BandSet) : List MemberPlan → Option (List Member)
  | [] => some []
  | m :: rest =>
    let u := b.surfaces.getD m.pos 0
    let i := b.bands.getD m.pos 0
    match s.chunkAt (bandId u i) b.c, s.layMembers b rest with
    | some (t, x, _), some l =>
      some ({ pos := m.pos, surface := u, band := i, act := m.act, track := t, sector := x, parity := parityAt b b.rows m.pos,
              written := 0, onMedia := false, failed := [] } :: l)
    | _, _ => none

/-- Passes in which the actuators in use write a row of a width (R48, R76). -/
def State.passes (s : State) (w : Nat) : Nat := ceilDiv w (4 * max 1 s.actsInUse.length)

/-- The members of a plan are well placed: rising positions with every parity member, actuators in use and heads in use, and no actuator with
more members than its passes take, four of one band ring in each (R46, R47, R48, R75, R76). -/
def State.membersOk (s : State) (b : BandSet) (ms : List MemberPlan) : Bool :=
  decide (ms.map (·.pos)).Nodup && (ms.map (·.pos)).all (fun k => decide (k < b.w)) &&
  decide ((ms.map (·.pos)).Pairwise (· < ·)) && (List.range b.w).all (fun k => !parityAt b b.rows k || ms.any (·.pos == k)) &&
  ms.all (fun m => s.actsInUse.contains m.act && !(s.lhead (18 * m.act + b.surfaces.getD m.pos 0)).out) &&
  s.actsInUse.all fun a =>
    let rings := (ms.filter fun m => m.act == a).map fun m => b.bands.getD m.pos 0
    decide ((rings.eraseDups.map fun i => ceilDiv (rings.count i) 4).sum ≤ s.passes ms.length)

/-- The blocks of a row by 64·member + sector position: the data members in order take C blocks each. -/
def rowVals (c : Nat) : Nat → List Member → List (RowBlock × Option Nat) → Assoc RowBlock
  | _, [], _ => []
  | k, m :: ms, l =>
    if m.parity then rowVals c (k + 1) ms l
    else ((l.take c).zipIdx.map fun e => (64 * k + e.2, e.1.1)) ++ rowVals c (k + 1) ms (l.drop c)

/-- No block goes onto the surface on which its write failed before. -/
def avoidOk (c : Nat) : List Member → List (RowBlock × Option Nat) → Bool
  | [], _ => true
  | m :: ms, l => if m.parity then avoidOk c ms l else (l.take c).all (fun e => e.2 != some m.surface) && avoidOk c ms (l.drop c)

/-- The groups one actuator writes in one pass: one band ring, at most four members (R47, R48). -/
def passGroups (ms : List (Nat × Member)) : List (Nat × Nat × List (Nat × Member)) → List (Nat × Nat × List (Nat × Member))
  | gs => ms.foldl (fun gs m =>
      match gs.findIdx? fun g => g.1 == m.2.act && g.2.1 == m.2.band && decide (g.2.2.length < 4) with
      | some i => gs.modify i fun g => (g.1, g.2.1, g.2.2 ++ [m])
      | none => gs ++ [(m.2.act, m.2.band, [m])]) gs

/-- The placement pieces of a row join their actuators' queues (Table 12.1). -/
def State.queueRow (s : State) (n : Nat) (r : Row) : State :=
  (passGroups (r.members.zipIdx.map fun e => (e.2, e.1)) []).foldl (fun s g =>
    let first := g.2.2.head?.map Prod.snd
    s.addPiece { kind := if r.copies then .reclaim else .placement, owner := n, items := g.2.2.map Prod.fst, act := g.1,
                 surfaces := g.2.2.map (·.2.surface), track := (first.map Member.track).getD 0,
                 sector := (first.map Member.sector).getD 0, cls := 0, count := 0, ages := [], dueAt := none, pair := r.pair,
                 head := none }) s

/-- The front forms a row, where its plan keeps R42 to R49, R52 and R59; otherwise the plan is passed over. -/
def State.formRow (s : State) (p : RowPlan) : State :=
  let old := aget s.plc.sets p.set
  let b := old.getD (s.newSet p)
  let okSet : Bool := match old with
    | some x => x.isOpen && !x.reclaiming
    | none => s.newSetOk b
  let data := (p.members.filter fun m => !parityAt b b.rows m.pos).length
  let q := (s.planQueue p).take (data * b.c)
  let whole := data = b.w - b.p ∧ q.length = data * b.c
  match (if okSet && s.membersOk b p.members && decide (0 < data) && decide ((data - 1) * b.c < q.length) &&
      (decide whole || s.shortAllowed p) && s.tim.state != .unset then s.layMembers b p.members else none) with
  | none => s
  | some ms =>
    if !avoidOk b.c ms q then s
    else
      let n := s.plc.nextRow
      let r : Row := { set := p.set, r := b.rows, w := ms.length, wide := b.w, p := b.p, c := b.c, pair := s.pair, members := ms,
                       vals := rowVals b.c 0 ms q, copies := p.copies, jrn := none, recs := [], recorded := [],
                       verifying := 0, complete := false }
      let mine (k : Nat) (w : Pair) : Bool := r.vals.any fun e => e.2.key == k && e.2.pair == w
      let mark (x : LandBlock) : LandBlock :=
        if x.row.isNone && mine x.key x.pair then { x with row := some n, avoid := none } else x
      let s := s.stamped
      let s := (setBands b).foldl (fun s id => s.modBand id fun x => { x with state := .open_, set := p.set }) s
      let s := ms.foldl (fun s m => match s.chunkAt (bandId m.surface m.band) b.c with
        | some (_, _, w) => s.modBand (bandId m.surface m.band) fun x => { x with writePos := w }
        | none => s) s
      let s := { s with
        plc := { s.plc with
          sets := aput s.plc.sets p.set { b with rows := b.rows + 1 },
          rows := aput s.plc.rows n r,
          nextRow := n + 1,
          landing := if p.copies then s.plc.landing else s.plc.landing.map mark },
        chn := { s.chn with recovered := if p.copies then afilter s.chn.recovered fun k _ => !r.vals.any fun e => e.2.key == k
                                         else s.chn.recovered } }
      let s := if (setBands b).all fun id => (s.chunkAt id b.c).isSome then s else s.closeSet p.set
      s.queueRow n r

/-! ## Posted writes of SQP1 (R65-R67) -/

/-- A sector lies in a conventional zone outside the eclipse rings, where the journal, checkpoint and root bands are (R41, R51). -/
def State.conventional (s : State) (surface track : Nat) : Bool :=
  s.bandStateAt surface track == some .reserved && (match s.zoneOf surface track with | some z => !z.eclipse | none => false)

/-- Sectors of each run of a posted write: one JOURNAL or CKPT_ROOT sector, or one chunk of MAP_PAGE sectors. -/
def State.sysCount (s : State) : SysKind → Nat
  | .page => s.chunk
  | _ => 1

/-- The runs of a posted write that have not failed. -/
def liveSpots (w : SysWork) : List SysSpot := w.spots.filter fun p => !p.failed

/-- The posted write that a plan adds runs to, in place of those that failed. -/
def State.sysOld (s : State) (p : SysPlan) : Option (Nat × SysWork) :=
  if p.kind = .page then none else s.plc.sys.find? fun e => e.2.kind == p.kind && e.2.index == p.index

/-- The data members of the next row of map pages: each chunk of C sectors holds C ÷ 16 pages of 64 KiB; the last row is short (R49). -/
def State.pageMembers (s : State) : Nat := min (s.effW - s.effP) (ceilDiv s.plc.pagesDue.length (s.chunk / 16))

/-- A run touches none that a kept journal record, a root or another posted write still has. -/
def State.sysClear (s : State) (surface track sector count : Nat) : Bool :=
  let off (u t x n : Nat) : Bool := u != surface || t != track || decide (x + n ≤ sector) || decide (sector + count ≤ x)
  s.plc.mediaJournal.all (fun r => r.2.spots.all fun e => off e.1 e.2.1 e.2.2 1) &&
  s.plc.roots.all (fun r => r.1 == s.plc.ckptSlot || r.2.spots.all fun e => off e.1 e.2.1 e.2.2 1) &&
  s.plc.sys.all fun w => (liveSpots w.2).all fun e => off e.surface e.track e.sector w.2.count

/-- Whether R65, R66 and R67 allow a plan: a JOURNAL record on two surfaces by two actuators; a row of changed map pages with its parity; four
copies of a root, once its pages are all verified, on four surfaces by four actuators, or by every one in use. A plan that takes the place
of failed runs makes the copies whole again. -/
def State.sysPlanOk (s : State) (p : SysPlan) : Bool :=
  let old := match s.sysOld p with | some e => liveSpots e.2 | none => []
  let us := old.map (·.surface) ++ p.spots.map fun e => e.1
  let as := old.map (·.act) ++ p.spots.map fun e => e.2.2.2
  decide us.Nodup && !p.spots.isEmpty && as.all (fun a => s.actsInUse.contains a) &&
  p.spots.all (fun e => decide (e.1 < s.surfaces) && s.conventional e.1 e.2.1 && !(s.lhead (18 * e.2.2.2 + e.1)).out &&
    s.sysClear e.1 e.2.1 e.2.2.1 (s.sysCount p.kind) &&
    (match s.zoneOf e.1 e.2.1 with | some z => decide (e.2.2.1 + s.sysCount p.kind ≤ z.spt) | none => false)) &&
  (match p.kind with
   | .journal => decide (us.length = 2) && decide as.Nodup &&
       (match aget s.plc.journal p.index with | some r => !r.onMedia | none => false)
   | .page => decide (us.length = s.pageMembers + s.effP) && decide (0 < s.pageMembers) && s.plc.ckpt.isSome && p.index == s.plc.pageRows
   | .root => decide (us.length = 4) && decide (as.eraseDups.length = min 4 s.actsInUse.length) &&
       ((s.sysOld p).isSome || (s.plc.ckpt.isSome && p.index == s.plc.ckptSlot && s.plc.pagesDue.isEmpty &&
         !s.plc.sys.any fun e => e.2.kind == .page))) &&
  s.tim.state != .unset

/-- SQP1 posts a write: one piece for each run (Table 12.1). -/
def State.postSys (s : State) (p : SysPlan) : State :=
  if !s.sysPlanOk p then s
  else
    let taken := if p.kind = .page then s.pageMembers * (s.chunk / 16) else 0
    let (n, old) := (s.sysOld p).getD (s.plc.nextSys,
      { kind := p.kind, index := p.index, pair := s.pair, count := s.sysCount p.kind, pages := s.plc.pagesDue.take taken, spots := [] })
    let runs : List SysSpot := p.spots.map fun e =>
      { surface := e.1, track := e.2.1, sector := e.2.2.1, act := e.2.2.2, written := 0, verified := 0, failed := false }
    let pr := s.pair
    let s := { s.stamped with plc := { s.plc with
      sys := aput s.plc.sys n { old with spots := old.spots ++ runs }, nextSys := max s.plc.nextSys (n + 1),
      pagesDue := s.plc.pagesDue.drop taken, pageRows := if p.kind = .page then s.plc.pageRows + 1 else s.plc.pageRows } }
    runs.zipIdx.foldl (fun s e =>
      s.addPiece { kind := .journal, owner := n, items := [old.spots.length + e.2], act := e.1.act, surfaces := [e.1.surface],
                   track := e.1.track, sector := e.1.sector, cls := 0, count := 0, ages := [], dueAt := none, pair := pr, head := none }) s

/-- A run of a posted write fails: SQP1 posts another in its place, or the pages of its row in another row (R159). -/
def State.sysFail (s : State) (n i : Nat) : State :=
  match aget s.plc.sys n with
  | none => s
  | some w =>
    if w.kind = .page then
      ({ s with plc := { s.plc with sys := adel s.plc.sys n, pagesDue := w.pages ++ s.plc.pagesDue } }).dropPieces .journal n
    else { s with plc := { s.plc with sys := aput s.plc.sys n { w with spots := w.spots.modify i fun p => { p with failed := true } } } }

/-- The parity members of a row of map pages: those of R46 for the row of that number. (DEDUCED, unsafe: log entry 171.) -/
def sysParity (w : SysWork) (par i : Nat) : Option Nat :=
  let k := w.spots.length
  if i = w.index % max 1 k then some 0 else if par = 2 ∧ i = (w.index + 1) % max 1 k then some 1 else none

/-- The payload of sector pos of run i of a posted write (R34, R45): what it holds is an open value of the posting. -/
def sysPayload (n : Nat) (w : SysWork) (i pos : Nat) : BitVec 33792 :=
  let p := w.spots.getD i { surface := 0, track := 0, sector := 0, act := 0, written := 0, verified := 0, failed := false }
  let k := w.spots.length
  let par := k - ceilDiv w.pages.length (max 1 (w.count / 16))
  let isPar := if w.kind = .page then sysParity w par i else none
  let data := (below k fun j => (sysParity w par j).isNone).map fun j => Config.sysBytes n (j * w.count + pos)
  let stored := match isPar with
    | some 0 => xorParity data
    | some _ => gfParity data
    | none => Config.sysBytes n (if w.kind = .page then i * w.count + pos else 0)
  payloadOf stored { kind := if isPar.isSome then 2 else if w.kind = .page then 3 else if w.kind = .root then 4 else 5, nsid := 0,
                     member := if w.kind = .page then i else 0, width := if w.kind = .page then k else 2,
                     parity := if w.kind = .page then par else 1,
                     lba := if isPar.isSome then 0 else if w.kind = .page then 16 * (w.pages.getD (i * (w.count / 16) + pos / 16) 0) + pos % 16 else w.index,
                     row := if w.kind = .page then w.index else 0, pair := w.pair,
                     band := bandId p.surface 0, gen := 0 }

/-! ## Failed sectors, verifies and records of rows -/

/-- Changes a row. -/
def State.modRow (s : State) (n : Nat) (f : Row → Row) : State := { s with plc := { s.plc with rows := amod s.plc.rows n f } }

/-- A block of a row goes back to the front: its landing buffer into the next row, avoiding a surface, or its copy is to be made
again there. -/
def State.placeAgain (s : State) (n : Nat) (r : Row) (b : RowBlock) (avoid : Option Nat) : State :=
  if r.copies then
    (match aget s.plc.blocks b.key with
     | some x => if x.pair = b.pair then s.placeCopy b.key avoid else s
     | none => s)
  else { s with plc := { s.plc with landing := s.plc.landing.map fun x =>
    if x.key = b.key ∧ x.pair = b.pair ∧ x.row = some n then { x with row := none, avoid := avoid } else x } }

/-- A sector of a row is a failed write: its band counts it and is closed with its set (R53), and what it held is placed again on another
surface; for a parity sector, the blocks that it protected. (DEDUCED, unsafe: log entry 81; DEDUCED, unsafe: log entry 82.) -/
def State.sectorFailed (s : State) (n k pos : Nat) : State :=
  match aget s.plc.rows n with
  | none => s
  | some r => match r.members[k]? with
    | none => s
    | some m =>
      if m.failed.contains pos then s
      else
        let s := s.modRow n fun r => { r with members := r.members.modify k fun m => { m with failed := m.failed ++ [pos] } }
        let s := (s.modBand (bandId m.surface m.band) fun x => { x with failures := x.failures + 1 }).closeSet r.set
        if m.parity then
          (r.vals.filter fun e => e.1 % 64 == pos).foldl (fun s e => s.placeAgain n r e.2 none) s
        else match aget r.vals (64 * k + pos) with
          | none => s
          | some b => s.placeAgain n r b (some m.surface)

/-- The runs of one value of WRP_TV_CFG among sectors as they were written: first sector, count, the value, and when the first ended. -/
def verifyRuns : List Wrote → List (Nat × Nat × Word × Nat)
  | [] => []
  | w :: rest => match verifyRuns rest with
    | (x, n, c, t) :: l => if x = w.sector + 1 ∧ c = w.cfg then (w.sector, n + 1, c, w.endAt) :: l else (w.sector, 1, w.cfg, w.endAt) :: (x, n, c, t) :: l
    | [] => [(w.sector, 1, w.cfg, w.endAt)]

/-- A run just written is to be trailing-verified within TV_WINDOW revolutions of the end of its first sector (R156, R157, R160): by the head
of the trailing actuator where its budget allows, otherwise by any other healthy head. -/
def State.addVerify (s : State) (act surface track : Nat) (row sys : Option (Nat × Nat)) (r : Nat × Nat × Word × Nat) : State :=
  let (sector, count, cfg, endAt) := r
  let n := s.wrp.nextVerify
  let v : VerifyItem := { surface := surface, track := track, sector := sector, count := count, row := row, sys := sys, ecl := [], cfg := cfg,
                          deadline := endAt + fld cfg 15 12 * s.revNs, read := false, bad := [] }
  let s := { s with wrp := { s.wrp with verifies := aput s.wrp.verifies n v, nextVerify := n + 1 } }
  let t := (act + 1) % 4
  let a := if (s.crossActs act surface track).contains t then t
    else match argMin (s.crossActs act surface track) fun b => s.estimate b surface track sector with
      | some b => b
      | none => s.pickActuator [] [surface] track sector
  let pr := s.pair
  s.stamped.addPiece { kind := .verify, owner := n, items := [0], act := a, surfaces := [surface], track := track, sector := sector,
                       cls := 0, count := 0, ages := [], dueAt := none, pair := pr, head := none }

/-- The row and index that hold a landing block on media, if its member is there and its sector has not failed. -/
def State.placedSpot (s : State) (b : LandBlock) : Option (Nat × Nat) :=
  match b.row with
  | none => none
  | some n => match aget s.plc.rows n with
    | none => none
    | some r => match r.vals.find? fun e => e.2.key == b.key && e.2.pair == b.pair with
      | none => none
      | some (i, _) => match r.members[i / 64]? with
        | some m => if m.onMedia && !m.failed.contains (i % 64) then some (n, i) else none
        | none => none

/-- The aligned 256 KiB piece of a write that a landing block belongs to (R63). -/
def pieceOf (b : LandBlock) : Pair × Nat := (b.pair, b.key / 64)

/-- Every block of a piece is on media. (DEDUCED, safe: log entry 83.) -/
def State.pieceReady (s : State) (k : Pair × Nat) : Bool :=
  s.plc.landing.all fun b => pieceOf b != k || b.dead || (s.placedSpot b).isSome

/-- The blocks a row's journal record moves: those of every piece of a write that this row completes, so that a piece moves in one
record (R63); for a row of copies, its own blocks that are still the newest. -/
def State.recordSpots (s : State) (n : Nat) (r : Row) : List (Nat × Nat) :=
  if r.copies then
    (r.vals.filter fun e => (match r.members[e.1 / 64]? with | some m => !m.failed.contains (e.1 % 64) | none => false) &&
      (match aget s.plc.blocks e.2.key with | some b => b.pair == e.2.pair | none => false)).map fun e => (n, e.1)
  else
    let mine := ((s.plc.landing.filter fun b => b.row == some n && !b.dead).map pieceOf).eraseDups
    let ready := mine.filter s.pieceReady
    (s.plc.landing.filter fun b => !b.dead && ready.contains (pieceOf b)).filterMap s.placedSpot

/-- A row whose members are all on media gets its journal record (R63), which adds to the dirty total (R60, R658). -/
def State.rowRecord (s : State) (n : Nat) : State :=
  match aget s.plc.rows n with
  | none => s
  | some r =>
    if r.jrn.isSome ∨ !(r.members.all (·.onMedia)) then s
    else
      let spots := s.recordSpots n r
      let j := s.plc.nextJrn
      let s := s.journal (.row n spots) none
      let s := spots.foldl (fun s e => s.modRow e.1 fun x => { x with
        recs := if x.recs.contains j then x.recs else x.recs ++ [j], recorded := x.recorded ++ [e.2] }) s
      (s.modRow n fun x => { x with jrn := some j, recs := if x.recs.contains j then x.recs else x.recs ++ [j] }).checkHold

/-! ## What the writes of a turn bring -/

/-- A run of a row's member has been written: the sectors in `bad` have failed, `wrote` shows the others, and `verify` asks for their trailing
verify. -/
def State.memberWritten (s : State) (n k len : Nat) (bad : List Nat) (wrote : List Wrote) (verify : Bool) : State :=
  match aget s.plc.rows n with
  | none => s
  | some r => match r.members[k]? with
    | none => s
    | some m =>
      let s := s.modRow n fun r => { r with members := r.members.modify k fun m =>
        { m with written := m.written + len, onMedia := decide (r.c ≤ m.written + len) } }
      let s := bad.foldl (fun s i => s.sectorFailed n k i) s
      let s := { s with chn := { s.chn with streams := amapv s.chn.streams fun _ x =>
        { x with nbrs := x.nbrs.filter fun e => !(e.surface == m.surface && e.track == m.track) } } }
      let runs := if verify then verifyRuns (wrote.filter fun w => !bad.contains (w.sector - m.sector)) else []
      let s := (s.modRow n fun r => { r with verifying := r.verifying + runs.length }).fillBands r.set
      let s := runs.foldl (fun s e => s.addVerify m.act m.surface m.track (some (n, k)) none e) s
      s.rowRecord n

/-- A run of a posted write has been written. -/
def State.sysWritten (s : State) (n i len : Nat) (bad : Bool) (wrote : List Wrote) : State :=
  match aget s.plc.sys n with
  | none => s
  | some w => match w.spots[i]? with
    | none => s
    | some p =>
      if bad then s.sysFail n i
      else
        let w := { w with spots := w.spots.modify i fun p => { p with written := p.written + len } }
        let s := { s with plc := { s.plc with sys := aput s.plc.sys n w } }
        (verifyRuns wrote).foldl (fun s e => s.addVerify p.act p.surface p.track none (some (n, i)) e) s

/-! ## Reclaim (R52, R53) -/

/-- Live blocks of a band set: those whose newest effect lies in one of its rows. -/
def State.liveKeys (s : State) (n : Nat) : List Nat :=
  let rows := (s.plc.rows.filter fun r => r.2.set == n).map Prod.fst
  (s.plc.blocks.filter fun b => match b.2.place with | .media r _ _ => rows.contains r | _ => false).map Prod.fst

/-- The reads of a band set being reclaimed join Orbit's queue, grouped by band ring (Table 12.1). (DEDUCED, unsafe: log entry 80.) -/
def State.queueReclaim (s : State) (n : Nat) (keys : List Nat) : State :=
  let cap := fld (s.rv .orbCfg) 28 16
  let groups := keys.foldl (fun gs k => match s.blockSpot k with
    | some (ring, surface, track, sector) => joinGroup cap gs k ring surface track sector
    | none => gs) []
  groups.foldl (fun s g =>
    let pr := s.pair
    s.stamped.addPiece { kind := .reclaim, owner := 2 ^ 64 + n, items := g.items,
                         act := s.pickActuator [] g.surfaces g.track g.sector, surfaces := g.surfaces, track := g.track,
                         sector := g.sector, cls := 0, count := 0, ages := [], dueAt := none, pair := pr, head := none }) s

/-- A closed band set whose rows are all complete begins to be reclaimed: its bands are in RECLAIM. -/
def State.reclaimSet (s : State) (n : Nat) : State :=
  match aget s.plc.sets n with
  | none => s
  | some b =>
    let s := { s with plc := { s.plc with sets := aput s.plc.sets n { b with reclaiming := true } } }
    let s := (setBands b).foldl (fun s id => s.modBand id fun x => { x with state := .reclaim }) s
    s.queueReclaim n (s.liveKeys n)

/-- A mapped block does not continue its predecessor's extent although that is the block before it (R64). -/
def State.extentBreak (s : State) (key : Nat) : Bool :=
  match s.blockSpot (key - 1), s.blockSpot key with
  | some (_, u, t, x), some (_, v, w, y) => !(u == v && ((t == w && y == x + 1) || (w == t + 1 && y == 0)))
  | _, _ => false

/-- The blocks on media of the aligned 256 KiB run whose extents break most often, where one does: they are read, to be placed again in the
order of their addresses (R64). -/
def State.fragmentedRun (s : State) : List Nat :=
  let keys := (s.plc.blocks.filter fun b => (s.recSpot b.2).isSome && (aget s.chn.recovered b.1).isNone).map Prod.fst
  let broken := keys.filter s.extentBreak
  match argMin (broken.map (· / 64)) fun r => 64 - (broken.filter fun k => k / 64 == r).length with
  | none => []
  | some r => keys.filter fun k => k / 64 == r

/-- Free bands stand above the high mark on every populated surface. -/
def State.bandsHigh (s : State) : Bool :=
  (List.range s.surfaces).all fun u => decide (s.sec.pers.highMark * s.surfaceBands u < 100 * s.freeBands u)

/-- Reclaiming starts below the low mark and stops above the high mark (R52); while it goes on, the closed band set with the fewest
live blocks is taken. With the map 90 % full, fragmented runs are rewritten into longer extents, one after the other (R64). -/
def State.reclaimCheck (s : State) : State :=
  let s := if s.bandsLow then { s with plc := { s.plc with reclaim := true } }
    else if s.bandsHigh then { s with plc := { s.plc with reclaim := false } } else s
  let s := if s.bandsLow then s.wakeEvent 6 else s
  let s := s.evcLevel 13
  let s := if !s.mapNearFull || !s.plc.rewriting.isEmpty then s
    else ({ s with plc := { s.plc with rewriting := s.fragmentedRun } }).queueReclaim (2 ^ 64) s.fragmentedRun
  if !s.plc.reclaim || s.plc.sets.any fun e => e.2.reclaiming then s
  else
    let can := (s.plc.sets.filter fun e => !e.2.isOpen && s.plc.rows.all fun r => r.2.set != e.1 || r.2.complete).map Prod.fst
    match argMin can fun n => (s.liveKeys n).length with
    | none => s
    | some n => s.reclaimSet n

/-- A read is bound to a sector of a band set and has not obtained it. -/
def State.setBound (s : State) (n : Nat) : Bool :=
  s.eqt.cmds.any fun c => c.2.bound.any fun b => b.onMedia && !b.got && !b.lost &&
    (match b.spot with | some (r, _, _) => (match aget s.plc.rows r with | some x => x.set == n | none => false) | none => false)

/-- BAND_SET_FREE: a reclaimed band set whose live blocks have all been moved, and that no read is bound to, returns to FREE, a band with
too many failures to RETIRED (R53, R51); a raise of USER_CAPACITY that waited for it takes effect (R41). -/
def State.bandSetFree (s : State) (n : Nat) : State :=
  match aget s.plc.sets n with
  | none => s
  | some b =>
    if !b.reclaiming || !(s.liveKeys n).isEmpty || (s.plc.rows.any fun r => r.2.set == n && !r.2.complete) || s.setBound n then s
    else
      let s := (setBands b).foldl (fun s id => s.modBand id fun x =>
        { x with state := if s.sec.pers.failBand ≤ x.failures then .retired else .free, writePos := 0, set := 0 }) s
      let s := { s with plc := { s.plc with sets := adel s.plc.sets n, rows := afilter s.plc.rows fun _ r => r.set != n } }
      let s := s.dropPieces .reclaim (2 ^ 64 + n)
      let s := if b.earlier && !(s.plc.sets.any fun e => e.2.earlier) then
          { s with plc := { s.plc with userCap := max s.plc.userCap (capacityOf s.sec.pers s.effW s.effP) } } else s
      s.reclaimCheck

/-! ## Completion of rows and records -/

/-- A journal record number names a record still to come on media. -/
def State.recPending (s : State) (j : Nat) : Bool :=
  match aget s.plc.journal j with | some r => !r.onMedia | none => false

/-- An eclipse generation whose blocks are all placed and whose deltas are all on media is released (R74). -/
def State.releaseGenerations (s : State) : State :=
  if !s.plc.rebuilt ∨ s.pwr.umbra then s
  else
    let owed (g : Generation) : Bool :=
      (g.blocks.any fun b => s.plc.landing.any fun x => x.key == b.key && x.pair == b.pair) ||
      g.deltas.any fun d => s.plc.journal.any fun e => e.2.pair == d.pair && e.2.effect == d.effect && !e.2.onMedia
    { s with plc := { s.plc with generations := afilter s.plc.generations fun _ g => owed g } }

/-- A block of a row need not be recorded: its sector failed, or its landing buffer is gone or dead, or a newer copy holds it. -/
def State.notOwed (s : State) (n : Nat) (r : Row) (e : Nat × RowBlock) : Bool :=
  r.recorded.contains e.1 ||
  (match r.members[e.1 / 64]? with | some m => m.failed.contains (e.1 % 64) | none => true) ||
  (if r.copies then (match aget s.plc.blocks e.2.key with | some b => b.pair != e.2.pair | none => true)
   else !s.plc.landing.any fun b => b.key == e.2.key && b.pair == e.2.pair && b.row == some n && !b.dead)

/-- ROW_COMPLETE: a row whose members are all on media, whose journal records are on media and whose verifies have passed releases its
landing buffers (R59). -/
def State.rowComplete (s : State) (n : Nat) : State :=
  match aget s.plc.rows n with
  | none => s
  | some r =>
    if r.complete ∨ r.jrn.isNone ∨ r.verifying ≠ 0 ∨ r.recs.any s.recPending ∨ !(r.vals.all fun e => s.notOwed n r e) then s
    else
      let good (i : Nat) : Bool := r.recorded.contains i &&
        (match r.members[i / 64]? with | some m => !m.failed.contains (i % 64) | none => false)
      let s := s.modRow n fun r => { r with complete := true }
      let blocks := (r.vals.filter fun e => good e.1).foldl (fun (m : Assoc BlockRec) e =>
        amod m e.2.key fun b => if b.pair = e.2.pair then { b with place := .media n (e.1 / 64) (e.1 % 64) } else b) s.plc.blocks
      let s := { s with plc := { s.plc with blocks := blocks, landing := s.plc.landing.filter fun b => b.row != some n } }
      let s := (((s.checkHold).releaseGenerations).softSweep).reclaimCheck
      (s.evcLevel 2).abortPoint 2

/-- The command whose completion waits for a journal record ends, for NS_CREATE (R385). -/
def State.recordOwner (s : State) (r : JRec) : State :=
  match r.owner with
  | none => s
  | some t => match s.cmd? t with
    | none => s
    | some c => if eOp c.entry = 0x40 ∧ c.phase = .accepted then s.endCmd t 0 0 else s

/-- Journal records on media that the newest root in force covers are released (R68). -/
def State.releaseRecords (s : State) : State :=
  let cov (p : Pair) : Bool := s.plc.roots.any fun r => r.2.covered == p || pairBefore p r.2.covered
  { s with plc := { s.plc with
      journal := afilter s.plc.journal fun _ r => !(r.onMedia && cov r.pair),
      mediaJournal := afilter s.plc.mediaJournal fun _ r => !cov r.pair } }

/-- JOURNAL_ON_MEDIA: both copies of a record are written and trailing-verified (R65). -/
def State.journalOnMedia (s : State) (n : Nat) : State :=
  match s.plc.sys.find? fun e => e.2.kind == .journal && e.2.index == n with
  | none => s
  | some (k, w) => match aget s.plc.journal n with
    | none => s
    | some r =>
      if (liveSpots w).length = 2 ∧ (liveSpots w).all fun p => decide (w.count ≤ p.verified) then
        let r := { r with onMedia := true, spots := (liveSpots w).map fun p => (p.surface, p.track, p.sector) }
        let s := { s with plc := { s.plc with
          journal := aput s.plc.journal n r, mediaJournal := aput s.plc.mediaJournal n r, sys := adel s.plc.sys k } }
        (((s.recordOwner r).releaseRecords).checkHold).releaseGenerations
      else s

/-! ## Trailing verify (R156-R159) -/

/-- Where the verified copies of a root lie. -/
def rootSpots (w : SysWork) : List (Nat × Nat × Nat) :=
  ((liveSpots w).filter fun p => decide (0 < p.verified)).map fun p => (p.surface, p.track, p.sector)

/-- A run has been verified: the sectors at the offsets in `bad` are failed writes. -/
def State.verifyEnd (s : State) (id : Nat) (v : VerifyItem) (bad : List Nat) : State :=
  let s := { s with wrp := { s.wrp with verifies := adel s.wrp.verifies id } }
  let s := s.dropPieces .verify id
  if !v.ecl.isEmpty then s.eclVerified v bad
  else match v.row, v.sys with
  | some (n, k), _ => match aget s.plc.rows n with
    | none => s
    | some r => match r.members[k]? with
      | none => s
      | some m =>
        let s := s.modRow n fun r => { r with verifying := r.verifying - 1 }
        bad.foldl (fun s i => s.sectorFailed n k (v.sector - m.sector + i)) s
  | none, some (n, i) =>
    if !bad.isEmpty then s.sysFail n i
    else match aget s.plc.sys n with
      | none => s
      | some w =>
        let w := { w with spots := w.spots.modify i fun p => { p with verified := p.verified + v.count } }
        let s := if w.kind = .root ∧ w.index ≠ s.plc.ckptSlot then
            { s with plc := { s.plc with roots := amod s.plc.roots w.index fun r =>
              { r with copies := (rootSpots w).length, spots := rootSpots w } } }
          else s
        let whole := (liveSpots w).all fun p => decide (w.count ≤ p.verified)
        if whole ∧ (w.kind = .page ∨ (w.kind = .root ∧ w.index ≠ s.plc.ckptSlot)) then
          { s with plc := { s.plc with sys := adel s.plc.sys n } }
        else { s with plc := { s.plc with sys := aput s.plc.sys n w } }
  | none, none => s

/-- VERIFY_DONE: the verify read of a run is complete: every sector whose decode did not converge, or with TV_COMPARE whose payload was not the
source's, is a failed write (R159). -/
def State.verifyDone (s : State) (id : Nat) : State :=
  match aget s.wrp.verifies id with
  | none => s
  | some v => if v.read ∧ s.now ≤ v.deadline then s.verifyEnd id v ((List.range v.count).filter fun i => v.bad.contains i) else s

/-- VERIFY_WINDOW_EXPIRE: a run is not verified within TV_WINDOW revolutions, so its sectors are failed writes (R157, R159); of a save,
it is a run that the trailing actuator could not reach (R73). -/
def State.verifyExpire (s : State) (id : Nat) : State :=
  match aget s.wrp.verifies id with
  | none => s
  | some v => (s.advanceTo v.deadline).verifyEnd id v (if v.ecl.isEmpty then List.range v.count else v.bad)

/-! ## Checkpoints (R66-R68) and the map (R69) -/

/-- A block put into a map, unless the map holds a later effect on it (R384, R542). -/
def mapPut (m : Assoc BlockRec) (key : Nat) (b : BlockRec) : Assoc BlockRec :=
  match aget m key with
  | some o => if pairBefore b.pair o.pair then m else aput m key b
  | none => aput m key b

/-- The effect of a journal record on a map. -/
def State.mapApply (s : State) (m : Assoc BlockRec) (r : JRec) : Assoc BlockRec :=
  let cut (lo hi : Nat) : Assoc BlockRec := afilter m fun k b => !(decide (lo ≤ k) && decide (k < hi) && pairBefore b.pair r.pair)
  match r.effect with
  | .row _ spots => spots.foldl (fun m e => match aget s.plc.rows e.1 with
      | none => m
      | some row => match aget row.vals e.2 with
        | none => m
        | some b => mapPut m b.key { val := b.val, pair := b.pair, place := .media e.1 (e.2 / 64) (e.2 % 64) }) m
  | .dealloc n lba nblk => cut (blockKey n lba) (blockKey n (lba + nblk))
  | .zoneReset n z => cut (blockKey n (z * zoneBlocks)) (blockKey n ((z + 1) * zoneBlocks))
  | .zoneFinish _ _ => m
  | .nsCreate _ _ _ => m
  | .nsDelete n => afilter m fun k _ => k / 2 ^ 64 != n

/-- The ranges of block keys that journal records take away, with the pair of each. -/
def cutsOf (l : List JRec) : List (Nat × Nat × Pair) :=
  l.filterMap fun r => match r.effect with
    | .dealloc n lba nblk => some (blockKey n lba, blockKey n (lba + nblk), r.pair)
    | .zoneReset n z => some (blockKey n (z * zoneBlocks), blockKey n ((z + 1) * zoneBlocks), r.pair)
    | .nsDelete n => some (blockKey n 0, blockKey (n + 1) 0, r.pair)
    | _ => none

/-- A cut takes an effect on a block away: it was accepted after it. -/
def cutHits (c : Nat × Nat × Pair) (key : Nat) (p : Pair) : Bool := decide (c.1 ≤ key) && decide (key < c.2.1) && pairBefore p c.2.2

/-- A list put into an order that `before` gives, by insertion. -/
def insertBy {α : Type} (before : α → α → Bool) (x : α) : List α → List α
  | [] => [x]
  | y :: ys => if before x y then x :: y :: ys else y :: insertBy before x ys

/-- A list sorted by insertion, equals keeping their order. -/
def sortBy {α : Type} (before : α → α → Bool) (l : List α) : List α := l.reverse.foldl (fun a x => insertBy (fun p q => !before q p) x a) []

/-- Journal records in time-pair order (R69). -/
def inOrder (l : List JRec) : List JRec := sortBy (fun a b => pairBefore a.pair b.pair) l

/-- The newest root in force, by time pair. -/
def newestRoot (l : Assoc Root) : Option Root :=
  l.foldl (fun a e => match a with
    | none => some e.2
    | some r => if pairBefore r.covered e.2.covered then some e.2 else some r) none

/-- The pair up to which the newest root covers the journal. -/
def State.coveredPair (s : State) : Pair := match newestRoot s.plc.roots with | some r => r.covered | none => { time := 0, seq := 0 }

/-- Bytes of the journal not covered by a checkpoint (R66). -/
def State.uncovered (s : State) : Nat :=
  (s.plc.journal.map fun e => if newestRoot s.plc.roots = none ∨ pairBefore s.coveredPair e.2.pair then e.2.size else 0).sum

/-- The map pages in which two maps differ, of which a checkpoint writes those of the newer. -/
def State.changedPages (s : State) (old new : Assoc BlockRec) : List Nat :=
  let keys := (old.filter fun e => aget new e.1 != some e.2).map Prod.fst ++ (new.filter fun e => aget old e.1 != some e.2).map Prod.fst
  (keys.map s.pageOf).eraseDups

/-- CHECKPOINT_BEGIN (R66): the uncovered journal has reached JRN_MARK, or INTERVAL_S has passed, or a power-point entry to 0x45 needs a
checkpoint of every record (Table 15.4). The map it writes is that of its beginning. (DEDUCED, safe: log entry 87.) -/
def State.checkpointBegin (s : State) : State :=
  let cfg := s.rv .plcCkptCfg
  let mark := decide (fld cfg 15 8 * 2 ^ 24 ≤ s.uncovered)
  let entry : Bool := match s.pwr.change with | some (.entering 0x45 _ _ 2 _) => true | _ => false
  if !s.plc.rebuilt ∨ s.plc.ckpt.isSome ∨ s.pwr.umbra ∨ s.plc.sys.any fun e => e.2.kind == .root && e.2.index == s.plc.ckptSlot then s
  else
    let s := if mark || entry then s else s.advanceTo (s.plc.ckptLast + 1000000000 * fld cfg 23 16)
    let all := inOrder (avals s.plc.journal)
    let base : Assoc BlockRec := match newestRoot s.plc.roots with | some r => r.blocks | none => []
    let cov := match all.getLast? with | some r => r.pair | none => s.coveredPair
    let blocks := all.foldl (fun m r => s.mapApply m r) base
    let owed (c : Nat × Nat × Pair) : Bool := (s.plc.landing.any fun b => cutHits c b.key b.pair) ||
      s.plc.generations.any fun g => g.2.blocks.any fun b => cutHits c b.key b.pair
    let cuts := (match newestRoot s.plc.roots with | some r => r.cuts | none => []) ++ cutsOf all
    let root : Root := { covered := cov, cuts := cuts.filter owed, blocks := blocks, spaces := s.plc.spaces, copies := 0, spots := [] }
    { s with plc := { s.plc with ckpt := some root, ckptLast := s.now, pagesDue := s.changedPages base blocks } }

/-- CHECKPOINT_IN_FORCE: one copy of the root is verified (R67); records that it covers are released (R68). The other copies are still
written and verified. -/
def State.checkpointInForce (s : State) : State :=
  match s.plc.ckpt, s.plc.sys.find? fun e => e.2.kind == .root && e.2.index == s.plc.ckptSlot with
  | some root, some (k, w) =>
    if (rootSpots w).isEmpty then s
    else
      let whole := (liveSpots w).all fun p => decide (0 < p.verified)
      let s := { s with plc := { s.plc with
        roots := aput s.plc.roots s.plc.ckptSlot { root with copies := (rootSpots w).length, spots := rootSpots w },
        ckptSlot := 1 - s.plc.ckptSlot, ckpt := none, sys := if whole then adel s.plc.sys k else s.plc.sys } }
      (s.releaseRecords).checkHold
  | _, _ => s

/-! ## Copies lost before and after acceptance (R26, R58) -/

/-- The stacks that may take a third copy. -/
def State.thirdStack (s : State) (k a b : Nat) : Bool := s.stacks.contains k && k != a && k != b

/-- LANDING_RECOPY_DONE: a copy into a third stack completes, of the landing buffer at a place in acceptance order (`kind` 0), of a
journal record (1), of the data of a WRITE not yet accepted (2, R58), or of the completion memory of a lineage (3, R374); or a page of the
extent map has been loaded again from checkpoint and journal (4, R26). -/
def State.recopyDone (s : State) (kind n stack : Nat) : State :=
  let s := match kind with
    | 0 => match s.plc.landing[n]? with
      | some b => if b.missing ∧ s.thirdStack stack b.stackA b.stackB then
          { s with plc := { s.plc with landing := s.plc.landing.modify n fun b => { b with stackB := stack, missing := false } } }
        else s
      | none => s
    | 1 => match aget s.plc.journal n with
      | some r => if r.missing ∧ s.thirdStack stack r.stackA r.stackB then
          { s with plc := { s.plc with journal := aput s.plc.journal n { r with stackB := stack, missing := false } } }
        else s
      | none => s
    | 2 => match s.cmd? n with
      | some c => match c.resv with
        | some r => if c.recopy ≠ 0 ∧ s.thirdStack stack r.stackA r.stackB then
            s.modCmd n fun c => if c.recopy.testBit 0 then { c with recopy := c.recopy - 1, resv := some { r with stackA := stack } }
              else { c with recopy := 0, resv := some { r with stackB := stack } }
          else s
        | none => s
      | none => s
    | 3 => s.modLin n fun l => { l with memory := l.memory.map fun (r : CompRecord) =>
        if r.stackA = r.stackB ∧ s.thirdStack stack r.stackA r.stackB then { r with stackB := stack } else r }
    | _ => { s with plc := { s.plc with
        mapBad := s.plc.mapBad.filter (· != n), mapLost := amapv s.plc.mapLost fun _ l => if l.contains n then l else n :: l } }
  (s.redundancyCheck).evcLevel 3

end Sys2Proof.Machine
end

