-- ==== Sys2Proof/Machine/Orbit.lean ====
section
/-! DEFINITION. Orbit's turns (chapter 12): what retired work items bring, choosing the lead and its companions, the seek of a turn and
its work items. -/

namespace Sys2Proof.Machine

/-! ## What a piece's items are -/

/-- A run of sectors that one work item transfers: the items of the piece it serves, surface, track, first sector, count, KIND and
FLAGS (Table 5.6). (DESIGN CHOICE, unsafe: log entry 121.) -/
structure Job where
  items : List Nat
  surface : Nat
  track : Nat
  first : Nat
  count : Nat
  kind : Nat
  flags : Nat
  deriving DecidableEq, Repr

/-- Sectors per head and turn (R426). -/
def State.turnBlks (s : State) : Nat := fld (s.rv .orbCfg) 28 16

/-- The job of one item of a piece, or none where nothing is left of it to do. -/
def State.jobOf (s : State) (p : Piece) (i : Nat) : Option Job :=
  let one (u t x n k f : Nat) : Option Job :=
    some { items := [i], surface := u, track := t, first := x, count := min n s.turnBlks, kind := k, flags := f }
  match p.kind with
  | .host => match s.cmd? p.owner with
    | none => none
    | some c => match c.bound[i]? with
      | none => none
      | some b => if b.got || b.lost then none
        else (s.boundSpot b).bind fun e => one e.2.1 e.2.2.1 e.2.2.2 1 1 0
  | .ladder => match aget s.chn.ladders p.owner with
    | none => none
    | some _ => one (p.surfaces.headD 0) p.track p.sector 1 (if i < 16 then 1 else 5) (if i < 16 then 2 else 0)
  | .journal => match aget s.plc.sys p.owner with
    | none => none
    | some w => (w.spots[i]?).bind fun e =>
      if w.count ≤ e.written ∨ e.failed then none else one e.surface e.track (e.sector + e.written) (w.count - e.written) 2 1
  | .verify => match aget s.wrp.verifies p.owner with
    | none => none
    | some v => one v.surface v.track v.sector v.count 3 0
  | .placement | .reclaim =>
    if 2 ^ 64 ≤ p.owner then (s.blockSpot i).bind fun e => one e.2.1 e.2.2.1 e.2.2.2 1 1 0
    else match aget s.plc.rows p.owner with
      | none => none
      | some r => (r.members[i]?).bind fun m =>
        if m.onMedia then none
        else one m.surface m.track (m.sector + m.written) (r.c - m.written) 2 (b2n (bit (s.rv .plcStripeCfg) 20))

/-- Another actuator writes a track, or is about to (R127). -/
def State.trackBusy (s : State) (a surface track : Nat) : Bool :=
  (List.range 16).any fun q => (s.seqr q).state != .failed && actOf (s.seqr q).stream != a &&
    (s.seqr q).items.any fun w => (w.kind == 2 || w.kind == 4) && w.head == surface && w.track == track

/-- A member of a row laid in a band before another is still to be written: bands are written in track order (R52). -/
def State.laidBefore (s : State) (n k : Nat) : Bool :=
  match aget s.plc.rows n with
  | none => false
  | some r => match r.members[k]? with
    | none => false
    | some m => s.plc.rows.any fun e => e.2.set == r.set && e.2.members.any fun o =>
        o.surface == m.surface && o.band == m.band && !o.onMedia && decide (o.track < m.track ∨ (o.track = m.track ∧ o.sector < m.sector))

/-- A job of a piece may be served now: a write to a track that no other actuator writes, in the order of its band (R52, R127). -/
def State.jobOpen (s : State) (p : Piece) (j : Job) : Bool :=
  if j.kind ≠ 2 then true
  else !s.trackBusy p.act j.surface j.track && (p.kind == .journal || j.items.all fun i => !s.laidBefore p.owner i)

/-- A read joins a run of consecutive sectors of its surface (R426); jobs keep the order of their first items. -/
def joinRun (cap : Nat) (j : Job) : List Job → List Job
  | [] => [j]
  | k :: rest =>
    if k.kind = 1 ∧ j.kind = 1 ∧ k.flags = 0 ∧ j.flags = 0 ∧ k.surface = j.surface ∧ k.track = j.track ∧
        j.first = k.first + k.count ∧ k.count + j.count ≤ cap then
      { k with items := k.items ++ j.items, count := k.count + j.count } :: rest
    else k :: joinRun cap j rest

/-- The jobs of a piece. -/
def State.jobs (s : State) (p : Piece) : List Job :=
  (p.items.filterMap (s.jobOf p)).foldl (fun l j => joinRun s.turnBlks j l) []

/-- One job for each surface, of those that may be served, at most as many as heads can be selected; the rest wait. -/
def pickJobs (ok : Job → Bool) (n : Nat) (used : List Nat) : List Job → List Job × List Job
  | [] => ([], [])
  | j :: rest =>
    if ok j ∧ used.length < n ∧ !used.contains j.surface then
      let (a, b) := pickJobs ok n (j.surface :: used) rest
      (j :: a, b)
    else
      let (a, b) := pickJobs ok n used rest
      (a, j :: b)

/-- A piece made of jobs that are left over, with the count it had; one whose actuator or head is lost goes to another (R28, R75, R76). -/
def State.requeue (s : State) (p : Piece) (js : List Job) : State :=
  match js with
  | [] => s
  | j :: _ =>
    let p := { p with items := js.flatMap Job.items, surfaces := (js.map Job.surface).eraseDups, track := j.track, sector := j.first }
    { s with orb := { s.orb with pieces := aput s.orb.pieces s.orb.nextPiece (s.rehome p), nextPiece := s.orb.nextPiece + 1 } }

/-! ## Retired work items (Table 5.7) -/

/-- The piece that a work item was posted for. -/
def State.servedPiece (s : State) (d : WorkDone) : Option Piece := aget (s.turn (actOf d.stream)).served d.item.tag

/-- A write ends: sectors beyond DONE_CNT, and those R140 marks, are failed writes; a run none of whose sectors was reached is
failed as a whole. -/
def State.writeEnded (s : State) (d : WorkDone) (p : Piece) : State :=
  let w := d.item
  let bad := (List.range w.count).filter fun k => decide (d.count ≤ k) || d.failed.contains (w.track, w.first + k)
  match p.kind with
  | .journal => match aget s.plc.sys p.owner with
    | none => s
    | some y => match p.items.find? fun i => (match y.spots[i]? with | some e => e.surface == w.head | none => false) with
      | none => s
      | some i => s.sysWritten p.owner i w.count (!bad.isEmpty) d.wrote
  | _ => match aget s.plc.rows p.owner with
    | none => s
    | some r => match p.items.find? fun i => (match r.members[i]? with | some m => m.surface == w.head | none => false) with
      | none => s
      | some i => match r.members[i]? with
        | none => s
        | some m => s.memberWritten p.owner i w.count (bad.map fun k => w.first + k - m.sector) d.wrote (w.flags.testBit 0)

/-- A read ends: what was not reached waits again, due at once for a host piece, whose command has been served (R431). -/
def State.readEnded (s : State) (d : WorkDone) (p : Piece) : State :=
  let w := d.item
  let s := if p.kind = .verify ∧ w.count ≤ d.count then
      { s with wrp := { s.wrp with verifies := amod s.wrp.verifies p.owner fun v => { v with read := true } } }
    else s
  let left := (p.items.filterMap (s.jobOf p)).filter fun j =>
    j.surface == w.head && j.track == w.track && decide (w.first ≤ j.first) && decide (j.first < w.first + w.count) &&
    decide (w.first + d.count < j.first + j.count)
  let p := if p.kind = .host then { p with dueAt := some (p.dueAt.getD (s.turn (actOf d.stream)).number) } else p
  if d.count < w.count then s.requeue p (left.foldl (fun l j => joinRun s.turnBlks j l) []) else s

/-- What every retired work item brings to its poster: SQP0's save during umbra, and otherwise Orbit. -/
def State.settleWork (s : State) : State :=
  let ds := s.seq.done
  let s := ds.foldl (fun s d => if s.pwr.umbra then s.eclWritten d else match s.servedPiece d with
    | none => s
    | some p => if d.item.kind = 2 then s.writeEnded d p else s.readEnded d p) { s with seq := { s.seq with done := [] } }
  if s.pwr.umbra then s.saveStep else s

/-- The parts of a row or posted write that a full turn left for another. -/
def State.requeueParts (s : State) (a : Nat) : State :=
  (avals (s.turn a).served).foldl (fun s p =>
    if (p.kind = .placement ∨ p.kind = .reclaim ∨ p.kind = .journal) ∧ p.owner < 2 ^ 64 then
      s.requeue p ((s.jobs p).filter fun j => !(s.orb.pieces.any fun q => q.2.kind == p.kind && q.2.owner == p.owner &&
        j.items.any fun i => q.2.items.contains i))
    else s) s

/-! ## Choosing (R434-R437) -/

/-- The entry participant being stopped, 0 where no entry is in progress. -/
def State.entryPart (s : State) : Nat := match s.pwr.change with | some (.entering _ _ _ n _) => n | _ => 0

/-- Orbit may choose a lead for an actuator (R437, Table 15.6, Table 15.4): it follows, no umbra or PN3, no activation step 1 to 5, no
entry past participant 2. (DEDUCED, unsafe: log entry 118.) -/
def State.mayChoose (s : State) (a : Nat) : Bool :=
  s.sec.booted && s.plc.rebuilt && decide (s.stageCode < 3) && decide (s.entryPart ≤ 2) && s.pwr.point / 16 ≤ 1 &&
  (s.act a).state == .following && (match s.eqt.activation with | some x => x.step == 0 | none => true)

/-- Pieces that may be chosen as things stand: no reclaim in PN1 or deeper; while participant 2 drains, drive-managed writes and their
verifies only. -/
def State.mayServe (s : State) (p : Piece) : Bool :=
  !(p.kind == .reclaim && decide (1 ≤ s.stageCode)) &&
  !(s.entryPart == 2 && (p.kind == .host || p.kind == .reclaim)) &&
  (s.jobs p).any (s.jobOpen p)

/-- The length of a full turn in ns (R427). -/
def State.fullTurn (s : State) : Nat :=
  let seek := 1000 * ((s.sec.pers.acts.map (·.tSeekMax)).max?).getD 0
  let spt := leastOf (((s.sec.pers.zones.take s.surfaces).flatten).map (·.spt))
  seek + s.tRev + s.turnBlks * s.tRev / max 1 spt

/-- Whether a piece is due now (R430, R433, R436). -/
def State.dueNow (s : State) (p : Piece) : Bool :=
  match p.kind with
  | .verify => match aget s.wrp.verifies p.owner with
    | some v => decide (v.deadline < s.now + s.fullTurn)
    | none => false
  | _ => decide (s.pieceLimit p ≤ p.count)

/-- The turn boundary at which a piece became due, if it is due: the present one, where none is recorded.
(DEDUCED, unsafe: log entry 120.) -/
def State.dueTurn (s : State) (p : Piece) : Option Nat :=
  match p.dueAt with
  | some d => some d
  | none => if s.dueNow p then some (s.turn p.act).number else none

/-- The score of a piece (Table 12.2). -/
def State.score (s : State) (p : Piece) : Nat := s.estimate p.act (p.surfaces.headD 0) p.track p.sector + s.penalty (s.pieceClass p)

/-- Whether a piece is chosen before another (Table 12.2). -/
def State.chosenBefore (s : State) (p q : Piece) : Bool :=
  match s.dueTurn p, s.dueTurn q with
  | some m, some n =>
    if m ≠ n then decide (m < n)
    else if (p.kind == .ladder) != (q.kind == .ladder) then p.kind == .ladder
    else pairBefore p.pair q.pair
  | some _, none => true
  | none, some _ => false
  | none, none => if s.score p ≠ s.score q then decide (s.score p < s.score q) else pairBefore p.pair q.pair

/-- The pieces of an actuator in the order of choice. -/
def State.choiceOrder (s : State) (a : Nat) : List (Nat × Piece) :=
  sortBy (fun p q => s.chosenBefore p.2 q.2) (s.orb.pieces.filter fun e => e.2.act == a && s.mayServe e.2)

/-- The pieces that may lead: while admission is held, reclaim is taken only as a companion (R436). -/
def State.mayLead (s : State) (p : Piece) : Bool := !(p.kind == .reclaim && s.admissionHeld)

/-- A companion's target lies within HMA_SPAN of the lead's (R425, R218). -/
def State.inSpan (s : State) (a : Nat) (lead p : Piece) : Bool :=
  let at_ (x : Piece) : Int := s.refUnits (18 * a + x.surfaces.headD 0) x.track
  let span := match s.sec.pers.acts[a]? with | some y => y.hmaSpan | none => 0
  decide ((at_ p - at_ lead).natAbs ≤ span * 1024)

/-- The streams of an actuator whose sequencer can take work. -/
def State.workStreams (s : State) (a : Nat) : List Nat := (streamsOf a).filter fun st => (s.seqOf st).isSome

/-- The streams for jobs: a stream that has a surface's head already keeps it, the others take the streams left in order. -/
def State.assign (s : State) (streams : List Nat) (js : List (Nat × Job)) : List (Nat × Nat × Job) :=
  let has (st : Nat) (j : Job) : Bool := (s.stream st).readers != 0 && (s.stream st).head == j.surface
  let kept := js.filterMap fun j => (streams.find? fun st => has st j.2).map fun st => (st, j)
  let free := streams.filter fun st => !kept.any fun e => e.1 == st
  kept ++ free.zip (js.filter fun j => !streams.any fun st => has st j.2)

/-- What a turn serves: each piece with its number and the jobs taken, with the jobs left. The first is the lead. -/
def State.gather (s : State) (a n : Nat) (lead : Piece) : List Nat → List (Nat × Piece) → List (Nat × Piece × List Job × List Job)
  | _, [] => []
  | used, (i, p) :: rest =>
    let surfaces := (s.jobs p).map Job.surface
    let isLead := decide (p = lead)
    if isLead || (s.inSpan a lead p && surfaces.all (fun u => !used.contains u) && decide ((used ++ surfaces).eraseDups.length ≤ n)) then
      let (take, left) := pickJobs (s.jobOpen p) n used (s.jobs p)
      (i, p, take, left) :: s.gather a n lead (used ++ take.map Job.surface) rest
    else s.gather a n lead used rest

/-! ## A turn begins -/

/-- Pieces not served are passed over once more; one that reaches its limit is due from this boundary (R430). -/
def State.ageOthers (s : State) (a : Nat) (served : List Nat) : State :=
  let n := (s.turn a).number
  { s with orb := { s.orb with pieces := s.orb.pieces.map fun e =>
    if e.2.act = a ∧ !served.contains e.1 then
      let p := { e.2 with count := e.2.count + 1 }
      (e.1, { p with dueAt := match p.dueAt with | some d => some d | none => if s.dueNow p then some n else none })
    else e } }

/-- Further pieces of a command one of whose pieces is served on the actuator are due (R431). -/
def State.dueSiblings (s : State) (a tag : Nat) : State :=
  let n := (s.turn a).number
  { s with orb := { s.orb with pieces := amapv s.orb.pieces fun _ p =>
    if p.act = a ∧ p.kind = .host ∧ p.owner = tag ∧ p.dueAt.isNone then { p with dueAt := some n } else p } }

/-- A piece is served: it leaves the queue, its leftovers stay, a count above its limit is counted (R432), and siblings become due. -/
def State.servePiece (s : State) (a i : Nat) (p : Piece) (left : List Job) : State :=
  let overAt := decide (s.pieceLimit p < p.count) && p.kind != .verify
  let s := s.modTurn a fun t => { t with served := aput t.served i p, overaged := if overAt then satInc t.overaged 0xFFFF else t.overaged }
  let s := ({ s with orb := { s.orb with pieces := adel s.orb.pieces i } }).requeue p left
  if p.kind = .host then s.dueSiblings a p.owner else s

/-- The payload, in the clear, of a sector of a write's piece. -/
def State.jobPayload (s : State) (p : Piece) (j : Job) (k : Nat) : BitVec 33792 :=
  let i := j.items.headD 0
  if p.kind = .journal then
    (match aget s.plc.sys p.owner with
     | some w => (match w.spots[i]? with | some e => sysPayload p.owner w i (j.first + k - e.sector) | none => 0)
     | none => 0)
  else match aget s.plc.rows p.owner with
    | some r => (match r.members[i]? with | some m => s.openPayload (s.rowPayload p.owner r i (j.first + k - m.sector)) | none => 0)
    | none => 0

/-- The work item of a job is posted to a stream's sequencer; a write's source slots are filled first. -/
def State.postJob (s : State) (st tag : Nat) (p : Piece) (j : Job) : State :=
  let s := if j.kind = 2 then (List.range j.count).foldl (fun s k => (s.setSlot st k .source).setPayload st k (s.jobPayload p j k)) s else s
  match s.seqOf st with
  | none => s
  | some q => s.postItem q { kind := j.kind, head := j.surface, flags := j.flags, track := j.track, first := j.first, count := j.count,
                             slot := 0, tag := tag }

/-- The seek of a turn (R424, R425, R440): the streams are aimed, a long seek beyond the budget is planned quiet, and the arm goes. -/
def State.seekTurn (s : State) (a : Nat) (lead : Piece) (aims : List (Nat × Job)) : State :=
  let s := (streamsOf a).foldl (fun s st => if aims.any fun e => e.1 == st then s
    else s.setRv (.sceTgt st) (s.rv (.sceTgt st) &&& 0x00FFFFFF#32)) s
  let s := aims.foldl (fun s e => s.aimStream e.1 e.2.surface e.2.track) s
  let long : Bool := match s.targetRef a with
    | some t => decide (fld (s.rv .orbSeekCfg) 23 0 * 2 ^ 42 < (t - (s.act a).xRef).natAbs)
    | none => false
  let quiet := long && !s.budgetLeft a
  let s := s.modTurn a fun t => { t with
    target := lead.track,
    quiet := if quiet then satInc t.quiet 255 else t.quiet,
    longSeeks := if long && !quiet then s.now :: t.longSeeks.filter (fun x => decide (s.now < x + s.tRev)) else t.longSeeks }
  s.go a quiet

/-- A turn begins on an actuator where a lead can be chosen. (DESIGN CHOICE, unsafe: log entry 119.) -/
def State.beginTurn (s : State) (a : Nat) : State :=
  if !s.mayChoose a then s
  else
    let order := s.choiceOrder a
    let streams := s.workStreams a
    match order.find? fun e => s.mayLead e.2 with
    | none => s
    | some (i, lead) =>
      let all := (s.gather a streams.length lead [] ((i, lead) :: order.filter fun e => e.1 != i)).take 4
      let aims := s.assign streams (all.flatMap fun e => e.2.2.1.map fun j => (e.1, j))
      if aims.isEmpty then s
      else
        let s := s.modTurn a fun t => { t with number := t.number + 1, busy := true, served := [] }
        let s := s.ageOthers a (all.map (·.1))
        let s := all.foldl (fun s e => s.servePiece a e.1 e.2.1 e.2.2.2) s
        let s := s.seekTurn a lead (aims.map fun e => (e.1, e.2.2))
        aims.foldl (fun s e => match all.find? fun x => x.1 == e.2.1 with
          | some x => s.postJob e.1 e.2.1 x.2.1 e.2.2
          | none => s) s

/-! ## TURN_END -/

/-- No stream of an actuator holds work. -/
def State.turnDone (s : State) (a : Nat) : Bool :=
  (streamsOf a).all fun st => match s.seqOf st with
    | none => true
    | some q => (s.seqr q).items.isEmpty

/-- A ladder re-read that falls to a head of the present turn is added to it (R428): the piece, with its stream. -/
def State.extension (s : State) (a : Nat) : Option (Nat × Nat × Piece) :=
  s.orb.pieces.findSome? fun e =>
    if e.2.kind = .ladder ∧ e.2.act = a then
      match e.2.head with
      | none => none
      | some h => ((streamsOf a).find? fun st => (s.stream st).readers != 0 && headOf st (s.stream st) == h &&
          fld (s.rv (.sceTgt st)) 23 0 == e.2.track && (s.seqOf st).isSome).map fun st => (st, e.1, e.2)
    else none

/-- TURN_END: what the turn's transfers brought is settled; a re-read on the same head extends the turn; otherwise the front forms the
rows planned, SQP1 posts its writes, and Orbit begins the next turn (R424, R434). In PN3 an actuator that has ended its turn goes to its
eclipse ring (Table 15.6). -/
def State.turnEnd (s : State) (a : Nat) (rows : List RowPlan) (posts : List SysPlan) : State :=
  if 4 ≤ a ∨ s.pwr.umbra then s
  else
    let s := s.settleWork
    if (s.turn a).busy && !s.turnDone a then s
    else match (if (s.turn a).busy then s.extension a else none) with
      | some (st, i, p) => ((s.jobs p).take 1).foldl (fun s j => (s.servePiece a i p []).postJob st i p j) s
      | none =>
        let s := (s.requeueParts a).modTurn a fun t => { t with busy := false, served := [] }
        let s := s.reclaimCheck
        let s := if s.plc.rebuilt && decide (s.stageCode < 3) then posts.foldl State.postSys (rows.foldl State.formRow s) else s
        let s := s.beginTurn a
        if 3 ≤ s.stageCode ∧ !(s.turn a).busy then s.ringSeek a else s

end Sys2Proof.Machine
end

