-- ==== Sys2Proof/Machine/Boot.lean ====
section
/-! DEFINITION. From reset to the first command (chapters 2, 15, 18): the cold boot, the map rebuild and the replay of eclipse
generations, the boot flash in RECOVERY, and the JTAG port. -/

namespace Sys2Proof.Machine

/-! ## Cold boot (Table 18.8, R468, R471, R585, R606-R608) -/

/-- What a cold power-on finds on media: bands, rows whose members are all there, the journal, the roots and the eclipse generations;
the order of zone writes. Everything that HBM held is gone (R69, R372). -/
def mediaOnly (p : Plc) : Plc :=
  { plcReset with
    zoneClock := p.zoneClock, bands := p.bands, sets := p.sets, rows := afilter p.rows fun _ r => r.jrn.isSome,
    nextRow := p.nextRow, nextJrn := p.nextJrn, mediaJournal := p.mediaJournal, roots := p.roots, ckptSlot := p.ckptSlot,
    generations := p.generations, genNo := p.genNo }

/-- The state at step 1 of Table 18.8: every block but the WAKE domain at reset; media, flash and fuses as they are. -/
def State.coldState (s : State) : State :=
  { State.reset with
    now := s.now, free := s.free, out := s.out, pending := s.pending,
    plc := { mediaOnly s.plc with ckptLast := s.now },
    srm := { srmReset with repairs := s.srm.repairs },
    pwr := { pwrReset with pwrgood := s.pwr.pwrgood, railEn := s.pwr.railEn, lastSave := s.pwr.lastSave, sampleDue := s.now },
    sec := { secReset with fuses := s.sec.fuses, flash := s.sec.flash, keyHalves := s.sec.keyHalves },
    pin := { pinReset with straps := s.pin.straps } }

/-- Both packages of a bank pass, or the KIND and verdict of the first that fails (step 5 of Table 18.8). -/
def State.bankVerdict (s : State) (b : Nat) : Option (Nat × Verdict) :=
  match verify s.sec.fuses 1 (s.bankView b 1) with
  | some v => some (1, v)
  | none => (verify s.sec.fuses 2 (s.bankView b 2)).map fun v => (2, v)

/-- The HBM stacks that trained and passed the checker self-test are in use (R468, R471). -/
def State.fillHbm (s : State) (trained failed : Nat) : State :=
  let good := ((below 4 fun k => trained.testBit k && !failed.testBit k).map fun k => 2 ^ k).sum
  let s := { s with hbm := { s.hbm with
    cold := good, inUse := good, failed := 15 - good, redundant := true, lapStart := s.now } }
  let s := (below 4 fun k => !trained.testBit k).foldl (fun s k => s.report (224 + k) 4 0 2) s
  (below 4 fun k => trained.testBit k && failed.testBit k).foldl (fun s k => s.report (224 + k) 6 0 2) s

/-- A bank is put into force (step 6): its personality installed, the sequencers at their entry vectors, ENABLE written, and every
actuator to be loaded once the spindle is AT_SPEED. -/
def State.startBank (s : State) (b : Nat) (fallback : Bool) : State :=
  let s := { s with sec := { s.sec with
    bank := b, fallback := fallback, booted := true, fw := readInfo (s.bankView b 1), persPkg := readInfo (s.bankView b 2),
    bootPkg := readBoot (s.bankView b 1) } }
  let s := s.install (readPers (s.bankView b 2)) false
  let s := (List.range 18).foldl (fun (s : State) q =>
    let v := s.entryVector q
    s.modSeq q fun x => { x with state := .running, pc := v }) s
  let s := { s with pwr := { s.pwr with toLoad := [0, 1, 2, 3] } }
  s.spnCtlWrite 0x80000000

/-- RECOVERY (R608): no package in force, ERR_N asserted. -/
def State.enterRecovery (s : State) : State := { s with sec := { s.sec with recovery := true } }

/-- Step 5: the active bank, or where it fails the whole other one, or RECOVERY (R607, R608). No selector names bank 0. -/
def State.bootBanks (s : State) : State :=
  let b := match s.selector with | some (_, b, _) => b | none => 0
  match s.bankVerdict b with
  | none => s.startBank b false
  | some (k, v) =>
    let s := s.verdict k 1 v
    match s.bankVerdict (1 - b) with
    | none => s.startBank (1 - b) true
    | some (k, v) => (s.verdict k 1 v).enterRecovery

/-- COLD_BOOT: with RESET_N and PWRGOOD high the device boots, once a reset request of R637 that is pending has seen the save end and every
actuator unloaded or out of use. `trained` and `checkFailed` are masks of stacks; `checker` names the other checker that fails, 0 none,
1 SRAM, 2 control-store parity, 3 fabric. With fewer than three stacks, or such a checker failed, the boot stops with a fatal fault
(R468, Table 13.5). (DESIGN CHOICE, unsafe: log entry 92; DEDUCED, unsafe: log entry 93.) -/
def State.coldBoot (s : State) (trained checkFailed checker : Nat) : State :=
  let down := (List.range 4).all fun a => (s.act a).state == .unloaded || (s.act a).state == .outOfUse
  if !s.pwr.pwrgood || !s.pwr.railEn || (s.running && !(s.pwr.resetPending && s.saveEnded && down)) then s
  else
    let s := (s.coldState).fillHbm trained checkFailed
    if s.stacks.length < 3 then s.report (224 + (((below 4 fun k => s.hbm.failed.testBit k).head?).getD 0)) 4 0 3
    else match checker with
      | 0 => s.bootBanks
      | 1 => s.report 228 2 0 3
      | 2 => s.report 18 1 0 3
      | _ => s.report 229 2 0 3

/-! ## The map rebuild (R69, R74, R541-R544, R549, R622) -/

/-- The namespaces a journal record leaves. -/
def spacesApply (m : Assoc Namespace) (r : JRec) : Assoc Namespace :=
  match r.effect with
  | .nsCreate n cap zoned =>
    aput m n { kind := if zoned then .zoned else .placed, capacity := cap, key := 0, zones := [] }
  | .nsDelete n => adel m n
  | _ => m

/-- Sectors of a TYPE that the rebuild cannot read: generation area, TYPE (0 ECLIPSE, 1 MANIFEST, 2 DELTA), index. -/
abbrev Unread := List (Nat × Nat × Nat)

/-- Whether a sector of a generation can be read: it stands on media, and it is not unreadable. -/
def sectorThere (bad : Unread) (area : Nat) (g : Generation) (w : EclSector) : Bool :=
  (g.spots.any fun e => e.what == w) && !bad.contains (match w with | .block i => (area, 0, i) | .manifest i => (area, 1, i) | .delta i => (area, 2, i))

/-- The blocks of a generation whose manifest entries can be read, each with whether its ECLIPSE sector can (Table 15.9, R543). -/
def namedBlocks (bad : Unread) (area : Nat) (g : Generation) : List (LandBlock × Bool) :=
  (g.blocks.zipIdx.filter fun e => sectorThere bad area g (.manifest (e.2 / 128))).map fun e =>
    (e.1, sectorThere bad area g (.block e.2))

/-- DELTA sectors that can be read, up to the first that cannot. (DEDUCED, unsafe: log entry 90.) -/
def deltaRun (bad : Unread) (area : Nat) (g : Generation) : Nat :=
  ((List.range (deltaSectors g.deltas)).takeWhile fun i => sectorThere bad area g (.delta i)).length

/-- The records of a generation that can be read. -/
def readDeltas (bad : Unread) (area : Nat) (g : Generation) : List JRec :=
  if deltaRun bad area g = deltaSectors g.deltas then g.deltas else recordsWithin (4096 * deltaRun bad area g) g.deltas

/-- A generation is incomplete: in its manifest or deltas, and in its ECLIPSE sectors (R543). -/
def genIncomplete (bad : Unread) (area : Nat) (g : Generation) : Bool × Bool :=
  ((List.range (ceilDiv g.blocks.length 128)).any (fun i => !sectorThere bad area g (.manifest i)) ||
     decide (deltaRun bad area g < deltaSectors g.deltas),
   (List.range g.blocks.length).any fun i => !sectorThere bad area g (.block i))

/-- What a replay puts back, in time-pair order (R74). -/
inductive ReplayItem where
  | block (b : LandBlock) (there : Bool)
  | delta (r : JRec)
  deriving DecidableEq, Repr

/-- Its acceptance pair. -/
def itemPair : ReplayItem → Pair
  | .block b _ => b.pair
  | .delta r => r.pair

/-- The items of a generation in time-pair order. -/
def replayItems (bad : Unread) (area : Nat) (g : Generation) : List ReplayItem :=
  sortBy (fun a b => pairBefore (itemPair a) (itemPair b))
    ((namedBlocks bad area g).map (fun e => ReplayItem.block e.1 e.2) ++ (readDeltas bad area g).map ReplayItem.delta)

/-- One item is replayed against the map `m` and the cuts that the checkpoint, the journal and the deltas give (R74, R542, R543).
(DESIGN CHOICE, unsafe: log entry 89.) -/
def State.replayOne (s : State) (m : Assoc BlockRec) (cuts : List (Nat × Nat × Pair)) (i : ReplayItem) : State :=
  match i with
  | .block b there =>
    let held : Bool := (match aget m b.key with | some o => !pairBefore o.pair b.pair | none => false) ||
      cuts.any fun c => cutHits c b.key b.pair
    if held ∨ (aget s.plc.spaces (b.key / 2 ^ 64)).isNone then s
    else if !there then
      { s with plc := { s.plc with blocks := mapPut s.plc.blocks b.key { val := b.val, pair := b.pair, place := .lost } } }
    else
      let (x, y) := s.jrnStacks
      { s with plc := { s.plc with
          blocks := mapPut s.plc.blocks b.key { val := b.val, pair := b.pair, place := .landing },
          landing := s.plc.landing ++ [{ b with stackA := x, stackB := y, missing := false, row := none, dead := false, avoid := none }] } }
  | .delta r =>
    if s.plc.mediaJournal.any fun e => e.2.pair == r.pair && e.2.effect == r.effect then s
    else
      let (x, y) := s.jrnStacks
      let back : JRec := { r with stackA := x, stackB := y, missing := false, onMedia := false, owner := none }
      { s with plc := { s.plc with
          blocks := s.mapApply s.plc.blocks r, spaces := spacesApply s.plc.spaces r,
          journal := aput s.plc.journal s.plc.nextJrn back, nextJrn := s.plc.nextJrn + 1 } }

/-- A generation is replayed; what it lacks is reported (R543): a missing manifest or DELTA sector is fatal. -/
def State.replayGen (s : State) (m : Assoc BlockRec) (cuts : List (Nat × Nat × Pair)) (bad : Unread) (area : Nat) (g : Generation) : State :=
  let s := (replayItems bad area g).foldl (fun s i => s.replayOne m cuts i) s
  let (head, ecl) := genIncomplete bad area g
  let s := if head then s.report 296 5 0 3 else s
  let s := if ecl then s.report 296 5 0 2 else s
  if (head || ecl) && s.pwr.lastSave.gen == g.gen then
    { s with pwr := { s.pwr with lastSave := { s.pwr.lastSave with outcome := 3 } } }
  else s

/-- Landing data replayed is the newest effect of its block even where a replayed row record names the same version. -/
def State.landingFirst (s : State) : State :=
  { s with plc := { s.plc with blocks := s.plc.landing.foldl (fun m b => amod m b.key fun r =>
      if r.pair = b.pair then { r with place := .landing } else r) s.plc.blocks } }

/-- The newest time among the pairs on media: roots, journal and generations (R549). -/
def newestTime (p : Plc) : Option Nat :=
  ((p.roots.map fun e => e.2.covered.time) ++ (p.mediaJournal.map fun e => e.2.pair.time) ++
    p.generations.map fun e => e.2.pair.time).max?

/-- The count is stepped past the newest pair on media, and takes TAI where it has not (R549). (DEDUCED, unsafe: log entry 94.) -/
def State.timeSeed (s : State) : State :=
  let due := match newestTime s.plc with | some t => t + 1000000000 | none => 0
  let rest := s.restState
  s.modTim fun t => { t with
    tick := if t.tick / 2 ^ 32 < due then due * 2 ^ 32 else t.tick,
    state := if t.state = .unset then rest else t.state }

/-- What moves the write pointers and states of zones after a checkpoint (R37, R361). -/
inductive ZoneEvent where
  | wrote (key : Nat)
  | reset (n z : Nat)
  | finish (n z : Nat)
  | created (n : Nat)
  deriving DecidableEq, Repr

/-- The zone events of a journal record, each with its acceptance pair: a row record tells the blocks of its row. -/
def State.recordZones (s : State) (r : JRec) : List (Pair × ZoneEvent) :=
  match r.effect with
  | .row _ spots => spots.filterMap fun e => ((aget s.plc.rows e.1).bind fun row => aget row.vals e.2).map fun b => (b.pair, .wrote b.key)
  | .zoneReset n z => [(r.pair, .reset n z)]
  | .zoneFinish n z => [(r.pair, .finish n z)]
  | .nsCreate n _ _ => [(r.pair, .created n)]
  | _ => []

/-- A zone event is applied again. -/
def State.zoneReplay (s : State) : ZoneEvent → State
  | .wrote key =>
    let (n, lba) := (key / 2 ^ 64, key % 2 ^ 64)
    let z := s.zone n (lba / zoneBlocks)
    if (s.ns n).kind ≠ .zoned ∨ z.state = .full ∨ lba % zoneBlocks < z.wp then s
    else s.zoneAdvance n (lba / zoneBlocks) (lba % zoneBlocks + 1)
  | .reset n z => s.setZone n z emptyZone
  | .finish n z => s.setZone n z { s.zone n z with state := .full, wp := zoneBlocks }
  | .created n => s.modNs n fun x => { x with zones := [] }

/-- The zones as the checkpoint holds them, with every later write, reset and finish that the journal and the generations tell, in
time-pair order (R74). (DESIGN CHOICE, unsafe: log entry 88.) -/
def State.zonesRebuilt (s : State) (covered : Pair) (recs : List JRec) (bad : Unread) : State :=
  let saved := s.plc.generations.flatMap fun e =>
    ((namedBlocks bad e.1 e.2).map fun b => (b.1.pair, ZoneEvent.wrote b.1.key)) ++ (readDeltas bad e.1 e.2).flatMap s.recordZones
  let all := (recs.flatMap s.recordZones ++ saved).filter fun e => pairBefore covered e.1
  (sortBy (fun a b => pairBefore a.1 b.1) all).foldl (fun s e => s.zoneReplay e.2) s

/-- Keys, deletions and namespaces after the rebuild (R620, R622): a namespace whose deletion was accepted is gone, every key without its
namespace is removed, and the digest of what stands is computed. -/
def State.spacesRebuilt (s : State) : State :=
  let live := afilter s.plc.spaces fun _ n => n.kind != .deleting
  let spaces := amapv live fun n x => { x with key := (aget s.keyEntries n).elim 0 (Config.keyUnwrap keyKek) }
  let s := { s with
    plc := { s.plc with spaces := spaces, blocks := afilter s.plc.blocks fun k _ => (aget spaces (k / 2 ^ 64)).isSome,
                        landing := s.plc.landing.filter fun b => (aget spaces (b.key / 2 ^ 64)).isSome } }
  let s := if s.keyEntries.all fun e => (aget spaces e.1).isSome then s else s.eraseKeys fun n => (aget spaces n).isSome
  let bytes := s.conjSerial
  { s with tim := { s.tim with serial := bytes, digest := Config.sha3 bytes } }

/-- A mapped block whose row is no longer on media cannot be read (R113). (DEDUCED, unsafe: log entry 91.) -/
def State.mapChecked (s : State) : State :=
  { s with plc := { s.plc with blocks := amapv s.plc.blocks fun _ b => match b.place with
    | .media r _ _ => if (aget s.plc.rows r).isSome then b else { b with place := .lost }
    | _ => b } }

/-- MAP_REBUILD: the newest root with a valid copy, the journal on media after it, and the unreleased generations, oldest first; then the
device accepts commands (R69). `badRoots` names the root slots with no valid copy, `bad` the eclipse sectors that cannot be read.
(DEDUCED, safe: log entry 95.) -/
def State.mapRebuild (s : State) (badRoots : List Nat) (bad : Unread) : State :=
  if !s.sec.booted ∨ s.plc.rebuilt ∨ s.pwr.umbra ∨ !((List.range 4).any fun a => (s.act a).state == .following) then s
  else
    let root := newestRoot (afilter s.plc.roots fun k _ => !badRoots.contains k)
    let recs := inOrder ((avals s.plc.mediaJournal).filter fun r => match root with
      | some x => pairBefore x.covered r.pair
      | none => true)
    let m := recs.foldl (fun m r => s.mapApply m r) (match root with | some r => r.blocks | none => [])
    let sp := recs.foldl spacesApply (match root with | some r => r.spaces | none => [])
    let rows := amapv s.plc.rows fun _ r => { r with complete := true, verifying := 0 }
    let s := { s with plc := { s.plc with blocks := m, spaces := sp, rows := rows } }
    let gens := sortBy (fun a b => pairBefore a.2.pair b.2.pair) s.plc.generations
    let cuts := (match root with | some r => r.cuts | none => []) ++ cutsOf recs ++ gens.flatMap fun e => cutsOf (readDeltas bad e.1 e.2)
    let s := gens.foldl (fun s e => s.replayGen m cuts bad e.1 e.2) s
    let s := s.zonesRebuilt (match root with | some r => r.covered | none => { time := 0, seq := 0 }) recs bad
    let s := ((s.landingFirst).mapChecked).spacesRebuilt
    let s := s.timeSeed
    let s := { s with plc := { s.plc with rebuilt := true }, eqt := { s.eqt with acceptCmds := true } }
    ((s.recomputeDmax).releaseGenerations).reclaimCheck

/-! ## The boot flash (R605, R623) -/

/-- FLASH_OP_DONE: the operation in progress completes, or fails and sets ERROR. No program or erase has begun from PN2 on, so that one
ordered there has yet to be done (R605). -/
def State.flashOpDone (s : State) (ok : Bool) : State :=
  match s.sec.flashBusy with
  | none => s
  | some f =>
    if f.op ≠ 0 ∧ 2 ≤ s.stageCode then s
    else
      let s := { s with sec := { s.sec with flashBusy := none, flashError := !ok } }
      if !ok then s
      else match f.op with
        | 0 => { s with sec := { s.sec with window := (List.range 256).map fun i => s.flashByte (f.addr + i) } }
        | 1 => s.flashProgram f.addr f.window
        | _ => s.flashErase f.addr 0x10000

/-! ## JTAG (R613) -/

/-- JTAG_INSTRUCTION: with DEBUG_CLOSED blown, BYPASS (0), IDCODE (1), SAMPLE/PRELOAD (2) and EXTEST (3) select their register, only while
RESET_N is low; every other instruction does nothing. -/
def State.jtagInstruction (s : State) (ir : Nat) : State :=
  if s.pwr.resetN ∨ 3 < ir then s
  else s.emit (.jtag ir (if ir = 0 then 1 else if ir = 1 then 32 else 0))

end Sys2Proof.Machine
end

