-- ==== Sys2Proof/Machine/Guard.lean ====
section
/-! DEFINITION. What every row shares: who must be there for a command to be taken, and the frame around its effect. -/

namespace Sys2Proof.Machine

/-- Who takes a command. `pins`: the always-on circuits. `mgmt`: the management port (R649). `live`: the host side of a device that has
booted and is not in umbra (R529, R606). `agent`: whoever writes a set-up register. `block`: a block by its id of Table 15.3, which
acts only while its domain is on (R522). -/
inductive Need where
  | pins
  | mgmt
  | live
  | agent (a : Agent)
  | block (k : Nat)
  deriving DecidableEq, Repr

/-- The block or agent that takes the command is there to take it. (DESIGN CHOICE, unsafe: log entry 4.) -/
def State.has (s : State) : Need → Bool
  | .pins => true
  | .mgmt => s.pwr.pwrgood && decide (s.domState .sys = .on)
  | .live => s.sec.booted && !s.pwr.umbra && decide (s.domState .sys = .on)
  | .agent .mgmt => s.pwr.pwrgood && decide (s.domState .sys = .on)
  | .agent (.core c) => s.sec.booted && !s.pin.coresOut.testBit c
  | .agent (.session _) => false
  | .block k => s.sec.booted && decide (s.domState (blockDom k) = .on)

/-- A row of the table: a command that cannot arrive is refused; one that arrives where nothing can take it changes nothing; any other
has its effect, after which the level event sources and the quiet conditions of R513 are judged again. The queue of waiting commands is
the step's alone. -/
def row (c : Instr) (need : Need) (s : State) (f : State → State) : Host.Outcome State Fault Refusal :=
  if !c.wf then .refused .illFormed
  else if !s.has need then .next s
  else .next { ((f s).noteLevels).noteQuiet with pending := s.pending }

end Sys2Proof.Machine
end

