-- ==== Sys2Proof/Machine/ExecPlacement.lean ====
section
/-! DEFINITION. The meanings of the commands of placement, landing, journal, checkpoint and map (chapter 2). -/

namespace Sys2Proof.Machine

/-- SETUP_REGISTER_WRITE (R647): a write of a set-up register by its address (R647). -/
def execSetupRegisterWrite (ag : Agent) (addr : Nat) (v : Word) (s : State) : Host.Outcome State Fault Refusal :=
  row (.setupRegisterWrite ag addr v) (.agent ag) s fun s => s.setupWrite ag addr v

/-- PLC_STRIPE_CFG_WRITE (R41): a write of PLC_STRIPE_CFG (R41, R50). -/
def execPlcStripeCfgWrite (ag : Agent) (v : Word) (s : State) : Host.Outcome State Fault Refusal :=
  row (.plcStripeCfgWrite ag v) (.agent ag) s fun s => s.regRow ag .plcStripeCfg v

/-- BAND_SET_FREE (R53): band set n returns to FREE (R53). -/
def execBandSetFree (n : Nat) (s : State) : Host.Outcome State Fault Refusal :=
  row (.bandSetFree n) (.block 9) s fun s => s.bandSetFree n

/-- RESERVATION_GRANT (R56): the first waiting reservation is granted (R56). -/
def execReservationGrant (s : State) : Host.Outcome State Fault Refusal :=
  row .reservationGrant (.block 0) s fun s => s.reservationGrant

/-- WRITE_ACCEPT (R54): the WRITE or COPY of tag t is accepted (R54). -/
def execWriteAccept (t : Nat) (s : State) : Host.Outcome State Fault Refusal :=
  row (.writeAccept t) (.block 0) s fun s => s.writeAccept t

/-- LANDING_RECOPY_DONE (R26): a copy into a third stack completes (R26, R58, R374). -/
def execLandingRecopyDone (kind : Nat) (n : Nat) (stack : Nat) (s : State) : Host.Outcome State Fault Refusal :=
  row (.landingRecopyDone kind n stack) (.block 11) s fun s => s.recopyDone kind n stack

/-- ROW_COMPLETE (R59): stripe row n is complete (R59). -/
def execRowComplete (n : Nat) (s : State) : Host.Outcome State Fault Refusal :=
  row (.rowComplete n) (.block 9) s fun s => s.rowComplete n

/-- JOURNAL_ON_MEDIA (R65): journal record n is on media (R65). -/
def execJournalOnMedia (n : Nat) (s : State) : Host.Outcome State Fault Refusal :=
  row (.journalOnMedia n) (.block 9) s fun s => s.journalOnMedia n

/-- CHECKPOINT_BEGIN (R66): a checkpoint begins (R66). -/
def execCheckpointBegin (s : State) : Host.Outcome State Fault Refusal :=
  row .checkpointBegin (.block 9) s fun s => s.checkpointBegin

/-- CHECKPOINT_IN_FORCE (R67): a checkpoint comes into force (R67). -/
def execCheckpointInForce (s : State) : Host.Outcome State Fault Refusal :=
  row .checkpointInForce (.block 9) s fun s => s.checkpointInForce

/-- MAP_REBUILD (R69): the map is rebuilt and generations replayed (R69, R74). -/
def execMapRebuild (badRoots : List Nat) (bad : List (Nat × Nat × Nat)) (s : State) : Host.Outcome State Fault Refusal :=
  row (.mapRebuild badRoots bad) (.block 9) s fun s => s.mapRebuild badRoots bad

end Sys2Proof.Machine
end

