-- ==== Sys2Proof/Machine/ExecChannel.lean ====
section
/-! DEFINITION. The meanings of the commands of read channel, write path and verify (chapters 3 and 4). -/

namespace Sys2Proof.Machine

/-- CHN_ST_HEAD_WRITE (R81): a write of CHN_ST_HEAD_s (R80, R81). -/
def execChnStHeadWrite (ag : Agent) (st : Nat) (v : Word) (s : State) : Host.Outcome State Fault Refusal :=
  row (.chnStHeadWrite ag st v) (.agent ag) s fun s => s.regRow ag (.chnStHead st) v

/-- HEAD_SWITCH (R80): the held head selection takes effect (R80, R86). -/
def execHeadSwitch (st : Nat) (s : State) : Host.Outcome State Fault Refusal :=
  row (.headSwitch st) (.block 3) s fun s => (s.headSwitchRow st).loadDue

/-- CHN_AF_SEL_WRITE (R84): a write of CHN_AF_SEL_n (R84). -/
def execChnAfSelWrite (ag : Agent) (n : Nat) (v : Word) (s : State) : Host.Outcome State Fault Refusal :=
  row (.chnAfSelWrite ag n v) (.agent ag) s fun s => s.regRow ag (.chnAfSel n) v

/-- FRONT_END_FAIL (R82): a front end is taken out of use (R82). -/
def execFrontEndFail (n : Nat) (s : State) : Host.Outcome State Fault Refusal :=
  row (.frontEndFail n) (.block 3) s fun s => s.frontEndFail n

/-- SERVO_WEDGE (R107): a servo wedge passes under the head of a stream (R107). -/
def execServoWedge (st : Nat) (o : WedgeObs) (s : State) : Host.Outcome State Fault Refusal :=
  row (.servoWedge st o) (.block 7) s fun s => s.servoWedge st o

/-- DECODE_STOP (R103): the stream decoder stops a sector (R103). -/
def execDecodeStop (st : Nat) (o : DecodeObs) (s : State) : Host.Outcome State Fault Refusal :=
  row (.decodeStop st o) (.block 3) s fun s => s.decodeStop st o

/-- DEEP_DECODE_DONE (R105): a deep decode ends (R105). -/
def execDeepDecodeDone (k : Nat) (word : BitVec 41216) (s : State) : Host.Outcome State Fault Refusal :=
  row (.deepDecodeDone k word) (.block 3) s fun s => s.deepDecodeDone k word

/-- REREAD_DONE (R111): a re-read of ladder i ends (R111). -/
def execRereadDone (ix : Nat) (missed : Bool) (values : List Int) (s : State) : Host.Outcome State Fault Refusal :=
  row (.rereadDone ix missed values) (.block 3) s fun s => s.rereadDone ix missed values

/-- REBUILD_DONE (R112): the rebuild of ladder i ends (R112). -/
def execRebuildDone (ix : Nat) (s : State) : Host.Outcome State Fault Refusal :=
  row (.rebuildDone ix) (.block 3) s fun s => s.rebuildDone ix

/-- CHN_STAT_SNAP (R124): SNAP without CLEAR (R124). -/
def execChnStatSnap (ag : Agent) (v : Word) (s : State) : Host.Outcome State Fault Refusal :=
  row (.chnStatSnap ag v) (.agent ag) s fun s => s.regRow ag .chnStatSel v

/-- CHN_STAT_SNAP_CLEAR (R124): SNAP with CLEAR (R124). -/
def execChnStatSnapClear (ag : Agent) (v : Word) (s : State) : Host.Outcome State Fault Refusal :=
  row (.chnStatSnapClear ag v) (.agent ag) s fun s => s.regRow ag .chnStatSel v

/-- LINK_ACK (R145): an acknowledgement frame arrives on link a (R145). -/
def execLinkAck (a : Nat) (w : BitVec 64) (parts : List Nat) (s : State) : Host.Outcome State Fault Refusal :=
  row (.linkAck a w parts) (.block 5) s fun s => s.linkAck a w parts

/-- PREAMP_FAULT (R149): an unsolicited FAULT frame arrives on link a (R149). -/
def execPreampFault (a : Nat) (w : BitVec 64) (parts : List Nat) (s : State) : Host.Outcome State Fault Refusal :=
  row (.preampFault a w parts) (.block 5) s fun s => s.preampFault a w parts

/-- LINK_ACK_TIMEOUT (R146): no acknowledgement within 1.6 µs (R146). -/
def execLinkAckTimeout (a : Nat) (s : State) : Host.Outcome State Fault Refusal :=
  row (.linkAckTimeout a) (.block 5) s fun s => s.linkAckTimeout a

/-- LINK_RESET_RETRY (R147): LINK_RESET is sent again (R147). -/
def execLinkResetRetry (a : Nat) (s : State) : Host.Outcome State Fault Refusal :=
  row (.linkResetRetry a) (.block 5) s fun s => s.linkResetRetry a

/-- CONTACT_RESTORE (R152): a revolution without contact restores the heater (R152). -/
def execContactRestore (h : Nat) (s : State) : Host.Outcome State Fault Refusal :=
  row (.contactRestore h) (.block 5) s fun s => s.contactRestore h

/-- PLK_CLR (R142): PLK_CTL_n.CLR (R142). -/
def execPlkClr (ag : Agent) (n : Nat) (v : Word) (s : State) : Host.Outcome State Fault Refusal :=
  row (.plkClr ag n v) (.agent ag) s fun s => s.regRow ag (.plkCtl n) v

/-- TOUCHDOWN_START (R153): START of a touchdown sweep (R153, R154). -/
def execTouchdownStart (ag : Agent) (v : Word) (s : State) : Host.Outcome State Fault Refusal :=
  row (.touchdownStart ag v) (.agent ag) s fun s => s.regRow ag .plkTdCtl v

/-- TOUCHDOWN_STEP (R153): a step of the touchdown sweep ends (R153). -/
def execTouchdownStep (s : State) : Host.Outcome State Fault Refusal :=
  row .touchdownStep (.block 5) s fun s => s.touchdownStep

/-- WFLT_ASSERT (R155): a low pulse on write-fault input a (R155). -/
def execWfltAssert (a : Nat) (ns : Nat) (s : State) : Host.Outcome State Fault Refusal :=
  row (.wfltAssert a ns) (.block 5) s fun s => s.wfltAssert a ns

/-- VERIFY_DONE (R159): a trailing verify read completes (R159). -/
def execVerifyDone (id : Nat) (s : State) : Host.Outcome State Fault Refusal :=
  row (.verifyDone id) (.block 4) s fun s => s.verifyDone id

/-- VERIFY_WINDOW_EXPIRE (R159): a run is not verified within TV_WINDOW (R159). -/
def execVerifyWindowExpire (id : Nat) (s : State) : Host.Outcome State Fault Refusal :=
  row (.verifyWindowExpire id) (.block 4) s fun s => s.verifyExpire id

end Sys2Proof.Machine
end

