-- ==== Sys2Proof/Machine/ExecSequencer.lean ====
section
/-! DEFINITION. The meanings of the commands of sequencers and control store (chapter 5). -/

namespace Sys2Proof.Machine

/-- NOP (R171): sequencer q executes a word with operation NOP at a position (R171). -/
def execNop (q : Nat) (pos : Nat) (s : State) : Host.Outcome State Fault Refusal :=
  row (.nop q pos) (.block 6) s fun s => (s.runOp q pos 0).settleWork

/-- LDI (R171): sequencer q executes a word with operation LDI at a position (R171). -/
def execLdi (q : Nat) (pos : Nat) (s : State) : Host.Outcome State Fault Refusal :=
  row (.ldi q pos) (.block 6) s fun s => (s.runOp q pos 1).settleWork

/-- LDIH (R171): sequencer q executes a word with operation LDIH at a position (R171). -/
def execLdih (q : Nat) (pos : Nat) (s : State) : Host.Outcome State Fault Refusal :=
  row (.ldih q pos) (.block 6) s fun s => (s.runOp q pos 2).settleWork

/-- ADD (R171): sequencer q executes a word with operation ADD at a position (R171). -/
def execAdd (q : Nat) (pos : Nat) (s : State) : Host.Outcome State Fault Refusal :=
  row (.add q pos) (.block 6) s fun s => (s.runOp q pos 3).settleWork

/-- ADDV (R171): sequencer q executes a word with operation ADDV at a position (R171). -/
def execAddv (q : Nat) (pos : Nat) (s : State) : Host.Outcome State Fault Refusal :=
  row (.addv q pos) (.block 6) s fun s => (s.runOp q pos 4).settleWork

/-- AND (R171): sequencer q executes a word with operation AND at a position (R171). -/
def execAnd (q : Nat) (pos : Nat) (s : State) : Host.Outcome State Fault Refusal :=
  row (.and q pos) (.block 6) s fun s => (s.runOp q pos 5).settleWork

/-- CMP (R171): sequencer q executes a word with operation CMP at a position (R171). -/
def execCmp (q : Nat) (pos : Nat) (s : State) : Host.Outcome State Fault Refusal :=
  row (.cmp q pos) (.block 6) s fun s => (s.runOp q pos 6).settleWork

/-- CMPV (R171): sequencer q executes a word with operation CMPV at a position (R171). -/
def execCmpv (q : Nat) (pos : Nat) (s : State) : Host.Outcome State Fault Refusal :=
  row (.cmpv q pos) (.block 6) s fun s => (s.runOp q pos 7).settleWork

/-- LDP (R171): sequencer q executes a word with operation LDP at a position (R171). -/
def execLdp (q : Nat) (pos : Nat) (s : State) : Host.Outcome State Fault Refusal :=
  row (.ldp q pos) (.block 6) s fun s => (s.runOp q pos 8).settleWork

/-- STP (R171): sequencer q executes a word with operation STP at a position (R171). -/
def execStp (q : Nat) (pos : Nat) (s : State) : Host.Outcome State Fault Refusal :=
  row (.stp q pos) (.block 6) s fun s => (s.runOp q pos 9).settleWork

/-- BRANCH (R175): sequencer q forms its next address (R175). -/
def execBranch (q : Nat) (s : State) : Host.Outcome State Fault Refusal :=
  row (.branch q) (.block 6) s fun s => (s.seqBranch q).settleWork

/-- CALL (R176): sequencer q calls (R176). -/
def execCall (q : Nat) (s : State) : Host.Outcome State Fault Refusal :=
  row (.call q) (.block 6) s fun s => (s.seqCall q).settleWork

/-- RET (R176): sequencer q returns (R176). -/
def execRet (q : Nat) (s : State) : Host.Outcome State Fault Refusal :=
  row (.ret q) (.block 6) s fun s => (s.seqRet q).settleWork

/-- RETT (R194): a privileged sequencer returns from its trap (R194). -/
def execRett (q : Nat) (s : State) : Host.Outcome State Fault Refusal :=
  row (.rett q) (.block 6) s fun s => (s.seqRett q).settleWork

/-- ACT_AT_POSITION (R172): a word acts at its symbol position (R172). -/
def execActAtPosition (q : Nat) (pos : Nat) (s : State) : Host.Outcome State Fault Refusal :=
  row (.actAtPosition q pos) (.block 6) s fun s => (s.actAtPosition q pos).settleWork

/-- WAIT_END (R173): a wait ends at its condition (R173). -/
def execWaitEnd (q : Nat) (o : MediaObs) (s : State) : Host.Outcome State Fault Refusal :=
  row (.waitEnd q o) (.block 6) s fun s => (s.waitEnd q o).settleWork

/-- WAIT_TIMEOUT (R173): a wait ends at its TMO (R173). -/
def execWaitTimeout (q : Nat) (s : State) : Host.Outcome State Fault Refusal :=
  row (.waitTimeout q) (.block 6) s fun s => (s.waitTimeout q).settleWork

/-- SEQ_INTERRUPT (R187): a stream sequencer restarts (R187). -/
def execSeqInterrupt (q : Nat) (s : State) : Host.Outcome State Fault Refusal :=
  row (.seqInterrupt q) (.block 6) s fun s => (s.seqInterrupt q).settleWork

/-- PRIV_TRAP (R193): a privileged sequencer traps (R193). -/
def execPrivTrap (q : Nat) (s : State) : Host.Outcome State Fault Refusal :=
  row (.privTrap q) (.block 6) s fun s => (s.privTrap q).settleWork

/-- CONTROL_STORE_RELOAD (R167): a control-store word is reloaded (R167, R168). -/
def execControlStoreReload (q : Nat) (flip : Bool) (s : State) : Host.Outcome State Fault Refusal :=
  row (.controlStoreReload q flip) (.block 6) s fun s => (s.storeReload q flip).settleWork

/-- LOCKSTEP_FAIL (R162): the copies of sequencer q disagree (R162, R163). -/
def execLockstepFail (q : Nat) (s : State) : Host.Outcome State Fault Refusal :=
  row (.lockstepFail q) (.block 6) s fun s => (s.lockstepFail q).settleWork

/-- SEQ_CS_READ (R165): SEQ_CS_DIAG.READ (R165). -/
def execSeqCsRead (ag : Agent) (v : Word) (s : State) : Host.Outcome State Fault Refusal :=
  row (.seqCsRead ag v) (.agent ag) s fun s => s.regRow ag .seqCsDiag v

/-- SEQ_CS_INJECT (R167): SEQ_CS_DIAG.INJECT (R167). -/
def execSeqCsInject (ag : Agent) (v : Word) (s : State) : Host.Outcome State Fault Refusal :=
  row (.seqCsInject ag v) (.agent ag) s fun s => s.regRow ag .seqCsDiag v

end Sys2Proof.Machine
end

