-- ==== Sys2Proof/Machine/ExecServo.lean ====
section
/-! DEFINITION. The meanings of the commands of servo (chapter 6). -/

namespace Sys2Proof.Machine

/-- SERVO_SAMPLE (R203): a sample of actuator a (R203). -/
def execServoSample (a : Nat) (late : Bool) (s : State) : Host.Outcome State Fault Refusal :=
  row (.servoSample a late) (.block 7) s fun s => s.servoSample a late

/-- SWAP_REQUEST (R210): SCE_SLOT_n.SWAP (R210). -/
def execSwapRequest (ag : Agent) (n : Nat) (v : Word) (s : State) : Host.Outcome State Fault Refusal :=
  row (.swapRequest ag n v) (.agent ag) s fun s => s.regRow ag (.sceSlot n) v

/-- SCE_WINDOW_WRITE (R225): a write of a bank or table of the SCE block (R209, R225). -/
def execSceWindowWrite (ag : Agent) (ofs : Nat) (v : Word) (s : State) : Host.Outcome State Fault Refusal :=
  row (.sceWindowWrite ag ofs v) (.agent ag) s fun s => s.regRow ag (.sceWindow ofs) v

/-- SCE_TGT_WRITE (R218): a write of SCE_TGT_s (R218). -/
def execSceTgtWrite (ag : Agent) (st : Nat) (v : Word) (s : State) : Host.Outcome State Fault Refusal :=
  row (.sceTgtWrite ag st v) (.agent ag) s fun s => s.regRow ag (.sceTgt st) v

/-- GO (R227): GO (R227). -/
def execGo (ag : Agent) (a : Nat) (v : Word) (s : State) : Host.Outcome State Fault Refusal :=
  row (.go ag a v) (.agent ag) s fun s => s.regRow ag (.sceActCmd a) v

/-- LOAD (R238): LOAD (R238). -/
def execLoad (ag : Agent) (a : Nat) (v : Word) (s : State) : Host.Outcome State Fault Refusal :=
  row (.load ag a v) (.agent ag) s fun s => s.regRow ag (.sceActCmd a) v

/-- UNLOAD (R239): UNLOAD (R239). -/
def execUnload (ag : Agent) (a : Nat) (v : Word) (s : State) : Host.Outcome State Fault Refusal :=
  row (.unload ag a v) (.agent ag) s fun s => s.regRow ag (.sceActCmd a) v

/-- SEEK_END (R228): a trajectory reaches its target (R228). -/
def execSeekEnd (a : Nat) (s : State) : Host.Outcome State Fault Refusal :=
  row (.seekEnd a) (.block 7) s fun s => (s.seekEnd a).saveStep

/-- SEEK_TIMEOUT (R231): a seek has not reached FOLLOWING within T_SEEK_MAX (R231). -/
def execSeekTimeout (a : Nat) (s : State) : Host.Outcome State Fault Refusal :=
  row (.seekTimeout a) (.block 7) s fun s => s.seekTimeout a

/-- LOAD_FAIL (R238): a load has not reached SETTLING within 150 ms (R238). -/
def execLoadFail (a : Nat) (s : State) : Host.Outcome State Fault Refusal :=
  row (.loadFail a) (.block 7) s fun s => s.loadFail a

/-- UNLOAD_DONE (R239): an actuator is UNLOADED (R239). -/
def execUnloadDone (a : Nat) (s : State) : Host.Outcome State Fault Refusal :=
  row (.unloadDone a) (.block 7) s fun s => (((s.unloadDone a).spnPending).loadDue).abortPoint 4

/-- UNLOAD_FAIL (R244): an unload has not ended within 200 ms (R244). -/
def execUnloadFail (a : Nat) (s : State) : Host.Outcome State Fault Refusal :=
  row (.unloadFail a) (.block 7) s fun s => (s.unloadFail a).spnPending

/-- FAULT_RELOAD (R243): one second after a fault retract (R243). -/
def execFaultReload (a : Nat) (s : State) : Host.Outcome State Fault Refusal :=
  row (.faultReload a) (.block 7) s fun s => s.faultReload a

/-- CURRENT_LOOP_PERIOD (R236): a PWM period of the VCM current loop (R236). -/
def execCurrentLoopPeriod (a : Nat) (isense : Int) (vcoil : Int) (s : State) : Host.Outcome State Fault Refusal :=
  row (.currentLoopPeriod a isense vcoil) (.block 7) s fun s => s.currentPeriod a isense vcoil

/-- SLOT_MEM (R246): an uncorrectable slot memory error (R246). -/
def execSlotMem (n : Nat) (s : State) : Host.Outcome State Fault Refusal :=
  row (.slotMem n) (.block 7) s fun s => s.slotMem n

end Sys2Proof.Machine
end

