-- ==== Sys2Proof/Machine/ExecSpindle.lean ====
section
/-! DEFINITION. The meanings of the commands of spindle and transit lock (chapter 7). -/

namespace Sys2Proof.Machine

/-- SPINDLE_ENABLE (R252): SPN_CTL with ENABLE (R252). -/
def execSpindleEnable (ag : Agent) (v : Word) (s : State) : Host.Outcome State Fault Refusal :=
  row (.spindleEnable ag v) (.agent ag) s fun s => s.regRow ag .spnCtl v

/-- SPINDLE_DISABLE (R259): SPN_CTL without ENABLE (R259). -/
def execSpindleDisable (ag : Agent) (v : Word) (s : State) : Host.Outcome State Fault Refusal :=
  row (.spindleDisable ag v) (.agent ag) s fun s => s.regRow ag .spnCtl v

/-- TARGET_RPM_WRITE (R260): a write of TARGET_RPM (R255, R260). -/
def execTargetRpmWrite (ag : Agent) (v : Word) (s : State) : Host.Outcome State Fault Refusal :=
  row (.targetRpmWrite ag v) (.agent ag) s fun s => s.regRow ag .spnCtl v

/-- LISTEN_END (R252): LISTEN ends with the back-EMF seen (R252). -/
def execListenEnd (speed : Option Nat) (s : State) : Host.Outcome State Fault Refusal :=
  row (.listenEnd speed) (.block 8) s fun s => s.listenEnd speed

/-- SENSE_END (R253): inductive sensing gives the rotor sector (R253). -/
def execSenseEnd (sector : Nat) (s : State) : Host.Outcome State Fault Refusal :=
  row (.senseEnd sector) (.block 8) s fun s => s.senseEnd sector

/-- ALIGN_END (R253): ALIGN ends (R253). -/
def execAlignEnd (s : State) : Host.Outcome State Fault Refusal :=
  row .alignEnd (.block 8) s fun s => s.alignEnd

/-- OPEN_LOOP_END (R254): OPEN_LOOP ends (R254). -/
def execOpenLoopEnd (s : State) : Host.Outcome State Fault Refusal :=
  row .openLoopEnd (.block 8) s fun s => s.openLoopEnd

/-- START_RETRY (R254): one second after START_FAIL (R254). -/
def execStartRetry (s : State) : Host.Outcome State Fault Refusal :=
  row .startRetry (.block 8) s fun s => s.startRetry

/-- SPINUP_TIMEOUT (R256): AT_SPEED not reached within T_SPINUP (R256). -/
def execSpinupTimeout (s : State) : Host.Outcome State Fault Refusal :=
  row .spinupTimeout (.block 8) s fun s => s.spinupTimeout

/-- BRAKE_END (R259): 500 ms without a zero crossing (R259). -/
def execBrakeEnd (s : State) : Host.Outcome State Fault Refusal :=
  row .brakeEnd (.block 8) s fun s => s.brakeEnd

/-- ZERO_CROSSING (R262): a back-EMF zero crossing (R262). -/
def execZeroCrossing (late : Bool) (s : State) : Host.Outcome State Fault Refusal :=
  row (.zeroCrossing late) (.block 8) s fun s => s.zeroCrossing late

/-- SPINDLE_CURRENT_PERIOD (R249): a PWM period of the spindle current loop (R249). -/
def execSpindleCurrentPeriod (isense : Int) (s : State) : Host.Outcome State Fault Refusal :=
  row (.spindleCurrentPeriod isense) (.block 8) s fun s => s.spnCurrent isense

/-- SPINDLE_INDEX (R267): the spindle index passes (R267). -/
def execSpindleIndex (late : Bool) (s : State) : Host.Outcome State Fault Refusal :=
  row (.spindleIndex late) (.block 8) s fun s => ((s.spindleIndex late).loadDue).abortPoint 5

/-- SYNC_EDGE (R641): a rising edge on SYNC (R641). -/
def execSyncEdge (s : State) : Host.Outcome State Fault Refusal :=
  row .syncEdge (.block 16) s fun s => s.syncEdge

/-- TL_HOLDOVER (R273): no accepted SYNC edge for 4 × SYNC_DIV revolutions (R273). -/
def execTlHoldover (s : State) : Host.Outcome State Fault Refusal :=
  row .tlHoldover (.block 8) s fun s => s.tlHoldover

end Sys2Proof.Machine
end

