-- ==== Sys2Proof/Machine/ExecHost.lean ====
section
/-! DEFINITION. The meanings of the commands of ports, transport, sessions and transfers (chapters 8 and 9). -/

namespace Sys2Proof.Machine

/-- ETH_FRAME_RECEIVE (R283): a frame arrives on a port (R283). -/
def execEthFrameReceive (p : Nat) (f : RxFrame) (level : Nat) (s : State) : Host.Outcome State Fault Refusal :=
  row (.ethFrameReceive p f level) .live s fun s => s.frameReceive p f level

/-- ROCE_WRITE_RECEIVE (R288): a host RDMA WRITE packet arrives (R288). -/
def execRoceWriteReceive (k : WritePkt) (bad : Nat) (s : State) : Host.Outcome State Fault Refusal :=
  row (.roceWriteReceive k bad) .live s fun s => s.writeReceive k bad

/-- SQ_DB (R324): a write of SQ_DB (R324). -/
def execSqDb (ix : Nat) (w : DWord) (s : State) : Host.Outcome State Fault Refusal :=
  row (.sqDb ix w) .live s fun s => s.sqDb ix w

/-- CQ_DB (R402): a write of CQ_DB (R402). -/
def execCqDb (ix : Nat) (w : DWord) (s : State) : Host.Outcome State Fault Refusal :=
  row (.cqDb ix w) .live s fun s => s.cqDb ix w

/-- EV_DB (R423): a write of EV_DB (R423). -/
def execEvDb (ix : Nat) (w : DWord) (s : State) : Host.Outcome State Fault Refusal :=
  row (.evDb ix w) .live s fun s => s.evDb ix w

/-- PUSH_DATA_WRITE (R340): push data is written into a landing window (R340). -/
def execPushDataWrite (ix : Nat) (ofs : Nat) (bytes : List Byte) (bad : Nat) (s : State) : Host.Outcome State Fault Refusal :=
  row (.pushDataWrite ix ofs bytes bad) .live s fun s => s.pushData ix ofs bytes bad

/-- RDMA_READ_RESPONSE (R333): the data of a device RDMA READ arrives (R333). -/
def execRdmaReadResponse (ix : Nat) (bytes : List Byte) (bad : Nat) (s : State) : Host.Outcome State Fault Refusal :=
  row (.rdmaReadResponse ix bytes bad) .live s fun s => s.readResponse ix bytes bad

/-- ROCE_ACK_RECEIVE (R304): an ACK or NAK from the host (R304). -/
def execRoceAckReceive (ix : Nat) (k : AckKind) (psn : BitVec 24) (s : State) : Host.Outcome State Fault Refusal :=
  row (.roceAckReceive ix k psn) .live s fun s => s.ackReceive ix k psn

/-- RNR_NAK_RECEIVE (R405): an RNR NAK from the host (R405). -/
def execRnrNakReceive (ix : Nat) (s : State) : Host.Outcome State Fault Refusal :=
  row (.rnrNakReceive ix) .live s fun s => s.rnrNak ix

/-- REQUEST_RETRY_TIMEOUT (R304): a device request is not acknowledged in time (R304). -/
def execRequestRetryTimeout (ix : Nat) (s : State) : Host.Outcome State Fault Refusal :=
  row (.requestRetryTimeout ix) .live s fun s => s.retryTimeout ix

/-- CNP_RECEIVE (R287): a CNP arrives (R287). -/
def execCnpReceive (ix : Nat) (s : State) : Host.Outcome State Fault Refusal :=
  row (.cnpReceive ix) .live s fun s => s.cnpReceive ix

/-- RATE_INCREASE (R287): 55 µs without a CNP (R287). -/
def execRateIncrease (ix : Nat) (s : State) : Host.Outcome State Fault Refusal :=
  row (.rateIncrease ix) .live s fun s => s.rateIncrease ix

/-- HOST_ACK_TIMER (R290): host requests are acknowledged (R290). -/
def execHostAckTimer (ix : Nat) (s : State) : Host.Outcome State Fault Refusal :=
  row (.hostAckTimer ix) .live s fun s => s.hostAckTimer ix

/-- REQ (R659): a CM REQ arrives (R659). -/
def execReq (port : Nat) (m : ReqMsg) (s : State) : Host.Outcome State Fault Refusal :=
  row (.req port m) .live s fun s => s.req port m

/-- RTU (R296): an RTU arrives (R296). -/
def execRtu (ix : Nat) (s : State) : Host.Outcome State Fault Refusal :=
  row (.rtu ix) .live s fun s => s.rtu ix

/-- DREQ (R302): a DREQ arrives (R302). -/
def execDreq (ix : Nat) (release : Bool) (s : State) : Host.Outcome State Fault Refusal :=
  row (.dreq ix release) .live s fun s => s.dreq ix release

/-- DREP (R291): a DREP answers a device DREQ (R291). -/
def execDrep (ix : Nat) (s : State) : Host.Outcome State Fault Refusal :=
  row (.drep ix) .live s fun s => s.drep ix

/-- LAP (R310): a LAP arrives (R310). -/
def execLap (ix : Nat) (p : PathReq) (s : State) : Host.Outcome State Fault Refusal :=
  row (.lap ix p) .live s fun s => s.lap ix p

/-- REJ (R291): a REJ arrives (R291). -/
def execRej (ix : Nat) (s : State) : Host.Outcome State Fault Refusal :=
  row (.rej ix) .live s fun s => s.abandon ix

/-- ADMIT_TIMEOUT (R296): no RTU within 1 s (R296). -/
def execAdmitTimeout (ix : Nat) (s : State) : Host.Outcome State Fault Refusal :=
  row (.admitTimeout ix) (.block 0) s fun s => s.admitTimeout ix

/-- LINEAGE_RELEASE (R300): LINEAGE_HOLD has passed (R300). -/
def execLineageRelease (l : Nat) (s : State) : Host.Outcome State Fault Refusal :=
  row (.lineageRelease l) (.block 0) s fun s => s.lineageRelease l

/-- LINK_LOSS (R312): alignment has been lost for 10 µs (R312). -/
def execLinkLoss (p : Nat) (s : State) : Host.Outcome State Fault Refusal :=
  row (.linkLoss p) .live s fun s => s.linkLoss p false

/-- PATH_TIMEOUT (R309): device requests unanswered for PATH_TMO (R309). -/
def execPathTimeout (ix : Nat) (s : State) : Host.Outcome State Fault Refusal :=
  row (.pathTimeout ix) .live s fun s => s.pathTimeout ix

/-- LINK_UP (R311): a port completes training (R311). -/
def execLinkUp (p : Nat) (partner : Nat) (fec74 : Bool) (s : State) : Host.Outcome State Fault Refusal :=
  row (.linkUp p partner fec74) .live s fun s => s.linkUp p partner fec74

/-- ETH_CFG_WRITE (R312): a write of ETH_CFG_p (R312). -/
def execEthCfgWrite (ag : Agent) (p : Nat) (v : Word) (s : State) : Host.Outcome State Fault Refusal :=
  row (.ethCfgWrite ag p v) (.agent ag) s fun s => s.regRow ag (.ethCfg p) v

/-- FETCH_ISSUE (R327): a batch of submission entries is fetched (R327). -/
def execFetchIssue (s : State) : Host.Outcome State Fault Refusal :=
  row .fetchIssue .live s fun s => s.fetchIssue

/-- GRANT_ISSUE (R337): a transfer-ready grant is issued (R337). -/
def execGrantIssue (t : Nat) (s : State) : Host.Outcome State Fault Refusal :=
  row (.grantIssue t) .live s fun s => s.grantIssue t

/-- PUSH_TIMEOUT (R342): a grant is not written within PUSH_TMO (R342). -/
def execPushTimeout (t : Nat) (s : State) : Host.Outcome State Fault Refusal :=
  row (.pushTimeout t) (.block 0) s fun s => s.pushTimeout t

/-- QUARANTINE_END (R342): a quarantine ends (R342). -/
def execQuarantineEnd (ix : Nat) (s : State) : Host.Outcome State Fault Refusal :=
  row (.quarantineEnd ix) (.block 0) s fun s => s.quarantineEnd ix

end Sys2Proof.Machine
end

