-- ==== Sys2Proof/Machine/ExecCommand.lean ====
section
/-! DEFINITION. The meanings of the commands of commands, completions (chapters 10 and 11). -/

namespace Sys2Proof.Machine

/-- READ (R368): the command of tag t: READ (R350, R368). -/
def execRead (t : Nat) (s : State) : Host.Outcome State Fault Refusal :=
  row (.read t) (.block 0) s fun s => s.cmdRead t

/-- WRITE (R352): the command of tag t: WRITE (R352). -/
def execWrite (t : Nat) (s : State) : Host.Outcome State Fault Refusal :=
  row (.write t) (.block 0) s fun s => s.cmdWrite t

/-- DEALLOCATE (R353): the command of tag t: DEALLOCATE (R353). -/
def execDeallocate (t : Nat) (s : State) : Host.Outcome State Fault Refusal :=
  row (.deallocate t) (.block 0) s fun s => s.cmdDeallocate t

/-- FLUSH (R355): the command of tag t: FLUSH (R355). -/
def execFlush (t : Nat) (s : State) : Host.Outcome State Fault Refusal :=
  row (.flush t) (.block 0) s fun s => s.cmdFlush t

/-- COPY (R357): the command of tag t: COPY (R357, R358). -/
def execCopy (t : Nat) (s : State) : Host.Outcome State Fault Refusal :=
  row (.copy t) (.block 0) s fun s => s.cmdCopy t

/-- GATHER (R360): the command of tag t: GATHER (R359, R360). -/
def execGather (t : Nat) (s : State) : Host.Outcome State Fault Refusal :=
  row (.gather t) (.block 0) s fun s => s.cmdGather t

/-- VERIFY (R354): the command of tag t: VERIFY (R354). -/
def execVerify (t : Nat) (s : State) : Host.Outcome State Fault Refusal :=
  row (.verify t) (.block 0) s fun s => s.cmdVerify t

/-- ZONE_CLOSE (R361): the command of tag t: ZONE_ACTION CLOSE (R361). -/
def execZoneClose (t : Nat) (s : State) : Host.Outcome State Fault Refusal :=
  row (.zoneClose t) (.block 0) s fun s => s.cmdZoneClose t

/-- ZONE_FINISH (R361): the command of tag t: ZONE_ACTION FINISH (R361). -/
def execZoneFinish (t : Nat) (s : State) : Host.Outcome State Fault Refusal :=
  row (.zoneFinish t) (.block 0) s fun s => s.cmdZoneFinish t

/-- ZONE_RESET (R361): the command of tag t: ZONE_ACTION RESET (R361). -/
def execZoneReset (t : Nat) (s : State) : Host.Outcome State Fault Refusal :=
  row (.zoneReset t) (.block 0) s fun s => s.cmdZoneReset t

/-- ZONE_REPORT (R362): the command of tag t: ZONE_REPORT (R362). -/
def execZoneReport (t : Nat) (s : State) : Host.Outcome State Fault Refusal :=
  row (.zoneReport t) (.block 0) s fun s => s.cmdZoneReport t

/-- NS_CREATE (R385): the command of tag t: NS_CREATE (R385). -/
def execNsCreate (t : Nat) (s : State) : Host.Outcome State Fault Refusal :=
  row (.nsCreate t) (.block 0) s fun s => s.cmdNsCreate t

/-- NS_DELETE (R386): the command of tag t: NS_DELETE (R386). -/
def execNsDelete (t : Nat) (s : State) : Host.Outcome State Fault Refusal :=
  row (.nsDelete t) (.block 0) s fun s => s.cmdNsDelete t

/-- NS_DELETE_DONE (R386): the command of tag t: NS_DELETE completes (R386). -/
def execNsDeleteDone (t : Nat) (s : State) : Host.Outcome State Fault Refusal :=
  row (.nsDeleteDone t) (.block 0) s fun s => s.nsDeleteDone t

/-- IMAGE_DOWNLOAD (R387): the command of tag t: IMAGE_DOWNLOAD (R387). -/
def execImageDownload (t : Nat) (s : State) : Host.Outcome State Fault Refusal :=
  row (.imageDownload t) (.block 0) s fun s => s.cmdImageDownload t

/-- IMAGE_ACTIVATE (R388): the command of tag t: IMAGE_ACTIVATE (R388). -/
def execImageActivate (t : Nat) (s : State) : Host.Outcome State Fault Refusal :=
  row (.imageActivate t) (.block 0) s fun s => s.cmdImageActivate t

/-- ACTIVATION_SEQUENCE (R389): the next step of an activation (R389, R604). -/
def execActivationSequence (flashOk : Bool) (s : State) : Host.Outcome State Fault Refusal :=
  row (.activationSequence flashOk) (.block 0) s fun s => s.activationSequence flashOk

/-- LATENCY_TOLERANCE (R512): the command of tag t: LATENCY_TOLERANCE (R512). -/
def execLatencyTolerance (t : Nat) (s : State) : Host.Outcome State Fault Refusal :=
  row (.latencyTolerance t) (.block 0) s fun s => s.cmdLatencyTolerance t

/-- GET_LOG (R393): the command of tag t: GET_LOG (R393). -/
def execGetLog (t : Nat) (s : State) : Host.Outcome State Fault Refusal :=
  row (.getLog t) (.block 0) s fun s => s.cmdGetLog t

/-- ATTEST (R615): the command of tag t: ATTEST (R615). -/
def execAttest (t : Nat) (s : State) : Host.Outcome State Fault Refusal :=
  row (.attest t) (.block 0) s fun s => s.cmdAttest t

/-- QUEUE_RESET (R378): the command of tag t: QUEUE_RESET (R378). -/
def execQueueReset (t : Nat) (s : State) : Host.Outcome State Fault Refusal :=
  row (.queueReset t) (.block 0) s fun s => s.cmdQueueReset t

/-- QUEUE_RESET_DONE (R379): the command of tag t: QUEUE_RESET completes (R379). -/
def execQueueResetDone (t : Nat) (s : State) : Host.Outcome State Fault Refusal :=
  row (.queueResetDone t) (.block 0) s fun s => s.queueResetDone t

/-- REG_ACCESS_READ (R394): the command of tag t: REG_ACCESS with WRITE 0 (R394). -/
def execRegAccessRead (t : Nat) (s : State) : Host.Outcome State Fault Refusal :=
  row (.regAccessRead t) (.block 0) s fun s => s.cmdRegRead t

/-- REG_ACCESS_WRITE (R394): the command of tag t: REG_ACCESS with WRITE 1 (R394). -/
def execRegAccessWrite (t : Nat) (s : State) : Host.Outcome State Fault Refusal :=
  row (.regAccessWrite t) (.block 0) s fun s => s.cmdRegWrite t

/-- CLAIM_EVENT (R413): the command of tag t: CLAIM_EVENT (R413). -/
def execClaimEvent (t : Nat) (s : State) : Host.Outcome State Fault Refusal :=
  row (.claimEvent t) (.block 0) s fun s => s.cmdClaim t

/-- COMPLETE_EVENT (R417): the command of tag t: COMPLETE_EVENT (R417). -/
def execCompleteEvent (t : Nat) (s : State) : Host.Outcome State Fault Refusal :=
  row (.completeEvent t) (.block 0) s fun s => s.cmdComplete t

/-- COMMAND_COMPLETE (R397): the command of tag t: its completion is written or held (R397). -/
def execCommandComplete (t : Nat) (s : State) : Host.Outcome State Fault Refusal :=
  row (.commandComplete t) (.block 0) s fun s => s.commandComplete t

/-- READ_DATA_DELIVERED (R351): the command of tag t: its data is delivered (R351). -/
def execReadDataDelivered (t : Nat) (s : State) : Host.Outcome State Fault Refusal :=
  row (.readDataDelivered t) (.block 0) s fun s => s.readDelivered t

/-- FLUSH_DONE (R355): the command of tag t: a FLUSH completes (R355). -/
def execFlushDone (t : Nat) (s : State) : Host.Outcome State Fault Refusal :=
  row (.flushDone t) (.block 0) s fun s => s.flushDone t

/-- MOD_TIMER_EXPIRE (R406): MOD_TIME has passed (R406). -/
def execModTimerExpire (ix : Nat) (s : State) : Host.Outcome State Fault Refusal :=
  row (.modTimerExpire ix) (.block 0) s fun s => s.modTimer ix

end Sys2Proof.Machine
end

