-- ==== Sys2Proof/Machine/ExecEvent.lean ====
section
/-! DEFINITION. The meanings of the commands of events and turns (chapters 11 and 12). -/

namespace Sys2Proof.Machine

/-- EVC_MASK_WRITE (R419): a write of a target mask (R419). -/
def execEvcMaskWrite (ag : Agent) (n : Nat) (hi : Bool) (v : Word) (s : State) : Host.Outcome State Fault Refusal :=
  row (.evcMaskWrite ag n hi v) (.agent ag) s fun s => s.regRow ag (if hi then .evcMaskHi n else .evcMaskLo n) v

/-- EVC_RAISE (R664): a write of EVC_RAISE (R664). -/
def execEvcRaise (ag : Agent) (v : Word) (s : State) : Host.Outcome State Fault Refusal :=
  row (.evcRaise ag v) (.agent ag) s fun s => s.regRow ag .evcRaise v

/-- HEARTBEAT (R562): a whole TAI second due for heartbeats (R562). -/
def execHeartbeat (s : State) : Host.Outcome State Fault Refusal :=
  row .heartbeat (.block 16) s fun s => s.heartbeat

/-- TURN_END (R434): a turn of actuator a ends and the next begins (R424, R434). -/
def execTurnEnd (a : Nat) (rows : List RowPlan) (posts : List SysPlan) (s : State) : Host.Outcome State Fault Refusal :=
  row (.turnEnd a rows posts) (.block 10) s fun s => s.turnEnd a rows posts

end Sys2Proof.Machine
end

