-- ==== Sys2Proof/Machine/ExecMemory.lean ====
section
/-! DEFINITION. The meanings of the commands of HBM, SRAM, cache and warm reset (chapter 13). -/

namespace Sys2Proof.Machine

/-- SCRUB_READ (R461): the scrubber reads its next granule or byte (R461). -/
def execScrubRead (sram : Bool) (err : Nat) (s : State) : Host.Outcome State Fault Refusal :=
  row (.scrubRead sram err) (.block 11) s fun s => s.scrub sram err

/-- SCRUB_LATE (R462): a scrub lap exceeds LAP_LIMIT (R462). -/
def execScrubLate (s : State) : Host.Outcome State Fault Refusal :=
  row .scrubLate (.block 11) s fun s => s.scrubLate

/-- ROW_REPAIR (R465): a failing HBM row is repaired (R465). -/
def execRowRepair (adr : Nat) (grans : List Nat) (spare : Bool) (s : State) : Host.Outcome State Fault Refusal :=
  row (.rowRepair adr grans spare) (.block 11) s fun s => s.rowRepair adr grans spare

/-- STACK_FAIL (R480): an HBM stack fails (R480). -/
def execStackFail (k : Nat) (s : State) : Host.Outcome State Fault Refusal :=
  row (.stackFail k) (.block 11) s fun s => s.stackFail k

/-- CACHE_DRAIN (R479): a write of CCH_CTL (R479). -/
def execCacheDrain (ag : Agent) (v : Word) (s : State) : Host.Outcome State Fault Refusal :=
  row (.cacheDrain ag v) (.agent ag) s fun s => s.regRow ag .cchCtl v

/-- DRAIN_DONE (R479): a drain of the cache ends (R479). -/
def execDrainDone (s : State) : Host.Outcome State Fault Refusal :=
  row .drainDone (.block 13) s fun s => s.drainDone

/-- HBM_DIAG_WRITE (R472): HBM_DIAG.WRITE (R472). -/
def execHbmDiagWrite (ag : Agent) (v : Word) (s : State) : Host.Outcome State Fault Refusal :=
  row (.hbmDiagWrite ag v) (.agent ag) s fun s => s.regRow ag .hbmDiag v

/-- HBM_DIAG_READ (R472): HBM_DIAG.READ (R472). -/
def execHbmDiagRead (ag : Agent) (v : Word) (s : State) : Host.Outcome State Fault Refusal :=
  row (.hbmDiagRead ag v) (.agent ag) s fun s => s.regRow ag .hbmDiag v

/-- SRM_DIAG_WRITE (R472): SRM_DIAG.WRITE (R472). -/
def execSrmDiagWrite (ag : Agent) (v : Word) (s : State) : Host.Outcome State Fault Refusal :=
  row (.srmDiagWrite ag v) (.agent ag) s fun s => s.regRow ag .srmDiag v

/-- SRM_DIAG_READ (R472): SRM_DIAG.READ (R472). -/
def execSrmDiagRead (ag : Agent) (v : Word) (s : State) : Host.Outcome State Fault Refusal :=
  row (.srmDiagRead ag v) (.agent ag) s fun s => s.regRow ag .srmDiag v

/-- WARM_RESET (R469): a warm chip reset (R469). -/
def execWarmReset (s : State) : Host.Outcome State Fault Refusal :=
  row .warmReset (.block 15) s fun s => s.warmReset

end Sys2Proof.Machine
end

