-- ==== Sys2Proof/Machine/ExecDma.lean ====
section
/-! DEFINITION. The meanings of the commands of DMA channels (chapter 14). -/

namespace Sys2Proof.Machine

/-- MOVE_INDEX (R487): channel c performs an index-mode MOVE (R487). -/
def execMoveIndex (c : Nat) (fab : Option (Nat × Nat)) (s : State) : Host.Outcome State Fault Refusal :=
  row (.moveIndex c fab) (.block 14) s fun s => s.dmaMoveIndex c fab

/-- MOVE_TWO_DIMENSIONAL (R488): channel c performs a two-dimensional MOVE (R488). -/
def execMoveTwoDimensional (c : Nat) (fab : Option (Nat × Nat)) (s : State) : Host.Outcome State Fault Refusal :=
  row (.moveTwoDimensional c fab) (.block 14) s fun s => s.dmaMove2d c fab

/-- LOOP (R490): channel c executes LOOP (R490). -/
def execLoop (c : Nat) (s : State) : Host.Outcome State Fault Refusal :=
  row (.loop c) (.block 14) s fun s => s.dmaLoop c

/-- WAIT (R491): channel c executes WAIT on a timer, channel or signal (R491). -/
def execWait (c : Nat) (s : State) : Host.Outcome State Fault Refusal :=
  row (.wait c) (.block 14) s fun s => s.dmaWait c

/-- WAIT_SLOT (R492): channel c executes WAIT on a slot (R492). -/
def execWaitSlot (c : Nat) (s : State) : Host.Outcome State Fault Refusal :=
  row (.waitSlot c) (.block 14) s fun s => s.dmaWaitSlot c

/-- SIGNAL (R493): channel c executes SIGNAL KIND 0 (R493). -/
def execSignal (c : Nat) (s : State) : Host.Outcome State Fault Refusal :=
  row (.signal c) (.block 14) s fun s => s.dmaSignal c

/-- FLAG_WRITE (R493): channel c executes SIGNAL KIND 1 (R493). -/
def execFlagWrite (c : Nat) (s : State) : Host.Outcome State Fault Refusal :=
  row (.flagWrite c) (.block 14) s fun s => s.dmaFlagWrite c

/-- DMA_EVENT (R491): the oldest event is counted (R491, R494). -/
def execDmaEvent (s : State) : Host.Outcome State Fault Refusal :=
  row .dmaEvent (.block 14) s fun s => s.dmaEvent

/-- TIMER_EVENT (R495): timer n emits an event (R495). -/
def execTimerEvent (n : Nat) (s : State) : Host.Outcome State Fault Refusal :=
  row (.timerEvent n) (.block 14) s fun s => s.timerEvent n

/-- START (R494): DMA_CH_CTL_c.START (R494). -/
def execStart (ag : Agent) (c : Nat) (v : Word) (s : State) : Host.Outcome State Fault Refusal :=
  row (.start ag c v) (.agent ag) s fun s => s.regRow ag (.dmaChCtl c) v

/-- STOP (R505): DMA_CH_CTL_c.STOP (R505). -/
def execStop (ag : Agent) (c : Nat) (v : Word) (s : State) : Host.Outcome State Fault Refusal :=
  row (.stop ag c v) (.agent ag) s fun s => s.regRow ag (.dmaChCtl c) v

/-- CLR (R499): DMA_CH_CTL_c.CLR (R499). -/
def execClr (ag : Agent) (c : Nat) (v : Word) (s : State) : Host.Outcome State Fault Refusal :=
  row (.clr ag c v) (.agent ag) s fun s => s.regRow ag (.dmaChCtl c) v

/-- DMA_WATCHDOG (R504): the watchdog of channel c runs out (R504). -/
def execDmaWatchdog (c : Nat) (s : State) : Host.Outcome State Fault Refusal :=
  row (.dmaWatchdog c) (.block 14) s fun s => s.dmaWatchdog c

end Sys2Proof.Machine
end

