-- ==== Sys2Proof/Machine/ExecPower.lean ====
section
/-! DEFINITION. The meanings of the commands of power, boot and flash (chapters 15 and 18). -/

namespace Sys2Proof.Machine

/-- POWER_ENTRY_BEGIN (R513): an armed entry begins (R513). -/
def execPowerEntryBegin (s : State) : Host.Outcome State Fault Refusal :=
  row .powerEntryBegin (.block 15) s fun s => s.powerEntryBegin

/-- PARTICIPANT_READY (R515): an entry participant answers (R515). -/
def execParticipantReady (repairing : Bool) (s : State) : Host.Outcome State Fault Refusal :=
  row (.participantReady repairing) (.block 15) s fun s => s.participantReady repairing

/-- WAKE_EXIT (R519): the participants restart (R519). -/
def execWakeExit (s : State) : Host.Outcome State Fault Refusal :=
  row .wakeExit (.block 15) s fun s => s.wakeExit

/-- WAKE_ASSERT (R634): WAKE is asserted (R514, R634). -/
def execWakeAssert (s : State) : Host.Outcome State Fault Refusal :=
  row .wakeAssert .pins s fun s => s.wakeAssert

/-- SUPPLY_SAMPLE (R525): SENSE_12V is sampled (R525). -/
def execSupplySample (mv : Nat) (s : State) : Host.Outcome State Fault Refusal :=
  row (.supplySample mv) (.block 15) s fun s => s.supplySample mv

/-- STAGE_ENTER (R526): a stage is entered (R526). -/
def execStageEnter (s : State) : Host.Outcome State Fault Refusal :=
  row .stageEnter (.block 15) s fun s => s.stageEnter

/-- STAGE_LEAVE (R527): a stage is left (R527). -/
def execStageLeave (s : State) : Host.Outcome State Fault Refusal :=
  row .stageLeave (.block 15) s fun s => s.stageLeave

/-- PWRGOOD_FALL (R528): PWRGOOD falls (R528). -/
def execPwrgoodFall (s : State) : Host.Outcome State Fault Refusal :=
  row .pwrgoodFall .pins s fun s => s.pwrgoodFall

/-- ECLIPSE_SAVE_END (R538): the eclipse save ends (R538). -/
def execEclipseSaveEnd (s : State) : Host.Outcome State Fault Refusal :=
  row .eclipseSaveEnd (.block 15) s fun s => s.eclipseSaveEnd

/-- RESET_N_FALL (R637): RESET_N stays low for 1 µs (R637). -/
def execResetNFall (s : State) : Host.Outcome State Fault Refusal :=
  row .resetNFall .pins s fun s => s.resetFall

/-- COLD_BOOT (R606): the device boots (R606). -/
def execColdBoot (trained : Nat) (checkFailed : Nat) (checker : Nat) (s : State) : Host.Outcome State Fault Refusal :=
  row (.coldBoot trained checkFailed checker) .pins s fun s => s.coldBoot trained checkFailed checker

/-- FLASH_READ (R623): SEC_FLASH_CTL.GO with OP 0 (R623). -/
def execFlashRead (ag : Agent) (v : Word) (s : State) : Host.Outcome State Fault Refusal :=
  row (.flashRead ag v) (.agent ag) s fun s => s.regRow ag .secFlashCtl v

/-- FLASH_PROGRAM (R623): SEC_FLASH_CTL.GO with OP 1 (R623). -/
def execFlashProgram (ag : Agent) (v : Word) (s : State) : Host.Outcome State Fault Refusal :=
  row (.flashProgram ag v) (.agent ag) s fun s => s.regRow ag .secFlashCtl v

/-- FLASH_ERASE (R623): SEC_FLASH_CTL.GO with OP 2 (R623). -/
def execFlashErase (ag : Agent) (v : Word) (s : State) : Host.Outcome State Fault Refusal :=
  row (.flashErase ag v) (.agent ag) s fun s => s.regRow ag .secFlashCtl v

/-- FLASH_OP_DONE (R605): a flash operation completes (R605). -/
def execFlashOpDone (ok : Bool) (s : State) : Host.Outcome State Fault Refusal :=
  row (.flashOpDone ok) .mgmt s fun s => s.flashOpDone ok

end Sys2Proof.Machine
end

