-- ==== Sys2Proof/Machine/ExecTime.lean ====
section
/-! DEFINITION. The meanings of the commands of time (chapter 16). -/

namespace Sys2Proof.Machine

/-- PTP_SYNC (R556): a Sync and its origin time (R556). -/
def execPtpSync (port : Nat) (identity : BitVec 64) (origin : Nat) (s : State) : Host.Outcome State Fault Refusal :=
  row (.ptpSync port identity origin) (.block 16) s fun s => s.ptpSync port identity origin

/-- PTP_ANNOUNCE (R554): an Announce message (R554). -/
def execPtpAnnounce (m : Master) (s : State) : Host.Outcome State Fault Refusal :=
  row (.ptpAnnounce m) (.block 16) s fun s => s.ptpAnnounce m

/-- DELAY_REQ_SEND (R554): a Delay_Req is due (R554). -/
def execDelayReqSend (s : State) : Host.Outcome State Fault Refusal :=
  row .delayReqSend (.block 16) s fun s => s.delayReqSend

/-- DELAY_RESP (R556): a Delay_Resp arrives (R556). -/
def execDelayResp (port : Nat) (identity : BitVec 64) (received : Nat) (s : State) : Host.Outcome State Fault Refusal :=
  row (.delayResp port identity received) (.block 16) s fun s => s.delayResp port identity received

/-- PTP_HOLDOVER (R557): the PTP reference is lost (R557). -/
def execPtpHoldover (announce : Bool) (s : State) : Host.Outcome State Fault Refusal :=
  row (.ptpHoldover announce) (.block 16) s fun s => s.ptpHoldover announce

/-- PPS_HOLDOVER (R558): 2 s without an accepted SYNC edge (R558). -/
def execPpsHoldover (s : State) : Host.Outcome State Fault Refusal :=
  row .ppsHoldover (.block 16) s fun s => s.ppsHoldover

/-- PPS_OUTPUT_SECOND (R559): a whole TAI second on the PPS output (R559). -/
def execPpsOutputSecond (s : State) : Host.Outcome State Fault Refusal :=
  row .ppsOutputSecond (.block 16) s fun s => s.ppsOutput

/-- TIM_SET_WRITE (R549): a write of TIM_SET, with the lower half held (R549, R4). -/
def execTimSetWrite (ag : Agent) (v : Word) (s : State) : Host.Outcome State Fault Refusal :=
  row (.timSetWrite ag v) (.agent ag) s fun s => s.regRow ag .timSetHi v

/-- CONJUNCTION_COMPUTE (R565): a computation of the digest finishes (R565). -/
def execConjunctionCompute (s : State) : Host.Outcome State Fault Refusal :=
  row .conjunctionCompute (.block 16) s fun s => s.conjCompute

end Sys2Proof.Machine
end

