-- ==== Sys2Proof/Machine/ExecFault.lean ====
section
/-! DEFINITION. The meanings of the commands of faults and the Tail recorder (chapter 17). -/

namespace Sys2Proof.Machine

/-- FAULT_REPORT (R568): a fault report reaches the collector (R568). -/
def execFaultReport (rep : Option Report) (s : State) : Host.Outcome State Fault Refusal :=
  row (.faultReport rep) .pins s fun s => s.faultReport rep

/-- FAULT_RECORD_WRITE (R576): a buffered report becomes a record (R576). -/
def execFaultRecordWrite (s : State) : Host.Outcome State Fault Refusal :=
  row .faultRecordWrite .pins s fun s => s.faultRecordWrite

/-- FAULT_FORCE (R573): FLT_SRC_n.FORCE (R573). -/
def execFaultForce (ag : Agent) (n : Nat) (v : Word) (s : State) : Host.Outcome State Fault Refusal :=
  row (.faultForce ag n v) (.agent ag) s fun s => s.regRow ag (.fltSrc n) v

/-- FLT_RD_WRITE (R575): a write of FLT_RD (R575). -/
def execFltRdWrite (ag : Agent) (v : Word) (s : State) : Host.Outcome State Fault Refusal :=
  row (.fltRdWrite ag v) (.agent ag) s fun s => s.regRow ag .fltRd v

/-- FAULT_RECOVERY (R581): a source leaves FAULTED (R581). -/
def execFaultRecovery (n : Nat) (s : State) : Host.Outcome State Fault Refusal :=
  row (.faultRecovery n) (.block 17) s fun s => s.faultRecovery n

/-- TRIG (R586): TAL_CTL.TRIG (R586). -/
def execTrig (ag : Agent) (v : Word) (s : State) : Host.Outcome State Fault Refusal :=
  row (.trig ag v) (.agent ag) s fun s => s.regRow ag .talCtl v

/-- REARM (R592): TAL_CTL.REARM (R592). -/
def execRearm (ag : Agent) (v : Word) (s : State) : Host.Outcome State Fault Refusal :=
  row (.rearm ag v) (.agent ag) s fun s => s.regRow ag .talCtl v

/-- TAIL_PERIOD (R586): PERIOD_MS has passed (R586). -/
def execTailPeriod (s : State) : Host.Outcome State Fault Refusal :=
  row .tailPeriod (.block 18) s fun s => s.tailPeriod

/-- TAIL_CAPTURE (R589): a capture goes on (R589). -/
def execTailCapture (s : State) : Host.Outcome State Fault Refusal :=
  row .tailCapture .live s fun s => s.tailCapture

/-- TAL_LIST_WRITE (R590): a write of a capture list entry (R590). -/
def execTalListWrite (ag : Agent) (l : Nat) (ix : Nat) (v : Word) (s : State) : Host.Outcome State Fault Refusal :=
  row (.talListWrite ag l ix v) (.agent ag) s fun s => s.regRow ag (.talList l ix) v

/-- TAL_CFG_WRITE (R592): a write of TAL_CFG (R592). -/
def execTalCfgWrite (ag : Agent) (v : Word) (s : State) : Host.Outcome State Fault Refusal :=
  row (.talCfgWrite ag v) (.agent ag) s fun s => s.regRow ag .talCfg v

end Sys2Proof.Machine
end

