-- ==== Sys2Proof/Machine/ExecManagement.lean ====
section
/-! DEFINITION. The meanings of the commands of management port, pins and the other rows (chapters 18 to 20). -/

namespace Sys2Proof.Machine

/-- READ_MGMT (R649): a management-port READ (R649). -/
def execReadMgmt (addr : Nat) (pecOk : Bool) (s : State) : Host.Outcome State Fault Refusal :=
  row (.readMgmt addr pecOk) .mgmt s fun s => s.readMgmt addr pecOk

/-- LAST_STATUS (R649): a management-port LAST_STATUS (R649). -/
def execLastStatus (s : State) : Host.Outcome State Fault Refusal :=
  row .lastStatus .mgmt s fun s => s.lastStatusRead

/-- MGMT_SCL_TIMEOUT (R642): SCL has been low for 35 ms (R642). -/
def execMgmtSclTimeout (s : State) : Host.Outcome State Fault Refusal :=
  row .mgmtSclTimeout .mgmt s fun s => s.sclTimeout

/-- ETH_IP_CTL_WRITE (R655): a write of ETH_IP_CTL_p (R655). -/
def execEthIpCtlWrite (ag : Agent) (p : Nat) (v : Word) (s : State) : Host.Outcome State Fault Refusal :=
  row (.ethIpCtlWrite ag p v) (.agent ag) s fun s => s.regRow ag (.ethIpCtl p) v

/-- ETH_ADDRESS_WRITE (R655): a write of ETH_IPV4_p, ETH_IPV4_GW_p or ETH_IPV6_p_k (R655). -/
def execEthAddressWrite (ag : Agent) (p : Nat) (k : Nat) (v : Word) (s : State) : Host.Outcome State Fault Refusal :=
  row (.ethAddressWrite ag p k v) (.agent ag) s fun s => s.regRow ag (ethAddressReg p k) v

/-- SHARED_RESOURCE_WRITE (R640): a write of a register of Table 19.6 (R640). -/
def execSharedResourceWrite (ag : Agent) (reg : Reg) (v : Word) (s : State) : Host.Outcome State Fault Refusal :=
  row (.sharedResourceWrite ag reg v) (.agent ag) s fun s => s.regRow ag reg v

/-- PWRGOOD_RISE (R539): PWRGOOD rises (R539, R642). -/
def execPwrgoodRise (straps : Nat) (railsLost : Bool) (s : State) : Host.Outcome State Fault Refusal :=
  row (.pwrgoodRise straps railsLost) .pins s fun s => s.pwrgoodRise straps railsLost

/-- POWER_UP (R634): VDD_AON comes within tolerance (R634). -/
def execPowerUp (s : State) : Host.Outcome State Fault Refusal :=
  row .powerUp .pins s fun s => s.powerUp

/-- DIE_TEMPERATURE_CHANGE (R644): the die temperature changes (R644). -/
def execDieTemperatureChange (temp : Int) (s : State) : Host.Outcome State Fault Refusal :=
  row (.dieTemperatureChange temp) (.block 20) s fun s => s.dieTemperature temp

/-- CORE_LOCKSTEP_FAIL (R28): a control core fails its lockstep check (R28). -/
def execCoreLockstepFail (c : Nat) (s : State) : Host.Outcome State Fault Refusal :=
  row (.coreLockstepFail c) (.block 20) s fun s => s.coreLockstep c

/-- SLEW_END (R546): an offset has been removed by slewing (R546). -/
def execSlewEnd (s : State) : Host.Outcome State Fault Refusal :=
  row .slewEnd (.block 16) s fun s => s.slewEnd

/-- JTAG_INSTRUCTION (R613): a JTAG instruction (R613). -/
def execJtagInstruction (ir : Nat) (s : State) : Host.Outcome State Fault Refusal :=
  row (.jtagInstruction ir) .pins s fun s => s.jtagInstruction ir

end Sys2Proof.Machine
end

