-- ==== Sys2Proof/Machine/Dispatch.lean ====
section
/-! DEFINITION. One arm per command. -/

namespace Sys2Proof.Machine

def exec (i : Instr) (s : State) : Host.Outcome State Fault Refusal :=
  match i with
  | .setupRegisterWrite ag addr v => Sys2Proof.Machine.execSetupRegisterWrite ag addr v s
  | .plcStripeCfgWrite ag v => Sys2Proof.Machine.execPlcStripeCfgWrite ag v s
  | .bandSetFree n => Sys2Proof.Machine.execBandSetFree n s
  | .reservationGrant => Sys2Proof.Machine.execReservationGrant s
  | .writeAccept t => Sys2Proof.Machine.execWriteAccept t s
  | .landingRecopyDone kind n stack => Sys2Proof.Machine.execLandingRecopyDone kind n stack s
  | .rowComplete n => Sys2Proof.Machine.execRowComplete n s
  | .journalOnMedia n => Sys2Proof.Machine.execJournalOnMedia n s
  | .checkpointBegin => Sys2Proof.Machine.execCheckpointBegin s
  | .checkpointInForce => Sys2Proof.Machine.execCheckpointInForce s
  | .mapRebuild badRoots bad => Sys2Proof.Machine.execMapRebuild badRoots bad s
  | .chnStHeadWrite ag st v => Sys2Proof.Machine.execChnStHeadWrite ag st v s
  | .headSwitch st => Sys2Proof.Machine.execHeadSwitch st s
  | .chnAfSelWrite ag n v => Sys2Proof.Machine.execChnAfSelWrite ag n v s
  | .frontEndFail n => Sys2Proof.Machine.execFrontEndFail n s
  | .servoWedge st o => Sys2Proof.Machine.execServoWedge st o s
  | .decodeStop st o => Sys2Proof.Machine.execDecodeStop st o s
  | .deepDecodeDone k word => Sys2Proof.Machine.execDeepDecodeDone k word s
  | .rereadDone ix missed values => Sys2Proof.Machine.execRereadDone ix missed values s
  | .rebuildDone ix => Sys2Proof.Machine.execRebuildDone ix s
  | .chnStatSnap ag v => Sys2Proof.Machine.execChnStatSnap ag v s
  | .chnStatSnapClear ag v => Sys2Proof.Machine.execChnStatSnapClear ag v s
  | .linkAck a w parts => Sys2Proof.Machine.execLinkAck a w parts s
  | .preampFault a w parts => Sys2Proof.Machine.execPreampFault a w parts s
  | .linkAckTimeout a => Sys2Proof.Machine.execLinkAckTimeout a s
  | .linkResetRetry a => Sys2Proof.Machine.execLinkResetRetry a s
  | .contactRestore h => Sys2Proof.Machine.execContactRestore h s
  | .plkClr ag n v => Sys2Proof.Machine.execPlkClr ag n v s
  | .touchdownStart ag v => Sys2Proof.Machine.execTouchdownStart ag v s
  | .touchdownStep => Sys2Proof.Machine.execTouchdownStep s
  | .wfltAssert a ns => Sys2Proof.Machine.execWfltAssert a ns s
  | .verifyDone id => Sys2Proof.Machine.execVerifyDone id s
  | .verifyWindowExpire id => Sys2Proof.Machine.execVerifyWindowExpire id s
  | .nop q pos => Sys2Proof.Machine.execNop q pos s
  | .ldi q pos => Sys2Proof.Machine.execLdi q pos s
  | .ldih q pos => Sys2Proof.Machine.execLdih q pos s
  | .add q pos => Sys2Proof.Machine.execAdd q pos s
  | .addv q pos => Sys2Proof.Machine.execAddv q pos s
  | .and q pos => Sys2Proof.Machine.execAnd q pos s
  | .cmp q pos => Sys2Proof.Machine.execCmp q pos s
  | .cmpv q pos => Sys2Proof.Machine.execCmpv q pos s
  | .ldp q pos => Sys2Proof.Machine.execLdp q pos s
  | .stp q pos => Sys2Proof.Machine.execStp q pos s
  | .branch q => Sys2Proof.Machine.execBranch q s
  | .call q => Sys2Proof.Machine.execCall q s
  | .ret q => Sys2Proof.Machine.execRet q s
  | .rett q => Sys2Proof.Machine.execRett q s
  | .actAtPosition q pos => Sys2Proof.Machine.execActAtPosition q pos s
  | .waitEnd q o => Sys2Proof.Machine.execWaitEnd q o s
  | .waitTimeout q => Sys2Proof.Machine.execWaitTimeout q s
  | .seqInterrupt q => Sys2Proof.Machine.execSeqInterrupt q s
  | .privTrap q => Sys2Proof.Machine.execPrivTrap q s
  | .controlStoreReload q flip => Sys2Proof.Machine.execControlStoreReload q flip s
  | .lockstepFail q => Sys2Proof.Machine.execLockstepFail q s
  | .seqCsRead ag v => Sys2Proof.Machine.execSeqCsRead ag v s
  | .seqCsInject ag v => Sys2Proof.Machine.execSeqCsInject ag v s
  | .servoSample a late => Sys2Proof.Machine.execServoSample a late s
  | .swapRequest ag n v => Sys2Proof.Machine.execSwapRequest ag n v s
  | .sceWindowWrite ag ofs v => Sys2Proof.Machine.execSceWindowWrite ag ofs v s
  | .sceTgtWrite ag st v => Sys2Proof.Machine.execSceTgtWrite ag st v s
  | .go ag a v => Sys2Proof.Machine.execGo ag a v s
  | .load ag a v => Sys2Proof.Machine.execLoad ag a v s
  | .unload ag a v => Sys2Proof.Machine.execUnload ag a v s
  | .seekEnd a => Sys2Proof.Machine.execSeekEnd a s
  | .seekTimeout a => Sys2Proof.Machine.execSeekTimeout a s
  | .loadFail a => Sys2Proof.Machine.execLoadFail a s
  | .unloadDone a => Sys2Proof.Machine.execUnloadDone a s
  | .unloadFail a => Sys2Proof.Machine.execUnloadFail a s
  | .faultReload a => Sys2Proof.Machine.execFaultReload a s
  | .currentLoopPeriod a isense vcoil => Sys2Proof.Machine.execCurrentLoopPeriod a isense vcoil s
  | .slotMem n => Sys2Proof.Machine.execSlotMem n s
  | .spindleEnable ag v => Sys2Proof.Machine.execSpindleEnable ag v s
  | .spindleDisable ag v => Sys2Proof.Machine.execSpindleDisable ag v s
  | .targetRpmWrite ag v => Sys2Proof.Machine.execTargetRpmWrite ag v s
  | .listenEnd speed => Sys2Proof.Machine.execListenEnd speed s
  | .senseEnd sector => Sys2Proof.Machine.execSenseEnd sector s
  | .alignEnd => Sys2Proof.Machine.execAlignEnd s
  | .openLoopEnd => Sys2Proof.Machine.execOpenLoopEnd s
  | .startRetry => Sys2Proof.Machine.execStartRetry s
  | .spinupTimeout => Sys2Proof.Machine.execSpinupTimeout s
  | .brakeEnd => Sys2Proof.Machine.execBrakeEnd s
  | .zeroCrossing late => Sys2Proof.Machine.execZeroCrossing late s
  | .spindleCurrentPeriod isense => Sys2Proof.Machine.execSpindleCurrentPeriod isense s
  | .spindleIndex late => Sys2Proof.Machine.execSpindleIndex late s
  | .syncEdge => Sys2Proof.Machine.execSyncEdge s
  | .tlHoldover => Sys2Proof.Machine.execTlHoldover s
  | .ethFrameReceive p f level => Sys2Proof.Machine.execEthFrameReceive p f level s
  | .roceWriteReceive k bad => Sys2Proof.Machine.execRoceWriteReceive k bad s
  | .sqDb ix w => Sys2Proof.Machine.execSqDb ix w s
  | .cqDb ix w => Sys2Proof.Machine.execCqDb ix w s
  | .evDb ix w => Sys2Proof.Machine.execEvDb ix w s
  | .pushDataWrite ix ofs bytes bad => Sys2Proof.Machine.execPushDataWrite ix ofs bytes bad s
  | .rdmaReadResponse ix bytes bad => Sys2Proof.Machine.execRdmaReadResponse ix bytes bad s
  | .roceAckReceive ix k psn => Sys2Proof.Machine.execRoceAckReceive ix k psn s
  | .rnrNakReceive ix => Sys2Proof.Machine.execRnrNakReceive ix s
  | .requestRetryTimeout ix => Sys2Proof.Machine.execRequestRetryTimeout ix s
  | .cnpReceive ix => Sys2Proof.Machine.execCnpReceive ix s
  | .rateIncrease ix => Sys2Proof.Machine.execRateIncrease ix s
  | .hostAckTimer ix => Sys2Proof.Machine.execHostAckTimer ix s
  | .req port m => Sys2Proof.Machine.execReq port m s
  | .rtu ix => Sys2Proof.Machine.execRtu ix s
  | .dreq ix release => Sys2Proof.Machine.execDreq ix release s
  | .drep ix => Sys2Proof.Machine.execDrep ix s
  | .lap ix p => Sys2Proof.Machine.execLap ix p s
  | .rej ix => Sys2Proof.Machine.execRej ix s
  | .admitTimeout ix => Sys2Proof.Machine.execAdmitTimeout ix s
  | .lineageRelease l => Sys2Proof.Machine.execLineageRelease l s
  | .linkLoss p => Sys2Proof.Machine.execLinkLoss p s
  | .pathTimeout ix => Sys2Proof.Machine.execPathTimeout ix s
  | .linkUp p partner fec74 => Sys2Proof.Machine.execLinkUp p partner fec74 s
  | .ethCfgWrite ag p v => Sys2Proof.Machine.execEthCfgWrite ag p v s
  | .fetchIssue => Sys2Proof.Machine.execFetchIssue s
  | .grantIssue t => Sys2Proof.Machine.execGrantIssue t s
  | .pushTimeout t => Sys2Proof.Machine.execPushTimeout t s
  | .quarantineEnd ix => Sys2Proof.Machine.execQuarantineEnd ix s
  | .read t => Sys2Proof.Machine.execRead t s
  | .write t => Sys2Proof.Machine.execWrite t s
  | .deallocate t => Sys2Proof.Machine.execDeallocate t s
  | .flush t => Sys2Proof.Machine.execFlush t s
  | .copy t => Sys2Proof.Machine.execCopy t s
  | .gather t => Sys2Proof.Machine.execGather t s
  | .verify t => Sys2Proof.Machine.execVerify t s
  | .zoneClose t => Sys2Proof.Machine.execZoneClose t s
  | .zoneFinish t => Sys2Proof.Machine.execZoneFinish t s
  | .zoneReset t => Sys2Proof.Machine.execZoneReset t s
  | .zoneReport t => Sys2Proof.Machine.execZoneReport t s
  | .nsCreate t => Sys2Proof.Machine.execNsCreate t s
  | .nsDelete t => Sys2Proof.Machine.execNsDelete t s
  | .nsDeleteDone t => Sys2Proof.Machine.execNsDeleteDone t s
  | .imageDownload t => Sys2Proof.Machine.execImageDownload t s
  | .imageActivate t => Sys2Proof.Machine.execImageActivate t s
  | .activationSequence flashOk => Sys2Proof.Machine.execActivationSequence flashOk s
  | .latencyTolerance t => Sys2Proof.Machine.execLatencyTolerance t s
  | .getLog t => Sys2Proof.Machine.execGetLog t s
  | .attest t => Sys2Proof.Machine.execAttest t s
  | .queueReset t => Sys2Proof.Machine.execQueueReset t s
  | .queueResetDone t => Sys2Proof.Machine.execQueueResetDone t s
  | .regAccessRead t => Sys2Proof.Machine.execRegAccessRead t s
  | .regAccessWrite t => Sys2Proof.Machine.execRegAccessWrite t s
  | .claimEvent t => Sys2Proof.Machine.execClaimEvent t s
  | .completeEvent t => Sys2Proof.Machine.execCompleteEvent t s
  | .commandComplete t => Sys2Proof.Machine.execCommandComplete t s
  | .readDataDelivered t => Sys2Proof.Machine.execReadDataDelivered t s
  | .flushDone t => Sys2Proof.Machine.execFlushDone t s
  | .modTimerExpire ix => Sys2Proof.Machine.execModTimerExpire ix s
  | .evcMaskWrite ag n hi v => Sys2Proof.Machine.execEvcMaskWrite ag n hi v s
  | .evcRaise ag v => Sys2Proof.Machine.execEvcRaise ag v s
  | .heartbeat => Sys2Proof.Machine.execHeartbeat s
  | .turnEnd a rows posts => Sys2Proof.Machine.execTurnEnd a rows posts s
  | .scrubRead sram err => Sys2Proof.Machine.execScrubRead sram err s
  | .scrubLate => Sys2Proof.Machine.execScrubLate s
  | .rowRepair adr grans spare => Sys2Proof.Machine.execRowRepair adr grans spare s
  | .stackFail k => Sys2Proof.Machine.execStackFail k s
  | .cacheDrain ag v => Sys2Proof.Machine.execCacheDrain ag v s
  | .drainDone => Sys2Proof.Machine.execDrainDone s
  | .hbmDiagWrite ag v => Sys2Proof.Machine.execHbmDiagWrite ag v s
  | .hbmDiagRead ag v => Sys2Proof.Machine.execHbmDiagRead ag v s
  | .srmDiagWrite ag v => Sys2Proof.Machine.execSrmDiagWrite ag v s
  | .srmDiagRead ag v => Sys2Proof.Machine.execSrmDiagRead ag v s
  | .warmReset => Sys2Proof.Machine.execWarmReset s
  | .moveIndex c fab => Sys2Proof.Machine.execMoveIndex c fab s
  | .moveTwoDimensional c fab => Sys2Proof.Machine.execMoveTwoDimensional c fab s
  | .loop c => Sys2Proof.Machine.execLoop c s
  | .wait c => Sys2Proof.Machine.execWait c s
  | .waitSlot c => Sys2Proof.Machine.execWaitSlot c s
  | .signal c => Sys2Proof.Machine.execSignal c s
  | .flagWrite c => Sys2Proof.Machine.execFlagWrite c s
  | .dmaEvent => Sys2Proof.Machine.execDmaEvent s
  | .timerEvent n => Sys2Proof.Machine.execTimerEvent n s
  | .start ag c v => Sys2Proof.Machine.execStart ag c v s
  | .stop ag c v => Sys2Proof.Machine.execStop ag c v s
  | .clr ag c v => Sys2Proof.Machine.execClr ag c v s
  | .dmaWatchdog c => Sys2Proof.Machine.execDmaWatchdog c s
  | .powerEntryBegin => Sys2Proof.Machine.execPowerEntryBegin s
  | .participantReady repairing => Sys2Proof.Machine.execParticipantReady repairing s
  | .wakeExit => Sys2Proof.Machine.execWakeExit s
  | .wakeAssert => Sys2Proof.Machine.execWakeAssert s
  | .supplySample mv => Sys2Proof.Machine.execSupplySample mv s
  | .stageEnter => Sys2Proof.Machine.execStageEnter s
  | .stageLeave => Sys2Proof.Machine.execStageLeave s
  | .pwrgoodFall => Sys2Proof.Machine.execPwrgoodFall s
  | .eclipseSaveEnd => Sys2Proof.Machine.execEclipseSaveEnd s
  | .resetNFall => Sys2Proof.Machine.execResetNFall s
  | .coldBoot trained checkFailed checker => Sys2Proof.Machine.execColdBoot trained checkFailed checker s
  | .flashRead ag v => Sys2Proof.Machine.execFlashRead ag v s
  | .flashProgram ag v => Sys2Proof.Machine.execFlashProgram ag v s
  | .flashErase ag v => Sys2Proof.Machine.execFlashErase ag v s
  | .flashOpDone ok => Sys2Proof.Machine.execFlashOpDone ok s
  | .ptpSync port identity origin => Sys2Proof.Machine.execPtpSync port identity origin s
  | .ptpAnnounce m => Sys2Proof.Machine.execPtpAnnounce m s
  | .delayReqSend => Sys2Proof.Machine.execDelayReqSend s
  | .delayResp port identity received => Sys2Proof.Machine.execDelayResp port identity received s
  | .ptpHoldover announce => Sys2Proof.Machine.execPtpHoldover announce s
  | .ppsHoldover => Sys2Proof.Machine.execPpsHoldover s
  | .ppsOutputSecond => Sys2Proof.Machine.execPpsOutputSecond s
  | .timSetWrite ag v => Sys2Proof.Machine.execTimSetWrite ag v s
  | .conjunctionCompute => Sys2Proof.Machine.execConjunctionCompute s
  | .faultReport rep => Sys2Proof.Machine.execFaultReport rep s
  | .faultRecordWrite => Sys2Proof.Machine.execFaultRecordWrite s
  | .faultForce ag n v => Sys2Proof.Machine.execFaultForce ag n v s
  | .fltRdWrite ag v => Sys2Proof.Machine.execFltRdWrite ag v s
  | .faultRecovery n => Sys2Proof.Machine.execFaultRecovery n s
  | .trig ag v => Sys2Proof.Machine.execTrig ag v s
  | .rearm ag v => Sys2Proof.Machine.execRearm ag v s
  | .tailPeriod => Sys2Proof.Machine.execTailPeriod s
  | .tailCapture => Sys2Proof.Machine.execTailCapture s
  | .talListWrite ag l ix v => Sys2Proof.Machine.execTalListWrite ag l ix v s
  | .talCfgWrite ag v => Sys2Proof.Machine.execTalCfgWrite ag v s
  | .readMgmt addr pecOk => Sys2Proof.Machine.execReadMgmt addr pecOk s
  | .lastStatus => Sys2Proof.Machine.execLastStatus s
  | .mgmtSclTimeout => Sys2Proof.Machine.execMgmtSclTimeout s
  | .ethIpCtlWrite ag p v => Sys2Proof.Machine.execEthIpCtlWrite ag p v s
  | .ethAddressWrite ag p k v => Sys2Proof.Machine.execEthAddressWrite ag p k v s
  | .sharedResourceWrite ag reg v => Sys2Proof.Machine.execSharedResourceWrite ag reg v s
  | .pwrgoodRise straps railsLost => Sys2Proof.Machine.execPwrgoodRise straps railsLost s
  | .powerUp => Sys2Proof.Machine.execPowerUp s
  | .dieTemperatureChange temp => Sys2Proof.Machine.execDieTemperatureChange temp s
  | .coreLockstepFail c => Sys2Proof.Machine.execCoreLockstepFail c s
  | .slewEnd => Sys2Proof.Machine.execSlewEnd s
  | .jtagInstruction ir => Sys2Proof.Machine.execJtagInstruction ir s

end Sys2Proof.Machine
end

