-- ==== Sys2Proof/Safety.lean ====
section
/-! DEFINITION. What counts as a safe run, in the terms that statements use: who takes a command, what a command answers, what an answer
leaves alone, and the invariant that every step keeps. -/

namespace Sys2Proof.Machine

end Sys2Proof.Machine

namespace Sys2Proof

open Sys2Proof.Machine

/-- Who takes each command. -/
def Instr.need : Instr → Need
  | .setupRegisterWrite ag _ _ => .agent ag
  | .plcStripeCfgWrite ag _ => .agent ag
  | .bandSetFree _ => .block 9
  | .reservationGrant => .block 0
  | .writeAccept _ => .block 0
  | .landingRecopyDone _ _ _ => .block 11
  | .rowComplete _ => .block 9
  | .journalOnMedia _ => .block 9
  | .checkpointBegin => .block 9
  | .checkpointInForce => .block 9
  | .mapRebuild _ _ => .block 9
  | .chnStHeadWrite ag _ _ => .agent ag
  | .headSwitch _ => .block 3
  | .chnAfSelWrite ag _ _ => .agent ag
  | .frontEndFail _ => .block 3
  | .servoWedge _ _ => .block 7
  | .decodeStop _ _ => .block 3
  | .deepDecodeDone _ _ => .block 3
  | .rereadDone _ _ _ => .block 3
  | .rebuildDone _ => .block 3
  | .chnStatSnap ag _ => .agent ag
  | .chnStatSnapClear ag _ => .agent ag
  | .linkAck _ _ _ => .block 5
  | .preampFault _ _ _ => .block 5
  | .linkAckTimeout _ => .block 5
  | .linkResetRetry _ => .block 5
  | .contactRestore _ => .block 5
  | .plkClr ag _ _ => .agent ag
  | .touchdownStart ag _ => .agent ag
  | .touchdownStep => .block 5
  | .wfltAssert _ _ => .block 5
  | .verifyDone _ => .block 4
  | .verifyWindowExpire _ => .block 4
  | .nop _ _ => .block 6
  | .ldi _ _ => .block 6
  | .ldih _ _ => .block 6
  | .add _ _ => .block 6
  | .addv _ _ => .block 6
  | .and _ _ => .block 6
  | .cmp _ _ => .block 6
  | .cmpv _ _ => .block 6
  | .ldp _ _ => .block 6
  | .stp _ _ => .block 6
  | .branch _ => .block 6
  | .call _ => .block 6
  | .ret _ => .block 6
  | .rett _ => .block 6
  | .actAtPosition _ _ => .block 6
  | .waitEnd _ _ => .block 6
  | .waitTimeout _ => .block 6
  | .seqInterrupt _ => .block 6
  | .privTrap _ => .block 6
  | .controlStoreReload _ _ => .block 6
  | .lockstepFail _ => .block 6
  | .seqCsRead ag _ => .agent ag
  | .seqCsInject ag _ => .agent ag
  | .servoSample _ _ => .block 7
  | .swapRequest ag _ _ => .agent ag
  | .sceWindowWrite ag _ _ => .agent ag
  | .sceTgtWrite ag _ _ => .agent ag
  | .go ag _ _ => .agent ag
  | .load ag _ _ => .agent ag
  | .unload ag _ _ => .agent ag
  | .seekEnd _ => .block 7
  | .seekTimeout _ => .block 7
  | .loadFail _ => .block 7
  | .unloadDone _ => .block 7
  | .unloadFail _ => .block 7
  | .faultReload _ => .block 7
  | .currentLoopPeriod _ _ _ => .block 7
  | .slotMem _ => .block 7
  | .spindleEnable ag _ => .agent ag
  | .spindleDisable ag _ => .agent ag
  | .targetRpmWrite ag _ => .agent ag
  | .listenEnd _ => .block 8
  | .senseEnd _ => .block 8
  | .alignEnd => .block 8
  | .openLoopEnd => .block 8
  | .startRetry => .block 8
  | .spinupTimeout => .block 8
  | .brakeEnd => .block 8
  | .zeroCrossing _ => .block 8
  | .spindleCurrentPeriod _ => .block 8
  | .spindleIndex _ => .block 8
  | .syncEdge => .block 16
  | .tlHoldover => .block 8
  | .ethFrameReceive _ _ _ => .live
  | .roceWriteReceive _ _ => .live
  | .sqDb _ _ => .live
  | .cqDb _ _ => .live
  | .evDb _ _ => .live
  | .pushDataWrite _ _ _ _ => .live
  | .rdmaReadResponse _ _ _ => .live
  | .roceAckReceive _ _ _ => .live
  | .rnrNakReceive _ => .live
  | .requestRetryTimeout _ => .live
  | .cnpReceive _ => .live
  | .rateIncrease _ => .live
  | .hostAckTimer _ => .live
  | .req _ _ => .live
  | .rtu _ => .live
  | .dreq _ _ => .live
  | .drep _ => .live
  | .lap _ _ => .live
  | .rej _ => .live
  | .admitTimeout _ => .block 0
  | .lineageRelease _ => .block 0
  | .linkLoss _ => .live
  | .pathTimeout _ => .live
  | .linkUp _ _ _ => .live
  | .ethCfgWrite ag _ _ => .agent ag
  | .fetchIssue => .live
  | .grantIssue _ => .live
  | .pushTimeout _ => .block 0
  | .quarantineEnd _ => .block 0
  | .read _ => .block 0
  | .write _ => .block 0
  | .deallocate _ => .block 0
  | .flush _ => .block 0
  | .copy _ => .block 0
  | .gather _ => .block 0
  | .verify _ => .block 0
  | .zoneClose _ => .block 0
  | .zoneFinish _ => .block 0
  | .zoneReset _ => .block 0
  | .zoneReport _ => .block 0
  | .nsCreate _ => .block 0
  | .nsDelete _ => .block 0
  | .nsDeleteDone _ => .block 0
  | .imageDownload _ => .block 0
  | .imageActivate _ => .block 0
  | .activationSequence _ => .block 0
  | .latencyTolerance _ => .block 0
  | .getLog _ => .block 0
  | .attest _ => .block 0
  | .queueReset _ => .block 0
  | .queueResetDone _ => .block 0
  | .regAccessRead _ => .block 0
  | .regAccessWrite _ => .block 0
  | .claimEvent _ => .block 0
  | .completeEvent _ => .block 0
  | .commandComplete _ => .block 0
  | .readDataDelivered _ => .block 0
  | .flushDone _ => .block 0
  | .modTimerExpire _ => .block 0
  | .evcMaskWrite ag _ _ _ => .agent ag
  | .evcRaise ag _ => .agent ag
  | .heartbeat => .block 16
  | .turnEnd _ _ _ => .block 10
  | .scrubRead _ _ => .block 11
  | .scrubLate => .block 11
  | .rowRepair _ _ _ => .block 11
  | .stackFail _ => .block 11
  | .cacheDrain ag _ => .agent ag
  | .drainDone => .block 13
  | .hbmDiagWrite ag _ => .agent ag
  | .hbmDiagRead ag _ => .agent ag
  | .srmDiagWrite ag _ => .agent ag
  | .srmDiagRead ag _ => .agent ag
  | .warmReset => .block 15
  | .moveIndex _ _ => .block 14
  | .moveTwoDimensional _ _ => .block 14
  | .loop _ => .block 14
  | .wait _ => .block 14
  | .waitSlot _ => .block 14
  | .signal _ => .block 14
  | .flagWrite _ => .block 14
  | .dmaEvent => .block 14
  | .timerEvent _ => .block 14
  | .start ag _ _ => .agent ag
  | .stop ag _ _ => .agent ag
  | .clr ag _ _ => .agent ag
  | .dmaWatchdog _ => .block 14
  | .powerEntryBegin => .block 15
  | .participantReady _ => .block 15
  | .wakeExit => .block 15
  | .wakeAssert => .pins
  | .supplySample _ => .block 15
  | .stageEnter => .block 15
  | .stageLeave => .block 15
  | .pwrgoodFall => .pins
  | .eclipseSaveEnd => .block 15
  | .resetNFall => .pins
  | .coldBoot _ _ _ => .pins
  | .flashRead ag _ => .agent ag
  | .flashProgram ag _ => .agent ag
  | .flashErase ag _ => .agent ag
  | .flashOpDone _ => .mgmt
  | .ptpSync _ _ _ => .block 16
  | .ptpAnnounce _ => .block 16
  | .delayReqSend => .block 16
  | .delayResp _ _ _ => .block 16
  | .ptpHoldover _ => .block 16
  | .ppsHoldover => .block 16
  | .ppsOutputSecond => .block 16
  | .timSetWrite ag _ => .agent ag
  | .conjunctionCompute => .block 16
  | .faultReport _ => .pins
  | .faultRecordWrite => .pins
  | .faultForce ag _ _ => .agent ag
  | .fltRdWrite ag _ => .agent ag
  | .faultRecovery _ => .block 17
  | .trig ag _ => .agent ag
  | .rearm ag _ => .agent ag
  | .tailPeriod => .block 18
  | .tailCapture => .live
  | .talListWrite ag _ _ _ => .agent ag
  | .talCfgWrite ag _ => .agent ag
  | .readMgmt _ _ => .mgmt
  | .lastStatus => .mgmt
  | .mgmtSclTimeout => .mgmt
  | .ethIpCtlWrite ag _ _ => .agent ag
  | .ethAddressWrite ag _ _ _ => .agent ag
  | .sharedResourceWrite ag _ _ => .agent ag
  | .pwrgoodRise _ _ => .pins
  | .powerUp => .pins
  | .dieTemperatureChange _ => .block 20
  | .coreLockstepFail _ => .block 20
  | .slewEnd => .block 16
  | .jtagInstruction _ => .pins

end Sys2Proof

namespace Sys2Proof.Machine

/-- A command that can arrive and finds the block or agent that takes it. -/
abbrev Ready (c : Instr) (s : State) : Prop := c.wf = true ∧ s.has c.need = true

/-- A command completes: it answers a next state, which leaves the queue of waiting commands as it was and of which P holds. -/
def Gives (c : Instr) (s : State) (P : State → Prop) : Prop := ∃ t, exec c s = .next t ∧ t.pending = s.pending ∧ P t

/-- What a session holds besides its event ring and the requests on their way to its host. -/
def calmSession (x : Session) : Session :=
  { x with eq := emptyEventRing, reqs := [], spsn := 0, silentSince := none, pendNotify := false }

/-- A state with the event machinery of another: the event sources, the sessions, the packets that wait
for the end of a pause, the sequence counter of stamps, the outputs and the moment of the quiet clock. -/
def State.eventsOf (t s : State) : State :=
  { t with evc := s.evc, out := s.out, tim := { t.tim with seq := s.tim.seq }, pwr := { t.pwr with quietSince := s.pwr.quietSince },
           eqt := { t.eqt with sessions := s.eqt.sessions, held := s.eqt.held } }

/-- A state t is a state s but for the records of event sources and the moment of the quiet clock: of a session only its event ring and
the requests to its host may differ, outputs may have been added, and everything outside the event machinery is the same. -/
def Still (s t : State) : Prop := t.eventsOf s = s ∧ (∀ i, calmSession (t.sess i) = calmSession (s.sess i)) ∧ s.out <+: t.out

/-- A packet of a session has been sent, or waits for the end of the pause of its port's partner (R284). -/
def Sent (i : Nat) (p : Pkt) (s t : State) : Prop :=
  if (s.port (s.sess i).path.port).pausedByPeer = true then (s.route i, p) ∈ t.eqt.held else Out.packet (s.route i) p ∈ t.out

/-- The gate outputs of the spindle are those that its state calls for, each on only while its twin is not called for and once the dead time
since the twin turned off is over (R248). -/
def GatesFollow (s t : State) : Prop :=
  (∀ k < 6, t.spn.gateFree.getD k 0 =
    if s.spn.gates.testBit (gateTwin k) = true ∧ t.gatesWanted.testBit (gateTwin k) = false then t.now + 4 * s.spnPers.dead
    else s.spn.gateFree.getD k 0) ∧
  (∀ k, t.spn.gates.testBit k = (decide (k < 6) && t.gatesWanted.testBit k && !t.gatesWanted.testBit (gateTwin k) &&
    decide (t.spn.gateFree.getD k 0 ≤ t.now)))

/-- The parts of the state. -/
inductive Part where
  | clock | free | regs | latches | setupErr | tim | flt | tal | eqt | plc | orb | sce | spn | chn | wrp | seq | dma | pwr | hbm | srm | cch
  | sec | pin
  deriving DecidableEq, Repr

/-- A part of two states is the same, but for event records and the quiet clock. -/
def Part.same : Part → State → State → Prop
  | .clock, s, t => t.now = s.now
  | .free, s, t => t.free = s.free
  | .regs, s, t => t.regs = s.regs
  | .latches, s, t => t.latches = s.latches
  | .setupErr, s, t => t.setupErr = s.setupErr
  | .tim, s, t => { t.tim with seq := s.tim.seq } = s.tim
  | .flt, s, t => t.flt = s.flt
  | .tal, s, t => t.tal = s.tal
  | .eqt, s, t => { t.eqt with sessions := s.eqt.sessions, held := s.eqt.held } = s.eqt ∧ ∀ i, calmSession (t.sess i) = calmSession (s.sess i)
  | .plc, s, t => t.plc = s.plc
  | .orb, s, t => t.orb = s.orb
  | .sce, s, t => t.sce = s.sce
  | .spn, s, t => t.spn = s.spn
  | .chn, s, t => t.chn = s.chn
  | .wrp, s, t => t.wrp = s.wrp
  | .seq, s, t => t.seq = s.seq
  | .dma, s, t => t.dma = s.dma
  | .pwr, s, t => { t.pwr with quietSince := s.pwr.quietSince } = s.pwr
  | .hbm, s, t => t.hbm = s.hbm
  | .srm, s, t => t.srm = s.srm
  | .cch, s, t => t.cch = s.cch
  | .sec, s, t => t.sec = s.sec
  | .pin, s, t => t.pin = s.pin

/-- Of the state nothing changes but the parts listed, and event records and the quiet clock. -/
def Only (ps : List Part) (s t : State) : Prop := ∀ p, p ∉ ps → p.same s t

/-- A write of a register that is not refused (R665): the register is in the map, its block is accessible, it is not the lower half of a
pair, and no cause of Table 20.3 refuses the word. -/
abbrev Accepts (s : State) (r : Reg) (v : Word) : Prop :=
  regAt (regAddr r) = some r ∧ s.blockOff r = false ∧ regUpper r = none ∧ s.wordRefused r v = false ∧ s.stateRefused r v = false ∧
  s.syncConflict r v = false

/-- Of the host interface nothing changes but the commands in flight, the mark of the first acceptance, and event records. -/
def OnlyCommands (s t : State) : Prop :=
  { t.eqt with sessions := s.eqt.sessions, held := s.eqt.held, cmds := s.eqt.cmds, firstAccepted := s.eqt.firstAccepted } = s.eqt ∧
  ∀ i, calmSession (t.sess i) = calmSession (s.sess i)

/-- An acceptance has taken place: the first one since images came into force, outside every stage, raises the rollback counters
(R611). -/
def Accepted (s t : State) : Prop :=
  t.eqt.firstAccepted = true ∧
  t.sec = (if s.eqt.firstAccepted || s.stageCode != 0 then s.sec else { s.sec with fuses := raiseFuses s.sec })

/-- The command k, c before, stands as d, and no other command changes. -/
def Stands (k : Nat) (d : Cmd) (s t : State) : Prop := t.cmd? k = some d ∧ ∀ j, j ≠ k → t.cmd? j = s.cmd? j

/-- The command k, c before, ends with a status, a result and a time pair, to be completed. Its reservation, grant and media reads go
(R57, R342), its status is counted (Table 9.12) and admission hold is looked at again (R60); beside that and the events it brings, the
host interface, the logical store, Orbit's queue and the sequencers stand as in s. -/
def Ends (k : Nat) (c : Cmd) (status : BitVec 16) (result : BitVec 48) (pair : Pair) (s t : State) : Prop :=
  (t.cmd? k).map (fun d => (d.phase, d.status, d.result, d.endPair)) = some (.done, status, result, pair) ∧
  (∀ j, j ≠ k → t.cmd? j = s.cmd? j) ∧ OnlyCommands ((s.quarantine c.sess k).countStatus status) t ∧
  t.plc = { s.plc with resvQueue := s.plc.resvQueue.filter (· != k), hold := decide (t.pwr.dmax < t.dirty) } ∧
  t.orb = (s.dropHost k (status == 0x0008)).orb ∧ t.seq = (s.dropHost k (status == 0x0008)).seq

/-- The row that a fetched entry goes through: that of its opcode, and of its action or direction. -/
def rowOf (e : BitVec 512) (k : Nat) : Instr :=
  match eOp e with
  | 1 => .read k
  | 2 => .write k
  | 3 => .deallocate k
  | 4 => .flush k
  | 5 => .copy k
  | 6 => .gather k
  | 7 => .verify k
  | 8 => match eZoneAction e with | 0 => .zoneClose k | 1 => .zoneFinish k | _ => .zoneReset k
  | 9 => .zoneReport k
  | 0x40 => .nsCreate k
  | 0x41 => .nsDelete k
  | 0x42 => .imageDownload k
  | 0x43 => .imageActivate k
  | 0x44 => .latencyTolerance k
  | 0x45 => .getLog k
  | 0x46 => .attest k
  | 0x47 => .queueReset k
  | 0x48 => if eRegWrite e then .regAccessWrite k else .regAccessRead k
  | 0x49 => .claimEvent k
  | 0x4A => .completeEvent k
  | _ => .read k

/-- What an accepted write adds to its effect u: a new conjunction where a conjunct register changed (R565), and the status that the
management port keeps (R649). -/
def State.wrote (s u : State) (ag : Agent) (r : Reg) : State :=
  let u := if conjChanged s u r then u.conjStart else u
  if ag = .mgmt then { u with pin := { u.pin with lastStatus := 0 } } else u

/-- What a refused write leaves (R652): its record, and the status that the management port keeps. -/
def State.turnedAway (s : State) (ag : Agent) (cause addr status : Nat) : State :=
  let s := s.setupError ag cause addr
  if ag = .mgmt then { s with pin := { s.pin with lastStatus := status } } else s

/-- Registers whose write has no effect but its value (the tables of the registers themselves). -/
def plainRegs : List Reg :=
  [.eqtSessCfg, .eqtFetchCfg, .eqtPushCfg, .chnEscCfg, .wrpTvCfg, .sceOtCfg, .sceMonCfg, .spnTlOfs, .plcCkptCfg, .orbCfg, .orbSeekCfg,
   .hbmScrubCfg, .hbmDiagVal, .cchErrCfg, .dmaArb, .pwrCfg, .pwrSagCfg, .pwrSagTim, .timFleet, .timHbCfg, .fltCfg, .secFlashAddr]

/-- The quiet clock of R513: a moment is kept exactly while the quiet conditions hold together. -/
abbrev QuietClock (s : State) : Prop := s.pwr.quietSince.isSome = s.quiet

/-- No level source of Table 11.4 stays IDLE while its condition holds and its target mask is not 0 (Table 11.5). -/
abbrev LevelsRaised (s : State) : Prop :=
  s.sec.booted = true → ∀ n ∈ levelSources, ¬((s.src n).state = .idle ∧ s.levelHolds n = true ∧ s.evcMask n ≠ 0)

/-- Every command that waits can arrive. -/
abbrev QueueOk (s : State) : Prop := ∀ c ∈ s.pending, c.wf = true

/-- The invariant that every step keeps. -/
def Inv (s : State) : Prop := QuietClock s ∧ LevelsRaised s ∧ QueueOk s

/-- The Reset columns of the register tables: what each register reads after a cold power-on (R653), RO fields included. -/
def tableReset : Reg → Word
  | .plcStripeCfg => 0x00000210#32 | .plcCkptCfg => 0x003C0C00#32 | .chnEscCfg => 0x00000331#32 | .plkCtl _ => 0x00000004#32
  | .plkTdCtl => 0x00020000#32 | .wrpTvCfg => 0x00002181#32 | .seqStat q => if q < 16 then BitVec.ofNat 32 (2 ^ 16 * q) else 0#32
  | .sceOtCfg => 0x7B521404#32 | .sceMonCfg => 0x40204000#32 | .sceSlot n => BitVec.ofNat 32 (2 ^ 16 * n)
  | .spnTlCfg => 0x147800B6#32 | .ethCfg _ => 0x83020010#32 | .ethIpCtl _ => 0x00180040#32
  | .ethPkey k => if k = 0 then 0x8000FFFF#32 else 0#32
  | .eqtSessCfg => 0x012C00C8#32 | .eqtFetchCfg => 0x01000020#32 | .eqtPushCfg => 0x04640040#32 | .eqtAdminMaskLo => 0x00000001#32
  | .evcMaskLo n => if n ≤ 18 then 0x00000001#32 else 0#32
  | .evcStat n => if n ∈ [0, 1, 2, 3, 4, 5, 6, 10, 11, 12, 13, 17] then 0x20000000#32 else 0#32
  | .orbCfg => 0x00400230#32
  | .orbQos q => match q with | 0 => 0x00030000#32 | 1 => 0x000301F4#32 | 2 => 0x000307D0#32 | _ => 0x00031F40#32
  | .orbSeekCfg => 0x20001000#32 | .hbmScrubCfg => 0x80000018#32 | .cchCtl => 0x8010FFFF#32 | .cchErrCfg => 0x0040003C#32
  | .cchStat => 0x0000FFFF#32 | .dmaArb => 0x00000001#32 | .dmaTm _ => 0x00000400#32 | .pwrCfg => 0x7F320000#32
  | .pwrStat => 0x00FF0000#32 | .pwrSagCfg => 0xDCD2C8B4#32 | .pwrSagTim => 0x04140064#32 | .pwrSense => 0xFFFF0000#32
  | .timCfg => 0x41001932#32 | .timStat => 0x20000000#32 | .timHbCfg => 0x0000003C#32 | .fltCfg => 0x03E80A0A#32
  | .fltNext => 0x00000001#32 | .fltRd => 0x00000001#32 | .fltSrc n => if faultListed n then 0x00000201#32 else 0#32
  | .talCfg => 0xC00FA3FF#32 | .talNext => 0x00000001#32 | .talOldest => 0x00000001#32 | .pinThermCfg => 0x00006400#32
  | _ => 0#32

/-- The canonical form of a sparse memory: addresses strictly rising, no entry equal to what an unlisted address reads as. -/
def Memory.wf (fill : Nat → Byte) (m : Assoc Byte) : Bool := risingFrom none m && m.all fun e => e.2 != fill e.1

end Sys2Proof.Machine
end

