-- ==== Sys2Proof/Certificates/Slice0/Obligations.lean ====
section
/-! DEFINITION. The statements for the provers. Most are conjunctions with one clause for each case of a command; `Gives` says that the
command completes, and what holds of the state it answers (Safety). -/

open Sys2Proof Sys2Proof.Machine

/-- A step runs the command at the front of the queue with the rest of the queue. For every command c, queue q and state s whose queue is
c followed by q: step of s is exec of c on s with the queue q. On an empty queue, by the model's own choice, step answers the next
state in which the clock has gone on by 1 ns and the time count by what its rate gives, and nothing else has changed. It rests on
parts of R546. The model's choices it rests on: log entries 2. -/
def Obligations.StepRunsFront : Prop :=
  (∀ (c : Instr) (q : List Instr) (s : State), s.pending = c :: q → step s = exec c { s with pending := q }) ∧
  (∀ s : State, s.pending = [] → step s = .next { s with now := s.now + 1, tim := timAdvance s.tim 1 })

/-- A command that can arrive completes in every state; one that cannot is refused. For every command and state: one whose operands cannot
arrive is refused as ill-formed; one that finds the block or agent that takes it absent (its domain not on, the device not booted or
in umbra) leaves the state as it is, by the model's own choice; every other, and so every command that can arrive, answers a next
state that keeps the queue of waiting commands: no command of the table faults or is refused on any state. It rests on parts of R522,
R529, R606, R649. The model's choices it rests on: log entries 4, 6. -/
def Obligations.CommandOutcomes : Prop :=
  ∀ (c : Instr) (s : State),
    (c.wf = false → exec c s = .refused .illFormed) ∧
    (c.wf = true → s.has c.need = false → exec c s = .next s) ∧
    (c.wf = true → ∃ t, exec c s = .next t ∧ t.pending = s.pending)

/-- Every step keeps the invariant of the event sources, the quiet clock and the queue. For every state s that meets the invariant,
reachable or not, and every t that step answers from s, t meets it: in a booted device no level event source is IDLE while its
condition holds and its target mask is not 0; the moment of the quiet clock is kept exactly while the quiet conditions of R513 hold
together; every command that waits can arrive. It rests on parts of R410, R411, R513. The model's choices it rests on: log entries 26,
27. -/
def Obligations.InvKept : Prop :=
  ∀ s t : State, Inv s → step s = .next t → Inv t

/-- The state right after reset meets the invariant. State.reset meets the invariant that every step keeps. It rests on parts of R513. The
model's choices it rests on: log entries 11. -/
def Obligations.InvAtReset : Prop :=
  Inv State.reset

/-- At cold power-on every register reads the reset value of its own table. In the state right after reset every register of Table 20.5,
at every index, reads the value of its Reset column, RW and RO fields alike; SEC_FUSE_0 and SEC_FUSE_1 read the fuses and PIN_STAT the
straps, in every state. -/
def Obligations.ResetRegisters : Prop :=
  (∀ r : Reg, regExists r = true → r ≠ .secFuse0 → r ≠ .secFuse1 → r ≠ .pinStat → State.reset.regPeek r = tableReset r) ∧
  (∀ (s : State) (f : Fuses), s.sec.fuses = f →
    s.regPeek .secFuse0 = word [(b2n f.debugClosed, 31), (f.boot % 64, 24), (f.firmware % 64, 18), (f.personality % 64, 12),
      (f.imageKey % 64, 6), (f.makerKey % 64, 0)] ∧
    s.regPeek .secFuse1 = word [(f.makerId % 2 ^ 16, 16), (f.revoked % 16, 0)]) ∧
  (∀ s : State, s.pin.straps < 4 → fld (s.regPeek .pinStat) 6 0 = 0x58 + s.pin.straps)

/-- What reset leaves outside the registers. After reset the time count is 0 and UNSET with sequence counter 0; fault records and Tail
records are numbered from 1 and none is held; every session is FREE and no command is in flight; every actuator is UNLOADED and the
spindle STOPPED with its gates off; every DMA channel is IDLE; no memory is listed and its form is canonical; nothing is booted, no
command waits and nothing has been sent. It rests on parts of R468, R549, R585, R301. The model's choices it rests on: log entries 11,
14, 15, 16. -/
def Obligations.ResetState : Prop :=
  timCount State.reset.tim = 0 ∧ State.reset.tim.state = .unset ∧ State.reset.tim.seq = 0 ∧
  State.reset.flt.next = 1 ∧ State.reset.flt.rd = 1 ∧ State.reset.flt.slots = [] ∧ State.reset.flt.buffer = [] ∧
  State.reset.tal.next = 1 ∧ State.reset.tal.oldest = 1 ∧ State.reset.tal.ring = [] ∧
  (∀ i, (State.reset.sess i).state = .free) ∧ (∀ k, State.reset.cmd? k = none) ∧ (∀ n, (State.reset.src n).state = .idle) ∧
  (∀ a, (State.reset.act a).state = .unloaded) ∧ State.reset.spn.state = .stopped ∧ State.reset.spn.command = 0 ∧
  (∀ c, (State.reset.ch c).state = .idle) ∧ Memory.wf State.reset.hbmFillByte State.reset.hbm.mem = true ∧
  Memory.wf (fun _ => 0) State.reset.srm.mem = true ∧ Memory.wf (fun _ => 0xFF) State.reset.sec.flash = true ∧
  State.reset.sec.booted = false ∧ State.reset.pending = [] ∧ State.reset.out = []

/-- Every register of the map is found at its own address, inside the block of its id, and holds what was put into it. For every register
of Table 20.5, at every index the table gives it: the address map answers it at its address, which is a multiple of 4 and lies in the
1 MiB from 0x0100_0000 + 0x10_0000 times its block id; an address at which the map answers a register lies in that register's word;
putting a value into a register puts its RW fields in force and leaves every register at another address as it was. It rests on parts
of R3, R645, R646. -/
def Obligations.RegisterAddresses : Prop :=
  (∀ r : Reg, regExists r = true →
      regAt (regAddr r) = some r ∧ regAddr r % 4 = 0 ∧ 0x01000000 + 0x100000 * (regSpot r).1 ≤ regAddr r ∧
      regAddr r < 0x01000000 + 0x100000 * (regSpot r).1 + 0x100000) ∧
  (∀ (a : Nat) (r : Reg), regAt a = some r → regExists r = true ∧ regAddr r = a / 4 * 4) ∧
  (∀ (s : State) (r : Reg) (v : Word), (s.setRv r v).rv r = v &&& regRw r) ∧
  (∀ (s : State) (r q : Reg) (v : Word), regAddr q ≠ regAddr r → (s.setRv r v).rv q = s.rv q)

/-- Offsets steer the count and the lock state; without a reference the count goes on at its mean rate. With a path delay, a Sync of the
selected master gives an offset: the count is stepped forward by more than 100 us or the offset is left to slewing, the first offset
takes an UNSET count to ACQUIRING, 16 within LOCK_NS in a row enter LOCKED and 4 above 4 x LOCK_NS leave it; without one it is only
stamped; a Delay_Req is stamped and sent, and its answer gives half the sum of both directions; an Announce that is the only one heard
selects its master; PTP_HOLDOVER after 4 Sync intervals and PPS_HOLDOVER 2 s after the last accepted edge take a locked count to
HOLDOVER with the mean rate trim of the last 64 s; SLEW_END ends a backward correction after at least 1,000 times its length, and the
count has not decreased. Commands that it shows to complete, so that exec answers a next state with their own effect: ptpSync,
ptpAnnounce, delayReqSend, delayResp, ptpHoldover, ppsHoldover, slewEnd. It rests on parts of R546, R549, R554, R556, R557, R558. The
model's choices it rests on: log entries 96, 97, 98, 99, 101, 102. -/
def Obligations.TimeReference : Prop :=
  (∀ (s : State) (port : Nat) (identity : BitVec 64) (origin d : Nat) (m : Master), Ready (.ptpSync port identity origin) s →
      s.timMode = 1 → s.tim.master = some m → m.identity = identity → m.port = port → s.tim.pathDelay = some d →
    let off : Int := timCount s.tim - origin - d
    Gives (.ptpSync port identity origin) s fun t =>
      t.tim.lastOff = off ∧ t.tim.lastSync = s.now ∧ t.tim.syncStamps = some (origin, timCount s.tim) ∧
      (s.tim.state = .unset → t.tim.state = .acquiring) ∧
      (off.natAbs ≤ s.lockNs → s.tim.state = .acquiring → s.tim.inLock = 15 → t.tim.state = .locked) ∧
      (4 * s.lockNs < off.natAbs → s.tim.state = .locked → s.tim.outLock = 3 → t.tim.state = .acquiring) ∧
      (if off < -100000 then (t.tim.tick : Int) = s.tim.tick - off * 2 ^ 32 ∧ t.tim.corr = 0
       else t.tim.tick = s.tim.tick ∧ t.tim.corr = -off * 2 ^ 32) ∧
      t.tim.trim.natAbs ≤ trimMax ∧ Only [.tim, .free] s t) ∧
  (∀ (s : State) (port : Nat) (identity : BitVec 64) (origin : Nat) (m : Master), Ready (.ptpSync port identity origin) s →
      s.timMode = 1 → s.tim.master = some m → m.identity = identity → m.port = port → s.tim.pathDelay = none →
    Gives (.ptpSync port identity origin) s (Still
      { s with tim := { s.tim with lastSync := s.now, syncStamps := some (origin, timCount s.tim) } })) ∧
  (∀ (s : State) (m : Master), Ready (.ptpAnnounce m) s → s.timMode = 1 → s.tim.masters = [] → s.tim.master = none →
    Gives (.ptpAnnounce m) s (Still
      { s with
        tim := { s.tim with
          masters := [(2 * m.identity.toNat + m.port, m)], master := some m, slavePort := m.port, pathDelay := none, delayReq := none,
          syncStamps := none, lastSync := s.now, state := if s.tim.state = .holdover then .acquiring else s.tim.state } })) ∧
  (∀ (s : State) (m : Master), Ready .delayReqSend s → s.timMode = 1 → s.tim.master = some m →
    let u := s.advanceTo (s.tim.delaySent + logInterval m.logDelayReq)
    Gives .delayReqSend s (Still
      { u with
        tim := { u.tim with delayReq := some (timCount u.tim), delaySent := u.now }, out := u.out ++ [.delayReq s.tim.slavePort] })) ∧
  (∀ (s : State) (port : Nat) (identity : BitVec 64) (received t1 t2 t3 : Nat) (m : Master),
      Ready (.delayResp port identity received) s → s.timMode = 1 → s.tim.master = some m → m.identity = identity → m.port = port →
      s.tim.delayReq = some t3 → s.tim.syncStamps = some (t1, t2) →
    Gives (.delayResp port identity received) s (Still
      { s with tim := { s.tim with delayReq := none, pathDelay := some ((((t2 : Int) - t1) + ((received : Int) - t3)) / 2).toNat } })) ∧
  (∀ (s : State) (announce : Bool) (m : Master), Ready (.ptpHoldover announce) s → s.timMode = 1 → s.tim.master = some m →
      s.tim.state = .locked →
    let u := if announce then s else s.advanceTo (s.tim.lastSync + 4 * logInterval m.logSync)
    Gives (.ptpHoldover announce) s fun t =>
      t.tim.state = .holdover ∧ t.tim.master = none ∧ t.tim.masters = adel s.tim.masters (2 * m.identity.toNat + m.port) ∧
      t.tim.trim = u.meanTrim ∧ t.tim.holdSince = u.now ∧ t.tim.corr = 0 ∧ t.now = u.now ∧ t.tim.tick = u.tim.tick ∧
      Only [.clock, .tim] s t) ∧
  (∀ (s : State) (x n : Nat), Ready .ppsHoldover s → s.timMode = 2 → s.tim.ppsLast = some (x, n) → s.tim.state = .locked →
    let u := s.advanceTo (x + 2000000000)
    Gives .ppsHoldover s fun t =>
      t.tim.state = .holdover ∧ t.tim.trim = u.meanTrim ∧ t.tim.holdSince = u.now ∧ t.tim.corr = 0 ∧ t.now = u.now ∧
      t.tim.tick = u.tim.tick ∧ Only [.clock, .tim] s t) ∧
  (∀ (s : State), Ready .slewEnd s → s.tim.corr < 0 → s.tim.state = .slewing →
    Gives .slewEnd s fun t =>
      t.tim.corr = 0 ∧ t.tim.state = (if s.timMode = 0 then TimeState.free else TimeState.acquiring) ∧
      1000 * s.tim.corr.natAbs ≤ (t.now - s.now) * 2 ^ 32 ∧ timCount s.tim ≤ timCount t.tim ∧ Only [.clock, .tim] s t)

/-- The TIM_SET pair, heartbeats, PPS output seconds and the conjunction digest. A write of the upper half takes the lower half held for
the agent with it; in MODE 00 a forward correction of more than 100 us sets the count to the written time, any other is left to
slewing, and the state becomes FREE, or SLEWING for a backward offset above 4 x LOCK_NS; in MODE 10 it names the second of the next
edge and takes an UNSET count to ACQUIRING; an accepted edge marks that second; HEARTBEAT serves the first second at which (s +
MEMBER) mod HB_PERIOD is 0 and writes a record into the event ring of every ACTIVE session with EVENTS that has room; the PPS output
is high for 100 ms from a whole second; a computation that ends stores the digest of the serialised state and, where the tag changes,
adds 1 to GEN and raises source 18. Commands that it shows to complete, so that exec answers a next state with their own effect:
syncEdge, heartbeat, ppsOutputSecond, timSetWrite, conjunctionCompute. It rests on parts of R4, R546, R549, R558, R559, R562, R563,
R564, R565. The model's choices it rests on: log entries 3, 99, 100. -/
def Obligations.TimeSetAndSeconds : Prop :=
  (∀ (s : State) (ag : Agent) (v w : Word), Ready (.timSetWrite ag v) s → Accepts s .timSetHi v → s.timMode = 0 →
      (s.latch ag (regAddr .timSetLo)).lower = some w →
    let off : Int := timCount s.tim - (w.toNat + 2 ^ 32 * v.toNat : Nat)
    Gives (.timSetWrite ag v) s fun t =>
      t.rv .timSetLo = w ∧ t.rv .timSetHi = v ∧ (t.latch ag (regAddr .timSetLo)).lower = none ∧ t.tim.lastOff = off ∧
      t.tim.state = (if 4 * s.lockNs < off then TimeState.slewing else TimeState.free) ∧
      (if off < -100000 then timCount t.tim = w.toNat + 2 ^ 32 * v.toNat ∧ t.tim.corr = 0
       else t.tim.tick = s.tim.tick ∧ t.tim.corr = -off * 2 ^ 32) ∧
      Only [.regs, .latches, .tim, .pin] s t) ∧
  (∀ (s : State) (ag : Agent) (v w : Word), Ready (.timSetWrite ag v) s → Accepts s .timSetHi v → s.timMode = 2 →
      (s.latch ag (regAddr .timSetLo)).lower = some w →
    Gives (.timSetWrite ag v) s fun t =>
      t.tim.ppsNext = some ((w.toNat + 2 ^ 32 * v.toNat) / 1000000000) ∧
      t.tim.state = (if s.tim.state = .unset then TimeState.acquiring else s.tim.state) ∧ t.tim.tick = s.tim.tick ∧
      Only [.regs, .latches, .tim, .pin] s t) ∧
  (∀ (s : State) (n : Nat), Ready .syncEdge s → s.syncFn = 1 → s.tim.ppsNext = some n →
    Gives .syncEdge s fun t =>
      t.tim.ppsNext = none ∧ t.tim.ppsLast = some (s.now, n) ∧ t.tim.lastOff = (timCount s.tim : Int) - 1000000000 * n ∧
      Only [.tim, .free] s t) ∧
  (∀ (s : State), Ready .heartbeat s → fld (s.rv .timHbCfg) 11 0 ≠ 0 → s.tim.state ≠ .unset →
      ¬((s.src 10).state = .idle ∧ s.levelHolds 10 = true ∧ s.evcMask 10 ≠ 0) →
    Gives .heartbeat s fun t =>
      (t.tim.hbSec + s.member) % fld (s.rv .timHbCfg) 11 0 = 0 ∧ nextSecond (timCount s.tim) s.tim.hbSec ≤ t.tim.hbSec ∧
      t.tim.hbSec < nextSecond (timCount s.tim) s.tim.hbSec + fld (s.rv .timHbCfg) 11 0 ∧
      (∀ i ∈ s.sessIds, (s.sess i).state = .active → (s.sess i).events = true → evRoom (s.sess i) = true →
        ∃ e : EventRec, e.kind = .heartbeat ∧ e.source = 0xFFFF ∧ e.value = s.conjTag ∧
          Sent i (.ringWrite 2 (s.sess i).eq.wr (eventBits e (s.sess i).eq.phase)) s t) ∧
      Only [.clock, .tim] s t) ∧
  (∀ (s : State), Ready .ppsOutputSecond s → s.syncFn = 2 → s.tim.state = .locked →
    Gives .ppsOutputSecond s fun t =>
      t.tim.ppsSec = nextSecond (timCount s.tim) s.tim.ppsSec ∧ t.tim.ppsHigh = some (t.now + 100000000) ∧
      Only [.clock, .tim] s t) ∧
  (∀ (s : State), Ready .conjunctionCompute s → s.tim.busy = true →
    Gives .conjunctionCompute s fun t =>
      t.tim.busy = false ∧ t.tim.serial = s.conjSerial ∧ t.tim.digest = Config.sha3 s.conjSerial ∧ t.tim.tick = s.tim.tick ∧
      (t.conjTag = s.conjTag → t.tim.gen = s.tim.gen ∧ t.tim.tagPair = s.tim.tagPair ∧ t.src 18 = s.src 18) ∧
      (t.conjTag ≠ s.conjTag → t.tim.gen = satInc s.tim.gen 0x7FFFFFFF ∧ t.tim.tagPair = s.pair ∧
        (t.src 18).value = t.conjTag.extractLsb' 0 32 ∧ (t.src 18).count = satInc (s.src 18).count 255) ∧
      Only [.tim] s t)

/-- What triggers a capture, what one records, REARM, TAL_CFG and the capture lists. With EN set, nothing captured and the ring not full,
a write of TRIG and the end of a period each begin a capture of their list; a capture becomes the next record of the ring with the
next sequence number, the oldest giving way under WRAP; a full ring without WRAP stops with FULL, drops what waits and counts it
missed; REARM empties the ring and clears FULL; a write of TAL_CFG sets the period and, where SIZE_MIB or WRAP changes, empties the
ring; a write of a capture list entry adds 1 to the GEN of its list alone. Commands that it shows to complete, so that exec answers a
next state with their own effect: syncEdge, trig, rearm, tailPeriod, tailCapture, talListWrite, talCfgWrite. It rests on parts of
R586, R588, R589, R590, R591, R592. The model's choices it rests on: log entries 5, 36, 37. -/
def Obligations.TailRecorder : Prop :=
  (∀ (s : State) (ag : Agent) (v : Word), Ready (.trig ag v) s → Accepts s .talCtl v → bit v 30 = false →
      bit (s.rv .talCfg) 31 = true → s.tal.capturing = none → s.tal.full = false → s.pwr.umbra = false →
    Gives (.trig ag v) s (Still
      (s.wrote { s with
        tal := { s.tal with capturing := some { trigger := 3, list := fld v 29 28, fault := 0xFFFF, pair := s.pair, faultRec := 0 } } } ag .talCtl))) ∧
  (∀ (s : State) (d : Nat), Ready .tailPeriod s → s.tal.periodDue = some d → bit (s.rv .talCfg) 31 = true → s.tal.capturing = none →
      s.tal.full = false → s.pwr.umbra = false →
    let u := s.advanceTo d
    Gives .tailPeriod s (Still
      { u with
        tal := { s.tal with
          periodDue := some (d + 1000000 * fld (s.rv .talCfg) 23 10),
          capturing := some { trigger := 4, list := fld (s.rv .talCfg) 25 24, fault := 0xFFFF, pair := u.pair, faultRec := 0 } } })) ∧
  (∀ (s : State), Ready .syncEdge s → s.syncFn = 4 → bit (s.rv .talCfg) 31 = true → s.tal.capturing = none → s.tal.full = false →
      s.pwr.umbra = false →
    Gives .syncEdge s (Still
      { s with
        tal := { s.tal with
          capturing := some { trigger := 2, list := fld (s.rv .talCfg) 27 26, fault := 0xFFFF, pair := s.pair, faultRec := 0 } } })) ∧
  (∀ (s : State) (g : TailTrigger), Ready .tailCapture s → s.tal.capturing = some g → s.hbmUp = true → bit (s.rv .talCfg) 30 = true →
    Gives .tailCapture s fun t =>
      (aget t.tal.ring s.tal.nextSlot).map (fun r => (r.seq, r.trig, r.gen, r.values)) =
        some (s.tal.next, g, fld s.tal.gens (8 * g.list + 7) (8 * g.list),
              (List.range 32).map fun i => (s.captureOne g.list i).1) ∧
      (∀ k, k ≠ s.tal.nextSlot → aget t.tal.ring k = aget s.tal.ring k) ∧
      t.tal.next = talAfter s.tal.next ∧ t.tal.nextSlot = (s.tal.nextSlot + 1) % s.tailCapacity ∧
      t.tal.oldest = (if s.tailCapacity ≤ s.tailCount then talAfter s.tal.oldest else s.tal.oldest) ∧
      t.tal.capturing = s.tal.queue.head? ∧ t.tal.queue = s.tal.queue.drop 1 ∧ t.tal.full = s.tal.full ∧ Only [.tal] s t) ∧
  (∀ (s : State) (g : TailTrigger), Ready .tailCapture s → s.tal.capturing = some g → s.hbmUp = true → bit (s.rv .talCfg) 30 = false →
      s.tal.next + 1 ≠ 0 → s.tal.oldest = 1 → s.tal.next.toNat = s.tailCapacity →
    Gives .tailCapture s fun t =>
      t.tal.full = true ∧ t.tal.capturing = none ∧ t.tal.queue = [] ∧ t.tal.missed = satAdd s.tal.missed s.tal.queue.length 0xFFFF ∧
      t.tal.next = s.tal.next + 1 ∧ t.tal.oldest = s.tal.oldest ∧ Only [.tal, .flt] s t) ∧
  (∀ (s : State) (ag : Agent) (v : Word), Ready (.rearm ag v) s → Accepts s .talCtl v → bit v 31 = false →
    Gives (.rearm ag v) s (Still
      (s.wrote { s with tal := { s.tal with ring := [], oldest := s.tal.next, nextSlot := 0, full := false } } ag .talCtl))) ∧
  (∀ (s : State) (ag : Agent) (v : Word), Ready (.talCfgWrite ag v) s → Accepts s .talCfg v →
    Gives (.talCfgWrite ag v) s fun t =>
      t.rv .talCfg = v &&& regRw .talCfg ∧
      t.tal.periodDue = (if bit v 28 then some (s.now + 1000000 * fld v 23 10) else none) ∧
      (bit v 30 = bit (s.rv .talCfg) 30 → fld v 9 0 = fld (s.rv .talCfg) 9 0 → t.tal = { s.tal with periodDue := t.tal.periodDue }) ∧
      (¬(bit v 30 = bit (s.rv .talCfg) 30 ∧ fld v 9 0 = fld (s.rv .talCfg) 9 0) →
        t.tal = { s.tal with ring := [], oldest := s.tal.next, nextSlot := 0, full := false, periodDue := t.tal.periodDue }) ∧
      (∀ r, regAddr r ≠ regAddr .talCfg → t.rv r = s.rv r) ∧ Only [.regs, .tal, .tim, .pin] s t) ∧
  (∀ (s : State) (ag : Agent) (l i : Nat) (v : Word), Ready (.talListWrite ag l i v) s → Accepts s (.talList l i) v →
    Gives (.talListWrite ag l i v) s fun t =>
      t.rv (.talList l i) = v &&& regRw (.talList l i) ∧
      fld t.tal.gens (8 * l + 7) (8 * l) = (fld s.tal.gens (8 * l + 7) (8 * l) + 1) % 256 ∧
      (∀ k < 4, k ≠ l → fld t.tal.gens (8 * k + 7) (8 * k) = fld s.tal.gens (8 * k + 7) (8 * k)) ∧
      { t.tal with gens := s.tal.gens } = s.tal ∧ (∀ r, regAddr r ≠ regAddr (.talList l i) → t.rv r = s.rv r) ∧
      Only [.regs, .tal, .tim, .pin] s t)

/-- What a report does on arrival and which reports are lost. A report is stamped, its reactions are decided by its source and severity,
the source is marked FAULTED from severity 2 up, and it joins the buffer of 64, or with a full buffer is counted lost; a report with
NMI names its record number; the next report a block made is taken first. Commands that it shows to complete, so that exec answers a
next state with their own effect: faultReport. It rests on parts of R568, R571, R572, R578. The model's choices it rests on: log
entries 34, 35. -/
def Obligations.FaultReports : Prop :=
  (∀ (s : State) (r : Report) (d : Reactions), Ready (.faultReport (some r)) s → reportOk r = true →
      decideReactions (s.rv (.fltSrc r.source)) r.severity = d → d.nmi = false → d.blockRst = false → d.warmRst = false →
      s.flt.buffer.length < 64 →
    Gives (.faultReport (some r)) s fun t =>
      t.flt = { s.flt with
        buffer := s.flt.buffer ++ [{ rep := r, pair := s.pair, react := d }], bufMax := max s.flt.bufMax (s.flt.buffer.length + 1),
        sources := t.flt.sources } ∧
      t.fsrc r.source = { s.fsrc r.source with lastReport := s.now, faulted := (s.fsrc r.source).faulted || decide (2 ≤ r.severity) } ∧
      (∀ n, n ≠ r.source → t.fsrc n = s.fsrc n) ∧ Only [.flt, .tim] s t) ∧
  (∀ (s : State) (r : Report) (d : Reactions), Ready (.faultReport (some r)) s → reportOk r = true →
      decideReactions (s.rv (.fltSrc r.source)) r.severity = d → d.nmi = false → d.blockRst = false → d.warmRst = false →
      64 ≤ s.flt.buffer.length →
    Gives (.faultReport (some r)) s fun t =>
      t.flt.buffer = s.flt.buffer ∧ t.flt.lostTotal = satInc s.flt.lostTotal 0xFFFF ∧
      (t.fsrc r.source).lost = satInc (s.fsrc r.source).lost 0xFFFF ∧ (∀ n, n ≠ r.source → t.fsrc n = s.fsrc n) ∧
      t.flt.errnLost = (if d.errN = true ∨ r.severity = 3 then s.flt.errnLost ++ [s.flt.next] else s.flt.errnLost) ∧
      Only [.flt, .tim] s t) ∧
  (∀ (s : State) (r : Report) (d : Reactions), Ready (.faultReport (some r)) s → reportOk r = true →
      decideReactions (s.rv (.fltSrc r.source)) r.severity = d → d.nmi = true → d.blockRst = false → d.warmRst = false →
      s.flt.buffer.length < 64 →
    Gives (.faultReport (some r)) s fun t =>
      t.flt.buffer = s.flt.buffer ++ [{ rep := r, pair := s.pair, react := d }] ∧
      .nmi (s.flt.next + BitVec.ofNat 32 s.flt.buffer.length) ∈ t.out ∧ Only [.flt, .tim, .pwr] s t) ∧
  (∀ (s : State) (x : Nat) (r : Report) (rest : List (Nat × Report)) (d : Reactions), Ready (.faultReport none) s →
      s.flt.inbox = (x, r) :: rest → decideReactions (s.rv (.fltSrc r.source)) r.severity = d → d.nmi = false → d.blockRst = false →
      d.warmRst = false → s.flt.buffer.length < 64 →
    Gives (.faultReport none) s fun t =>
      t.flt = { s.flt with
        inbox := rest, buffer := s.flt.buffer ++ [{ rep := r, pair := s.pair, react := d }],
        bufMax := max s.flt.bufMax (s.flt.buffer.length + 1), sources := t.flt.sources } ∧ Only [.flt, .tim] s t)

/-- How a buffered report becomes a record, and how a source leaves FAULTED. While HBM is available the first buffered report becomes the
record with the next number; a report of the same source and kind as its newest unread record within COAL_MS is folded into it; with
4,096 records unread a FATAL report overwrites the oldest and any other is lost; a write of FLT_RD marks records read and drops what
lost reports it has passed; a FAULTED source whose condition is not held recovers, after HOLD where Table 17.3 gives it no condition:
its recoveries are counted, a RECOVERY record is buffered with no reactions, and event source 9 is raised. Commands that it shows to
complete, so that exec answers a next state with their own effect: faultRecordWrite, fltRdWrite, faultRecovery. It rests on parts of
R575, R576, R577, R578, R579, R581. The model's choices it rests on: log entries 32, 33. -/
def Obligations.FaultRecords : Prop :=
  (∀ (s : State) (b : Stamped) (rest : List Stamped), Ready .faultRecordWrite s → s.hbmUp = true → s.flt.buffer = b :: rest →
      s.coalesces b = none → s.unread < 4096 → bit (s.rv (.fltSrc b.rep.source)) 26 = false →
    Gives .faultRecordWrite s fun t =>
      aget t.flt.slots (s.flt.next.toNat % 4096) = some
        { rep := b.rep, react := b.react, coalesced := 0, pair := b.pair, lost := (s.fsrc b.rep.source).lostSince,
          number := s.flt.next, poisoned := false } ∧
      (∀ k, k ≠ s.flt.next.toNat % 4096 → aget t.flt.slots k = aget s.flt.slots k) ∧
      t.flt = { s.flt with buffer := rest, slots := t.flt.slots, next := s.flt.next + 1, sources := t.flt.sources } ∧
      t.fsrc b.rep.source = { s.fsrc b.rep.source with lostSince := 0 } ∧
      (∀ n, n ≠ b.rep.source → t.fsrc n = s.fsrc n) ∧ Only [.flt] s t) ∧
  (∀ (s : State) (b : Stamped) (rest : List Stamped) (r : FaultRecord), Ready .faultRecordWrite s → s.hbmUp = true →
      s.flt.buffer = b :: rest → s.coalesces b = some r →
    Gives .faultRecordWrite s fun t =>
      t.flt = { s.flt with
        buffer := rest,
        slots := aput s.flt.slots (r.number.toNat % 4096)
          { r with coalesced := satInc r.coalesced 0xFFFF, react := foldReactions r.react b.react } } ∧ Only [.flt] s t) ∧
  (∀ (s : State) (b : Stamped) (rest : List Stamped), Ready .faultRecordWrite s → s.hbmUp = true → s.flt.buffer = b :: rest →
      s.coalesces b = none → s.unread = 4096 → b.rep.severity = 3 → bit (s.rv (.fltSrc b.rep.source)) 26 = false →
    Gives .faultRecordWrite s fun t =>
      t.flt.rd = s.flt.rd + 1 ∧ t.flt.overwritten = satInc s.flt.overwritten 0xFFFF ∧ t.flt.next = s.flt.next + 1 ∧
      t.flt.buffer = rest ∧ (aget t.flt.slots (s.flt.next.toNat % 4096)).map (·.rep) = some b.rep ∧ Only [.flt] s t) ∧
  (∀ (s : State) (b : Stamped) (rest : List Stamped), Ready .faultRecordWrite s → s.hbmUp = true → s.flt.buffer = b :: rest →
      s.coalesces b = none → s.unread = 4096 → b.rep.severity ≠ 3 →
    Gives .faultRecordWrite s fun t =>
      t.flt.slots = s.flt.slots ∧ t.flt.next = s.flt.next ∧ t.flt.rd = s.flt.rd ∧ t.flt.buffer = rest ∧
      t.flt.lostTotal = satInc s.flt.lostTotal 0xFFFF ∧
      (t.fsrc b.rep.source).lost = satInc (s.fsrc b.rep.source).lost 0xFFFF ∧ Only [.flt] s t) ∧
  (∀ (s : State) (ag : Agent) (v : Word), Ready (.fltRdWrite ag v) s → Accepts s .fltRd v →
    Gives (.fltRdWrite ag v) s (Still
      (s.wrote { s with
        flt := { s.flt with rd := v, errnLost := s.flt.errnLost.filter fun x => decide (2 ^ 31 ≤ (v - x).toNat) } } ag .fltRd))) ∧
  (∀ (s : State) (n : Nat), Ready (.faultRecovery n) s → (s.fsrc n).faulted = true → s.heldCondition n = some false →
      s.flt.buffer.length < 64 →
    Gives (.faultRecovery n) s fun t =>
      t.fsrc n = { s.fsrc n with faulted := false, recoveries := satInc (s.fsrc n).recoveries 0xFFFF } ∧
      (∀ k, k ≠ n → t.fsrc k = s.fsrc k) ∧
      t.flt.buffer = s.flt.buffer ++
        [{ rep := { source := n, kind := 0, addr := 0, severity := 0 }, pair := s.pair, react := noReactions }] ∧
      (t.src 9).value = BitVec.ofNat 32 n ∧ (t.src 9).count = satInc (s.src 9).count 255 ∧ Only [.tim, .flt] s t) ∧
  (∀ (s : State) (n : Nat), Ready (.faultRecovery n) s → (s.fsrc n).faulted = true → s.heldCondition n = none →
      s.flt.buffer.length < 64 →
    Gives (.faultRecovery n) s fun t =>
      t.now = max s.now ((s.fsrc n).lastReport + 1000000 * fld (s.rv .fltCfg) 31 16) ∧
      t.fsrc n = { s.fsrc n with faulted := false, recoveries := satInc (s.fsrc n).recoveries 0xFFFF } ∧
      (∀ k, k ≠ n → t.fsrc k = s.fsrc k) ∧ Only [.clock, .tim, .flt] s t)

/-- FORCE makes a source report FORCED, and the report is taken like any other. A write of FLT_SRC_n with FORCE stores the register and
makes source n report kind FORCED, ADDRESS 0, with the severity written. Taking a report that a block has made, a forced one among
them, answers exactly what the same report answers on arrival from its block, whatever its reactions. Commands that it shows to
complete, so that exec answers a next state with their own effect: faultReport, faultForce. -/
def Obligations.ForcedReport : Prop :=
  (∀ (s : State) (ag : Agent) (n : Nat) (v : Word), Ready (.faultForce ag n v) s → Accepts s (.fltSrc n) v → faultListed n = true →
    Gives (.faultForce ag n v) s (Still
      (s.wrote { s.setRv (.fltSrc n) v with
        flt := { s.flt with inbox := joinReports s.now { source := n, kind := 63, addr := 0, severity := fld v 30 29 } s.flt.inbox } } ag (.fltSrc n)))) ∧
  (∀ (s : State) (x : Nat) (r : Report) (rest : List (Nat × Report)), s.flt.inbox = (x, r) :: rest →
      (Instr.faultReport (some r)).wf = true → reportOk r = true →
    exec (.faultReport none) s = exec (.faultReport (some r)) { s with flt := { s.flt with inbox := rest } })

/-- An accepted write puts the RW fields of the register in force, and a lower half is held. A register without an effect of its own takes
the RW bits of the word and every other register stands; a lower half is held for its agent and nothing in force changes; the
management port keeps the status. Commands that it shows to complete, so that exec answers a next state with their own effect:
setupRegisterWrite, sharedResourceWrite. It rests on parts of R4, R565, R646, R648, R649. The model's choices it rests on: log entries
50, 130. -/
def Obligations.SetupWriteTaken : Prop :=
  (∀ (s : State) (ag : Agent) (addr : Nat) (v : Word) (r : Reg), Ready (.setupRegisterWrite ag addr v) s → r ∈ plainRegs →
      regAt addr = some r → Accepts s r v →
    Gives (.setupRegisterWrite ag addr v) s (Still ((s.wrote (s.setRv r v) ag r)))) ∧
  (∀ (s : State) (ag : Agent) (addr : Nat) (v : Word) (r hi : Reg), Ready (.setupRegisterWrite ag addr v) s → regAt addr = some r →
      s.blockOff r = false → regUpper r = some hi →
    Gives (.setupRegisterWrite ag addr v) s (Still
      { s.setLatch { s.latch ag (regAddr r) with lower := some v } with
        pin := { s.pin with lastStatus := if ag = .mgmt then 0 else s.pin.lastStatus } })) ∧
  (∀ (s : State) (ag : Agent) (v : Word), Ready (.sharedResourceWrite ag .timCfg v) s → Accepts s .timCfg v →
      fld v 31 30 = s.timMode → fld v 25 16 = fld (s.rv .timCfg) 25 16 →
    Gives (.sharedResourceWrite ag .timCfg v) s (Still (s.wrote (s.setRv .timCfg v) ag .timCfg))) ∧
  (∀ (s : State) (ag : Agent) (v : Word), Ready (.sharedResourceWrite ag .timCfg v) s → Accepts s .timCfg v →
      fld v 31 30 ≠ s.timMode → s.tim.state ≠ .unset →
    Gives (.sharedResourceWrite ag .timCfg v) s fun t =>
      t.rv .timCfg = v &&& regRw .timCfg ∧ t.tim.state = (if fld v 31 30 = 0 then TimeState.free else TimeState.acquiring) ∧
      t.tim.masters = [] ∧ t.tim.master = none ∧ t.tim.pathDelay = none ∧ t.tim.busy = true ∧ t.tim.tick = s.tim.tick ∧
      Only [.regs, .tim, .pin] s t)

/-- A refused write changes nothing but the record of the refusal. A write outside the map, of a reserved value, against the state, or
that would give SYNC two functions changes no register: it is recorded with its cause, address and path and its status is kept for the
management port; a write to a block in RETENTION or OFF is counted instead. Commands that it shows to complete, so that exec answers a
next state with their own effect: setupRegisterWrite, sharedResourceWrite. It rests on parts of R9, R523, R640, R646, R652, R665. The
model's choices it rests on: log entries 103. -/
def Obligations.SetupWriteRefused : Prop :=
  (∀ (s : State) (ag : Agent) (addr : Nat) (v : Word), Ready (.setupRegisterWrite ag addr v) s → regAt addr = none →
    Gives (.setupRegisterWrite ag addr v) s (Still (s.turnedAway ag 4 (addr / 4 * 4) 3))) ∧
  (∀ (s : State) (ag : Agent) (addr : Nat) (v : Word) (r : Reg), Ready (.setupRegisterWrite ag addr v) s → regAt addr = some r →
      s.blockOff r = false → regUpper r = none → s.wordRefused r v = true →
    Gives (.setupRegisterWrite ag addr v) s (Still (s.turnedAway ag 1 (regAddr r) 1))) ∧
  (∀ (s : State) (ag : Agent) (addr : Nat) (v : Word) (r : Reg), Ready (.setupRegisterWrite ag addr v) s → regAt addr = some r →
      s.blockOff r = false → regUpper r = none → s.wordRefused r v = false → s.stateRefused r v = true →
    Gives (.setupRegisterWrite ag addr v) s (Still (s.turnedAway ag 2 (regAddr r) 1))) ∧
  (∀ (s : State) (ag : Agent) (addr : Nat) (v : Word) (r : Reg), Ready (.setupRegisterWrite ag addr v) s → regAt addr = some r →
      s.blockOff r = true →
    Gives (.setupRegisterWrite ag addr v) s (Still
      { s with
        pwr := { s.pwr with offValid := true, offBlock := (regSpot r).1, offCount := satInc s.pwr.offCount 0xFFFF },
        pin := { s.pin with lastStatus := if ag = .mgmt then 4 else s.pin.lastStatus } })) ∧
  (∀ (s : State) (ag : Agent) (r : Reg) (v : Word), Ready (.sharedResourceWrite ag r v) s → regAt (regAddr r) = some r →
      s.blockOff r = false → s.wordRefused r v = false → s.syncConflict r v = true →
    Gives (.sharedResourceWrite ag r v) s (Still (s.turnedAway ag 3 (regAddr r) 2)))

/-- What the management port reads. READ_MGMT answers the status and the four bytes of the register, latching the upper half of a pair
with its lower register; an address outside the map answers status 3 and zeros; a wrong PEC is not acknowledged; LAST_STATUS answers
the status of the last write; SDA is released when SCL has been low for 35 ms. Commands that it shows to complete, so that exec
answers a next state with their own effect: readMgmt, lastStatus, mgmtSclTimeout. It rests on parts of R4, R642, R646, R649. The
model's choices it rests on: log entries 53, 54. -/
def Obligations.SetupReads : Prop :=
  (∀ (s : State) (addr : Nat) (r : Reg), Ready (.readMgmt addr true) s → regAt addr = some r → s.blockOff r = false →
      regUpper r = none → regLower r = none → r ≠ .pwrSense → r ≠ .pinThermStat →
    Gives (.readMgmt addr true) s (Still { s with out := s.out ++ [.mgmt ([5, 0] ++ leBytes 4 (s.regPeek r).toNat)] })) ∧
  (∀ (s : State) (addr : Nat) (r hi : Reg), Ready (.readMgmt addr true) s → regAt addr = some r → s.blockOff r = false →
      regUpper r = some hi →
    Gives (.readMgmt addr true) s (Still
      { s.setLatch { s.latch .mgmt (regAddr r) with upper := some (s.regPeek hi) } with
        out := s.out ++ [.mgmt ([5, 0] ++ leBytes 4 (s.regPeek r).toNat)] })) ∧
  (∀ (s : State) (addr : Nat) (hi lo : Reg) (w : Word), Ready (.readMgmt addr true) s → regAt addr = some hi → s.blockOff hi = false →
      regUpper hi = none → regLower hi = some lo → (s.latch .mgmt (regAddr lo)).upper = some w →
    Gives (.readMgmt addr true) s (Still
      { s.setLatch { s.latch .mgmt (regAddr lo) with upper := none } with out := s.out ++ [.mgmt ([5, 0] ++ leBytes 4 w.toNat)] })) ∧
  (∀ (s : State) (addr : Nat), Ready (.readMgmt addr true) s → regAt addr = none →
    Gives (.readMgmt addr true) s (Still { s with out := s.out ++ [.mgmt [5, 3, 0, 0, 0, 0]] })) ∧
  (∀ (s : State) (addr : Nat), Ready (.readMgmt addr false) s →
    Gives (.readMgmt addr false) s (Still { s with out := s.out ++ [.mgmtNoAck] })) ∧
  (∀ (s : State), Ready .lastStatus s →
    Gives .lastStatus s (Still { s with out := s.out ++ [.mgmt [BitVec.ofNat 8 s.pin.lastStatus]] })) ∧
  (∀ (s : State), Ready .mgmtSclTimeout s →
    Gives .mgmtSclTimeout s (Still { s.advance 35000000 with pin := { s.pin with sdaHeld := false } }))

/-- Port addresses are held until ETH_IP_CTL_p is written, which is refused where a GID in use would go. A write of ETH_IPV4_p,
ETH_IPV4_GW_p or ETH_IPV6_p_k is held and changes no register. A write of ETH_IP_CTL_p that keeps every GID in use puts it and every
held write in force and holds none any more. One after which a path of a session not in FREE would have lost its GID is refused with
cause STATE and leaves everything, the held writes among it, as it was. Commands that it shows to complete, so that exec answers a
next state with their own effect: ethIpCtlWrite, ethAddressWrite. -/
def Obligations.PortAddressesHeld : Prop :=
  (∀ (s : State) (ag : Agent) (p : Nat) (v : Word), Ready (.ethAddressWrite ag p 0 v) s → Accepts s (.ethIpv4 p) v →
    Gives (.ethAddressWrite ag p 0 v) s (Still (s.wrote (s.modPort p fun x => { x with heldV4 := some v }) ag (.ethIpv4 p)))) ∧
  (∀ (s : State) (ag : Agent) (p : Nat) (v : Word), Ready (.ethAddressWrite ag p 1 v) s → Accepts s (.ethIpv4Gw p) v →
    Gives (.ethAddressWrite ag p 1 v) s (Still (s.wrote (s.modPort p fun x => { x with heldGw := some v }) ag (.ethIpv4Gw p)))) ∧
  (∀ (s : State) (ag : Agent) (p k : Nat) (v : Word), Ready (.ethAddressWrite ag p (k + 2) v) s → Accepts s (.ethIpv6 p k) v →
    Gives (.ethAddressWrite ag p (k + 2) v) s (Still
      (s.wrote (s.modPort p fun x => { x with heldV6 := aput x.heldV6 k v }) ag (.ethIpv6 p k)))) ∧
  (∀ (s : State) (ag : Agent) (p : Nat) (v : Word) (x : Port), Ready (.ethIpCtlWrite ag p v) s → Accepts s (.ethIpCtl p) v →
      s.port p = x →
    Gives (.ethIpCtlWrite ag p v) s (Still
      (s.wrote ((x.heldV6.foldl (fun u e => u.setRv (.ethIpv6 p e.1) e.2) (x.heldGw.toList.foldl (fun u w => u.setRv (.ethIpv4Gw p) w) (x.heldV4.toList.foldl (fun u w => u.setRv (.ethIpv4 p) w) (s.setRv (.ethIpCtl p) v)))).modPort p fun y => { y with
        heldV4 := none, heldGw := none, heldV6 := [] }) ag (.ethIpCtl p)))) ∧
  (∀ (s : State) (ag : Agent) (p : Nat) (v : Word), Ready (.ethIpCtlWrite ag p v) s →
      regAt (regAddr (.ethIpCtl p)) = some (.ethIpCtl p) → s.blockOff (.ethIpCtl p) = false → s.wordRefused (.ethIpCtl p) v = false →
      s.gidLost p v = true →
    Gives (.ethIpCtlWrite ag p v) s (Still (s.turnedAway ag 2 (regAddr (.ethIpCtl p)) 1)))

/-- Power pins, straps, the die temperature, a failed control core, JTAG. RAIL_EN rises at power-up; PWRGOOD rising samples the straps,
and where the rails were lost the device is not booted; TEMP_C, its maximum and the warning with its 5 degrees of hysteresis; a core
that fails its lockstep check is out of use and reported; the four JTAG instructions select their register while RESET_N is low and
every other does nothing. Commands that it shows to complete, so that exec answers a next state with their own effect: pwrgoodRise,
powerUp, dieTemperatureChange, coreLockstepFail, jtagInstruction. It rests on parts of R28, R539, R613, R634, R642, R644. The model's
choices it rests on: log entries 5, 13. -/
def Obligations.PinsAndTemperature : Prop :=
  (∀ (s : State), Ready .powerUp s → s.pwr.point ≠ 0x45 →
    Gives .powerUp s (Still { s with pwr := { s.pwr with railEn := true } })) ∧
  (∀ (s : State) (straps : Nat), Ready (.pwrgoodRise straps false) s → s.pwr.umbra = false →
    Gives (.pwrgoodRise straps false) s (Still
      { s with pwr := { s.pwr with pwrgood := true }, pin := { s.pin with straps := straps } })) ∧
  (∀ (s : State) (straps : Nat), Ready (.pwrgoodRise straps true) s →
    Gives (.pwrgoodRise straps true) s (Still
      { s with
        pwr := { s.pwr with pwrgood := true }, pin := { s.pin with straps := straps },
        sec := { s.sec with booted := false, recovery := false } })) ∧
  (∀ (s : State) (temp : Int), Ready (.dieTemperatureChange temp) s →
    let c := min 255 temp.toNat
    Gives (.dieTemperatureChange temp) s (Still
      { s with
        pin := { s.pin with
          tempC := c, maxC := max s.pin.maxC c,
          thermHot := if fld (s.rv .pinThermCfg) 15 8 < c then true else if c + 5 ≤ fld (s.rv .pinThermCfg) 15 8 then false else s.pin.thermHot } })) ∧
  (∀ (s : State) (k : Nat), Ready (.coreLockstepFail k) s → s.pin.coresOut.testBit k = false → s.pwr.change = none →
    Gives (.coreLockstepFail k) s (Still
      { s with
        pin := { s.pin with coresOut := s.pin.coresOut + 2 ^ k },
        flt := { s.flt with inbox := joinReports s.now { source := 304 + k, kind := 1, addr := 0, severity := 2 } s.flt.inbox } })) ∧
  (∀ (s : State) (ir : Nat), Ready (.jtagInstruction ir) s → s.pwr.resetN = false → ir < 4 →
    Gives (.jtagInstruction ir) s (Still { s with out := s.out ++ [.jtag ir (if ir = 0 then 1 else if ir = 1 then 32 else 0)] })) ∧
  (∀ (s : State) (ir : Nat), Ready (.jtagInstruction ir) s → 3 < ir →
    Gives (.jtagInstruction ir) s (Still s))

/-- What the operations of the boot flash do. An accepted GO of each operation puts it in progress with the window as it stands and clears
ERROR; a read that completes fills the window from the flash; a failed one sets ERROR; no program or erase begins from PN2 on.
Commands that it shows to complete, so that exec answers a next state with their own effect: flashRead, flashProgram, flashErase,
flashOpDone. It rests on parts of R605, R623. The model's choices it rests on: log entries 5, 55. -/
def Obligations.BootFlash : Prop :=
  (∀ (s : State) (ag : Agent) (v : Word), Ready (.flashRead ag v) s → Accepts s .secFlashCtl v →
    Gives (.flashRead ag v) s (Still
      (s.wrote { s.setRv .secFlashCtl v with
        sec := { s.sec with
          flashBusy := some { op := 0, addr := fld (s.rv .secFlashAddr) 28 0, window := sliceBytes s.sec.window 0 256 },
          flashError := false } } ag .secFlashCtl))) ∧
  (∀ (s : State) (ag : Agent) (v : Word), Ready (.flashProgram ag v) s → Accepts s .secFlashCtl v →
    Gives (.flashProgram ag v) s (Still
      (s.wrote { s.setRv .secFlashCtl v with
        sec := { s.sec with
          flashBusy := some { op := 1, addr := fld (s.rv .secFlashAddr) 28 0, window := sliceBytes s.sec.window 0 256 },
          flashError := false } } ag .secFlashCtl))) ∧
  (∀ (s : State) (ag : Agent) (v : Word), Ready (.flashErase ag v) s → Accepts s .secFlashCtl v →
    Gives (.flashErase ag v) s (Still
      (s.wrote { s.setRv .secFlashCtl v with
        sec := { s.sec with
          flashBusy := some { op := 2, addr := fld (s.rv .secFlashAddr) 28 0, window := sliceBytes s.sec.window 0 256 },
          flashError := false } } ag .secFlashCtl))) ∧
  (∀ (s : State) (f : FlashOp), Ready (.flashOpDone true) s → s.sec.flashBusy = some f → f.op = 0 →
    Gives (.flashOpDone true) s (Still
      { s with
        sec := { s.sec with flashBusy := none, flashError := false, window := (List.range 256).map fun i => s.flashByte (f.addr + i) } })) ∧
  (∀ (s : State) (f : FlashOp), Ready (.flashOpDone true) s → s.sec.flashBusy = some f → f.op = 1 → s.stageCode < 2 →
    Gives (.flashOpDone true) s fun t =>
      t.sec.flashBusy = none ∧ t.sec.flashError = false ∧
      (∀ i < f.window.length, t.flashByte (f.addr + i) = (s.flashByte (f.addr + i) &&& f.window.getD i 0)) ∧
      (∀ a, ¬(f.addr ≤ a ∧ a < f.addr + f.window.length) → t.flashByte a = s.flashByte a) ∧ Only [.sec] s t) ∧
  (∀ (s : State) (f : FlashOp), Ready (.flashOpDone true) s → s.sec.flashBusy = some f → f.op = 2 → s.stageCode < 2 →
    Gives (.flashOpDone true) s fun t =>
      t.sec.flashBusy = none ∧ t.sec.flashError = false ∧ (∀ i, i < 65536 → t.flashByte (f.addr + i) = 0xFF) ∧
      (∀ a, ¬(f.addr ≤ a ∧ a < f.addr + 65536) → t.flashByte a = s.flashByte a) ∧ Only [.sec] s t) ∧
  (∀ (s : State) (f : FlashOp), Ready (.flashOpDone false) s → s.sec.flashBusy = some f → s.stageCode < 2 →
    Gives (.flashOpDone false) s (Still { s with sec := { s.sec with flashBusy := none, flashError := true } })) ∧
  (∀ (s : State) (ok : Bool) (f : FlashOp), Ready (.flashOpDone ok) s → s.sec.flashBusy = some f → f.op ≠ 0 → 2 ≤ s.stageCode →
    Gives (.flashOpDone ok) s (Still s))

/-- A GO of the boot flash outside RECOVERY, while BUSY, or in the key area is refused. For each operation of SEC_FLASH_CTL: a GO while
the device is not in RECOVERY, while an operation is in progress, or with SEC_FLASH_ADDR in the key area of Table 18.7 (0x20000 to
0xFFFFF) leaves every register as it was and is recorded as refused with cause STATE. -/
def Obligations.FlashGoRefused : Prop :=
  (∀ (s : State) (i : Instr) (ag : Agent) (v : Word), Ready i s → i ∈ [Instr.flashRead ag v, .flashProgram ag v, .flashErase ag v] →
      s.blockOff .secFlashCtl = false →
      s.sec.recovery = false ∨ s.sec.flashBusy.isSome = true ∨ 0x20000 ≤ fld (s.rv .secFlashAddr) 28 0 ∧ fld (s.rv .secFlashAddr) 28 0 < 0x100000 →
    Gives i s (Still (s.turnedAway ag 2 (regAddr .secFlashCtl) 1)))

/-- How the spindle starts: LISTEN, SENSE, ALIGN, OPEN_LOOP, RAMP. ENABLE in STOPPED or FAULT begins LISTEN; after 5 ms with no back-EMF
SENSE follows, with a speed of OL_RPM or above RAMP from that speed, below it BRAKE and then SENSE; the sector found begins ALIGN,
T_ALIGN later OPEN_LOOP, and T_OL later RAMP where the crossings matched, or START_FAIL; the third START_FAIL is a fault, an earlier
one is retried after 1 s. Commands that it shows to complete, so that exec answers a next state with their own effect: spindleEnable,
listenEnd, senseEnd, alignEnd, openLoopEnd, startRetry. It rests on parts of R252, R253, R254, R255. The model's choices it rests on:
log entries 3, 5, 142, 145. -/
def Obligations.SpindleStart : Prop :=
  (∀ (s : State) (ag : Agent) (v : Word), Ready (.spindleEnable ag v) s → Accepts s .spnCtl v →
      s.spn.state = .stopped ∨ s.spn.state = .fault → s.spn.retryDue = none →
    let u := s.setRv .spnCtl v
    Gives (.spindleEnable ag v) s fun t =>
      t.spn = { s.spn with
        state := .listen, since := s.now, enabledAt := s.now + 1, attempts := 0, thenSense := false, target := u.targetRpm, command := 0,
        gates := t.spn.gates, gateFree := t.spn.gateFree } ∧
      GatesFollow s t ∧ Still (s.wrote { u with spn := t.spn } ag .spnCtl) t) ∧
  (∀ (s : State), Ready (.listenEnd none) s → s.spn.state = .listen →
    let u := s.advanceTo (s.spn.since + 5000000)
    Gives (.listenEnd none) s fun t =>
      t.spn = { s.spn with state := .sense, since := u.now, command := 0, gates := t.spn.gates, gateFree := t.spn.gateFree } ∧
      GatesFollow s t ∧ Still { u with spn := t.spn } t) ∧
  (∀ (s : State) (v : Nat), Ready (.listenEnd (some v)) s → s.spn.state = .listen → 16 * s.spnPers.olRpm ≤ v →
    let u := s.advanceTo (s.spn.since + 5000000)
    Gives (.listenEnd (some v)) s fun t =>
      t.spn.state = .ramp ∧ t.spn.since = u.now ∧ t.spn.speed = v ∧ t.spn.setPoint = v ∧ t.spn.setAt = u.now ∧ t.spn.anchored = false ∧
      GatesFollow s t ∧ t.now = u.now ∧ Only [.clock, .tim, .spn, .plc, .pwr] s t) ∧
  (∀ (s : State) (v : Nat), Ready (.listenEnd (some v)) s → s.spn.state = .listen → v < 16 * s.spnPers.olRpm →
    let u := s.advanceTo (s.spn.since + 5000000)
    Gives (.listenEnd (some v)) s fun t =>
      t.spn = { s.spn with state := .brake, since := u.now, thenSense := true, command := 32767, gates := t.spn.gates, gateFree := t.spn.gateFree } ∧
      GatesFollow s t ∧ Still { u with spn := t.spn } t) ∧
  (∀ (s : State) (sector : Nat), Ready (.senseEnd sector) s → s.spn.state = .sense →
    Gives (.senseEnd sector) s fun t =>
      t.spn = { s.spn with
        state := .align, since := s.now, rotor := sector, command := ((s.spnPers.iAlign * 32767 / max 1 s.spnPers.iFs : Nat) : Int),
        gates := t.spn.gates, gateFree := t.spn.gateFree } ∧
      GatesFollow s t ∧ Still { s with spn := t.spn } t) ∧
  (∀ (s : State), Ready .alignEnd s → s.spn.state = .align →
    let u := s.advanceTo (s.spn.since + 1000000 * s.spnPers.tAlign)
    Gives .alignEnd s fun t =>
      t.spn = { s.spn with
        state := .openLoop, since := u.now, command := ((s.spnPers.iAlign * 32767 / max 1 s.spnPers.iFs : Nat) : Int),
        gates := t.spn.gates, gateFree := t.spn.gateFree } ∧
      GatesFollow s t ∧ Still { u with spn := t.spn } t) ∧
  (∀ (s : State), Ready .openLoopEnd s → s.spn.state = .openLoop → s.olMatched = true →
    let u := s.advanceTo (s.spn.since + 1000000 * s.spnPers.tOl)
    Gives .openLoopEnd s fun t =>
      t.spn.state = .ramp ∧ t.spn.since = u.now ∧ t.spn.speed = 16 * s.spnPers.olRpm ∧ t.spn.setPoint = 16 * s.spnPers.olRpm ∧
      t.spn.setAt = u.now ∧ GatesFollow s t ∧ t.now = u.now ∧ Only [.clock, .tim, .spn, .plc, .pwr] s t) ∧
  (∀ (s : State), Ready .openLoopEnd s → s.spn.state = .openLoop → s.olMatched = false → s.spn.attempts < 2 →
    let u := s.advanceTo (s.spn.since + 1000000 * s.spnPers.tOl)
    Gives .openLoopEnd s fun t =>
      t.spn = { s.spn with
        state := .stopped, since := u.now, attempts := s.spn.attempts + 1, lastFault := 1, retryDue := some (u.now + 1000000000),
        command := 0, gates := t.spn.gates, gateFree := t.spn.gateFree } ∧ GatesFollow s t ∧
      Still { u with spn := t.spn, flt := { s.flt with inbox := joinReports u.now { source := 64, kind := 1, addr := 0, severity := 1 } s.flt.inbox } } t) ∧
  (∀ (s : State), Ready .openLoopEnd s → s.spn.state = .openLoop → s.olMatched = false → s.spn.attempts = 2 →
    let u := s.advanceTo (s.spn.since + 1000000 * s.spnPers.tOl)
    Gives .openLoopEnd s fun t =>
      t.spn.state = .fault ∧ t.spn.attempts = 3 ∧ t.spn.lastFault = 1 ∧ t.spn.retryDue = none ∧ t.spn.duty = 0 ∧ GatesFollow s t ∧
      t.flt.inbox = joinReports u.now { source := 64, kind := 1, addr := 0, severity := 2 } s.flt.inbox ∧
      t.now = u.now ∧ Only [.clock, .tim, .spn, .flt, .plc, .pwr] s t) ∧
  (∀ (s : State) (x : Nat), Ready .startRetry s → s.spn.retryDue = some x →
    Gives .startRetry s fun t =>
      t.spn = { s.spn with state := .sense, since := max s.now x, retryDue := none, command := 0, gates := t.spn.gates, gateFree := t.spn.gateFree } ∧
      GatesFollow s t ∧ Still { s.advanceTo x with spn := t.spn } t)

/-- Target writes, stopping, and the spindle faults. A target write in AT_SPEED returns to RAMP from the measured speed, one that repeats
the target too; clearing ENABLE is refused while an actuator is loaded, and otherwise brakes; BRAKE ends 500 ms after the last
crossing; AT_SPEED missed by T_SPINUP and an overcurrent of two periods are faults. Commands that it shows to complete, so that exec
answers a next state with their own effect: spindleDisable, targetRpmWrite, spinupTimeout, brakeEnd, spindleCurrentPeriod. It rests on
parts of R255, R256, R258, R259, R260, R279, R280, R664. The model's choices it rests on: log entries 3, 59, 142. -/
def Obligations.SpindleSpeedAndStop : Prop :=
  (∀ (s : State) (ag : Agent) (v : Word), Ready (.targetRpmWrite ag v) s → Accepts s .spnCtl v → bit v 31 = true →
      s.spn.state = .atSpeed → s.spn.target ≤ (s.setRv .spnCtl v).targetRpm → s.stageCode = 0 →
    Gives (.targetRpmWrite ag v) s fun t =>
      t.rv .spnCtl = v &&& regRw .spnCtl ∧ t.spn.state = .ramp ∧ t.spn.since = s.now ∧ t.spn.target = t.targetRpm ∧
      t.spn.setPoint = s.spn.speed ∧ t.spn.setAt = s.now ∧ t.spn.goodRevs = 0 ∧
      GatesFollow s t ∧ Only [.regs, .spn, .plc, .pwr, .pin] s t) ∧
  (∀ (s : State) (ag : Agent) (v : Word), Ready (.spindleDisable ag v) s → Accepts s .spnCtl v → bit (s.rv .spnCtl) 31 = true →
      s.spn.state ≠ .stopped → s.spn.state ≠ .fault →
    Gives (.spindleDisable ag v) s fun t =>
      t.rv .spnCtl = v &&& regRw .spnCtl ∧ t.spn.state = .brake ∧ t.spn.since = s.now ∧ t.spn.thenSense = false ∧ t.spn.enabledAt = 0 ∧ GatesFollow s t ∧
      (t.spn.tlState = .wait ∨ t.spn.tlState = .off) ∧ Only [.regs, .spn, .plc, .pwr, .pin] s t) ∧
  (∀ (s : State) (ag : Agent) (v : Word), Ready (.spindleDisable ag v) s → s.blockOff .spnCtl = false →
      s.wordRefused .spnCtl v = false → bit (s.rv .spnCtl) 31 = true → s.allUnloaded = false →
    Gives (.spindleDisable ag v) s (Still (s.turnedAway ag 2 (regAddr .spnCtl) 1))) ∧
  (∀ (s : State), Ready .brakeEnd s → s.spn.state = .brake →
    let u := s.advanceTo (max s.spn.since (s.spn.crossings.headD 0) + 500000000)
    Gives .brakeEnd s fun t =>
      t.spn = { s.spn with
        state := if s.spn.thenSense then .sense else .stopped, since := u.now, thenSense := false, speed := 0, anchored := false,
        crossings := [], command := 0, gates := t.spn.gates, gateFree := t.spn.gateFree } ∧
      GatesFollow s t ∧ Still { u with spn := t.spn } t) ∧
  (∀ (s : State), Ready .spinupTimeout s → s.spn.enabledAt ≠ 0 → s.spn.state ≠ .atSpeed → s.spn.state ≠ .coast →
    let u := s.advanceTo (s.spn.enabledAt - 1 + 100000000 * s.spnPers.tSpinup)
    Gives .spinupTimeout s fun t =>
      t.spn.state = .fault ∧ t.spn.lastFault = 2 ∧ t.spn.command = 0 ∧ t.spn.duty = 0 ∧ t.spn.enabledAt = 0 ∧ t.now = u.now ∧ GatesFollow s t ∧
      t.flt.inbox = joinReports u.now { source := 64, kind := 2, addr := 0, severity := 2 } s.flt.inbox ∧
      Only [.clock, .tim, .spn, .flt, .plc, .pwr] s t) ∧
  (∀ (s : State) (isense : Int), Ready (.spindleCurrentPeriod isense) s → 10 * isense ≤ 12 * 32767 →
      10 * (s.commandNow - isense).natAbs ≤ 32767 →
    Gives (.spindleCurrentPeriod isense) s fun t =>
      t.spn = { s.spn with
        command := s.commandNow, integ := s.spn.integ + s.spnPers.curKi * (s.commandNow - isense),
        duty := s.spnPers.curKp * (s.commandNow - isense) + (s.spn.integ + s.spnPers.curKi * (s.commandNow - isense)),
        overRun := 0, diffRun := 0, gates := t.spn.gates, gateFree := t.spn.gateFree } ∧
      GatesFollow s t ∧ Still { s with spn := t.spn } t) ∧
  (∀ (s : State) (isense : Int), Ready (.spindleCurrentPeriod isense) s → 12 * 32767 < 10 * isense → s.spn.overRun = 1 →
    Gives (.spindleCurrentPeriod isense) s fun t =>
      t.spn.state = .fault ∧ t.spn.lastFault = 4 ∧ t.spn.command = 0 ∧ t.spn.duty = 0 ∧
      t.flt.inbox = joinReports s.now { source := 64, kind := 4, addr := 0, severity := 2 } s.flt.inbox ∧
      (∀ a, a < 4 → (s.act a).state = .following → (t.act a).state = .retract) ∧
      Only [.spn, .flt, .plc, .sce, .chn, .wrp, .seq, .pwr] s t)

/-- Zero crossings, the index and the transit-lock reference. A zero crossing advances the rotor sector and gives the speed over the last
six; the index sets IDX of every sequencer and, after eight revolutions within 0.1 % of the target, AT_SPEED; an accepted SYNC edge is
the reference, another is counted; without edges for 4 x SYNC_DIV revolutions the lock holds over. Commands that it shows to complete,
so that exec answers a next state with their own effect: zeroCrossing, spindleIndex, syncEdge, tlHoldover. It rests on parts of R255,
R262, R267, R270, R273. The model's choices it rests on: log entries 5, 52. -/
def Obligations.SpindleRevolutions : Prop :=
  (∀ (s : State) (late : Bool) (x : Nat), Ready (.zeroCrossing late) s →
      s.spn.state = .coast ∨ s.spn.state = .brake ∨ s.spn.state = .openLoop → s.loadedActs = [] → s.spn.crossings[5]? = some x →
      x < s.now →
    Gives (.zeroCrossing late) s fun t =>
      t.spn = { s.spn with crossings := (s.now :: s.spn.crossings).take 13, speed := min (16 * 60000000000 / (s.spnPers.polePairs * (s.now - x))) (2 ^ 20 - 1), rotor := (s.spn.rotor + 1) % 6 } ∧
      (∀ n, t.slot n = if n = 20 then { s.slot n with run := false } else s.slot n) ∧ t.sce.acts = s.sce.acts ∧
      t.sce.heads = s.sce.heads ∧ Only [.spn, .sce] s t) ∧
  (∀ (s : State) (late : Bool), Ready (.zeroCrossing late) s → s.spn.state = .ramp ∨ s.spn.state = .atSpeed →
    Gives (.zeroCrossing late) s fun t =>
      t.spn.crossings = (s.now :: s.spn.crossings).take 13 ∧ t.spn.rotor = (s.spn.rotor + 1) % 6 ∧
      Only [.regs, .setupErr, .spn, .flt, .plc, .sce, .chn, .wrp, .seq, .pwr] s t) ∧
  (∀ (s : State) (late : Bool), Ready (.spindleIndex late) s → s.spn.state = .ramp → s.setPointNow = 16 * s.spn.target →
      1000 * ((s.spn.speed : Int) - (16 * s.spn.target : Nat)).natAbs ≤ 16 * s.spn.target → s.spn.goodRevs = 7 →
      s.spn.target = s.targetRpm → s.spn.tlState = .off → s.spn.tlCfg = s.rv .spnTlCfg → s.pwr.toLoad = [] → s.pwr.change = none →
    Gives (.spindleIndex late) s fun t =>
      t.spn.state = .atSpeed ∧ t.spn.since = s.now ∧ t.spn.goodRevs = 0 ∧ t.spn.enabledAt = 0 ∧
      (∀ q, q < 18 → (t.seqr q).idx = true) ∧ (∀ n, t.slot n = if n = 21 then { s.slot n with run := false } else s.slot n) ∧
      t.sce.acts = s.sce.acts ∧ t.sce.heads = s.sce.heads ∧ GatesFollow s t ∧ Only [.spn, .sce, .seq, .plc, .pwr] s t) ∧
  (∀ (s : State), Ready .syncEdge s → s.syncFn = 3 → s.spn.syncEdge = none → s.spn.tlState ≠ .holdover →
    Gives .syncEdge s (Still { s with spn := { s.spn with syncEdge := some s.now } })) ∧
  (∀ (s : State) (x : Nat), Ready .syncEdge s → s.syncFn = 3 → s.spn.syncEdge = some x →
      fld (s.rv .spnTlCfg) 23 16 * 60000000000 / max 1 s.targetRpm < 1000 * ((s.now : Int) - x - (fld (s.rv .spnTlCfg) 23 16 * 60000000000 / max 1 s.targetRpm : Nat)).natAbs →
    Gives .syncEdge s (Still { s with spn := { s.spn with syncBad := satInc s.spn.syncBad 255 } })) ∧
  (∀ (s : State) (x : Nat), Ready .tlHoldover s → fld s.spn.tlCfg 31 30 = 2 → s.spn.tlState = .locked → s.spn.syncEdge = some x →
    let u := s.advanceTo (x + 4 * fld s.spn.tlCfg 23 16 * 60000000000 / max 1 s.targetRpm)
    Gives .tlHoldover s (Still
      { u with
        spn := { s.spn with tlState := .holdover, phRun := 0, lossRun := 0, lastFault := 7 },
        flt := { s.flt with inbox := joinReports u.now { source := 64, kind := 7, addr := 0, severity := 0 } s.flt.inbox } }))

/-- What a sample of an actuator does. A late sample is an OVERRUN that discards its records; in LOADING the fourth valid record in a row
of an active head ends the load in SETTLING; a PWM period integrates the current error in FOLLOWING, and while the actuator moves to
or from the ramp takes the command of the velocity loop, whose gain the manual leaves open, with the friction and coupling terms.
Commands that it shows to complete, so that exec answers a next state with their own effect: servoSample, currentLoopPeriod. It rests
on parts of R203, R236, R238, R247. The model's choices it rests on: log entries 104, 106, 107, 109. -/
def Obligations.ServoSamples : Prop :=
  (∀ (s : State) (a : Nat), Ready (.servoSample a true) s → s.sampleRecords a ≠ [] →
    Gives (.servoSample a true) s fun t =>
      (t.act a).lastFault = 6 ∧ (t.act a).command = (s.act a).command ∧ t.now = max s.now (s.sampleStart a + 600) ∧
      t.flt.inbox = joinReports t.now { source := 32 + a, kind := 6, addr := 0, severity := 0 } s.flt.inbox ∧
      (∀ st ∈ streamsOf a, (t.stream st).fresh = none) ∧ Only [.clock, .tim, .flt, .chn, .sce] s t) ∧
  (∀ (s : State) (a : Nat) (late : Bool), Ready (.servoSample a late) s → s.sampleRecords a = [] →
    Gives (.servoSample a late) s fun t =>
      (∀ st ∈ streamsOf a, t.stream st = { s.stream st with fresh := none }) ∧
      (∀ st, st ∉ streamsOf a → t.stream st = s.stream st) ∧ Only [.chn] s t) ∧
  (∀ (s : State) (a st : Nat) (r : ServoRec), Ready (.servoSample a false) s → (s.act a).state = .loading → st ∈ s.activeStreams a →
      (st, r) ∈ s.sampleRecords a → validRec r = true → (s.loop st).regain = 3 →
    Gives (.servoSample a false) s fun t =>
      (t.act a).state = .settling ∧ (t.act a).stateSince = t.now ∧ (t.act a).goTime = 0 ∧ (t.act a).headsOn = true ∧
      (t.act a).settleRun = 0 ∧ t.now = max s.now (s.sampleStart a + 600) ∧ (t.act a).began = some (s.sampleStart a) ∧
      (∀ b, b ≠ a → t.act b = s.act b) ∧ Only [.clock, .tim, .regs, .setupErr, .chn, .sce, .plc, .pwr] s t) ∧
  (∀ (s : State) (a : Nat) (isense vcoil : Int), Ready (.currentLoopPeriod a isense vcoil) s → (s.act a).stageOn = true →
      (s.act a).state = .following → 10 * ((s.act a).command - isense).natAbs ≤ 32767 →
    Gives (.currentLoopPeriod a isense vcoil) s (Still
      (s.modAct a fun x => { x with
        current := isense, integ := x.integ + (s.actPers a).curKi * (x.command - isense),
        duty := (s.actPers a).curKp * (x.command - isense) + (x.integ + (s.actPers a).curKi * (x.command - isense)), diffRun := 0,
        velocity := s.backEmf a isense vcoil, slowSince := none }))) ∧
  (∀ (s : State) (a : Nat) (isense vcoil : Int), Ready (.currentLoopPeriod a isense vcoil) s → (s.act a).stageOn = true →
      (s.act a).state = .loading ∨ (s.act a).state = .unloading ∨ (s.act a).state = .retract → (s.act a).diffRun < 31 →
    let c := (s.vcmSum a (s.velocityLoop a (s.backEmf a isense vcoil)) 0).1
    Gives (.currentLoopPeriod a isense vcoil) s fun t =>
      t.act a = { s.act a with
        command := c, commands := (c :: (s.act a).commands).take 16, current := isense,
        integ := (s.act a).integ + (s.actPers a).curKi * (c - isense),
        duty := (s.actPers a).curKp * (c - isense) + ((s.act a).integ + (s.actPers a).curKi * (c - isense)),
        diffRun := if 32767 < 10 * (c - isense).natAbs then (s.act a).diffRun + 1 else 0, velocity := s.backEmf a isense vcoil,
        slowSince := if (s.act a).state ≠ .loading ∧ 100 * (s.backEmf a isense vcoil).natAbs < 5000 * (s.actPers a).unloadV then
          some ((s.act a).slowSince.getD s.now) else none } ∧
      (∀ b, b ≠ a → t.act b = s.act b) ∧ Only [.sce] s t)

/-- Slot swaps, banks and targets. SWAP is kept with who asked; a word of an inactive bank and an accepted target are stored; a write to
the active bank is refused; an uncorrectable slot memory error moves the loop to a free spare. Commands that it shows to complete, so
that exec answers a next state with their own effect: swapRequest, sceWindowWrite, sceTgtWrite, slotMem. It rests on parts of R209,
R210, R211, R218, R246. The model's choices it rests on: log entries 124. -/
def Obligations.ServoSettings : Prop :=
  (∀ (s : State) (ag : Agent) (n : Nat) (v : Word), Ready (.swapRequest ag n v) s → Accepts s (.sceSlot n) v →
    Gives (.swapRequest ag n v) s (Still
      (s.wrote ((s.setRv (.sceSlot n) v).modSlot n fun x => { x with
        swap := true, swapBy := ag, outSat := x.outSat && !bit v 25, stateSat := x.stateSat && !bit v 24 }) ag (.sceSlot n)))) ∧
  (∀ (s : State) (ag : Agent) (ofs : Nat) (v : Word), Ready (.sceWindowWrite ag ofs v) s → Accepts s (.sceWindow ofs) v →
    Gives (.sceWindowWrite ag ofs v) s (Still (s.wrote (s.setRv (.sceWindow ofs) v) ag (.sceWindow ofs)))) ∧
  (∀ (s : State) (ag : Agent) (ofs : Nat) (v : Word), Ready (.sceWindowWrite ag ofs v) s →
      regAt (regAddr (.sceWindow ofs)) = some (.sceWindow ofs) → s.blockOff (.sceWindow ofs) = false → s.bankClosed ofs = true →
    Gives (.sceWindowWrite ag ofs v) s (Still (s.turnedAway ag 2 (regAddr (.sceWindow ofs)) 1))) ∧
  (∀ (s : State) (ag : Agent) (st : Nat) (v : Word), Ready (.sceTgtWrite ag st v) s → Accepts s (.sceTgt st) v →
    Gives (.sceTgtWrite ag st v) s (Still (s.wrote (s.setRv (.sceTgt st) v) ag (.sceTgt st)))) ∧
  (∀ (s : State) (n : Nat), Ready (.slotMem n) s → (((List.range 22).map fun k => (s.slot k).phys).contains 22) = false →
    Gives (.slotMem n) s fun t =>
      (t.slot n).phys = 22 ∧ (t.slot n).states = List.replicate 12 (0, 0) ∧ (t.slot n).swap = false ∧
      (∀ k, k ≠ n → t.slot k = s.slot k) ∧ Only [.regs, .sce] s t) ∧
  (∀ (s : State) (n : Nat), Ready (.slotMem n) s → (((List.range 22).map fun k => (s.slot k).phys).contains 22) = true →
      (((List.range 22).map fun k => (s.slot k).phys).contains 23) = true → 20 ≤ n →
    Gives (.slotMem n) s (Still
      { s with
        flt := { s.flt with inbox := joinReports s.now { source := 32 + n, kind := 10, addr := 0, severity := 2 } s.flt.inbox } }))

/-- GO, the end of a seek and its time limit. GO over at least one reference track plans a trajectory from x_ref to the target and enters
SEEKING, over less it enters SETTLING; either way its heads are not on-track; the trajectory ends in SETTLING; a seek not in FOLLOWING
within T_SEEK_MAX is reported and repeated once, and the second takes the fault path. Commands that it shows to complete, so that exec
answers a next state with their own effect: go, seekEnd, seekTimeout. It rests on parts of R227, R228, R231. The model's choices it
rests on: log entries 3, 105. -/
def Obligations.ServoSeeks : Prop :=
  (∀ (s : State) (ag : Agent) (a : Nat) (v : Word) (x : Int), Ready (.go ag a v) s → Accepts s (.sceActCmd a) v →
      s.targetRef a = some x → 2 ^ 42 ≤ (x - (s.act a).xRef).natAbs →
    Gives (.go ag a v) s fun t =>
      (t.act a).state = .seeking ∧ (t.act a).stateSince = s.now ∧ (t.act a).goTime = s.now ∧
      ((t.act a).traj.map fun r => (r.start, r.target, r.begun)) = some ((s.act a).xRef, x, s.now) ∧
      (∀ st ∈ s.activeStreams a, (t.loop st).onTrack = false ∧ (t.loop st).command = 0) ∧ (∀ b, b ≠ a → t.act b = s.act b) ∧
      Only [.regs, .chn, .wrp, .seq, .sce, .plc, .pwr, .pin] s t) ∧
  (∀ (s : State) (ag : Agent) (a : Nat) (v : Word) (x : Int), Ready (.go ag a v) s → Accepts s (.sceActCmd a) v →
      s.targetRef a = some x → (x - (s.act a).xRef).natAbs < 2 ^ 42 →
    Gives (.go ag a v) s fun t =>
      (t.act a).state = .settling ∧ (t.act a).stateSince = s.now ∧ (t.act a).goTime = s.now ∧ (t.act a).traj = none ∧
      (∀ st ∈ s.activeStreams a, (t.loop st).onTrack = false) ∧ (∀ b, b ≠ a → t.act b = s.act b) ∧
      Only [.regs, .chn, .wrp, .seq, .sce, .plc, .pwr, .pin] s t) ∧
  (∀ (s : State) (a : Nat) (r : Trajectory), Ready (.seekEnd a) s → (s.act a).traj = some r → (s.act a).state = .seeking →
      s.pwr.save = none →
    Gives (.seekEnd a) s fun t =>
      (t.act a).state = .settling ∧ (t.act a).traj = none ∧ t.now = max s.now (r.begun + (r.tPlan + 999) / 1000) ∧
      (t.act a).stateSince = t.now ∧ (t.act a).xRef = (s.act a).xRef ∧ Only [.clock, .tim, .sce, .plc, .pwr] s t) ∧
  (∀ (s : State) (a : Nat), Ready (.seekTimeout a) s → (s.act a).state = .seeking ∨ (s.act a).state = .settling →
      (s.act a).goTime ≠ 0 → (s.act a).timeouts = 0 →
    Gives (.seekTimeout a) s fun t =>
      (t.act a).timeouts = 1 ∧ (t.act a).lastFault = 2 ∧ t.now = max s.now ((s.act a).goTime + 1000 * (s.actPers a).tSeekMax) ∧
      t.flt.inbox = joinReports t.now { source := 32 + a, kind := 2, addr := 0, severity := 1 } s.flt.inbox ∧
      Only [.clock, .tim, .flt, .chn, .wrp, .seq, .sce, .plc, .pwr] s t) ∧
  (∀ (s : State) (a : Nat), Ready (.seekTimeout a) s → (s.act a).state = .seeking ∨ (s.act a).state = .settling →
      (s.act a).goTime ≠ 0 → 1 ≤ (s.act a).timeouts →
    Gives (.seekTimeout a) s fun t =>
      (t.act a).state = .retract ∧ (t.act a).timeouts = 0 ∧ (t.act a).lastFault = 2 ∧ (t.act a).reloadDue = some 0 ∧
      t.now = max s.now ((s.act a).goTime + 1000 * (s.actPers a).tSeekMax) ∧
      t.flt.inbox = joinReports t.now { source := 32 + a, kind := 2, addr := 0, severity := 2 } s.flt.inbox ∧
      Only [.clock, .tim, .flt, .chn, .wrp, .seq, .sce, .plc, .pwr] s t)

/-- LOAD and UNLOAD, their ends and failures, and the reload after a fault. LOAD enters LOADING; UNLOAD deselects every head and enters
UNLOADING; once v_b has stayed low for 2 ms the actuator is UNLOADED, after a fault with its slots reloaded and LOAD due in 1 s; a
load that takes 150 ms retracts; an unload that takes 200 ms disables the stage and puts the actuator out of use; the reload loads, or
after a repeat retires it. Commands that it shows to complete, so that exec answers a next state with their own effect: load, unload,
loadFail, unloadDone, unloadFail, faultReload. It rests on parts of R238, R239, R243, R244. The model's choices it rests on: log
entries 3, 117. -/
def Obligations.ServoLoadAndUnload : Prop :=
  (∀ (s : State) (ag : Agent) (a : Nat) (v : Word), Ready (.load ag a v) s → Accepts s (.sceActCmd a) v →
    Gives (.load ag a v) s fun t =>
      t.act a = { s.act a with state := .loading, stateSince := s.now, reloadDue := none, xKnown := false, handover := 0 } ∧
      (∀ b, b ≠ a → t.act b = s.act b) ∧
      (∀ st ∈ s.activeStreams a, t.loop st = { s.loop st with regain := 0, seen := false, command := 0 }) ∧
      Only [.regs, .sce, .plc, .pwr, .pin] s t) ∧
  (∀ (s : State) (ag : Agent) (a : Nat) (v : Word), Ready (.unload ag a v) s → Accepts s (.sceActCmd a) v →
    Gives (.unload ag a v) s fun t =>
      (t.act a).state = .unloading ∧ (t.act a).stateSince = s.now ∧ (t.act a).traj = none ∧ (t.act a).command = 0 ∧
      (∀ st ∈ streamsOf a, (t.stream st).readers = 0) ∧ (∀ b, b ≠ a → t.act b = s.act b) ∧
      Only [.regs, .chn, .wrp, .seq, .sce, .plc, .pwr, .pin] s t) ∧
  (∀ (s : State) (a x : Nat), Ready (.unloadDone a) s → (s.act a).state = .unloading → (s.act a).slowSince = some x →
      (s.act a).reloadDue = none → s.spn.faultPending = false → s.pwr.toLoad = [] → s.pwr.change = none →
    Gives (.unloadDone a) s fun t =>
      (t.act a).state = .unloaded ∧ (t.act a).headsOn = false ∧ (t.act a).stateSince = t.now ∧ (t.act a).command = 0 ∧
      t.now = max s.now (x + 2000000) ∧ (∀ b, b ≠ a → t.act b = s.act b) ∧ Only [.clock, .tim, .sce, .plc, .pwr] s t) ∧
  (∀ (s : State) (a x y : Nat), Ready (.unloadDone a) s → (s.act a).state = .retract → (s.act a).slowSince = some x →
      (s.act a).reloadDue = some y → s.spn.faultPending = false → s.pwr.toLoad = [] → s.pwr.change = none →
    Gives (.unloadDone a) s fun t =>
      (t.act a).state = .unloaded ∧ (t.act a).reloadDue = some (t.now + 1000000000) ∧ t.now = max s.now (x + 2000000) ∧
      (t.slot a).states = List.replicate 12 (0, 0) ∧ (∀ b, b ≠ a → t.act b = s.act b) ∧ Only [.clock, .tim, .regs, .sce, .plc, .pwr] s t) ∧
  (∀ (s : State) (a : Nat), Ready (.unloadDone a) s → (s.act a).slowSince = none → s.spn.faultPending = false → s.pwr.toLoad = [] →
      s.pwr.change = none →
    Gives (.unloadDone a) s (Still s)) ∧
  (∀ (s : State) (a : Nat), Ready (.loadFail a) s → (s.act a).state = .loading →
    Gives (.loadFail a) s fun t =>
      (t.act a).state = .retract ∧ (t.act a).lastFault = 8 ∧ (t.act a).reloadDue = some 0 ∧
      t.now = max s.now ((s.act a).stateSince + 150000000) ∧ (t.act a).faultAt = some t.now ∧
      t.flt.inbox = joinReports t.now { source := 32 + a, kind := 8, addr := 0, severity := 2 } s.flt.inbox ∧
      Only [.clock, .tim, .flt, .chn, .wrp, .seq, .sce, .plc, .pwr] s t) ∧
  (∀ (s : State) (a : Nat), Ready (.unloadFail a) s → (s.act a).state = .unloading ∨ (s.act a).state = .retract →
    Gives (.unloadFail a) s fun t =>
      (t.act a).state = .outOfUse ∧ (t.act a).stageOn = false ∧ (t.act a).lastFault = 9 ∧ (t.act a).headsOn = (s.act a).headsOn ∧
      t.now = max s.now ((s.act a).stateSince + 200000000) ∧
      t.flt.inbox = joinReports t.now { source := 32 + a, kind := 9, addr := 0, severity := 2 } s.flt.inbox ∧
      Only [.clock, .tim, .flt, .chn, .wrp, .seq, .sce, .plc, .pwr, .orb] s t) ∧
  (∀ (s : State) (a x : Nat), Ready (.faultReload a) s → (s.act a).state = .unloaded → (s.act a).reloadDue = some x → x ≠ 0 →
      (s.act a).retireAfter = false → s.spn.state = .atSpeed →
    Gives (.faultReload a) s fun t =>
      (t.act a).state = .loading ∧ (t.act a).reloadDue = none ∧ t.now = max s.now x ∧ (t.act a).stateSince = t.now ∧
      Only [.clock, .tim, .sce, .plc, .pwr] s t) ∧
  (∀ (s : State) (a x : Nat), Ready (.faultReload a) s → (s.act a).state = .unloaded → (s.act a).reloadDue = some x → x ≠ 0 →
      (s.act a).retireAfter = true →
    Gives (.faultReload a) s fun t =>
      (t.act a).state = .outOfUse ∧ (t.act a).headsOn = false ∧ (t.act a).reloadDue = none ∧ t.now = max s.now x ∧
      Only [.clock, .tim, .chn, .wrp, .seq, .sce, .plc, .pwr, .orb] s t)

/-- What NOP, LDI, LDIH, ADD, ADDV, AND, CMP and CMPV leave. Whatever the gates, framing, signal and wait of its word, an operation
without a position writes its destination variable and the flags of Table 5.4, CARRY of AND being a free value, and changes no other
variable, no other sequencer and no word of the control store. Commands that it shows to complete, so that exec answers a next state
with their own effect: nop, ldi, ldih, add, addv, and, cmp, cmpv. It rests on parts of R171, R174. The model's choices it rests on:
log entries 108, 127. -/
def Obligations.SequencerOperations : Prop :=
  (∀ (s : State) (q pos : Nat), Ready (.nop q pos) s → s.seqReady q = true → mwAtm (s.mword q) = 0 → s.seq.done = [] →
      mwOpc (s.mword q) = 0 →
    Gives (.nop q pos) s fun t =>
      (t.seqr q).vars = (s.seqr q).vars ∧
      (t.seqr q).zero = (s.seqr q).zero ∧ (t.seqr q).neg = (s.seqr q).neg ∧ (t.seqr q).carry = (s.seqr q).carry ∧
      (t.seqr q).pos = max (min pos 0xFFFFF) (s.posNow q) ∧ (t.seqr q).pc = (s.seqr q).pc ∧ (t.seqr q).stack = (s.seqr q).stack ∧
      (∀ k, k ≠ q → t.seqr k = s.seqr k) ∧ t.seq.words = s.seq.words ∧ Only [.seq, .chn, .dma, .srm, .flt, .clock, .tim] s t) ∧
  (∀ (s : State) (q pos : Nat), Ready (.ldi q pos) s → s.seqReady q = true → mwAtm (s.mword q) = 0 → s.seq.done = [] →
      mwOpc (s.mword q) = 1 →
    Gives (.ldi q pos) s fun t =>
      (t.seqr q).vars = (s.seqr q).vars.set (mwDst (s.mword q)) (BitVec.ofNat 32 (mwImm (s.mword q))) ∧
      (t.seqr q).zero = (s.seqr q).zero ∧ (t.seqr q).neg = (s.seqr q).neg ∧ (t.seqr q).carry = (s.seqr q).carry ∧
      (t.seqr q).pos = max (min pos 0xFFFFF) (s.posNow q) ∧ (t.seqr q).pc = (s.seqr q).pc ∧ (t.seqr q).stack = (s.seqr q).stack ∧
      (∀ k, k ≠ q → t.seqr k = s.seqr k) ∧ t.seq.words = s.seq.words ∧ Only [.seq, .chn, .dma, .srm, .flt, .clock, .tim] s t) ∧
  (∀ (s : State) (q pos : Nat), Ready (.ldih q pos) s → s.seqReady q = true → mwAtm (s.mword q) = 0 → s.seq.done = [] →
      mwOpc (s.mword q) = 2 →
    Gives (.ldih q pos) s fun t =>
      (t.seqr q).vars = (s.seqr q).vars.set (mwDst (s.mword q)) ((BitVec.ofNat 32 (mwImm (s.mword q)) : Word) <<< 16 ||| (seqVar (s.seqr q) (mwDst (s.mword q)) &&& 0xFFFF#32)) ∧
      (t.seqr q).zero = (s.seqr q).zero ∧ (t.seqr q).neg = (s.seqr q).neg ∧ (t.seqr q).carry = (s.seqr q).carry ∧
      (t.seqr q).pos = max (min pos 0xFFFFF) (s.posNow q) ∧ (t.seqr q).pc = (s.seqr q).pc ∧ (t.seqr q).stack = (s.seqr q).stack ∧
      (∀ k, k ≠ q → t.seqr k = s.seqr k) ∧ t.seq.words = s.seq.words ∧ Only [.seq, .chn, .dma, .srm, .flt, .clock, .tim] s t) ∧
  (∀ (s : State) (q pos : Nat), Ready (.add q pos) s → s.seqReady q = true → mwAtm (s.mword q) = 0 → s.seq.done = [] →
      mwOpc (s.mword q) = 3 →
    Gives (.add q pos) s fun t =>
      (t.seqr q).vars = (s.seqr q).vars.set (mwDst (s.mword q)) (seqVar (s.seqr q) (mwSrc (s.mword q)) + immSext (s.mword q)) ∧
      (t.seqr q).zero = (seqVar (s.seqr q) (mwSrc (s.mword q)) + immSext (s.mword q) == 0) ∧ (t.seqr q).neg = (seqVar (s.seqr q) (mwSrc (s.mword q)) + immSext (s.mword q)).msb ∧
      (t.seqr q).carry = addCarry (seqVar (s.seqr q) (mwSrc (s.mword q))) (immSext (s.mword q)) ∧
      (t.seqr q).pos = max (min pos 0xFFFFF) (s.posNow q) ∧ (t.seqr q).pc = (s.seqr q).pc ∧ (t.seqr q).stack = (s.seqr q).stack ∧
      (∀ k, k ≠ q → t.seqr k = s.seqr k) ∧ t.seq.words = s.seq.words ∧ Only [.seq, .chn, .dma, .srm, .flt, .clock, .tim] s t) ∧
  (∀ (s : State) (q pos : Nat), Ready (.addv q pos) s → s.seqReady q = true → mwAtm (s.mword q) = 0 → s.seq.done = [] →
      mwOpc (s.mword q) = 4 →
    Gives (.addv q pos) s fun t =>
      (t.seqr q).vars = (s.seqr q).vars.set (mwDst (s.mword q)) (seqVar (s.seqr q) (mwDst (s.mword q)) + seqVar (s.seqr q) (mwSrc (s.mword q))) ∧
      (t.seqr q).zero = (seqVar (s.seqr q) (mwDst (s.mword q)) + seqVar (s.seqr q) (mwSrc (s.mword q)) == 0) ∧ (t.seqr q).neg = (seqVar (s.seqr q) (mwDst (s.mword q)) + seqVar (s.seqr q) (mwSrc (s.mword q))).msb ∧
      (t.seqr q).carry = addCarry (seqVar (s.seqr q) (mwDst (s.mword q))) (seqVar (s.seqr q) (mwSrc (s.mword q))) ∧
      (t.seqr q).pos = max (min pos 0xFFFFF) (s.posNow q) ∧ (t.seqr q).pc = (s.seqr q).pc ∧ (t.seqr q).stack = (s.seqr q).stack ∧
      (∀ k, k ≠ q → t.seqr k = s.seqr k) ∧ t.seq.words = s.seq.words ∧ Only [.seq, .chn, .dma, .srm, .flt, .clock, .tim] s t) ∧
  (∀ (s : State) (q pos : Nat), Ready (.and q pos) s → s.seqReady q = true → mwAtm (s.mword q) = 0 → s.seq.done = [] →
      mwOpc (s.mword q) = 5 →
    Gives (.and q pos) s fun t =>
      (t.seqr q).vars = (s.seqr q).vars.set (mwDst (s.mword q)) (seqVar (s.seqr q) (mwSrc (s.mword q)) &&& BitVec.ofNat 32 (mwImm (s.mword q))) ∧
      (t.seqr q).zero = (seqVar (s.seqr q) (mwSrc (s.mword q)) &&& BitVec.ofNat 32 (mwImm (s.mword q)) == 0) ∧ (t.seqr q).neg = (seqVar (s.seqr q) (mwSrc (s.mword q)) &&& BitVec.ofNat 32 (mwImm (s.mword q))).msb ∧ t.free = s.free + 1 ∧
      (t.seqr q).pos = max (min pos 0xFFFFF) (s.posNow q) ∧ (t.seqr q).pc = (s.seqr q).pc ∧ (t.seqr q).stack = (s.seqr q).stack ∧
      (∀ k, k ≠ q → t.seqr k = s.seqr k) ∧ t.seq.words = s.seq.words ∧ Only [.seq, .chn, .dma, .srm, .flt, .clock, .tim, .free] s t) ∧
  (∀ (s : State) (q pos : Nat), Ready (.cmp q pos) s → s.seqReady q = true → mwAtm (s.mword q) = 0 → s.seq.done = [] →
      mwOpc (s.mword q) = 6 →
    Gives (.cmp q pos) s fun t =>
      (t.seqr q).vars = (s.seqr q).vars ∧
      (t.seqr q).zero = (seqVar (s.seqr q) (mwSrc (s.mword q)) - immSext (s.mword q) == 0) ∧ (t.seqr q).neg = (seqVar (s.seqr q) (mwSrc (s.mword q)) - immSext (s.mword q)).msb ∧
      (t.seqr q).carry = decide ((seqVar (s.seqr q) (mwSrc (s.mword q))).toNat < (immSext (s.mword q)).toNat) ∧
      (t.seqr q).pos = max (min pos 0xFFFFF) (s.posNow q) ∧ (t.seqr q).pc = (s.seqr q).pc ∧ (t.seqr q).stack = (s.seqr q).stack ∧
      (∀ k, k ≠ q → t.seqr k = s.seqr k) ∧ t.seq.words = s.seq.words ∧ Only [.seq, .chn, .dma, .srm, .flt, .clock, .tim] s t) ∧
  (∀ (s : State) (q pos : Nat), Ready (.cmpv q pos) s → s.seqReady q = true → mwAtm (s.mword q) = 0 → s.seq.done = [] →
      mwOpc (s.mword q) = 7 →
    Gives (.cmpv q pos) s fun t =>
      (t.seqr q).vars = (s.seqr q).vars ∧
      (t.seqr q).zero = (seqVar (s.seqr q) (mwDst (s.mword q)) - seqVar (s.seqr q) (mwSrc (s.mword q)) == 0) ∧ (t.seqr q).neg = (seqVar (s.seqr q) (mwDst (s.mword q)) - seqVar (s.seqr q) (mwSrc (s.mword q))).msb ∧
      (t.seqr q).carry = decide ((seqVar (s.seqr q) (mwDst (s.mword q))).toNat < (seqVar (s.seqr q) (mwSrc (s.mword q))).toNat) ∧
      (t.seqr q).pos = max (min pos 0xFFFFF) (s.posNow q) ∧ (t.seqr q).pc = (s.seqr q).pc ∧ (t.seqr q).stack = (s.seqr q).stack ∧
      (∀ k, k ≠ q → t.seqr k = s.seqr k) ∧ t.seq.words = s.seq.words ∧ Only [.seq, .chn, .dma, .srm, .flt, .clock, .tim] s t)

/-- LDP and STP. LDP loads the value of a port it may read, STP stores to a port it may write: the slot of the stream, REF_HEAD of a
privileged sequencer, FORCE of another sequencer at a vector with its variables cleared; a port that is not listed, or that it may not
access, is a fault with no other effect; STP to a read-only port has none. Commands that it shows to complete, so that exec answers a
next state with their own effect: ldp, stp. It rests on parts of R178, R191. The model's choices it rests on: log entries 123, 137. -/
def Obligations.SequencerPorts : Prop :=
  (∀ (s : State) (q pos : Nat), Ready (.ldp q pos) s → s.seqReady q = true → mwAtm (s.mword q) = 0 → s.seq.done = [] →
      mwOpc (s.mword q) = 8 → s.portOk q (mwImm (s.mword q)) = true →
    let u := (s.posReach q pos).modSeq q fun x => { x with timeout := false, state := .running }
    Gives (.ldp q pos) s fun t =>
      (t.seqr q).vars = (s.seqr q).vars.set (mwDst (s.mword q)) (u.portValue q (mwImm (s.mword q))) ∧
      (t.seqr q).cause = (if mwImm (s.mword q) = 0x1C then (s.seqr q).cause &&& u.assertedCauses q else (s.seqr q).cause) ∧
      (t.seqr q).zero = (s.seqr q).zero ∧ (t.seqr q).neg = (s.seqr q).neg ∧ (t.seqr q).carry = (s.seqr q).carry ∧ (∀ k, k ≠ q → t.seqr k = s.seqr k) ∧ Only [.seq, .chn, .dma, .srm, .flt, .clock, .tim] s t) ∧
  (∀ (s : State) (q pos : Nat), Ready (.ldp q pos) s → s.seqReady q = true → mwAtm (s.mword q) = 0 → s.seq.done = [] →
      mwOpc (s.mword q) = 8 → s.portOk q (mwImm (s.mword q)) = false →
    Gives (.ldp q pos) s fun t =>
      (t.seqr q).pendingCause.testBit 10 = true ∧ (t.seqr q).vars = (s.seqr q).vars ∧ (∀ k, k ≠ q → t.seqr k = s.seqr k) ∧ Only [.seq, .clock, .tim] s t) ∧
  (∀ (s : State) (q pos : Nat), Ready (.stp q pos) s → s.seqReady q = true → mwAtm (s.mword q) = 0 → s.seq.done = [] →
      mwOpc (s.mword q) = 9 → mwImm (s.mword q) = 1 → q < 16 →
    Gives (.stp q pos) s fun t =>
      (t.stream (s.seqr q).stream).slotPort = (seqVar (s.seqr q) (mwSrc (s.mword q))).toNat % 256 ∧ (t.seqr q).vars = (s.seqr q).vars ∧ (t.seqr q).zero = (s.seqr q).zero ∧ (t.seqr q).neg = (s.seqr q).neg ∧ (t.seqr q).carry = (s.seqr q).carry ∧ (∀ k, k ≠ q → t.seqr k = s.seqr k) ∧
      (∀ k, k ≠ (s.seqr q).stream → t.stream k = s.stream k) ∧ Only [.seq, .chn, .dma, .srm, .flt, .clock, .tim] s t) ∧
  (∀ (s : State) (q pos : Nat), Ready (.stp q pos) s → s.seqReady q = true → mwAtm (s.mword q) = 0 → s.seq.done = [] →
      mwOpc (s.mword q) = 9 → mwImm (s.mword q) = 0x82 → 16 ≤ q →
    Gives (.stp q pos) s fun t =>
      (t.seqr q).refHead = (if (seqVar (s.seqr q) (mwSrc (s.mword q))).toNat % 128 < 72 then (seqVar (s.seqr q) (mwSrc (s.mword q))).toNat % 128 else (s.seqr q).refHead) ∧ (t.seqr q).vars = (s.seqr q).vars ∧ (t.seqr q).zero = (s.seqr q).zero ∧ (t.seqr q).neg = (s.seqr q).neg ∧ (t.seqr q).carry = (s.seqr q).carry ∧ (∀ k, k ≠ q → t.seqr k = s.seqr k) ∧
      Only [.seq, .dma, .clock, .tim] s t) ∧
  (∀ (s : State) (q pos k : Nat), Ready (.stp q pos) s → s.seqReady q = true → mwAtm (s.mword q) = 0 → s.seq.done = [] →
      mwOpc (s.mword q) = 9 → mwImm (s.mword q) = 0x80 → 16 ≤ q → fld (seqVar (s.seqr q) (mwSrc (s.mword q))) 3 0 = k →
      (s.seqr k).state ≠ .failed → (s.seqr k).items = [] → k < 16 →
    Gives (.stp q pos) s fun t =>
      (t.seqr k).pc = fld (seqVar (s.seqr q) (mwSrc (s.mword q))) 17 4 ∧ (t.seqr k).vars = List.replicate 16 0 ∧ (t.seqr k).stack = [] ∧ (t.seqr k).stage = .fetch ∧
      (t.seqr k).state = .running ∧ (t.seqr k).cause = ((s.seqr k).cause ||| (s.seqr k).pendingCause) ||| 16 ∧ (t.seqr k).pendingCause = 0 ∧ (t.seqr k).snap = none ∧
      (t.stream (s.seqr k).stream).readGate = false ∧ (t.stream (s.seqr k).stream).writeGate = false ∧
      (∀ j, j ≠ k → j ≠ q → t.seqr j = s.seqr j) ∧ Only [.seq, .chn, .dma, .flt, .clock, .tim] s t) ∧
  (∀ (s : State) (q pos : Nat), Ready (.stp q pos) s → s.seqReady q = true → mwAtm (s.mword q) = 0 → s.seq.done = [] →
      mwOpc (s.mword q) = 9 → s.portOk q (mwImm (s.mword q)) = false →
    Gives (.stp q pos) s fun t =>
      (t.seqr q).pendingCause.testBit 10 = true ∧ (t.seqr q).vars = (s.seqr q).vars ∧ (∀ k, k ≠ q → t.seqr k = s.seqr k) ∧ Only [.seq, .clock, .tim] s t) ∧
  (∀ (s : State) (q pos : Nat), Ready (.stp q pos) s → s.seqReady q = true → mwAtm (s.mword q) = 0 → s.seq.done = [] →
      mwOpc (s.mword q) = 9 → within (mwImm (s.mword q)) 0x08 0x0F ∨ within (mwImm (s.mword q)) 0x18 0x1A ∨ mwImm (s.mword q) = 0x1C →
    Gives (.stp q pos) s fun t =>
      (t.seqr q).vars = (s.seqr q).vars ∧ (t.seqr q).pc = (s.seqr q).pc ∧ (t.seqr q).items = (s.seqr q).items ∧ (t.seqr q).cause = (s.seqr q).cause ∧ (t.seqr q).zero = (s.seqr q).zero ∧ (t.seqr q).neg = (s.seqr q).neg ∧ (t.seqr q).carry = (s.seqr q).carry ∧ (∀ k, k ≠ q → t.seqr k = s.seqr k) ∧
      Only [.seq, .chn, .dma, .srm, .flt, .clock, .tim] s t)

/-- BRANCH, CALL, RET and RETT. BRANCH and CALL form NEXT with the two conditions in its low bits, CALL pushing the following address on a
stack of four, RET pops it; a fifth CALL and a RET on an empty stack are faults; a committing word takes a snapshot; RETT restores
what the trap saved. Commands that it shows to complete, so that exec answers a next state with their own effect: branch, call, ret,
rett. It rests on parts of R175, R176, R177, R186, R194. The model's choices it rests on: log entries 127, 138, 139, 162. -/
def Obligations.SequencerFlow : Prop :=
  (∀ (s : State) (q : Nat), Ready (.branch q) s → s.flowReady q 0 = true → (s.seqr q).inherit_ = [] → (s.seqr q).other = none →
      s.seq.done = [] →
    Gives (.branch q) s fun t =>
      (t.seqr q).pc = s.branchTo q ∧ (t.seqr q).stack = (s.seqr q).stack ∧ (t.seqr q).stage = .fetch ∧ (t.seqr q).vars = (s.seqr q).vars ∧
      (t.seqr q).zero = (s.seqr q).zero ∧ (t.seqr q).neg = (s.seqr q).neg ∧ (t.seqr q).carry = (s.seqr q).carry ∧
      (mwCommit (s.mword q) = true → (t.seqr q).fromSnap = 0 ∧
        (t.seqr q).snap = some (snapOf { (s.seqr q) with stack := (s.seqr q).stack } (s.branchTo q))) ∧
      (mwCommit (s.mword q) = false → (t.seqr q).snap = (s.seqr q).snap) ∧ (∀ k, k ≠ q → t.seqr k = s.seqr k) ∧ Only [.seq] s t) ∧
  (∀ (s : State) (q : Nat), Ready (.call q) s → s.flowReady q 1 = true → (s.seqr q).stack.length < 4 → (s.seqr q).inherit_ = [] →
      (s.seqr q).other = none → s.seq.done = [] →
    Gives (.call q) s fun t =>
      (t.seqr q).pc = s.branchTo q ∧ (t.seqr q).stack = (s.seqr q).stack ++ [((s.seqr q).pc + 1) % 2 ^ 14] ∧ (t.seqr q).stage = .fetch ∧ (t.seqr q).vars = (s.seqr q).vars ∧
      (t.seqr q).zero = (s.seqr q).zero ∧ (t.seqr q).neg = (s.seqr q).neg ∧ (t.seqr q).carry = (s.seqr q).carry ∧
      (mwCommit (s.mword q) = true → (t.seqr q).fromSnap = 0 ∧
        (t.seqr q).snap = some (snapOf { (s.seqr q) with stack := (s.seqr q).stack ++ [((s.seqr q).pc + 1) % 2 ^ 14] } (s.branchTo q))) ∧
      (mwCommit (s.mword q) = false → (t.seqr q).snap = (s.seqr q).snap) ∧ (∀ k, k ≠ q → t.seqr k = s.seqr k) ∧ Only [.seq] s t) ∧
  (∀ (s : State) (q : Nat), Ready (.call q) s → s.flowReady q 1 = true → 4 ≤ (s.seqr q).stack.length → s.seq.done = [] →
    Gives (.call q) s fun t =>
      (t.seqr q).pendingCause.testBit 9 = true ∧ (t.seqr q).pc = (s.seqr q).pc ∧ (t.seqr q).stack = (s.seqr q).stack ∧ (∀ k, k ≠ q → t.seqr k = s.seqr k) ∧ Only [.seq] s t) ∧
  (∀ (s : State) (q a : Nat) (l : List Nat), Ready (.ret q) s → s.flowReady q 2 = true → (s.seqr q).stack = l ++ [a] →
      (s.seqr q).inherit_ = [] → (s.seqr q).other = none → s.seq.done = [] →
    Gives (.ret q) s fun t =>
      (t.seqr q).pc = a ∧ (t.seqr q).stack = l ∧ (t.seqr q).stage = .fetch ∧ (t.seqr q).vars = (s.seqr q).vars ∧
      (t.seqr q).zero = (s.seqr q).zero ∧ (t.seqr q).neg = (s.seqr q).neg ∧ (t.seqr q).carry = (s.seqr q).carry ∧
      (mwCommit (s.mword q) = true → (t.seqr q).fromSnap = 0 ∧
        (t.seqr q).snap = some (snapOf { (s.seqr q) with stack := l } (a))) ∧
      (mwCommit (s.mword q) = false → (t.seqr q).snap = (s.seqr q).snap) ∧ (∀ k, k ≠ q → t.seqr k = s.seqr k) ∧ Only [.seq] s t) ∧
  (∀ (s : State) (q : Nat), Ready (.ret q) s → s.flowReady q 2 = true → (s.seqr q).stack = [] → s.seq.done = [] →
    Gives (.ret q) s fun t =>
      (t.seqr q).pendingCause.testBit 9 = true ∧ (t.seqr q).pc = (s.seqr q).pc ∧ (∀ k, k ≠ q → t.seqr k = s.seqr k) ∧ Only [.seq] s t) ∧
  (∀ (s : State) (q : Nat) (r : TrapRec), Ready (.rett q) s → s.flowReady q 3 = true → 16 ≤ q → (s.seqr q).trap = some r →
      s.seq.stopReq = false → mwCommit (s.mword q) = false → s.seq.done = [] →
    Gives (.rett q) s (Still
      (s.modSeq q fun x => { x with
        pc := r.pc, zero := r.zero, neg := r.neg, carry := r.carry, timeout := r.timeout, late := r.late,
        stack := r.links.take (min 4 r.depth), vars := r.vars, trap := none, stage := if r.inWait then .wait else .fetch,
        state := if r.inWait then .waiting else .running, waitSince := s.now }))) ∧
  (∀ (s : State) (q : Nat) (r : TrapRec), Ready (.rett q) s → s.flowReady q 3 = true → 16 ≤ q → (s.seqr q).trap = some r →
      s.seq.stopReq = false → mwCommit (s.mword q) = true → s.seq.done = [] →
    Gives (.rett q) s fun t =>
      (t.seqr q).pc = r.pc ∧ (t.seqr q).vars = r.vars ∧ (t.seqr q).stack = r.links.take (min 4 r.depth) ∧ (t.seqr q).trap = none ∧
      (t.seqr q).snap = some (snapOf (t.seqr q) r.pc) ∧ (t.seqr q).fromSnap = 0 ∧ (∀ k, k ≠ q → t.seqr k = s.seqr k) ∧ Only [.seq] s t)

/-- Positions and waits. A word that names a position waits below it, acts at it, and acts at once with LATE beyond it; a wait ends with
TIMEOUT clear when its condition has the awaited value, goes on otherwise, and ends with TIMEOUT set after TMO. Commands that it shows
to complete, so that exec answers a next state with their own effect: actAtPosition, waitEnd, waitTimeout. It rests on parts of R171,
R172, R173. The model's choices it rests on: log entries 3, 127. -/
def Obligations.SequencerWaits : Prop :=
  (∀ (s : State) (q pos : Nat), Ready (.actAtPosition q pos) s → s.seqReady q = true → mwAtm (s.mword q) ≠ 0 → pos < s.wordPos q →
      s.posNow q ≤ pos → s.wordPos q ≤ 0xFFFFF → s.seq.done = [] →
    Gives (.actAtPosition q pos) s fun t =>
      (t.seqr q).pos = pos ∧ (t.seqr q).state = .waiting ∧ (t.seqr q).stage = .fetch ∧ (t.seqr q).vars = (s.seqr q).vars ∧ (t.seqr q).zero = (s.seqr q).zero ∧ (t.seqr q).neg = (s.seqr q).neg ∧ (t.seqr q).carry = (s.seqr q).carry ∧ (∀ k, k ≠ q → t.seqr k = s.seqr k) ∧
      Only [.seq, .clock, .tim] s t) ∧
  (∀ (s : State) (q pos : Nat), Ready (.actAtPosition q pos) s → s.seqReady q = true → mwAtm (s.mword q) ≠ 0 →
      s.wordPos q ≤ min pos 0xFFFFF → s.posRate q ≠ 0 ∨ pos = s.wordPos q → mwOpc (s.mword q) = 0 → s.seq.done = [] →
    Gives (.actAtPosition q pos) s fun t =>
      (t.seqr q).late = ((s.seqr q).late || decide (s.wordPos q < s.posNow q)) ∧ (t.seqr q).pos = max (s.wordPos q) (s.posNow q) ∧
      (t.seqr q).vars = (s.seqr q).vars ∧ (t.seqr q).zero = (s.seqr q).zero ∧ (t.seqr q).neg = (s.seqr q).neg ∧ (t.seqr q).carry = (s.seqr q).carry ∧ (∀ k, k ≠ q → t.seqr k = s.seqr k) ∧ Only [.seq, .chn, .dma, .srm, .flt, .clock, .tim] s t) ∧
  (∀ (s : State) (q : Nat) (o : MediaObs), Ready (.waitEnd q o) s → q < 16 → (s.seqr q).stage = .wait → (s.seqr q).state ≠ .failed →
      (s.seqr q).state ≠ .stopped → (s.observe (s.seqr q).stream o).seqCond q (mwWait (s.mword q)) ≠ mwWneg (s.mword q) →
      s.seq.done = [] →
    Gives (.waitEnd q o) s (Still
      ((s.observe (s.seqr q).stream o).modSeq q fun x => { sampleConds x [mwWait (s.mword q)] with
        stage := .flow, state := .running, timeout := false }))) ∧
  (∀ (s : State) (q : Nat) (o : MediaObs), Ready (.waitEnd q o) s → q < 16 → (s.seqr q).stage = .wait → (s.seqr q).other = none →
      (s.observe (s.seqr q).stream o).seqCond q (mwWait (s.mword q)) = mwWneg (s.mword q) → s.seq.done = [] →
    Gives (.waitEnd q o) s (Still (s.observe (s.seqr q).stream o))) ∧
  (∀ (s : State) (q : Nat), Ready (.waitTimeout q) s → (s.seqr q).stage = .wait → mwTmo (s.mword q) ≠ 0 → (s.seqr q).state ≠ .failed →
      (s.seqr q).state ≠ .stopped → s.seq.done = [] →
    Gives (.waitTimeout q) s (Still
      ((s.advanceTo ((s.seqr q).waitSince + 4000 * mwTmo (s.mword q))).modSeq q fun x => { sampleConds x [mwWait (s.mword q)] with
        stage := .flow, state := .running, timeout := true })))

/-- Restart, trap, lockstep failure, and control-store parity, reading and injection. Pending causes restart a stream sequencer at its
snapshot, or at STREAM_ENTRY with its variables cleared, with its gates closed; a privileged sequencer saves what RETT restores and
traps; a sequencer whose copies disagree has FAILED, is reported, and its work passes to the surviving sequencer of its actuator, or
its role to the other privileged one; A word that fails parity raises a machine check, is reloaded from the golden copy and reported,
and its stream sequencer restarts with PARITY; READ shows the four words at an address; INJECT turns the parity of one. Commands that
it shows to complete, so that exec answers a next state with their own effect: seqInterrupt, privTrap, controlStoreReload,
lockstepFail, seqCsRead, seqCsInject. It rests on parts of R162, R163, R165, R166, R167, R168, R187, R189, R193. The model's choices
it rests on: log entries 122, 138. -/
def Obligations.SequencerRestarts : Prop :=
  (∀ (s : State) (q : Nat), Ready (.seqInterrupt q) s → (s.seqr q).pendingCause ≠ 0 → (s.seqr q).state ≠ .failed →
      (s.seqr q).state ≠ .stopped → (s.seqr q).fromSnap < 7 → (s.seqr q).snap = none → s.seq.done = [] →
    Gives (.seqInterrupt q) s fun t =>
      (t.seqr q).pc = s.vector 0 ∧ (t.seqr q).vars = List.replicate 16 0 ∧ (t.seqr q).stack = [] ∧ (t.seqr q).stage = .fetch ∧
      (t.seqr q).state = .running ∧ (t.seqr q).cause = (s.seqr q).cause ||| (s.seqr q).pendingCause ∧ (t.seqr q).pendingCause = 0 ∧
      (t.seqr q).fromSnap = (s.seqr q).fromSnap + 1 ∧ (t.seqr q).restarts = satInc (s.seqr q).restarts 255 ∧
      (t.stream (s.seqr q).stream).readGate = false ∧ (t.stream (s.seqr q).stream).writeGate = false ∧ (∀ k, k ≠ q → t.seqr k = s.seqr k) ∧ Only [.seq, .chn, .flt] s t) ∧
  (∀ (s : State) (q : Nat) (n : Snapshot), Ready (.seqInterrupt q) s → (s.seqr q).pendingCause ≠ 0 → (s.seqr q).state ≠ .failed →
      (s.seqr q).state ≠ .stopped → (s.seqr q).fromSnap < 7 → (s.seqr q).snap = some n → s.seq.done = [] →
    Gives (.seqInterrupt q) s fun t =>
      (t.seqr q).pc = n.pc ∧ (t.seqr q).vars = n.vars ∧ (t.seqr q).stack = n.stack ∧ (t.seqr q).zero = n.zero ∧ (t.seqr q).framed = n.framed ∧
      (t.seqr q).cause = (s.seqr q).cause ||| (s.seqr q).pendingCause ∧ (t.seqr q).pendingCause = 0 ∧ (t.seqr q).fromSnap = (s.seqr q).fromSnap + 1 ∧
      (∀ k, k ≠ q → t.seqr k = s.seqr k) ∧ Only [.seq, .chn, .flt] s t) ∧
  (∀ (s : State) (q : Nat), Ready (.privTrap q) s → q = 16 ∨ q = 17 → (s.seqr q).pendingCause ≠ 0 → (s.seqr q).state ≠ .failed →
      (s.seqr q).trap = none → (s.seqr q).stage ≠ .flow ∨ (s.seqr q).pendingCause &&& faultCauses ≠ 0 → s.seq.done = [] →
    Gives (.privTrap q) s fun t =>
      (t.seqr q).trap = some (saveOf (s.seqr q) ((s.seqr q).cause ||| (s.seqr q).pendingCause) s.pair) ∧ (t.seqr q).pc = s.vector (q - 12) ∧ (t.seqr q).stage = .fetch ∧
      (t.seqr q).state = .running ∧ (t.seqr q).cause = (s.seqr q).cause ||| (s.seqr q).pendingCause ∧ (t.seqr q).pendingCause = 0 ∧
      (t.seqr q).restarts = satInc (s.seqr q).restarts 255 ∧ (t.seqr q).vars = (s.seqr q).vars ∧ (∀ k, k ≠ q → t.seqr k = s.seqr k) ∧ Only [.seq, .flt, .tim] s t) ∧
  (∀ (s : State) (q k : Nat), Ready (.lockstepFail q) s → (s.seqr q).state ≠ .failed → s.heirOf q = some k → s.seq.done = [] →
      q < 16 →
    Gives (.lockstepFail q) s fun t =>
      (t.seqr q).state = .failed ∧ (t.seqr q).items = [] ∧ (t.seqr q).inherit_ = [] ∧
      (t.seqr k).inherit_ = (s.seqr k).inherit_ ++
        ((s.seqr q).snap.getD (snapOf { (s.seqr q) with vars := List.replicate 16 0, stack := [] } (s.vector 0)), (s.seqr q).items) :: (s.seqr q).inherit_ ∧
      (t.seqr k).pc = (s.seqr k).pc ∧ (t.stream (s.seqr q).stream).readers = 0 ∧
      t.flt.inbox = joinReports s.now { source := q, kind := 32, addr := (s.seqr q).pc, severity := 2 } s.flt.inbox ∧
      (∀ j, j ≠ q → j ≠ k → (t.seqr j).pc = (s.seqr j).pc ∧ (t.seqr j).items = (s.seqr j).items) ∧
      Only [.seq, .chn, .sce, .wrp, .flt, .pwr, .sec, .eqt] s t) ∧
  (∀ (s : State) (q k : Nat), Ready (.lockstepFail q) s → (s.seqr q).state ≠ .failed → s.heirOf q = some k → s.seq.done = [] →
      16 ≤ q → q < 18 → (s.seqr k).state ≠ .idle →
    Gives (.lockstepFail q) s fun t =>
      (t.seqr q).state = .failed ∧ (t.seqr k).pc = (s.seqr k).pc ∧ (t.seqr k).vars = (s.seqr k).vars ∧
      (t.seqr k).other.map Prod.snd = some (q == 16) ∧
      (t.seqr k).other.map (fun e => e.1.pc) = some (match (s.seqr q).snap with | some n => n.pc | none => s.entryVector q) ∧
      (∀ j, j ≠ q → j ≠ k → t.seqr j = s.seqr j) ∧ Only [.seq, .flt, .pwr, .sec, .eqt] s t) ∧
  (∀ (s : State) (q : Nat), Ready (.controlStoreReload q true) s → (s.seqr q).stage = .fetch → (s.seqr q).state ≠ .failed →
      aget s.seq.reloads (s.seqr q).pc = none → s.seq.bad = [] → s.seq.done = [] →
    Gives (.controlStoreReload q true) s fun t =>
      t.seq.mchkValid = true ∧ t.seq.mchkSeq = q ∧ t.seq.mchkAddr = (s.seqr q).pc ∧ t.seq.bad = [] ∧ t.seq.spares = s.seq.spares ∧
      aget t.seq.words (s.seqr q).pc = (match aget s.sec.pers.words (s.seqr q).pc with | some w => some w | none => aget s.seq.words (s.seqr q).pc) ∧
      (q < 16 → (t.seqr q).pendingCause.testBit 8 = true) ∧
      t.flt.inbox = joinReports s.now { source := 18, kind := 1, addr := (s.seqr q).pc, severity := 1 } s.flt.inbox ∧
      (∀ k, k ≠ q → t.seqr k = s.seqr k) ∧ Only [.seq, .flt] s t) ∧
  (∀ (s : State) (q : Nat), Ready (.controlStoreReload q false) s → s.badWord q = false → s.seq.done = [] →
    Gives (.controlStoreReload q false) s (Still s)) ∧
  (∀ (s : State) (ag : Agent) (v : Word), Ready (.seqCsRead ag v) s → Accepts s .seqCsDiag v → bit v 30 = false →
    Gives (.seqCsRead ag v) s (Still
      (s.wrote { s.setRv .seqCsDiag v with
        seq := { s.seq with csData := (List.range 4).map fun k => (agetD s.seq.words (fld v 13 0) 0).extractLsb' (32 * k) 32 } } ag .seqCsDiag))) ∧
  (∀ (s : State) (ag : Agent) (v : Word), Ready (.seqCsInject ag v) s → Accepts s .seqCsDiag v → bit v 31 = false →
      s.seq.bad.contains (fld v 13 0, fld v 15 14) = false →
    Gives (.seqCsInject ag v) s (Still
      (s.wrote { s.setRv .seqCsDiag v with seq := { s.seq with bad := (fld v 13 0, fld v 15 14) :: s.seq.bad } } ag .seqCsDiag)))

/-- Head selection, overrides and failed front ends. A write of CHN_ST_HEAD_s is held until the next sector boundary with both gates off;
the switch restarts every stage of the stream, leaves it off-track, and its outputs are valid 150 ns later; an override is refused
while its stream has a head; a failed front end is out of use, its stream goes on with the other reader, and it is reported. Commands
that it shows to complete, so that exec answers a next state with their own effect: chnStHeadWrite, headSwitch, chnAfSelWrite,
frontEndFail. It rests on parts of R80, R81, R82, R83, R84, R86. The model's choices it rests on: log entries 56, 57, 136. -/
def Obligations.HeadsAndFrontEnds : Prop :=
  (∀ (s : State) (ag : Agent) (st : Nat) (v : Word), Ready (.chnStHeadWrite ag st v) s → Accepts s (.chnStHead st) v →
    Gives (.chnStHeadWrite ag st v) s (Still
      (s.wrote (s.modStream st fun x => { x with pendingHead := some (v &&& 0x31F#32) }) ag (.chnStHead st)))) ∧
  (∀ (s : State) (ag : Agent) (st : Nat) (v : Word), Ready (.chnStHeadWrite ag st v) s → s.blockOff (.chnStHead st) = false →
      s.wordRefused (.chnStHead st) v = false → fld v 9 8 ≠ 0 → s.headTaken st (fld v 4 0) = true →
    Gives (.chnStHeadWrite ag st v) s (Still (s.turnedAway ag 2 (regAddr (.chnStHead st)) 1))) ∧
  (∀ (s : State) (st : Nat) (w : Word), Ready (.headSwitch st) s → (s.stream st).pendingHead = some w →
      (s.stream st).readGate = false → (s.stream st).writeGate = false → (s.stream st).inSector = false → s.pwr.toLoad = [] →
    Gives (.headSwitch st) s fun t =>
      (t.stream st).head = fld w 4 0 ∧ (t.stream st).pendingHead = none ∧ (t.stream st).headReady = s.now + 150 ∧
      (t.stream st).readers = (if (s.lhead (18 * actOf st + fld w 4 0)).out then 0 else s.usableReaders st (fld w 9 8)) ∧
      (t.stream st).profile = agetD t.srm.profiles ((18 * actOf st + fld w 4 0) * 64 + (t.stream st).zone) 0 ∧ (t.stream st).nbrs = [] ∧
      (t.stream st).wprofile = agetD t.srm.wprofiles ((18 * actOf st + fld w 4 0) * 64 + (t.stream st).zone) 0 ∧
      (t.stream st).adapt = startAdapt (t.stream st).profile (t.stream st).readers ∧
      (t.stream st).record = none ∧ (t.stream st).locked = false ∧ (t.loop st).onTrack = false ∧
      (t.slot (4 + st)).states = List.replicate 12 (0, 0) ∧
      ((t.stream st).readers ≠ 0 → (t.lhead (18 * actOf st + fld w 4 0)).heaterKind = 2 ∧ (t.lhead (18 * actOf st + fld w 4 0)).heater = wprofByte (t.stream st).wprofile 21) ∧
      (∀ k, k ≠ st → t.stream k = s.stream k) ∧ Only [.sce, .chn, .wrp, .seq, .srm] s t) ∧
  (∀ (s : State) (st : Nat), Ready (.headSwitch st) s →
      (s.stream st).pendingHead = none ∨ (s.stream st).readGate = true ∨ (s.stream st).writeGate = true ∨ (s.stream st).inSector = true →
      s.pwr.toLoad = [] →
    Gives (.headSwitch st) s (Still s)) ∧
  (∀ (s : State) (ag : Agent) (n : Nat) (v : Word), Ready (.chnAfSelWrite ag n v) s → Accepts s (.chnAfSel n) v →
    Gives (.chnAfSelWrite ag n v) s (Still (s.wrote (s.setRv (.chnAfSel n) v) ag (.chnAfSel n)))) ∧
  (∀ (s : State) (ag : Agent) (n : Nat) (v : Word), Ready (.chnAfSelWrite ag n v) s → s.blockOff (.chnAfSel n) = false →
      s.wordRefused (.chnAfSel n) v = false → bit v 31 = true → (s.stream (n / 2)).readers ≠ 0 →
    Gives (.chnAfSelWrite ag n v) s (Still (s.turnedAway ag 2 (regAddr (.chnAfSel n)) 1))) ∧
  (∀ (s : State) (n : Nat), Ready (.frontEndFail n) s → s.chn.afFailed.contains n = false →
    Gives (.frontEndFail n) s fun t =>
      t.chn.afFailed = n :: s.chn.afFailed ∧ (t.stream (n / 2)).readers = t.usableReaders (n / 2) (s.stream (n / 2)).readers ∧
      (t.stream (n / 2)).head = (s.stream (n / 2)).head ∧ (t.src 8).value = BitVec.ofNat 32 n ∧
      t.flt.inbox = joinReports s.now { source := 160 + n, kind := 1, addr := 0, severity := 2 } s.flt.inbox ∧
      (∀ k, k ≠ n / 2 → t.stream k = s.stream k) ∧ Only [.flt, .chn, .wrp, .pwr, .eqt] s t) ∧
  (∀ (s : State) (n : Nat), Ready (.frontEndFail n) s → s.chn.afFailed.contains n = true →
    Gives (.frontEndFail n) s (Still s))

/-- A servo wedge passes under a head. The record of the wedge is delivered to the stream; with a mark the write clock moves by at most
500 ppm towards its value, a wrong parity is counted, and PES is a free value where the bursts give no position; without one the
record says so and is counted; POS returns to 0 for the sequencers that follow the head; a stream without a head takes no record.
Commands that it shows to complete, so that exec answers a next state with their own effect: servoWedge. It rests on parts of R107,
R108, R134, R135, R136, R170. The model's choices it rests on: log entries 8, 109, 158. -/
def Obligations.ServoWedges : Prop :=
  (∀ (s : State) (st : Nat) (o : WedgeObs), Ready (.servoWedge st o) s → (s.stream st).readers ≠ 0 → o.sam = true →
    Gives (.servoWedge st o) s fun t =>
      (t.stream st).record = some (s.servoRecord st o) ∧ 
      (t.stream st).fresh = (if s.lateRecord (actOf st) then (s.stream st).fresh else some (s.servoRecord st o)) ∧ (t.stream st).noMark = 0 ∧
      (t.stream st).lastMark = some s.now ∧
      (t.stream st).writePhase = s.clockPhase (t.stream st).writeClock o.samTime ∧
      ((s.stream st).lastMark.isSome = true →
        (t.stream st).writeClock = clockStep (s.stream st).writeClock (s.clockTarget (s.stream st) o.interval) ∧
        (t.stream st).locked = !clockOut (s.clockTarget (s.stream st) o.interval)) ∧
      t.free = s.free + (if (averagePes (s.readerPositions st o.bursts)).isNone then 1 else 0) ∧
      (o.parity = false → t.statRaw (statKey (headOf st (s.stream st)) (s.stream st).zone 13) =
        satAdd (s.statRaw (statKey (headOf st (s.stream st)) (s.stream st).zone 13)) 1 0xFFFFFFFF) ∧
      (∀ q, s.seqOf st = some q → (t.seqr q).pos = 0 ∧ (t.seqr q).newWedge = true) ∧
      (∀ q, q = 16 ∨ q = 17 → (s.seqr q).refHead = headOf st (s.stream st) → (t.seqr q).pos = 0) ∧
      (∀ k, k ≠ st → t.stream k = s.stream k) ∧ Only [.free, .spn, .chn, .wrp, .seq] s t) ∧
  (∀ (s : State) (st : Nat) (o : WedgeObs), Ready (.servoWedge st o) s → (s.stream st).readers ≠ 0 → o.sam = false →
    Gives (.servoWedge st o) s fun t =>
      (t.stream st).record = some {
        head := 0, track := 0, wedge := o.expected, pes := 0, qual := 0, sam := false,
        gray := false, parity := false, oneReader := decide ((readersInUse (s.stream st).readers).length = 1), samTime := 0, at_ := s.now } ∧
      (t.stream st).noMark = (s.stream st).noMark + 1 ∧ (t.stream st).lastMark = (s.stream st).lastMark ∧
      (t.stream st).writeClock = (s.stream st).writeClock ∧ (2 ≤ (s.stream st).noMark + 1 → (t.stream st).locked = false) ∧
      t.statRaw (statKey (headOf st (s.stream st)) (s.stream st).zone 12) =
        satAdd (s.statRaw (statKey (headOf st (s.stream st)) (s.stream st).zone 12)) 1 0xFFFFFFFF ∧
      (∀ k, k ≠ st → t.stream k = s.stream k) ∧ Only [.chn, .wrp, .seq] s t) ∧
  (∀ (s : State) (st : Nat) (o : WedgeObs), Ready (.servoWedge st o) s → (s.stream st).readers = 0 →
    Gives (.servoWedge st o) s (Still s))

/-- Decode outcomes and the escalation ladder. A stream decode that stops shows its outcome, fills its slot and the neighbour record; a
host read that converges has its block, one that fails starts one ladder for its sector with its values retained; a verify read gives
its sector's result; a deep decode that recovers ends the ladder, one that does not leads to the next re-read; a re-read is added and
decoded; a rebuild recovers its block, to be placed again, or the sector is reported lost. Commands that it shows to complete, so that
exec answers a next state with their own effect: decodeStop, deepDecodeDone, rereadDone, rebuildDone. It rests on parts of R97, R103,
R104, R105, R106, R109, R111, R112, R113, R115, R117, R158. The model's choices it rests on: log entries 5, 8, 64, 65, 159, 160, 161,
163, 167, 168, 169, 170. -/
def Obligations.DecodingAndLadder : Prop :=
  (∀ (s : State) (st : Nat) (o : DecodeObs) (r : Reading) (rest : List Reading), Ready (.decodeStop st o) s →
      (s.stream st).decoding = r :: rest → r.missed ≠ 0 ∨ r.endAt.isSome = true →
    let h := s.stopHow r o
    let v := o.values.map (scaledValue (s.stream st).profile)
    let w := scramble r.track r.sector (s.codeOf r.surface r.track) o.word
    Gives (.decodeStop st o) s fun t =>
      (t.stream st).decoding = rest ∧ (t.stream st).lastAt = (r.surface, r.track, r.sector) ∧
      (t.stream st).last = State.lastWord (lastOutcome h) (if 3 ≤ h then 0 else max 1 (min o.iter (s.iterLimit st r)))
        (if h < 3 then correctedBits w v else 0) r.snr ∧
      (t.stream st).nbrs = (if h < 3 then putNeighbour (s.stream st).nbrs r.surface (18 * actOf st + r.surface) r.track r.sector
        (neighbourValues (h == 0) (codeBits (s.codeOf r.surface r.track)) w v) else (s.stream st).nbrs) ∧
      t.slotState st r.slot = (if h = 0 then .decoded else .failed) ∧
      (h = 0 → t.slotPayload st r.slot = s.openPayload (wordPayload o.word)) ∧
      t.now = (if h = 1 ∧ o.iter < s.iterLimit st r then max s.now (s.decodeDeadline r rest) else s.now) ∧
      (∀ k, k ≠ st → t.stream k = s.stream k) ∧ Only [.clock, .tim, .flt, .eqt, .plc, .orb, .chn, .wrp, .srm] s t) ∧
  (∀ (s : State) (st : Nat) (o : DecodeObs) (r : Reading) (rest : List Reading), Ready (.decodeStop st o) s →
      (s.stream st).decoding = r :: rest → r.missed = 0 → r.endAt = none →
    Gives (.decodeStop st o) s (Still s)) ∧
  (∀ (s : State) (st : Nat) (o : DecodeObs), Ready (.decodeStop st o) s → (s.stream st).decoding = [] →
    Gives (.decodeStop st o) s (Still s)) ∧
  (∀ (s : State) (st : Nat) (o : DecodeObs) (r : Reading) (rest : List Reading) (n m p : Nat), Ready (.decodeStop st o) s →
      (s.stream st).decoding = r :: rest → r.missed ≠ 0 ∨ r.endAt.isSome = true → r.kind ≠ 5 → r.kind ≠ 3 →
      r.flags.testBit 1 = false → s.stopHow r o = 0 → s.rowOf r.surface r.track r.sector = some (n, m, p) →
    Gives (.decodeStop st o) s fun t =>
      t.chn.ladders = s.chn.ladders ∧
      t.eqt.cmds = amapv s.eqt.cmds (fun _ c => { c with
        bound := c.bound.map fun b => if b.onMedia && !b.got && b.spot == some (n, m, p) then { b with got := true } else b }) ∧
      Only [.eqt, .plc, .chn, .srm] s t) ∧
  (∀ (s : State) (st : Nat) (o : DecodeObs) (r : Reading) (rest : List Reading), Ready (.decodeStop st o) s →
      (s.stream st).decoding = r :: rest → r.missed ≠ 0 ∨ r.endAt.isSome = true → r.kind ≠ 5 → r.kind ≠ 3 →
      r.flags.testBit 1 = false → s.stopHow r o = 1 ∨ s.stopHow r o = 2 →
      (s.chn.ladders.any (fun l : Nat × Ladder => l.2.surface == r.surface && l.2.track == r.track && l.2.sector == r.sector)) = false →
      s.chn.deepQueue.length < 64 →
    Gives (.decodeStop st o) s fun t =>
      t.chn.nextLadder = s.chn.nextLadder + 1 ∧
      (∃ l, aget t.chn.ladders s.chn.nextLadder = some l ∧ l.surface = r.surface ∧ l.track = r.track ∧ l.sector = r.sector ∧
        l.head = 18 * actOf st + r.surface ∧ l.step = 0 ∧ l.reads = 0 ∧ l.deep = true ∧
        l.rereadDue = decide (1 ≤ ladRereads l) ∧ l.rebuild = (ladEarly l || (s.healthyHeads r.surface).isEmpty) ∧ l.slot = s.softRoom) ∧
      (∀ k, s.softRoom = some k → (aget t.chn.soft k).map (fun x => (x.values, x.reads, x.step, x.missed, x.miscorrect, x.snr)) =
        some (o.values.map (scaledValue (s.stream st).profile), 1, 0, false, s.stopHow r o == 2, r.snr)) ∧
      (∀ i, i ≠ s.chn.nextLadder → aget t.chn.ladders i = aget s.chn.ladders i) ∧ Only [.clock, .tim, .orb, .chn] s t) ∧
  (∀ (s : State) (st : Nat) (o : DecodeObs) (r : Reading) (rest : List Reading), Ready (.decodeStop st o) s →
      (s.stream st).decoding = r :: rest → r.missed ≠ 0 ∨ r.endAt.isSome = true → r.kind ≠ 5 → r.kind ≠ 3 →
      r.flags.testBit 1 = false → 3 ≤ s.stopHow r o →
      (s.chn.ladders.any (fun l : Nat × Ladder => l.2.surface == r.surface && l.2.track == r.track && l.2.sector == r.sector)) = false →
      1 ≤ fld (s.rv .chnEscCfg) 1 0 → (s.healthyHeads r.surface).isEmpty = false →
    Gives (.decodeStop st o) s fun t =>
      t.chn.nextLadder = s.chn.nextLadder + 1 ∧
      (∃ l, aget t.chn.ladders s.chn.nextLadder = some l ∧ l.surface = r.surface ∧ l.track = r.track ∧ l.sector = r.sector ∧
        l.head = 18 * actOf st + r.surface ∧ l.step = 0 ∧ l.reads = 0 ∧ l.deep = false ∧
        l.rereadDue = decide (1 ≤ ladRereads l) ∧ l.rebuild = ladEarly l ∧ l.slot = s.softRoom) ∧
      (∀ k, s.softRoom = some k → (aget t.chn.soft k).map (fun x => (x.values, x.reads, x.step, x.missed, x.miscorrect, x.snr)) =
        some (List.replicate (codeBits (s.codeOf r.surface r.track)) 0, 1, 0, true, false, r.snr)) ∧
      (∀ i, i ≠ s.chn.nextLadder → aget t.chn.ladders i = aget s.chn.ladders i) ∧ Only [.clock, .tim, .orb, .chn] s t) ∧
  (∀ (s : State) (st : Nat) (o : DecodeObs) (r : Reading) (rest : List Reading), Ready (.decodeStop st o) s →
      (s.stream st).decoding = r :: rest → r.missed ≠ 0 ∨ r.endAt.isSome = true → r.kind ≠ 5 → r.kind ≠ 3 →
      r.flags.testBit 1 = false → s.stopHow r o ≠ 0 →
      (s.chn.ladders.any (fun l : Nat × Ladder => l.2.surface == r.surface && l.2.track == r.track && l.2.sector == r.sector)) = true →
    Gives (.decodeStop st o) s fun t =>
      t.chn.ladders = s.chn.ladders ∧ t.chn.nextLadder = s.chn.nextLadder ∧ t.chn.deepQueue = s.chn.deepQueue ∧ Only [.clock, .tim, .chn] s t) ∧
  (∀ (s : State) (st : Nat) (o : DecodeObs) (r : Reading) (rest : List Reading), Ready (.decodeStop st o) s →
      (s.stream st).decoding = r :: rest → r.missed ≠ 0 ∨ r.endAt.isSome = true → r.kind = 3 →
    Gives (.decodeStop st o) s fun t =>
      t.wrp = (s.verifyOutcome r (s.stopHow r o) o.word).wrp ∧ t.chn.ladders = s.chn.ladders ∧ t.chn.deepQueue = s.chn.deepQueue ∧
      Only [.clock, .tim, .chn, .wrp, .srm] s t) ∧
  (∀ (s : State) (k : Nat) (w : BitVec 41216), Ready (.deepDecodeDone k w) s → s.chn.deepBusy[k]? = none →
    Gives (.deepDecodeDone k w) s (Still s)) ∧
  (∀ (s : State) (k : Nat) (w : BitVec 41216) (j : DeepJob) (l : Ladder), Ready (.deepDecodeDone k w) s →
      s.chn.deepBusy[k]? = some j → j.member = none → aget s.chn.ladders j.ladder = some l → wordOutcome l.code w = 0 →
    Gives (.deepDecodeDone k w) s fun t =>
      aget t.chn.ladders j.ladder = none ∧ (∀ i, i ≠ j.ladder → aget t.chn.ladders i = aget s.chn.ladders i) ∧
      (∀ d ∈ t.chn.deepQueue ++ t.chn.deepBusy, d.ladder ≠ j.ladder) ∧
      t.chn.soft = (match l.slot with | some n => adel s.chn.soft n | none => s.chn.soft) ∧ Only [.eqt, .plc, .orb, .chn] s t) ∧
  (∀ (s : State) (k : Nat) (w : BitVec 41216) (j : DeepJob) (l : Ladder), Ready (.deepDecodeDone k w) s →
      s.chn.deepBusy[k]? = some j → j.member = none → aget s.chn.ladders j.ladder = some l → wordOutcome l.code w ≠ 0 → l.row = none →
      l.rereadDue = false → l.reads < ladRereads l → (s.healthyHeads l.surface).isEmpty = false →
      ((s.chn.deepQueue ++ s.chn.deepBusy.eraseIdx k).any fun d => d.ladder == j.ladder && d.member.isNone) = false →
    Gives (.deepDecodeDone k w) s fun t =>
      (∃ m, aget t.chn.ladders j.ladder = some m ∧ m.rereadDue = true ∧ m.deep = false ∧ m.reads = l.reads) ∧
      (∀ i, i ≠ j.ladder → aget t.chn.ladders i = aget s.chn.ladders i) ∧ t.now = max s.now (j.begun + s.deepLimit l) ∧
      Only [.clock, .tim, .orb, .chn] s t) ∧
  (∀ (s : State) (k m : Nat) (w : BitVec 41216) (j : DeepJob) (l : Ladder), Ready (.deepDecodeDone k w) s →
      s.chn.deepBusy[k]? = some j → j.member = some m → aget s.chn.ladders j.ladder = some l → wordOutcome l.code w = 0 →
    Gives (.deepDecodeDone k w) s fun t =>
      aget t.chn.ladders j.ladder = some { l with gathered := l.gathered ++ [(m, wordPayload w)] } ∧
      (∀ i, i ≠ j.ladder → aget t.chn.ladders i = aget s.chn.ladders i) ∧ t.chn.soft = s.chn.soft ∧ Only [.chn] s t) ∧
  (∀ (s : State) (ix : Nat) (missed : Bool) (values : List Int) (l : Ladder), Ready (.rereadDone ix missed values) s →
      aget s.chn.ladders ix = some l → l.rereadDue = false →
    Gives (.rereadDone ix missed values) s (Still s)) ∧
  (∀ (s : State) (ix : Nat) (values : List Int) (l : Ladder), Ready (.rereadDone ix false values) s → aget s.chn.ladders ix = some l →
      l.rereadDue = true →
    Gives (.rereadDone ix false values) s fun t =>
      aget t.chn.ladders ix = some { l with reads := l.reads + 1, step := l.reads + 1, rereadDue := false, deep := true } ∧
      (∃ d ∈ t.chn.deepQueue ++ t.chn.deepBusy, d.ladder = ix ∧ d.member = none ∧ d.first = false) ∧
      (∀ n, l.slot = some n → aget t.chn.soft n = (aget s.chn.soft n).map fun x =>
        { x with values := addValues x.values values, reads := x.reads + 1, step := l.reads + 1 }) ∧
      (∀ i, i ≠ ix → aget t.chn.ladders i = aget s.chn.ladders i) ∧ Only [.orb, .chn] s t) ∧
  (∀ (s : State) (ix : Nat) (l : Ladder) (n m p key : Nat), Ready (.rebuildDone ix) s → aget s.chn.ladders ix = some l →
      l.rebuild = true → l.row = some (n, m, p) → s.rebuildNeed l ≤ l.gathered.length → s.rebuildGood l = true →
      s.blockAt n m p = some key → fld l.cfg 11 8 ≤ 3 →
    Gives (.rebuildDone ix) s fun t =>
      aget t.chn.ladders ix = none ∧ (aget t.chn.recovered key).isSome = true ∧ (∀ i, i ≠ ix → aget t.chn.ladders i = aget s.chn.ladders i) ∧
      t.chn.soft = (match l.slot with | some k => adel (amod s.chn.soft k fun r => { r with step := 3 }) k | none => s.chn.soft) ∧
      Only [.eqt, .plc, .orb, .chn] s t) ∧
  (∀ (s : State) (ix : Nat) (l : Ladder) (n m p : Nat), Ready (.rebuildDone ix) s → aget s.chn.ladders ix = some l →
      l.rebuild = true → l.row = some (n, m, p) → s.rebuildNeed l ≤ l.gathered.length → s.rebuildGood l = false → l.deep = false →
      l.rereadDue = false → ladRereads l ≤ l.reads →
    Gives (.rebuildDone ix) s fun t =>
      aget t.chn.ladders ix = none ∧ (∀ i, i ≠ ix → aget t.chn.ladders i = aget s.chn.ladders i) ∧
      t.flt.inbox = joinReports s.now
        { source := 192 + l.stream, kind := 1, addr := l.track % 2 ^ 24 * 1024 + l.sector % 1024, severity := 2 } s.flt.inbox ∧
      (∀ k, (aget t.chn.soft k).map (·.values) = (aget s.chn.soft k).map (·.values)) ∧ Only [.flt, .eqt, .plc, .orb, .chn] s t)

/-- Frames of the preamplifier links, CLR of a link, snapshots of the channel counters. A good acknowledgement of the frame in flight ends
its wait: a heater or an arming is acknowledged, the next frame goes out; a bad one is counted; with no acknowledgement a frame is
sent again three times and then the link is down, reported, and sends LINK_RESET every 100 us; the acknowledgement of LINK_RESET sends
SELECT, HEATER and WRITE_CUR again for every selected head; a FAULT frame reports what it names; SNAP shows the counters of the head
and zone, with CLEAR they return to 0 and no others do; CLR of a link zeroes its two counters. Commands that it shows to complete, so
that exec answers a next state with their own effect: chnStatSnap, chnStatSnapClear, linkAck, preampFault, linkAckTimeout,
linkResetRetry, plkClr. It rests on parts of R124, R125, R142, R143, R145, R146, R147, R149, R150. The model's choices it rests on:
log entries 3, 60, 61, 62. -/
def Obligations.PreampLinksAndCounters : Prop :=
  (∀ (s : State) (a : Nat) (w : BitVec 64) (parts : List Nat), Ready (.linkAck a w parts) s →
      fldN w 63 60 ≠ 0xD ∨ fldN w 7 0 ≠ (crc8 w).toNat →
    Gives (.linkAck a w parts) s (Still (s.modLink a fun l => { l with upCrc := satInc l.upCrc 255 }))) ∧
  (∀ (s : State) (a : Nat) (w : BitVec 64) (parts : List Nat), Ready (.linkAck a w parts) s → fldN w 63 60 = 0xD →
      fldN w 7 0 = (crc8 w).toNat →
      ∀ f, f ∈ (s.link a).flight → ¬(fldN w 59 56 = f.cmd ∧ fldN w 55 51 = f.head ∧ fldN w 50 48 = f.seq) →
    Gives (.linkAck a w parts) s (Still s)) ∧
  (∀ (s : State) (a : Nat) (w : BitVec 64) (parts : List Nat) (f : LinkFrame), Ready (.linkAck a w parts) s →
      (s.link a).flight = [f] → fldN w 63 60 = 0xD → fldN w 7 0 = (crc8 w).toNat → fldN w 59 56 = f.cmd → fldN w 55 51 = f.head →
      fldN w 50 48 = f.seq → f.cmd = 2 → (s.link a).queue = [] → (s.link a).up = true →
    Gives (.linkAck a w parts) s (Still
      ((s.modLink a fun l => { l with flight := [] }).modHead (18 * a + f.head) fun x => { x with heaterAck := some s.now }))) ∧
  (∀ (s : State) (a : Nat) (w : BitVec 64) (parts : List Nat) (f : LinkFrame), Ready (.linkAck a w parts) s →
      (s.link a).flight = [f] → fldN w 63 60 = 0xD → fldN w 7 0 = (crc8 w).toNat → fldN w 59 56 = f.cmd → fldN w 55 51 = f.head →
      fldN w 50 48 = f.seq → f.cmd = 4 → (s.link a).queue = [] → (s.link a).up = true →
    Gives (.linkAck a w parts) s (Still
      ((s.modLink a fun l => { l with
        flight := [] }).modHead (18 * a + f.head) fun x => { x with armed := decide (f.data % 2 = 1), armAck := some s.now }))) ∧
  (∀ (s : State) (a : Nat) (w : BitVec 64) (parts : List Nat) (f : LinkFrame), Ready (.linkAck a w parts) s →
      (s.link a).flight = [f] → fldN w 63 60 = 0xD → fldN w 7 0 = (crc8 w).toNat → fldN w 59 56 = f.cmd → fldN w 55 51 = f.head →
      fldN w 50 48 = f.seq → f.cmd = 9 → (s.link a).queue = [] → (s.link a).up = true → s.wrp.sweep.busy = true →
      s.wrp.sweep.head = 18 * a + f.head →
    Gives (.linkAck a w parts) s (Still
      { (s.modLink a fun l => { l with flight := [] }) with
        wrp := { (s.modLink a fun l => { l with flight := [] }).wrp with
          sweep := { s.wrp.sweep with readings := s.wrp.sweep.readings ++ [(s.now, fldN w 31 16)] } } })) ∧
  (∀ (s : State) (a : Nat) (w : BitVec 64) (parts : List Nat) (f g : LinkFrame), Ready (.linkAck a w parts) s →
      (s.link a).flight = [f] → fldN w 63 60 = 0xD → fldN w 7 0 = (crc8 w).toNat → fldN w 59 56 = f.cmd → fldN w 55 51 = f.head →
      fldN w 50 48 = f.seq → f.cmd ≠ 2 → f.cmd ≠ 4 → f.cmd ≠ 6 → f.cmd ≠ 9 → f.cmd ≠ 10 → (s.link a).queue = [g] →
      (s.link a).up = true →
    Gives (.linkAck a w parts) s fun t =>
      t.link a = { s.link a with
        flight := [{ g with seq := (s.link a).nextSeq, tries := 1, sentAt := s.now }], queue := [],
        nextSeq := ((s.link a).nextSeq + 1) % 8 } ∧
      Out.linkFrame a (frameBits 0xB g.cmd g.head (s.link a).nextSeq g.data) ∈ t.out ∧ (∀ k, k ≠ a → t.link k = s.link k) ∧ t.wrp.heads = s.wrp.heads ∧ Only [.wrp] s t) ∧
  (∀ (s : State) (a : Nat) (w : BitVec 64) (parts : List Nat) (f : LinkFrame), Ready (.linkAck a w parts) s →
      (s.link a).flight = [f] → fldN w 63 60 = 0xD → fldN w 7 0 = (crc8 w).toNat → fldN w 59 56 = f.cmd → fldN w 55 51 = f.head →
      fldN w 50 48 = f.seq → f.cmd = 10 → ∀ st, st ∈ streamsOf a → (s.stream st).readers = 0 → (s.link a).queue = [] →
    Gives (.linkAck a w parts) s (Still
      (s.modLink a fun l => { l with flight := [], restoring := false, resetDue := 0, up := true }))) ∧
  (∀ (s : State) (a st : Nat) (w : BitVec 64) (parts : List Nat) (f : LinkFrame), Ready (.linkAck a w parts) s →
      (s.link a).flight = [f] → fldN w 63 60 = 0xD → fldN w 7 0 = (crc8 w).toNat → fldN w 59 56 = f.cmd → fldN w 55 51 = f.head →
      fldN w 50 48 = f.seq → f.cmd = 10 → st ∈ streamsOf a → (s.stream st).readers ≠ 0 →
    Gives (.linkAck a w parts) s fun t =>
      (∃ g ∈ (t.link a).flight ++ (t.link a).queue, g.cmd = 1 ∧ g.head = (s.stream st).head ∧ g.data = (s.stream st).readers * 4 + st % 4) ∧
      (∃ g ∈ (t.link a).flight ++ (t.link a).queue, g.cmd = 2 ∧ g.head = (s.stream st).head ∧
        g.data = (s.lhead (headOf st (s.stream st))).heater) ∧
      (∃ g ∈ (t.link a).flight ++ (t.link a).queue, g.cmd = 3 ∧ g.head = (s.stream st).head) ∧ (t.link a).resetDue = 0 ∧ (∀ k, k ≠ a → t.link k = s.link k) ∧
      Only [.wrp] s t) ∧
  (∀ (s : State) (a : Nat) (w : BitVec 64) (parts : List Nat), Ready (.preampFault a w parts) s →
      fldN w 63 60 ≠ 0xD ∨ fldN w 7 0 ≠ (crc8 w).toNat →
    Gives (.preampFault a w parts) s (Still (s.modLink a fun l => { l with upCrc := satInc l.upCrc 255 }))) ∧
  (∀ (s : State) (a st : Nat) (w : BitVec 64) (parts : List Nat), Ready (.preampFault a w parts) s → fldN w 63 60 = 0xD →
      fldN w 7 0 = (crc8 w).toNat → fldN w 59 56 = 15 → fldN w 55 51 = 31 → fldN w 50 48 = 0 → fldN w 47 16 = 2 ^ (16 + st % 4) →
      st ∈ streamsOf a → (s.stream st).readers ≠ 0 →
    Gives (.preampFault a w parts) s (Still
      { s with
        flt := { s.flt with
          inbox := joinReports s.now { source := 72 + a, kind := 2, addr := (s.stream st).head % 18, severity := 1 } s.flt.inbox } })) ∧
  (∀ (s : State) (a st : Nat) (w : BitVec 64) (parts : List Nat), Ready (.preampFault a w parts) s → fldN w 63 60 = 0xD →
      fldN w 7 0 = (crc8 w).toNat → fldN w 59 56 = 15 → fldN w 55 51 = 31 → fldN w 50 48 = 0 → fldN w 47 16 = 2 ^ (8 + st % 4) →
      st ∈ streamsOf a → (s.stream st).readers ≠ 0 → (s.lhead (headOf st (s.stream st))).contact = false →
    Gives (.preampFault a w parts) s fun t =>
      (t.lhead (headOf st (s.stream st))).contact = true ∧ (t.lhead (headOf st (s.stream st))).heater = 0 ∧
      (t.lhead (headOf st (s.stream st))).contactClean = s.now ∧ (t.stream st).writeGate = false ∧ (t.stream st).sticky.testBit 4 = true ∧
      (∀ h, h ≠ headOf st (s.stream st) → t.lhead h = s.lhead h) ∧ (∀ k, k ≠ st → t.stream k = s.stream k) ∧
      t.flt.inbox = joinReports s.now { source := 72 + a, kind := 4, addr := headOf st (s.stream st) % 18, severity := 1 } s.flt.inbox ∧
      Only [.flt, .chn, .wrp, .seq] s t) ∧
  (∀ (s : State) (a : Nat) (f : LinkFrame) (rest : List LinkFrame), Ready (.linkAckTimeout a) s → (s.link a).flight = f :: rest →
      (s.link a).resetDue = 0 → f.tries < 3 → f.cmd ≠ 5 →
    Gives (.linkAckTimeout a) s fun t =>
      t.link a = { s.link a with
        resends := satInc (s.link a).resends 255,
        flight := rest ++ [{ f with tries := f.tries + 1, sentAt := max t.now (lineFree (s.link a)) }] } ∧
      t.now = max s.now (f.sentAt + 656 + 1600) ∧ Out.linkFrame a (frameBits 0xB f.cmd f.head f.seq f.data) ∈ t.out ∧ (∀ k, k ≠ a → t.link k = s.link k) ∧
      t.wrp.heads = s.wrp.heads ∧ Only [.clock, .tim, .wrp] s t) ∧
  (∀ (s : State) (a : Nat) (f n : LinkFrame) (rest : List LinkFrame), Ready (.linkAckTimeout a) s → (s.link a).flight = f :: rest →
      (s.link a).resetDue = 0 → f.tries < 3 → f.cmd = 5 →
      ((rest ++ (s.link a).queue).reverse.find? fun g => g.cmd == 5 && g.head == f.head) = some n →
    Gives (.linkAckTimeout a) s fun t =>
      (t.link a).nextSeq = ((s.link a).nextSeq + 1) % 8 ∧ (t.link a).resends = satInc (s.link a).resends 255 ∧
      Out.linkFrame a (frameBits 0xB 5 f.head (s.link a).nextSeq n.data) ∈ t.out ∧
      t.now = max s.now (f.sentAt + 656 + 1600) ∧ (∀ k, k ≠ a → t.link k = s.link k) ∧ t.wrp.heads = s.wrp.heads ∧ Only [.clock, .tim, .wrp] s t) ∧
  (∀ (s : State) (a : Nat) (f : LinkFrame) (rest : List LinkFrame), Ready (.linkAckTimeout a) s → (s.link a).flight = f :: rest →
      (s.link a).resetDue = 0 → 3 ≤ f.tries → s.wrp.sweep.busy = false →
    Gives (.linkAckTimeout a) s fun t =>
      (t.link a).up = false ∧ (t.link a).flight = [] ∧ (t.link a).resetDue = t.now + 100000 ∧
      t.now = max s.now (f.sentAt + 656 + 1600) ∧
      t.flt.inbox = joinReports t.now { source := 72 + a, kind := 1, addr := f.head, severity := 2 } s.flt.inbox ∧
      (∀ h, h / 18 = a → (t.lhead h).armed = false ∧ (t.lhead h).armAck = none) ∧
      (∀ st, st ∈ streamsOf a → (s.stream st).readers ≠ 0 → (t.stream st).writeGate = false ∧ (t.stream st).sticky.testBit 3 = true) ∧
      (∀ k, k ≠ a → t.link k = s.link k) ∧ Only [.clock, .tim, .flt, .chn, .wrp, .seq] s t) ∧
  (∀ (s : State) (a : Nat), Ready (.linkResetRetry a) s → (s.link a).resetDue ≠ 0 →
    Gives (.linkResetRetry a) s fun t =>
      t.link a = { s.link a with
        flight := [{ cmd := 10, head := 31, seq := (s.link a).nextSeq, data := 0, tries := 1, sentAt := t.now }],
        nextSeq := ((s.link a).nextSeq + 1) % 8, resetDue := t.now + 100000 } ∧ t.now = max s.now (s.link a).resetDue ∧
      Out.linkFrame a (frameBits 0xB 10 31 (s.link a).nextSeq 0) ∈ t.out ∧ (∀ k, k ≠ a → t.link k = s.link k) ∧ t.wrp.heads = s.wrp.heads ∧
      Only [.clock, .tim, .wrp] s t) ∧
  (∀ (s : State) (a : Nat), Ready (.linkResetRetry a) s → (s.link a).resetDue = 0 →
    Gives (.linkResetRetry a) s (Still s)) ∧
  (∀ (s : State) (ag : Agent) (v : Word), Ready (.chnStatSnap ag v) s → Accepts s .chnStatSel v →
    Gives (.chnStatSnap ag v) s (Still
      (s.wrote { s.setRv .chnStatSel v with
        chn := { s.chn with statData := (List.range 16).map fun k => BitVec.ofNat 32 (s.statValue (fld v 6 0) (fld v 13 8) k) } } ag .chnStatSel))) ∧
  (∀ (s : State) (ag : Agent) (v : Word), Ready (.chnStatSnapClear ag v) s → Accepts s .chnStatSel v →
    Gives (.chnStatSnapClear ag v) s fun t =>
      (∀ k < 16, t.chn.statData[k]? = some (BitVec.ofNat 32 (s.statValue (fld v 6 0) (fld v 13 8) k))) ∧
      (∀ k < 16, t.statRaw (statKey (fld v 6 0) (fld v 13 8) k) = 0) ∧
      (∀ h z k, k < 16 → z < 64 → ¬(h = fld v 6 0 ∧ z = fld v 13 8) → t.statRaw (statKey h z k) = s.statRaw (statKey h z k)) ∧
      t.chn.streams = s.chn.streams ∧ t.chn.ladders = s.chn.ladders ∧ Only [.regs, .tim, .chn, .pin] s t) ∧
  (∀ (s : State) (ag : Agent) (n : Nat) (v : Word), Ready (.plkClr ag n v) s → Accepts s (.plkCtl n) v →
    Gives (.plkClr ag n v) s (Still
      (s.wrote ((s.setRv (.plkCtl n) v).modLink n fun l => { l with resends := 0, upCrc := 0 }) ag (.plkCtl n))))

/-- Contact, the touchdown sweep and the write-fault inputs. A revolution without contact clears CONTACT and restores the heater; START
begins a sweep at heater code 0, is refused without the head or while a sweep runs; each step of STEP_REVS revolutions without contact
goes to the next code, the second revolution in a row above the baseline by CS_THRESH ends it with the first one's code, and code 255
ends it with NOT FOUND; a low pulse of 5 ns or more on a write-fault input inhibits every stream of its actuator and is reported, a
shorter one is ignored. Commands that it shows to complete, so that exec answers a next state with their own effect: contactRestore,
touchdownStart, touchdownStep, wfltAssert. It rests on parts of R152, R153, R154, R155. The model's choices it rests on: log entries
57, 63, 137, 140. -/
def Obligations.ContactAndWriteFaults : Prop :=
  (∀ (s : State) (h : Nat), Ready (.contactRestore h) s → (s.lhead h).contact = true →
    Gives (.contactRestore h) s fun t =>
      (t.lhead h).contact = false ∧ t.now = max s.now ((s.lhead h).contactClean + s.revNs) ∧
      (∀ st, st ∈ streamsOf (h / 18) → (s.stream st).readers ≠ 0 → headOf st (s.stream st) = h → (t.lhead h).heaterKind = 2) ∧
      (∀ k, k ≠ h → t.lhead k = s.lhead k) ∧ Only [.clock, .tim, .wrp] s t) ∧
  (∀ (s : State) (h : Nat), Ready (.contactRestore h) s → (s.lhead h).contact = false →
    Gives (.contactRestore h) s (Still s)) ∧
  (∀ (s : State) (ag : Agent) (v : Word), Ready (.touchdownStart ag v) s → Accepts s .plkTdCtl v →
    Gives (.touchdownStart ag v) s fun t =>
      t.wrp.sweep = { busy := true, head := fld v 6 0, code := 0, result := 0, tdCode := 0, stepAt := s.now, readings := [], baseline := none, overAt := none } ∧
      t.rv .plkTdCtl = v &&& regRw .plkTdCtl ∧ (t.lhead (fld v 6 0)).heater = 0 ∧ (t.lhead (fld v 6 0)).heaterKind = 3 ∧
      (∀ k, k ≠ fld v 6 0 → t.lhead k = s.lhead k) ∧ Only [.regs, .tim, .chn, .wrp, .seq, .pin] s t) ∧
  (∀ (s : State) (ag : Agent) (v : Word), Ready (.touchdownStart ag v) s → s.blockOff .plkTdCtl = false →
      s.wordRefused .plkTdCtl v = false → s.tdRefused v = true →
    Gives (.touchdownStart ag v) s (Still (s.turnedAway ag 2 (regAddr .plkTdCtl) 1))) ∧
  (∀ (s : State), Ready .touchdownStep s → s.wrp.sweep.busy = false →
    Gives .touchdownStep s (Still s)) ∧
  (∀ (s : State) (b : Nat), Ready .touchdownStep s → s.wrp.sweep.busy = true → s.wrp.sweep.baseline = some b →
      s.wrp.sweep.overAt = none → ∀ l, l ∈ s.stepReadings (fld (s.rv .plkTdCtl) 19 16) → (deviation l).getD 0 ≤ b →
      s.wrp.sweep.code < 255 →
    Gives .touchdownStep s fun t =>
      t.wrp.sweep = { s.wrp.sweep with code := s.wrp.sweep.code + 1, readings := [], stepAt := t.now } ∧
      t.now = max s.now (s.wrp.sweep.stepAt + fld (s.rv .plkTdCtl) 19 16 * s.revNs) ∧
      (t.lhead s.wrp.sweep.head).heater = s.wrp.sweep.code + 1 ∧ (∀ k, k ≠ s.wrp.sweep.head → t.lhead k = s.lhead k) ∧
      Only [.clock, .tim, .wrp] s t) ∧
  (∀ (s : State) (b : Nat), Ready .touchdownStep s → s.wrp.sweep.busy = true → s.wrp.sweep.baseline = some b →
      ∀ l, l ∈ s.stepReadings (fld (s.rv .plkTdCtl) 19 16) → (deviation l).getD 0 ≤ b → s.wrp.sweep.code = 255 →
    Gives .touchdownStep s fun t =>
      t.wrp.sweep = { s.wrp.sweep with busy := false, result := 2, code := 0, stepAt := t.now, readings := [], baseline := none, overAt := none } ∧
      (t.lhead s.wrp.sweep.head).heater = 0 ∧ (∀ k, k ≠ s.wrp.sweep.head → t.lhead k = s.lhead k) ∧ Only [.clock, .tim, .wrp] s t) ∧
  (∀ (s : State) (st b c d : Nat) (l : List Nat) (ls : List (List Nat)), Ready .touchdownStep s → s.wrp.sweep.busy = true →
      s.wrp.sweep.baseline = some b → s.wrp.sweep.overAt = some c →
      ((streamsOf (s.wrp.sweep.head / 18)).find? fun st => (s.stream st).readers != 0 && headOf st (s.stream st) == s.wrp.sweep.head) = some st →
      s.stepReadings (fld (s.rv .plkTdCtl) 19 16) = l :: ls → deviation l = some d → b + wprofByte (s.stream st).wprofile 25 < d →
    Gives .touchdownStep s fun t =>
      t.wrp.sweep.busy = false ∧ t.wrp.sweep.result = 1 ∧ t.wrp.sweep.tdCode = c ∧ (t.lhead s.wrp.sweep.head).heater = 0 ∧
      t.now = max s.now (s.wrp.sweep.stepAt + s.revNs) ∧ (∀ k, k ≠ s.wrp.sweep.head → t.lhead k = s.lhead k) ∧
      Only [.clock, .tim, .wrp] s t) ∧
  (∀ (s : State) (a ns : Nat), Ready (.wfltAssert a ns) s → ns < 5 →
    Gives (.wfltAssert a ns) s (Still s)) ∧
  (∀ (s : State) (a ns : Nat), Ready (.wfltAssert a ns) s → 5 ≤ ns →
    Gives (.wfltAssert a ns) s fun t =>
      (t.link a).wfltRaised = true ∧ (t.link a).wfltUntil = s.now + ns ∧
      (∀ st, st ∈ streamsOf a → (t.stream st).writeGate = false ∧ (t.stream st).sticky.testBit 2 = true) ∧
      (∀ st, st ∉ streamsOf a → t.stream st = s.stream st) ∧
      t.flt.inbox = joinReports s.now { source := 72 + a, kind := 2, addr := 31, severity := 1 } s.flt.inbox ∧
      Only [.flt, .chn, .wrp, .seq] s t)

/-- Reservations, copies, completed rows, freed band sets and the stripe geometry. A stripe-geometry write closes every open band set
where the effective geometry changes; the first waiting reservation is granted into the first pair of stacks in which it fits and not
before; a missing copy is made again in a third stack; a row is complete once its members, records and verifies are done and then its
landing buffers are released; a reclaimed set without live blocks returns to FREE. Commands that it shows to complete, so that exec
answers a next state with their own effect: plcStripeCfgWrite, bandSetFree, reservationGrant, landingRecopyDone, rowComplete. It rests
on parts of R26, R41, R50, R51, R53, R56, R58, R59. The model's choices it rests on: log entries 9, 66, 80, 133, 154, 155. -/
def Obligations.LandingAndRows : Prop :=
  (∀ (s : State) (ag : Agent) (v : Word), Ready (.plcStripeCfgWrite ag v) s → Accepts s .plcStripeCfg v →
    Gives (.plcStripeCfgWrite ag v) s fun t =>
      t.rv .plcStripeCfg = v &&& regRw .plcStripeCfg ∧
      ((t.effW = s.effW ∧ t.effP = s.effP ∧ t.chunk = s.chunk) → t.plc.sets = s.plc.sets) ∧
      (¬(t.effW = s.effW ∧ t.effP = s.effP ∧ t.chunk = s.chunk) → ∀ n, (aget t.plc.sets n).map (fun b => (b.isOpen, b.earlier)) = (aget s.plc.sets n).map fun _ => (false, true)) ∧
      t.plc.userCap = (if t.capacityNow ≤ s.plc.userCap ∨ t.plc.sets.any (fun e => e.2.earlier) = false then t.capacityNow
        else s.plc.userCap) ∧
      t.plc.blocks = s.plc.blocks ∧ t.plc.rows = s.plc.rows ∧ Only [.regs, .tim, .plc, .pin] s t) ∧
  (∀ (s : State) (ag : Agent) (v : Word), Ready (.plcStripeCfgWrite ag v) s → s.blockOff .plcStripeCfg = false →
      s.wordRefused .plcStripeCfg v = false → s.capacityUnder v < s.allocated →
    Gives (.plcStripeCfgWrite ag v) s (Still (s.turnedAway ag 2 (regAddr .plcStripeCfg) 1))) ∧
  (∀ (s : State), Ready .reservationGrant s → s.plc.resvQueue = [] →
    Gives .reservationGrant s (Still s)) ∧
  (∀ (s : State) (k : Nat) (rest : List Nat) (c : Cmd), Ready .reservationGrant s → s.plc.resvQueue = k :: rest → s.cmd? k = some c →
      s.resvPair (eNblk c.entry) ((s.ns (eNsid c.entry)).kind == .placed) = none ∨ s.earlierFetched c.fetch = true →
    Gives .reservationGrant s (Still s)) ∧
  (∀ (s : State) (k a b : Nat) (rest : List Nat) (c : Cmd), Ready .reservationGrant s → s.plc.resvQueue = k :: rest →
      s.cmd? k = some c → s.resvPair (eNblk c.entry) ((s.ns (eNsid c.entry)).kind == .placed) = some (a, b) →
      s.earlierFetched c.fetch = false →
    Gives .reservationGrant s fun t =>
      ((t.cmd? k).bind Cmd.resv) = some { blocks := eNblk c.entry, granted := true, stackA := a, stackB := b } ∧ t.plc.resvQueue = rest ∧
      (∀ j, j ≠ k → ((t.cmd? j).bind Cmd.resv) = ((s.cmd? j).bind Cmd.resv)) ∧ t.plc.landing = s.plc.landing ∧
      t.plc.blocks = s.plc.blocks ∧ Only [.eqt, .plc] s t) ∧
  (∀ (s : State) (n stack : Nat) (b : LandBlock), Ready (.landingRecopyDone 0 n stack) s → s.plc.landing[n]? = some b →
      b.missing = true → s.thirdStack stack b.stackA b.stackB = true →
    Gives (.landingRecopyDone 0 n stack) s fun t =>
      t.plc.landing[n]? = some { b with stackB := stack, missing := false } ∧
      (∀ i, i ≠ n → t.plc.landing[i]? = s.plc.landing[i]?) ∧ t.plc.blocks = s.plc.blocks ∧ Only [.plc, .hbm] s t) ∧
  (∀ (s : State) (n stack : Nat) (r : JRec), Ready (.landingRecopyDone 1 n stack) s → aget s.plc.journal n = some r →
      r.missing = true → s.thirdStack stack r.stackA r.stackB = true →
    Gives (.landingRecopyDone 1 n stack) s fun t =>
      aget t.plc.journal n = some { r with stackB := stack, missing := false } ∧
      (∀ i, i ≠ n → aget t.plc.journal i = aget s.plc.journal i) ∧ t.plc.landing = s.plc.landing ∧ Only [.plc, .hbm] s t) ∧
  (∀ (s : State) (k stack : Nat) (c : Cmd) (r : Resv), Ready (.landingRecopyDone 2 k stack) s → s.cmd? k = some c → c.resv = some r →
      c.recopy.testBit 0 = true → s.thirdStack stack r.stackA r.stackB = true →
    Gives (.landingRecopyDone 2 k stack) s fun t =>
      Stands k { c with recopy := c.recopy - 1, resv := some { r with stackA := stack } } s t ∧ t.plc.landing = s.plc.landing ∧
      t.plc.journal = s.plc.journal ∧ Only [.eqt, .hbm] s t) ∧
  (∀ (s : State) (k stack : Nat) (c : Cmd) (r : Resv), Ready (.landingRecopyDone 2 k stack) s → s.cmd? k = some c → c.resv = some r →
      c.recopy.testBit 0 = false → c.recopy ≠ 0 → s.thirdStack stack r.stackA r.stackB = true →
    Gives (.landingRecopyDone 2 k stack) s fun t =>
      Stands k { c with recopy := 0, resv := some { r with stackB := stack } } s t ∧ t.plc.landing = s.plc.landing ∧
      t.plc.journal = s.plc.journal ∧ Only [.eqt, .hbm] s t) ∧
  (∀ (s : State) (n stack : Nat) (l : Lineage), Ready (.landingRecopyDone 3 n stack) s → aget s.eqt.lineages n = some l →
    Gives (.landingRecopyDone 3 n stack) s fun t =>
      (aget t.eqt.lineages n).map (·.memory) = some (l.memory.map fun r =>
        if r.stackA = r.stackB ∧ s.thirdStack stack r.stackA r.stackB = true then { r with stackB := stack } else r) ∧
      (∀ i, i ≠ n → aget t.eqt.lineages i = aget s.eqt.lineages i) ∧ t.eqt.cmds = s.eqt.cmds ∧ t.plc.landing = s.plc.landing ∧
      Only [.eqt, .hbm] s t) ∧
  (∀ (s : State) (n stack : Nat), Ready (.landingRecopyDone 4 n stack) s → n ∈ s.plc.mapBad →
    Gives (.landingRecopyDone 4 n stack) s fun t =>
      t.plc.mapBad = s.plc.mapBad.filter (· != n) ∧ t.plc.blocks = s.plc.blocks ∧ t.plc.landing = s.plc.landing ∧
      t.plc.journal = s.plc.journal ∧ Only [.plc, .hbm] s t) ∧
  (∀ (s : State) (n : Nat) (r : Row), Ready (.rowComplete n) s → aget s.plc.rows n = some r →
      r.verifying ≠ 0 ∨ r.jrn = none ∨ r.recs.any s.recPending = true ∨ r.complete = true →
    Gives (.rowComplete n) s (Still s)) ∧
  (∀ (s : State) (n j : Nat) (r : Row), Ready (.rowComplete n) s → aget s.plc.rows n = some r → r.complete = false → r.jrn = some j →
      r.verifying = 0 → r.recs.any s.recPending = false → ∀ e, e ∈ r.vals → s.notOwed n r e = true →
    Gives (.rowComplete n) s fun t =>
      aget t.plc.rows n = some { r with complete := true } ∧ (∀ i, i ≠ n → aget t.plc.rows i = aget s.plc.rows i) ∧
      t.plc.landing = s.plc.landing.filter (fun b => b.row != some n) ∧ t.plc.hold = decide (t.pwr.dmax < t.dirty) ∧
      (∀ k, (aget t.plc.blocks k).map (fun c => (c.val, c.pair)) = (aget s.plc.blocks k).map fun c => (c.val, c.pair)) ∧
      Only [.plc, .orb, .chn, .pwr] s t) ∧
  (∀ (s : State) (n : Nat) (b : BandSet), Ready (.bandSetFree n) s → aget s.plc.sets n = some b →
      b.reclaiming = false ∨ (s.liveKeys n).isEmpty = false ∨ s.setBound n = true →
    Gives (.bandSetFree n) s (Still s)) ∧
  (∀ (s : State) (n : Nat) (b : BandSet), Ready (.bandSetFree n) s → aget s.plc.sets n = some b → b.reclaiming = true →
      (s.liveKeys n).isEmpty = true → s.plc.rows.any (fun r => r.2.set == n && !r.2.complete) = false → s.setBound n = false →
    Gives (.bandSetFree n) s fun t =>
      aget t.plc.sets n = none ∧ (∀ r ∈ t.plc.rows, r.2.set ≠ n) ∧ (∀ r ∈ s.plc.rows, r.2.set ≠ n → r ∈ t.plc.rows) ∧
      (∀ m, m ≠ n → (aget t.plc.sets m).map (fun e => { e with reclaiming := false }) =
        (aget s.plc.sets m).map fun e => { e with reclaiming := false }) ∧
      (∀ id ∈ setBands b, (∀ e ∈ s.plc.sets, e.1 ≠ n → id ∉ setBands e.2) → (t.band id).writePos = 0 ∧
        (t.band id).state = (if s.sec.pers.failBand ≤ (s.band id).failures then .retired else .free)) ∧
      (∀ id, (t.band id).failures = (s.band id).failures ∧ (id ∉ setBands b → (t.band id).writePos = (s.band id).writePos)) ∧
      t.plc.userCap = (if b.earlier ∧ (adel s.plc.sets n).any (fun e => e.2.earlier) = false then
        max s.plc.userCap (capacityOf s.sec.pers s.effW s.effP) else s.plc.userCap) ∧
      t.plc.blocks = s.plc.blocks ∧ t.plc.landing = s.plc.landing ∧ Only [.plc, .orb, .pwr] s t)

/-- The journal on media, checkpoints, and the rebuild of the map. A record whose two copies are verified is on media; a checkpoint begins
with the namespaces as they stand and covers every record that exists; one verified copy of its root puts it in force in the older
slot and the records that it covers are released; the rebuilt map is that of the newest root whose copy can be read, after which
commands are accepted. Commands that it shows to complete, so that exec answers a next state with their own effect: journalOnMedia,
checkpointBegin, checkpointInForce, mapRebuild. It rests on parts of R65, R66, R67, R68, R69, R74. The model's choices it rests on:
log entries 86, 87, 88, 89, 90, 91, 94, 95, 171. -/
def Obligations.JournalAndCheckpoints : Prop :=
  (∀ (s : State) (n k : Nat) (w : SysWork) (r : JRec), Ready (.journalOnMedia n) s →
      s.plc.sys.find? (fun e => e.2.kind == .journal && e.2.index == n) = some (k, w) → aget s.plc.journal n = some r →
      (liveSpots w).length ≠ 2 ∨ (liveSpots w).all (fun p => decide (w.count ≤ p.verified)) = false →
    Gives (.journalOnMedia n) s (Still s)) ∧
  (∀ (s : State) (n k : Nat) (w : SysWork) (r : JRec), Ready (.journalOnMedia n) s →
      s.plc.sys.find? (fun e => e.2.kind == .journal && e.2.index == n) = some (k, w) → aget s.plc.journal n = some r →
      (liveSpots w).length = 2 → (liveSpots w).all (fun p => decide (w.count ≤ p.verified)) = true → r.owner = none →
      s.plc.roots.any (fun e => e.2.covered == r.pair || pairBefore r.pair e.2.covered) = false →
    let u : JRec := { r with onMedia := true, spots := (liveSpots w).map fun p => (p.surface, p.track, p.sector) }
    Gives (.journalOnMedia n) s fun t =>
      aget t.plc.journal n = some u ∧ aget t.plc.mediaJournal n = some u ∧
      aget t.plc.sys k = none ∧ (∀ i, i ≠ n → (aget s.plc.journal i).all (fun e => !e.onMedia) → aget t.plc.journal i = aget s.plc.journal i) ∧
      t.plc.hold = decide (t.pwr.dmax < t.dirty) ∧ t.plc.blocks = s.plc.blocks ∧ t.plc.landing = s.plc.landing ∧ Only [.plc] s t) ∧
  (∀ (s : State) (n k g : Nat) (w : SysWork) (r : JRec) (c : Cmd), Ready (.journalOnMedia n) s →
      s.plc.sys.find? (fun e => e.2.kind == .journal && e.2.index == n) = some (k, w) → aget s.plc.journal n = some r →
      (liveSpots w).length = 2 → (liveSpots w).all (fun p => decide (w.count ≤ p.verified)) = true → r.owner = some g →
      s.cmd? g = some c → eOp c.entry = 0x40 → c.phase = .accepted → c.accept.isSome = true →
      s.plc.roots.any (fun e => e.2.covered == r.pair || pairBefore r.pair e.2.covered) = false →
    let u : JRec := { r with onMedia := true, spots := (liveSpots w).map fun p => (p.surface, p.track, p.sector) }
    Gives (.journalOnMedia n) s fun t =>
      aget t.plc.journal n = some u ∧ aget t.plc.mediaJournal n = some u ∧ aget t.plc.sys k = none ∧
      (t.cmd? g).map (fun d => (d.phase, d.status, d.result)) = some (.done, 0, 0) ∧ (∀ j, j ≠ g → t.cmd? j = s.cmd? j) ∧
      t.plc.blocks = s.plc.blocks ∧ t.plc.landing = s.plc.landing) ∧
  (∀ (s : State), Ready .checkpointBegin s → s.plc.rebuilt = true → s.plc.ckpt = none → s.pwr.umbra = false →
      s.plc.sys.any (fun e => e.2.kind == .root && e.2.index == s.plc.ckptSlot) = false →
      s.uncovered < fld (s.rv .plcCkptCfg) 15 8 * 2 ^ 24 → s.pwr.change = none →
    let base : Assoc BlockRec := match newestRoot s.plc.roots with | some r => r.blocks | none => []
    let cov : Pair := match (inOrder (avals s.plc.journal)).getLast? with | some r => r.pair | none => s.coveredPair
    Gives .checkpointBegin s fun t =>
      t.now = max s.now (s.plc.ckptLast + 1000000000 * fld (s.rv .plcCkptCfg) 23 16) ∧ t.plc.ckptLast = t.now ∧
      (t.plc.ckpt.map fun x => (x.spaces, x.copies, x.spots)) = some (s.plc.spaces, 0, []) ∧
      (t.plc.ckpt.map Root.blocks) = some ((inOrder (avals s.plc.journal)).foldl (fun m r => s.mapApply m r) base) ∧
      (t.plc.ckpt.map Root.covered) = some cov ∧
      (t.plc.ckpt.map fun x => s.changedPages base x.blocks) = some t.plc.pagesDue ∧
      t.plc.roots = s.plc.roots ∧ t.plc.journal = s.plc.journal ∧ t.plc.blocks = s.plc.blocks ∧ Only [.clock, .tim, .plc] s t) ∧
  (∀ (s : State), Ready .checkpointBegin s → s.plc.rebuilt = true → s.plc.ckpt = none → s.pwr.umbra = false →
      s.plc.sys.any (fun e => e.2.kind == .root && e.2.index == s.plc.ckptSlot) = false →
      fld (s.rv .plcCkptCfg) 15 8 * 2 ^ 24 ≤ s.uncovered →
    let base : Assoc BlockRec := match newestRoot s.plc.roots with | some r => r.blocks | none => []
    let cov : Pair := match (inOrder (avals s.plc.journal)).getLast? with | some r => r.pair | none => s.coveredPair
    Gives .checkpointBegin s fun t =>
      t.now = s.now ∧ t.plc.ckptLast = s.now ∧ (t.plc.ckpt.map fun x => (x.spaces, x.copies, x.spots)) = some (s.plc.spaces, 0, []) ∧
      (t.plc.ckpt.map Root.blocks) = some ((inOrder (avals s.plc.journal)).foldl (fun m r => s.mapApply m r) base) ∧
      (t.plc.ckpt.map Root.covered) = some cov ∧
      (t.plc.ckpt.map fun x => s.changedPages base x.blocks) = some t.plc.pagesDue ∧
      t.plc.roots = s.plc.roots ∧ t.plc.journal = s.plc.journal ∧ t.plc.blocks = s.plc.blocks ∧ Only [.plc] s t) ∧
  (∀ (s : State), Ready .checkpointBegin s → s.plc.rebuilt = false ∨ s.plc.ckpt.isSome = true ∨ s.pwr.umbra = true →
    Gives .checkpointBegin s (Still s)) ∧
  (∀ (s : State) (root : Root) (k : Nat) (w : SysWork), Ready .checkpointInForce s → s.plc.ckpt = some root →
      s.plc.sys.find? (fun e => e.2.kind == .root && e.2.index == s.plc.ckptSlot) = some (k, w) → (rootSpots w).isEmpty = false →
    Gives .checkpointInForce s fun t =>
      aget t.plc.roots s.plc.ckptSlot = some { root with copies := (rootSpots w).length, spots := rootSpots w } ∧
      (∀ i, i ≠ s.plc.ckptSlot → aget t.plc.roots i = aget s.plc.roots i) ∧ t.plc.ckptSlot = 1 - s.plc.ckptSlot ∧ t.plc.ckpt = none ∧
      t.plc.sys = (if (liveSpots w).all (fun p => decide (0 < p.verified)) then adel s.plc.sys k else s.plc.sys) ∧
      (∀ e ∈ t.plc.journal, e.2.onMedia = true → ¬(root.covered = e.2.pair ∨ pairBefore e.2.pair root.covered = true)) ∧
      (∀ e ∈ s.plc.journal, e.2.onMedia = false → e ∈ t.plc.journal) ∧
      t.plc.hold = decide (t.pwr.dmax < t.dirty) ∧ t.plc.blocks = s.plc.blocks ∧ t.plc.landing = s.plc.landing ∧ Only [.plc] s t) ∧
  (∀ (s : State) (badRoots : List Nat) (bad : List (Nat × Nat × Nat)), Ready (.mapRebuild badRoots bad) s → s.plc.rebuilt = false →
      s.pwr.umbra = false → (s.act 1).state = .following → ∀ k, k ∈ akeys s.plc.roots → k ∈ badRoots → s.plc.mediaJournal = [] →
      s.plc.generations = [] → s.plc.landing = [] →
    Gives (.mapRebuild badRoots bad) s fun t =>
      t.plc.rebuilt = true ∧ t.eqt.acceptCmds = true ∧ t.plc.blocks = [] ∧ t.plc.landing = [] ∧
      (∀ r ∈ t.plc.rows, r.2.complete = true ∧ r.2.verifying = 0) ∧ Only [.free, .tim, .flt, .eqt, .plc, .orb, .chn, .pwr, .sec] s t) ∧
  (∀ (s : State) (badRoots : List Nat) (bad : List (Nat × Nat × Nat)), Ready (.mapRebuild badRoots bad) s →
      s.plc.rebuilt = true ∨ s.pwr.umbra = true ∨ ∀ a, a < 4 → (s.act a).state ≠ .following →
    Gives (.mapRebuild badRoots bad) s (Still s))

/-- Trailing verifies, and the end of a turn. A run read within its window is verified and its row has one verify less; a sector that does
not converge, or with COMPARE differs, and every sector of a run whose window ends, is a failed write of its row, counted by its band,
and what it held is placed again; a turn with work outstanding goes on. Commands that it shows to complete, so that exec answers a
next state with their own effect: verifyDone, verifyWindowExpire, turnEnd. It rests on parts of R156, R157, R159, R424, R434. The
model's choices it rests on: log entries 3, 120, 175. -/
def Obligations.TrailingVerify : Prop :=
  (∀ (s : State) (id : Nat) (v : VerifyItem), Ready (.verifyDone id) s → aget s.wrp.verifies id = some v →
      v.read = false ∨ v.deadline < s.now →
    Gives (.verifyDone id) s (Still s)) ∧
  (∀ (s : State) (id n k : Nat) (v : VerifyItem) (r : Row) (m : Member), Ready (.verifyDone id) s → aget s.wrp.verifies id = some v →
      v.read = true → s.now ≤ v.deadline → v.row = some (n, k) → aget s.plc.rows n = some r → r.members[k]? = some m → v.ecl = [] →
      ∀ i, i < v.count → i ∉ v.bad →
    Gives (.verifyDone id) s fun t =>
      aget t.wrp.verifies id = none ∧ (∀ i, i ≠ id → aget t.wrp.verifies i = aget s.wrp.verifies i) ∧
      aget t.plc.rows n = some { r with verifying := r.verifying - 1 } ∧ (∀ i, i ≠ n → aget t.plc.rows i = aget s.plc.rows i) ∧
      t.plc.bands = s.plc.bands ∧ t.plc.landing = s.plc.landing ∧ Only [.plc, .orb, .wrp] s t) ∧
  (∀ (s : State) (id n k : Nat) (v : VerifyItem) (r : Row) (m : Member), Ready (.verifyDone id) s → aget s.wrp.verifies id = some v →
      v.read = true → s.now ≤ v.deadline → v.row = some (n, k) → v.count = 1 → aget s.plc.rows n = some r → r.members[k]? = some m →
      m.failed.contains (v.sector - m.sector) = false → v.ecl = [] → 0 ∈ v.bad →
    Gives (.verifyDone id) s fun t =>
      aget t.wrp.verifies id = none ∧ (t.band (bandId m.surface m.band)).failures = (s.band (bandId m.surface m.band)).failures + 1 ∧
      (∃ q, aget t.plc.rows n = some q ∧ q.verifying = r.verifying - 1 ∧
        q.members[k]? = some { m with failed := m.failed ++ [v.sector - m.sector] }) ∧ Only [.clock, .tim, .chn, .plc, .orb, .wrp] s t) ∧
  (∀ (s : State) (id n k : Nat) (v : VerifyItem) (r : Row) (m : Member), Ready (.verifyWindowExpire id) s →
      aget s.wrp.verifies id = some v → v.row = some (n, k) → v.count = 1 → aget s.plc.rows n = some r → r.members[k]? = some m →
      m.failed.contains (v.sector - m.sector) = false → v.ecl = [] →
    Gives (.verifyWindowExpire id) s fun t =>
      aget t.wrp.verifies id = none ∧ (t.band (bandId m.surface m.band)).failures = (s.band (bandId m.surface m.band)).failures + 1 ∧
      (∃ q, aget t.plc.rows n = some q ∧ q.verifying = r.verifying - 1 ∧
        q.members[k]? = some { m with failed := m.failed ++ [v.sector - m.sector] }) ∧ t.now = max s.now v.deadline ∧ Only [.clock, .tim, .chn, .plc, .orb, .wrp] s t) ∧
  (∀ (s : State) (id : Nat), Ready (.verifyWindowExpire id) s → aget s.wrp.verifies id = none →
    Gives (.verifyWindowExpire id) s (Still s)) ∧
  (∀ (s : State) (a : Nat) (rows : List RowPlan) (posts : List SysPlan), Ready (.turnEnd a rows posts) s → s.pwr.umbra = true →
    Gives (.turnEnd a rows posts) s (Still s)) ∧
  (∀ (s : State) (a : Nat) (rows : List RowPlan) (posts : List SysPlan), Ready (.turnEnd a rows posts) s → s.pwr.umbra = false →
      s.seq.done = [] → (s.turn a).busy = true → s.turnDone a = false →
    Gives (.turnEnd a rows posts) s (Still s)) ∧
  (∀ (s : State) (a : Nat) (rows : List RowPlan) (posts : List SysPlan), Ready (.turnEnd a rows posts) s → s.pwr.umbra = false →
      s.seq.done = [] → (s.turn a).busy = false → (s.turn a).served = [] → s.plc.rebuilt = false → s.stageCode < 3 →
      s.bandsLow = false → s.mapNearFull = false → s.plc.sets = [] →
    Gives (.turnEnd a rows posts) s fun t =>
      (∀ b, t.turn b = s.turn b) ∧ t.orb.pieces = s.orb.pieces ∧ t.plc.rows = s.plc.rows ∧ t.plc.landing = s.plc.landing ∧
      t.plc.blocks = s.plc.blocks ∧ Only [.plc, .orb] s t) ∧
  (∀ (s : State) (a i : Nat) (p : Piece), Ready (.turnEnd a [] []) s → s.pwr.umbra = false → s.seq.done = [] →
      (s.turn a).busy = false → (s.turn a).served = [] → s.orb.pieces = [(i, p)] → i < s.orb.nextPiece → p.act = a →
      s.mayChoose a = true → s.mayServe p = true → s.mayLead p = true → s.bandsLow = false → s.mapNearFull = false → s.plc.sets = [] →
      s.assign (s.workStreams a) ((pickJobs (s.jobOpen p) (s.workStreams a).length [] (s.jobs p)).1.map fun j => (i, j)) ≠ [] →
    Gives (.turnEnd a [] []) s fun t =>
      (t.turn a).number = (s.turn a).number + 1 ∧ (t.turn a).busy = true ∧ aget (t.turn a).served i = some p ∧
      (t.turn a).target = p.track ∧ aget t.orb.pieces i = none ∧ (∀ b, b ≠ a → t.turn b = s.turn b) ∧
      t.plc.landing = s.plc.landing ∧ t.plc.blocks = s.plc.blocks ∧ Only [.regs, .tim, .plc, .orb, .sce, .chn, .wrp, .seq, .srm, .pwr] s t)

/-- Frames, links and paths. A frame that the port does not take is dropped and counted, an ARP request for its address is answered, a
router is kept; the link comes up in the fastest common mode and not while the port is disabled; its loss is counted and reported,
except where a configuration write retrains it, and a session with a usable alternate path migrates; a path silent for PATH_TMO is
reported and left for the alternate. Commands that it shows to complete, so that exec answers a next state with their own effect:
ethFrameReceive, linkLoss, pathTimeout, linkUp, ethCfgWrite. It rests on parts of R281, R282, R283, R284, R309, R310, R311, R312,
R314, R656. The model's choices it rests on: log entries 51, 72, 134, 146, 147. -/
def Obligations.PortsAndPaths : Prop :=
  (∀ (s : State) (p : Nat) (f : RxFrame) (level : Nat), Ready (.ethFrameReceive p f level) s → (s.port p).link = false →
    Gives (.ethFrameReceive p f level) s (Still s)) ∧
  (∀ (s : State) (p : Nat) (f : RxFrame) (level : Nat), Ready (.ethFrameReceive p f level) s → (s.port p).link = true →
      bit (s.rv (.ethCfg p)) 27 = false → macDrops f = true ∨ f.body = .ptpDropped ∨ f.body = .roceUnsupported ∨ f.body = .other →
    Gives (.ethFrameReceive p f level) s (Still
      (s.modPort p fun x => { x with rxLevel := min 100 level, dropOther := satInc x.dropOther 0xFFFF }))) ∧
  (∀ (s : State) (p : Nat) (f : RxFrame) (level : Nat), Ready (.ethFrameReceive p f level) s → (s.port p).link = true →
      bit (s.rv (.ethCfg p)) 27 = false → macDrops f = false → bit (s.rv (.ethIpCtl p)) 31 = true →
      f.body = .arp (s.rv (.ethIpv4 p)) →
    Gives (.ethFrameReceive p f level) s (Still ((s.modPort p fun x => { x with rxLevel := min 100 level }).emit (.arpReply p)))) ∧
  (∀ (s : State) (p : Nat) (f : RxFrame) (r : BitVec 128) (level : Nat), Ready (.ethFrameReceive p f level) s →
      (s.port p).link = true → bit (s.rv (.ethCfg p)) 27 = false → macDrops f = false → f.body = .routerAdvert r →
    Gives (.ethFrameReceive p f level) s (Still (s.modPort p fun x => { x with rxLevel := min 100 level, router := some r }))) ∧
  (∀ (s : State) (p : Nat) (f : RxFrame) (level : Nat), Ready (.ethFrameReceive p f level) s → macDrops f = false →
      f.body = .rocePacket → (s.port p).link = true → bit (s.rv (.ethCfg p)) 27 = true → 75 ≤ level → (s.port p).paused = false →
    Gives (.ethFrameReceive p f level) s (Still
      ((s.modPort p fun x => { x with rxLevel := min 100 level, paused := true }).emit (.pfc p true)))) ∧
  (∀ (s : State) (p : Nat) (f : RxFrame) (level : Nat), Ready (.ethFrameReceive p f level) s → macDrops f = false →
      f.body = .pfcPause (fld (s.rv (.ethCfg p)) 26 24) true → (s.port p).link = true → bit (s.rv (.ethCfg p)) 27 = true →
      level < 75 → (s.port p).paused = false →
    Gives (.ethFrameReceive p f level) s (Still (s.modPort p fun x => { x with rxLevel := min 100 level, pausedByPeer := true }))) ∧
  (∀ (s : State) (p : Nat) (f : RxFrame) (level : Nat), Ready (.ethFrameReceive p f level) s → macDrops f = false →
      f.body = .pfcPause (fld (s.rv (.ethCfg p)) 26 24) false → (s.port p).link = true → bit (s.rv (.ethCfg p)) 27 = true →
      level < 75 → (s.port p).paused = false →
    Gives (.ethFrameReceive p f level) s fun t =>
      (t.port p).pausedByPeer = false ∧ (∀ e ∈ s.eqt.held, e.1.path.port = p → Out.packet e.1 e.2 ∈ t.out) ∧
      t.eqt.held = s.eqt.held.filter (fun e => e.1.path.port != p) ∧
      Still (s.modPort p fun x => { x with rxLevel := min 100 level, pausedByPeer := false }) t) ∧
  (∀ (s : State) (p partner m : Nat) (fec74 : Bool), Ready (.linkUp p partner fec74) s → bit (s.rv (.ethCfg p)) 31 = true →
      (s.port p).link = false → commonMode (s.rv (.ethCfg p)) partner = some m →
    Gives (.linkUp p partner fec74) s (Still
      (s.modPort p fun x => { x with
        link := true, speed := m + 1, fec := m != 2 || (bit (s.rv (.ethCfg p)) 5 && fec74), rxLevel := 0 }))) ∧
  (∀ (s : State) (p partner : Nat) (fec74 : Bool), Ready (.linkUp p partner fec74) s →
      bit (s.rv (.ethCfg p)) 31 = false ∨ (s.port p).link = true ∨ commonMode (s.rv (.ethCfg p)) partner = none →
    Gives (.linkUp p partner fec74) s (Still s)) ∧
  (∀ (s : State) (p : Nat), Ready (.linkLoss p) s → (s.port p).link = true → ∀ i, i ∈ s.sessIds → (s.sess i).path.port ≠ p →
    Gives (.linkLoss p) s (Still
      { (s.wakeEvent 7).modPort p fun x => { x with link := false, speed := 0, fec := false, linkDowns := satInc x.linkDowns 255, paused := false, pausedByPeer := false } with
        flt := { s.flt with inbox := joinReports s.now { source := 288 + p, kind := 1, addr := 0, severity := 2 } s.flt.inbox } })) ∧
  (∀ (s : State) (p i : Nat) (q : Path), Ready (.linkLoss p) s → (s.port p).link = true →
      s.sessIds.filter (fun i => (s.sess i).path.port == p) = [i] → (s.sess i).state = .active → (s.sess i).alt = some q →
      q.port ≠ p → (s.port q.port).link = true →
    Gives (.linkLoss p) s fun t =>
      (t.port p).link = false ∧ (t.sess i).path = q ∧ (t.sess i).alt = none ∧ (t.sess i).state = .active ∧
      (∀ j, j ≠ i → calmSession (t.sess j) = calmSession (s.sess j)) ∧
      t.flt.inbox = joinReports s.now { source := 288 + p, kind := 1, addr := 0, severity := 2 } s.flt.inbox ∧ t.eqt.cmds = s.eqt.cmds ∧
      Only [.flt, .eqt, .pwr] s t) ∧
  (∀ (s : State) (p : Nat), Ready (.linkLoss p) s → (s.port p).link = false →
    Gives (.linkLoss p) s (Still s)) ∧
  (∀ (s : State) (ag : Agent) (p : Nat) (v : Word), Ready (.ethCfgWrite ag p v) s → Accepts s (.ethCfg p) v →
      ∀ i, i ∈ s.sessIds → (s.sess i).path.port ≠ p →
    Gives (.ethCfgWrite ag p v) s fun t =>
      t.rv (.ethCfg p) = v &&& regRw (.ethCfg p) ∧ (t.port p).link = false ∧
      (t.port p).linkDowns = (if (s.port p).link then satInc (s.port p).linkDowns 255 else (s.port p).linkDowns) ∧
      (∀ k, k ≠ p → t.port k = s.port k) ∧ t.eqt.cmds = s.eqt.cmds ∧ (∀ i, calmSession (t.sess i) = calmSession (s.sess i)) ∧
      Only [.regs, .tim, .eqt, .pin] s t) ∧
  (∀ (s : State) (ix u : Nat) (q : Path), Ready (.pathTimeout ix) s → (s.sess ix).silentSince = some u →
      (s.sess ix).state = .active ∨ (s.sess ix).state = .closing → (s.sess ix).reqs ≠ [] → (s.sess ix).alt = some q →
      (s.port q.port).link = true →
    Gives (.pathTimeout ix) s fun t =>
      t.now = max s.now (u + 1000 * fld (s.rv .eqtSessCfg) 8 0) ∧ (t.sess ix).path = q ∧ (t.sess ix).alt = none ∧
      (t.sess ix).state = (s.sess ix).state ∧ (∀ j, j ≠ ix → calmSession (t.sess j) = calmSession (s.sess j)) ∧
      t.flt.inbox = joinReports t.now { source := 288 + (s.sess ix).path.port, kind := 2, addr := 0, severity := 2 } s.flt.inbox ∧
      t.eqt.cmds = s.eqt.cmds ∧ Only [.clock, .tim, .flt, .eqt, .pwr] s t) ∧
  (∀ (s : State) (ix : Nat), Ready (.pathTimeout ix) s →
      (s.sess ix).silentSince = none ∨ (s.sess ix).reqs = [] ∨ s.altUsable ix = false →
    Gives (.pathTimeout ix) s (Still s))

/-- Packets and doorbells of a host, push data and acknowledgements. A packet that fails its checks is dropped and counted, one beyond the
expected PSN is answered by one NAK, one before it is acknowledged again; a doorbell of a live session replaces its tail or head, a
malformed one is counted and changes nothing; push data inside a grant is recorded, in a quarantined range it is discarded, elsewhere
it is refused. Commands that it shows to complete, so that exec answers a next state with their own effect: roceWriteReceive, sqDb,
cqDb, evDb, pushDataWrite, hostAckTimer. It rests on parts of R288, R290, R322, R323, R324, R325, R340, R402, R423. The model's
choices it rests on: log entries 21, 73, 125. -/
def Obligations.HostWrites : Prop :=
  (∀ (s : State) (k : WritePkt) (bad : Nat), Ready (.roceWriteReceive k bad) s → (s.port k.port).link = false →
    Gives (.roceWriteReceive k bad) s (Still s)) ∧
  (∀ (s : State) (k : WritePkt) (bad : Nat), Ready (.roceWriteReceive k bad) s → (s.port k.port).link = true →
      k.icrcOk = false ∨ s.doorbellLive k.qp = false ∨ k.pkey ≠ (s.sess k.qp).pkey →
    Gives (.roceWriteReceive k bad) s (Still (s.modPort k.port fun x => { x with dropIcrc := satInc x.dropIcrc 0xFFFF }))) ∧
  (∀ (s : State) (k : WritePkt) (bad : Nat), Ready (.roceWriteReceive k bad) s → (s.port k.port).link = true → k.icrcOk = true →
      s.doorbellLive k.qp = true → k.pkey = (s.sess k.qp).pkey → k.ce = false → k.psn ≠ (s.sess k.qp).epsn →
      (k.psn - (s.sess k.qp).epsn).toNat < 2 ^ 23 → (s.sess k.qp).nakSent = false →
    Gives (.roceWriteReceive k bad) s fun t =>
      Sent k.qp (.nak (s.sess k.qp).epsn 0) s t ∧ Still (s.setSess k.qp { s.sess k.qp with nakSent := true }) t) ∧
  (∀ (s : State) (k : WritePkt) (bad : Nat), Ready (.roceWriteReceive k bad) s → (s.port k.port).link = true → k.icrcOk = true →
      s.doorbellLive k.qp = true → k.pkey = (s.sess k.qp).pkey → k.ce = false → (k.psn - (s.sess k.qp).epsn).toNat ≥ 2 ^ 23 →
    Gives (.roceWriteReceive k bad) s fun t => Sent k.qp (.ack ((s.sess k.qp).epsn - 1)) s t ∧ Still s t) ∧
  (∀ (s : State) (k : WritePkt) (bad : Nat), Ready (.roceWriteReceive k bad) s → (s.port k.port).link = true → k.icrcOk = true →
      s.doorbellLive k.qp = true → k.pkey = (s.sess k.qp).pkey → k.ce = false → LevelsRaised s → k.psn = (s.sess k.qp).epsn →
      k.op = .only → (s.sess k.qp).wrCursor = none → k.dmaLen = 8 → k.payload.length = 8 → k.addr = Config.dbAddr k.qp →
      k.rkey = Config.dbRkey k.qp → leAt k.payload 0 8 < 2 ^ (s.sess k.qp).sqLog → (s.sess k.qp).sqLog ≤ 12 →
      (s.sess k.qp).stopFetch = false → (s.sess k.qp).pendNotify = false → (s.sess k.qp).hostPkts = 0 → (s.sess k.qp).ackDue = none →
    Gives (.roceWriteReceive k bad) s fun t =>
      t.sess k.qp = { s.sess k.qp with
        epsn := (s.sess k.qp).epsn + 1, nakSent := false, tail := leAt k.payload 0 8, hostPkts := 1, ackDue := some (s.now + 4000) } ∧
      (∀ i, i ≠ k.qp → t.sess i = s.sess i) ∧ t.eqt.cmds = s.eqt.cmds ∧ Only [.eqt, .pwr] s t) ∧
  (∀ (s : State) (ix : Nat) (w : DWord), Ready (.sqDb ix w) s → s.doorbellLive ix = false →
    Gives (.sqDb ix w) s (Still s)) ∧
  (∀ (s : State) (ix : Nat) (w : DWord), Ready (.sqDb ix w) s → s.doorbellLive ix = true → badDoorbell w (s.sess ix).sqLog = true →
    Gives (.sqDb ix w) s (Still { s with eqt := { s.eqt with dbBad := satInc s.eqt.dbBad 255 } })) ∧
  (∀ (s : State) (ix : Nat) (w : DWord), Ready (.cqDb ix w) s → s.doorbellLive ix = true → badDoorbell w (s.sess ix).cq.log2 = true →
    Gives (.cqDb ix w) s (Still { s with eqt := { s.eqt with dbBad := satInc s.eqt.dbBad 255 } })) ∧
  (∀ (s : State) (ix : Nat) (w : DWord), Ready (.sqDb ix w) s → LevelsRaised s → s.doorbellLive ix = true →
      badDoorbell w (s.sess ix).sqLog = false → (s.sess ix).stopFetch = false → (s.sess ix).pendNotify = false →
    Gives (.sqDb ix w) s fun t =>
      t.sess ix = { (s.sess ix) with tail := fldN w 15 0 } ∧ (∀ i, i ≠ ix → t.sess i = s.sess i) ∧ t.eqt.cmds = s.eqt.cmds ∧ t.eqt.lineages = s.eqt.lineages ∧ Only [.eqt, .pwr] s t) ∧
  (∀ (s : State) (ix : Nat) (w : DWord), Ready (.cqDb ix w) s → LevelsRaised s → s.doorbellLive ix = true →
      badDoorbell w (s.sess ix).cq.log2 = false →
      unconsumed (s.sess ix).cq.log2 (fldN w 15 0) (s.sess ix).cq.head ≤ unconsumed (s.sess ix).cq.log2 (s.sess ix).cq.wr (s.sess ix).cq.head →
      (s.sess ix).pendNotify = false → (s.sess ix).cq.waiting = [] →
    Gives (.cqDb ix w) s fun t =>
      t.sess ix = { (s.sess ix) with cq := { (s.sess ix).cq with head := fldN w 15 0 } } ∧ (∀ i, i ≠ ix → t.sess i = s.sess i) ∧ t.eqt.cmds = s.eqt.cmds ∧ t.eqt.lineages = s.eqt.lineages ∧ Only [.eqt] s t) ∧
  (∀ (s : State) (ix : Nat) (w : DWord), Ready (.cqDb ix w) s → s.doorbellLive ix = true →
      unconsumed (s.sess ix).cq.log2 (s.sess ix).cq.wr (s.sess ix).cq.head < unconsumed (s.sess ix).cq.log2 (fldN w 15 0) (s.sess ix).cq.head →
    Gives (.cqDb ix w) s (Still { s with eqt := { s.eqt with dbBad := satInc s.eqt.dbBad 255 } })) ∧
  (∀ (s : State) (ix : Nat) (w : DWord), Ready (.evDb ix w) s → LevelsRaised s → s.doorbellLive ix = true →
      (s.sess ix).events = true → badDoorbell w (s.sess ix).eq.log2 = false → fldN w 15 0 = (s.sess ix).eq.wr →
      (s.sess ix).pendNotify = false → (s.sess ix).eq.deferred = [] → (s.sess ix).eq.deferredHb = false →
      (s.sess ix).eq.waitingClaim = [] →
    Gives (.evDb ix w) s fun t =>
      t.sess ix = { (s.sess ix) with eq := { (s.sess ix).eq with head := fldN w 15 0 } } ∧ (∀ i, i ≠ ix → t.sess i = s.sess i) ∧ t.evc = s.evc ∧ t.eqt.cmds = s.eqt.cmds ∧ t.eqt.lineages = s.eqt.lineages ∧ Only [] s t) ∧
  (∀ (s : State) (ix : Nat) (w : DWord), Ready (.evDb ix w) s → s.doorbellLive ix = true →
      (s.sess ix).events = false ∨ badDoorbell w (s.sess ix).eq.log2 = true →
    Gives (.evDb ix w) s (Still { s with eqt := { s.eqt with dbBad := satInc s.eqt.dbBad 255 } })) ∧
  (∀ (s : State) (ix ofs : Nat) (bytes : List Byte) (bad : Nat) (g : Grant), Ready (.pushDataWrite ix ofs bytes bad) s →
      (s.sess ix).state = .active ∨ (s.sess ix).state = .closing → (s.sess ix).grants = [g] → g.entry.winOfs ≤ ofs →
      ofs + bytes.length ≤ g.entry.winOfs + g.entry.len → (writeOver g.written (ofs - g.entry.winOfs) bytes).length ≠ g.entry.len →
    Gives (.pushDataWrite ix ofs bytes bad) s (Still
      (s.setSess ix { (s.sess ix) with grants := [{ g with written := writeOver g.written (ofs - g.entry.winOfs) bytes }] }))) ∧
  (∀ (s : State) (ix ofs : Nat) (bytes : List Byte) (bad : Nat), Ready (.pushDataWrite ix ofs bytes bad) s →
      (s.sess ix).state = .active ∨ (s.sess ix).state = .closing → (s.sess ix).grants = [] →
      ∀ k, k < bytes.length → ∃ q ∈ (s.sess ix).quarantine, q.ofs ≤ ofs + k ∧ ofs + k < q.ofs + q.len →
    Gives (.pushDataWrite ix ofs bytes bad) s (Still s)) ∧
  (∀ (s : State) (ix ofs : Nat) (bytes : List Byte) (bad : Nat), Ready (.pushDataWrite ix ofs bytes bad) s →
      (s.sess ix).state = .active ∨ (s.sess ix).state = .closing → (s.sess ix).grants = [] → (s.sess ix).quarantine = [] →
      bytes ≠ [] →
    Gives (.pushDataWrite ix ofs bytes bad) s fun t => Sent ix (.nak (s.sess ix).epsn 2) s t ∧ Still s t) ∧
  (∀ (s : State) (ix d : Nat), Ready (.hostAckTimer ix) s → (s.sess ix).ackDue = some d →
    Gives (.hostAckTimer ix) s fun t =>
      Sent ix (.ack ((s.sess ix).epsn - 1)) s t ∧ Still ((s.advanceTo d).setSess ix { (s.sess ix) with hostPkts := 0, ackDue := none }) t) ∧
  (∀ (s : State) (ix : Nat), Ready (.hostAckTimer ix) s → (s.sess ix).ackDue = none →
    Gives (.hostAckTimer ix) s (Still s))

/-- Admission, the end of a session and lineages. A REQ during an activation is answered with MRA and kept, one that fails a check with
REJ, any other with REP and a session in ADMITTING bound to a new lineage; RTU makes it ACTIVE; REJ or a second without RTU frees it
with the lineage that it created; DREQ stops it and frees it once no command is left; a lineage unbound for LINEAGE_HOLD is released;
LAP arms a path through the other port. Commands that it shows to complete, so that exec answers a next state with their own effect:
req, rtu, dreq, drep, lap, rej, admitTimeout, lineageRelease. It rests on parts of R291, R294, R295, R296, R297, R299, R300, R302,
R310, R659. The model's choices it rests on: log entries 3, 22, 67, 69, 70, 71, 74, 78, 152. -/
def Obligations.SessionsAndLineages : Prop :=
  (∀ (s : State) (port : Nat) (m : ReqMsg), Ready (.req port m) s → (s.port port).link = false →
    Gives (.req port m) s (Still s)) ∧
  (∀ (s : State) (port : Nat) (m : ReqMsg) (x : Activation), Ready (.req port m) s → (s.port port).link = true →
      s.eqt.activation = some x → 1 ≤ x.step → x.step ≤ 4 → s.pwr.point = 0 → s.pwr.change = none →
    Gives (.req port m) s (Still ({ s with eqt := { s.eqt with mraQueue := s.eqt.mraQueue ++ [(port, m)] } }.emit (.cm port .mra)))) ∧
  (∀ (s : State) (port reason : Nat) (status : BitVec 16) (m : ReqMsg), Ready (.req port m) s → (s.port port).link = true →
      s.eqt.activation = none → s.pwr.point = 0 → s.pwr.change = none → s.admCheck m = some (reason, status) →
    Gives (.req port m) s (Still (s.emit (.cm port (.rej reason status))))) ∧
  (∀ (s : State) (port : Nat) (m : ReqMsg) (p : Path) (alt : Option Path), Ready (.req port m) s → (s.port port).link = true →
      s.eqt.activation = none → s.pwr.point = 0 → s.pwr.change = none → s.admCheck m = none → s.reqPaths m = some (p, alt) →
      admResume m = false →
    Gives (.req port m) s fun t =>
      (let i := freeKey s.eqt.sessions 0
      calmSession (t.sess i) = calmSession (s.newSession m p alt s.eqt.nextLineage true) ∧
      (∀ j, j ≠ i → calmSession (t.sess j) = calmSession (s.sess j)) ∧ t.eqt.nextLineage = s.eqt.nextLineage + 1 ∧
      aget t.eqt.lineages s.eqt.nextLineage = some {
        token := (Config.random s.free).setWidth 128, group := adm m 2 1, bound := some i, holdUntil := 0,
        held := [], memory := [], oldPending := (s.eqt.cmds.filter fun c => c.2.lineage == s.eqt.nextLineage).length } ∧
      (∀ l, l ≠ s.eqt.nextLineage → aget t.eqt.lineages l = aget s.eqt.lineages l) ∧ t.free = s.free + 1 ∧ t.eqt.cmds = s.eqt.cmds ∧
      Only [.free, .eqt] s t)) ∧
  (∀ (s : State) (ix : Nat), Ready (.rtu ix) s → LevelsRaised s → (s.sess ix).state = .admitting → (s.sess ix).cq.waiting = [] →
    Gives (.rtu ix) s fun t =>
      t.sess ix = { (s.sess ix) with state := .active, rateStep := s.now } ∧ (∀ i, i ≠ ix → t.sess i = s.sess i) ∧ t.eqt.cmds = s.eqt.cmds ∧ t.eqt.lineages = s.eqt.lineages ∧ Only [.eqt] s t) ∧
  (∀ (s : State) (ix : Nat), Ready (.rtu ix) s → (s.sess ix).state ≠ .admitting →
    Gives (.rtu ix) s (Still s)) ∧
  (∀ (s : State) (ix : Nat) (release : Bool) (l : Lineage), Ready (.dreq ix release) s → (s.sess ix).state = .active →
      s.cmdsOf ix = [] → (s.sess ix).reqs = [] → (s.sess ix).cq.waiting = [] → aget s.eqt.lineages (s.sess ix).lineage = some l →
      l.bound = some ix → s.heldSource ix = none →
    Gives (.dreq ix release) s fun t =>
      t.sess ix = freeSession ∧ (∀ j, j ≠ ix → calmSession (t.sess j) = calmSession (s.sess j)) ∧
      aget t.eqt.lineages (s.sess ix).lineage = (if release then none else some { l with
        bound := none, holdUntil := s.now + 1000000000 * fld (s.rv .eqtSessCfg) 31 16 }) ∧
      (∀ k, k ≠ (s.sess ix).lineage → aget t.eqt.lineages k = aget s.eqt.lineages k) ∧ t.eqt.cmds = s.eqt.cmds ∧ Only [.eqt] s t) ∧
  (∀ (s : State) (ix : Nat) (release : Bool), Ready (.dreq ix release) s → (s.sess ix).state = .active → s.cmdsOf ix ≠ [] →
    Gives (.dreq ix release) s fun t =>
      (t.sess ix).state = .closing ∧ (t.sess ix).releaseLineage = release ∧
      (∀ j, j ≠ ix → calmSession (t.sess j) = calmSession (s.sess j)) ∧ t.eqt.cmds = s.eqt.cmds ∧ t.eqt.lineages = s.eqt.lineages ∧ Only [.eqt] s t) ∧
  (∀ (s : State) (ix : Nat) (release : Bool), Ready (.dreq ix release) s → (s.sess ix).state ≠ .active →
    Gives (.dreq ix release) s (Still s)) ∧
  (∀ (s : State) (ix : Nat), Ready (.drep ix) s →
    Gives (.drep ix) s (Still s)) ∧
  (∀ (s : State) (ix : Nat) (r : PathReq) (q : Path), Ready (.lap ix r) s → (s.sess ix).state = .active → s.pathOf r = some q →
      q.port ≠ (s.sess ix).path.port →
    Gives (.lap ix r) s (Still ((s.setSess ix { (s.sess ix) with alt := some q }).emit (.cm (s.sess ix).path.port (.apr ix))))) ∧
  (∀ (s : State) (ix : Nat) (r : PathReq), Ready (.lap ix r) s → (s.sess ix).state = .active → s.pathOf r = none →
    Gives (.lap ix r) s (Still (s.emit (.cm (s.sess ix).path.port (.apr ix))))) ∧
  (∀ (s : State) (ix : Nat), Ready (.rej ix) s → (s.sess ix).state = .admitting → (s.sess ix).reqs = [] →
      (s.sess ix).cq.waiting = [] → (s.sess ix).createdLineage = true →
    Gives (.rej ix) s fun t =>
      t.sess ix = freeSession ∧ (∀ j, j ≠ ix → calmSession (t.sess j) = calmSession (s.sess j)) ∧
      aget t.eqt.lineages (s.sess ix).lineage = none ∧ (∀ k, k ≠ (s.sess ix).lineage → aget t.eqt.lineages k = aget s.eqt.lineages k) ∧
      t.eqt.cmds = s.eqt.cmds ∧ Only [.eqt] s t) ∧
  (∀ (s : State) (ix : Nat), Ready (.rej ix) s → (s.sess ix).state ≠ .admitting →
    Gives (.rej ix) s (Still s)) ∧
  (∀ (s : State) (ix : Nat), Ready (.admitTimeout ix) s → (s.sess ix).state = .admitting → (s.sess ix).reqs = [] →
      (s.sess ix).cq.waiting = [] → (s.sess ix).createdLineage = true →
    Gives (.admitTimeout ix) s fun t =>
      t.sess ix = freeSession ∧ (∀ j, j ≠ ix → calmSession (t.sess j) = calmSession (s.sess j)) ∧
      aget t.eqt.lineages (s.sess ix).lineage = none ∧ (∀ k, k ≠ (s.sess ix).lineage → aget t.eqt.lineages k = aget s.eqt.lineages k) ∧
      t.eqt.cmds = s.eqt.cmds ∧ t.now = max s.now (s.sess ix).admitDeadline ∧ Only [.clock, .tim, .eqt] s t) ∧
  (∀ (s : State) (ix : Nat), Ready (.admitTimeout ix) s → (s.sess ix).state ≠ .admitting →
    Gives (.admitTimeout ix) s (Still s)) ∧
  (∀ (s : State) (l : Nat) (x : Lineage), Ready (.lineageRelease l) s → aget s.eqt.lineages l = some x → x.bound = none →
    Gives (.lineageRelease l) s (Still { s.advanceTo x.holdUntil with eqt := { s.eqt with lineages := adel s.eqt.lineages l } })) ∧
  (∀ (s : State) (l : Nat) (x : Lineage), Ready (.lineageRelease l) s → aget s.eqt.lineages l = some x → x.bound.isSome = true →
    Gives (.lineageRelease l) s (Still s))

/-- Answers of the host, fetches, grants and rates. An ACK completes the requests before its PSN, a sequence NAK resends, another NAK ends
the session; a request out of retries leaves for the alternate path, or the session ends; a fetch takes entries up to its limits and
never across the end of the ring, and each entry that arrives gets a tag and a pair; a grant goes out for the next piece into free
window space; one not used in time ends its command and quarantines its range; a CNP halves the rate at most once in 50 us, and 55 us
without one raise it by a sixteenth of the port rate. Commands that it shows to complete, so that exec answers a next state with their
own effect: rdmaReadResponse, roceAckReceive, rnrNakReceive, requestRetryTimeout, cnpReceive, rateIncrease, fetchIssue, grantIssue,
pushTimeout, quarantineEnd. It rests on parts of R287, R290, R292, R304, R326, R327, R328, R333, R337, R339, R341, R342. The model's
choices it rests on: log entries 3, 66, 67, 68, 125. -/
def Obligations.RequestsAndGrants : Prop :=
  (∀ (s : State) (ix slot n : Nat) (bytes : List Byte) (bad : Nat) (r : DevReq) (rest : List DevReq),
      Ready (.rdmaReadResponse ix bytes bad) s → (s.sess ix).state = .active → (s.sess ix).reqs = r :: rest → r.kind = .fetch slot n →
      (s.sess ix).stopFetch = true → s.readerOf ix = none →
    Gives (.rdmaReadResponse ix bytes bad) s fun t =>
      calmSession (t.sess ix) = calmSession (s.sess ix) ∧ (∀ j, j ≠ ix → calmSession (t.sess j) = calmSession (s.sess j)) ∧
      t.eqt.cmds = s.eqt.cmds ∧ t.eqt.lineages = s.eqt.lineages ∧ Only [.eqt] s t) ∧
  (∀ (s : State) (ix slot : Nat) (bytes : List Byte) (bad : Nat) (r : DevReq) (rest : List DevReq),
      Ready (.rdmaReadResponse ix bytes bad) s → (s.sess ix).state = .active → (s.sess ix).reqs = r :: rest → r.kind = .fetch slot 1 →
      (s.sess ix).stopFetch = false → s.cmdsOf ix = [] →
    Gives (.rdmaReadResponse ix bytes bad) s fun t =>
      aget t.eqt.cmds (freeKey s.eqt.cmds 0) =
        some (newCmd ix (s.sess ix).lineage slot (BitVec.ofNat 512 (leAt bytes 0 64)) s.pair) ∧
      (∀ k, k ≠ freeKey s.eqt.cmds 0 → aget t.eqt.cmds k = aget s.eqt.cmds k) ∧ t.eqt.lineages = s.eqt.lineages ∧
      (∀ j, calmSession (t.sess j) = calmSession (s.sess j)) ∧ Only [.eqt] s t) ∧
  (∀ (s : State) (ix : Nat) (bytes : List Byte) (bad : Nat), Ready (.rdmaReadResponse ix bytes bad) s →
      ¬((s.sess ix).state = .active ∨ (s.sess ix).state = .closing) ∨ (s.sess ix).reqs.any (fun r => isRead r.kind) = false →
    Gives (.rdmaReadResponse ix bytes bad) s (Still s)) ∧
  (∀ (s : State) (ix : Nat) (psn : BitVec 24), Ready (.roceAckReceive ix .ack psn) s → LevelsRaised s → (s.sess ix).state = .active →
    Gives (.roceAckReceive ix .ack psn) s fun t =>
      (t.sess ix).reqs = ackedBy psn (s.sess ix).reqs ∧ calmSession (t.sess ix) = calmSession (s.sess ix) ∧ (∀ i, i ≠ ix → t.sess i = s.sess i) ∧ t.eqt.cmds = s.eqt.cmds ∧ t.eqt.lineages = s.eqt.lineages ∧ Only [] s t) ∧
  (∀ (s : State) (ix : Nat) (psn : BitVec 24), Ready (.roceAckReceive ix .nakSeq psn) s →
      (s.sess ix).state = .active ∨ (s.sess ix).state = .closing →
    Gives (.roceAckReceive ix .nakSeq psn) s fun t =>
      Sent ix (.resend psn true) s t ∧ (∀ j, calmSession (t.sess j) = calmSession (s.sess j)) ∧ t.eqt.cmds = s.eqt.cmds ∧ t.eqt.lineages = s.eqt.lineages ∧ Only [] s t) ∧
  (∀ (s : State) (ix : Nat) (k : AckKind) (psn : BitVec 24) (l : Lineage), Ready (.roceAckReceive ix k psn) s →
      k = .nakAccess ∨ k = .nakOperational ∨ k = .nakInvalid → (s.sess ix).state = .active ∨ (s.sess ix).state = .closing →
      s.cmdsOf ix = [] → s.heldSource ix = none → (s.sess ix).reqs = [] → (s.sess ix).cq.waiting = [] →
      (s.sess ix).releaseLineage = false → aget s.eqt.lineages (s.sess ix).lineage = some l → l.bound = some ix →
    Gives (.roceAckReceive ix k psn) s fun t =>
      t.sess ix = freeSession ∧ (∀ j, j ≠ ix → calmSession (t.sess j) = calmSession (s.sess j)) ∧
      aget t.eqt.lineages (s.sess ix).lineage = some { l with
        bound := none, holdUntil := s.now + 1000000000 * fld (s.rv .eqtSessCfg) 31 16 } ∧
      (∀ k, k ≠ (s.sess ix).lineage → aget t.eqt.lineages k = aget s.eqt.lineages k) ∧ t.eqt.cmds = s.eqt.cmds ∧ Only [.eqt] s t) ∧
  (∀ (s : State) (ix : Nat) (k : AckKind) (psn : BitVec 24), Ready (.roceAckReceive ix k psn) s → (s.sess ix).state ≠ .active →
      (s.sess ix).state ≠ .closing →
    Gives (.roceAckReceive ix k psn) s (Still s)) ∧
  (∀ (s : State) (ix : Nat) (r : DevReq) (rest : List DevReq), Ready (.rnrNakReceive ix) s → LevelsRaised s →
      (s.sess ix).state = .active ∨ (s.sess ix).state = .closing → (s.sess ix).reqs = r :: rest →
      (s.sess ix).rnrRetry = 7 ∨ r.rnrTries < (s.sess ix).rnrRetry →
    Gives (.rnrNakReceive ix) s fun t =>
      ((t.sess ix).reqs.head?.map DevReq.rnrTries) = some (r.rnrTries + 1) ∧ (t.sess ix).reqs.length = (s.sess ix).reqs.length ∧
      Sent ix (.resend r.psn true) s t ∧ calmSession (t.sess ix) = calmSession (s.sess ix) ∧ (∀ i, i ≠ ix → t.sess i = s.sess i) ∧ t.eqt.cmds = s.eqt.cmds ∧ t.eqt.lineages = s.eqt.lineages ∧ Only [] s t) ∧
  (∀ (s : State) (ix : Nat) (r : DevReq) (rest : List DevReq), Ready (.requestRetryTimeout ix) s →
      (s.sess ix).state = .active ∨ (s.sess ix).state = .closing → (s.sess ix).reqs = r :: rest → r.tries < (s.sess ix).retry →
    Gives (.requestRetryTimeout ix) s fun t =>
      Sent ix (.resend r.psn true) s t ∧ t.now = max s.now r.deadline ∧ (∀ j, calmSession (t.sess j) = calmSession (s.sess j)) ∧
      t.eqt.cmds = s.eqt.cmds ∧ t.eqt.lineages = s.eqt.lineages ∧ Only [.clock, .tim] s t) ∧
  (∀ (s : State) (ix : Nat) (r : DevReq) (rest : List DevReq) (q : Path), Ready (.requestRetryTimeout ix) s →
      (s.sess ix).state = .active ∨ (s.sess ix).state = .closing → (s.sess ix).reqs = r :: rest → (s.sess ix).retry ≤ r.tries →
      (s.sess ix).alt = some q → (s.port q.port).link = true →
    Gives (.requestRetryTimeout ix) s fun t =>
      (t.sess ix).path = q ∧ (t.sess ix).alt = none ∧ (t.sess ix).state = (s.sess ix).state ∧ t.now = max s.now r.deadline ∧
      (∀ j, j ≠ ix → calmSession (t.sess j) = calmSession (s.sess j)) ∧ t.eqt.cmds = s.eqt.cmds ∧ t.eqt.lineages = s.eqt.lineages ∧ Only [.clock, .tim, .eqt] s t) ∧
  (∀ (s : State) (ix : Nat), Ready (.cnpReceive ix) s → (s.sess ix).state = .active ∨ (s.sess ix).state = .closing →
    Gives (.cnpReceive ix) s (Still
      (s.setSess ix (if ((s.sess ix).cnpTaken.map fun u => decide (s.now < u + 50000)).getD false then { (s.sess ix) with
        rateStep := s.now } else { (s.sess ix) with rate := (s.sess ix).rate / 2, cnpTaken := some s.now, rateStep := s.now })))) ∧
  (∀ (s : State) (ix : Nat), Ready (.rateIncrease ix) s → (s.sess ix).state = .active ∨ (s.sess ix).state = .closing →
    Gives (.rateIncrease ix) s fun t =>
      (t.sess ix).rate = min (s.portRate (s.sess ix).path.port) ((s.sess ix).rate + s.portRate (s.sess ix).path.port / 16) ∧ t.now = max s.now ((s.sess ix).rateStep + 55000) ∧
      (t.sess ix).rateStep = t.now ∧ (∀ j, j ≠ ix → calmSession (t.sess j) = calmSession (s.sess j)) ∧ t.eqt.cmds = s.eqt.cmds ∧ t.eqt.lineages = s.eqt.lineages ∧
      Only [.clock, .tim, .eqt] s t) ∧
  (∀ (s : State), Ready .fetchIssue s → s.fetchChoice = none →
    Gives .fetchIssue s (Still s)) ∧
  (∀ (s : State) (i : Nat), Ready .fetchIssue s → s.fetchChoice = some i →
    Gives .fetchIssue s fun t =>
      (let x := s.sess i
      ∃ n, n ≤ entriesWaiting x ∧ n ≤ fld (s.rv .eqtFetchCfg) 6 0 ∧ x.fetchPos + n ≤ max x.fetchPos (2 ^ x.sqLog) ∧ n ≤ s.tagsFree ∧
        (t.sess i).fetchPos = (x.fetchPos + n) % 2 ^ x.sqLog ∧
        Sent i (.readReq x.spsn (x.sqAddr + BitVec.ofNat 64 (64 * x.fetchPos)) x.sqRkey (64 * n)) s t ∧
        t.eqt.rrNext = i + 1 ∧ (∀ j, j ≠ i → calmSession (t.sess j) = calmSession (s.sess j)) ∧ t.eqt.cmds = s.eqt.cmds ∧
        Only [.eqt] s t)) ∧
  (∀ (s : State) (k o : Nat) (c : Cmd) (r : Resv), Ready (.grantIssue k) s → s.cmd? k = some c → eOp c.entry = 2 →
      ePush c.entry = true → c.phase = .waiting → c.walked = true → c.resv = some r → r.granted = true → c.issued < dataLen c →
      (s.sess c.sess).grants.any (fun g => g.tag == k) = false → (s.sess c.sess).state = .active ∨ (s.sess c.sess).state = .closing →
      ((windowSpot (s.sess c.sess) (s.sess c.sess).grantEnd (min (s.pieceMax c) (dataLen c - c.issued))).or (windowSpot (s.sess c.sess) 0 (min (s.pieceMax c) (dataLen c - c.issued)))) = some o →
    Gives (.grantIssue k) s fun t =>
      (let len := min (s.pieceMax c) (dataLen c - c.issued)
      ((t.sess c.sess).grants.map fun g => (g.tag, g.entry.dataOfs, g.entry.len, g.entry.winOfs, g.entry.grantNo)) =
        ((s.sess c.sess).grants.map fun g => (g.tag, g.entry.dataOfs, g.entry.len, g.entry.winOfs, g.entry.grantNo)) ++
          [(k, c.issued, len, o, c.grantNo)] ∧
      (t.sess c.sess).grantEnd = o + len ∧ ((t.cmd? k).map Cmd.grantNo) = some (c.grantNo + 1) ∧
      (∀ j, j ≠ k → t.cmd? j = s.cmd? j) ∧ (∀ j, j ≠ c.sess → calmSession (t.sess j) = calmSession (s.sess j)) ∧ Only [.eqt] s t)) ∧
  (∀ (s : State) (k : Nat), Ready (.grantIssue k) s → s.cmd? k = none →
    Gives (.grantIssue k) s (Still s)) ∧
  (∀ (s : State) (k : Nat) (c : Cmd) (g : Grant), Ready (.pushTimeout k) s → s.cmd? k = some c → c.phase = .waiting →
      c.accept = none → (s.sess c.sess).grants = [g] → g.tag = k → g.notified = true →
    Gives (.pushTimeout k) s fun t =>
      t.now = max s.now g.deadline ∧ ((t.cmd? k).map Cmd.phase) = some .done ∧
      ((t.cmd? k).map Cmd.status) = some (if g.entry.regrant then 0x0214 else 0x0213) ∧
      t.eqt.pushBad = satInc s.eqt.pushBad 255 ∧ (t.sess c.sess).grants = [] ∧
      (t.sess c.sess).quarantine = (s.sess c.sess).quarantine ++
        [{ ofs := g.entry.winOfs, len := g.entry.len, until_ := t.now + g.tmo }] ∧
      (∀ j, j ≠ k → t.cmd? j = s.cmd? j) ∧ Only [.clock, .tim, .eqt, .plc, .orb, .seq] s t) ∧
  (∀ (s : State) (ix : Nat) (q : Quarantine) (rest : List Quarantine), Ready (.quarantineEnd ix) s →
      (s.sess ix).quarantine = q :: rest →
    Gives (.quarantineEnd ix) s (Still ((s.advanceTo q.until_).setSess ix { (s.sess ix) with quarantine := rest }))) ∧
  (∀ (s : State) (ix : Nat), Ready (.quarantineEnd ix) s → (s.sess ix).quarantine = [] →
    Gives (.quarantineEnd ix) s (Still s))

/-- What becomes of an entry when it is handed to processing. Entries are handed on in fetch order; an entry whose CMD_ID is in flight
ends with CMD_ID_IN_USE, one whose CMD_ID is recorded is answered from the record; otherwise the first check that it fails gives its
status: reserved encodings, restriction, namespace existence, namespace type, range; nothing else is changed by it. It rests on parts
of R326, R346, R347, R348, R349, R373, R374, R375, R376. The model's choices it rests on: log entries 67. -/
def Obligations.CommandsHandedOn : Prop :=
  (∀ (s : State) (k : Nat) (c : Cmd), Ready (rowOf c.entry k) s → s.cmd? k = some c → c.phase = .handed → s.oldestHanded k c = false →
    Gives (rowOf c.entry k) s (Still s)) ∧
  (∀ (s : State) (k : Nat) (c : Cmd), Ready (rowOf c.entry k) s → s.cmd? k = some c → c.phase = .handed → s.oldestHanded k c = true →
      s.idInUse k c = true →
    Gives (rowOf c.entry k) s fun t =>
      Ends k c 0x0003 0 (c.accept.getD s.pair) s t ∧ (t.cmd? k).map Cmd.noRecord = some true ∧ Only [.eqt, .plc, .orb, .seq] s t) ∧
  (∀ (s : State) (k : Nat) (c : Cmd) (r : CompRecord), Ready (rowOf c.entry k) s → s.cmd? k = some c → c.phase = .handed →
      s.oldestHanded k c = true → s.idInUse k c = false → s.recordOf c.lineage (eCmdId c.entry) = some r →
      isRepostable r.opcode = false →
    Gives (rowOf c.entry k) s fun t =>
      Ends k c r.comp.status r.comp.result r.comp.pair s t ∧
      (t.cmd? k).map (fun d => (d.noRecord, d.replay)) = some (true, true) ∧ Only [.eqt, .plc, .orb, .seq] s t) ∧
  (∀ (s : State) (k : Nat) (c : Cmd), Ready (rowOf c.entry k) s → s.cmd? k = some c → c.phase = .handed → s.oldestHanded k c = true →
      s.idInUse k c = false → s.recordOf c.lineage (eCmdId c.entry) = none →
      badHeader c.entry (s.sess c.sess).lwSize = true ∨ badFields c.entry = true →
    Gives (rowOf c.entry k) s fun t => Ends k c 0x0002 0 (c.accept.getD s.pair) s t ∧ Only [.eqt, .plc, .orb, .seq] s t) ∧
  (∀ (s : State) (k : Nat) (c : Cmd), Ready (rowOf c.entry k) s → s.cmd? k = some c → c.phase = .handed → s.oldestHanded k c = true →
      s.idInUse k c = false → s.recordOf c.lineage (eCmdId c.entry) = none → badHeader c.entry (s.sess c.sess).lwSize = false →
      badFields c.entry = false → isRestricted c.entry = true →
      (s.rv64 .eqtAdminMaskLo .eqtAdminMaskHi).testBit (s.sess c.sess).group = false →
    Gives (rowOf c.entry k) s fun t => Ends k c 0x0300 0 (c.accept.getD s.pair) s t ∧ Only [.eqt, .plc, .orb, .seq] s t) ∧
  (∀ (s : State) (k n : Nat) (c : Cmd), Ready (rowOf c.entry k) s → s.cmd? k = some c → c.phase = .handed →
      s.oldestHanded k c = true → s.idInUse k c = false → s.recordOf c.lineage (eCmdId c.entry) = none →
      badHeader c.entry (s.sess c.sess).lwSize = false → badFields c.entry = false →
      isRestricted c.entry = false ∨ (s.rv64 .eqtAdminMaskLo .eqtAdminMaskHi).testBit (s.sess c.sess).group = true →
      n ∈ needsNs c.entry → s.nsExists n = false →
    Gives (rowOf c.entry k) s fun t => Ends k c 0x0004 0 (c.accept.getD s.pair) s t ∧ Only [.eqt, .plc, .orb, .seq] s t) ∧
  (∀ (s : State) (k : Nat) (c : Cmd), Ready (rowOf c.entry k) s → s.cmd? k = some c → c.phase = .handed → s.oldestHanded k c = true →
      s.idInUse k c = false → s.recordOf c.lineage (eCmdId c.entry) = none → badHeader c.entry (s.sess c.sess).lwSize = false →
      badFields c.entry = false →
      isRestricted c.entry = false ∨ (s.rv64 .eqtAdminMaskLo .eqtAdminMaskHi).testBit (s.sess c.sess).group = true →
      ∀ n, n ∈ needsNs c.entry → s.nsExists n = true → s.badType c.entry = true →
    Gives (rowOf c.entry k) s fun t => Ends k c 0x0005 0 (c.accept.getD s.pair) s t ∧ Only [.eqt, .plc, .orb, .seq] s t) ∧
  (∀ (s : State) (k : Nat) (c : Cmd), Ready (rowOf c.entry k) s → s.cmd? k = some c → c.phase = .handed → s.oldestHanded k c = true →
      s.idInUse k c = false → s.recordOf c.lineage (eCmdId c.entry) = none → badHeader c.entry (s.sess c.sess).lwSize = false →
      badFields c.entry = false →
      isRestricted c.entry = false ∨ (s.rv64 .eqtAdminMaskLo .eqtAdminMaskHi).testBit (s.sess c.sess).group = true →
      ∀ n, n ∈ needsNs c.entry → s.nsExists n = true → s.badType c.entry = false → s.badRange c.entry = true →
    Gives (rowOf c.entry k) s fun t => Ends k c 0x0006 0 (c.accept.getD s.pair) s t ∧ Only [.eqt, .plc, .orb, .seq] s t) ∧
  (∀ (s : State) (k : Nat), Ready (.read k) s → s.cmd? k = none →
    Gives (.read k) s (Still s)) ∧
  (∀ (s : State) (k : Nat) (c : Cmd), Ready (.flush k) s → s.cmd? k = some c → c.phase ≠ .handed → eOp c.entry ≠ 4 →
    Gives (.flush k) s (Still s))

/-- READ, GATHER and VERIFY: the walk, acceptance and delivery. An entry whose protection segment or walk breaks a rule ends with the
status of that rule; a READ-class command that may be accepted binds each block of its ranges to its newest accepted effect and queues
the media reads that it needs; once every block is obtained it delivers its data and completes, and a lost block ends it with
MEDIA_UNRECOVERED and its address. Commands that it shows to complete, so that exec answers a next state with their own effect: read,
write, gather, verify, readDataDelivered. It rests on parts of R329, R330, R332, R343, R350, R351, R354, R359, R360, R364, R368, R429.
The model's choices it rests on: log entries 75, 76, 77, 86, 176. -/
def Obligations.ReadsAndWalks : Prop :=
  (∀ (s : State) (k : Nat) (c : Cmd) (st : BitVec 16), Ready (.read k) s → s.cmd? k = some c → c.phase = .handed →
      s.oldestHanded k c = true → s.idInUse k c = false → s.recordOf c.lineage (eCmdId c.entry) = none →
      s.checkEntry c.sess c.entry = none → eOp c.entry = 1 → protStatus c = some st →
    Gives (.read k) s fun t => Ends k c st 0 (c.accept.getD s.pair) s t ∧ Only [.eqt, .plc, .orb, .seq] s t) ∧
  (∀ (s : State) (k : Nat) (c : Cmd) (st : BitVec 16), Ready (.read k) s → s.cmd? k = some c → c.phase = .handed →
      s.oldestHanded k c = true → s.idInUse k c = false → s.recordOf c.lineage (eCmdId c.entry) = none →
      s.checkEntry c.sess c.entry = none → eOp c.entry = 1 → protStatus c = none → ePush c.entry = false →
      walkList [] 0 [eDptr c.entry] = .bad st →
    Gives (.read k) s fun t =>
      (t.cmd? k).map (fun d => (d.phase, d.status, d.result)) = some (.done, st, 0) ∧ (∀ j, j ≠ k → t.cmd? j = s.cmd? j) ∧
      Only [.eqt, .plc, .orb, .seq] s t) ∧
  (∀ (s : State) (k : Nat) (c : Cmd) (st : BitVec 16), Ready (.write k) s → s.cmd? k = some c → c.phase = .handed →
      s.oldestHanded k c = true → s.idInUse k c = false → s.recordOf c.lineage (eCmdId c.entry) = none →
      s.checkEntry c.sess c.entry = none → eOp c.entry = 2 → protStatus c = some st →
    Gives (.write k) s fun t => Ends k c st 0 (c.accept.getD s.pair) s t ∧ Only [.eqt, .plc, .orb, .seq] s t) ∧
  (∀ (s : State) (k : Nat) (c : Cmd) (st : BitVec 16), Ready (.write k) s → s.cmd? k = some c → c.phase = .handed →
      s.oldestHanded k c = true → s.idInUse k c = false → s.recordOf c.lineage (eCmdId c.entry) = none →
      s.checkEntry c.sess c.entry = none → eOp c.entry = 2 → protStatus c = none → ePush c.entry = false →
      walkList [] 0 [eDptr c.entry] = .bad st →
    Gives (.write k) s fun t =>
      (t.cmd? k).map (fun d => (d.phase, d.status, d.result)) = some (.done, st, 0) ∧ (∀ j, j ≠ k → t.cmd? j = s.cmd? j) ∧
      Only [.eqt, .plc, .orb, .seq] s t) ∧
  (∀ (s : State) (k : Nat) (c : Cmd), Ready (.gather k) s → s.cmd? k = some c → c.phase = .handed → s.oldestHanded k c = true →
      s.idInUse k c = false → s.recordOf c.lineage (eCmdId c.entry) = none → s.checkEntry c.sess c.entry = none → eOp c.entry = 6 →
      dataSegOk (c.entry.extractLsb' 128 128) = true → sgLen (c.entry.extractLsb' 128 128) ≠ 16 * ef c.entry 32 9 →
    Gives (.gather k) s fun t => Ends k c 0x0211 0 (c.accept.getD s.pair) s t ∧ Only [.eqt, .plc, .orb, .seq] s t) ∧
  (∀ (s : State) (k : Nat) (c : Cmd), Ready (.read k) s → s.cmd? k = some c → c.phase = .waiting → eOp c.entry = 1 →
      s.mayAccept k c false = true → c.listRead = false → s.pagesHere (s.rangesOf c) = true →
    Gives (.read k) s fun t =>
      Stands k { c with phase := .accepted, accept := some s.pair, bound := s.bindRanges (s.rangesOf c) } s t ∧ OnlyCommands s t ∧
      Accepted s t ∧ t.orb = (s.queueReads k (s.sess c.sess).qos s.pair (s.bindRanges (s.rangesOf c))).orb ∧ Only [.free, .eqt, .sec, .orb, .hbm, .cch] s t) ∧
  (∀ (s : State) (k : Nat) (c : Cmd), Ready (.read k) s → s.cmd? k = some c → c.phase = .waiting → eOp c.entry = 1 →
      s.mayAccept k c false = false ∨ s.pagesHere (s.rangesOf c) = false →
    Gives (.read k) s (Still s)) ∧
  (∀ (s : State) (k : Nat) (c : Cmd), Ready (.gather k) s → s.cmd? k = some c → c.phase = .waiting → eOp c.entry = 6 →
      s.mayAccept k c false = true → c.listRead = false → s.pagesHere (s.rangesOf c) = true →
    Gives (.gather k) s fun t =>
      Stands k { c with phase := .accepted, accept := some s.pair, bound := s.bindRanges (s.rangesOf c) } s t ∧ OnlyCommands s t ∧
      Accepted s t ∧ t.orb = (s.queueReads k (s.sess c.sess).qos s.pair (s.bindRanges (s.rangesOf c))).orb ∧ Only [.free, .eqt, .sec, .orb, .hbm, .cch] s t) ∧
  (∀ (s : State) (k : Nat) (c : Cmd), Ready (.gather k) s → s.cmd? k = some c → c.phase = .waiting → eOp c.entry = 6 →
      s.mayAccept k c false = false ∨ s.pagesHere (s.rangesOf c) = false →
    Gives (.gather k) s (Still s)) ∧
  (∀ (s : State) (k : Nat) (c : Cmd), Ready (.verify k) s → s.cmd? k = some c → c.phase = .waiting → eOp c.entry = 7 →
      s.mayAccept k c false = true → c.listRead = false → s.pagesHere (s.rangesOf c) = true →
    Gives (.verify k) s fun t =>
      Stands k { c with phase := .accepted, accept := some s.pair, bound := s.bindRanges (s.rangesOf c) } s t ∧ OnlyCommands s t ∧
      Accepted s t ∧ t.orb = (s.queueReads k (s.sess c.sess).qos s.pair (s.bindRanges (s.rangesOf c))).orb ∧ Only [.free, .eqt, .sec, .orb, .hbm, .cch] s t) ∧
  (∀ (s : State) (k : Nat) (c : Cmd), Ready (.verify k) s → s.cmd? k = some c → c.phase = .waiting → eOp c.entry = 7 →
      s.mayAccept k c false = false ∨ s.pagesHere (s.rangesOf c) = false →
    Gives (.verify k) s (Still s)) ∧
  (∀ (s : State) (k : Nat) (c : Cmd) (b : Bound), Ready (.readDataDelivered k) s → s.cmd? k = some c → c.phase = .accepted →
      c.walked = true → eOp c.entry = 7 ∨ blockData (eOp c.entry) = true → ∀ x, x ∈ c.bound → x.got = true ∨ x.lost = true →
      c.bound.find? (fun x => x.lost) = some b →
    Gives (.readDataDelivered k) s fun t =>
      Ends k c 0x0100 (BitVec.ofNat 48 b.lba) (c.accept.getD s.pair) s t ∧ Only [.eqt, .plc, .orb, .seq] s t) ∧
  (∀ (s : State) (k : Nat) (c : Cmd), Ready (.readDataDelivered k) s → s.cmd? k = some c → c.phase = .accepted → c.walked = true →
      eOp c.entry = 7 → ∀ x, x ∈ c.bound → x.got = true ∧ x.lost = false →
    Gives (.readDataDelivered k) s fun t => Ends k c 0 0 (c.accept.getD s.pair) s t ∧ Only [.eqt, .plc, .orb, .seq] s t) ∧
  (∀ (s : State) (k : Nat) (c : Cmd) (g : Seg), Ready (.readDataDelivered k) s → s.cmd? k = some c → c.phase = .accepted →
      c.walked = true → eOp c.entry = 1 → ∀ x, x ∈ c.bound → x.got = true ∧ x.lost = false → c.bound ≠ [] →
      s.reachable c.sess = true → c.segs = [g] → (deliveredBytes c).1.length ≤ g.len → g.len ≤ 65536 →
      0 < (deliveredBytes c).1.length → c.prot = none →
    Gives (.readDataDelivered k) s fun t =>
      Sent c.sess (.dataWrite k g.addr g.rkey (deliveredBytes c).1) s t ∧ Ends k c 0 0 (c.accept.getD s.pair) s t ∧
      Only [.eqt, .plc, .orb, .seq] s t) ∧
  (∀ (s : State) (k : Nat) (c : Cmd), Ready (.readDataDelivered k) s → s.cmd? k = some c → c.phase = .accepted → c.walked = true →
      eOp c.entry = 7 ∨ blockData (eOp c.entry) = true → ∃ x, x ∈ c.bound ∧ x.got = false ∧ x.lost = false →
    Gives (.readDataDelivered k) s (Still s)) ∧
  (∀ (s : State) (k : Nat) (c : Cmd), Ready (.readDataDelivered k) s → s.cmd? k = some c → c.phase ≠ .accepted ∨ c.walked = false →
    Gives (.readDataDelivered k) s (Still s))

/-- WRITE, COPY, DEALLOCATE and FLUSH. A WRITE takes its landing reservation; a COPY reads its source; WRITE_ACCEPT lands the blocks in
two stacks as the newest effect of each and ends with ACCEPTED, holds while the dirty total is over D_max, refuses a zone that cannot
take them, and ends a COPY of a lost block; DEALLOCATE lets the range read as unwritten and journals it; FLUSH is accepted and
completes once what it covers is on media. Commands that it shows to complete, so that exec answers a next state with their own
effect: writeAccept, write, deallocate, flush, copy, flushDone. It rests on parts of R39, R54, R55, R56, R60, R352, R353, R355, R357,
R358, R363, R364. The model's choices it rests on: log entries 48, 66, 155. -/
def Obligations.WritesAndFlushes : Prop :=
  (∀ (s : State) (k a b : Nat) (c : Cmd) (segs : List Seg), Ready (.write k) s → s.cmd? k = some c → c.phase = .handed →
      s.oldestHanded k c = true → s.idInUse k c = false → s.recordOf c.lineage (eCmdId c.entry) = none →
      s.checkEntry c.sess c.entry = none → eOp c.entry = 2 → ePi c.entry = 0 → walkList [] 0 [eDptr c.entry] = .done segs →
      (segs.map Seg.len).sum = dataLen c → c.chain = none → s.cmdsOf c.sess = [(k, c)] → s.plc.resvQueue = [] →
      s.earlierFetched c.fetch = false → s.mayRead c.sess = false →
      s.resvPair (eNblk c.entry) ((s.ns (eNsid c.entry)).kind == .placed) = some (a, b) →
    Gives (.write k) s fun t =>
      Stands k { c with phase := .waiting, segs := segs, walked := true,
                        resv := some { blocks := eNblk c.entry, granted := true, stackA := a, stackB := b } } s t ∧
      t.plc = s.plc ∧ OnlyCommands s t ∧ Only [.eqt] s t) ∧
  (∀ (s : State) (k : Nat) (c : Cmd) (segs : List Seg), Ready (.write k) s → s.cmd? k = some c → c.phase = .handed →
      s.oldestHanded k c = true → s.idInUse k c = false → s.recordOf c.lineage (eCmdId c.entry) = none →
      s.checkEntry c.sess c.entry = none → eOp c.entry = 2 → ePi c.entry = 0 → walkList [] 0 [eDptr c.entry] = .done segs →
      (segs.map Seg.len).sum = dataLen c → c.chain = none → s.cmdsOf c.sess = [(k, c)] → s.plc.resvQueue = [] →
      s.mayRead c.sess = false →
      s.earlierFetched c.fetch = true ∨ s.resvPair (eNblk c.entry) ((s.ns (eNsid c.entry)).kind == .placed) = none →
    Gives (.write k) s fun t =>
      Stands k { c with phase := .waiting, segs := segs, walked := true,
                        resv := some { blocks := eNblk c.entry, granted := false, stackA := 0, stackB := 0 } } s t ∧
      t.plc = { s.plc with resvQueue := [k] } ∧ OnlyCommands s t ∧ Only [.eqt, .plc] s t) ∧
  (∀ (s : State) (k : Nat) (c : Cmd), Ready (.write k) s → s.cmd? k = some c → inWork c = true → eOp c.entry = 2 →
    Gives (.write k) s (Still s)) ∧
  (∀ (s : State) (k : Nat) (c : Cmd), Ready (.copy k) s → s.cmd? k = some c → c.phase = .waiting → eOp c.entry = 5 →
      c.copyStarted = false → s.orderAllows k c = true → s.heldByCopy k c = false → s.pagesHere [copySource c.entry] = true →
    Gives (.copy k) s fun t =>
      Stands k { c with copyStarted := true, bound := s.bindRanges [copySource c.entry] } s t ∧ OnlyCommands s t ∧
      t.orb = (s.queueReads k (s.sess c.sess).qos c.fetch (s.bindRanges [copySource c.entry])).orb ∧ Only [.free, .eqt, .orb, .hbm, .cch] s t) ∧
  (∀ (s : State) (k : Nat) (c : Cmd), Ready (.copy k) s → s.cmd? k = some c → c.phase = .waiting → eOp c.entry = 5 →
      c.copyStarted = true ∨ s.orderAllows k c = false ∨ s.heldByCopy k c = true ∨ s.pagesHere [copySource c.entry] = false →
    Gives (.copy k) s (Still s)) ∧
  (∀ (s : State) (k : Nat) (c : Cmd) (r : Resv), Ready (.writeAccept k) s → s.cmd? k = some c → c.resv = some r → r.granted = true →
      c.recopy = 0 →
      eOp c.entry = 2 ∧ c.present = true ∨ eOp c.entry = 5 ∧ c.copyStarted = true ∧ ∀ b ∈ c.bound, b.got = true ∨ b.lost = true →
      ∀ b ∈ c.bound, b.lost = false → s.mayAccept k c true = true → s.dirty ≤ s.pwr.dmax → (s.ns (eNsid c.entry)).kind ≠ .zoned →
    Gives (.writeAccept k) s fun t =>
      Ends k c 0x0001 0 s.pair { s with
        plc := (s.landRun (eNsid c.entry) (targetLba c) (if eOp c.entry = 5 then c.bound.map Bound.val else writtenBlocks c s.pair.time)
          s.pair r.stackA r.stackB).plc } t ∧
      Accepted s t ∧ Only [.eqt, .sec, .plc, .orb, .seq, .chn] s t) ∧
  (∀ (s : State) (k : Nat) (c : Cmd) (r : Resv), Ready (.writeAccept k) s → s.cmd? k = some c → c.resv = some r → r.granted = true →
      c.recopy = 0 →
      eOp c.entry = 2 ∧ c.present = true ∨ eOp c.entry = 5 ∧ c.copyStarted = true ∧ ∀ b ∈ c.bound, b.got = true ∨ b.lost = true →
      ∀ b ∈ c.bound, b.lost = false → s.mayAccept k c true = true → s.dirty ≤ s.pwr.dmax → (s.ns (eNsid c.entry)).kind = .zoned →
      s.zoneWriteStatus (eNsid c.entry) (targetLba c) (eNblk c.entry) = none →
    Gives (.writeAccept k) s fun t =>
      Ends k c 0x0001 0 s.pair { s with
        plc := ((s.zoneWrote (eNsid c.entry) (targetLba c) (eNblk c.entry)).landRun (eNsid c.entry) (targetLba c)
          (if eOp c.entry = 5 then c.bound.map Bound.val else writtenBlocks c s.pair.time) s.pair r.stackA r.stackB).plc } t ∧
      Accepted s t ∧ Only [.eqt, .sec, .plc, .orb, .seq, .chn] s t) ∧
  (∀ (s : State) (k : Nat) (c : Cmd) (r : Resv) (st : BitVec 16), Ready (.writeAccept k) s → s.cmd? k = some c → c.resv = some r →
      r.granted = true → c.recopy = 0 →
      eOp c.entry = 2 ∧ c.present = true ∨ eOp c.entry = 5 ∧ c.copyStarted = true ∧ ∀ b ∈ c.bound, b.got = true ∨ b.lost = true →
      ∀ b ∈ c.bound, b.lost = false → s.mayAccept k c true = true → s.dirty ≤ s.pwr.dmax → (s.ns (eNsid c.entry)).kind = .zoned →
      s.zoneWriteStatus (eNsid c.entry) (targetLba c) (eNblk c.entry) = some st →
    Gives (.writeAccept k) s fun t => Ends k c st 0 (c.accept.getD s.pair) s t ∧ Only [.eqt, .plc, .orb, .seq] s t) ∧
  (∀ (s : State) (k lba : Nat) (c : Cmd) (r : Resv), Ready (.writeAccept k) s → s.cmd? k = some c → c.resv = some r →
      r.granted = true → c.recopy = 0 →
      eOp c.entry = 2 ∧ c.present = true ∨ eOp c.entry = 5 ∧ c.copyStarted = true ∧ ∀ b ∈ c.bound, b.got = true ∨ b.lost = true →
      ((c.bound.filter (·.lost)).map Bound.lba).min? = some lba →
    Gives (.writeAccept k) s fun t =>
      Ends k c 0x0100 (BitVec.ofNat 48 lba) (c.accept.getD s.pair) s t ∧ Only [.eqt, .plc, .orb, .seq] s t) ∧
  (∀ (s : State) (k : Nat) (c : Cmd) (r : Resv), Ready (.writeAccept k) s → s.cmd? k = some c → c.resv = some r → r.granted = true →
      c.recopy = 0 →
      eOp c.entry = 2 ∧ c.present = true ∨ eOp c.entry = 5 ∧ c.copyStarted = true ∧ ∀ b ∈ c.bound, b.got = true ∨ b.lost = true →
      ∀ b ∈ c.bound, b.lost = false → s.mayAccept k c true = false ∨ s.pwr.dmax < s.dirty →
    Gives (.writeAccept k) s (Still s)) ∧
  (∀ (s : State) (k : Nat) (c : Cmd), Ready (.writeAccept k) s → s.cmd? k = some c → c.resv = none →
    Gives (.writeAccept k) s (Still s)) ∧
  (∀ (s : State) (k : Nat) (c : Cmd), Ready (.deallocate k) s → s.cmd? k = some c → c.phase = .waiting → eOp c.entry = 3 →
      s.mayAccept k c true = true →
    Gives (.deallocate k) s fun t =>
      Ends k c 0x0001 0 s.pair { s with
        plc := ((s.stamped.dropRange (eNsid c.entry) (eLba c.entry) (eNblk c.entry)).journal
          (.dealloc (eNsid c.entry) (eLba c.entry) (eNblk c.entry)) (some k)).plc } t ∧
      (∀ a, eLba c.entry ≤ a → a < eLba c.entry + eNblk c.entry → a < 2 ^ 64 → t.readBlock (eNsid c.entry) a = zeroBlock a) ∧
      Accepted s t ∧ Only [.free, .eqt, .sec, .plc, .orb, .seq, .chn] s t) ∧
  (∀ (s : State) (k : Nat) (c : Cmd), Ready (.flush k) s → s.cmd? k = some c → c.phase = .waiting → eOp c.entry = 4 →
      s.mayAccept k c false = true →
    Gives (.flush k) s fun t =>
      Stands k { c with phase := .accepted, accept := some s.pair } s t ∧ OnlyCommands s t ∧ Accepted s t ∧ Only [.eqt, .sec] s t) ∧
  (∀ (s : State) (k : Nat) (c : Cmd) (p : Pair), Ready (.flushDone k) s → s.cmd? k = some c → c.phase = .accepted →
      c.accept = some p → eOp c.entry = 4 → c.awaits = [] →
      s.coveredOnMedia (if eFlushAll c.entry then none else some (eNsid c.entry)) p = true →
    Gives (.flushDone k) s fun t => Ends k c 0 0 p s t ∧ Only [.eqt, .plc, .orb, .seq] s t) ∧
  (∀ (s : State) (k : Nat) (c : Cmd) (p : Pair), Ready (.flushDone k) s → s.cmd? k = some c → c.phase = .accepted →
      c.accept = some p → eOp c.entry = 4 →
      c.awaits ≠ [] ∨ s.coveredOnMedia (if eFlushAll c.entry then none else some (eNsid c.entry)) p = false →
    Gives (.flushDone k) s (Still s))

/-- Zone actions, zone reports, and namespaces created and deleted. CLOSE, FINISH and RESET move one zone, or every zone that they change,
as Table 10.8 states, journal what changes and end with ACCEPTED; a zone that the action does not allow ends with ZONE_STATE;
ZONE_REPORT prepares the descriptors; NS_CREATE makes an absent namespace with a key that the key table holds; NS_DELETE shuts the
namespace, and once nothing accepted needs it and the deletion is on media its key is gone. Commands that it shows to complete, so
that exec answers a next state with their own effect: zoneClose, zoneFinish, zoneReset, zoneReport, nsCreate, nsDelete, nsDeleteDone.
It rests on parts of R36, R38, R361, R362, R385, R386, R605, R620, R621. The model's choices it rests on: log entries 22, 40, 45, 144,
177. -/
def Obligations.ZonesAndNamespaces : Prop :=
  (∀ (s : State) (k : Nat) (c : Cmd), Ready (.zoneClose k) s → s.cmd? k = some c → c.phase = .waiting → eOp c.entry = 8 →
      s.mayAccept k c false = true → eZoneAction c.entry = 0 → eZoneAll c.entry = false →
      (s.zone (eNsid c.entry) (eLba c.entry / zoneBlocks)).state = .open_ →
    Gives (.zoneClose k) s fun t =>
      Ends k c 0x0001 0 s.pair { s with
        plc := (s.setZone (eNsid c.entry) (eLba c.entry / zoneBlocks) { s.zone (eNsid c.entry) (eLba c.entry / zoneBlocks) with state := .closed }).plc } t ∧ Accepted s t ∧
      Only [.eqt, .sec, .plc, .orb, .seq, .chn] s t) ∧
  (∀ (s : State) (k : Nat) (c : Cmd), Ready (.zoneClose k) s → s.cmd? k = some c → c.phase = .waiting → eOp c.entry = 8 →
      s.mayAccept k c false = true → eZoneAction c.entry = 0 → eZoneAll c.entry = false →
      (s.zone (eNsid c.entry) (eLba c.entry / zoneBlocks)).state = .closed →
    Gives (.zoneClose k) s fun t =>
      Ends k c 0x0001 0 s.pair s t ∧ Accepted s t ∧
      Only [.eqt, .sec, .plc, .orb, .seq, .chn] s t) ∧
  (∀ (s : State) (k : Nat) (c : Cmd), Ready (.zoneClose k) s → s.cmd? k = some c → c.phase = .waiting → eOp c.entry = 8 →
      s.mayAccept k c false = true → eZoneAction c.entry = 0 → eZoneAll c.entry = false →
      (s.zone (eNsid c.entry) (eLba c.entry / zoneBlocks)).state = .empty ∨ (s.zone (eNsid c.entry) (eLba c.entry / zoneBlocks)).state = .full →
    Gives (.zoneClose k) s fun t => Ends k c 0x0103 0 (c.accept.getD s.pair) s t ∧ Only [.eqt, .plc, .orb, .seq] s t) ∧
  (∀ (s : State) (k : Nat) (c : Cmd), Ready (.zoneClose k) s → s.cmd? k = some c → c.phase = .waiting → eOp c.entry = 8 →
      s.mayAccept k c false = true → eZoneAction c.entry = 0 → eZoneAll c.entry = true →
    Gives (.zoneClose k) s fun t =>
      Ends k c 0x0001 0 s.pair { s with plc := (s.zoneEffect 0 (eNsid c.entry) k (s.zoneTargets 0 (eNsid c.entry) (eLba c.entry) true)).plc } t ∧
      (∀ z, z < (s.ns (eNsid c.entry)).capacity / zoneBlocks →
        t.zone (eNsid c.entry) z = if (s.zone (eNsid c.entry) z).state = .open_ then { s.zone (eNsid c.entry) z with state := .closed }
                       else s.zone (eNsid c.entry) z) ∧
      Accepted s t ∧ Only [.eqt, .sec, .plc, .orb, .seq, .chn] s t) ∧
  (∀ (s : State) (k : Nat) (c : Cmd), Ready (.zoneFinish k) s → s.cmd? k = some c → c.phase = .waiting → eOp c.entry = 8 →
      s.mayAccept k c true = true → eZoneAction c.entry = 1 → eZoneAll c.entry = false →
      (s.zone (eNsid c.entry) (eLba c.entry / zoneBlocks)).state ≠ .full →
    Gives (.zoneFinish k) s fun t =>
      Ends k c 0x0001 0 s.pair { s with
        plc := ((s.stamped.setZone (eNsid c.entry) (eLba c.entry / zoneBlocks) { s.zone (eNsid c.entry) (eLba c.entry / zoneBlocks) with state := .full, wp := zoneBlocks }).journal
          (.zoneFinish (eNsid c.entry) (eLba c.entry / zoneBlocks)) (some k)).plc } t ∧ Accepted s t ∧
      t.free = s.free + 1 ∧ Only [.free, .eqt, .sec, .plc, .orb, .seq, .chn] s t) ∧
  (∀ (s : State) (k : Nat) (c : Cmd), Ready (.zoneFinish k) s → s.cmd? k = some c → c.phase = .waiting → eOp c.entry = 8 →
      s.mayAccept k c true = true → eZoneAction c.entry = 1 → eZoneAll c.entry = false →
      (s.zone (eNsid c.entry) (eLba c.entry / zoneBlocks)).state = .full →
    Gives (.zoneFinish k) s fun t =>
      Ends k c 0x0001 0 s.pair s t ∧ Accepted s t ∧
      Only [.eqt, .sec, .plc, .orb, .seq, .chn] s t) ∧
  (∀ (s : State) (k : Nat) (c : Cmd), Ready (.zoneReset k) s → s.cmd? k = some c → c.phase = .waiting → eOp c.entry = 8 →
      s.mayAccept k c true = true → eZoneAction c.entry = 2 → eZoneAll c.entry = false →
      (s.zone (eNsid c.entry) (eLba c.entry / zoneBlocks)).state ≠ .empty →
    Gives (.zoneReset k) s fun t =>
      Ends k c 0x0001 0 s.pair { s with
        plc := (((s.stamped.setZone (eNsid c.entry) (eLba c.entry / zoneBlocks) emptyZone).dropRange (eNsid c.entry) ((eLba c.entry / zoneBlocks) * zoneBlocks) zoneBlocks).journal
          (.zoneReset (eNsid c.entry) (eLba c.entry / zoneBlocks)) (some k)).plc } t ∧ Accepted s t ∧
      t.free = s.free + 1 ∧ Only [.free, .eqt, .sec, .plc, .orb, .seq, .chn] s t) ∧
  (∀ (s : State) (k : Nat) (c : Cmd), Ready (.zoneReset k) s → s.cmd? k = some c → c.phase = .waiting → eOp c.entry = 8 →
      s.mayAccept k c true = true → eZoneAction c.entry = 2 → eZoneAll c.entry = false →
      (s.zone (eNsid c.entry) (eLba c.entry / zoneBlocks)).state = .empty →
    Gives (.zoneReset k) s fun t =>
      Ends k c 0x0001 0 s.pair s t ∧ Accepted s t ∧
      Only [.eqt, .sec, .plc, .orb, .seq, .chn] s t) ∧
  (∀ (s : State) (k : Nat) (c : Cmd), Ready (.zoneReport k) s → s.cmd? k = some c → c.phase = .waiting → eOp c.entry = 9 →
      s.mayAccept k c false = true →
    Gives (.zoneReport k) s fun t =>
      (let m := min (ef c.entry 32 13) ((s.ns (eNsid c.entry)).capacity / zoneBlocks - (eLba c.entry / zoneBlocks))
      Stands k { c with
        phase := .accepted, accept := some s.pair, result := BitVec.ofNat 48 m,
        payload := ((List.range m).flatMap fun j => s.zoneDesc (eNsid c.entry) ((eLba c.entry / zoneBlocks) + j)) ++
          List.replicate (16 * ef c.entry 32 13 - 16 * m) 0 } s t ∧
      OnlyCommands s t ∧ Accepted s t ∧ Only [.eqt, .sec] s t)) ∧
  (∀ (s : State) (k : Nat) (c : Cmd), Ready (.nsCreate k) s → s.cmd? k = some c → c.phase = .waiting → eOp c.entry = 64 →
      s.mayAccept k c false = true → s.stageCode < 2 → (s.ns (eNsid c.entry)).kind = .absent →
      s.allocated + eLba c.entry ≤ s.plc.userCap →
    Gives (.nsCreate k) s fun t =>
      Stands k { c with phase := .accepted, accept := some s.pair } s t ∧
      aget t.keyEntries (eNsid c.entry) = some (Config.keyWrap keyKek (t.ns (eNsid c.entry)).key) ∧ (t.ns (eNsid c.entry)).zones = [] ∧
      ((t.ns (eNsid c.entry)).kind, (t.ns (eNsid c.entry)).capacity) = (if c.entry.getLsbD 32 then NsKind.zoned else .placed, eLba c.entry) ∧
      (∀ n, n ≠ (eNsid c.entry) → t.ns n = s.ns n ∧ aget t.keyEntries n = aget s.keyEntries n) ∧
      (aget t.plc.journal s.plc.nextJrn).map (fun j => (j.effect, j.owner, j.onMedia)) =
        some (JEffect.nsCreate (eNsid c.entry) (eLba c.entry) (c.entry.getLsbD 32), some k, false) ∧
      t.plc.blocks = s.plc.blocks ∧ OnlyCommands s t ∧ Only [.free, .eqt, .sec, .plc] s t) ∧
  (∀ (s : State) (k : Nat) (c : Cmd), Ready (.nsCreate k) s → s.cmd? k = some c → c.phase = .waiting → eOp c.entry = 64 →
      s.mayAccept k c false = true → s.stageCode < 2 → (s.ns (eNsid c.entry)).kind ≠ .absent →
    Gives (.nsCreate k) s fun t => Ends k c 0x0301 0 (c.accept.getD s.pair) s t ∧ Only [.eqt, .plc, .orb, .seq] s t) ∧
  (∀ (s : State) (k : Nat) (c : Cmd), Ready (.nsCreate k) s → s.cmd? k = some c → c.phase = .waiting → eOp c.entry = 64 →
      s.mayAccept k c false = true → s.stageCode < 2 → (s.ns (eNsid c.entry)).kind = .absent →
      s.plc.userCap < s.allocated + eLba c.entry →
    Gives (.nsCreate k) s fun t => Ends k c 0x0302 0 (c.accept.getD s.pair) s t ∧ Only [.eqt, .plc, .orb, .seq] s t) ∧
  (∀ (s : State) (k : Nat) (c : Cmd), Ready (.nsDelete k) s → s.cmd? k = some c → c.phase = .waiting → eOp c.entry = 65 →
      s.mayAccept k c false = true → s.nsExists (eNsid c.entry) = true → s.cmdsOf c.sess = [(k, c)] → s.eqt.cmds = [(k, c)] →
    Gives (.nsDelete k) s fun t =>
      Stands k { c with phase := .accepted, accept := some s.pair } s t ∧ (t.ns (eNsid c.entry)).kind = .deleting ∧
      t.nsExists (eNsid c.entry) = false ∧ (∀ n, n ≠ (eNsid c.entry) → t.ns n = s.ns n) ∧
      t.plc.landing = s.plc.landing.filter (fun b => b.key / 2 ^ 64 != (eNsid c.entry)) ∧
      (∀ n a, n ≠ (eNsid c.entry) → a < 2 ^ 64 → t.readBlock n a = s.readBlock n a) ∧
      (aget t.plc.journal s.plc.nextJrn).map (fun j => (j.effect, j.owner, j.onMedia)) = some (JEffect.nsDelete (eNsid c.entry), some k, false) ∧
      t.keyEntries = s.keyEntries ∧ OnlyCommands s t ∧ Only [.free, .tim, .eqt, .sec, .plc, .chn] s t) ∧
  (∀ (s : State) (k : Nat) (c : Cmd), Ready (.nsDelete k) s → s.cmd? k = some c → c.phase = .waiting → eOp c.entry = 65 →
      s.mayAccept k c false = true → s.nsExists (eNsid c.entry) = false →
    Gives (.nsDelete k) s fun t => Ends k c 0x0004 0 (c.accept.getD s.pair) s t ∧ Only [.eqt, .plc, .orb, .seq] s t) ∧
  (∀ (s : State) (k : Nat) (c : Cmd), Ready (.nsDeleteDone k) s → s.cmd? k = some c → eOp c.entry = 0x41 → c.phase = .accepted →
      s.ownOnMedia k = true → s.stageCode < 2 → s.eqt.cmds = [(k, c)] → (s.ns (eNsid c.entry)).kind = .deleting →
    Gives (.nsDeleteDone k) s fun t =>
      (t.cmd? k).map (fun d => (d.phase, d.status, d.result, d.endPair)) = some (.done, 0, 0, (c.accept.getD s.pair)) ∧
      t.ns (eNsid c.entry) = absentNs ∧ aget t.keyEntries (eNsid c.entry) = none ∧
      (∀ n, n ≠ (eNsid c.entry) → t.ns n = s.ns n ∧ aget t.keyEntries n = aget s.keyEntries n) ∧
      (∀ b, b ∈ t.plc.landing → b.key / 2 ^ 64 ≠ (eNsid c.entry)) ∧ OnlyCommands (s.quarantine c.sess k) t ∧
      Only [.eqt, .plc, .orb, .seq, .sec, .chn] s t) ∧
  (∀ (s : State) (k : Nat) (c : Cmd), Ready (.nsDeleteDone k) s → s.cmd? k = some c → s.ownOnMedia k = false ∨ 2 ≤ s.stageCode →
    Gives (.nsDeleteDone k) s (Still s))

/-- Image staging, IMAGE_ACTIVATE and the activation sequence. IMAGE_DOWNLOAD adds its piece to the staging area of its KIND, and one out
of sequence ends with its status; IMAGE_ACTIVATE is refused while one is in progress or an image is incomplete, ends with the verdict
of a failed verification, and otherwise begins; the sequence writes and compares the inactive bank, stops the sequencers, switches the
bank and ends with the command answered. Commands that it shows to complete, so that exec answers a next state with their own effect:
imageDownload, imageActivate, activationSequence. It rests on parts of R387, R388, R389, R390, R391, R604, R605. The model's choices
it rests on: log entries 19, 39. -/
def Obligations.ImagesAndActivation : Prop :=
  (∀ (s : State) (k : Nat) (c : Cmd), Ready (.imageDownload k) s → s.cmd? k = some c → c.phase = .waiting → eOp c.entry = 66 →
      s.mayAccept k c false = true → c.present = true → s.downloadFits c = true →
    Gives (.imageDownload k) s fun t =>
      Ends k c 0 0 s.pair { s with eqt := { s.eqt with
        staged := aput s.eqt.staged (ef c.entry 32 2) {
          owner := c.lineage, total := ef c.entry 192 32,
          bytes := (if ef c.entry 128 32 = 0 then [] else ((aget s.eqt.staged (ef c.entry 32 2)).map Staging.bytes).getD []) ++ allArrived c } } } t ∧
      Accepted s t ∧ Only [.eqt, .sec, .plc, .orb, .seq] s t) ∧
  (∀ (s : State) (k : Nat) (c : Cmd), Ready (.imageDownload k) s → s.cmd? k = some c → c.phase = .waiting → eOp c.entry = 66 →
      s.mayAccept k c false = true → c.present = true → s.downloadFits c = false →
    Gives (.imageDownload k) s fun t => Ends k c 0x0303 0 (c.accept.getD s.pair) s t ∧ Only [.eqt, .plc, .orb, .seq] s t) ∧
  (∀ (s : State) (k : Nat) (c : Cmd), Ready (.imageActivate k) s → s.cmd? k = some c → c.phase = .waiting → eOp c.entry = 67 →
      s.mayAccept k c false = true → s.eqt.activation.isSome = true →
    Gives (.imageActivate k) s fun t => Ends k c 0x0308 0 (c.accept.getD s.pair) s t ∧ Only [.eqt, .plc, .orb, .seq] s t) ∧
  (∀ (s : State) (k : Nat) (c : Cmd), Ready (.imageActivate k) s → s.cmd? k = some c → c.phase = .waiting → eOp c.entry = 67 →
      s.mayAccept k c false = true → s.eqt.activation = none → ∃ x, x ∈ kindsOf (ef c.entry 32 2) ∧ s.stagedWhole x = none →
    Gives (.imageActivate k) s fun t => Ends k c 0x0307 0 (c.accept.getD s.pair) s t ∧ Only [.eqt, .plc, .orb, .seq] s t) ∧
  (∀ (s : State) (k : Nat) (c : Cmd), Ready (.imageActivate k) s → s.cmd? k = some c → c.phase = .waiting → eOp c.entry = 67 →
      s.mayAccept k c false = true → s.eqt.activation = none → ∀ x, x ∈ kindsOf (ef c.entry 32 2) → (s.stagedWhole x).isSome = true →
    Gives (.imageActivate k) s fun t =>
      (let imgs := (kindsOf (ef c.entry 32 2)).filterMap fun x => (s.stagedWhole x).map fun b => (x, b)
      match s.activateVerdict imgs with
      | some (x, v) => Ends k c (verdictStatus v) 0 (c.accept.getD s.pair) (s.verdict x 2 v) t ∧ t.sec = (s.verdict x 2 v).sec ∧
          Only [.eqt, .sec, .plc, .orb, .seq] s t
      | none => Stands k { c with phase := .accepted, accept := some s.pair } s t ∧
          t.eqt.activation = some { tag := k, kinds := (ef c.entry 32 2), step := 0, fwDigest := s.newDigest imgs 1,
                                    persDigest := s.newDigest imgs 2, cut := false } ∧
          Accepted s t ∧ Only [.eqt, .sec] s t)) ∧
  (∀ (s : State) (flashOk : Bool), Ready (.activationSequence flashOk) s → s.eqt.activation = none →
    Gives (.activationSequence flashOk) s (Still s)) ∧
  (∀ (s : State) (a : Activation) (c : Cmd), Ready (.activationSequence false) s → s.eqt.activation = some a → a.cut = false →
      a.step = 0 → s.stageCode < 2 → s.cmd? a.tag = some c → c.phase = .accepted →
    Gives (.activationSequence false) s fun t =>
      (t.cmd? a.tag).map (fun d => (d.phase, d.status, d.result, d.endPair)) = some (.done, 0x0304, 0, (c.accept.getD s.pair)) ∧
      (∀ j, j ≠ a.tag → t.cmd? j = s.cmd? j) ∧ t.eqt.activation = none ∧ t.sec.bank = s.sec.bank ∧ t.sec.reason = 7 ∧
      t.sec.context = 2 ∧ t.sec.pers = s.sec.pers ∧ (∀ o, bankSlot (1 - s.sec.bank) 1 ≤ o ∨ t.flashByte o = s.flashByte o) ∧
      Only [.eqt, .sec, .plc, .orb, .seq] s t) ∧
  (∀ (s : State) (a : Activation), Ready (.activationSequence true) s → s.eqt.activation = some a → a.cut = false → a.step = 0 →
      s.stageCode < 2 →
    Gives (.activationSequence true) s fun t =>
      (t.eqt.activation = if pkDigest (t.bankView (1 - s.sec.bank) 1) = a.fwDigest ∧ pkDigest (t.bankView (1 - s.sec.bank) 2) = a.persDigest
                          then some { a with step := 1 } else none) ∧
      t.sec.bank = s.sec.bank ∧ t.sec.pers = s.sec.pers ∧ (∀ o, bankSlot (1 - s.sec.bank) 1 ≤ o ∨ t.flashByte o = s.flashByte o) ∧
      Only [.eqt, .sec, .plc, .orb, .seq] s t) ∧
  (∀ (s : State) (flashOk : Bool) (a : Activation), Ready (.activationSequence flashOk) s → s.eqt.activation = some a →
      a.cut = false → a.step = 0 → 2 ≤ s.stageCode →
    Gives (.activationSequence flashOk) s (Still s)) ∧
  (∀ (s : State) (flashOk : Bool) (a : Activation), Ready (.activationSequence flashOk) s → s.eqt.activation = some a →
      a.cut = false → a.step = 1 →
    Gives (.activationSequence flashOk) s fun t =>
      t.seq.stopReq = true ∧ t.eqt = { s.eqt with sessions := t.eqt.sessions, activation := some { a with step := 2 } } ∧
      (∀ q, q < 16 → (s.seqr q).state = .waiting → (s.seqr q).stage = .wait → mwWait (s.mword q) = 23 → (s.seqr q).items = [] →
        (t.seqr q).state = .stopped) ∧
      t.seq.words = s.seq.words ∧ (∀ i, calmSession (t.sess i) = calmSession (s.sess i)) ∧ Only [.eqt, .seq] s t) ∧
  (∀ (s : State) (flashOk : Bool) (a : Activation), Ready (.activationSequence flashOk) s → s.eqt.activation = some a →
      a.cut = false → a.step = 2 → s.seqsStopped = true → s.stageCode < 2 →
    Gives (.activationSequence flashOk) s fun t =>
      t.sec.bank = 1 - s.sec.bank ∧ t.sec.pers = s.sec.pers ∧
      t.eqt = { s.eqt with sessions := t.eqt.sessions, activation := some { a with step := 3 } } ∧
      (∀ i, calmSession (t.sess i) = calmSession (s.sess i)) ∧ Only [.eqt, .sec] s t) ∧
  (∀ (s : State) (flashOk : Bool) (a : Activation), Ready (.activationSequence flashOk) s → s.eqt.activation = some a →
      a.cut = false → a.step = 2 → s.seqsStopped = false ∨ 2 ≤ s.stageCode →
    Gives (.activationSequence flashOk) s (Still s)) ∧
  (∀ (s : State) (flashOk : Bool) (a : Activation), Ready (.activationSequence flashOk) s → s.eqt.activation = some a → a.step = 3 →
      a.kinds.testBit 1 = false →
    Gives (.activationSequence flashOk) s (Still { s with eqt := { s.eqt with activation := some { a with step := 4 } } })) ∧
  (∀ (s : State) (flashOk : Bool) (a : Activation), Ready (.activationSequence flashOk) s → s.eqt.activation = some a → a.step = 3 →
      a.kinds.testBit 1 = true →
    Gives (.activationSequence flashOk) s fun t =>
      t.sec = { s.sec with pers := readPers (s.bankView s.sec.bank 2) } ∧ t.seq.words = t.sec.pers.words ∧
      t.plc = { s.plc with userCap := t.capacityNow } ∧ (∀ n, n < 24 → (t.slot n).bank = false ∧ (t.slot n).states = (s.slot n).states) ∧
      t.eqt = { s.eqt with sessions := t.eqt.sessions, activation := some { a with step := 4 } } ∧
      Only [.eqt, .sec, .regs, .plc, .sce, .chn, .seq, .srm] s t) ∧
  (∀ (s : State) (flashOk : Bool) (a : Activation) (c : Cmd), Ready (.activationSequence flashOk) s → s.eqt.activation = some a →
      a.step = 4 → s.cmd? a.tag = some c → c.phase = .accepted → s.eqt.mraQueue = [] →
    Gives (.activationSequence flashOk) s fun t =>
      (t.cmd? a.tag).map (fun d => (d.phase, d.status, d.result, d.endPair)) = some (.done, 0, 0, (c.accept.getD s.pair)) ∧
      (∀ j, j ≠ a.tag → t.cmd? j = s.cmd? j) ∧ t.eqt.activation = some { a with step := 5 } ∧ t.eqt.firstAccepted = false ∧
      t.seq.stopReq = false ∧ t.tim.busy = true ∧ Only [.tim, .eqt, .plc, .orb, .seq, .pwr] s t) ∧
  (∀ (s : State) (flashOk : Bool) (a : Activation) (c : Cmd), Ready (.activationSequence flashOk) s → s.eqt.activation = some a →
      a.cut = true → a.step < 3 → s.cmd? a.tag = some c → c.phase = .accepted → s.eqt.mraQueue = [] →
    Gives (.activationSequence flashOk) s fun t =>
      (∃ st, 1 ≤ st ∧ st < 0x400 ∧
        (t.cmd? a.tag).map (fun d => (d.phase, d.status, d.result, d.endPair)) = some (.done, BitVec.ofNat 16 st, 0, (c.accept.getD s.pair))) ∧
      (∀ j, j ≠ a.tag → t.cmd? j = s.cmd? j) ∧ t.eqt.activation = none ∧ t.sec = s.sec ∧ t.seq.stopReq = false ∧
      Only [.free, .eqt, .plc, .orb, .seq] s t) ∧
  (∀ (s : State) (flashOk : Bool) (a : Activation), Ready (.activationSequence flashOk) s → s.eqt.activation = some a → a.step = 5 →
    Gives (.activationSequence flashOk) s (Still s))

/-- LATENCY_TOLERANCE, GET_LOG, ATTEST and REG_ACCESS. LATENCY_TOLERANCE sets the tolerance of its session and arms the deepest allowed
point, which it answers; GET_LOG takes the snapshot of a listed log from its offset and answers its length, reporting the poisoned
records it meets; ATTEST prepares 8,192 bytes that begin with the report for its nonce; REG_ACCESS reads a register or writes it, and
a refused write is answered and recorded. Commands that it shows to complete, so that exec answers a next state with their own effect:
latencyTolerance, getLog, attest, regAccessRead, regAccessWrite. It rests on parts of R348, R364, R392, R393, R394, R512, R580, R595,
R611, R615, R652. The model's choices it rests on: log entries 19, 21, 22. -/
def Obligations.LogsAndRegisters : Prop :=
  (∀ (s : State) (k : Nat) (c : Cmd), Ready (.latencyTolerance k) s → s.cmd? k = some c → c.phase = .waiting → eOp c.entry = 68 →
      s.mayAccept k c false = true →
    Gives (.latencyTolerance k) s fun t =>
      (let u := s.modSess c.sess fun x => { x with tol := ext c.entry 128 32 }
      Ends k c 0 (BitVec.ofNat 48 u.deepestPoint) s.pair u t ∧ Accepted s t ∧
      t.pwr.target = (if u.deepestPoint = s.pwr.point then s.pwr.target else u.deepestPoint) ∧
      { t.pwr with target := s.pwr.target, quietSince := s.pwr.quietSince } = s.pwr ∧ Only [.eqt, .sec, .plc, .orb, .seq, .pwr] s t)) ∧
  (∀ (s : State) (k len : Nat) (c : Cmd), Ready (.getLog k) s → s.cmd? k = some c → c.phase = .waiting → eOp c.entry = 69 →
      s.mayAccept k c false = true → s.logLen (ef c.entry 32 8) = some len →
      ef c.entry 32 8 = 3 → s.flt.slots.all (fun e => !e.2.poisoned) = true →
      ef c.entry 32 8 = 4 → s.tal.ring.all (fun e => !e.2.poisoned) = true →
    Gives (.getLog k) s fun t =>
      Stands k { c with phase := .accepted, accept := some s.pair, payload := s.logBytes (ef c.entry 32 8) (eLba c.entry) (ef c.entry 192 32),
                        result := BitVec.ofNat 48 len } s t ∧ OnlyCommands s t ∧ Accepted s t ∧
      Only [.eqt, .sec] s t) ∧
  (∀ (s : State) (k len i : Nat) (c : Cmd) (r : FaultRecord), Ready (.getLog k) s → s.cmd? k = some c → c.phase = .waiting →
      eOp c.entry = 69 → s.mayAccept k c false = true → s.logLen (ef c.entry 32 8) = some len → ef c.entry 32 8 = 3 →
      s.flt.slots = [(2 * i, r)] → r.poisoned = true → i < 2048 → eLba c.entry < 64 + 64 * (i + 1) →
      64 + 64 * i < eLba c.entry + ef c.entry 192 32 →
    Gives (.getLog k) s fun t =>
      Stands k { c with phase := .accepted, accept := some s.pair, payload := s.logBytes (ef c.entry 32 8) (eLba c.entry) (ef c.entry 192 32),
                        result := BitVec.ofNat 48 len } s t ∧ OnlyCommands s t ∧ Accepted s t ∧
      t.flt = { s.flt with inbox := joinReports s.now { source := 320, kind := 1, addr := 2 * i, severity := 2 } s.flt.inbox } ∧
      Only [.eqt, .sec, .flt] s t) ∧
  (∀ (s : State) (k len i : Nat) (c : Cmd) (r : TailRecord), Ready (.getLog k) s → s.cmd? k = some c → c.phase = .waiting →
      eOp c.entry = 69 → s.mayAccept k c false = true → s.logLen (ef c.entry 32 8) = some len → ef c.entry 32 8 = 4 →
      s.tal.ring = [(i, r)] → r.poisoned = true → eLba c.entry < 1024 + 256 * (i + 1) →
      1024 + 256 * i < eLba c.entry + ef c.entry 192 32 →
    Gives (.getLog k) s fun t =>
      Stands k { c with phase := .accepted, accept := some s.pair, payload := s.logBytes (ef c.entry 32 8) (eLba c.entry) (ef c.entry 192 32),
                        result := BitVec.ofNat 48 len } s t ∧ OnlyCommands s t ∧ Accepted s t ∧
      t.flt = { s.flt with inbox := joinReports s.now { source := 320, kind := 1, addr := i, severity := 2 } s.flt.inbox } ∧
      t.tal = { s.tal with lostRecs := satInc s.tal.lostRecs 255 } ∧ Only [.eqt, .sec, .flt, .tal] s t) ∧
  (∀ (s : State) (k : Nat) (c : Cmd), Ready (.getLog k) s → s.cmd? k = some c → c.phase = .waiting → eOp c.entry = 69 →
      s.mayAccept k c false = true → s.logLen (ef c.entry 32 8) = none →
    Gives (.getLog k) s fun t => Ends k c 0x0309 0 (c.accept.getD s.pair) s t ∧ Only [.eqt, .plc, .orb, .seq] s t) ∧
  (∀ (s : State) (k : Nat) (c : Cmd), Ready (.attest k) s → s.cmd? k = some c → c.phase = .waiting → eOp c.entry = 70 →
      s.mayAccept k c false = true →
    Gives (.attest k) s fun t =>
      (t.cmd? k).map (fun d => (d.phase, d.accept, d.result, d.payload.length)) = some (.accepted, some s.pair, 0, 8192) ∧
      (t.cmd? k).map (fun d => d.payload.take 3040) = some ({ s with sec := t.sec }.attestBody (ef c.entry 128 128) s.pair) ∧
      (∀ j, j ≠ k → t.cmd? j = s.cmd? j) ∧ t.free = s.free + 1 ∧ OnlyCommands s t ∧ Accepted s t ∧ Only [.free, .eqt, .sec] s t) ∧
  (∀ (s : State) (k : Nat) (c : Cmd) (r : Reg), Ready (.regAccessRead k) s → s.cmd? k = some c → c.phase = .waiting →
      eOp c.entry = 72 → s.mayAccept k c false = true → eRegWrite c.entry = false → regAt (ef c.entry 128 32) = some r →
      s.blockOff r = false → regUpper r = none → regLower r = none → r ≠ .pwrSense → r ≠ .pinThermStat →
    Gives (.regAccessRead k) s fun t =>
      Ends k c 0 ((s.regPeek r).setWidth 48) s.pair s t ∧ Accepted s t ∧ Only [.eqt, .sec, .plc, .orb, .seq] s t) ∧
  (∀ (s : State) (k : Nat) (c : Cmd) (r u : Reg), Ready (.regAccessRead k) s → s.cmd? k = some c → c.phase = .waiting →
      eOp c.entry = 72 → s.mayAccept k c false = true → eRegWrite c.entry = false → regAt (ef c.entry 128 32) = some r →
      s.blockOff r = false → regUpper r = some u →
    Gives (.regAccessRead k) s fun t =>
      Ends k c 0 ((s.regPeek r).setWidth 48) s.pair s t ∧ Accepted s t ∧
      t.latches = (s.setLatch { s.latch (.session c.sess) (regAddr r) with upper := some (s.regPeek u) }).latches ∧
      Only [.eqt, .sec, .plc, .orb, .seq, .latches] s t) ∧
  (∀ (s : State) (k : Nat) (c : Cmd), Ready (.regAccessRead k) s → s.cmd? k = some c → c.phase = .waiting → eOp c.entry = 72 →
      s.mayAccept k c false = true → eRegWrite c.entry = false → regAt (ef c.entry 128 32) = none →
    Gives (.regAccessRead k) s fun t => Ends k c 0 0 s.pair s t ∧ Accepted s t ∧ Only [.eqt, .sec, .plc, .orb, .seq] s t) ∧
  (∀ (s : State) (k : Nat) (c : Cmd) (r : Reg), Ready (.regAccessWrite k) s → s.cmd? k = some c → c.phase = .waiting →
      eOp c.entry = 72 → s.mayAccept k c false = true → eRegWrite c.entry = true → r ∈ plainRegs →
      regAt (ef c.entry 128 32) = some r → Accepts s r (BitVec.ofNat 32 (ef c.entry 160 32)) →
    Gives (.regAccessWrite k) s fun t =>
      Ends k c 0 0 s.pair (s.setRv r (BitVec.ofNat 32 (ef c.entry 160 32))) t ∧ t.rv r = (BitVec.ofNat 32 (ef c.entry 160 32)) &&& regRw r ∧
      (∀ q, regAddr q ≠ regAddr r → t.rv q = s.rv q) ∧ Accepted s t ∧ Only [.regs, .tim, .eqt, .sec, .plc, .orb, .seq] s t) ∧
  (∀ (s : State) (k : Nat) (c : Cmd), Ready (.regAccessWrite k) s → s.cmd? k = some c → c.phase = .waiting → eOp c.entry = 72 →
      s.mayAccept k c false = true → eRegWrite c.entry = true → regAt (ef c.entry 128 32) = none →
    Gives (.regAccessWrite k) s fun t =>
      Ends k c 0x030B 0 s.pair s t ∧ t.setupErr = (s.setupError (.session c.sess) 4 (ef c.entry 128 32 / 4 * 4)).setupErr ∧ Accepted s t ∧
      Only [.eqt, .sec, .plc, .orb, .seq, .setupErr] s t) ∧
  (∀ (s : State) (k : Nat) (c : Cmd) (r : Reg), Ready (.regAccessWrite k) s → s.cmd? k = some c → c.phase = .waiting →
      eOp c.entry = 72 → s.mayAccept k c false = true → eRegWrite c.entry = true → regAt (ef c.entry 128 32) = some r →
      s.blockOff r = false → regUpper r = none → s.wordRefused r (BitVec.ofNat 32 (ef c.entry 160 32)) = true →
    Gives (.regAccessWrite k) s fun t =>
      Ends k c 0x030B 0 s.pair s t ∧ t.setupErr = (s.setupError (.session c.sess) 1 (regAddr r)).setupErr ∧ Accepted s t ∧
      Only [.eqt, .sec, .plc, .orb, .seq, .setupErr] s t) ∧
  (∀ (s : State) (k : Nat) (c : Cmd) (r : Reg), Ready (.regAccessWrite k) s → s.cmd? k = some c → c.phase = .waiting →
      eOp c.entry = 72 → s.mayAccept k c false = true → eRegWrite c.entry = true → regAt (ef c.entry 128 32) = some r →
      s.blockOff r = false → regUpper r = none → s.wordRefused r (BitVec.ofNat 32 (ef c.entry 160 32)) = false →
      s.syncConflict r (BitVec.ofNat 32 (ef c.entry 160 32)) = true →
    Gives (.regAccessWrite k) s fun t =>
      Ends k c 0x030A 0 s.pair s t ∧ t.setupErr = (s.setupError (.session c.sess) 3 (regAddr r)).setupErr ∧ Accepted s t ∧
      Only [.eqt, .sec, .plc, .orb, .seq, .setupErr] s t)

/-- QUEUE_RESET, claims, completion entries and moderation. QUEUE_RESET stops fetching on its session and ends its ORDERED commands that
are not accepted, and completes once it is the last one, with an empty submission ring; CLAIM_EVENT obtains a pending source for its
session or answers 0xFFFF; COMPLETE_EVENT lets the holder put its source back; COMMAND_COMPLETE removes the command, records it in its
lineage and writes its entry into the next slot with the phase of the pass; MOD_TIME notifies the ring. Commands that it shows to
complete, so that exec answers a next state with their own effect: queueReset, queueResetDone, claimEvent, completeEvent,
commandComplete, modTimerExpire. It rests on parts of R299, R374, R378, R379, R380, R397, R400, R401, R406, R413, R414, R417. The
model's choices it rests on: log entries 25, 30, 79. -/
def Obligations.QueuesAndCompletions : Prop :=
  (∀ (s : State) (k : Nat) (c : Cmd), Ready (.queueReset k) s → s.cmd? k = some c → c.phase = .handed → s.oldestHanded k c = true →
      s.idInUse k c = false → s.recordOf c.lineage (eCmdId c.entry) = none → s.checkEntry c.sess c.entry = none →
      s.acceptOpen = true → eOp c.entry = 0x47 → s.cmdsOf c.sess = [(k, c)] →
    Gives (.queueReset k) s fun t =>
      Stands k { c with phase := .accepted, accept := some s.pair } s t ∧
      calmSession (t.sess c.sess) = calmSession { s.sess c.sess with stopFetch := true, resetTag := some k } ∧
      (∀ i, i ≠ c.sess → calmSession (t.sess i) = calmSession (s.sess i)) ∧
      { t.eqt with sessions := s.eqt.sessions, held := s.eqt.held, cmds := s.eqt.cmds, firstAccepted := s.eqt.firstAccepted } = s.eqt ∧
      Accepted s t ∧ Only [.eqt, .sec] s t) ∧
  (∀ (s : State) (k j : Nat) (c d : Cmd), Ready (.queueReset k) s → s.cmd? k = some c → c.phase = .handed →
      s.oldestHanded k c = true → s.idInUse k c = false → s.recordOf c.lineage (eCmdId c.entry) = none →
      s.checkEntry c.sess c.entry = none → s.acceptOpen = true → eOp c.entry = 0x47 → s.eqt.cmds = [(j, d), (k, c)] → j ≠ k →
      d.sess = c.sess → d.phase = .waiting → d.accept = none → isOrderedOp (eOp d.entry) = true →
    Gives (.queueReset k) s fun t =>
      t.cmd? k = some { c with phase := .accepted, accept := some s.pair } ∧
      (t.cmd? j).map (fun e => (e.phase, e.status, e.result, e.resv)) = some (.done, 0x0008, 0, none) ∧
      (t.sess c.sess).stopFetch = true ∧ (t.sess c.sess).resetTag = some k ∧ (∀ i, i ≠ c.sess → calmSession (t.sess i) = calmSession (s.sess i)) ∧
      Only [.eqt, .sec, .plc, .orb, .seq] s t) ∧
  (∀ (s : State) (k : Nat) (c : Cmd), Ready (.queueResetDone k) s → s.cmd? k = some c → eOp c.entry = 0x47 → c.phase = .accepted →
      (s.sess c.sess).resetTag = some k → s.cmdsOf c.sess = [(k, c)] →
    Gives (.queueResetDone k) s fun t => Ends k c 0 0 (c.accept.getD s.pair) s t ∧ Only [.eqt, .plc, .orb, .seq] s t) ∧
  (∀ (s : State) (k : Nat) (c : Cmd), Ready (.queueResetDone k) s → s.cmd? k = some c → eOp c.entry = 0x47 → c.phase = .accepted →
      (s.cmdsOf c.sess).length ≠ 1 →
    Gives (.queueResetDone k) s (Still s)) ∧
  (∀ (s : State) (k : Nat) (c : Cmd), Ready (.claimEvent k) s → s.cmd? k = some c → c.phase = .handed → s.oldestHanded k c = true →
      s.idInUse k c = false → s.recordOf c.lineage (eCmdId c.entry) = none → s.checkEntry c.sess c.entry = none →
      s.acceptOpen = true → eOp c.entry = 0x49 → s.claimable c.sess (ef c.entry 32 16) = none →
    Gives (.claimEvent k) s fun t => Ends k c 0 0xFFFF s.pair s t ∧ Accepted s t ∧ Only [.eqt, .sec, .plc, .orb, .seq] s t) ∧
  (∀ (s : State) (k n : Nat) (c : Cmd), Ready (.claimEvent k) s → s.cmd? k = some c → c.phase = .handed → s.oldestHanded k c = true →
      s.idInUse k c = false → s.recordOf c.lineage (eCmdId c.entry) = none → s.checkEntry c.sess c.entry = none →
      s.acceptOpen = true → eOp c.entry = 0x49 → s.claimable c.sess (ef c.entry 32 16) = some n → (s.sess c.sess).events = false →
    Gives (.claimEvent k) s fun t =>
      Ends k c 0 (BitVec.ofNat 48 (n + 2 ^ 16 * (s.snapshot n).toNat)) s.pair s t ∧
      t.src n = { s.src n with state := .claimed, holder := c.sess, count := 0 } ∧
      (∀ m, m ≠ n → evcIsLevel m = false → t.src m = s.src m) ∧ Accepted s t ∧ Only [.eqt, .sec, .plc, .orb, .seq] s t) ∧
  (∀ (s : State) (k n : Nat) (c : Cmd), Ready (.claimEvent k) s → s.cmd? k = some c → c.phase = .handed → s.oldestHanded k c = true →
      s.idInUse k c = false → s.recordOf c.lineage (eCmdId c.entry) = none → s.checkEntry c.sess c.entry = none →
      s.acceptOpen = true → eOp c.entry = 0x49 → s.claimable c.sess (ef c.entry 32 16) = some n → (s.sess c.sess).events = true →
      evClaimRoom (s.sess c.sess) = true →
    Gives (.claimEvent k) s fun t =>
      (t.cmd? k).map (fun d => (d.phase, d.status, d.result, d.claimWait)) =
        some (.done, 0, BitVec.ofNat 48 (n + 2 ^ 16 * (s.snapshot n).toNat), false) ∧
      Sent c.sess (.ringWrite 2 (s.sess c.sess).eq.wr (eventBits {
        source := n, count := if evcIsLevel n then 0 else (s.src n).count, value := (s.snapshot n).setWidth 64, pair := s.stamped.pair,
        kind := .claimed, overflow := false } (s.sess c.sess).eq.phase)) s t ∧
      t.src n = { s.src n with state := .claimed, holder := c.sess, count := 0 } ∧ Only [.eqt, .sec, .plc, .orb, .seq] s t) ∧
  (∀ (s : State) (k n : Nat) (c : Cmd), Ready (.claimEvent k) s → s.cmd? k = some c → c.phase = .handed → s.oldestHanded k c = true →
      s.idInUse k c = false → s.recordOf c.lineage (eCmdId c.entry) = none → s.checkEntry c.sess c.entry = none →
      s.acceptOpen = true → eOp c.entry = 0x49 → s.claimable c.sess (ef c.entry 32 16) = some n → (s.sess c.sess).events = true →
      evClaimRoom (s.sess c.sess) = false →
    Gives (.claimEvent k) s fun t =>
      (t.cmd? k).map (fun d => (d.phase, d.status, d.result, d.claimWait)) =
        some (.done, 0, BitVec.ofNat 48 (n + 2 ^ 16 * (s.snapshot n).toNat), true) ∧
      t.src n = { s.src n with state := .claimed, holder := c.sess, count := 0 } ∧ Only [.eqt, .sec, .plc, .orb, .seq] s t) ∧
  (∀ (s : State) (k n : Nat) (c : Cmd), Ready (.completeEvent k) s → s.cmd? k = some c → c.phase = .handed →
      s.oldestHanded k c = true → s.idInUse k c = false → s.recordOf c.lineage (eCmdId c.entry) = none →
      s.checkEntry c.sess c.entry = none → s.acceptOpen = true → eOp c.entry = 0x4A → ef c.entry 32 16 = n →
      s.heldSource c.sess = some n → evcIsLevel n = false →
    Gives (.completeEvent k) s fun t =>
      Ends k c 0 0 s.pair s t ∧ (t.src n).state = (if (s.src n).count = 0 then EvState.idle else .pending) ∧ (t.src n).count = (s.src n).count ∧
      (∀ m, m ≠ n → evcIsLevel m = false → t.src m = s.src m) ∧ Accepted s t ∧ Only [.eqt, .sec, .plc, .orb, .seq] s t) ∧
  (∀ (s : State) (k : Nat) (c : Cmd), Ready (.completeEvent k) s → s.cmd? k = some c → c.phase = .handed → s.oldestHanded k c = true →
      s.idInUse k c = false → s.recordOf c.lineage (eCmdId c.entry) = none → s.checkEntry c.sess c.entry = none →
      s.acceptOpen = true → eOp c.entry = 0x4A → s.heldSource c.sess ≠ some (ef c.entry 32 16) →
    Gives (.completeEvent k) s fun t => Ends k c 0x0002 0 s.pair s t ∧ Accepted s t ∧ Only [.eqt, .sec, .plc, .orb, .seq] s t) ∧
  (∀ (s : State) (k : Nat) (c : Cmd), Ready (.claimEvent k) s → s.cmd? k = some c → c.phase = .handed → s.oldestHanded k c = true →
      s.idInUse k c = false → s.recordOf c.lineage (eCmdId c.entry) = none → s.checkEntry c.sess c.entry = none → eOp c.entry = 0x49 →
      s.acceptOpen = false →
    Gives (.claimEvent k) s fun t => Stands k { c with phase := .waiting } s t ∧ Only [.eqt] s t) ∧
  (∀ (s : State) (k : Nat) (c : Cmd) (l : Lineage), Ready (.commandComplete k) s → s.cmd? k = some c → c.phase = .done →
      s.mayComplete k = true → c.claimWait = false → c.heldEnd = false → c.noRecord = false → aget s.eqt.lineages c.lineage = some l →
      l.memory = [] → s.oldPending c.sess = 0 → (s.sess c.sess).state = .active → (s.sess c.sess).cq.waiting = [] →
      unconsumed (s.sess c.sess).cq.log2 (s.sess c.sess).cq.wr (s.sess c.sess).cq.head + 1 < 2 ^ (s.sess c.sess).cq.log2 →
      (s.sess c.sess).cq.count + 1 < (s.sess c.sess).modCount → s.eqt.activation = none →
      eOp c.entry ≠ 0x40 ∧ eOp c.entry ≠ 0x41 ∧ eOp c.entry ≠ 0x43 ∧ eOp c.entry ≠ 0x47 ∨ c.status ≠ 0 →
    Gives (.commandComplete k) s fun t =>
      (let x := s.sess c.sess
      let e : Completion := { cmdId := eCmdId c.entry, result := c.result, sqHead := fetchedPos x, pair := c.endPair, status := c.status,
                              replay := c.replay, held := false }
      t.cmd? k = none ∧ (∀ j, j ≠ k → t.cmd? j = s.cmd? j) ∧
      Sent c.sess (.ringWrite 1 x.cq.wr (completionBits e x.cq.phase)) s t ∧
      (t.sess c.sess).cq = { x.cq with
        wr := if x.cq.wr + 1 = 2 ^ x.cq.log2 then 0 else x.cq.wr + 1,
        phase := if x.cq.wr + 1 = 2 ^ x.cq.log2 then !x.cq.phase else x.cq.phase,
        count := x.cq.count + 1, timer := some (x.cq.timer.getD (s.now + 1000 * x.modTime)), fresh := true } ∧
      (∀ i, i ≠ c.sess → calmSession (t.sess i) = calmSession (s.sess i)) ∧
      aget t.eqt.lineages c.lineage = some { l with
        memory := [{ opcode := eOp c.entry, comp := e, stackA := s.jrnStacks.1, stackB := s.jrnStacks.2 }] } ∧
      (∀ j, j ≠ c.lineage → aget t.eqt.lineages j = aget s.eqt.lineages j) ∧ Only [.eqt] s t)) ∧
  (∀ (s : State) (k : Nat) (c : Cmd), Ready (.commandComplete k) s → s.cmd? k = some c → c.phase = .done → s.mayComplete k = true →
      c.claimWait = false → c.heldEnd = false → c.noRecord = true → s.oldPending c.sess = 0 → (s.sess c.sess).state = .active →
      (s.sess c.sess).cq.waiting = [] →
      unconsumed (s.sess c.sess).cq.log2 (s.sess c.sess).cq.wr (s.sess c.sess).cq.head + 1 < 2 ^ (s.sess c.sess).cq.log2 →
      (s.sess c.sess).cq.count + 1 < (s.sess c.sess).modCount → s.eqt.activation = none →
    Gives (.commandComplete k) s fun t =>
      (let x := s.sess c.sess
      let e : Completion := { cmdId := eCmdId c.entry, result := c.result, sqHead := fetchedPos x, pair := c.endPair, status := c.status,
                              replay := c.replay, held := false }
      t.cmd? k = none ∧ (∀ j, j ≠ k → t.cmd? j = s.cmd? j) ∧
      Sent c.sess (.ringWrite 1 x.cq.wr (completionBits e x.cq.phase)) s t ∧
      (t.sess c.sess).cq = { x.cq with
        wr := if x.cq.wr + 1 = 2 ^ x.cq.log2 then 0 else x.cq.wr + 1,
        phase := if x.cq.wr + 1 = 2 ^ x.cq.log2 then !x.cq.phase else x.cq.phase,
        count := x.cq.count + 1, timer := some (x.cq.timer.getD (s.now + 1000 * x.modTime)), fresh := true } ∧
      (∀ i, i ≠ c.sess → calmSession (t.sess i) = calmSession (s.sess i)) ∧
      t.eqt.lineages = s.eqt.lineages ∧ Only [.eqt] s t)) ∧
  (∀ (s : State) (k : Nat) (c : Cmd), Ready (.commandComplete k) s → s.cmd? k = some c → c.phase = .done → s.mayComplete k = true →
      c.claimWait = false → c.heldEnd = false → c.noRecord = false → eOp c.entry = 0x47 → c.status = 0 → s.oldPending c.sess = 0 →
      (s.sess c.sess).state = .active → (s.sess c.sess).cq.waiting = [] →
      unconsumed (s.sess c.sess).cq.log2 (s.sess c.sess).cq.wr (s.sess c.sess).cq.head + 1 < 2 ^ (s.sess c.sess).cq.log2 →
      (s.sess c.sess).cq.count + 1 < (s.sess c.sess).modCount → s.eqt.activation = none → s.heldSource c.sess = none →
    Gives (.commandComplete k) s fun t =>
      t.cmd? k = none ∧ (∀ j, j ≠ k → t.cmd? j = s.cmd? j) ∧ (t.sess c.sess).stopFetch = false ∧ (t.sess c.sess).resetTag = none ∧
      (t.sess c.sess).fetchPos = 0 ∧ (t.sess c.sess).tail = 0 ∧ (∀ i, i ≠ c.sess → calmSession (t.sess i) = calmSession (s.sess i)) ∧ Only [.eqt] s t) ∧
  (∀ (s : State) (k : Nat) (c : Cmd), Ready (.commandComplete k) s → s.cmd? k = some c → c.phase = .done → s.mayComplete k = true →
      c.claimWait = false → c.heldEnd = false → c.noRecord = false → eOp c.entry = 0x40 ∨ eOp c.entry = 0x41 → c.status = 0 →
      s.oldPending c.sess = 0 → (s.sess c.sess).state = .active → (s.sess c.sess).cq.waiting = [] →
      unconsumed (s.sess c.sess).cq.log2 (s.sess c.sess).cq.wr (s.sess c.sess).cq.head + 1 < 2 ^ (s.sess c.sess).cq.log2 →
      (s.sess c.sess).cq.count + 1 < (s.sess c.sess).modCount → s.eqt.activation = none →
    Gives (.commandComplete k) s fun t =>
      t.cmd? k = none ∧ (∀ j, j ≠ k → t.cmd? j = s.cmd? j) ∧
      (t.src 14).value = BitVec.ofNat 32 (eNsid c.entry + if eOp c.entry = 0x41 then 256 else 0) ∧
      (t.src 14).count = satInc (s.src 14).count 255 ∧ (t.tim.busy = true ∨ eOp c.entry = 0x41) ∧ Only [.tim, .eqt] s t) ∧
  (∀ (s : State) (k : Nat) (c : Cmd) (l : Lineage), Ready (.commandComplete k) s → s.cmd? k = some c → c.phase = .done →
      s.mayComplete k = true → c.claimWait = false → c.heldEnd = true → c.noRecord = true → aget s.eqt.lineages c.lineage = some l →
      l.bound = none → s.eqt.activation = none → (s.sess c.sess).state = .free →
    Gives (.commandComplete k) s fun t =>
      t.cmd? k = none ∧ (∀ j, j ≠ k → t.cmd? j = s.cmd? j) ∧
      (aget t.eqt.lineages c.lineage).map Lineage.held = some (l.held ++ [(c.sess, {
        cmdId := eCmdId c.entry, result := c.result, sqHead := fetchedPos (s.sess c.sess), pair := c.endPair, status := c.status,
        replay := c.replay, held := true })]) ∧
      (∀ j, j ≠ c.lineage → aget t.eqt.lineages j = aget s.eqt.lineages j) ∧
      (∀ i, calmSession (t.sess i) = calmSession (s.sess i)) ∧ Only [.eqt] s t) ∧
  (∀ (s : State) (k : Nat) (c : Cmd), Ready (.commandComplete k) s → s.cmd? k = some c →
      c.phase ≠ .done ∨ s.mayComplete k = false ∨ c.claimWait = true ∧ (s.sess c.sess).eq.waitingClaim ≠ [] →
    Gives (.commandComplete k) s (Still s)) ∧
  (∀ (s : State) (ix d : Nat), Ready (.modTimerExpire ix) s → (s.sess ix).cq.timer = some d → s.reachable ix = true →
    Gives (.modTimerExpire ix) s fun t =>
      (let x := s.sess ix
      (t.sess ix).cq = { x.cq with count := 0, timer := none, fresh := false } ∧ Sent ix (.notify 1 x.cq.wr) s t ∧
      t.now = max s.now d ∧ (∀ j, j ≠ ix → calmSession (t.sess j) = calmSession (s.sess j)) ∧ t.eqt.cmds = s.eqt.cmds ∧
      t.eqt.lineages = s.eqt.lineages ∧ Only [.clock, .tim, .eqt] s t)) ∧
  (∀ (s : State) (ix d : Nat), Ready (.modTimerExpire ix) s → (s.sess ix).cq.timer = some d → s.reachable ix = false →
    Gives (.modTimerExpire ix) s fun t =>
      (let x := s.sess ix
      (t.sess ix).cq = { x.cq with count := 0, timer := none } ∧ t.now = max s.now d ∧
      (∀ j, j ≠ ix → calmSession (t.sess j) = calmSession (s.sess j)) ∧ t.eqt.cmds = s.eqt.cmds ∧
      t.eqt.lineages = s.eqt.lineages ∧ Only [.clock, .tim, .eqt] s t)) ∧
  (∀ (s : State) (ix : Nat), Ready (.modTimerExpire ix) s → (s.sess ix).cq.timer = none →
    Gives (.modTimerExpire ix) s (Still s))

/-- Target masks and soft event sources. The lower half of a target mask is held; the write of the upper half puts the mask in force, and
the source goes where Table 11.5 leads: IDLE with an empty mask, PENDING where its condition or a counted event waits for a target,
PENDING again where the group of its claim has lost its bit; EVC_RAISE counts one event of its soft source with its value, raises it
where it is IDLE and targeted, and writes a record to each eligible session. Commands that it shows to complete, so that exec answers
a next state with their own effect: evcMaskWrite, evcRaise. It rests on parts of R4, R410, R411, R412, R416, R418, R419, R421, R422,
R664. The model's choices it rests on: log entries 25, 26. -/
def Obligations.EventSources : Prop :=
  (∀ (s : State) (ag : Agent) (n : Nat) (v : Word), Ready (.evcMaskWrite ag n false v) s →
      regAt (regAddr (.evcMaskLo n)) = some (.evcMaskLo n) → s.blockOff (.evcMaskLo n) = false →
    Gives (.evcMaskWrite ag n false v) s (Still
      { s.setLatch { s.latch ag (regAddr (.evcMaskLo n)) with lower := some v } with
        pin := { s.pin with lastStatus := if ag = .mgmt then 0 else s.pin.lastStatus } })) ∧
  (∀ (s : State) (ag : Agent) (n : Nat) (v : Word), Ready (.evcMaskWrite ag n true v) s → evcListed n = true →
      Accepts s (.evcMaskHi n) v →
    Gives (.evcMaskWrite ag n true v) s fun t =>
      (let e := s.src n
      t.rv (.evcMaskHi n) = v &&& regRw (.evcMaskHi n) ∧
      t.rv (.evcMaskLo n) = (match (s.latch ag (regAddr (.evcMaskLo n))).lower with
        | some w => w &&& regRw (.evcMaskLo n)
        | none => s.rv (.evcMaskLo n)) ∧
      (t.src n).count = e.count ∧ (t.src n).value = e.value ∧
      (t.src n).state = (match e.state with
        | .idle => if t.evcMask n ≠ 0 ∧ (if evcIsLevel n then s.levelHolds n = true else e.count ≠ 0) then .pending else .idle
        | .pending => if t.evcMask n = 0 then .idle else .pending
        | .claimed => if (t.evcMask n).testBit (s.sess e.holder).group then .claimed else .pending) ∧
      (∀ m, m ≠ n → evcIsLevel m = false → t.src m = s.src m) ∧ t.eqt.cmds = s.eqt.cmds ∧
      Only [.regs, .latches, .tim, .pin] s t)) ∧
  (∀ (s : State) (ag : Agent) (v : Word), Ready (.evcRaise ag v) s → Accepts s .evcRaise v →
    Gives (.evcRaise ag v) s fun t =>
      (let n := 192 + fld v 21 16
      t.src n = { s.src n with
        count := satInc (s.src n).count 255, value := v &&& 0xFFFF,
        state := if (s.src n).state = .idle ∧ s.evcMask n ≠ 0 then .pending else (s.src n).state,
        holder := if (s.src n).state = .idle ∧ s.evcMask n ≠ 0 then 0 else (s.src n).holder } ∧
      (∀ m, m ≠ n → evcIsLevel m = false → t.src m = s.src m) ∧ Only [.pin] s t)) ∧
  (∀ (s : State) (ag : Agent) (v : Word) (i : Nat), Ready (.evcRaise ag v) s → Accepts s .evcRaise v →
      (s.src (192 + fld v 21 16)).state = .idle → s.evTargets (192 + fld v 21 16) = [i] → evRoom (s.sess i) = true →
    Gives (.evcRaise ag v) s fun t =>
      (let n := 192 + fld v 21 16
      Sent i (.ringWrite 2 (s.sess i).eq.wr (eventBits {
        source := n, count := satInc (s.src n).count 255, value := (v &&& 0xFFFF).setWidth 64, pair := s.pair, kind := .raised,
        overflow := false } (s.sess i).eq.phase)) s t ∧
      (t.src n).state = .pending ∧ Only [.pin] s t)) ∧
  (∀ (s : State) (ag : Agent) (v : Word) (i : Nat), Ready (.evcRaise ag v) s → Accepts s .evcRaise v →
      (s.src (192 + fld v 21 16)).state = .idle → s.evTargets (192 + fld v 21 16) = [i] → evRoom (s.sess i) = false → LevelsRaised s →
    Gives (.evcRaise ag v) s fun t =>
      (let n := 192 + fld v 21 16
      (t.sess i).eq = { (s.sess i).eq with
        deferred := aput (s.sess i).eq.deferred n ((v &&& 0xFFFF).setWidth 64, satInc (s.src n).count 255), overflow := true } ∧
      (t.src n).state = .pending ∧ Only [.pin] s t))

/-- Scrubbing, row repair, a stack failure and the cache drain. While the scrubber runs, a scrub read counts and clears a correctable
error, counts, reports and poisons an uncorrectable one with what Table 13.2 says of a map page and a fault record, and goes on to the
next granule or byte; a lap over its limit is reported once; a worn row is repaired by soft repair or its unit retired; a failed stack
leaves use, what stood in two copies keeps the other, and landing data whose last copy it held is lost; disabling the cache or a way
begins a drain, whose end puts dirty lines into HBM. Commands that it shows to complete, so that exec answers a next state with their
own effect: scrubRead, scrubLate, rowRepair, stackFail, cacheDrain, drainDone. It rests on parts of R456, R459, R461, R462, R465,
R474, R478, R479, R480, R481, R482. The model's choices it rests on: log entries 15, 110, 116, 132, 141, 151, 153, 172, 178, 179. -/
def Obligations.MemoryUpkeep : Prop :=
  (∀ (s : State), Ready (.scrubRead false 0) s → s.scrubRuns = true → s.hbm.poisoned.contains s.hbm.scrubPos = false →
      s.hbm.correctable.contains s.hbm.scrubPos = false → s.hbm.scrubPos + 1 < granules →
    Gives (.scrubRead false 0) s (Still { s with hbm := { s.hbm with scrubPos := s.hbm.scrubPos + 1 } })) ∧
  (∀ (s : State) (k : Nat), Ready (.scrubRead false 1) s → s.scrubRuns = true → s.unitStack (s.hbm.scrubPos / 16384) = some k →
      s.hbm.poisoned.contains s.hbm.scrubPos = false → s.hbm.scrubPos + 1 < granules →
    Gives (.scrubRead false 1) s (Still
      { s with
        hbm := { s.hbm with
          corr := (s.hbmCorr k).hbm.corr, correctable := s.hbm.correctable.filter (· != s.hbm.scrubPos),
          lapCorr := s.hbm.scrubPos :: s.hbm.lapCorr, scrubPos := s.hbm.scrubPos + 1 } })) ∧
  (∀ (s : State) (k : Nat), Ready (.scrubRead false 2) s → s.scrubRuns = true → s.unitStack (s.hbm.scrubPos / 16384) = some k →
      s.hbm.poisoned.contains s.hbm.scrubPos = false → s.hbm.scrubPos + 1 < granules →
      s.hbm.scrubPos / 16384 < 1280 ∨ (10496 ≤ s.hbm.scrubPos / 16384 ∧ s.hbm.scrubPos / 16384 < mapBase + 512) ∨ (mapBase + s.hbm.mapUnits ≤ s.hbm.scrubPos / 16384 ∧ s.hbm.scrubPos / 16384 < readCacheTop) →
    Gives (.scrubRead false 2) s (Still
      { s with
        hbm := { s.hbm with
          uncorr := acanon s.hbm.uncorr k 0 (satInc (agetD s.hbm.uncorr k 0) 255), poisoned := s.hbm.scrubPos :: s.hbm.poisoned,
          scrubPos := s.hbm.scrubPos + 1 },
        flt := { s.flt with
          inbox := joinReports s.now { source := 224 + k, kind := 1, addr := 64 * s.hbm.scrubPos, severity := 1 } s.flt.inbox } })) ∧
  (∀ (s : State) (k : Nat), Ready (.scrubRead false 2) s → s.scrubRuns = true → s.unitStack (s.hbm.scrubPos / 16384) = some k →
      s.hbm.poisoned.contains s.hbm.scrubPos = false → s.hbm.scrubPos + 1 < granules → mapBase + 512 ≤ s.hbm.scrubPos / 16384 →
      s.hbm.scrubPos / 16384 < mapBase + s.hbm.mapUnits → mapBase + s.hbm.mapUnits ≤ readCacheTop →
    Gives (.scrubRead false 2) s (Still
      { s with
        hbm := { s.hbm with
          uncorr := acanon s.hbm.uncorr k 0 (satInc (agetD s.hbm.uncorr k 0) 255), poisoned := s.hbm.scrubPos :: s.hbm.poisoned,
          scrubPos := s.hbm.scrubPos + 1 },
        plc := { s.plc with mapBad := ((s.hbm.scrubPos - (mapBase + 512) * 16384) / 1024) :: s.plc.mapBad },
        flt := { s.flt with
          inbox := joinReports s.now { source := 224 + k, kind := 1, addr := 64 * s.hbm.scrubPos, severity := 1 } s.flt.inbox } })) ∧
  (∀ (s : State) (k : Nat), Ready (.scrubRead false 2) s → s.scrubRuns = true → s.unitStack (s.hbm.scrubPos / 16384) = some k →
      s.hbm.poisoned.contains s.hbm.scrubPos = false → s.hbm.scrubPos + 1 < granules → s.hbm.scrubPos / 16384 = 9472 →
    Gives (.scrubRead false 2) s (Still
      { s with
        hbm := { s.hbm with
          uncorr := acanon s.hbm.uncorr k 0 (satInc (agetD s.hbm.uncorr k 0) 255), poisoned := s.hbm.scrubPos :: s.hbm.poisoned,
          scrubPos := s.hbm.scrubPos + 1 },
        flt := { s.flt with
          slots := amapv s.flt.slots fun n r => if n / 2 = s.hbm.scrubPos - 9472 * 16384 then { r with poisoned := true } else r,
          inbox := joinReports s.now { source := 224 + k, kind := 1, addr := 64 * s.hbm.scrubPos, severity := 1 } s.flt.inbox } })) ∧
  (∀ (s : State) (sram : Bool) (err : Nat), Ready (.scrubRead sram err) s → s.scrubRuns = false →
    Gives (.scrubRead sram err) s (Still s)) ∧
  (∀ (s : State), Ready (.scrubRead false 0) s → s.scrubRuns = true → s.hbm.poisoned.contains s.hbm.scrubPos = false →
      s.hbm.correctable.contains s.hbm.scrubPos = false → s.hbm.scrubPos + 1 = granules →
    Gives (.scrubRead false 0) s (Still
      { s with
        hbm := { s.hbm with
          scrubPos := 0, lapS := min 0xFFFFF ((s.now - s.hbm.lapStart) / 1000000000), lapStart := s.now, lapLate := false,
          lapCorr := [] } })) ∧
  (∀ (s : State), Ready (.scrubRead true 0) s → s.scrubRuns = true → s.srm.poisoned.contains s.hbm.sramPos = false →
      s.srm.correctable.contains s.hbm.sramPos = false →
    Gives (.scrubRead true 0) s (Still { s with hbm := { s.hbm with sramPos := (s.hbm.sramPos + 1) % 0x4000000 } })) ∧
  (∀ (s : State), Ready (.scrubRead true 1) s → s.scrubRuns = true → s.srm.poisoned.contains s.hbm.sramPos = false →
      0x1000000 ≤ s.hbm.sramPos →
    Gives (.scrubRead true 1) s (Still
      { s with
        srm := { s.srm with corr := satInc s.srm.corr 0xFFFF, correctable := s.srm.correctable.filter (· != s.hbm.sramPos) },
        hbm := { s.hbm with sramPos := (s.hbm.sramPos + 1) % 0x4000000 } })) ∧
  (∀ (s : State) (w : Nat) (l : List Nat), Ready (.scrubRead true 1) s → s.scrubRuns = true →
      s.srm.poisoned.contains s.hbm.sramPos = false → s.hbm.sramPos < 0x1000000 → s.hbm.sramPos / 0x100000 = w →
      (agetD s.cch.wayErrs w []).filter (fun x => decide (s.now < x + 1000000000 * fld (s.rv .cchErrCfg) 7 0)) ++ [s.now] = l →
      l.length < fld (s.rv .cchErrCfg) 31 16 ∨ s.cch.waysOff.testBit w = true →
    Gives (.scrubRead true 1) s (Still
      { s with
        srm := { s.srm with corr := satInc s.srm.corr 0xFFFF, correctable := s.srm.correctable.filter (· != s.hbm.sramPos) },
        cch := { s.cch with wayErrs := aput s.cch.wayErrs w l }, hbm := { s.hbm with sramPos := (s.hbm.sramPos + 1) % 0x4000000 } })) ∧
  (∀ (s : State) (w : Nat) (l : List Nat), Ready (.scrubRead true 1) s → s.scrubRuns = true →
      s.srm.poisoned.contains s.hbm.sramPos = false → s.hbm.sramPos < 0x1000000 → s.hbm.sramPos / 0x100000 = w →
      (agetD s.cch.wayErrs w []).filter (fun x => decide (s.now < x + 1000000000 * fld (s.rv .cchErrCfg) 7 0)) ++ [s.now] = l →
      fld (s.rv .cchErrCfg) 31 16 ≤ l.length → s.cch.waysOff.testBit w = false →
    Gives (.scrubRead true 1) s fun t =>
      t.cch.waysOff.testBit w = true ∧ (∀ v, v ≠ w → t.cch.waysOff.testBit v = s.cch.waysOff.testBit v) ∧
      (∀ e, e ∈ t.cch.lines → e.2.way ≠ w) ∧ t.srm.corr = satInc s.srm.corr 0xFFFF ∧
      t.flt.inbox = joinReports s.now { source := 230, kind := 1, addr := w, severity := 2 } s.flt.inbox ∧
      Only [.regs, .srm, .cch, .hbm, .flt] s t) ∧
  (∀ (s : State), Ready (.scrubRead true 2) s → s.scrubRuns = true → s.srm.poisoned.contains s.hbm.sramPos = false →
    Gives (.scrubRead true 2) s (Still
      { s with
        srm := { s.srm with uncorr := satInc s.srm.uncorr 255, poisoned := s.hbm.sramPos :: s.srm.poisoned },
        hbm := { s.hbm with sramPos := (s.hbm.sramPos + 1) % 0x4000000 },
        flt := { s.flt with
          inbox := joinReports s.now {
            source := 228, kind := 1, addr := (sramBase + s.hbm.sramPos) % 2 ^ 40, severity := 1 } s.flt.inbox } })) ∧
  (∀ (s : State), Ready .scrubLate s → s.hbm.lapLate = false → s.scrubRuns = true →
    Gives .scrubLate s fun t =>
      t.now = max s.now (s.hbm.lapStart + 3600000000000 * fld (s.rv .hbmScrubCfg) 7 0) ∧ t.hbm = { s.hbm with lapLate := true } ∧
      t.flt.inbox = joinReports t.now { source := 224, kind := 5, addr := 0, severity := 0 } s.flt.inbox ∧
      t.eqt.cmds = s.eqt.cmds ∧ Only [.clock, .tim, .hbm, .flt] s t) ∧
  (∀ (s : State), Ready .scrubLate s → s.hbm.lapLate = true ∨ s.scrubRuns = false →
    Gives .scrubLate s (Still s)) ∧
  (∀ (s : State) (a k : Nat) (grans : List Nat), Ready (.rowRepair a grans true) s → s.rowWorn grans = true →
      s.unitStack (a / 2 ^ 20) = some k →
    Gives (.rowRepair a grans true) s (Still
      { s with
        hbm := { s.hbm with
          correctable := s.hbm.correctable.filter (fun g => !grans.contains g), softPpr := satInc s.hbm.softPpr 255 },
        flt := { s.flt with inbox := joinReports s.now { source := 224 + k, kind := 2, addr := a, severity := 1 } s.flt.inbox } })) ∧
  (∀ (s : State) (a k u : Nat) (grans : List Nat), Ready (.rowRepair a grans false) s → s.rowWorn grans = true →
      s.unitStack (a / 2 ^ 20) = some k → s.topCacheUnit (readCacheTop - 1) 24576 = some u →
    Gives (.rowRepair a grans false) s (Still
      { s with
        hbm := { s.hbm with
          correctable := s.hbm.correctable.filter (fun g => !grans.contains g), retired := satInc s.hbm.retired 255,
          unitMap := aput (aput s.hbm.unitMap (a / 2 ^ 20) (s.unitStack u)) u none },
        flt := { s.flt with inbox := joinReports s.now { source := 224 + k, kind := 3, addr := a, severity := 2 } s.flt.inbox } })) ∧
  (∀ (s : State) (a : Nat) (grans : List Nat) (spare : Bool), Ready (.rowRepair a grans spare) s →
      s.unitStack (a / 2 ^ 20) = none ∨ s.rowWorn grans = false →
    Gives (.rowRepair a grans spare) s (Still s)) ∧
  (∀ (s : State) (k : Nat), Ready (.stackFail k) s → s.hbm.inUse.testBit k = true → s.hbm.failed = 0 →
      ∀ b ∈ s.plc.landing, b.missing = false →
    Gives (.stackFail k) s fun t =>
      t.hbm.inUse.testBit k = false ∧ t.hbm.failed.testBit k = true ∧ t.hbm.redundant = false ∧
      (∀ j, j ≠ k → t.hbm.inUse.testBit j = s.hbm.inUse.testBit j ∧ t.hbm.failed.testBit j = s.hbm.failed.testBit j) ∧
      t.plc.landing = s.plc.landing.map (fun b => { b with
        stackA := (loseCopy k b.stackA b.stackB b.missing).1, stackB := (loseCopy k b.stackA b.stackB b.missing).2.1,
        missing := (loseCopy k b.stackA b.stackB b.missing).2.2 }) ∧
      t.plc.blocks = s.plc.blocks ∧ t.eqt.staged = [] ∧ aget t.hbm.lostStacks k = some s.free ∧ t.free = s.free + 1 ∧
      t.flt.inbox = joinReports s.now { source := 224 + k, kind := 4, addr := 0, severity := 2 } s.flt.inbox ∧
      (∀ i, calmSession (t.sess i) = calmSession (s.sess i)) ∧
      Only [.free, .flt, .tal, .eqt, .plc, .chn, .pwr, .hbm, .cch] s t) ∧
  (∀ (s : State) (k : Nat) (b : LandBlock) (r : BlockRec), Ready (.stackFail k) s → s.hbm.inUse.testBit k = true →
      s.plc.landing = [b] → b.missing = true → b.stackA = k → b.row = none → s.plc.blocks = [(b.key, r)] → r.place = .landing →
      r.pair = b.pair →
    Gives (.stackFail k) s fun t =>
      t.plc.landing = [] ∧ t.plc.blocks = [(b.key, { r with place := .lost })] ∧ t.hbm.inUse.testBit k = false ∧ t.hbm.redundant = false ∧
      (∀ i, calmSession (t.sess i) = calmSession (s.sess i)) ∧ Only [.free, .flt, .tal, .eqt, .plc, .chn, .pwr, .hbm, .cch] s t) ∧
  (∀ (s : State) (k : Nat), Ready (.stackFail k) s → s.hbm.inUse.testBit k = false →
    Gives (.stackFail k) s (Still s)) ∧
  (∀ (s : State) (ag : Agent) (v : Word), Ready (.cacheDrain ag v) s → Accepts s .cchCtl v →
      (bit (s.rv .cchCtl) 31 = true ∧ bit v 31 = false) ∨ fld (s.rv .cchCtl) 15 0 &&& fld v 15 0 ≠ fld (s.rv .cchCtl) 15 0 →
    Gives (.cacheDrain ag v) s fun t =>
      t.rv .cchCtl = v &&& regRw .cchCtl ∧
      t.cch = { s.cch with
        draining := true, side := [],
        drainWays := if bit v 31 then s.cch.drainWays ||| (fld (s.rv .cchCtl) 15 0 - (fld (s.rv .cchCtl) 15 0 &&& fld v 15 0)) else 0xFFFF } ∧
      Only [.regs, .tim, .cch, .pin] s t) ∧
  (∀ (s : State) (ag : Agent) (v : Word), Ready (.cacheDrain ag v) s → Accepts s .cchCtl v →
      ¬((bit (s.rv .cchCtl) 31 = true ∧ bit v 31 = false) ∨ fld (s.rv .cchCtl) 15 0 &&& fld v 15 0 ≠ fld (s.rv .cchCtl) 15 0) →
    Gives (.cacheDrain ag v) s (Still (s.wrote (s.setRv .cchCtl v) ag .cchCtl))) ∧
  (∀ (s : State) (l : Nat) (x : Line), Ready .drainDone s → s.cch.draining = true → s.cch.drainWays = 0xFFFF →
      s.cch.lines = [(l, x)] → x.dirty = true → s.cch.victims = [] →
    Gives .drainDone s fun t =>
      t.cch = { s.cch with draining := false, drainWays := 0, lines := [], side := [] } ∧
      (∀ i, i < 128 → t.hbmRaw (128 * l + i) = x.bytes.extractLsb' (8 * i) 8) ∧
      (∀ a, a / 128 ≠ l → t.hbmRaw a = s.hbmRaw a) ∧ Only [.hbm, .cch] s t) ∧
  (∀ (s : State), Ready .drainDone s → s.cch.draining = true → s.cch.lines = [] → s.cch.victims = [] →
    Gives .drainDone s fun t =>
      t.cch = { s.cch with draining := false, drainWays := 0, side := t.cch.side } ∧ t.hbm = s.hbm ∧ Only [.cch] s t) ∧
  (∀ (s : State), Ready .drainDone s → s.cch.draining = false →
    Gives .drainDone s (Still s))

/-- Diagnostic writes and reads of HBM and SRAM. A diagnostic write stores data with its check bits, data alone or check bits alone, in
the one half or byte that it names; a diagnostic read reports how the stored bits decode, counts a corrected read, and counts and
reports an uncorrectable one; the SRAM read also shows the byte and its check bits. Commands that it shows to complete, so that exec
answers a next state with their own effect: hbmDiagWrite, hbmDiagRead, srmDiagWrite, srmDiagRead. It rests on parts of R455, R456,
R459, R472. The model's choices it rests on: log entries 20, 58, 114. -/
def Obligations.MemoryDiagnostics : Prop :=
  (∀ (s : State) (ag : Agent) (v : Word), Ready (.hbmDiagWrite ag v) s → Accepts s .hbmDiag v → bit v 31 = true → fld v 29 28 = 0 →
    Gives (.hbmDiagWrite ag v) s fun t =>
      t.diagHalf (diagKey v (b2n (bit v 14))) =
        { data := ((List.range 8).foldl (fun m i => m ||| (((s.rv .hbmDiagVal).setWidth 256) <<< (32 * i))) 0), check := Config.hbmCheck ((List.range 8).foldl (fun m i => m ||| (((s.rv .hbmDiagVal).setWidth 256) <<< (32 * i))) 0) } ∧
      (∀ j, j ≠ (diagKey v (b2n (bit v 14))) → t.diagHalf j = s.diagHalf j) ∧ (∀ i, i < 32 → t.hbmRaw (0x17FFC00000 + 32 * (diagKey v (b2n (bit v 14))) + i) = byteOf ((List.range 8).foldl (fun m i => m ||| (((s.rv .hbmDiagVal).setWidth 256) <<< (32 * i))) 0) i) ∧
      t.rv .hbmDiag = v &&& regRw .hbmDiag ∧
      { t.hbm with diag := s.hbm.diag } = s.hbm ∧ Only [.regs, .hbm, .pin] s t) ∧
  (∀ (s : State) (ag : Agent) (v : Word), Ready (.hbmDiagWrite ag v) s → Accepts s .hbmDiag v → bit v 31 = true → fld v 29 28 = 1 →
    Gives (.hbmDiagWrite ag v) s fun t =>
      t.diagHalf (diagKey v (b2n (bit v 14))) =
        { s.diagHalf (diagKey v (b2n (bit v 14))) with data := ((List.range 8).foldl (fun m i => m ||| (((s.rv .hbmDiagVal).setWidth 256) <<< (32 * i))) 0) } ∧
      (∀ j, j ≠ (diagKey v (b2n (bit v 14))) → t.diagHalf j = s.diagHalf j) ∧ t.rv .hbmDiag = v &&& regRw .hbmDiag ∧
      { t.hbm with diag := s.hbm.diag } = s.hbm ∧ Only [.regs, .hbm, .pin] s t) ∧
  (∀ (s : State) (ag : Agent) (v : Word), Ready (.hbmDiagWrite ag v) s → Accepts s .hbmDiag v → bit v 31 = true → fld v 29 28 = 2 →
    Gives (.hbmDiagWrite ag v) s fun t =>
      t.diagHalf (diagKey v (b2n (bit v 14))) =
        { s.diagHalf (diagKey v (b2n (bit v 14))) with check := s.rv .hbmDiagVal } ∧
      (∀ j, j ≠ (diagKey v (b2n (bit v 14))) → t.diagHalf j = s.diagHalf j) ∧ t.rv .hbmDiag = v &&& regRw .hbmDiag ∧
      { t.hbm with diag := s.hbm.diag } = s.hbm ∧ Only [.regs, .hbm, .pin] s t) ∧
  (∀ (s : State) (ag : Agent) (v : Word), Ready (.hbmDiagRead ag v) s → Accepts s .hbmDiag v → bit v 31 = false → bit v 30 = true →
    Gives (.hbmDiagRead ag v) s fun t =>
      (let r := s.granOutcome ((0x17FFC00000 + 0x100000 * fld v 25 24 + 64 * fld v 13 0) / 64)
      t.hbm = { s.hbm with
        diagResult := r,
        corr := if r = 1 then (s.hbmCorr (fld v 25 24)).hbm.corr else s.hbm.corr,
        uncorr := if r = 2 then acanon s.hbm.uncorr (fld v 25 24) 0 (satInc (agetD s.hbm.uncorr (fld v 25 24) 0) 255) else s.hbm.uncorr } ∧
      t.flt.inbox = (if r = 2 then joinReports s.now { source := 224 + fld v 25 24, kind := 1, addr := 0x17FFC00000 + 0x100000 * fld v 25 24 + 64 * fld v 13 0, severity := 1 } s.flt.inbox
                     else s.flt.inbox) ∧
      t.rv .hbmDiag = v &&& regRw .hbmDiag ∧ Only [.regs, .hbm, .flt, .pin] s t)) ∧
  (∀ (s : State) (ag : Agent) (v : Word), Ready (.srmDiagWrite ag v) s → Accepts s .srmDiag v → bit v 31 = true → fld v 29 28 = 0 →
    Gives (.srmDiagWrite ag v) s fun t =>
      t.diagByte (fld v 12 0) = { data := (BitVec.ofNat 8 (fld v 20 13)), check := Config.srmCheck (BitVec.ofNat 8 (fld v 20 13)) } ∧
      (∀ j, j ≠ fld v 12 0 → t.diagByte j = s.diagByte j) ∧ t.rv .srmDiag = v &&& regRw .srmDiag ∧
      { t.srm with diag := s.srm.diag } = s.srm ∧ Only [.regs, .srm, .pin] s t) ∧
  (∀ (s : State) (ag : Agent) (v : Word), Ready (.srmDiagWrite ag v) s → Accepts s .srmDiag v → bit v 31 = true → fld v 29 28 = 1 →
    Gives (.srmDiagWrite ag v) s fun t =>
      t.diagByte (fld v 12 0) = { s.diagByte (fld v 12 0) with data := (BitVec.ofNat 8 (fld v 20 13)) } ∧
      (∀ j, j ≠ fld v 12 0 → t.diagByte j = s.diagByte j) ∧ t.rv .srmDiag = v &&& regRw .srmDiag ∧
      { t.srm with diag := s.srm.diag } = s.srm ∧ Only [.regs, .srm, .pin] s t) ∧
  (∀ (s : State) (ag : Agent) (v : Word), Ready (.srmDiagWrite ag v) s → Accepts s .srmDiag v → bit v 31 = true → fld v 29 28 = 2 →
    Gives (.srmDiagWrite ag v) s fun t =>
      t.diagByte (fld v 12 0) = { s.diagByte (fld v 12 0) with check := BitVec.ofNat 5 (fld v 25 21) } ∧
      (∀ j, j ≠ fld v 12 0 → t.diagByte j = s.diagByte j) ∧ t.rv .srmDiag = v &&& regRw .srmDiag ∧
      { t.srm with diag := s.srm.diag } = s.srm ∧ Only [.regs, .srm, .pin] s t) ∧
  (∀ (s : State) (ag : Agent) (v : Word), Ready (.srmDiagRead ag v) s → Accepts s .srmDiag v → bit v 31 = false → bit v 30 = true →
    Gives (.srmDiagRead ag v) s fun t =>
      (let d := s.diagByte (fld v 12 0)
      let r := byteOutcome d
      t.srm = { s.srm with
        diagResult := r, corr := if r = 1 then satInc s.srm.corr 0xFFFF else s.srm.corr,
        uncorr := if r = 2 then satInc s.srm.uncorr 255 else s.srm.uncorr } ∧
      t.flt.inbox = (if r = 2 then joinReports s.now {
          source := 228, kind := 1, addr := (sramBase + 0x3FFE000 + (fld v 12 0)) % 2 ^ 40, severity := 1 } s.flt.inbox else s.flt.inbox) ∧
      fld (t.rv .srmDiag) 20 13 = d.data.toNat ∧ fld (t.rv .srmDiag) 25 21 = d.check.toNat ∧ fld (t.rv .srmDiag) 12 0 = fld v 12 0 ∧
      Only [.regs, .srm, .flt, .pin] s t))

/-- DMA fetches and MOVE. A channel whose counter has left its program, whose instruction cannot be fetched, or whose instruction is
reserved halts in ERROR with its cause reported; an index MOVE copies the bytes that its descriptor names, marks a transfer that meets
a bus error as bad and skips one that is marked; a two-dimensional MOVE copies its lines; only the destination bytes of memory change.
Commands that it shows to complete, so that exec answers a next state with their own effect: moveIndex, moveTwoDimensional. It rests
on parts of R484, R486, R487, R488, R489, R496, R497, R499, R500, R501. The model's choices it rests on: log entries 111, 136, 143,
180. -/
def Obligations.DmaMoves : Prop :=
  (∀ (s : State) (i : Instr) (c : Nat) (fab : Option (Nat × Nat)), Ready i s →
      i ∈ [Instr.moveIndex c fab, .moveTwoDimensional c fab, .loop c, .wait c, .waitSlot c, .signal c, .flagWrite c] →
      32 ≤ c ∨ (s.ch c).state ≠ .running →
    Gives i s (Still s)) ∧
  (∀ (s : State) (i : Instr) (c : Nat) (fab : Option (Nat × Nat)), Ready i s →
      i ∈ [Instr.moveIndex c fab, .moveTwoDimensional c fab, .loop c, .wait c, .waitSlot c, .signal c, .flagWrite c] → c < 32 →
      (s.ch c).state = .running → 1023 < (s.ch c).pc →
    Gives i s (Still
      { s.modCh c fun x => { x with state := .error, cause := 1, waitOn := none } with
        flt := { s.flt with
          inbox := joinReports s.now {
            source := 256 + c, kind := 17, addr := (s.rv64 (.dmaChProgLo c) (.dmaChProgHi c) + 32 * (s.ch c).pc) % 2 ^ 40,
            severity := 2 } s.flt.inbox } })) ∧
  (∀ (s : State) (i : Instr) (c : Nat) (fab : Option (Nat × Nat)), Ready i s →
      i ∈ [Instr.moveIndex c fab, .moveTwoDimensional c fab, .loop c, .wait c, .waitSlot c, .signal c, .flagWrite c] → c < 32 →
      (s.ch c).state = .running → (s.ch c).pc ≤ 1023 →
      (s.firstFault (s.rv64 (.dmaChProgLo c) (.dmaChProgHi c) + 32 * (s.ch c).pc) 32 true).isSome = true →
    Gives i s (Still
      { s.modCh c fun x => { x with state := .error, cause := 2, waitOn := none } with
        flt := { s.flt with
          inbox := joinReports s.now {
            source := 256 + c, kind := 18, addr := (s.rv64 (.dmaChProgLo c) (.dmaChProgHi c) + 32 * (s.ch c).pc) % 2 ^ 40,
            severity := 2 } s.flt.inbox } })) ∧
  (∀ (s : State) (i : Instr) (c : Nat) (fab : Option (Nat × Nat)) (b : List Byte), Ready i s →
      i ∈ [Instr.moveIndex c fab, .moveTwoDimensional c fab, .loop c, .wait c, .waitSlot c, .signal c, .flagWrite c] → c < 32 →
      (s.ch c).state = .running → (s.ch c).pc ≤ 1023 →
      s.firstFault (s.rv64 (.dmaChProgLo c) (.dmaChProgHi c) + 32 * (s.ch c).pc) 32 true = none → s.dmaInstr c = b →
      s.dmaBadProg c b = true →
    Gives i s (Still
      { s.modCh c fun x => { x with state := .error, cause := 1, waitOn := none } with
        flt := { s.flt with
          inbox := joinReports s.now {
            source := 256 + c, kind := 17, addr := (s.rv64 (.dmaChProgLo c) (.dmaChProgHi c) + 32 * (s.ch c).pc) % 2 ^ 40,
            severity := 2 } s.flt.inbox } })) ∧
  (∀ (s : State) (c : Nat) (b : List Byte), Ready (.loop c) s → c < 32 → (s.ch c).state = .running → (s.ch c).pc ≤ 1023 →
      s.firstFault (s.rv64 (.dmaChProgLo c) (.dmaChProgHi c) + 32 * (s.ch c).pc) 32 true = none → s.dmaInstr c = b →
      s.dmaBadProg c b = false → diOp b ≠ 2 →
    Gives (.loop c) s (Still s)) ∧
  (∀ (s : State) (c pc src dst len : Nat) (b d : List Byte), Ready (.moveIndex c none) s → c < 32 → (s.ch c).state = .running →
      (s.ch c).pc ≤ 1023 → s.firstFault (s.rv64 (.dmaChProgLo c) (.dmaChProgHi c) + 32 * (s.ch c).pc) 32 true = none →
      s.dmaInstr c = b → s.dmaBadProg c b = false → diOp b = 1 → diMode b = 0 → diCount b = 1 → (s.ch c).pc = pc →
      agetD (s.ch c).cursors pc 0 = 0 → s.firstFault (leAt b 8 8) 16 true = none → s.dmaBytes (leAt b 8 8) 16 = d → leAt d 15 1 = 0 →
      (leAt b 16 8 + leAt d 0 6) % 2 ^ 48 = src → (leAt b 24 8 + leAt d 6 6) % 2 ^ 48 = dst → leAt d 12 3 = len → 0 < len →
      s.moveFault src dst len none = none → dst + len ≤ 2 ^ 48 → s.cch.side = [] → diEnd b = false →
    Gives (.moveIndex c none) s fun t =>
      t.ch c = { s.ch c with cursors := aput (s.ch c).cursors pc 1, pc := pc + 1, progress := s.now, waitOn := none } ∧
      (∀ d, d ≠ c → t.ch d = s.ch d) ∧
      (∀ i, i < len → t.dmaByte (dst + i) = s.dmaByte ((src + i) % 2 ^ 48)) ∧
      (∀ a, a < dst ∨ dst + len ≤ a → t.dmaByte a = s.dmaByte a) ∧
      Only [.dma, .hbm, .srm, .cch, .chn] s t) ∧
  (∀ (s : State) (c pc : Nat) (b d : List Byte), Ready (.moveIndex c none) s → c < 32 → (s.ch c).state = .running →
      (s.ch c).pc ≤ 1023 → s.firstFault (s.rv64 (.dmaChProgLo c) (.dmaChProgHi c) + 32 * (s.ch c).pc) 32 true = none →
      s.dmaInstr c = b → s.dmaBadProg c b = false → diOp b = 1 → diMode b = 0 → diCount b = 1 → (s.ch c).pc = pc →
      agetD (s.ch c).cursors pc 0 = 0 → s.firstFault (leAt b 8 8) 16 true = none → s.dmaBytes (leAt b 8 8) 16 = d →
      (leAt d 15 1).testBit 0 = true → diEnd b = false →
    Gives (.moveIndex c none) s (Still
      ((s.modCh c fun x => { x with
        cursors := aput x.cursors pc 1, badCnt := satInc x.badCnt 0xFFFF, pc := pc + 1, progress := s.now, waitOn := none }).grantsEnd c))) ∧
  (∀ (s : State) (c pc src dst len o kind a : Nat) (b d : List Byte), Ready (.moveIndex c none) s → c < 32 →
      (s.ch c).state = .running → (s.ch c).pc ≤ 1023 →
      s.firstFault (s.rv64 (.dmaChProgLo c) (.dmaChProgHi c) + 32 * (s.ch c).pc) 32 true = none → s.dmaInstr c = b →
      s.dmaBadProg c b = false → diOp b = 1 → diMode b = 0 → diCount b = 1 → (s.ch c).pc = pc → agetD (s.ch c).cursors pc 0 = 0 →
      s.firstFault (leAt b 8 8) 16 true = none → s.dmaBytes (leAt b 8 8) 16 = d → leAt d 15 1 = 0 →
      (leAt b 16 8 + leAt d 0 6) % 2 ^ 48 = src → (leAt b 24 8 + leAt d 6 6) % 2 ^ 48 = dst → leAt d 12 3 = len → 0 < len →
      s.moveFault src dst len none = some (o, kind, a) → s.addrFault ((leAt b 8 8 + 15) % 2 ^ 48) = none → diEnd b = false →
    Gives (.moveIndex c none) s fun t =>
      t.ch c = { s.ch c with
        cursors := aput (s.ch c).cursors pc 1, pc := pc + 1, progress := s.now, waitOn := none, badCnt := satInc (s.ch c).badCnt 0xFFFF,
        lastKind := kind, eaddr := a } ∧
      (t.dmaByte ((leAt b 8 8 + 15) % 2 ^ 48)).getLsbD 0 = true ∧ t.free = s.free + 1 ∧
      t.flt.inbox = joinReports s.now { source := 256 + c, kind := kind, addr := a % 2 ^ 40, severity := 1 } s.flt.inbox ∧
      (∀ d, d ≠ c → t.ch d = s.ch d) ∧ Only [.free, .dma, .hbm, .srm, .cch, .chn, .flt] s t) ∧
  (∀ (s : State) (c pc src dst len : Nat) (b : List Byte), Ready (.moveTwoDimensional c none) s → c < 32 → (s.ch c).state = .running →
      (s.ch c).pc ≤ 1023 → s.firstFault (s.rv64 (.dmaChProgLo c) (.dmaChProgHi c) + 32 * (s.ch c).pc) 32 true = none →
      s.dmaInstr c = b → s.dmaBadProg c b = false → diOp b = 1 → diMode b = 1 → (s.ch c).pc = pc → agetD (s.ch c).cursors pc 0 = 0 →
      diBad b = false → diTarget b = 1 → leAt b 8 6 = src → leAt b 24 6 = dst → diCount b = len →
      s.moveFault src dst len none = none → dst + len ≤ 2 ^ 48 → s.cch.side = [] → diEnd b = false →
    Gives (.moveTwoDimensional c none) s fun t =>
      t.ch c = { s.ch c with cursors := aput (s.ch c).cursors pc 1, pc := pc + 1, progress := s.now, waitOn := none } ∧
      (∀ d, d ≠ c → t.ch d = s.ch d) ∧
      (∀ i, i < len → t.dmaByte (dst + i) = s.dmaByte ((src + i) % 2 ^ 48)) ∧
      (∀ a, a < dst ∨ dst + len ≤ a → t.dmaByte a = s.dmaByte a) ∧
      Only [.dma, .hbm, .srm, .cch, .chn] s t) ∧
  (∀ (s : State) (c pc : Nat) (b : List Byte), Ready (.moveTwoDimensional c none) s → c < 32 → (s.ch c).state = .running →
      (s.ch c).pc ≤ 1023 → s.firstFault (s.rv64 (.dmaChProgLo c) (.dmaChProgHi c) + 32 * (s.ch c).pc) 32 true = none →
      s.dmaInstr c = b → s.dmaBadProg c b = false → diOp b = 1 → diMode b = 1 → (s.ch c).pc = pc → agetD (s.ch c).cursors pc 0 = 0 →
      diBad b = true → diEnd b = false →
    Gives (.moveTwoDimensional c none) s (Still
      ((s.modCh c fun x => { x with
        cursors := aput x.cursors pc (diTarget b), badCnt := satInc x.badCnt 0xFFFF, pc := pc + 1, progress := s.now, waitOn := none }).grantsEnd c))) ∧
  (∀ (s : State) (c pc src dst len o kind a : Nat) (b : List Byte), Ready (.moveTwoDimensional c none) s → c < 32 →
      (s.ch c).state = .running → (s.ch c).pc ≤ 1023 →
      s.firstFault (s.rv64 (.dmaChProgLo c) (.dmaChProgHi c) + 32 * (s.ch c).pc) 32 true = none → s.dmaInstr c = b →
      s.dmaBadProg c b = false → diOp b = 1 → diMode b = 1 → (s.ch c).pc = pc → agetD (s.ch c).cursors pc 0 = 0 → diBad b = false →
      diTarget b = 1 → leAt b 8 6 = src → leAt b 24 6 = dst → diCount b = len → s.moveFault src dst len none = some (o, kind, a) →
      s.addrFault (((s.rv64 (.dmaChProgLo c) (.dmaChProgHi c) + 32 * (s.ch c).pc) + 1) % 2 ^ 48) = none → diEnd b = false →
    Gives (.moveTwoDimensional c none) s fun t =>
      t.ch c = { s.ch c with
        cursors := aput (s.ch c).cursors pc 1, pc := pc + 1, progress := s.now, waitOn := none, badCnt := satInc (s.ch c).badCnt 0xFFFF,
        lastKind := kind, eaddr := a } ∧
      (t.dmaByte (((s.rv64 (.dmaChProgLo c) (.dmaChProgHi c) + 32 * (s.ch c).pc) + 1) % 2 ^ 48)).getLsbD 1 = true ∧
      t.flt.inbox = joinReports s.now { source := 256 + c, kind := kind, addr := a % 2 ^ 40, severity := 1 } s.flt.inbox ∧
      (∀ d, d ≠ c → t.ch d = s.ch d) ∧ Only [.free, .dma, .hbm, .srm, .cch, .chn, .flt] s t)

/-- LOOP, WAIT, SIGNAL, DMA events, CLR and the watchdog. LOOP goes back until its passes are made; WAIT takes a counted event or waits
for one; a WAIT on a slot goes on once it is decoded and frees a slot that failed; SIGNAL posts the event of its channel or writes its
flag; an event lets a waiting channel go on, starts an armed one or is counted; CLR acts on its channel alone, START of a running
channel is refused, and a channel without progress ends in TIMEOUT. Commands that it shows to complete, so that exec answers a next
state with their own effect: loop, wait, waitSlot, signal, flagWrite, dmaEvent, timerEvent, start, clr, dmaWatchdog. It rests on parts
of R484, R489, R490, R491, R492, R493, R494, R495, R504. The model's choices it rests on: log entries 3, 5, 113. -/
def Obligations.DmaControl : Prop :=
  (∀ (s : State) (c pc : Nat) (b : List Byte), Ready (.loop c) s → c < 32 → (s.ch c).state = .running → (s.ch c).pc ≤ 1023 →
      s.firstFault (s.rv64 (.dmaChProgLo c) (.dmaChProgHi c) + 32 * (s.ch c).pc) 32 true = none → s.dmaInstr c = b →
      s.dmaBadProg c b = false → (s.ch c).pc = pc → diOp b = 2 → diCount b = 0 ∨ agetD (s.ch c).loops pc 0 + 1 < diCount b →
      diEnd b = false →
    Gives (.loop c) s (Still
      (s.modCh c fun x => { x with
        loops := aput x.loops pc (if diCount b = 0 then 0 else agetD (s.ch c).loops pc 0 + 1), pc := diTarget b, progress := s.now,
        waitOn := none }))) ∧
  (∀ (s : State) (c pc : Nat) (b : List Byte), Ready (.loop c) s → c < 32 → (s.ch c).state = .running → (s.ch c).pc ≤ 1023 →
      s.firstFault (s.rv64 (.dmaChProgLo c) (.dmaChProgHi c) + 32 * (s.ch c).pc) 32 true = none → s.dmaInstr c = b →
      s.dmaBadProg c b = false → (s.ch c).pc = pc → diOp b = 2 → diCount b ≠ 0 → diCount b ≤ agetD (s.ch c).loops pc 0 + 1 →
      diEnd b = false →
    Gives (.loop c) s (Still
      (s.modCh c fun x => { x with loops := aput x.loops pc 0, pc := pc + 1, progress := s.now, waitOn := none }))) ∧
  (∀ (s : State) (c pc : Nat) (b : List Byte), Ready (.wait c) s → c < 32 → (s.ch c).state = .running → (s.ch c).pc ≤ 1023 →
      s.firstFault (s.rv64 (.dmaChProgLo c) (.dmaChProgHi c) + 32 * (s.ch c).pc) 32 true = none → s.dmaInstr c = b →
      s.dmaBadProg c b = false → (s.ch c).pc = pc → diOp b = 3 → diMode b < 3 →
      agetD (s.ch c).counts (256 * diMode b + diCount b) 0 = 0 →
    Gives (.wait c) s (Still
      (s.modCh c fun x => { x with
        watch := if (s.ch c).watch.contains (256 * diMode b + diCount b) then (s.ch c).watch else (256 * diMode b + diCount b) :: (s.ch c).watch,
        state := .waiting, waitOn := some (256 * diMode b + diCount b), waitEnd := diEnd b, progress := s.now }))) ∧
  (∀ (s : State) (c pc n : Nat) (b : List Byte), Ready (.wait c) s → c < 32 → (s.ch c).state = .running → (s.ch c).pc ≤ 1023 →
      s.firstFault (s.rv64 (.dmaChProgLo c) (.dmaChProgHi c) + 32 * (s.ch c).pc) 32 true = none → s.dmaInstr c = b →
      s.dmaBadProg c b = false → (s.ch c).pc = pc → diOp b = 3 → diMode b < 3 →
      agetD (s.ch c).counts (256 * diMode b + diCount b) 0 = n + 1 → diEnd b = false →
    Gives (.wait c) s (Still
      (s.modCh c fun x => { x with
        watch := if (s.ch c).watch.contains (256 * diMode b + diCount b) then (s.ch c).watch else (256 * diMode b + diCount b) :: (s.ch c).watch,
        overrun := (s.ch c).overrun || n + 1 == 255, counts := acanon x.counts (256 * diMode b + diCount b) 0 n, pc := pc + 1,
        progress := s.now, waitOn := none }))) ∧
  (∀ (s : State) (c pc : Nat) (b : List Byte), Ready (.waitSlot c) s → c < 32 → (s.ch c).state = .running → (s.ch c).pc ≤ 1023 →
      s.firstFault (s.rv64 (.dmaChProgLo c) (.dmaChProgHi c) + 32 * (s.ch c).pc) 32 true = none → s.dmaInstr c = b →
      s.dmaBadProg c b = false → (s.ch c).pc = pc → diOp b = 3 → diMode b = 3 →
      s.slotState (diCount b) ((diTarget b + agetD (s.ch c).cursors pc 0) % 256) = .decoded → diEnd b = false →
    Gives (.waitSlot c) s (Still
      (s.modCh c fun x => { x with
        cursors := aput x.cursors pc (agetD (s.ch c).cursors pc 0 + 1), pc := pc + 1, progress := s.now, waitOn := none }))) ∧
  (∀ (s : State) (c pc : Nat) (b : List Byte), Ready (.waitSlot c) s → c < 32 → (s.ch c).state = .running → (s.ch c).pc ≤ 1023 →
      s.firstFault (s.rv64 (.dmaChProgLo c) (.dmaChProgHi c) + 32 * (s.ch c).pc) 32 true = none → s.dmaInstr c = b →
      s.dmaBadProg c b = false → (s.ch c).pc = pc → diOp b = 3 → diMode b = 3 →
      s.slotState (diCount b) ((diTarget b + agetD (s.ch c).cursors pc 0) % 256) = .failed → leAt b 3 1 = 0 → diEnd b = false →
    Gives (.waitSlot c) s (Still
      ((s.setSlot (diCount b) ((diTarget b + agetD (s.ch c).cursors pc 0) % 256) .free).modCh c fun x => { x with
        cursors := aput x.cursors pc (agetD (s.ch c).cursors pc 0 + 1), pc := pc + 1, progress := s.now, waitOn := none }))) ∧
  (∀ (s : State) (c pc : Nat) (b : List Byte), Ready (.waitSlot c) s → c < 32 → (s.ch c).state = .running → (s.ch c).pc ≤ 1023 →
      s.firstFault (s.rv64 (.dmaChProgLo c) (.dmaChProgHi c) + 32 * (s.ch c).pc) 32 true = none → s.dmaInstr c = b →
      s.dmaBadProg c b = false → (s.ch c).pc = pc → diOp b = 3 → diMode b = 3 →
      s.slotState (diCount b) ((diTarget b + agetD (s.ch c).cursors pc 0) % 256) ≠ .decoded →
      s.slotState (diCount b) ((diTarget b + agetD (s.ch c).cursors pc 0) % 256) ≠ .failed →
    Gives (.waitSlot c) s (Still s)) ∧
  (∀ (s : State) (c pc : Nat) (b : List Byte), Ready (.signal c) s → c < 32 → (s.ch c).state = .running → (s.ch c).pc ≤ 1023 →
      s.firstFault (s.rv64 (.dmaChProgLo c) (.dmaChProgHi c) + 32 * (s.ch c).pc) 32 true = none → s.dmaInstr c = b →
      s.dmaBadProg c b = false → (s.ch c).pc = pc → diOp b = 4 → diMode b = 0 → diEnd b = false →
    Gives (.signal c) s (Still
      { s.modCh c fun x => { x with pc := pc + 1, progress := s.now, waitOn := none } with
        dma := { (s.modCh c fun x => { x with pc := pc + 1, progress := s.now, waitOn := none }).dma with
          events := s.dma.events ++ [256 + c] } })) ∧
  (∀ (s : State) (c pc : Nat) (b : List Byte), Ready (.signal c) s → c < 32 → (s.ch c).state = .running → (s.ch c).pc ≤ 1023 →
      s.firstFault (s.rv64 (.dmaChProgLo c) (.dmaChProgHi c) + 32 * (s.ch c).pc) 32 true = none → s.dmaInstr c = b →
      s.dmaBadProg c b = false → (s.ch c).pc = pc → diOp b = 4 → diMode b = 0 → diEnd b = true → s.trigger c = none →
    Gives (.signal c) s fun t =>
      t.ch c = { s.ch c with state := .idle, progress := s.now, waitOn := none } ∧ (∀ d, d ≠ c → t.ch d = s.ch d) ∧
      t.dma.events = s.dma.events ++ [256 + c, 256 + c] ∧ Only [.dma] s t) ∧
  (∀ (s : State) (c pc a : Nat) (b : List Byte), Ready (.flagWrite c) s → c < 32 → (s.ch c).state = .running → (s.ch c).pc ≤ 1023 →
      s.firstFault (s.rv64 (.dmaChProgLo c) (.dmaChProgHi c) + 32 * (s.ch c).pc) 32 true = none → s.dmaInstr c = b →
      s.dmaBadProg c b = false → (s.ch c).pc = pc → diOp b = 4 → diMode b = 1 → leAt b 8 8 % 2 ^ 48 = a → s.addrFault a = none →
      a + 4 ≤ 2 ^ 48 → s.cch.side = [] → diEnd b = false →
    Gives (.flagWrite c) s fun t =>
      (∀ i, i < 4 → t.dmaByte (a + i) = b.getD (16 + i) 0) ∧ (∀ x, x < a ∨ a + 4 ≤ x → t.dmaByte x = s.dmaByte x) ∧
      t.ch c = { s.ch c with pc := pc + 1, progress := s.now, waitOn := none } ∧ (∀ d, d ≠ c → t.ch d = s.ch d) ∧
      Only [.dma, .hbm, .srm, .cch, .chn] s t) ∧
  (∀ (s : State) (c pc a k : Nat) (b : List Byte), Ready (.flagWrite c) s → c < 32 → (s.ch c).state = .running → (s.ch c).pc ≤ 1023 →
      s.firstFault (s.rv64 (.dmaChProgLo c) (.dmaChProgHi c) + 32 * (s.ch c).pc) 32 true = none → s.dmaInstr c = b →
      s.dmaBadProg c b = false → (s.ch c).pc = pc → diOp b = 4 → diMode b = 1 → leAt b 8 8 % 2 ^ 48 = a → s.addrFault a = some k →
      diEnd b = false →
    Gives (.flagWrite c) s (Still
      { s.modCh c fun x => { x with badCnt := satInc x.badCnt 0xFFFF, lastKind := k, eaddr := a, pc := pc + 1, progress := s.now, waitOn := none } with
        flt := { s.flt with
          inbox := joinReports s.now { source := 256 + c, kind := k, addr := a % 2 ^ 40, severity := 1 } s.flt.inbox } })) ∧
  (∀ (s : State), Ready .dmaEvent s → s.dma.events = [] →
    Gives .dmaEvent s (Still s)) ∧
  (∀ (s : State) (e c : Nat) (rest : List Nat), Ready .dmaEvent s → s.dma.events = e :: rest → c < 32 →
      ∀ d, d < 32 → d ≠ c → dmaActive (s.ch d).state = false → (s.ch c).state = .waiting → (s.ch c).waitOn = some e →
      (s.ch c).waitEnd = false →
    Gives .dmaEvent s fun t =>
      t.ch c = { s.ch c with state := .running, pc := (s.ch c).pc + 1, progress := s.now, waitOn := none } ∧
      t.dma.events = rest ∧ (∀ d, d ≠ c → t.ch d = s.ch d) ∧ Only [.dma] s t) ∧
  (∀ (s : State) (e c : Nat) (rest : List Nat), Ready .dmaEvent s → s.dma.events = e :: rest → c < 32 →
      ∀ d, d < 32 → d ≠ c → dmaActive (s.ch d).state = false → (s.ch c).state = .armed → s.trigger c = some e →
      (s.ch c).waitOn = none →
    Gives .dmaEvent s fun t =>
      t.ch c = { s.ch c with state := .running, pc := 0, progress := s.now } ∧
      t.dma.events = rest ∧ (∀ d, d ≠ c → t.ch d = s.ch d) ∧ Only [.dma] s t) ∧
  (∀ (s : State) (e c : Nat) (rest : List Nat), Ready .dmaEvent s → s.dma.events = e :: rest → c < 32 →
      ∀ d, d < 32 → d ≠ c → dmaActive (s.ch d).state = false → (s.ch c).state = .running →
    Gives .dmaEvent s fun t =>
      t.ch c = { s.ch c with
        counts := acanon (s.ch c).counts e 0 (satInc (agetD (s.ch c).counts e 0) 255),
        overrun := (s.ch c).overrun || (decide (255 ≤ agetD (s.ch c).counts e 0 + 1) && (s.trigger c == some e || (s.ch c).watch.contains e)) } ∧
      t.dma.events = rest ∧ (∀ d, d ≠ c → t.ch d = s.ch d) ∧ Only [.dma] s t) ∧
  (∀ (s : State) (n d : Nat), Ready (.timerEvent n) s → aget s.dma.timers n = some d →
    Gives (.timerEvent n) s fun t =>
      t.now = max s.now d ∧ aget t.dma.timers n = some (d + srvNs (fld (s.rv (.dmaTm n)) 23 0)) ∧
      (∀ m, m ≠ n → aget t.dma.timers m = aget s.dma.timers m) ∧ t.dma.events = s.dma.events ++ [n] ∧ (∀ c, t.ch c = s.ch c) ∧
      t.eqt.cmds = s.eqt.cmds ∧ Only [.clock, .tim, .dma] s t) ∧
  (∀ (s : State) (n : Nat), Ready (.timerEvent n) s → aget s.dma.timers n = none →
    Gives (.timerEvent n) s (Still s)) ∧
  (∀ (s : State) (ag : Agent) (c : Nat) (v : Word), Ready (.clr ag c v) s → Accepts s (.dmaChCtl c) v → bit v 31 = false →
      bit v 30 = false →
    Gives (.clr ag c v) s (Still
      (s.wrote (s.modCh c fun x => { x with badCnt := if bit v 29 then 0 else x.badCnt }) ag (.dmaChCtl c)))) ∧
  (∀ (s : State) (ag : Agent) (c : Nat) (v : Word), Ready (.start ag c v) s → regAt (regAddr (.dmaChCtl c)) = some (.dmaChCtl c) →
      s.blockOff (.dmaChCtl c) = false → bit v 31 = true → bit v 30 = false → dmaActive (s.ch c).state = true →
    Gives (.start ag c v) s (Still (s.turnedAway ag 2 (regAddr (.dmaChCtl c)) 1))) ∧
  (∀ (s : State) (c w : Nat), Ready (.dmaWatchdog c) s → fld (s.rv (.dmaChCfg c)) 15 0 = w → w ≠ 0 →
      (s.ch c).state = .running ∨ (s.ch c).state = .waiting →
    Gives (.dmaWatchdog c) s fun t =>
      t.now = max s.now ((s.ch c).progress + 16000 * w) ∧
      t.ch c = { s.ch c with state := .timeout, cause := 4, waitOn := none } ∧ (∀ d, d ≠ c → t.ch d = s.ch d) ∧
      t.flt.inbox = joinReports t.now { source := 256 + c, kind := 20, addr := (s.rv64 (.dmaChProgLo c) (.dmaChProgHi c) + 32 * (s.ch c).pc) % 2 ^ 40, severity := 2 } s.flt.inbox ∧
      t.eqt.cmds = s.eqt.cmds ∧ Only [.clock, .tim, .dma, .flt] s t) ∧
  (∀ (s : State) (c : Nat), Ready (.dmaWatchdog c) s →
      fld (s.rv (.dmaChCfg c)) 15 0 = 0 ∨ (s.ch c).state ≠ .running ∧ (s.ch c).state ≠ .waiting →
    Gives (.dmaWatchdog c) s (Still s))

/-- STOP stops a running channel and keeps its cursors and counters; START then begins anew. Between two rows a channel stands at a
boundary: an accepted STOP write of an armed, running or waiting channel leaves it stopped, with its program counter, cursors, loop
counters and event counts as they were, and any other channel as it was. An accepted START clears the counter, the cursors, the loop
counters and the event counts and arms the channel where it has a trigger, or runs it. Commands that it shows to complete, so that
exec answers a next state with their own effect: start, stop. -/
def Obligations.DmaStopAndStart : Prop :=
  (∀ (s : State) (ag : Agent) (c : Nat) (v : Word), Ready (.start ag c v) s → Accepts s (.dmaChCtl c) v → bit v 31 = true →
    Gives (.start ag c v) s (Still
      (s.wrote (s.modCh c fun x => { x with
        state := if (s.trigger c).isSome then .armed else .running, pc := 0, cursors := [], loops := [], counts := [], watch := [],
        waitOn := none, progress := s.now, badCnt := if bit v 29 then 0 else x.badCnt }) ag (.dmaChCtl c)))) ∧
  (∀ (s : State) (ag : Agent) (c : Nat) (v : Word), Ready (.stop ag c v) s → Accepts s (.dmaChCtl c) v → bit v 31 = false →
      bit v 30 = true →
    Gives (.stop ag c v) s (Still
      (s.wrote (s.modCh c fun x => { x with
        state := if dmaActive x.state then .stopped else x.state, waitOn := if dmaActive x.state then none else x.waitOn,
        badCnt := if bit v 29 then 0 else x.badCnt }) ag (.dmaChCtl c))))

/-- Entry to an operating point, its participants, WAKE, the end of an exit, and Off. With a target, in Run, with the quiet conditions
held, the entry begins QUIET_MS after they began to hold and stops participant 1; a ready participant passes to the next, participant
8 completes the point; a refusal is recorded with its participant and reason and the stopped participants restart; with a wake event
pending the entry is abandoned; WAKE raises RAIL_EN in Off and begins the exit in any other point below Run; an exit whose last
participants restart ends in Run, and participant 2 counts its checkpoint interval from then. Commands that it shows to complete, so
that exec answers a next state with their own effect: powerEntryBegin, participantReady, wakeExit, wakeAssert. It rests on parts of
R508, R513, R514, R515, R516, R517, R518, R519, R634. The model's choices it rests on: log entries 3, 27, 46, 47. -/
def Obligations.PowerPoints : Prop :=
  (∀ (s : State) (q : Nat), Ready .powerEntryBegin s → s.pwr.quietSince = some q → s.pwr.target ≠ 0xFF → s.pwr.point = 0 →
      s.pwr.change = none → s.quiet = true →
    let u := s.advanceTo (q + 1000000 * fld (s.rv .pwrCfg) 23 16)
    Gives .powerEntryBegin s fun t =>
      t.pwr.change = some (.entering s.pwr.target u.pair u.now 1 u.now) ∧ t.pwr.wake = 0 ∧ t.pwr.savedSpn = s.rv .spnCtl ∧
      t.pwr.parked = [] ∧ t.pwr.point = 0 ∧ t.now = u.now ∧ Only [.clock, .tim, .pwr, .eqt] s t) ∧
  (∀ (s : State) (rep : Bool) (target begun x : Nat) (p : Pair), Ready (.participantReady rep) s →
      s.pwr.change = some (.entering target p begun 6 x) →
      ((List.range 32).any fun k => (s.ch k).state == .running || (s.ch k).state == .waiting) = false → s.pwr.wake = 0 →
      target < 0x35 →
    Gives (.participantReady rep) s (Still { s with pwr := { s.pwr with change := some (.entering target p begun 7 s.now) } })) ∧
  (∀ (s : State) (rep : Bool) (target begun x : Nat) (p : Pair), Ready (.participantReady rep) s →
      s.pwr.change = some (.entering target p begun 6 x) →
      ((List.range 32).any fun k => (s.ch k).state == .running || (s.ch k).state == .waiting) = true →
    Gives (.participantReady rep) s (Still
      { s with
        pwr := { s.pwr with
          change := some (.exiting 5 false), lastPart := 6, lastReason := 0x50, target := 0xFF, wake := 0,
          refused := s.pwr.refused + 1,
          attempts := ({
            pair := p, target := target, outcome := 2, part := 6, reason := 0x50, durationUs := (s.now - begun) / 1000 } :: s.pwr.attempts).take 16 } })) ∧
  (∀ (s : State) (rep : Bool) (target begun x : Nat) (p : Pair), Ready (.participantReady rep) s →
      s.pwr.change = some (.entering target p begun 8 x) → s.pwr.wake = 0 → target ≠ 0x45 →
    Gives (.participantReady rep) s fun t =>
      t.pwr.change = none ∧ t.pwr.point = target ∧ t.pwr.target = 0xFF ∧ t.pwr.entered = s.pwr.entered + 1 ∧
      t.pwr.attempts = ({ pair := p, target := target, outcome := 0, part := 0, reason := 0, durationUs := (s.now - begun) / 1000 } ::
        s.pwr.attempts).take 16 ∧ (t.src 16).value = BitVec.ofNat 32 target ∧ Only [.pwr, .plc] s t) ∧
  (∀ (s : State) (rep : Bool) (target begun x : Nat) (p : Pair), Ready (.participantReady rep) s →
      s.pwr.change = some (.entering target p begun 8 x) → s.pwr.wake ≠ 0 →
    Gives (.participantReady rep) s (Still
      { s with
        pwr := { s.pwr with
          change := some (.exiting 8 false), target := 0xFF, wake := 0, aborted := s.pwr.aborted + 1,
          attempts := ({
            pair := p, target := target, outcome := 1, part := 0, reason := s.pwr.wake, durationUs := (s.now - begun) / 1000 } :: s.pwr.attempts).take 16 } })) ∧
  (∀ (s : State), Ready .wakeAssert s → s.pwr.point = 0x45 →
    Gives .wakeAssert s (Still { s with pwr := { s.pwr with railEn := true } })) ∧
  (∀ (s : State), Ready .wakeAssert s → s.pwr.point ≠ 0x45 → s.pwr.point ≠ 0 → s.pwr.change = none →
    Gives .wakeAssert s (Still { s with pwr := { s.pwr with change := some (.exiting 8 false) } })) ∧
  (∀ (s : State), Ready .wakeExit s → s.pwr.change = some (.exiting 2 false) → s.pwr.point ≠ 0 →
    Gives .wakeExit s fun t =>
      t.pwr.change = none ∧ t.pwr.point = 0 ∧ t.pwr.wake = 0 ∧ t.plc.ckptLast = s.now ∧ (t.src 16).value = 0 ∧ Only [.pwr, .plc] s t)

/-- The supply level, the stages, umbra at the loss of PWRGOOD, and what a save leaves. PWRGOOD falling declares umbra in every point but
Off and fixes the save; a save whose sectors are all written and verified is recorded as whole, one that the fall of the speed ends as
cut, either becomes a generation, and a save goes on until then; a warm reset in umbra is deferred; RESET_N falling where nothing runs
only shows at the pin; A sample is taken 1 us after the last, the level is the mean of the last four, and for each threshold the
moments since which the level has stood below it, or at or above it plus HYST, are kept; PN1 is entered once the level has stayed
below its threshold for DEB_US and left once it has stood above for REC_MS, each reported and D_max computed anew. Commands that it
shows to complete, so that exec answers a next state with their own effect: warmReset, supplySample, stageEnter, stageLeave,
pwrgoodFall, eclipseSaveEnd, resetNFall. It rests on parts of R525, R526, R527, R528, R530, R534, R538, R539, R540, R637. The model's
choices it rests on: log entries 3, 42, 48, 49, 173, 174, 175. -/
def Obligations.SupplyLoss : Prop :=
  (∀ (s : State), Ready .pwrgoodFall s → s.running = true → s.pwr.point = 0 → s.pwr.umbra = false → s.pwr.stage = 3 →
      s.eqt.activation = none →
    Gives .pwrgoodFall s fun t =>
      t.pwr.umbra = true ∧ t.pwr.pwrgood = false ∧ t.pwr.stage = 3 ∧ t.eqt.activation = none ∧
      t.pwr.save.map (fun v => (v.pair, v.gen, v.blocks, v.deltas)) =
        some (s.pair, s.plc.genNo + 1, s.unplaced, avals (afilter s.plc.journal fun _ r => !r.onMedia)) ∧
      t.pwr.save.map (fun v => (v.area, v.ended, v.outcome, v.spots)) = some (s.saveArea, false, 0, []) ∧
      t.orb.pieces = [] ∧ t.chn.ladders = [] ∧ t.spn.state = .coast ∧ t.now = s.now ∧ t.tim.tick = s.tim.tick ∧
      Only [.regs, .flt, .eqt, .plc, .orb, .sce, .spn, .chn, .wrp, .seq, .pwr, .tim, .srm] s t) ∧
  (∀ (s : State), Ready .pwrgoodFall s → s.running = false →
    Gives .pwrgoodFall s (Still { s with pwr := { s.pwr with pwrgood := false } })) ∧
  (∀ (s : State) (v : Save), Ready .eclipseSaveEnd s → s.pwr.save = some v → v.ended = false → s.saveWhole v = true → v.blocks ≠ [] →
      s.pwr.umbra = true → s.pwr.resetPending = true →
    Gives .eclipseSaveEnd s fun t =>
      t.pwr.lastSave = { gen := v.gen, pair := v.pair, manifest := spotCount v isManifest, eclipse := spotCount v isEclBlock,
                           delta := spotCount v isDelta, outcome := 1 } ∧
      t.pwr.save = some { v with ended := true, outcome := 1, shares := [], posted := [] } ∧ t.pwr.umbra = true ∧
      t.plc.genNo = v.gen ∧
      aget t.plc.generations v.area = some { pair := v.pair, gen := v.gen, blocks := v.blocks, deltas := v.deltas, spots := v.spots } ∧
      (∀ k, k ≠ v.area → aget t.plc.generations k = aget s.plc.generations k) ∧
      Only [.regs, .flt, .plc, .sce, .chn, .wrp, .seq, .pwr] s t) ∧
  (∀ (s : State) (v : Save), Ready .eclipseSaveEnd s → s.pwr.save = some v → v.ended = false → s.saveWhole v = false →
      (s.spn.speed : Rat) / 16 ≤ sMin s.sec.pers → v.blocks ≠ [] → s.pwr.umbra = true → s.pwr.resetPending = true →
    Gives .eclipseSaveEnd s fun t =>
      t.pwr.lastSave = { gen := v.gen, pair := v.pair, manifest := spotCount v isManifest, eclipse := spotCount v isEclBlock,
                           delta := spotCount v isDelta, outcome := 2 } ∧
      t.pwr.save = some { v with ended := true, outcome := 2, shares := [], posted := [] } ∧ t.pwr.umbra = true ∧
      t.plc.genNo = v.gen ∧
      aget t.plc.generations v.area = some { pair := v.pair, gen := v.gen, blocks := v.blocks, deltas := v.deltas, spots := v.spots } ∧
      (∀ k, k ≠ v.area → aget t.plc.generations k = aget s.plc.generations k) ∧
      Only [.regs, .flt, .plc, .sce, .chn, .wrp, .seq, .pwr] s t) ∧
  (∀ (s : State) (v : Save), Ready .eclipseSaveEnd s → s.pwr.save = some v → v.ended = false → s.saveWhole v = false →
      sMin s.sec.pers < (s.spn.speed : Rat) / 16 →
    Gives .eclipseSaveEnd s (Still s)) ∧
  (∀ (s : State), Ready .eclipseSaveEnd s → s.pwr.save = none →
    Gives .eclipseSaveEnd s (Still s)) ∧
  (∀ (s : State), Ready .warmReset s → s.pwr.umbra = true →
    Gives .warmReset s (Still { s with pwr := { s.pwr with warmPending := true } })) ∧
  (∀ (s : State), Ready .resetNFall s → s.running = false →
    Gives .resetNFall s (Still { s.advance 1000 with pwr := { s.pwr with resetN := false } })) ∧
  (∀ (s : State), Ready .resetNFall s → s.running = true → s.pwr.point ≠ 0x45 → s.pwr.pwrgood = true → s.pwr.umbra = true →
    Gives .resetNFall s (Still { s.advance 1000 with pwr := { s.pwr with resetN := false, resetPending := true } })) ∧
  (∀ (s : State) (mv : Nat), Ready (.supplySample mv) s →
    Gives (.supplySample mv) s fun t =>
      t.now = max s.now s.pwr.sampleDue ∧ t.pwr.sampleDue = t.now + 1000 ∧
      t.pwr.samples = (min mv 15000 / 5 * 5 :: s.pwr.samples).take 4 ∧ t.pwr.level = t.pwr.samples.sum / t.pwr.samples.length ∧
      t.pwr.minMv = min s.pwr.minMv t.pwr.level ∧
      (∀ k, 1 ≤ k → k ≤ 4 →
        ((aget t.pwr.belowAt k).isSome = true ↔ t.pwr.level < s.sagMv k) ∧
        ((aget t.pwr.aboveAt k).isSome = true ↔ s.sagMv k + s.hystMv ≤ t.pwr.level)) ∧
      Only [.clock, .tim, .pwr] s t) ∧
  (∀ (s : State) (m : Nat), Ready .stageEnter s → s.stageCode = 0 → aget s.pwr.belowAt 1 = some m → s.wrp.sweep.busy = false →
    Gives .stageEnter s fun t =>
      t.pwr.stage = 1 ∧ t.pwr.umbra = false ∧ t.pwr.stageChanged = t.now ∧ t.now = max s.now (m + 1000 * fld (s.rv .pwrSagTim) 23 16) ∧
      t.flt.inbox = joinReports t.now { source := 296, kind := 1, addr := 0, severity := 0 } s.flt.inbox ∧
      Only [.clock, .tim, .flt, .pwr, .plc, .seq] s t) ∧
  (∀ (s : State) (m : Nat), Ready .stageLeave s → s.pwr.umbra = false → s.pwr.stage = 1 → aget s.pwr.aboveAt 1 = some m →
      s.targetRpm = s.spn.target →
    Gives .stageLeave s fun t =>
      t.pwr.stage = 0 ∧ t.pwr.stageChanged = t.now ∧
      t.now = max s.now (max m s.pwr.stageChanged + 1000000 * fld (s.rv .pwrSagTim) 15 0) ∧
      Only [.clock, .tim, .pwr, .plc] s t)

/-- What a cold boot and a warm chip reset leave. A boot with every stack trained and no checker failed puts four stacks in use, starts
the count UNSET with no session and no command, and puts the first bank that passes into force or enters RECOVERY; with too few stacks
it stops with a fatal report; a warm chip reset leaves the count, the sequence counter and the time state, empties SRAM, the cache,
the latches and the DMA engine, and its moment is kept for R574. Commands that it shows to complete, so that exec answers a next state
with their own effect: warmReset, coldBoot. It rests on parts of R198, R468, R470, R506, R548, R549, R606, R607, R608. The model's
choices it rests on: log entries 35, 88, 89, 92, 93. -/
def Obligations.BootAndWarmReset : Prop :=
  (∀ (s : State), Ready (.coldBoot 15 0 0) s → s.pwr.pwrgood = true → s.pwr.railEn = true → s.running = false →
    Gives (.coldBoot 15 0 0) s fun t =>
      t.hbm.inUse = 15 ∧ t.hbm.failed = 0 ∧ t.hbm.redundant = true ∧ t.eqt.sessions = [] ∧ t.eqt.cmds = [] ∧ t.eqt.acceptCmds = false ∧
      t.tim.state = .unset ∧ t.tim.tick = 0 ∧ t.now = s.now ∧ t.plc.blocks = [] ∧ t.plc.rebuilt = false ∧ t.sec.flash = s.sec.flash ∧
      t.sec.fuses = s.sec.fuses ∧
      (∀ b, b = (match s.selector with | some (_, b, _) => b | none => 0) →
        (s.bankVerdict b = none → t.sec.booted = true ∧ t.sec.bank = b ∧ t.sec.fallback = false ∧ t.sec.recovery = false) ∧
        (s.bankVerdict b ≠ none → s.bankVerdict (1 - b) = none →
          t.sec.booted = true ∧ t.sec.bank = 1 - b ∧ t.sec.fallback = true ∧ t.sec.recovery = false) ∧
        (s.bankVerdict b ≠ none → s.bankVerdict (1 - b) ≠ none → t.sec.booted = false ∧ t.sec.recovery = true ∧ t.errN = true))) ∧
  (∀ (s : State), Ready (.coldBoot 3 0 0) s → s.pwr.pwrgood = true → s.pwr.railEn = true → s.running = false →
    Gives (.coldBoot 3 0 0) s fun t =>
      t.sec.booted = false ∧ t.sec.recovery = false ∧ t.hbm.inUse = 3 ∧
      (s.now, ({ source := 226, kind := 4, addr := 0, severity := 3 } : Report)) ∈ t.flt.inbox) ∧
  (∀ (s : State), Ready .warmReset s → s.pwr.umbra = false → s.eqt.activation = none → s.pwr.change = none → s.pwr.point = 0 →
    Gives .warmReset s fun t =>
      t.tim.tick = s.tim.tick ∧ t.tim.state = s.tim.state ∧ t.now = s.now ∧ t.latches = [] ∧ t.srm.mem = [] ∧ t.cch.lines = [] ∧
      t.dma.chans = [] ∧ t.dma.events = [] ∧ t.seq.words = s.sec.pers.words ∧ t.seq.stopReq = false ∧ t.chn.ladders = [] ∧
      t.flt.lastWarm = some s.now ∧ t.pwr.point = 0 ∧
      Only [.regs, .latches, .flt, .eqt, .plc, .orb, .chn, .seq, .dma, .pwr, .hbm, .srm, .cch] s t)
end

