-- ==== Sys2Proof/Laws/Maps.lean ====
section
/-! SUPPORT. Sparse maps: reading after writing, and the canonical form of a sparse memory. -/

namespace Sys2Proof.Machine

variable {α : Type}

theorem aget_aput_same (m : Assoc α) (k : Nat) (v : α) : aget (aput m k v) k = some v := by
  induction m with
  | nil => simp [aput, aget]
  | cons e m ih =>
    obtain ⟨j, w⟩ := e
    simp only [aput]
    split
    · simp [aget]
    · split
      · simp [aget]
      · rename_i h
        simp only [aget, ih]
        simp [Ne.symm h]

theorem aget_aput_other (m : Assoc α) {k j : Nat} (v : α) (h : j ≠ k) : aget (aput m k v) j = aget m j := by
  induction m with
  | nil => simp [aput, aget, Ne.symm h]
  | cons e m ih =>
    obtain ⟨i, w⟩ := e
    simp only [aput]
    split
    · simp [aget, Ne.symm h]
    · split
      · rename_i hk
        subst hk
        simp [aget, Ne.symm h]
      · simp only [aget, ih]

theorem aget_adel_same (m : Assoc α) (k : Nat) : aget (adel m k) k = none := by
  induction m with
  | nil => rfl
  | cons e m ih =>
    obtain ⟨j, w⟩ := e
    simp only [adel]
    split
    · exact ih
    · rename_i h
      simp [aget, ih, h]

theorem aget_adel_other (m : Assoc α) {k j : Nat} (h : j ≠ k) : aget (adel m k) j = aget m j := by
  induction m with
  | nil => rfl
  | cons e m ih =>
    obtain ⟨i, w⟩ := e
    simp only [adel]
    split
    · rename_i hk
      subst hk
      simp [aget, Ne.symm h, ih]
    · simp only [aget, ih]

@[simp] theorem agetD_aput_same (m : Assoc α) (k : Nat) (v d : α) : agetD (aput m k v) k d = v := by
  simp [agetD, aget_aput_same]

theorem agetD_aput_other (m : Assoc α) {k j : Nat} (v d : α) (h : j ≠ k) : agetD (aput m k v) j d = agetD m j d := by
  simp [agetD, aget_aput_other m v h]

@[simp] theorem agetD_acanon_same [DecidableEq α] (m : Assoc α) (k : Nat) (d v : α) : agetD (acanon m k d v) k d = v := by
  simp only [acanon]
  split
  · rename_i h
    simp [agetD, aget_adel_same, h]
  · simp

theorem agetD_acanon_other [DecidableEq α] (m : Assoc α) {k j : Nat} (d v e : α) (h : j ≠ k) :
    agetD (acanon m k d v) j e = agetD m j e := by
  simp only [acanon]
  split
  · simp [agetD, aget_adel_other m h]
  · rw [agetD_aput_other _ v e h]
    simp [agetD, aget_adel_other m h]

theorem adel_adel (m : Assoc α) (k : Nat) : adel (adel m k) k = adel m k := by
  induction m with
  | nil => rfl
  | cons e rest ih =>
    obtain ⟨j, w⟩ := e
    simp only [adel]
    split
    · exact ih
    · rename_i h
      simp [adel, h, ih]

theorem adel_aput_adel (m : Assoc α) (k : Nat) (v : α) : adel (aput (adel m k) k v) k = adel m k := by
  induction m with
  | nil => simp [adel, aput]
  | cons e rest ih =>
    obtain ⟨j, w⟩ := e
    simp only [adel]
    split
    · exact ih
    · rename_i h
      simp only [aput]
      split
      · simp [adel, h, adel_adel]
      · rw [if_neg fun e => h e.symm]
        simp [adel, h, ih]

/-- Of two canonical writes of one key the second alone counts. -/
@[simp] theorem acanon_acanon [DecidableEq α] (m : Assoc α) (k : Nat) (d v w : α) :
    acanon (acanon m k d v) k d w = acanon m k d w := by
  have key : adel (acanon m k d v) k = adel m k := by
    simp only [acanon]
    split
    · exact adel_adel m k
    · exact adel_aput_adel m k v
  simp only [acanon] at key ⊢
  rw [key]

/-- Reading any key of a map after one canonical write. -/
theorem agetD_acanon [DecidableEq α] (m : Assoc α) (k j : Nat) (d v : α) :
    agetD (acanon m k d v) j d = if j = k then v else agetD m j d := by
  split
  · rename_i h
    subst h
    simp
  · rename_i h
    exact agetD_acanon_other m d v d h

theorem aget_amod_same (m : Assoc α) (k : Nat) (f : α → α) : aget (amod m k f) k = (aget m k).map f := by
  simp only [amod]
  split
  · rename_i h
    simp [h]
  · rename_i v h
    simp [h, aget_aput_same]

theorem aget_amod_other (m : Assoc α) {k j : Nat} (f : α → α) (h : j ≠ k) : aget (amod m k f) j = aget m j := by
  simp only [amod]
  split
  · rfl
  · exact aget_aput_other m _ h

/-! ## The canonical form -/

theorem risingFrom_weaken (m : Assoc α) {a b : Nat} (h : a ≤ b) (hm : risingFrom (some b) m = true) :
    risingFrom (some a) m = true := by
  cases m with
  | nil => rfl
  | cons e m =>
    obtain ⟨j, w⟩ := e
    simp only [risingFrom, Bool.and_eq_true, decide_eq_true_eq] at hm ⊢
    exact ⟨by omega, hm.2⟩

theorem risingFrom_none (m : Assoc α) {a : Nat} (hm : risingFrom (some a) m = true) : risingFrom none m = true := by
  cases m with
  | nil => rfl
  | cons e m =>
    obtain ⟨j, w⟩ := e
    simp only [risingFrom, Bool.and_eq_true, decide_eq_true_eq] at hm ⊢
    exact hm.2

theorem aput_rising_some (m : Assoc α) (b k : Nat) (v : α) (hb : b < k) (hm : risingFrom (some b) m = true) :
    risingFrom (some b) (aput m k v) = true := by
  induction m generalizing b with
  | nil => simp [aput, risingFrom, hb]
  | cons e m ih =>
    obtain ⟨j, w⟩ := e
    simp only [risingFrom, Bool.and_eq_true, decide_eq_true_eq] at hm
    simp only [aput]
    split
    · rename_i h
      simp [risingFrom, hb, h, hm.2]
    · split
      · rename_i h
        subst h
        simp [risingFrom, hm.1, hm.2]
      · simp only [risingFrom, Bool.and_eq_true, decide_eq_true_eq]
        exact ⟨hm.1, ih j (by omega) hm.2⟩

theorem aput_rising (m : Assoc α) (k : Nat) (v : α) (hm : risingFrom none m = true) : risingFrom none (aput m k v) = true := by
  cases m with
  | nil => rfl
  | cons e m =>
    obtain ⟨j, w⟩ := e
    simp only [risingFrom] at hm
    simp only [aput]
    split
    · rename_i h
      simp [risingFrom, h, hm]
    · split
      · rename_i h
        subst h
        simpa [risingFrom] using hm
      · simpa only [risingFrom] using aput_rising_some m j k v (by omega) hm

theorem adel_rising_some (m : Assoc α) (b k : Nat) (hm : risingFrom (some b) m = true) :
    risingFrom (some b) (adel m k) = true := by
  induction m generalizing b with
  | nil => rfl
  | cons e m ih =>
    obtain ⟨j, w⟩ := e
    simp only [risingFrom, Bool.and_eq_true, decide_eq_true_eq] at hm
    simp only [adel]
    split
    · exact ih b (risingFrom_weaken m (by omega) hm.2)
    · simp only [risingFrom, Bool.and_eq_true, decide_eq_true_eq]
      exact ⟨hm.1, ih j hm.2⟩

theorem adel_rising (m : Assoc α) (k : Nat) (hm : risingFrom none m = true) : risingFrom none (adel m k) = true := by
  induction m with
  | nil => rfl
  | cons e m ih =>
    obtain ⟨j, w⟩ := e
    simp only [risingFrom] at hm
    simp only [adel]
    split
    · exact ih (risingFrom_none m hm)
    · simpa only [risingFrom] using adel_rising_some m j k hm

theorem mem_aput {m : Assoc α} {k : Nat} {v : α} {e : Nat × α} (h : e ∈ aput m k v) : e = (k, v) ∨ e ∈ m := by
  induction m with
  | nil => simpa [aput] using h
  | cons d m ih =>
    obtain ⟨j, w⟩ := d
    simp only [aput] at h
    split at h
    · simpa using h
    · split at h
      · rcases List.mem_cons.1 h with h | h
        · exact .inl h
        · exact .inr (List.mem_cons_of_mem _ h)
      · rcases List.mem_cons.1 h with h | h
        · exact .inr (by simp [h])
        · rcases ih h with h | h
          · exact .inl h
          · exact .inr (List.mem_cons_of_mem _ h)

theorem mem_adel {m : Assoc α} {k : Nat} {e : Nat × α} (h : e ∈ adel m k) : e ∈ m := by
  induction m with
  | nil => simp [adel] at h
  | cons d m ih =>
    obtain ⟨j, w⟩ := d
    simp only [adel] at h
    split at h
    · exact List.mem_cons_of_mem _ (ih h)
    · rcases List.mem_cons.1 h with h | h
      · simp [h]
      · exact List.mem_cons_of_mem _ (ih h)

end Sys2Proof.Machine
end

