-- ==== Sys2Proof/Laws/State.lean ====
section
/-! SUPPORT. What every named update of the state leaves alone: one lemma per update and field, true by unfolding. -/

namespace Sys2Proof.Machine

namespace State

@[simp] theorem advance_free (s : State) (dt : Nat) : (s.advance dt).free = s.free := rfl
@[simp] theorem advance_regs (s : State) (dt : Nat) : (s.advance dt).regs = s.regs := rfl
@[simp] theorem advance_latches (s : State) (dt : Nat) : (s.advance dt).latches = s.latches := rfl
@[simp] theorem advance_setupErr (s : State) (dt : Nat) : (s.advance dt).setupErr = s.setupErr := rfl
@[simp] theorem advance_flt (s : State) (dt : Nat) : (s.advance dt).flt = s.flt := rfl
@[simp] theorem advance_tal (s : State) (dt : Nat) : (s.advance dt).tal = s.tal := rfl
@[simp] theorem advance_evc (s : State) (dt : Nat) : (s.advance dt).evc = s.evc := rfl
@[simp] theorem advance_eqt (s : State) (dt : Nat) : (s.advance dt).eqt = s.eqt := rfl
@[simp] theorem advance_plc (s : State) (dt : Nat) : (s.advance dt).plc = s.plc := rfl
@[simp] theorem advance_orb (s : State) (dt : Nat) : (s.advance dt).orb = s.orb := rfl
@[simp] theorem advance_sce (s : State) (dt : Nat) : (s.advance dt).sce = s.sce := rfl
@[simp] theorem advance_spn (s : State) (dt : Nat) : (s.advance dt).spn = s.spn := rfl
@[simp] theorem advance_chn (s : State) (dt : Nat) : (s.advance dt).chn = s.chn := rfl
@[simp] theorem advance_wrp (s : State) (dt : Nat) : (s.advance dt).wrp = s.wrp := rfl
@[simp] theorem advance_seq (s : State) (dt : Nat) : (s.advance dt).seq = s.seq := rfl
@[simp] theorem advance_dma (s : State) (dt : Nat) : (s.advance dt).dma = s.dma := rfl
@[simp] theorem advance_pwr (s : State) (dt : Nat) : (s.advance dt).pwr = s.pwr := rfl
@[simp] theorem advance_hbm (s : State) (dt : Nat) : (s.advance dt).hbm = s.hbm := rfl
@[simp] theorem advance_srm (s : State) (dt : Nat) : (s.advance dt).srm = s.srm := rfl
@[simp] theorem advance_cch (s : State) (dt : Nat) : (s.advance dt).cch = s.cch := rfl
@[simp] theorem advance_sec (s : State) (dt : Nat) : (s.advance dt).sec = s.sec := rfl
@[simp] theorem advance_pin (s : State) (dt : Nat) : (s.advance dt).pin = s.pin := rfl
@[simp] theorem advance_out (s : State) (dt : Nat) : (s.advance dt).out = s.out := rfl
@[simp] theorem advance_pending (s : State) (dt : Nat) : (s.advance dt).pending = s.pending := rfl

@[simp] theorem advanceTo_free (s : State) (t : Nat) : (s.advanceTo t).free = s.free := rfl
@[simp] theorem advanceTo_regs (s : State) (t : Nat) : (s.advanceTo t).regs = s.regs := rfl
@[simp] theorem advanceTo_latches (s : State) (t : Nat) : (s.advanceTo t).latches = s.latches := rfl
@[simp] theorem advanceTo_setupErr (s : State) (t : Nat) : (s.advanceTo t).setupErr = s.setupErr := rfl
@[simp] theorem advanceTo_flt (s : State) (t : Nat) : (s.advanceTo t).flt = s.flt := rfl
@[simp] theorem advanceTo_tal (s : State) (t : Nat) : (s.advanceTo t).tal = s.tal := rfl
@[simp] theorem advanceTo_evc (s : State) (t : Nat) : (s.advanceTo t).evc = s.evc := rfl
@[simp] theorem advanceTo_eqt (s : State) (t : Nat) : (s.advanceTo t).eqt = s.eqt := rfl
@[simp] theorem advanceTo_plc (s : State) (t : Nat) : (s.advanceTo t).plc = s.plc := rfl
@[simp] theorem advanceTo_orb (s : State) (t : Nat) : (s.advanceTo t).orb = s.orb := rfl
@[simp] theorem advanceTo_sce (s : State) (t : Nat) : (s.advanceTo t).sce = s.sce := rfl
@[simp] theorem advanceTo_spn (s : State) (t : Nat) : (s.advanceTo t).spn = s.spn := rfl
@[simp] theorem advanceTo_chn (s : State) (t : Nat) : (s.advanceTo t).chn = s.chn := rfl
@[simp] theorem advanceTo_wrp (s : State) (t : Nat) : (s.advanceTo t).wrp = s.wrp := rfl
@[simp] theorem advanceTo_seq (s : State) (t : Nat) : (s.advanceTo t).seq = s.seq := rfl
@[simp] theorem advanceTo_dma (s : State) (t : Nat) : (s.advanceTo t).dma = s.dma := rfl
@[simp] theorem advanceTo_pwr (s : State) (t : Nat) : (s.advanceTo t).pwr = s.pwr := rfl
@[simp] theorem advanceTo_hbm (s : State) (t : Nat) : (s.advanceTo t).hbm = s.hbm := rfl
@[simp] theorem advanceTo_srm (s : State) (t : Nat) : (s.advanceTo t).srm = s.srm := rfl
@[simp] theorem advanceTo_cch (s : State) (t : Nat) : (s.advanceTo t).cch = s.cch := rfl
@[simp] theorem advanceTo_sec (s : State) (t : Nat) : (s.advanceTo t).sec = s.sec := rfl
@[simp] theorem advanceTo_pin (s : State) (t : Nat) : (s.advanceTo t).pin = s.pin := rfl
@[simp] theorem advanceTo_out (s : State) (t : Nat) : (s.advanceTo t).out = s.out := rfl
@[simp] theorem advanceTo_pending (s : State) (t : Nat) : (s.advanceTo t).pending = s.pending := rfl

@[simp] theorem stamped_now (s : State) : (s.stamped ).now = s.now := rfl
@[simp] theorem stamped_free (s : State) : (s.stamped ).free = s.free := rfl
@[simp] theorem stamped_regs (s : State) : (s.stamped ).regs = s.regs := rfl
@[simp] theorem stamped_latches (s : State) : (s.stamped ).latches = s.latches := rfl
@[simp] theorem stamped_setupErr (s : State) : (s.stamped ).setupErr = s.setupErr := rfl
@[simp] theorem stamped_flt (s : State) : (s.stamped ).flt = s.flt := rfl
@[simp] theorem stamped_tal (s : State) : (s.stamped ).tal = s.tal := rfl
@[simp] theorem stamped_evc (s : State) : (s.stamped ).evc = s.evc := rfl
@[simp] theorem stamped_eqt (s : State) : (s.stamped ).eqt = s.eqt := rfl
@[simp] theorem stamped_plc (s : State) : (s.stamped ).plc = s.plc := rfl
@[simp] theorem stamped_orb (s : State) : (s.stamped ).orb = s.orb := rfl
@[simp] theorem stamped_sce (s : State) : (s.stamped ).sce = s.sce := rfl
@[simp] theorem stamped_spn (s : State) : (s.stamped ).spn = s.spn := rfl
@[simp] theorem stamped_chn (s : State) : (s.stamped ).chn = s.chn := rfl
@[simp] theorem stamped_wrp (s : State) : (s.stamped ).wrp = s.wrp := rfl
@[simp] theorem stamped_seq (s : State) : (s.stamped ).seq = s.seq := rfl
@[simp] theorem stamped_dma (s : State) : (s.stamped ).dma = s.dma := rfl
@[simp] theorem stamped_pwr (s : State) : (s.stamped ).pwr = s.pwr := rfl
@[simp] theorem stamped_hbm (s : State) : (s.stamped ).hbm = s.hbm := rfl
@[simp] theorem stamped_srm (s : State) : (s.stamped ).srm = s.srm := rfl
@[simp] theorem stamped_cch (s : State) : (s.stamped ).cch = s.cch := rfl
@[simp] theorem stamped_sec (s : State) : (s.stamped ).sec = s.sec := rfl
@[simp] theorem stamped_pin (s : State) : (s.stamped ).pin = s.pin := rfl
@[simp] theorem stamped_out (s : State) : (s.stamped ).out = s.out := rfl
@[simp] theorem stamped_pending (s : State) : (s.stamped ).pending = s.pending := rfl

@[simp] theorem emit_now (s : State) (o : Out) : (s.emit o).now = s.now := rfl
@[simp] theorem emit_free (s : State) (o : Out) : (s.emit o).free = s.free := rfl
@[simp] theorem emit_regs (s : State) (o : Out) : (s.emit o).regs = s.regs := rfl
@[simp] theorem emit_latches (s : State) (o : Out) : (s.emit o).latches = s.latches := rfl
@[simp] theorem emit_setupErr (s : State) (o : Out) : (s.emit o).setupErr = s.setupErr := rfl
@[simp] theorem emit_tim (s : State) (o : Out) : (s.emit o).tim = s.tim := rfl
@[simp] theorem emit_flt (s : State) (o : Out) : (s.emit o).flt = s.flt := rfl
@[simp] theorem emit_tal (s : State) (o : Out) : (s.emit o).tal = s.tal := rfl
@[simp] theorem emit_evc (s : State) (o : Out) : (s.emit o).evc = s.evc := rfl
@[simp] theorem emit_eqt (s : State) (o : Out) : (s.emit o).eqt = s.eqt := rfl
@[simp] theorem emit_plc (s : State) (o : Out) : (s.emit o).plc = s.plc := rfl
@[simp] theorem emit_orb (s : State) (o : Out) : (s.emit o).orb = s.orb := rfl
@[simp] theorem emit_sce (s : State) (o : Out) : (s.emit o).sce = s.sce := rfl
@[simp] theorem emit_spn (s : State) (o : Out) : (s.emit o).spn = s.spn := rfl
@[simp] theorem emit_chn (s : State) (o : Out) : (s.emit o).chn = s.chn := rfl
@[simp] theorem emit_wrp (s : State) (o : Out) : (s.emit o).wrp = s.wrp := rfl
@[simp] theorem emit_seq (s : State) (o : Out) : (s.emit o).seq = s.seq := rfl
@[simp] theorem emit_dma (s : State) (o : Out) : (s.emit o).dma = s.dma := rfl
@[simp] theorem emit_pwr (s : State) (o : Out) : (s.emit o).pwr = s.pwr := rfl
@[simp] theorem emit_hbm (s : State) (o : Out) : (s.emit o).hbm = s.hbm := rfl
@[simp] theorem emit_srm (s : State) (o : Out) : (s.emit o).srm = s.srm := rfl
@[simp] theorem emit_cch (s : State) (o : Out) : (s.emit o).cch = s.cch := rfl
@[simp] theorem emit_sec (s : State) (o : Out) : (s.emit o).sec = s.sec := rfl
@[simp] theorem emit_pin (s : State) (o : Out) : (s.emit o).pin = s.pin := rfl
@[simp] theorem emit_pending (s : State) (o : Out) : (s.emit o).pending = s.pending := rfl

@[simp] theorem freeUsed_now (s : State) : (s.freeUsed ).now = s.now := rfl
@[simp] theorem freeUsed_regs (s : State) : (s.freeUsed ).regs = s.regs := rfl
@[simp] theorem freeUsed_latches (s : State) : (s.freeUsed ).latches = s.latches := rfl
@[simp] theorem freeUsed_setupErr (s : State) : (s.freeUsed ).setupErr = s.setupErr := rfl
@[simp] theorem freeUsed_tim (s : State) : (s.freeUsed ).tim = s.tim := rfl
@[simp] theorem freeUsed_flt (s : State) : (s.freeUsed ).flt = s.flt := rfl
@[simp] theorem freeUsed_tal (s : State) : (s.freeUsed ).tal = s.tal := rfl
@[simp] theorem freeUsed_evc (s : State) : (s.freeUsed ).evc = s.evc := rfl
@[simp] theorem freeUsed_eqt (s : State) : (s.freeUsed ).eqt = s.eqt := rfl
@[simp] theorem freeUsed_plc (s : State) : (s.freeUsed ).plc = s.plc := rfl
@[simp] theorem freeUsed_orb (s : State) : (s.freeUsed ).orb = s.orb := rfl
@[simp] theorem freeUsed_sce (s : State) : (s.freeUsed ).sce = s.sce := rfl
@[simp] theorem freeUsed_spn (s : State) : (s.freeUsed ).spn = s.spn := rfl
@[simp] theorem freeUsed_chn (s : State) : (s.freeUsed ).chn = s.chn := rfl
@[simp] theorem freeUsed_wrp (s : State) : (s.freeUsed ).wrp = s.wrp := rfl
@[simp] theorem freeUsed_seq (s : State) : (s.freeUsed ).seq = s.seq := rfl
@[simp] theorem freeUsed_dma (s : State) : (s.freeUsed ).dma = s.dma := rfl
@[simp] theorem freeUsed_pwr (s : State) : (s.freeUsed ).pwr = s.pwr := rfl
@[simp] theorem freeUsed_hbm (s : State) : (s.freeUsed ).hbm = s.hbm := rfl
@[simp] theorem freeUsed_srm (s : State) : (s.freeUsed ).srm = s.srm := rfl
@[simp] theorem freeUsed_cch (s : State) : (s.freeUsed ).cch = s.cch := rfl
@[simp] theorem freeUsed_sec (s : State) : (s.freeUsed ).sec = s.sec := rfl
@[simp] theorem freeUsed_pin (s : State) : (s.freeUsed ).pin = s.pin := rfl
@[simp] theorem freeUsed_out (s : State) : (s.freeUsed ).out = s.out := rfl
@[simp] theorem freeUsed_pending (s : State) : (s.freeUsed ).pending = s.pending := rfl

@[simp] theorem report_now (s : State) (source kind addr severity : Nat) : (s.report source kind addr severity).now = s.now := rfl
@[simp] theorem report_free (s : State) (source kind addr severity : Nat) : (s.report source kind addr severity).free = s.free := rfl
@[simp] theorem report_regs (s : State) (source kind addr severity : Nat) : (s.report source kind addr severity).regs = s.regs := rfl
@[simp] theorem report_latches (s : State) (source kind addr severity : Nat) : (s.report source kind addr severity).latches = s.latches := rfl
@[simp] theorem report_setupErr (s : State) (source kind addr severity : Nat) : (s.report source kind addr severity).setupErr = s.setupErr := rfl
@[simp] theorem report_tim (s : State) (source kind addr severity : Nat) : (s.report source kind addr severity).tim = s.tim := rfl
@[simp] theorem report_tal (s : State) (source kind addr severity : Nat) : (s.report source kind addr severity).tal = s.tal := rfl
@[simp] theorem report_evc (s : State) (source kind addr severity : Nat) : (s.report source kind addr severity).evc = s.evc := rfl
@[simp] theorem report_eqt (s : State) (source kind addr severity : Nat) : (s.report source kind addr severity).eqt = s.eqt := rfl
@[simp] theorem report_plc (s : State) (source kind addr severity : Nat) : (s.report source kind addr severity).plc = s.plc := rfl
@[simp] theorem report_orb (s : State) (source kind addr severity : Nat) : (s.report source kind addr severity).orb = s.orb := rfl
@[simp] theorem report_sce (s : State) (source kind addr severity : Nat) : (s.report source kind addr severity).sce = s.sce := rfl
@[simp] theorem report_spn (s : State) (source kind addr severity : Nat) : (s.report source kind addr severity).spn = s.spn := rfl
@[simp] theorem report_chn (s : State) (source kind addr severity : Nat) : (s.report source kind addr severity).chn = s.chn := rfl
@[simp] theorem report_wrp (s : State) (source kind addr severity : Nat) : (s.report source kind addr severity).wrp = s.wrp := rfl
@[simp] theorem report_seq (s : State) (source kind addr severity : Nat) : (s.report source kind addr severity).seq = s.seq := rfl
@[simp] theorem report_dma (s : State) (source kind addr severity : Nat) : (s.report source kind addr severity).dma = s.dma := rfl
@[simp] theorem report_pwr (s : State) (source kind addr severity : Nat) : (s.report source kind addr severity).pwr = s.pwr := rfl
@[simp] theorem report_hbm (s : State) (source kind addr severity : Nat) : (s.report source kind addr severity).hbm = s.hbm := rfl
@[simp] theorem report_srm (s : State) (source kind addr severity : Nat) : (s.report source kind addr severity).srm = s.srm := rfl
@[simp] theorem report_cch (s : State) (source kind addr severity : Nat) : (s.report source kind addr severity).cch = s.cch := rfl
@[simp] theorem report_sec (s : State) (source kind addr severity : Nat) : (s.report source kind addr severity).sec = s.sec := rfl
@[simp] theorem report_pin (s : State) (source kind addr severity : Nat) : (s.report source kind addr severity).pin = s.pin := rfl
@[simp] theorem report_out (s : State) (source kind addr severity : Nat) : (s.report source kind addr severity).out = s.out := rfl
@[simp] theorem report_pending (s : State) (source kind addr severity : Nat) : (s.report source kind addr severity).pending = s.pending := rfl

@[simp] theorem setSess_now (s : State) (i : Nat) (x : Session) : (s.setSess i x).now = s.now := rfl
@[simp] theorem setSess_free (s : State) (i : Nat) (x : Session) : (s.setSess i x).free = s.free := rfl
@[simp] theorem setSess_regs (s : State) (i : Nat) (x : Session) : (s.setSess i x).regs = s.regs := rfl
@[simp] theorem setSess_latches (s : State) (i : Nat) (x : Session) : (s.setSess i x).latches = s.latches := rfl
@[simp] theorem setSess_setupErr (s : State) (i : Nat) (x : Session) : (s.setSess i x).setupErr = s.setupErr := rfl
@[simp] theorem setSess_tim (s : State) (i : Nat) (x : Session) : (s.setSess i x).tim = s.tim := rfl
@[simp] theorem setSess_flt (s : State) (i : Nat) (x : Session) : (s.setSess i x).flt = s.flt := rfl
@[simp] theorem setSess_tal (s : State) (i : Nat) (x : Session) : (s.setSess i x).tal = s.tal := rfl
@[simp] theorem setSess_evc (s : State) (i : Nat) (x : Session) : (s.setSess i x).evc = s.evc := rfl
@[simp] theorem setSess_plc (s : State) (i : Nat) (x : Session) : (s.setSess i x).plc = s.plc := rfl
@[simp] theorem setSess_orb (s : State) (i : Nat) (x : Session) : (s.setSess i x).orb = s.orb := rfl
@[simp] theorem setSess_sce (s : State) (i : Nat) (x : Session) : (s.setSess i x).sce = s.sce := rfl
@[simp] theorem setSess_spn (s : State) (i : Nat) (x : Session) : (s.setSess i x).spn = s.spn := rfl
@[simp] theorem setSess_chn (s : State) (i : Nat) (x : Session) : (s.setSess i x).chn = s.chn := rfl
@[simp] theorem setSess_wrp (s : State) (i : Nat) (x : Session) : (s.setSess i x).wrp = s.wrp := rfl
@[simp] theorem setSess_seq (s : State) (i : Nat) (x : Session) : (s.setSess i x).seq = s.seq := rfl
@[simp] theorem setSess_dma (s : State) (i : Nat) (x : Session) : (s.setSess i x).dma = s.dma := rfl
@[simp] theorem setSess_pwr (s : State) (i : Nat) (x : Session) : (s.setSess i x).pwr = s.pwr := rfl
@[simp] theorem setSess_hbm (s : State) (i : Nat) (x : Session) : (s.setSess i x).hbm = s.hbm := rfl
@[simp] theorem setSess_srm (s : State) (i : Nat) (x : Session) : (s.setSess i x).srm = s.srm := rfl
@[simp] theorem setSess_cch (s : State) (i : Nat) (x : Session) : (s.setSess i x).cch = s.cch := rfl
@[simp] theorem setSess_sec (s : State) (i : Nat) (x : Session) : (s.setSess i x).sec = s.sec := rfl
@[simp] theorem setSess_pin (s : State) (i : Nat) (x : Session) : (s.setSess i x).pin = s.pin := rfl
@[simp] theorem setSess_out (s : State) (i : Nat) (x : Session) : (s.setSess i x).out = s.out := rfl
@[simp] theorem setSess_pending (s : State) (i : Nat) (x : Session) : (s.setSess i x).pending = s.pending := rfl

@[simp] theorem modSess_now (s : State) (i : Nat) (f : Session → Session) : (s.modSess i f).now = s.now := rfl
@[simp] theorem modSess_free (s : State) (i : Nat) (f : Session → Session) : (s.modSess i f).free = s.free := rfl
@[simp] theorem modSess_regs (s : State) (i : Nat) (f : Session → Session) : (s.modSess i f).regs = s.regs := rfl
@[simp] theorem modSess_latches (s : State) (i : Nat) (f : Session → Session) : (s.modSess i f).latches = s.latches := rfl
@[simp] theorem modSess_setupErr (s : State) (i : Nat) (f : Session → Session) : (s.modSess i f).setupErr = s.setupErr := rfl
@[simp] theorem modSess_tim (s : State) (i : Nat) (f : Session → Session) : (s.modSess i f).tim = s.tim := rfl
@[simp] theorem modSess_flt (s : State) (i : Nat) (f : Session → Session) : (s.modSess i f).flt = s.flt := rfl
@[simp] theorem modSess_tal (s : State) (i : Nat) (f : Session → Session) : (s.modSess i f).tal = s.tal := rfl
@[simp] theorem modSess_evc (s : State) (i : Nat) (f : Session → Session) : (s.modSess i f).evc = s.evc := rfl
@[simp] theorem modSess_plc (s : State) (i : Nat) (f : Session → Session) : (s.modSess i f).plc = s.plc := rfl
@[simp] theorem modSess_orb (s : State) (i : Nat) (f : Session → Session) : (s.modSess i f).orb = s.orb := rfl
@[simp] theorem modSess_sce (s : State) (i : Nat) (f : Session → Session) : (s.modSess i f).sce = s.sce := rfl
@[simp] theorem modSess_spn (s : State) (i : Nat) (f : Session → Session) : (s.modSess i f).spn = s.spn := rfl
@[simp] theorem modSess_chn (s : State) (i : Nat) (f : Session → Session) : (s.modSess i f).chn = s.chn := rfl
@[simp] theorem modSess_wrp (s : State) (i : Nat) (f : Session → Session) : (s.modSess i f).wrp = s.wrp := rfl
@[simp] theorem modSess_seq (s : State) (i : Nat) (f : Session → Session) : (s.modSess i f).seq = s.seq := rfl
@[simp] theorem modSess_dma (s : State) (i : Nat) (f : Session → Session) : (s.modSess i f).dma = s.dma := rfl
@[simp] theorem modSess_pwr (s : State) (i : Nat) (f : Session → Session) : (s.modSess i f).pwr = s.pwr := rfl
@[simp] theorem modSess_hbm (s : State) (i : Nat) (f : Session → Session) : (s.modSess i f).hbm = s.hbm := rfl
@[simp] theorem modSess_srm (s : State) (i : Nat) (f : Session → Session) : (s.modSess i f).srm = s.srm := rfl
@[simp] theorem modSess_cch (s : State) (i : Nat) (f : Session → Session) : (s.modSess i f).cch = s.cch := rfl
@[simp] theorem modSess_sec (s : State) (i : Nat) (f : Session → Session) : (s.modSess i f).sec = s.sec := rfl
@[simp] theorem modSess_pin (s : State) (i : Nat) (f : Session → Session) : (s.modSess i f).pin = s.pin := rfl
@[simp] theorem modSess_out (s : State) (i : Nat) (f : Session → Session) : (s.modSess i f).out = s.out := rfl
@[simp] theorem modSess_pending (s : State) (i : Nat) (f : Session → Session) : (s.modSess i f).pending = s.pending := rfl

@[simp] theorem modPort_now (s : State) (p : Nat) (f : Port → Port) : (s.modPort p f).now = s.now := rfl
@[simp] theorem modPort_free (s : State) (p : Nat) (f : Port → Port) : (s.modPort p f).free = s.free := rfl
@[simp] theorem modPort_regs (s : State) (p : Nat) (f : Port → Port) : (s.modPort p f).regs = s.regs := rfl
@[simp] theorem modPort_latches (s : State) (p : Nat) (f : Port → Port) : (s.modPort p f).latches = s.latches := rfl
@[simp] theorem modPort_setupErr (s : State) (p : Nat) (f : Port → Port) : (s.modPort p f).setupErr = s.setupErr := rfl
@[simp] theorem modPort_tim (s : State) (p : Nat) (f : Port → Port) : (s.modPort p f).tim = s.tim := rfl
@[simp] theorem modPort_flt (s : State) (p : Nat) (f : Port → Port) : (s.modPort p f).flt = s.flt := rfl
@[simp] theorem modPort_tal (s : State) (p : Nat) (f : Port → Port) : (s.modPort p f).tal = s.tal := rfl
@[simp] theorem modPort_evc (s : State) (p : Nat) (f : Port → Port) : (s.modPort p f).evc = s.evc := rfl
@[simp] theorem modPort_plc (s : State) (p : Nat) (f : Port → Port) : (s.modPort p f).plc = s.plc := rfl
@[simp] theorem modPort_orb (s : State) (p : Nat) (f : Port → Port) : (s.modPort p f).orb = s.orb := rfl
@[simp] theorem modPort_sce (s : State) (p : Nat) (f : Port → Port) : (s.modPort p f).sce = s.sce := rfl
@[simp] theorem modPort_spn (s : State) (p : Nat) (f : Port → Port) : (s.modPort p f).spn = s.spn := rfl
@[simp] theorem modPort_chn (s : State) (p : Nat) (f : Port → Port) : (s.modPort p f).chn = s.chn := rfl
@[simp] theorem modPort_wrp (s : State) (p : Nat) (f : Port → Port) : (s.modPort p f).wrp = s.wrp := rfl
@[simp] theorem modPort_seq (s : State) (p : Nat) (f : Port → Port) : (s.modPort p f).seq = s.seq := rfl
@[simp] theorem modPort_dma (s : State) (p : Nat) (f : Port → Port) : (s.modPort p f).dma = s.dma := rfl
@[simp] theorem modPort_pwr (s : State) (p : Nat) (f : Port → Port) : (s.modPort p f).pwr = s.pwr := rfl
@[simp] theorem modPort_hbm (s : State) (p : Nat) (f : Port → Port) : (s.modPort p f).hbm = s.hbm := rfl
@[simp] theorem modPort_srm (s : State) (p : Nat) (f : Port → Port) : (s.modPort p f).srm = s.srm := rfl
@[simp] theorem modPort_cch (s : State) (p : Nat) (f : Port → Port) : (s.modPort p f).cch = s.cch := rfl
@[simp] theorem modPort_sec (s : State) (p : Nat) (f : Port → Port) : (s.modPort p f).sec = s.sec := rfl
@[simp] theorem modPort_pin (s : State) (p : Nat) (f : Port → Port) : (s.modPort p f).pin = s.pin := rfl
@[simp] theorem modPort_out (s : State) (p : Nat) (f : Port → Port) : (s.modPort p f).out = s.out := rfl
@[simp] theorem modPort_pending (s : State) (p : Nat) (f : Port → Port) : (s.modPort p f).pending = s.pending := rfl

@[simp] theorem modCmd_now (s : State) (t : Nat) (f : Cmd → Cmd) : (s.modCmd t f).now = s.now := rfl
@[simp] theorem modCmd_free (s : State) (t : Nat) (f : Cmd → Cmd) : (s.modCmd t f).free = s.free := rfl
@[simp] theorem modCmd_regs (s : State) (t : Nat) (f : Cmd → Cmd) : (s.modCmd t f).regs = s.regs := rfl
@[simp] theorem modCmd_latches (s : State) (t : Nat) (f : Cmd → Cmd) : (s.modCmd t f).latches = s.latches := rfl
@[simp] theorem modCmd_setupErr (s : State) (t : Nat) (f : Cmd → Cmd) : (s.modCmd t f).setupErr = s.setupErr := rfl
@[simp] theorem modCmd_tim (s : State) (t : Nat) (f : Cmd → Cmd) : (s.modCmd t f).tim = s.tim := rfl
@[simp] theorem modCmd_flt (s : State) (t : Nat) (f : Cmd → Cmd) : (s.modCmd t f).flt = s.flt := rfl
@[simp] theorem modCmd_tal (s : State) (t : Nat) (f : Cmd → Cmd) : (s.modCmd t f).tal = s.tal := rfl
@[simp] theorem modCmd_evc (s : State) (t : Nat) (f : Cmd → Cmd) : (s.modCmd t f).evc = s.evc := rfl
@[simp] theorem modCmd_plc (s : State) (t : Nat) (f : Cmd → Cmd) : (s.modCmd t f).plc = s.plc := rfl
@[simp] theorem modCmd_orb (s : State) (t : Nat) (f : Cmd → Cmd) : (s.modCmd t f).orb = s.orb := rfl
@[simp] theorem modCmd_sce (s : State) (t : Nat) (f : Cmd → Cmd) : (s.modCmd t f).sce = s.sce := rfl
@[simp] theorem modCmd_spn (s : State) (t : Nat) (f : Cmd → Cmd) : (s.modCmd t f).spn = s.spn := rfl
@[simp] theorem modCmd_chn (s : State) (t : Nat) (f : Cmd → Cmd) : (s.modCmd t f).chn = s.chn := rfl
@[simp] theorem modCmd_wrp (s : State) (t : Nat) (f : Cmd → Cmd) : (s.modCmd t f).wrp = s.wrp := rfl
@[simp] theorem modCmd_seq (s : State) (t : Nat) (f : Cmd → Cmd) : (s.modCmd t f).seq = s.seq := rfl
@[simp] theorem modCmd_dma (s : State) (t : Nat) (f : Cmd → Cmd) : (s.modCmd t f).dma = s.dma := rfl
@[simp] theorem modCmd_pwr (s : State) (t : Nat) (f : Cmd → Cmd) : (s.modCmd t f).pwr = s.pwr := rfl
@[simp] theorem modCmd_hbm (s : State) (t : Nat) (f : Cmd → Cmd) : (s.modCmd t f).hbm = s.hbm := rfl
@[simp] theorem modCmd_srm (s : State) (t : Nat) (f : Cmd → Cmd) : (s.modCmd t f).srm = s.srm := rfl
@[simp] theorem modCmd_cch (s : State) (t : Nat) (f : Cmd → Cmd) : (s.modCmd t f).cch = s.cch := rfl
@[simp] theorem modCmd_sec (s : State) (t : Nat) (f : Cmd → Cmd) : (s.modCmd t f).sec = s.sec := rfl
@[simp] theorem modCmd_pin (s : State) (t : Nat) (f : Cmd → Cmd) : (s.modCmd t f).pin = s.pin := rfl
@[simp] theorem modCmd_out (s : State) (t : Nat) (f : Cmd → Cmd) : (s.modCmd t f).out = s.out := rfl
@[simp] theorem modCmd_pending (s : State) (t : Nat) (f : Cmd → Cmd) : (s.modCmd t f).pending = s.pending := rfl

@[simp] theorem modLin_now (s : State) (l : Nat) (f : Lineage → Lineage) : (s.modLin l f).now = s.now := rfl
@[simp] theorem modLin_free (s : State) (l : Nat) (f : Lineage → Lineage) : (s.modLin l f).free = s.free := rfl
@[simp] theorem modLin_regs (s : State) (l : Nat) (f : Lineage → Lineage) : (s.modLin l f).regs = s.regs := rfl
@[simp] theorem modLin_latches (s : State) (l : Nat) (f : Lineage → Lineage) : (s.modLin l f).latches = s.latches := rfl
@[simp] theorem modLin_setupErr (s : State) (l : Nat) (f : Lineage → Lineage) : (s.modLin l f).setupErr = s.setupErr := rfl
@[simp] theorem modLin_tim (s : State) (l : Nat) (f : Lineage → Lineage) : (s.modLin l f).tim = s.tim := rfl
@[simp] theorem modLin_flt (s : State) (l : Nat) (f : Lineage → Lineage) : (s.modLin l f).flt = s.flt := rfl
@[simp] theorem modLin_tal (s : State) (l : Nat) (f : Lineage → Lineage) : (s.modLin l f).tal = s.tal := rfl
@[simp] theorem modLin_evc (s : State) (l : Nat) (f : Lineage → Lineage) : (s.modLin l f).evc = s.evc := rfl
@[simp] theorem modLin_plc (s : State) (l : Nat) (f : Lineage → Lineage) : (s.modLin l f).plc = s.plc := rfl
@[simp] theorem modLin_orb (s : State) (l : Nat) (f : Lineage → Lineage) : (s.modLin l f).orb = s.orb := rfl
@[simp] theorem modLin_sce (s : State) (l : Nat) (f : Lineage → Lineage) : (s.modLin l f).sce = s.sce := rfl
@[simp] theorem modLin_spn (s : State) (l : Nat) (f : Lineage → Lineage) : (s.modLin l f).spn = s.spn := rfl
@[simp] theorem modLin_chn (s : State) (l : Nat) (f : Lineage → Lineage) : (s.modLin l f).chn = s.chn := rfl
@[simp] theorem modLin_wrp (s : State) (l : Nat) (f : Lineage → Lineage) : (s.modLin l f).wrp = s.wrp := rfl
@[simp] theorem modLin_seq (s : State) (l : Nat) (f : Lineage → Lineage) : (s.modLin l f).seq = s.seq := rfl
@[simp] theorem modLin_dma (s : State) (l : Nat) (f : Lineage → Lineage) : (s.modLin l f).dma = s.dma := rfl
@[simp] theorem modLin_pwr (s : State) (l : Nat) (f : Lineage → Lineage) : (s.modLin l f).pwr = s.pwr := rfl
@[simp] theorem modLin_hbm (s : State) (l : Nat) (f : Lineage → Lineage) : (s.modLin l f).hbm = s.hbm := rfl
@[simp] theorem modLin_srm (s : State) (l : Nat) (f : Lineage → Lineage) : (s.modLin l f).srm = s.srm := rfl
@[simp] theorem modLin_cch (s : State) (l : Nat) (f : Lineage → Lineage) : (s.modLin l f).cch = s.cch := rfl
@[simp] theorem modLin_sec (s : State) (l : Nat) (f : Lineage → Lineage) : (s.modLin l f).sec = s.sec := rfl
@[simp] theorem modLin_pin (s : State) (l : Nat) (f : Lineage → Lineage) : (s.modLin l f).pin = s.pin := rfl
@[simp] theorem modLin_out (s : State) (l : Nat) (f : Lineage → Lineage) : (s.modLin l f).out = s.out := rfl
@[simp] theorem modLin_pending (s : State) (l : Nat) (f : Lineage → Lineage) : (s.modLin l f).pending = s.pending := rfl

@[simp] theorem setSrc_now (s : State) (n : Nat) (e : EvSource) : (s.setSrc n e).now = s.now := rfl
@[simp] theorem setSrc_free (s : State) (n : Nat) (e : EvSource) : (s.setSrc n e).free = s.free := rfl
@[simp] theorem setSrc_regs (s : State) (n : Nat) (e : EvSource) : (s.setSrc n e).regs = s.regs := rfl
@[simp] theorem setSrc_latches (s : State) (n : Nat) (e : EvSource) : (s.setSrc n e).latches = s.latches := rfl
@[simp] theorem setSrc_setupErr (s : State) (n : Nat) (e : EvSource) : (s.setSrc n e).setupErr = s.setupErr := rfl
@[simp] theorem setSrc_tim (s : State) (n : Nat) (e : EvSource) : (s.setSrc n e).tim = s.tim := rfl
@[simp] theorem setSrc_flt (s : State) (n : Nat) (e : EvSource) : (s.setSrc n e).flt = s.flt := rfl
@[simp] theorem setSrc_tal (s : State) (n : Nat) (e : EvSource) : (s.setSrc n e).tal = s.tal := rfl
@[simp] theorem setSrc_eqt (s : State) (n : Nat) (e : EvSource) : (s.setSrc n e).eqt = s.eqt := rfl
@[simp] theorem setSrc_plc (s : State) (n : Nat) (e : EvSource) : (s.setSrc n e).plc = s.plc := rfl
@[simp] theorem setSrc_orb (s : State) (n : Nat) (e : EvSource) : (s.setSrc n e).orb = s.orb := rfl
@[simp] theorem setSrc_sce (s : State) (n : Nat) (e : EvSource) : (s.setSrc n e).sce = s.sce := rfl
@[simp] theorem setSrc_spn (s : State) (n : Nat) (e : EvSource) : (s.setSrc n e).spn = s.spn := rfl
@[simp] theorem setSrc_chn (s : State) (n : Nat) (e : EvSource) : (s.setSrc n e).chn = s.chn := rfl
@[simp] theorem setSrc_wrp (s : State) (n : Nat) (e : EvSource) : (s.setSrc n e).wrp = s.wrp := rfl
@[simp] theorem setSrc_seq (s : State) (n : Nat) (e : EvSource) : (s.setSrc n e).seq = s.seq := rfl
@[simp] theorem setSrc_dma (s : State) (n : Nat) (e : EvSource) : (s.setSrc n e).dma = s.dma := rfl
@[simp] theorem setSrc_pwr (s : State) (n : Nat) (e : EvSource) : (s.setSrc n e).pwr = s.pwr := rfl
@[simp] theorem setSrc_hbm (s : State) (n : Nat) (e : EvSource) : (s.setSrc n e).hbm = s.hbm := rfl
@[simp] theorem setSrc_srm (s : State) (n : Nat) (e : EvSource) : (s.setSrc n e).srm = s.srm := rfl
@[simp] theorem setSrc_cch (s : State) (n : Nat) (e : EvSource) : (s.setSrc n e).cch = s.cch := rfl
@[simp] theorem setSrc_sec (s : State) (n : Nat) (e : EvSource) : (s.setSrc n e).sec = s.sec := rfl
@[simp] theorem setSrc_pin (s : State) (n : Nat) (e : EvSource) : (s.setSrc n e).pin = s.pin := rfl
@[simp] theorem setSrc_out (s : State) (n : Nat) (e : EvSource) : (s.setSrc n e).out = s.out := rfl
@[simp] theorem setSrc_pending (s : State) (n : Nat) (e : EvSource) : (s.setSrc n e).pending = s.pending := rfl

@[simp] theorem setRv_now (s : State) (r : Reg) (v : Word) : (s.setRv r v).now = s.now := rfl
@[simp] theorem setRv_free (s : State) (r : Reg) (v : Word) : (s.setRv r v).free = s.free := rfl
@[simp] theorem setRv_latches (s : State) (r : Reg) (v : Word) : (s.setRv r v).latches = s.latches := rfl
@[simp] theorem setRv_setupErr (s : State) (r : Reg) (v : Word) : (s.setRv r v).setupErr = s.setupErr := rfl
@[simp] theorem setRv_tim (s : State) (r : Reg) (v : Word) : (s.setRv r v).tim = s.tim := rfl
@[simp] theorem setRv_flt (s : State) (r : Reg) (v : Word) : (s.setRv r v).flt = s.flt := rfl
@[simp] theorem setRv_tal (s : State) (r : Reg) (v : Word) : (s.setRv r v).tal = s.tal := rfl
@[simp] theorem setRv_evc (s : State) (r : Reg) (v : Word) : (s.setRv r v).evc = s.evc := rfl
@[simp] theorem setRv_eqt (s : State) (r : Reg) (v : Word) : (s.setRv r v).eqt = s.eqt := rfl
@[simp] theorem setRv_plc (s : State) (r : Reg) (v : Word) : (s.setRv r v).plc = s.plc := rfl
@[simp] theorem setRv_orb (s : State) (r : Reg) (v : Word) : (s.setRv r v).orb = s.orb := rfl
@[simp] theorem setRv_sce (s : State) (r : Reg) (v : Word) : (s.setRv r v).sce = s.sce := rfl
@[simp] theorem setRv_spn (s : State) (r : Reg) (v : Word) : (s.setRv r v).spn = s.spn := rfl
@[simp] theorem setRv_chn (s : State) (r : Reg) (v : Word) : (s.setRv r v).chn = s.chn := rfl
@[simp] theorem setRv_wrp (s : State) (r : Reg) (v : Word) : (s.setRv r v).wrp = s.wrp := rfl
@[simp] theorem setRv_seq (s : State) (r : Reg) (v : Word) : (s.setRv r v).seq = s.seq := rfl
@[simp] theorem setRv_dma (s : State) (r : Reg) (v : Word) : (s.setRv r v).dma = s.dma := rfl
@[simp] theorem setRv_pwr (s : State) (r : Reg) (v : Word) : (s.setRv r v).pwr = s.pwr := rfl
@[simp] theorem setRv_hbm (s : State) (r : Reg) (v : Word) : (s.setRv r v).hbm = s.hbm := rfl
@[simp] theorem setRv_srm (s : State) (r : Reg) (v : Word) : (s.setRv r v).srm = s.srm := rfl
@[simp] theorem setRv_cch (s : State) (r : Reg) (v : Word) : (s.setRv r v).cch = s.cch := rfl
@[simp] theorem setRv_sec (s : State) (r : Reg) (v : Word) : (s.setRv r v).sec = s.sec := rfl
@[simp] theorem setRv_pin (s : State) (r : Reg) (v : Word) : (s.setRv r v).pin = s.pin := rfl
@[simp] theorem setRv_out (s : State) (r : Reg) (v : Word) : (s.setRv r v).out = s.out := rfl
@[simp] theorem setRv_pending (s : State) (r : Reg) (v : Word) : (s.setRv r v).pending = s.pending := rfl

@[simp] theorem setLatch_now (s : State) (l : Latch) : (s.setLatch l).now = s.now := rfl
@[simp] theorem setLatch_free (s : State) (l : Latch) : (s.setLatch l).free = s.free := rfl
@[simp] theorem setLatch_regs (s : State) (l : Latch) : (s.setLatch l).regs = s.regs := rfl
@[simp] theorem setLatch_setupErr (s : State) (l : Latch) : (s.setLatch l).setupErr = s.setupErr := rfl
@[simp] theorem setLatch_tim (s : State) (l : Latch) : (s.setLatch l).tim = s.tim := rfl
@[simp] theorem setLatch_flt (s : State) (l : Latch) : (s.setLatch l).flt = s.flt := rfl
@[simp] theorem setLatch_tal (s : State) (l : Latch) : (s.setLatch l).tal = s.tal := rfl
@[simp] theorem setLatch_evc (s : State) (l : Latch) : (s.setLatch l).evc = s.evc := rfl
@[simp] theorem setLatch_eqt (s : State) (l : Latch) : (s.setLatch l).eqt = s.eqt := rfl
@[simp] theorem setLatch_plc (s : State) (l : Latch) : (s.setLatch l).plc = s.plc := rfl
@[simp] theorem setLatch_orb (s : State) (l : Latch) : (s.setLatch l).orb = s.orb := rfl
@[simp] theorem setLatch_sce (s : State) (l : Latch) : (s.setLatch l).sce = s.sce := rfl
@[simp] theorem setLatch_spn (s : State) (l : Latch) : (s.setLatch l).spn = s.spn := rfl
@[simp] theorem setLatch_chn (s : State) (l : Latch) : (s.setLatch l).chn = s.chn := rfl
@[simp] theorem setLatch_wrp (s : State) (l : Latch) : (s.setLatch l).wrp = s.wrp := rfl
@[simp] theorem setLatch_seq (s : State) (l : Latch) : (s.setLatch l).seq = s.seq := rfl
@[simp] theorem setLatch_dma (s : State) (l : Latch) : (s.setLatch l).dma = s.dma := rfl
@[simp] theorem setLatch_pwr (s : State) (l : Latch) : (s.setLatch l).pwr = s.pwr := rfl
@[simp] theorem setLatch_hbm (s : State) (l : Latch) : (s.setLatch l).hbm = s.hbm := rfl
@[simp] theorem setLatch_srm (s : State) (l : Latch) : (s.setLatch l).srm = s.srm := rfl
@[simp] theorem setLatch_cch (s : State) (l : Latch) : (s.setLatch l).cch = s.cch := rfl
@[simp] theorem setLatch_sec (s : State) (l : Latch) : (s.setLatch l).sec = s.sec := rfl
@[simp] theorem setLatch_pin (s : State) (l : Latch) : (s.setLatch l).pin = s.pin := rfl
@[simp] theorem setLatch_out (s : State) (l : Latch) : (s.setLatch l).out = s.out := rfl
@[simp] theorem setLatch_pending (s : State) (l : Latch) : (s.setLatch l).pending = s.pending := rfl

@[simp] theorem modStream_now (s : State) (i : Nat) (f : Stream → Stream) : (s.modStream i f).now = s.now := rfl
@[simp] theorem modStream_free (s : State) (i : Nat) (f : Stream → Stream) : (s.modStream i f).free = s.free := rfl
@[simp] theorem modStream_regs (s : State) (i : Nat) (f : Stream → Stream) : (s.modStream i f).regs = s.regs := rfl
@[simp] theorem modStream_latches (s : State) (i : Nat) (f : Stream → Stream) : (s.modStream i f).latches = s.latches := rfl
@[simp] theorem modStream_setupErr (s : State) (i : Nat) (f : Stream → Stream) : (s.modStream i f).setupErr = s.setupErr := rfl
@[simp] theorem modStream_tim (s : State) (i : Nat) (f : Stream → Stream) : (s.modStream i f).tim = s.tim := rfl
@[simp] theorem modStream_flt (s : State) (i : Nat) (f : Stream → Stream) : (s.modStream i f).flt = s.flt := rfl
@[simp] theorem modStream_tal (s : State) (i : Nat) (f : Stream → Stream) : (s.modStream i f).tal = s.tal := rfl
@[simp] theorem modStream_evc (s : State) (i : Nat) (f : Stream → Stream) : (s.modStream i f).evc = s.evc := rfl
@[simp] theorem modStream_eqt (s : State) (i : Nat) (f : Stream → Stream) : (s.modStream i f).eqt = s.eqt := rfl
@[simp] theorem modStream_plc (s : State) (i : Nat) (f : Stream → Stream) : (s.modStream i f).plc = s.plc := rfl
@[simp] theorem modStream_orb (s : State) (i : Nat) (f : Stream → Stream) : (s.modStream i f).orb = s.orb := rfl
@[simp] theorem modStream_sce (s : State) (i : Nat) (f : Stream → Stream) : (s.modStream i f).sce = s.sce := rfl
@[simp] theorem modStream_spn (s : State) (i : Nat) (f : Stream → Stream) : (s.modStream i f).spn = s.spn := rfl
@[simp] theorem modStream_wrp (s : State) (i : Nat) (f : Stream → Stream) : (s.modStream i f).wrp = s.wrp := rfl
@[simp] theorem modStream_seq (s : State) (i : Nat) (f : Stream → Stream) : (s.modStream i f).seq = s.seq := rfl
@[simp] theorem modStream_dma (s : State) (i : Nat) (f : Stream → Stream) : (s.modStream i f).dma = s.dma := rfl
@[simp] theorem modStream_pwr (s : State) (i : Nat) (f : Stream → Stream) : (s.modStream i f).pwr = s.pwr := rfl
@[simp] theorem modStream_hbm (s : State) (i : Nat) (f : Stream → Stream) : (s.modStream i f).hbm = s.hbm := rfl
@[simp] theorem modStream_srm (s : State) (i : Nat) (f : Stream → Stream) : (s.modStream i f).srm = s.srm := rfl
@[simp] theorem modStream_cch (s : State) (i : Nat) (f : Stream → Stream) : (s.modStream i f).cch = s.cch := rfl
@[simp] theorem modStream_sec (s : State) (i : Nat) (f : Stream → Stream) : (s.modStream i f).sec = s.sec := rfl
@[simp] theorem modStream_pin (s : State) (i : Nat) (f : Stream → Stream) : (s.modStream i f).pin = s.pin := rfl
@[simp] theorem modStream_out (s : State) (i : Nat) (f : Stream → Stream) : (s.modStream i f).out = s.out := rfl
@[simp] theorem modStream_pending (s : State) (i : Nat) (f : Stream → Stream) : (s.modStream i f).pending = s.pending := rfl

@[simp] theorem modHead_now (s : State) (h : Nat) (f : LinkHead → LinkHead) : (s.modHead h f).now = s.now := rfl
@[simp] theorem modHead_free (s : State) (h : Nat) (f : LinkHead → LinkHead) : (s.modHead h f).free = s.free := rfl
@[simp] theorem modHead_regs (s : State) (h : Nat) (f : LinkHead → LinkHead) : (s.modHead h f).regs = s.regs := rfl
@[simp] theorem modHead_latches (s : State) (h : Nat) (f : LinkHead → LinkHead) : (s.modHead h f).latches = s.latches := rfl
@[simp] theorem modHead_setupErr (s : State) (h : Nat) (f : LinkHead → LinkHead) : (s.modHead h f).setupErr = s.setupErr := rfl
@[simp] theorem modHead_tim (s : State) (h : Nat) (f : LinkHead → LinkHead) : (s.modHead h f).tim = s.tim := rfl
@[simp] theorem modHead_flt (s : State) (h : Nat) (f : LinkHead → LinkHead) : (s.modHead h f).flt = s.flt := rfl
@[simp] theorem modHead_tal (s : State) (h : Nat) (f : LinkHead → LinkHead) : (s.modHead h f).tal = s.tal := rfl
@[simp] theorem modHead_evc (s : State) (h : Nat) (f : LinkHead → LinkHead) : (s.modHead h f).evc = s.evc := rfl
@[simp] theorem modHead_eqt (s : State) (h : Nat) (f : LinkHead → LinkHead) : (s.modHead h f).eqt = s.eqt := rfl
@[simp] theorem modHead_plc (s : State) (h : Nat) (f : LinkHead → LinkHead) : (s.modHead h f).plc = s.plc := rfl
@[simp] theorem modHead_orb (s : State) (h : Nat) (f : LinkHead → LinkHead) : (s.modHead h f).orb = s.orb := rfl
@[simp] theorem modHead_sce (s : State) (h : Nat) (f : LinkHead → LinkHead) : (s.modHead h f).sce = s.sce := rfl
@[simp] theorem modHead_spn (s : State) (h : Nat) (f : LinkHead → LinkHead) : (s.modHead h f).spn = s.spn := rfl
@[simp] theorem modHead_chn (s : State) (h : Nat) (f : LinkHead → LinkHead) : (s.modHead h f).chn = s.chn := rfl
@[simp] theorem modHead_seq (s : State) (h : Nat) (f : LinkHead → LinkHead) : (s.modHead h f).seq = s.seq := rfl
@[simp] theorem modHead_dma (s : State) (h : Nat) (f : LinkHead → LinkHead) : (s.modHead h f).dma = s.dma := rfl
@[simp] theorem modHead_pwr (s : State) (h : Nat) (f : LinkHead → LinkHead) : (s.modHead h f).pwr = s.pwr := rfl
@[simp] theorem modHead_hbm (s : State) (h : Nat) (f : LinkHead → LinkHead) : (s.modHead h f).hbm = s.hbm := rfl
@[simp] theorem modHead_srm (s : State) (h : Nat) (f : LinkHead → LinkHead) : (s.modHead h f).srm = s.srm := rfl
@[simp] theorem modHead_cch (s : State) (h : Nat) (f : LinkHead → LinkHead) : (s.modHead h f).cch = s.cch := rfl
@[simp] theorem modHead_sec (s : State) (h : Nat) (f : LinkHead → LinkHead) : (s.modHead h f).sec = s.sec := rfl
@[simp] theorem modHead_pin (s : State) (h : Nat) (f : LinkHead → LinkHead) : (s.modHead h f).pin = s.pin := rfl
@[simp] theorem modHead_out (s : State) (h : Nat) (f : LinkHead → LinkHead) : (s.modHead h f).out = s.out := rfl
@[simp] theorem modHead_pending (s : State) (h : Nat) (f : LinkHead → LinkHead) : (s.modHead h f).pending = s.pending := rfl

@[simp] theorem modLink_now (s : State) (a : Nat) (f : Link → Link) : (s.modLink a f).now = s.now := rfl
@[simp] theorem modLink_free (s : State) (a : Nat) (f : Link → Link) : (s.modLink a f).free = s.free := rfl
@[simp] theorem modLink_regs (s : State) (a : Nat) (f : Link → Link) : (s.modLink a f).regs = s.regs := rfl
@[simp] theorem modLink_latches (s : State) (a : Nat) (f : Link → Link) : (s.modLink a f).latches = s.latches := rfl
@[simp] theorem modLink_setupErr (s : State) (a : Nat) (f : Link → Link) : (s.modLink a f).setupErr = s.setupErr := rfl
@[simp] theorem modLink_tim (s : State) (a : Nat) (f : Link → Link) : (s.modLink a f).tim = s.tim := rfl
@[simp] theorem modLink_flt (s : State) (a : Nat) (f : Link → Link) : (s.modLink a f).flt = s.flt := rfl
@[simp] theorem modLink_tal (s : State) (a : Nat) (f : Link → Link) : (s.modLink a f).tal = s.tal := rfl
@[simp] theorem modLink_evc (s : State) (a : Nat) (f : Link → Link) : (s.modLink a f).evc = s.evc := rfl
@[simp] theorem modLink_eqt (s : State) (a : Nat) (f : Link → Link) : (s.modLink a f).eqt = s.eqt := rfl
@[simp] theorem modLink_plc (s : State) (a : Nat) (f : Link → Link) : (s.modLink a f).plc = s.plc := rfl
@[simp] theorem modLink_orb (s : State) (a : Nat) (f : Link → Link) : (s.modLink a f).orb = s.orb := rfl
@[simp] theorem modLink_sce (s : State) (a : Nat) (f : Link → Link) : (s.modLink a f).sce = s.sce := rfl
@[simp] theorem modLink_spn (s : State) (a : Nat) (f : Link → Link) : (s.modLink a f).spn = s.spn := rfl
@[simp] theorem modLink_chn (s : State) (a : Nat) (f : Link → Link) : (s.modLink a f).chn = s.chn := rfl
@[simp] theorem modLink_seq (s : State) (a : Nat) (f : Link → Link) : (s.modLink a f).seq = s.seq := rfl
@[simp] theorem modLink_dma (s : State) (a : Nat) (f : Link → Link) : (s.modLink a f).dma = s.dma := rfl
@[simp] theorem modLink_pwr (s : State) (a : Nat) (f : Link → Link) : (s.modLink a f).pwr = s.pwr := rfl
@[simp] theorem modLink_hbm (s : State) (a : Nat) (f : Link → Link) : (s.modLink a f).hbm = s.hbm := rfl
@[simp] theorem modLink_srm (s : State) (a : Nat) (f : Link → Link) : (s.modLink a f).srm = s.srm := rfl
@[simp] theorem modLink_cch (s : State) (a : Nat) (f : Link → Link) : (s.modLink a f).cch = s.cch := rfl
@[simp] theorem modLink_sec (s : State) (a : Nat) (f : Link → Link) : (s.modLink a f).sec = s.sec := rfl
@[simp] theorem modLink_pin (s : State) (a : Nat) (f : Link → Link) : (s.modLink a f).pin = s.pin := rfl
@[simp] theorem modLink_out (s : State) (a : Nat) (f : Link → Link) : (s.modLink a f).out = s.out := rfl
@[simp] theorem modLink_pending (s : State) (a : Nat) (f : Link → Link) : (s.modLink a f).pending = s.pending := rfl

@[simp] theorem modSeq_now (s : State) (q : Nat) (f : Seq → Seq) : (s.modSeq q f).now = s.now := rfl
@[simp] theorem modSeq_free (s : State) (q : Nat) (f : Seq → Seq) : (s.modSeq q f).free = s.free := rfl
@[simp] theorem modSeq_regs (s : State) (q : Nat) (f : Seq → Seq) : (s.modSeq q f).regs = s.regs := rfl
@[simp] theorem modSeq_latches (s : State) (q : Nat) (f : Seq → Seq) : (s.modSeq q f).latches = s.latches := rfl
@[simp] theorem modSeq_setupErr (s : State) (q : Nat) (f : Seq → Seq) : (s.modSeq q f).setupErr = s.setupErr := rfl
@[simp] theorem modSeq_tim (s : State) (q : Nat) (f : Seq → Seq) : (s.modSeq q f).tim = s.tim := rfl
@[simp] theorem modSeq_flt (s : State) (q : Nat) (f : Seq → Seq) : (s.modSeq q f).flt = s.flt := rfl
@[simp] theorem modSeq_tal (s : State) (q : Nat) (f : Seq → Seq) : (s.modSeq q f).tal = s.tal := rfl
@[simp] theorem modSeq_evc (s : State) (q : Nat) (f : Seq → Seq) : (s.modSeq q f).evc = s.evc := rfl
@[simp] theorem modSeq_eqt (s : State) (q : Nat) (f : Seq → Seq) : (s.modSeq q f).eqt = s.eqt := rfl
@[simp] theorem modSeq_plc (s : State) (q : Nat) (f : Seq → Seq) : (s.modSeq q f).plc = s.plc := rfl
@[simp] theorem modSeq_orb (s : State) (q : Nat) (f : Seq → Seq) : (s.modSeq q f).orb = s.orb := rfl
@[simp] theorem modSeq_sce (s : State) (q : Nat) (f : Seq → Seq) : (s.modSeq q f).sce = s.sce := rfl
@[simp] theorem modSeq_spn (s : State) (q : Nat) (f : Seq → Seq) : (s.modSeq q f).spn = s.spn := rfl
@[simp] theorem modSeq_chn (s : State) (q : Nat) (f : Seq → Seq) : (s.modSeq q f).chn = s.chn := rfl
@[simp] theorem modSeq_wrp (s : State) (q : Nat) (f : Seq → Seq) : (s.modSeq q f).wrp = s.wrp := rfl
@[simp] theorem modSeq_dma (s : State) (q : Nat) (f : Seq → Seq) : (s.modSeq q f).dma = s.dma := rfl
@[simp] theorem modSeq_pwr (s : State) (q : Nat) (f : Seq → Seq) : (s.modSeq q f).pwr = s.pwr := rfl
@[simp] theorem modSeq_hbm (s : State) (q : Nat) (f : Seq → Seq) : (s.modSeq q f).hbm = s.hbm := rfl
@[simp] theorem modSeq_srm (s : State) (q : Nat) (f : Seq → Seq) : (s.modSeq q f).srm = s.srm := rfl
@[simp] theorem modSeq_cch (s : State) (q : Nat) (f : Seq → Seq) : (s.modSeq q f).cch = s.cch := rfl
@[simp] theorem modSeq_sec (s : State) (q : Nat) (f : Seq → Seq) : (s.modSeq q f).sec = s.sec := rfl
@[simp] theorem modSeq_pin (s : State) (q : Nat) (f : Seq → Seq) : (s.modSeq q f).pin = s.pin := rfl
@[simp] theorem modSeq_out (s : State) (q : Nat) (f : Seq → Seq) : (s.modSeq q f).out = s.out := rfl
@[simp] theorem modSeq_pending (s : State) (q : Nat) (f : Seq → Seq) : (s.modSeq q f).pending = s.pending := rfl

@[simp] theorem modSlot_now (s : State) (n : Nat) (f : Slot → Slot) : (s.modSlot n f).now = s.now := rfl
@[simp] theorem modSlot_free (s : State) (n : Nat) (f : Slot → Slot) : (s.modSlot n f).free = s.free := rfl
@[simp] theorem modSlot_regs (s : State) (n : Nat) (f : Slot → Slot) : (s.modSlot n f).regs = s.regs := rfl
@[simp] theorem modSlot_latches (s : State) (n : Nat) (f : Slot → Slot) : (s.modSlot n f).latches = s.latches := rfl
@[simp] theorem modSlot_setupErr (s : State) (n : Nat) (f : Slot → Slot) : (s.modSlot n f).setupErr = s.setupErr := rfl
@[simp] theorem modSlot_tim (s : State) (n : Nat) (f : Slot → Slot) : (s.modSlot n f).tim = s.tim := rfl
@[simp] theorem modSlot_flt (s : State) (n : Nat) (f : Slot → Slot) : (s.modSlot n f).flt = s.flt := rfl
@[simp] theorem modSlot_tal (s : State) (n : Nat) (f : Slot → Slot) : (s.modSlot n f).tal = s.tal := rfl
@[simp] theorem modSlot_evc (s : State) (n : Nat) (f : Slot → Slot) : (s.modSlot n f).evc = s.evc := rfl
@[simp] theorem modSlot_eqt (s : State) (n : Nat) (f : Slot → Slot) : (s.modSlot n f).eqt = s.eqt := rfl
@[simp] theorem modSlot_plc (s : State) (n : Nat) (f : Slot → Slot) : (s.modSlot n f).plc = s.plc := rfl
@[simp] theorem modSlot_orb (s : State) (n : Nat) (f : Slot → Slot) : (s.modSlot n f).orb = s.orb := rfl
@[simp] theorem modSlot_spn (s : State) (n : Nat) (f : Slot → Slot) : (s.modSlot n f).spn = s.spn := rfl
@[simp] theorem modSlot_chn (s : State) (n : Nat) (f : Slot → Slot) : (s.modSlot n f).chn = s.chn := rfl
@[simp] theorem modSlot_wrp (s : State) (n : Nat) (f : Slot → Slot) : (s.modSlot n f).wrp = s.wrp := rfl
@[simp] theorem modSlot_seq (s : State) (n : Nat) (f : Slot → Slot) : (s.modSlot n f).seq = s.seq := rfl
@[simp] theorem modSlot_dma (s : State) (n : Nat) (f : Slot → Slot) : (s.modSlot n f).dma = s.dma := rfl
@[simp] theorem modSlot_pwr (s : State) (n : Nat) (f : Slot → Slot) : (s.modSlot n f).pwr = s.pwr := rfl
@[simp] theorem modSlot_hbm (s : State) (n : Nat) (f : Slot → Slot) : (s.modSlot n f).hbm = s.hbm := rfl
@[simp] theorem modSlot_srm (s : State) (n : Nat) (f : Slot → Slot) : (s.modSlot n f).srm = s.srm := rfl
@[simp] theorem modSlot_cch (s : State) (n : Nat) (f : Slot → Slot) : (s.modSlot n f).cch = s.cch := rfl
@[simp] theorem modSlot_sec (s : State) (n : Nat) (f : Slot → Slot) : (s.modSlot n f).sec = s.sec := rfl
@[simp] theorem modSlot_pin (s : State) (n : Nat) (f : Slot → Slot) : (s.modSlot n f).pin = s.pin := rfl
@[simp] theorem modSlot_out (s : State) (n : Nat) (f : Slot → Slot) : (s.modSlot n f).out = s.out := rfl
@[simp] theorem modSlot_pending (s : State) (n : Nat) (f : Slot → Slot) : (s.modSlot n f).pending = s.pending := rfl

@[simp] theorem modLoop_now (s : State) (st : Nat) (f : HeadLoop → HeadLoop) : (s.modLoop st f).now = s.now := rfl
@[simp] theorem modLoop_free (s : State) (st : Nat) (f : HeadLoop → HeadLoop) : (s.modLoop st f).free = s.free := rfl
@[simp] theorem modLoop_regs (s : State) (st : Nat) (f : HeadLoop → HeadLoop) : (s.modLoop st f).regs = s.regs := rfl
@[simp] theorem modLoop_latches (s : State) (st : Nat) (f : HeadLoop → HeadLoop) : (s.modLoop st f).latches = s.latches := rfl
@[simp] theorem modLoop_setupErr (s : State) (st : Nat) (f : HeadLoop → HeadLoop) : (s.modLoop st f).setupErr = s.setupErr := rfl
@[simp] theorem modLoop_tim (s : State) (st : Nat) (f : HeadLoop → HeadLoop) : (s.modLoop st f).tim = s.tim := rfl
@[simp] theorem modLoop_flt (s : State) (st : Nat) (f : HeadLoop → HeadLoop) : (s.modLoop st f).flt = s.flt := rfl
@[simp] theorem modLoop_tal (s : State) (st : Nat) (f : HeadLoop → HeadLoop) : (s.modLoop st f).tal = s.tal := rfl
@[simp] theorem modLoop_evc (s : State) (st : Nat) (f : HeadLoop → HeadLoop) : (s.modLoop st f).evc = s.evc := rfl
@[simp] theorem modLoop_eqt (s : State) (st : Nat) (f : HeadLoop → HeadLoop) : (s.modLoop st f).eqt = s.eqt := rfl
@[simp] theorem modLoop_plc (s : State) (st : Nat) (f : HeadLoop → HeadLoop) : (s.modLoop st f).plc = s.plc := rfl
@[simp] theorem modLoop_orb (s : State) (st : Nat) (f : HeadLoop → HeadLoop) : (s.modLoop st f).orb = s.orb := rfl
@[simp] theorem modLoop_spn (s : State) (st : Nat) (f : HeadLoop → HeadLoop) : (s.modLoop st f).spn = s.spn := rfl
@[simp] theorem modLoop_chn (s : State) (st : Nat) (f : HeadLoop → HeadLoop) : (s.modLoop st f).chn = s.chn := rfl
@[simp] theorem modLoop_wrp (s : State) (st : Nat) (f : HeadLoop → HeadLoop) : (s.modLoop st f).wrp = s.wrp := rfl
@[simp] theorem modLoop_seq (s : State) (st : Nat) (f : HeadLoop → HeadLoop) : (s.modLoop st f).seq = s.seq := rfl
@[simp] theorem modLoop_dma (s : State) (st : Nat) (f : HeadLoop → HeadLoop) : (s.modLoop st f).dma = s.dma := rfl
@[simp] theorem modLoop_pwr (s : State) (st : Nat) (f : HeadLoop → HeadLoop) : (s.modLoop st f).pwr = s.pwr := rfl
@[simp] theorem modLoop_hbm (s : State) (st : Nat) (f : HeadLoop → HeadLoop) : (s.modLoop st f).hbm = s.hbm := rfl
@[simp] theorem modLoop_srm (s : State) (st : Nat) (f : HeadLoop → HeadLoop) : (s.modLoop st f).srm = s.srm := rfl
@[simp] theorem modLoop_cch (s : State) (st : Nat) (f : HeadLoop → HeadLoop) : (s.modLoop st f).cch = s.cch := rfl
@[simp] theorem modLoop_sec (s : State) (st : Nat) (f : HeadLoop → HeadLoop) : (s.modLoop st f).sec = s.sec := rfl
@[simp] theorem modLoop_pin (s : State) (st : Nat) (f : HeadLoop → HeadLoop) : (s.modLoop st f).pin = s.pin := rfl
@[simp] theorem modLoop_out (s : State) (st : Nat) (f : HeadLoop → HeadLoop) : (s.modLoop st f).out = s.out := rfl
@[simp] theorem modLoop_pending (s : State) (st : Nat) (f : HeadLoop → HeadLoop) : (s.modLoop st f).pending = s.pending := rfl

@[simp] theorem setAct_now (s : State) (a : Nat) (x : Act) : (s.setAct a x).now = s.now := rfl
@[simp] theorem setAct_free (s : State) (a : Nat) (x : Act) : (s.setAct a x).free = s.free := rfl
@[simp] theorem setAct_regs (s : State) (a : Nat) (x : Act) : (s.setAct a x).regs = s.regs := rfl
@[simp] theorem setAct_latches (s : State) (a : Nat) (x : Act) : (s.setAct a x).latches = s.latches := rfl
@[simp] theorem setAct_setupErr (s : State) (a : Nat) (x : Act) : (s.setAct a x).setupErr = s.setupErr := rfl
@[simp] theorem setAct_tim (s : State) (a : Nat) (x : Act) : (s.setAct a x).tim = s.tim := rfl
@[simp] theorem setAct_flt (s : State) (a : Nat) (x : Act) : (s.setAct a x).flt = s.flt := rfl
@[simp] theorem setAct_tal (s : State) (a : Nat) (x : Act) : (s.setAct a x).tal = s.tal := rfl
@[simp] theorem setAct_evc (s : State) (a : Nat) (x : Act) : (s.setAct a x).evc = s.evc := rfl
@[simp] theorem setAct_eqt (s : State) (a : Nat) (x : Act) : (s.setAct a x).eqt = s.eqt := rfl
@[simp] theorem setAct_plc (s : State) (a : Nat) (x : Act) : (s.setAct a x).plc = s.plc := rfl
@[simp] theorem setAct_orb (s : State) (a : Nat) (x : Act) : (s.setAct a x).orb = s.orb := rfl
@[simp] theorem setAct_spn (s : State) (a : Nat) (x : Act) : (s.setAct a x).spn = s.spn := rfl
@[simp] theorem setAct_chn (s : State) (a : Nat) (x : Act) : (s.setAct a x).chn = s.chn := rfl
@[simp] theorem setAct_wrp (s : State) (a : Nat) (x : Act) : (s.setAct a x).wrp = s.wrp := rfl
@[simp] theorem setAct_seq (s : State) (a : Nat) (x : Act) : (s.setAct a x).seq = s.seq := rfl
@[simp] theorem setAct_dma (s : State) (a : Nat) (x : Act) : (s.setAct a x).dma = s.dma := rfl
@[simp] theorem setAct_pwr (s : State) (a : Nat) (x : Act) : (s.setAct a x).pwr = s.pwr := rfl
@[simp] theorem setAct_hbm (s : State) (a : Nat) (x : Act) : (s.setAct a x).hbm = s.hbm := rfl
@[simp] theorem setAct_srm (s : State) (a : Nat) (x : Act) : (s.setAct a x).srm = s.srm := rfl
@[simp] theorem setAct_cch (s : State) (a : Nat) (x : Act) : (s.setAct a x).cch = s.cch := rfl
@[simp] theorem setAct_sec (s : State) (a : Nat) (x : Act) : (s.setAct a x).sec = s.sec := rfl
@[simp] theorem setAct_pin (s : State) (a : Nat) (x : Act) : (s.setAct a x).pin = s.pin := rfl
@[simp] theorem setAct_out (s : State) (a : Nat) (x : Act) : (s.setAct a x).out = s.out := rfl
@[simp] theorem setAct_pending (s : State) (a : Nat) (x : Act) : (s.setAct a x).pending = s.pending := rfl

@[simp] theorem modAct_now (s : State) (a : Nat) (f : Act → Act) : (s.modAct a f).now = s.now := rfl
@[simp] theorem modAct_free (s : State) (a : Nat) (f : Act → Act) : (s.modAct a f).free = s.free := rfl
@[simp] theorem modAct_regs (s : State) (a : Nat) (f : Act → Act) : (s.modAct a f).regs = s.regs := rfl
@[simp] theorem modAct_latches (s : State) (a : Nat) (f : Act → Act) : (s.modAct a f).latches = s.latches := rfl
@[simp] theorem modAct_setupErr (s : State) (a : Nat) (f : Act → Act) : (s.modAct a f).setupErr = s.setupErr := rfl
@[simp] theorem modAct_tim (s : State) (a : Nat) (f : Act → Act) : (s.modAct a f).tim = s.tim := rfl
@[simp] theorem modAct_flt (s : State) (a : Nat) (f : Act → Act) : (s.modAct a f).flt = s.flt := rfl
@[simp] theorem modAct_tal (s : State) (a : Nat) (f : Act → Act) : (s.modAct a f).tal = s.tal := rfl
@[simp] theorem modAct_evc (s : State) (a : Nat) (f : Act → Act) : (s.modAct a f).evc = s.evc := rfl
@[simp] theorem modAct_eqt (s : State) (a : Nat) (f : Act → Act) : (s.modAct a f).eqt = s.eqt := rfl
@[simp] theorem modAct_plc (s : State) (a : Nat) (f : Act → Act) : (s.modAct a f).plc = s.plc := rfl
@[simp] theorem modAct_orb (s : State) (a : Nat) (f : Act → Act) : (s.modAct a f).orb = s.orb := rfl
@[simp] theorem modAct_spn (s : State) (a : Nat) (f : Act → Act) : (s.modAct a f).spn = s.spn := rfl
@[simp] theorem modAct_chn (s : State) (a : Nat) (f : Act → Act) : (s.modAct a f).chn = s.chn := rfl
@[simp] theorem modAct_wrp (s : State) (a : Nat) (f : Act → Act) : (s.modAct a f).wrp = s.wrp := rfl
@[simp] theorem modAct_seq (s : State) (a : Nat) (f : Act → Act) : (s.modAct a f).seq = s.seq := rfl
@[simp] theorem modAct_dma (s : State) (a : Nat) (f : Act → Act) : (s.modAct a f).dma = s.dma := rfl
@[simp] theorem modAct_pwr (s : State) (a : Nat) (f : Act → Act) : (s.modAct a f).pwr = s.pwr := rfl
@[simp] theorem modAct_hbm (s : State) (a : Nat) (f : Act → Act) : (s.modAct a f).hbm = s.hbm := rfl
@[simp] theorem modAct_srm (s : State) (a : Nat) (f : Act → Act) : (s.modAct a f).srm = s.srm := rfl
@[simp] theorem modAct_cch (s : State) (a : Nat) (f : Act → Act) : (s.modAct a f).cch = s.cch := rfl
@[simp] theorem modAct_sec (s : State) (a : Nat) (f : Act → Act) : (s.modAct a f).sec = s.sec := rfl
@[simp] theorem modAct_pin (s : State) (a : Nat) (f : Act → Act) : (s.modAct a f).pin = s.pin := rfl
@[simp] theorem modAct_out (s : State) (a : Nat) (f : Act → Act) : (s.modAct a f).out = s.out := rfl
@[simp] theorem modAct_pending (s : State) (a : Nat) (f : Act → Act) : (s.modAct a f).pending = s.pending := rfl

@[simp] theorem modSpn_now (s : State) (f : Spn → Spn) : (s.modSpn f).now = s.now := rfl
@[simp] theorem modSpn_free (s : State) (f : Spn → Spn) : (s.modSpn f).free = s.free := rfl
@[simp] theorem modSpn_regs (s : State) (f : Spn → Spn) : (s.modSpn f).regs = s.regs := rfl
@[simp] theorem modSpn_latches (s : State) (f : Spn → Spn) : (s.modSpn f).latches = s.latches := rfl
@[simp] theorem modSpn_setupErr (s : State) (f : Spn → Spn) : (s.modSpn f).setupErr = s.setupErr := rfl
@[simp] theorem modSpn_tim (s : State) (f : Spn → Spn) : (s.modSpn f).tim = s.tim := rfl
@[simp] theorem modSpn_flt (s : State) (f : Spn → Spn) : (s.modSpn f).flt = s.flt := rfl
@[simp] theorem modSpn_tal (s : State) (f : Spn → Spn) : (s.modSpn f).tal = s.tal := rfl
@[simp] theorem modSpn_evc (s : State) (f : Spn → Spn) : (s.modSpn f).evc = s.evc := rfl
@[simp] theorem modSpn_eqt (s : State) (f : Spn → Spn) : (s.modSpn f).eqt = s.eqt := rfl
@[simp] theorem modSpn_plc (s : State) (f : Spn → Spn) : (s.modSpn f).plc = s.plc := rfl
@[simp] theorem modSpn_orb (s : State) (f : Spn → Spn) : (s.modSpn f).orb = s.orb := rfl
@[simp] theorem modSpn_sce (s : State) (f : Spn → Spn) : (s.modSpn f).sce = s.sce := rfl
@[simp] theorem modSpn_chn (s : State) (f : Spn → Spn) : (s.modSpn f).chn = s.chn := rfl
@[simp] theorem modSpn_wrp (s : State) (f : Spn → Spn) : (s.modSpn f).wrp = s.wrp := rfl
@[simp] theorem modSpn_seq (s : State) (f : Spn → Spn) : (s.modSpn f).seq = s.seq := rfl
@[simp] theorem modSpn_dma (s : State) (f : Spn → Spn) : (s.modSpn f).dma = s.dma := rfl
@[simp] theorem modSpn_pwr (s : State) (f : Spn → Spn) : (s.modSpn f).pwr = s.pwr := rfl
@[simp] theorem modSpn_hbm (s : State) (f : Spn → Spn) : (s.modSpn f).hbm = s.hbm := rfl
@[simp] theorem modSpn_srm (s : State) (f : Spn → Spn) : (s.modSpn f).srm = s.srm := rfl
@[simp] theorem modSpn_cch (s : State) (f : Spn → Spn) : (s.modSpn f).cch = s.cch := rfl
@[simp] theorem modSpn_sec (s : State) (f : Spn → Spn) : (s.modSpn f).sec = s.sec := rfl
@[simp] theorem modSpn_pin (s : State) (f : Spn → Spn) : (s.modSpn f).pin = s.pin := rfl
@[simp] theorem modSpn_out (s : State) (f : Spn → Spn) : (s.modSpn f).out = s.out := rfl
@[simp] theorem modSpn_pending (s : State) (f : Spn → Spn) : (s.modSpn f).pending = s.pending := rfl

@[simp] theorem modCh_now (s : State) (c : Nat) (f : DmaCh → DmaCh) : (s.modCh c f).now = s.now := rfl
@[simp] theorem modCh_free (s : State) (c : Nat) (f : DmaCh → DmaCh) : (s.modCh c f).free = s.free := rfl
@[simp] theorem modCh_regs (s : State) (c : Nat) (f : DmaCh → DmaCh) : (s.modCh c f).regs = s.regs := rfl
@[simp] theorem modCh_latches (s : State) (c : Nat) (f : DmaCh → DmaCh) : (s.modCh c f).latches = s.latches := rfl
@[simp] theorem modCh_setupErr (s : State) (c : Nat) (f : DmaCh → DmaCh) : (s.modCh c f).setupErr = s.setupErr := rfl
@[simp] theorem modCh_tim (s : State) (c : Nat) (f : DmaCh → DmaCh) : (s.modCh c f).tim = s.tim := rfl
@[simp] theorem modCh_flt (s : State) (c : Nat) (f : DmaCh → DmaCh) : (s.modCh c f).flt = s.flt := rfl
@[simp] theorem modCh_tal (s : State) (c : Nat) (f : DmaCh → DmaCh) : (s.modCh c f).tal = s.tal := rfl
@[simp] theorem modCh_evc (s : State) (c : Nat) (f : DmaCh → DmaCh) : (s.modCh c f).evc = s.evc := rfl
@[simp] theorem modCh_eqt (s : State) (c : Nat) (f : DmaCh → DmaCh) : (s.modCh c f).eqt = s.eqt := rfl
@[simp] theorem modCh_plc (s : State) (c : Nat) (f : DmaCh → DmaCh) : (s.modCh c f).plc = s.plc := rfl
@[simp] theorem modCh_orb (s : State) (c : Nat) (f : DmaCh → DmaCh) : (s.modCh c f).orb = s.orb := rfl
@[simp] theorem modCh_sce (s : State) (c : Nat) (f : DmaCh → DmaCh) : (s.modCh c f).sce = s.sce := rfl
@[simp] theorem modCh_spn (s : State) (c : Nat) (f : DmaCh → DmaCh) : (s.modCh c f).spn = s.spn := rfl
@[simp] theorem modCh_chn (s : State) (c : Nat) (f : DmaCh → DmaCh) : (s.modCh c f).chn = s.chn := rfl
@[simp] theorem modCh_wrp (s : State) (c : Nat) (f : DmaCh → DmaCh) : (s.modCh c f).wrp = s.wrp := rfl
@[simp] theorem modCh_seq (s : State) (c : Nat) (f : DmaCh → DmaCh) : (s.modCh c f).seq = s.seq := rfl
@[simp] theorem modCh_pwr (s : State) (c : Nat) (f : DmaCh → DmaCh) : (s.modCh c f).pwr = s.pwr := rfl
@[simp] theorem modCh_hbm (s : State) (c : Nat) (f : DmaCh → DmaCh) : (s.modCh c f).hbm = s.hbm := rfl
@[simp] theorem modCh_srm (s : State) (c : Nat) (f : DmaCh → DmaCh) : (s.modCh c f).srm = s.srm := rfl
@[simp] theorem modCh_cch (s : State) (c : Nat) (f : DmaCh → DmaCh) : (s.modCh c f).cch = s.cch := rfl
@[simp] theorem modCh_sec (s : State) (c : Nat) (f : DmaCh → DmaCh) : (s.modCh c f).sec = s.sec := rfl
@[simp] theorem modCh_pin (s : State) (c : Nat) (f : DmaCh → DmaCh) : (s.modCh c f).pin = s.pin := rfl
@[simp] theorem modCh_out (s : State) (c : Nat) (f : DmaCh → DmaCh) : (s.modCh c f).out = s.out := rfl
@[simp] theorem modCh_pending (s : State) (c : Nat) (f : DmaCh → DmaCh) : (s.modCh c f).pending = s.pending := rfl

@[simp] theorem dmaPost_now (s : State) (code : Nat) : (s.dmaPost code).now = s.now := rfl
@[simp] theorem dmaPost_free (s : State) (code : Nat) : (s.dmaPost code).free = s.free := rfl
@[simp] theorem dmaPost_regs (s : State) (code : Nat) : (s.dmaPost code).regs = s.regs := rfl
@[simp] theorem dmaPost_latches (s : State) (code : Nat) : (s.dmaPost code).latches = s.latches := rfl
@[simp] theorem dmaPost_setupErr (s : State) (code : Nat) : (s.dmaPost code).setupErr = s.setupErr := rfl
@[simp] theorem dmaPost_tim (s : State) (code : Nat) : (s.dmaPost code).tim = s.tim := rfl
@[simp] theorem dmaPost_flt (s : State) (code : Nat) : (s.dmaPost code).flt = s.flt := rfl
@[simp] theorem dmaPost_tal (s : State) (code : Nat) : (s.dmaPost code).tal = s.tal := rfl
@[simp] theorem dmaPost_evc (s : State) (code : Nat) : (s.dmaPost code).evc = s.evc := rfl
@[simp] theorem dmaPost_eqt (s : State) (code : Nat) : (s.dmaPost code).eqt = s.eqt := rfl
@[simp] theorem dmaPost_plc (s : State) (code : Nat) : (s.dmaPost code).plc = s.plc := rfl
@[simp] theorem dmaPost_orb (s : State) (code : Nat) : (s.dmaPost code).orb = s.orb := rfl
@[simp] theorem dmaPost_sce (s : State) (code : Nat) : (s.dmaPost code).sce = s.sce := rfl
@[simp] theorem dmaPost_spn (s : State) (code : Nat) : (s.dmaPost code).spn = s.spn := rfl
@[simp] theorem dmaPost_chn (s : State) (code : Nat) : (s.dmaPost code).chn = s.chn := rfl
@[simp] theorem dmaPost_wrp (s : State) (code : Nat) : (s.dmaPost code).wrp = s.wrp := rfl
@[simp] theorem dmaPost_seq (s : State) (code : Nat) : (s.dmaPost code).seq = s.seq := rfl
@[simp] theorem dmaPost_pwr (s : State) (code : Nat) : (s.dmaPost code).pwr = s.pwr := rfl
@[simp] theorem dmaPost_hbm (s : State) (code : Nat) : (s.dmaPost code).hbm = s.hbm := rfl
@[simp] theorem dmaPost_srm (s : State) (code : Nat) : (s.dmaPost code).srm = s.srm := rfl
@[simp] theorem dmaPost_cch (s : State) (code : Nat) : (s.dmaPost code).cch = s.cch := rfl
@[simp] theorem dmaPost_sec (s : State) (code : Nat) : (s.dmaPost code).sec = s.sec := rfl
@[simp] theorem dmaPost_pin (s : State) (code : Nat) : (s.dmaPost code).pin = s.pin := rfl
@[simp] theorem dmaPost_out (s : State) (code : Nat) : (s.dmaPost code).out = s.out := rfl
@[simp] theorem dmaPost_pending (s : State) (code : Nat) : (s.dmaPost code).pending = s.pending := rfl

@[simp] theorem modLadder_now (s : State) (i : Nat) (f : Ladder → Ladder) : (s.modLadder i f).now = s.now := rfl
@[simp] theorem modLadder_free (s : State) (i : Nat) (f : Ladder → Ladder) : (s.modLadder i f).free = s.free := rfl
@[simp] theorem modLadder_regs (s : State) (i : Nat) (f : Ladder → Ladder) : (s.modLadder i f).regs = s.regs := rfl
@[simp] theorem modLadder_latches (s : State) (i : Nat) (f : Ladder → Ladder) : (s.modLadder i f).latches = s.latches := rfl
@[simp] theorem modLadder_setupErr (s : State) (i : Nat) (f : Ladder → Ladder) : (s.modLadder i f).setupErr = s.setupErr := rfl
@[simp] theorem modLadder_tim (s : State) (i : Nat) (f : Ladder → Ladder) : (s.modLadder i f).tim = s.tim := rfl
@[simp] theorem modLadder_flt (s : State) (i : Nat) (f : Ladder → Ladder) : (s.modLadder i f).flt = s.flt := rfl
@[simp] theorem modLadder_tal (s : State) (i : Nat) (f : Ladder → Ladder) : (s.modLadder i f).tal = s.tal := rfl
@[simp] theorem modLadder_evc (s : State) (i : Nat) (f : Ladder → Ladder) : (s.modLadder i f).evc = s.evc := rfl
@[simp] theorem modLadder_eqt (s : State) (i : Nat) (f : Ladder → Ladder) : (s.modLadder i f).eqt = s.eqt := rfl
@[simp] theorem modLadder_plc (s : State) (i : Nat) (f : Ladder → Ladder) : (s.modLadder i f).plc = s.plc := rfl
@[simp] theorem modLadder_orb (s : State) (i : Nat) (f : Ladder → Ladder) : (s.modLadder i f).orb = s.orb := rfl
@[simp] theorem modLadder_sce (s : State) (i : Nat) (f : Ladder → Ladder) : (s.modLadder i f).sce = s.sce := rfl
@[simp] theorem modLadder_spn (s : State) (i : Nat) (f : Ladder → Ladder) : (s.modLadder i f).spn = s.spn := rfl
@[simp] theorem modLadder_wrp (s : State) (i : Nat) (f : Ladder → Ladder) : (s.modLadder i f).wrp = s.wrp := rfl
@[simp] theorem modLadder_seq (s : State) (i : Nat) (f : Ladder → Ladder) : (s.modLadder i f).seq = s.seq := rfl
@[simp] theorem modLadder_dma (s : State) (i : Nat) (f : Ladder → Ladder) : (s.modLadder i f).dma = s.dma := rfl
@[simp] theorem modLadder_pwr (s : State) (i : Nat) (f : Ladder → Ladder) : (s.modLadder i f).pwr = s.pwr := rfl
@[simp] theorem modLadder_hbm (s : State) (i : Nat) (f : Ladder → Ladder) : (s.modLadder i f).hbm = s.hbm := rfl
@[simp] theorem modLadder_srm (s : State) (i : Nat) (f : Ladder → Ladder) : (s.modLadder i f).srm = s.srm := rfl
@[simp] theorem modLadder_cch (s : State) (i : Nat) (f : Ladder → Ladder) : (s.modLadder i f).cch = s.cch := rfl
@[simp] theorem modLadder_sec (s : State) (i : Nat) (f : Ladder → Ladder) : (s.modLadder i f).sec = s.sec := rfl
@[simp] theorem modLadder_pin (s : State) (i : Nat) (f : Ladder → Ladder) : (s.modLadder i f).pin = s.pin := rfl
@[simp] theorem modLadder_out (s : State) (i : Nat) (f : Ladder → Ladder) : (s.modLadder i f).out = s.out := rfl
@[simp] theorem modLadder_pending (s : State) (i : Nat) (f : Ladder → Ladder) : (s.modLadder i f).pending = s.pending := rfl

@[simp] theorem setSlot_now (s : State) (st n : Nat) (v : SlotState) : (s.setSlot st n v).now = s.now := rfl
@[simp] theorem setSlot_free (s : State) (st n : Nat) (v : SlotState) : (s.setSlot st n v).free = s.free := rfl
@[simp] theorem setSlot_regs (s : State) (st n : Nat) (v : SlotState) : (s.setSlot st n v).regs = s.regs := rfl
@[simp] theorem setSlot_latches (s : State) (st n : Nat) (v : SlotState) : (s.setSlot st n v).latches = s.latches := rfl
@[simp] theorem setSlot_setupErr (s : State) (st n : Nat) (v : SlotState) : (s.setSlot st n v).setupErr = s.setupErr := rfl
@[simp] theorem setSlot_tim (s : State) (st n : Nat) (v : SlotState) : (s.setSlot st n v).tim = s.tim := rfl
@[simp] theorem setSlot_flt (s : State) (st n : Nat) (v : SlotState) : (s.setSlot st n v).flt = s.flt := rfl
@[simp] theorem setSlot_tal (s : State) (st n : Nat) (v : SlotState) : (s.setSlot st n v).tal = s.tal := rfl
@[simp] theorem setSlot_evc (s : State) (st n : Nat) (v : SlotState) : (s.setSlot st n v).evc = s.evc := rfl
@[simp] theorem setSlot_eqt (s : State) (st n : Nat) (v : SlotState) : (s.setSlot st n v).eqt = s.eqt := rfl
@[simp] theorem setSlot_plc (s : State) (st n : Nat) (v : SlotState) : (s.setSlot st n v).plc = s.plc := rfl
@[simp] theorem setSlot_orb (s : State) (st n : Nat) (v : SlotState) : (s.setSlot st n v).orb = s.orb := rfl
@[simp] theorem setSlot_sce (s : State) (st n : Nat) (v : SlotState) : (s.setSlot st n v).sce = s.sce := rfl
@[simp] theorem setSlot_spn (s : State) (st n : Nat) (v : SlotState) : (s.setSlot st n v).spn = s.spn := rfl
@[simp] theorem setSlot_wrp (s : State) (st n : Nat) (v : SlotState) : (s.setSlot st n v).wrp = s.wrp := rfl
@[simp] theorem setSlot_seq (s : State) (st n : Nat) (v : SlotState) : (s.setSlot st n v).seq = s.seq := rfl
@[simp] theorem setSlot_dma (s : State) (st n : Nat) (v : SlotState) : (s.setSlot st n v).dma = s.dma := rfl
@[simp] theorem setSlot_pwr (s : State) (st n : Nat) (v : SlotState) : (s.setSlot st n v).pwr = s.pwr := rfl
@[simp] theorem setSlot_hbm (s : State) (st n : Nat) (v : SlotState) : (s.setSlot st n v).hbm = s.hbm := rfl
@[simp] theorem setSlot_srm (s : State) (st n : Nat) (v : SlotState) : (s.setSlot st n v).srm = s.srm := rfl
@[simp] theorem setSlot_cch (s : State) (st n : Nat) (v : SlotState) : (s.setSlot st n v).cch = s.cch := rfl
@[simp] theorem setSlot_sec (s : State) (st n : Nat) (v : SlotState) : (s.setSlot st n v).sec = s.sec := rfl
@[simp] theorem setSlot_pin (s : State) (st n : Nat) (v : SlotState) : (s.setSlot st n v).pin = s.pin := rfl
@[simp] theorem setSlot_out (s : State) (st n : Nat) (v : SlotState) : (s.setSlot st n v).out = s.out := rfl
@[simp] theorem setSlot_pending (s : State) (st n : Nat) (v : SlotState) : (s.setSlot st n v).pending = s.pending := rfl

@[simp] theorem modBand_now (s : State) (id : Nat) (f : Band → Band) : (s.modBand id f).now = s.now := rfl
@[simp] theorem modBand_free (s : State) (id : Nat) (f : Band → Band) : (s.modBand id f).free = s.free := rfl
@[simp] theorem modBand_regs (s : State) (id : Nat) (f : Band → Band) : (s.modBand id f).regs = s.regs := rfl
@[simp] theorem modBand_latches (s : State) (id : Nat) (f : Band → Band) : (s.modBand id f).latches = s.latches := rfl
@[simp] theorem modBand_setupErr (s : State) (id : Nat) (f : Band → Band) : (s.modBand id f).setupErr = s.setupErr := rfl
@[simp] theorem modBand_tim (s : State) (id : Nat) (f : Band → Band) : (s.modBand id f).tim = s.tim := rfl
@[simp] theorem modBand_flt (s : State) (id : Nat) (f : Band → Band) : (s.modBand id f).flt = s.flt := rfl
@[simp] theorem modBand_tal (s : State) (id : Nat) (f : Band → Band) : (s.modBand id f).tal = s.tal := rfl
@[simp] theorem modBand_evc (s : State) (id : Nat) (f : Band → Band) : (s.modBand id f).evc = s.evc := rfl
@[simp] theorem modBand_eqt (s : State) (id : Nat) (f : Band → Band) : (s.modBand id f).eqt = s.eqt := rfl
@[simp] theorem modBand_orb (s : State) (id : Nat) (f : Band → Band) : (s.modBand id f).orb = s.orb := rfl
@[simp] theorem modBand_sce (s : State) (id : Nat) (f : Band → Band) : (s.modBand id f).sce = s.sce := rfl
@[simp] theorem modBand_spn (s : State) (id : Nat) (f : Band → Band) : (s.modBand id f).spn = s.spn := rfl
@[simp] theorem modBand_chn (s : State) (id : Nat) (f : Band → Band) : (s.modBand id f).chn = s.chn := rfl
@[simp] theorem modBand_wrp (s : State) (id : Nat) (f : Band → Band) : (s.modBand id f).wrp = s.wrp := rfl
@[simp] theorem modBand_seq (s : State) (id : Nat) (f : Band → Band) : (s.modBand id f).seq = s.seq := rfl
@[simp] theorem modBand_dma (s : State) (id : Nat) (f : Band → Band) : (s.modBand id f).dma = s.dma := rfl
@[simp] theorem modBand_pwr (s : State) (id : Nat) (f : Band → Band) : (s.modBand id f).pwr = s.pwr := rfl
@[simp] theorem modBand_hbm (s : State) (id : Nat) (f : Band → Band) : (s.modBand id f).hbm = s.hbm := rfl
@[simp] theorem modBand_srm (s : State) (id : Nat) (f : Band → Band) : (s.modBand id f).srm = s.srm := rfl
@[simp] theorem modBand_cch (s : State) (id : Nat) (f : Band → Band) : (s.modBand id f).cch = s.cch := rfl
@[simp] theorem modBand_sec (s : State) (id : Nat) (f : Band → Band) : (s.modBand id f).sec = s.sec := rfl
@[simp] theorem modBand_pin (s : State) (id : Nat) (f : Band → Band) : (s.modBand id f).pin = s.pin := rfl
@[simp] theorem modBand_out (s : State) (id : Nat) (f : Band → Band) : (s.modBand id f).out = s.out := rfl
@[simp] theorem modBand_pending (s : State) (id : Nat) (f : Band → Band) : (s.modBand id f).pending = s.pending := rfl

@[simp] theorem modTurn_now (s : State) (a : Nat) (f : Turn → Turn) : (s.modTurn a f).now = s.now := rfl
@[simp] theorem modTurn_free (s : State) (a : Nat) (f : Turn → Turn) : (s.modTurn a f).free = s.free := rfl
@[simp] theorem modTurn_regs (s : State) (a : Nat) (f : Turn → Turn) : (s.modTurn a f).regs = s.regs := rfl
@[simp] theorem modTurn_latches (s : State) (a : Nat) (f : Turn → Turn) : (s.modTurn a f).latches = s.latches := rfl
@[simp] theorem modTurn_setupErr (s : State) (a : Nat) (f : Turn → Turn) : (s.modTurn a f).setupErr = s.setupErr := rfl
@[simp] theorem modTurn_tim (s : State) (a : Nat) (f : Turn → Turn) : (s.modTurn a f).tim = s.tim := rfl
@[simp] theorem modTurn_flt (s : State) (a : Nat) (f : Turn → Turn) : (s.modTurn a f).flt = s.flt := rfl
@[simp] theorem modTurn_tal (s : State) (a : Nat) (f : Turn → Turn) : (s.modTurn a f).tal = s.tal := rfl
@[simp] theorem modTurn_evc (s : State) (a : Nat) (f : Turn → Turn) : (s.modTurn a f).evc = s.evc := rfl
@[simp] theorem modTurn_eqt (s : State) (a : Nat) (f : Turn → Turn) : (s.modTurn a f).eqt = s.eqt := rfl
@[simp] theorem modTurn_plc (s : State) (a : Nat) (f : Turn → Turn) : (s.modTurn a f).plc = s.plc := rfl
@[simp] theorem modTurn_sce (s : State) (a : Nat) (f : Turn → Turn) : (s.modTurn a f).sce = s.sce := rfl
@[simp] theorem modTurn_spn (s : State) (a : Nat) (f : Turn → Turn) : (s.modTurn a f).spn = s.spn := rfl
@[simp] theorem modTurn_chn (s : State) (a : Nat) (f : Turn → Turn) : (s.modTurn a f).chn = s.chn := rfl
@[simp] theorem modTurn_wrp (s : State) (a : Nat) (f : Turn → Turn) : (s.modTurn a f).wrp = s.wrp := rfl
@[simp] theorem modTurn_seq (s : State) (a : Nat) (f : Turn → Turn) : (s.modTurn a f).seq = s.seq := rfl
@[simp] theorem modTurn_dma (s : State) (a : Nat) (f : Turn → Turn) : (s.modTurn a f).dma = s.dma := rfl
@[simp] theorem modTurn_pwr (s : State) (a : Nat) (f : Turn → Turn) : (s.modTurn a f).pwr = s.pwr := rfl
@[simp] theorem modTurn_hbm (s : State) (a : Nat) (f : Turn → Turn) : (s.modTurn a f).hbm = s.hbm := rfl
@[simp] theorem modTurn_srm (s : State) (a : Nat) (f : Turn → Turn) : (s.modTurn a f).srm = s.srm := rfl
@[simp] theorem modTurn_cch (s : State) (a : Nat) (f : Turn → Turn) : (s.modTurn a f).cch = s.cch := rfl
@[simp] theorem modTurn_sec (s : State) (a : Nat) (f : Turn → Turn) : (s.modTurn a f).sec = s.sec := rfl
@[simp] theorem modTurn_pin (s : State) (a : Nat) (f : Turn → Turn) : (s.modTurn a f).pin = s.pin := rfl
@[simp] theorem modTurn_out (s : State) (a : Nat) (f : Turn → Turn) : (s.modTurn a f).out = s.out := rfl
@[simp] theorem modTurn_pending (s : State) (a : Nat) (f : Turn → Turn) : (s.modTurn a f).pending = s.pending := rfl

@[simp] theorem modNs_now (s : State) (n : Nat) (f : Namespace → Namespace) : (s.modNs n f).now = s.now := rfl
@[simp] theorem modNs_free (s : State) (n : Nat) (f : Namespace → Namespace) : (s.modNs n f).free = s.free := rfl
@[simp] theorem modNs_regs (s : State) (n : Nat) (f : Namespace → Namespace) : (s.modNs n f).regs = s.regs := rfl
@[simp] theorem modNs_latches (s : State) (n : Nat) (f : Namespace → Namespace) : (s.modNs n f).latches = s.latches := rfl
@[simp] theorem modNs_setupErr (s : State) (n : Nat) (f : Namespace → Namespace) : (s.modNs n f).setupErr = s.setupErr := rfl
@[simp] theorem modNs_tim (s : State) (n : Nat) (f : Namespace → Namespace) : (s.modNs n f).tim = s.tim := rfl
@[simp] theorem modNs_flt (s : State) (n : Nat) (f : Namespace → Namespace) : (s.modNs n f).flt = s.flt := rfl
@[simp] theorem modNs_tal (s : State) (n : Nat) (f : Namespace → Namespace) : (s.modNs n f).tal = s.tal := rfl
@[simp] theorem modNs_evc (s : State) (n : Nat) (f : Namespace → Namespace) : (s.modNs n f).evc = s.evc := rfl
@[simp] theorem modNs_eqt (s : State) (n : Nat) (f : Namespace → Namespace) : (s.modNs n f).eqt = s.eqt := rfl
@[simp] theorem modNs_orb (s : State) (n : Nat) (f : Namespace → Namespace) : (s.modNs n f).orb = s.orb := rfl
@[simp] theorem modNs_sce (s : State) (n : Nat) (f : Namespace → Namespace) : (s.modNs n f).sce = s.sce := rfl
@[simp] theorem modNs_spn (s : State) (n : Nat) (f : Namespace → Namespace) : (s.modNs n f).spn = s.spn := rfl
@[simp] theorem modNs_chn (s : State) (n : Nat) (f : Namespace → Namespace) : (s.modNs n f).chn = s.chn := rfl
@[simp] theorem modNs_wrp (s : State) (n : Nat) (f : Namespace → Namespace) : (s.modNs n f).wrp = s.wrp := rfl
@[simp] theorem modNs_seq (s : State) (n : Nat) (f : Namespace → Namespace) : (s.modNs n f).seq = s.seq := rfl
@[simp] theorem modNs_dma (s : State) (n : Nat) (f : Namespace → Namespace) : (s.modNs n f).dma = s.dma := rfl
@[simp] theorem modNs_pwr (s : State) (n : Nat) (f : Namespace → Namespace) : (s.modNs n f).pwr = s.pwr := rfl
@[simp] theorem modNs_hbm (s : State) (n : Nat) (f : Namespace → Namespace) : (s.modNs n f).hbm = s.hbm := rfl
@[simp] theorem modNs_srm (s : State) (n : Nat) (f : Namespace → Namespace) : (s.modNs n f).srm = s.srm := rfl
@[simp] theorem modNs_cch (s : State) (n : Nat) (f : Namespace → Namespace) : (s.modNs n f).cch = s.cch := rfl
@[simp] theorem modNs_sec (s : State) (n : Nat) (f : Namespace → Namespace) : (s.modNs n f).sec = s.sec := rfl
@[simp] theorem modNs_pin (s : State) (n : Nat) (f : Namespace → Namespace) : (s.modNs n f).pin = s.pin := rfl
@[simp] theorem modNs_out (s : State) (n : Nat) (f : Namespace → Namespace) : (s.modNs n f).out = s.out := rfl
@[simp] theorem modNs_pending (s : State) (n : Nat) (f : Namespace → Namespace) : (s.modNs n f).pending = s.pending := rfl

@[simp] theorem modRow_now (s : State) (n : Nat) (f : Row → Row) : (s.modRow n f).now = s.now := rfl
@[simp] theorem modRow_free (s : State) (n : Nat) (f : Row → Row) : (s.modRow n f).free = s.free := rfl
@[simp] theorem modRow_regs (s : State) (n : Nat) (f : Row → Row) : (s.modRow n f).regs = s.regs := rfl
@[simp] theorem modRow_latches (s : State) (n : Nat) (f : Row → Row) : (s.modRow n f).latches = s.latches := rfl
@[simp] theorem modRow_setupErr (s : State) (n : Nat) (f : Row → Row) : (s.modRow n f).setupErr = s.setupErr := rfl
@[simp] theorem modRow_tim (s : State) (n : Nat) (f : Row → Row) : (s.modRow n f).tim = s.tim := rfl
@[simp] theorem modRow_flt (s : State) (n : Nat) (f : Row → Row) : (s.modRow n f).flt = s.flt := rfl
@[simp] theorem modRow_tal (s : State) (n : Nat) (f : Row → Row) : (s.modRow n f).tal = s.tal := rfl
@[simp] theorem modRow_evc (s : State) (n : Nat) (f : Row → Row) : (s.modRow n f).evc = s.evc := rfl
@[simp] theorem modRow_eqt (s : State) (n : Nat) (f : Row → Row) : (s.modRow n f).eqt = s.eqt := rfl
@[simp] theorem modRow_orb (s : State) (n : Nat) (f : Row → Row) : (s.modRow n f).orb = s.orb := rfl
@[simp] theorem modRow_sce (s : State) (n : Nat) (f : Row → Row) : (s.modRow n f).sce = s.sce := rfl
@[simp] theorem modRow_spn (s : State) (n : Nat) (f : Row → Row) : (s.modRow n f).spn = s.spn := rfl
@[simp] theorem modRow_chn (s : State) (n : Nat) (f : Row → Row) : (s.modRow n f).chn = s.chn := rfl
@[simp] theorem modRow_wrp (s : State) (n : Nat) (f : Row → Row) : (s.modRow n f).wrp = s.wrp := rfl
@[simp] theorem modRow_seq (s : State) (n : Nat) (f : Row → Row) : (s.modRow n f).seq = s.seq := rfl
@[simp] theorem modRow_dma (s : State) (n : Nat) (f : Row → Row) : (s.modRow n f).dma = s.dma := rfl
@[simp] theorem modRow_pwr (s : State) (n : Nat) (f : Row → Row) : (s.modRow n f).pwr = s.pwr := rfl
@[simp] theorem modRow_hbm (s : State) (n : Nat) (f : Row → Row) : (s.modRow n f).hbm = s.hbm := rfl
@[simp] theorem modRow_srm (s : State) (n : Nat) (f : Row → Row) : (s.modRow n f).srm = s.srm := rfl
@[simp] theorem modRow_cch (s : State) (n : Nat) (f : Row → Row) : (s.modRow n f).cch = s.cch := rfl
@[simp] theorem modRow_sec (s : State) (n : Nat) (f : Row → Row) : (s.modRow n f).sec = s.sec := rfl
@[simp] theorem modRow_pin (s : State) (n : Nat) (f : Row → Row) : (s.modRow n f).pin = s.pin := rfl
@[simp] theorem modRow_out (s : State) (n : Nat) (f : Row → Row) : (s.modRow n f).out = s.out := rfl
@[simp] theorem modRow_pending (s : State) (n : Nat) (f : Row → Row) : (s.modRow n f).pending = s.pending := rfl

@[simp] theorem hbmPut_now (s : State) (a : Nat) (b : Byte) : (s.hbmPut a b).now = s.now := rfl
@[simp] theorem hbmPut_free (s : State) (a : Nat) (b : Byte) : (s.hbmPut a b).free = s.free := rfl
@[simp] theorem hbmPut_regs (s : State) (a : Nat) (b : Byte) : (s.hbmPut a b).regs = s.regs := rfl
@[simp] theorem hbmPut_latches (s : State) (a : Nat) (b : Byte) : (s.hbmPut a b).latches = s.latches := rfl
@[simp] theorem hbmPut_setupErr (s : State) (a : Nat) (b : Byte) : (s.hbmPut a b).setupErr = s.setupErr := rfl
@[simp] theorem hbmPut_tim (s : State) (a : Nat) (b : Byte) : (s.hbmPut a b).tim = s.tim := rfl
@[simp] theorem hbmPut_flt (s : State) (a : Nat) (b : Byte) : (s.hbmPut a b).flt = s.flt := rfl
@[simp] theorem hbmPut_tal (s : State) (a : Nat) (b : Byte) : (s.hbmPut a b).tal = s.tal := rfl
@[simp] theorem hbmPut_evc (s : State) (a : Nat) (b : Byte) : (s.hbmPut a b).evc = s.evc := rfl
@[simp] theorem hbmPut_eqt (s : State) (a : Nat) (b : Byte) : (s.hbmPut a b).eqt = s.eqt := rfl
@[simp] theorem hbmPut_plc (s : State) (a : Nat) (b : Byte) : (s.hbmPut a b).plc = s.plc := rfl
@[simp] theorem hbmPut_orb (s : State) (a : Nat) (b : Byte) : (s.hbmPut a b).orb = s.orb := rfl
@[simp] theorem hbmPut_sce (s : State) (a : Nat) (b : Byte) : (s.hbmPut a b).sce = s.sce := rfl
@[simp] theorem hbmPut_spn (s : State) (a : Nat) (b : Byte) : (s.hbmPut a b).spn = s.spn := rfl
@[simp] theorem hbmPut_chn (s : State) (a : Nat) (b : Byte) : (s.hbmPut a b).chn = s.chn := rfl
@[simp] theorem hbmPut_wrp (s : State) (a : Nat) (b : Byte) : (s.hbmPut a b).wrp = s.wrp := rfl
@[simp] theorem hbmPut_seq (s : State) (a : Nat) (b : Byte) : (s.hbmPut a b).seq = s.seq := rfl
@[simp] theorem hbmPut_dma (s : State) (a : Nat) (b : Byte) : (s.hbmPut a b).dma = s.dma := rfl
@[simp] theorem hbmPut_pwr (s : State) (a : Nat) (b : Byte) : (s.hbmPut a b).pwr = s.pwr := rfl
@[simp] theorem hbmPut_srm (s : State) (a : Nat) (b : Byte) : (s.hbmPut a b).srm = s.srm := rfl
@[simp] theorem hbmPut_cch (s : State) (a : Nat) (b : Byte) : (s.hbmPut a b).cch = s.cch := rfl
@[simp] theorem hbmPut_sec (s : State) (a : Nat) (b : Byte) : (s.hbmPut a b).sec = s.sec := rfl
@[simp] theorem hbmPut_pin (s : State) (a : Nat) (b : Byte) : (s.hbmPut a b).pin = s.pin := rfl
@[simp] theorem hbmPut_out (s : State) (a : Nat) (b : Byte) : (s.hbmPut a b).out = s.out := rfl
@[simp] theorem hbmPut_pending (s : State) (a : Nat) (b : Byte) : (s.hbmPut a b).pending = s.pending := rfl

@[simp] theorem hbmCorr_now (s : State) (k : Nat) : (s.hbmCorr k).now = s.now := rfl
@[simp] theorem hbmCorr_free (s : State) (k : Nat) : (s.hbmCorr k).free = s.free := rfl
@[simp] theorem hbmCorr_regs (s : State) (k : Nat) : (s.hbmCorr k).regs = s.regs := rfl
@[simp] theorem hbmCorr_latches (s : State) (k : Nat) : (s.hbmCorr k).latches = s.latches := rfl
@[simp] theorem hbmCorr_setupErr (s : State) (k : Nat) : (s.hbmCorr k).setupErr = s.setupErr := rfl
@[simp] theorem hbmCorr_tim (s : State) (k : Nat) : (s.hbmCorr k).tim = s.tim := rfl
@[simp] theorem hbmCorr_flt (s : State) (k : Nat) : (s.hbmCorr k).flt = s.flt := rfl
@[simp] theorem hbmCorr_tal (s : State) (k : Nat) : (s.hbmCorr k).tal = s.tal := rfl
@[simp] theorem hbmCorr_evc (s : State) (k : Nat) : (s.hbmCorr k).evc = s.evc := rfl
@[simp] theorem hbmCorr_eqt (s : State) (k : Nat) : (s.hbmCorr k).eqt = s.eqt := rfl
@[simp] theorem hbmCorr_plc (s : State) (k : Nat) : (s.hbmCorr k).plc = s.plc := rfl
@[simp] theorem hbmCorr_orb (s : State) (k : Nat) : (s.hbmCorr k).orb = s.orb := rfl
@[simp] theorem hbmCorr_sce (s : State) (k : Nat) : (s.hbmCorr k).sce = s.sce := rfl
@[simp] theorem hbmCorr_spn (s : State) (k : Nat) : (s.hbmCorr k).spn = s.spn := rfl
@[simp] theorem hbmCorr_chn (s : State) (k : Nat) : (s.hbmCorr k).chn = s.chn := rfl
@[simp] theorem hbmCorr_wrp (s : State) (k : Nat) : (s.hbmCorr k).wrp = s.wrp := rfl
@[simp] theorem hbmCorr_seq (s : State) (k : Nat) : (s.hbmCorr k).seq = s.seq := rfl
@[simp] theorem hbmCorr_dma (s : State) (k : Nat) : (s.hbmCorr k).dma = s.dma := rfl
@[simp] theorem hbmCorr_pwr (s : State) (k : Nat) : (s.hbmCorr k).pwr = s.pwr := rfl
@[simp] theorem hbmCorr_srm (s : State) (k : Nat) : (s.hbmCorr k).srm = s.srm := rfl
@[simp] theorem hbmCorr_cch (s : State) (k : Nat) : (s.hbmCorr k).cch = s.cch := rfl
@[simp] theorem hbmCorr_sec (s : State) (k : Nat) : (s.hbmCorr k).sec = s.sec := rfl
@[simp] theorem hbmCorr_pin (s : State) (k : Nat) : (s.hbmCorr k).pin = s.pin := rfl
@[simp] theorem hbmCorr_out (s : State) (k : Nat) : (s.hbmCorr k).out = s.out := rfl
@[simp] theorem hbmCorr_pending (s : State) (k : Nat) : (s.hbmCorr k).pending = s.pending := rfl

@[simp] theorem srmCorr_now (s : State) : (s.srmCorr ).now = s.now := rfl
@[simp] theorem srmCorr_free (s : State) : (s.srmCorr ).free = s.free := rfl
@[simp] theorem srmCorr_regs (s : State) : (s.srmCorr ).regs = s.regs := rfl
@[simp] theorem srmCorr_latches (s : State) : (s.srmCorr ).latches = s.latches := rfl
@[simp] theorem srmCorr_setupErr (s : State) : (s.srmCorr ).setupErr = s.setupErr := rfl
@[simp] theorem srmCorr_tim (s : State) : (s.srmCorr ).tim = s.tim := rfl
@[simp] theorem srmCorr_flt (s : State) : (s.srmCorr ).flt = s.flt := rfl
@[simp] theorem srmCorr_tal (s : State) : (s.srmCorr ).tal = s.tal := rfl
@[simp] theorem srmCorr_evc (s : State) : (s.srmCorr ).evc = s.evc := rfl
@[simp] theorem srmCorr_eqt (s : State) : (s.srmCorr ).eqt = s.eqt := rfl
@[simp] theorem srmCorr_plc (s : State) : (s.srmCorr ).plc = s.plc := rfl
@[simp] theorem srmCorr_orb (s : State) : (s.srmCorr ).orb = s.orb := rfl
@[simp] theorem srmCorr_sce (s : State) : (s.srmCorr ).sce = s.sce := rfl
@[simp] theorem srmCorr_spn (s : State) : (s.srmCorr ).spn = s.spn := rfl
@[simp] theorem srmCorr_chn (s : State) : (s.srmCorr ).chn = s.chn := rfl
@[simp] theorem srmCorr_wrp (s : State) : (s.srmCorr ).wrp = s.wrp := rfl
@[simp] theorem srmCorr_seq (s : State) : (s.srmCorr ).seq = s.seq := rfl
@[simp] theorem srmCorr_dma (s : State) : (s.srmCorr ).dma = s.dma := rfl
@[simp] theorem srmCorr_pwr (s : State) : (s.srmCorr ).pwr = s.pwr := rfl
@[simp] theorem srmCorr_hbm (s : State) : (s.srmCorr ).hbm = s.hbm := rfl
@[simp] theorem srmCorr_cch (s : State) : (s.srmCorr ).cch = s.cch := rfl
@[simp] theorem srmCorr_sec (s : State) : (s.srmCorr ).sec = s.sec := rfl
@[simp] theorem srmCorr_pin (s : State) : (s.srmCorr ).pin = s.pin := rfl
@[simp] theorem srmCorr_out (s : State) : (s.srmCorr ).out = s.out := rfl
@[simp] theorem srmCorr_pending (s : State) : (s.srmCorr ).pending = s.pending := rfl

@[simp] theorem modFsrc_now (s : State) (n : Nat) (f : FaultSource → FaultSource) : (s.modFsrc n f).now = s.now := rfl
@[simp] theorem modFsrc_free (s : State) (n : Nat) (f : FaultSource → FaultSource) : (s.modFsrc n f).free = s.free := rfl
@[simp] theorem modFsrc_regs (s : State) (n : Nat) (f : FaultSource → FaultSource) : (s.modFsrc n f).regs = s.regs := rfl
@[simp] theorem modFsrc_latches (s : State) (n : Nat) (f : FaultSource → FaultSource) : (s.modFsrc n f).latches = s.latches := rfl
@[simp] theorem modFsrc_setupErr (s : State) (n : Nat) (f : FaultSource → FaultSource) : (s.modFsrc n f).setupErr = s.setupErr := rfl
@[simp] theorem modFsrc_tim (s : State) (n : Nat) (f : FaultSource → FaultSource) : (s.modFsrc n f).tim = s.tim := rfl
@[simp] theorem modFsrc_tal (s : State) (n : Nat) (f : FaultSource → FaultSource) : (s.modFsrc n f).tal = s.tal := rfl
@[simp] theorem modFsrc_evc (s : State) (n : Nat) (f : FaultSource → FaultSource) : (s.modFsrc n f).evc = s.evc := rfl
@[simp] theorem modFsrc_eqt (s : State) (n : Nat) (f : FaultSource → FaultSource) : (s.modFsrc n f).eqt = s.eqt := rfl
@[simp] theorem modFsrc_plc (s : State) (n : Nat) (f : FaultSource → FaultSource) : (s.modFsrc n f).plc = s.plc := rfl
@[simp] theorem modFsrc_orb (s : State) (n : Nat) (f : FaultSource → FaultSource) : (s.modFsrc n f).orb = s.orb := rfl
@[simp] theorem modFsrc_sce (s : State) (n : Nat) (f : FaultSource → FaultSource) : (s.modFsrc n f).sce = s.sce := rfl
@[simp] theorem modFsrc_spn (s : State) (n : Nat) (f : FaultSource → FaultSource) : (s.modFsrc n f).spn = s.spn := rfl
@[simp] theorem modFsrc_chn (s : State) (n : Nat) (f : FaultSource → FaultSource) : (s.modFsrc n f).chn = s.chn := rfl
@[simp] theorem modFsrc_wrp (s : State) (n : Nat) (f : FaultSource → FaultSource) : (s.modFsrc n f).wrp = s.wrp := rfl
@[simp] theorem modFsrc_seq (s : State) (n : Nat) (f : FaultSource → FaultSource) : (s.modFsrc n f).seq = s.seq := rfl
@[simp] theorem modFsrc_dma (s : State) (n : Nat) (f : FaultSource → FaultSource) : (s.modFsrc n f).dma = s.dma := rfl
@[simp] theorem modFsrc_pwr (s : State) (n : Nat) (f : FaultSource → FaultSource) : (s.modFsrc n f).pwr = s.pwr := rfl
@[simp] theorem modFsrc_hbm (s : State) (n : Nat) (f : FaultSource → FaultSource) : (s.modFsrc n f).hbm = s.hbm := rfl
@[simp] theorem modFsrc_srm (s : State) (n : Nat) (f : FaultSource → FaultSource) : (s.modFsrc n f).srm = s.srm := rfl
@[simp] theorem modFsrc_cch (s : State) (n : Nat) (f : FaultSource → FaultSource) : (s.modFsrc n f).cch = s.cch := rfl
@[simp] theorem modFsrc_sec (s : State) (n : Nat) (f : FaultSource → FaultSource) : (s.modFsrc n f).sec = s.sec := rfl
@[simp] theorem modFsrc_pin (s : State) (n : Nat) (f : FaultSource → FaultSource) : (s.modFsrc n f).pin = s.pin := rfl
@[simp] theorem modFsrc_out (s : State) (n : Nat) (f : FaultSource → FaultSource) : (s.modFsrc n f).out = s.out := rfl
@[simp] theorem modFsrc_pending (s : State) (n : Nat) (f : FaultSource → FaultSource) : (s.modFsrc n f).pending = s.pending := rfl

@[simp] theorem verdict_now (s : State) (kind context : Nat) (v : Verdict) : (s.verdict kind context v).now = s.now := rfl
@[simp] theorem verdict_free (s : State) (kind context : Nat) (v : Verdict) : (s.verdict kind context v).free = s.free := rfl
@[simp] theorem verdict_regs (s : State) (kind context : Nat) (v : Verdict) : (s.verdict kind context v).regs = s.regs := rfl
@[simp] theorem verdict_latches (s : State) (kind context : Nat) (v : Verdict) : (s.verdict kind context v).latches = s.latches := rfl
@[simp] theorem verdict_setupErr (s : State) (kind context : Nat) (v : Verdict) : (s.verdict kind context v).setupErr = s.setupErr := rfl
@[simp] theorem verdict_tim (s : State) (kind context : Nat) (v : Verdict) : (s.verdict kind context v).tim = s.tim := rfl
@[simp] theorem verdict_flt (s : State) (kind context : Nat) (v : Verdict) : (s.verdict kind context v).flt = s.flt := rfl
@[simp] theorem verdict_tal (s : State) (kind context : Nat) (v : Verdict) : (s.verdict kind context v).tal = s.tal := rfl
@[simp] theorem verdict_evc (s : State) (kind context : Nat) (v : Verdict) : (s.verdict kind context v).evc = s.evc := rfl
@[simp] theorem verdict_eqt (s : State) (kind context : Nat) (v : Verdict) : (s.verdict kind context v).eqt = s.eqt := rfl
@[simp] theorem verdict_plc (s : State) (kind context : Nat) (v : Verdict) : (s.verdict kind context v).plc = s.plc := rfl
@[simp] theorem verdict_orb (s : State) (kind context : Nat) (v : Verdict) : (s.verdict kind context v).orb = s.orb := rfl
@[simp] theorem verdict_sce (s : State) (kind context : Nat) (v : Verdict) : (s.verdict kind context v).sce = s.sce := rfl
@[simp] theorem verdict_spn (s : State) (kind context : Nat) (v : Verdict) : (s.verdict kind context v).spn = s.spn := rfl
@[simp] theorem verdict_chn (s : State) (kind context : Nat) (v : Verdict) : (s.verdict kind context v).chn = s.chn := rfl
@[simp] theorem verdict_wrp (s : State) (kind context : Nat) (v : Verdict) : (s.verdict kind context v).wrp = s.wrp := rfl
@[simp] theorem verdict_seq (s : State) (kind context : Nat) (v : Verdict) : (s.verdict kind context v).seq = s.seq := rfl
@[simp] theorem verdict_dma (s : State) (kind context : Nat) (v : Verdict) : (s.verdict kind context v).dma = s.dma := rfl
@[simp] theorem verdict_pwr (s : State) (kind context : Nat) (v : Verdict) : (s.verdict kind context v).pwr = s.pwr := rfl
@[simp] theorem verdict_hbm (s : State) (kind context : Nat) (v : Verdict) : (s.verdict kind context v).hbm = s.hbm := rfl
@[simp] theorem verdict_srm (s : State) (kind context : Nat) (v : Verdict) : (s.verdict kind context v).srm = s.srm := rfl
@[simp] theorem verdict_cch (s : State) (kind context : Nat) (v : Verdict) : (s.verdict kind context v).cch = s.cch := rfl
@[simp] theorem verdict_pin (s : State) (kind context : Nat) (v : Verdict) : (s.verdict kind context v).pin = s.pin := rfl
@[simp] theorem verdict_out (s : State) (kind context : Nat) (v : Verdict) : (s.verdict kind context v).out = s.out := rfl
@[simp] theorem verdict_pending (s : State) (kind context : Nat) (v : Verdict) : (s.verdict kind context v).pending = s.pending := rfl

@[simp] theorem request_now (s : State) (i : Nat) (npsn : Nat) (k : ReqKind) : (s.request i npsn k).now = s.now := rfl
@[simp] theorem request_free (s : State) (i : Nat) (npsn : Nat) (k : ReqKind) : (s.request i npsn k).free = s.free := rfl
@[simp] theorem request_regs (s : State) (i : Nat) (npsn : Nat) (k : ReqKind) : (s.request i npsn k).regs = s.regs := rfl
@[simp] theorem request_latches (s : State) (i : Nat) (npsn : Nat) (k : ReqKind) : (s.request i npsn k).latches = s.latches := rfl
@[simp] theorem request_setupErr (s : State) (i : Nat) (npsn : Nat) (k : ReqKind) : (s.request i npsn k).setupErr = s.setupErr := rfl
@[simp] theorem request_tim (s : State) (i : Nat) (npsn : Nat) (k : ReqKind) : (s.request i npsn k).tim = s.tim := rfl
@[simp] theorem request_flt (s : State) (i : Nat) (npsn : Nat) (k : ReqKind) : (s.request i npsn k).flt = s.flt := rfl
@[simp] theorem request_tal (s : State) (i : Nat) (npsn : Nat) (k : ReqKind) : (s.request i npsn k).tal = s.tal := rfl
@[simp] theorem request_evc (s : State) (i : Nat) (npsn : Nat) (k : ReqKind) : (s.request i npsn k).evc = s.evc := rfl
@[simp] theorem request_plc (s : State) (i : Nat) (npsn : Nat) (k : ReqKind) : (s.request i npsn k).plc = s.plc := rfl
@[simp] theorem request_orb (s : State) (i : Nat) (npsn : Nat) (k : ReqKind) : (s.request i npsn k).orb = s.orb := rfl
@[simp] theorem request_sce (s : State) (i : Nat) (npsn : Nat) (k : ReqKind) : (s.request i npsn k).sce = s.sce := rfl
@[simp] theorem request_spn (s : State) (i : Nat) (npsn : Nat) (k : ReqKind) : (s.request i npsn k).spn = s.spn := rfl
@[simp] theorem request_chn (s : State) (i : Nat) (npsn : Nat) (k : ReqKind) : (s.request i npsn k).chn = s.chn := rfl
@[simp] theorem request_wrp (s : State) (i : Nat) (npsn : Nat) (k : ReqKind) : (s.request i npsn k).wrp = s.wrp := rfl
@[simp] theorem request_seq (s : State) (i : Nat) (npsn : Nat) (k : ReqKind) : (s.request i npsn k).seq = s.seq := rfl
@[simp] theorem request_dma (s : State) (i : Nat) (npsn : Nat) (k : ReqKind) : (s.request i npsn k).dma = s.dma := rfl
@[simp] theorem request_pwr (s : State) (i : Nat) (npsn : Nat) (k : ReqKind) : (s.request i npsn k).pwr = s.pwr := rfl
@[simp] theorem request_hbm (s : State) (i : Nat) (npsn : Nat) (k : ReqKind) : (s.request i npsn k).hbm = s.hbm := rfl
@[simp] theorem request_srm (s : State) (i : Nat) (npsn : Nat) (k : ReqKind) : (s.request i npsn k).srm = s.srm := rfl
@[simp] theorem request_cch (s : State) (i : Nat) (npsn : Nat) (k : ReqKind) : (s.request i npsn k).cch = s.cch := rfl
@[simp] theorem request_sec (s : State) (i : Nat) (npsn : Nat) (k : ReqKind) : (s.request i npsn k).sec = s.sec := rfl
@[simp] theorem request_pin (s : State) (i : Nat) (npsn : Nat) (k : ReqKind) : (s.request i npsn k).pin = s.pin := rfl
@[simp] theorem request_out (s : State) (i : Nat) (npsn : Nat) (k : ReqKind) : (s.request i npsn k).out = s.out := rfl
@[simp] theorem request_pending (s : State) (i : Nat) (npsn : Nat) (k : ReqKind) : (s.request i npsn k).pending = s.pending := rfl

end State

end Sys2Proof.Machine
end

