-- ==== Sys2Proof/Laws/Events.lean ====
section
/-! SUPPORT. What raising an event source can do: only the sources, the event rings and the requests that carry them, the sequence counter
and the outputs change, whatever the source. -/

namespace Sys2Proof.Machine

/-! ## Sessions -/

@[simp] theorem sess_setSess_same (s : State) (i : Nat) (x : Session) : (s.setSess i x).sess i = x := by
  simp [State.sess, State.setSess]

theorem sess_setSess_other (s : State) {i j : Nat} (x : Session) (h : j ≠ i) : (s.setSess i x).sess j = s.sess j := by
  simp [State.sess, State.setSess, agetD_acanon_other _ _ _ _ h]

theorem sess_setSess (s : State) (i j : Nat) (x : Session) : (s.setSess i x).sess j = if j = i then x else s.sess j := by
  split
  · rename_i h
    subst h
    simp
  · rename_i h
    exact sess_setSess_other s x h

/-! ## The relation -/

theorem still_refl (s : State) : Still s s := ⟨rfl, fun _ => rfl, List.prefix_refl _⟩

theorem still_trans {a b c : State} (h : Still a b) (k : Still b c) : Still a c := by
  obtain ⟨h1, h2, h3⟩ := h
  obtain ⟨k1, k2, k3⟩ := k
  refine ⟨?_, fun i => (k2 i).trans (h2 i), h3.trans k3⟩
  calc c.eventsOf a = (c.eventsOf b).eventsOf a := rfl
    _ = a := by rw [k1, h1]

theorem still_emit (s : State) (o : Out) : Still s (s.emit o) := ⟨rfl, fun _ => rfl, List.prefix_append _ _⟩

theorem still_stamped (s : State) : Still s s.stamped := ⟨rfl, fun _ => rfl, List.prefix_refl _⟩

theorem still_setSrc (s : State) (n : Nat) (e : EvSource) : Still s (s.setSrc n e) := ⟨rfl, fun _ => rfl, List.prefix_refl _⟩

/-- A session may change in its event ring and the requests that carry it. -/
theorem still_setSess (s : State) (i : Nat) (x : Session) (h : calmSession x = calmSession (s.sess i)) : Still s (s.setSess i x) := by
  refine ⟨rfl, fun j => ?_, List.prefix_refl _⟩
  rw [sess_setSess]
  split
  · rename_i hj
    subst hj
    exact h
  · rfl

theorem still_request (s : State) (i n : Nat) (k : ReqKind) : Still s (s.request i n k) := by
  apply still_setSess
  rfl

theorem still_sendPkt (s : State) (i : Nat) (p : Pkt) : Still s (s.sendPkt i p) := by
  simp only [State.sendPkt]
  split
  · exact ⟨rfl, fun _ => rfl, List.prefix_refl _⟩
  · exact still_emit _ _

theorem still_notify (s : State) (i : Nat) : Still s (s.notify i 2) := by
  simp only [State.notify, if_neg (by decide : ¬(2 = 1))]
  split
  · apply still_trans _ (still_request _ _ _ _)
    apply still_trans _ (still_sendPkt _ _ _)
    apply still_setSess
    rfl
  · apply still_setSess
    rfl

theorem still_evWrite (s : State) (i : Nat) (e : EventRec) : Still s (s.evWrite i e) := by
  simp only [State.evWrite]
  split
  · apply still_trans _ (still_notify _ _)
    apply still_trans _ (still_request _ _ _ _)
    apply still_trans _ (still_sendPkt _ _ _)
    apply still_trans (still_stamped s)
    apply still_setSess
    rfl
  · apply still_trans _ (still_request _ _ _ _)
    apply still_trans _ (still_sendPkt _ _ _)
    apply still_trans (still_stamped s)
    apply still_setSess
    rfl

theorem still_evRaised (s : State) (i n count : Nat) (v : BitVec 64) : Still s (s.evRaised i n count v) := by
  simp only [State.evRaised]
  split
  · exact still_evWrite _ _ _
  · apply still_setSess
    rfl

theorem still_foldl {β : Type} (l : List β) (f : State → β → State) (h : ∀ s b, Still s (f s b)) (s : State) :
    Still s (l.foldl f s) := by
  induction l generalizing s with
  | nil => exact still_refl s
  | cons b l ih => exact still_trans (h s b) (ih _)

/-- A source enters PENDING, and nothing else changes but what carries its records. -/
theorem still_enterPending (s : State) (n : Nat) (v : BitVec 32) : Still s (s.enterPending n v) := by
  simp only [State.enterPending]
  exact still_trans (still_setSrc _ _ _) (still_foldl _ _ (fun _ _ => still_evRaised _ _ _ _ _) _)

theorem still_evcEdge (s : State) (n : Nat) (v : BitVec 32) : Still s (s.evcEdge n v) := by
  simp only [State.evcEdge]
  split
  · exact still_trans (still_setSrc _ _ _) (still_enterPending _ _ _)
  · exact still_setSrc _ _ _

theorem still_evcLevel (s : State) (n : Nat) : Still s (s.evcLevel n) := by
  simp only [State.evcLevel]
  split
  · exact still_enterPending _ _ _
  · exact still_refl s

theorem still_noteLevels (s : State) : Still s s.noteLevels := by
  simp only [State.noteLevels]
  split
  · exact still_foldl _ _ (fun _ _ => still_evcLevel _ _) _
  · exact still_refl s

theorem still_noteQuiet (s : State) : Still s s.noteQuiet := by
  simp only [State.noteQuiet]
  split
  · split
    · exact still_refl s
    · exact ⟨rfl, fun _ => rfl, List.prefix_refl _⟩
  · exact ⟨rfl, fun _ => rfl, List.prefix_refl _⟩

end Sys2Proof.Machine
end

