-- ==== Sys2Proof/Laws/Row.lean ====
section
/-! SUPPORT. What a row of the table can answer, said once: a refusal of an ill-formed command, the same state where nothing takes the
command, and otherwise its effect and then nothing but event records and the quiet clock. -/

namespace Sys2Proof.Machine

theorem row_illFormed (c : Instr) (need : Need) (s : State) (f : State → State) (h : c.wf = false) :
    row c need s f = .refused .illFormed := by
  simp [row, h]

theorem row_absent (c : Instr) (need : Need) (s : State) (f : State → State) (h : c.wf = true) (hn : s.has need = false) :
    row c need s f = .next s := by
  simp [row, h, hn]

theorem row_taken (c : Instr) (need : Need) (s : State) (f : State → State) (h : c.wf = true) (hn : s.has need = true) :
    row c need s f = .next { ((f s).noteLevels).noteQuiet with pending := s.pending } := by
  simp [row, h, hn]

theorem still_pending {s t : State} (h : Still s t) (p : List Instr) : Still { s with pending := p } { t with pending := p } := by
  obtain ⟨h1, h2, h3⟩ := h
  refine ⟨?_, h2, h3⟩
  calc ({ t with pending := p } : State).eventsOf { s with pending := p } = { t.eventsOf s with pending := p } := rfl
    _ = { s with pending := p } := by rw [h1]

/-- A row that is taken answers its effect, and after it only event records and the quiet clock differ. -/
theorem row_still (c : Instr) (need : Need) (s : State) (f : State → State) (h : c.wf = true) (hn : s.has need = true) :
    ∃ t, row c need s f = .next t ∧ t.pending = s.pending ∧ Still { f s with pending := s.pending } t :=
  ⟨_, row_taken c need s f h hn, rfl, still_pending (still_trans (still_noteLevels _) (still_noteQuiet _)) _⟩

/-- The three answers of a row. -/
theorem row_cases (c : Instr) (need : Need) (s : State) (f : State → State) :
    (c.wf = false ∧ row c need s f = .refused .illFormed) ∨ (c.wf = true ∧ s.has need = false ∧ row c need s f = .next s) ∨
    (c.wf = true ∧ s.has need = true ∧
      row c need s f = .next { ((f s).noteLevels).noteQuiet with pending := s.pending }) := by
  cases h : c.wf
  · exact .inl ⟨rfl, row_illFormed _ _ _ _ h⟩
  · cases hn : s.has need
    · exact .inr (.inl ⟨rfl, rfl, row_absent _ _ _ _ h hn⟩)
    · exact .inr (.inr ⟨rfl, rfl, row_taken _ _ _ _ h hn⟩)

/-! ## What two states that are the same but for events agree in -/

theorem still_now {s t : State} (h : Still s t) : t.now = s.now := by
  have k := congrArg State.now h.1
  exact k
theorem still_free {s t : State} (h : Still s t) : t.free = s.free := by
  have k := congrArg State.free h.1
  exact k
theorem still_regs {s t : State} (h : Still s t) : t.regs = s.regs := by
  have k := congrArg State.regs h.1
  exact k
theorem still_latches {s t : State} (h : Still s t) : t.latches = s.latches := by
  have k := congrArg State.latches h.1
  exact k
theorem still_setupErr {s t : State} (h : Still s t) : t.setupErr = s.setupErr := by
  have k := congrArg State.setupErr h.1
  exact k
theorem still_flt {s t : State} (h : Still s t) : t.flt = s.flt := by
  have k := congrArg State.flt h.1
  exact k
theorem still_tal {s t : State} (h : Still s t) : t.tal = s.tal := by
  have k := congrArg State.tal h.1
  exact k
theorem still_plc {s t : State} (h : Still s t) : t.plc = s.plc := by
  have k := congrArg State.plc h.1
  exact k
theorem still_orb {s t : State} (h : Still s t) : t.orb = s.orb := by
  have k := congrArg State.orb h.1
  exact k
theorem still_sce {s t : State} (h : Still s t) : t.sce = s.sce := by
  have k := congrArg State.sce h.1
  exact k
theorem still_spn {s t : State} (h : Still s t) : t.spn = s.spn := by
  have k := congrArg State.spn h.1
  exact k
theorem still_chn {s t : State} (h : Still s t) : t.chn = s.chn := by
  have k := congrArg State.chn h.1
  exact k
theorem still_wrp {s t : State} (h : Still s t) : t.wrp = s.wrp := by
  have k := congrArg State.wrp h.1
  exact k
theorem still_seq {s t : State} (h : Still s t) : t.seq = s.seq := by
  have k := congrArg State.seq h.1
  exact k
theorem still_dma {s t : State} (h : Still s t) : t.dma = s.dma := by
  have k := congrArg State.dma h.1
  exact k
theorem still_hbm {s t : State} (h : Still s t) : t.hbm = s.hbm := by
  have k := congrArg State.hbm h.1
  exact k
theorem still_srm {s t : State} (h : Still s t) : t.srm = s.srm := by
  have k := congrArg State.srm h.1
  exact k
theorem still_cch {s t : State} (h : Still s t) : t.cch = s.cch := by
  have k := congrArg State.cch h.1
  exact k
theorem still_sec {s t : State} (h : Still s t) : t.sec = s.sec := by
  have k := congrArg State.sec h.1
  exact k
theorem still_pin {s t : State} (h : Still s t) : t.pin = s.pin := by
  have k := congrArg State.pin h.1
  exact k

theorem still_tim {s t : State} (h : Still s t) : { t.tim with seq := s.tim.seq } = s.tim := by
  have k := congrArg State.tim h.1
  exact k
theorem still_pwr {s t : State} (h : Still s t) : { t.pwr with quietSince := s.pwr.quietSince } = s.pwr := by
  have k := congrArg State.pwr h.1
  exact k
theorem still_eqt {s t : State} (h : Still s t) : { t.eqt with sessions := s.eqt.sessions, held := s.eqt.held } = s.eqt := by
  have k := congrArg State.eqt h.1
  exact k
theorem still_queue {s t : State} (h : Still s t) : t.pending = s.pending := by
  have k := congrArg State.pending h.1
  exact k

/-- Where a state is another but for events, so is every part. -/
theorem still_only {s t : State} (h : Still s t) : Only [] s t := by
  intro p _
  cases p
  · exact still_now h
  · exact still_free h
  · exact still_regs h
  · exact still_latches h
  · exact still_setupErr h
  · exact still_tim h
  · exact still_flt h
  · exact still_tal h
  · exact ⟨still_eqt h, h.2.1⟩
  · exact still_plc h
  · exact still_orb h
  · exact still_sce h
  · exact still_spn h
  · exact still_chn h
  · exact still_wrp h
  · exact still_seq h
  · exact still_dma h
  · exact still_pwr h
  · exact still_hbm h
  · exact still_srm h
  · exact still_cch h
  · exact still_sec h
  · exact still_pin h

theorem part_trans {p : Part} {a b c : State} (h : p.same a b) (k : p.same b c) : p.same a c := by
  cases p
  case tim =>
    simp only [Part.same] at h k ⊢
    rw [← h, ← k]
  case pwr =>
    simp only [Part.same] at h k ⊢
    rw [← h, ← k]
  case eqt =>
    simp only [Part.same] at h k ⊢
    refine ⟨?_, fun i => (k.2 i).trans (h.2 i)⟩
    rw [← h.1, ← k.1]
  all_goals exact Eq.trans k h

/-- Two changes one after the other change no part that neither lists. -/
theorem only_trans {ps : List Part} {a b c : State} (h : Only ps a b) (k : Only ps b c) : Only ps a c :=
  fun p hp => part_trans (h p hp) (k p hp)

theorem only_mono {ps qs : List Part} {a b : State} (h : Only ps a b) (hs : ∀ p ∈ ps, p ∈ qs) : Only qs a b :=
  fun p hp => h p fun hq => hp (hs p hq)

/-- A row that is taken completes, with what holds of its effect and of every state that is the effect but for events. -/
theorem gives_of {c : Instr} {need : Need} {s : State} {f : State → State} {P : State → Prop} (hc : exec c s = row c need s f)
    (hw : c.wf = true) (hn : s.has need = true) (h : ∀ t, Still { f s with pending := s.pending } t → P t) : Gives c s P := by
  obtain ⟨t, h1, h2, h3⟩ := row_still c need s f hw hn
  exact ⟨t, hc.trans h1, h2, h t h3⟩

end Sys2Proof.Machine
end

