-- ==== Sys2Proof/Laws/Exec.lean ====
section
/-! SUPPORT. Each command is a row: one equation for each constructor, and the one statement that covers them all. -/

namespace Sys2Proof.Machine

open Sys2Proof

theorem exec_setupRegisterWrite (ag : Agent) (addr : Nat) (v : Word) (s : State) :
    exec (.setupRegisterWrite ag addr v) s = row (.setupRegisterWrite ag addr v) (.agent ag) s fun s => s.setupWrite ag addr v := rfl
theorem exec_plcStripeCfgWrite (ag : Agent) (v : Word) (s : State) :
    exec (.plcStripeCfgWrite ag v) s = row (.plcStripeCfgWrite ag v) (.agent ag) s fun s => s.regRow ag .plcStripeCfg v := rfl
theorem exec_bandSetFree (n : Nat) (s : State) :
    exec (.bandSetFree n) s = row (.bandSetFree n) (.block 9) s fun s => s.bandSetFree n := rfl
theorem exec_reservationGrant (s : State) :
    exec .reservationGrant s = row .reservationGrant (.block 0) s fun s => s.reservationGrant := rfl
theorem exec_writeAccept (t : Nat) (s : State) :
    exec (.writeAccept t) s = row (.writeAccept t) (.block 0) s fun s => s.writeAccept t := rfl
theorem exec_landingRecopyDone (kind : Nat) (n : Nat) (stack : Nat) (s : State) :
    exec (.landingRecopyDone kind n stack) s = row (.landingRecopyDone kind n stack) (.block 11) s fun s => s.recopyDone kind n stack := rfl
theorem exec_rowComplete (n : Nat) (s : State) :
    exec (.rowComplete n) s = row (.rowComplete n) (.block 9) s fun s => s.rowComplete n := rfl
theorem exec_journalOnMedia (n : Nat) (s : State) :
    exec (.journalOnMedia n) s = row (.journalOnMedia n) (.block 9) s fun s => s.journalOnMedia n := rfl
theorem exec_checkpointBegin (s : State) :
    exec .checkpointBegin s = row .checkpointBegin (.block 9) s fun s => s.checkpointBegin := rfl
theorem exec_checkpointInForce (s : State) :
    exec .checkpointInForce s = row .checkpointInForce (.block 9) s fun s => s.checkpointInForce := rfl
theorem exec_mapRebuild (badRoots : List Nat) (bad : List (Nat × Nat × Nat)) (s : State) :
    exec (.mapRebuild badRoots bad) s = row (.mapRebuild badRoots bad) (.block 9) s fun s => s.mapRebuild badRoots bad := rfl
theorem exec_chnStHeadWrite (ag : Agent) (st : Nat) (v : Word) (s : State) :
    exec (.chnStHeadWrite ag st v) s = row (.chnStHeadWrite ag st v) (.agent ag) s fun s => s.regRow ag (.chnStHead st) v := rfl
theorem exec_headSwitch (st : Nat) (s : State) :
    exec (.headSwitch st) s = row (.headSwitch st) (.block 3) s fun s => (s.headSwitchRow st).loadDue := rfl
theorem exec_chnAfSelWrite (ag : Agent) (n : Nat) (v : Word) (s : State) :
    exec (.chnAfSelWrite ag n v) s = row (.chnAfSelWrite ag n v) (.agent ag) s fun s => s.regRow ag (.chnAfSel n) v := rfl
theorem exec_frontEndFail (n : Nat) (s : State) :
    exec (.frontEndFail n) s = row (.frontEndFail n) (.block 3) s fun s => s.frontEndFail n := rfl
theorem exec_servoWedge (st : Nat) (o : WedgeObs) (s : State) :
    exec (.servoWedge st o) s = row (.servoWedge st o) (.block 7) s fun s => s.servoWedge st o := rfl
theorem exec_decodeStop (st : Nat) (o : DecodeObs) (s : State) :
    exec (.decodeStop st o) s = row (.decodeStop st o) (.block 3) s fun s => s.decodeStop st o := rfl
theorem exec_deepDecodeDone (k : Nat) (word : BitVec 41216) (s : State) :
    exec (.deepDecodeDone k word) s = row (.deepDecodeDone k word) (.block 3) s fun s => s.deepDecodeDone k word := rfl
theorem exec_rereadDone (ix : Nat) (missed : Bool) (values : List Int) (s : State) :
    exec (.rereadDone ix missed values) s = row (.rereadDone ix missed values) (.block 3) s fun s => s.rereadDone ix missed values := rfl
theorem exec_rebuildDone (ix : Nat) (s : State) :
    exec (.rebuildDone ix) s = row (.rebuildDone ix) (.block 3) s fun s => s.rebuildDone ix := rfl
theorem exec_chnStatSnap (ag : Agent) (v : Word) (s : State) :
    exec (.chnStatSnap ag v) s = row (.chnStatSnap ag v) (.agent ag) s fun s => s.regRow ag .chnStatSel v := rfl
theorem exec_chnStatSnapClear (ag : Agent) (v : Word) (s : State) :
    exec (.chnStatSnapClear ag v) s = row (.chnStatSnapClear ag v) (.agent ag) s fun s => s.regRow ag .chnStatSel v := rfl
theorem exec_linkAck (a : Nat) (w : BitVec 64) (parts : List Nat) (s : State) :
    exec (.linkAck a w parts) s = row (.linkAck a w parts) (.block 5) s fun s => s.linkAck a w parts := rfl
theorem exec_preampFault (a : Nat) (w : BitVec 64) (parts : List Nat) (s : State) :
    exec (.preampFault a w parts) s = row (.preampFault a w parts) (.block 5) s fun s => s.preampFault a w parts := rfl
theorem exec_linkAckTimeout (a : Nat) (s : State) :
    exec (.linkAckTimeout a) s = row (.linkAckTimeout a) (.block 5) s fun s => s.linkAckTimeout a := rfl
theorem exec_linkResetRetry (a : Nat) (s : State) :
    exec (.linkResetRetry a) s = row (.linkResetRetry a) (.block 5) s fun s => s.linkResetRetry a := rfl
theorem exec_contactRestore (h : Nat) (s : State) :
    exec (.contactRestore h) s = row (.contactRestore h) (.block 5) s fun s => s.contactRestore h := rfl
theorem exec_plkClr (ag : Agent) (n : Nat) (v : Word) (s : State) :
    exec (.plkClr ag n v) s = row (.plkClr ag n v) (.agent ag) s fun s => s.regRow ag (.plkCtl n) v := rfl
theorem exec_touchdownStart (ag : Agent) (v : Word) (s : State) :
    exec (.touchdownStart ag v) s = row (.touchdownStart ag v) (.agent ag) s fun s => s.regRow ag .plkTdCtl v := rfl
theorem exec_touchdownStep (s : State) : exec .touchdownStep s = row .touchdownStep (.block 5) s fun s => s.touchdownStep := rfl
theorem exec_wfltAssert (a : Nat) (ns : Nat) (s : State) :
    exec (.wfltAssert a ns) s = row (.wfltAssert a ns) (.block 5) s fun s => s.wfltAssert a ns := rfl
theorem exec_verifyDone (id : Nat) (s : State) :
    exec (.verifyDone id) s = row (.verifyDone id) (.block 4) s fun s => s.verifyDone id := rfl
theorem exec_verifyWindowExpire (id : Nat) (s : State) :
    exec (.verifyWindowExpire id) s = row (.verifyWindowExpire id) (.block 4) s fun s => s.verifyExpire id := rfl
theorem exec_nop (q : Nat) (pos : Nat) (s : State) :
    exec (.nop q pos) s = row (.nop q pos) (.block 6) s fun s => (s.runOp q pos 0).settleWork := rfl
theorem exec_ldi (q : Nat) (pos : Nat) (s : State) :
    exec (.ldi q pos) s = row (.ldi q pos) (.block 6) s fun s => (s.runOp q pos 1).settleWork := rfl
theorem exec_ldih (q : Nat) (pos : Nat) (s : State) :
    exec (.ldih q pos) s = row (.ldih q pos) (.block 6) s fun s => (s.runOp q pos 2).settleWork := rfl
theorem exec_add (q : Nat) (pos : Nat) (s : State) :
    exec (.add q pos) s = row (.add q pos) (.block 6) s fun s => (s.runOp q pos 3).settleWork := rfl
theorem exec_addv (q : Nat) (pos : Nat) (s : State) :
    exec (.addv q pos) s = row (.addv q pos) (.block 6) s fun s => (s.runOp q pos 4).settleWork := rfl
theorem exec_and (q : Nat) (pos : Nat) (s : State) :
    exec (.and q pos) s = row (.and q pos) (.block 6) s fun s => (s.runOp q pos 5).settleWork := rfl
theorem exec_cmp (q : Nat) (pos : Nat) (s : State) :
    exec (.cmp q pos) s = row (.cmp q pos) (.block 6) s fun s => (s.runOp q pos 6).settleWork := rfl
theorem exec_cmpv (q : Nat) (pos : Nat) (s : State) :
    exec (.cmpv q pos) s = row (.cmpv q pos) (.block 6) s fun s => (s.runOp q pos 7).settleWork := rfl
theorem exec_ldp (q : Nat) (pos : Nat) (s : State) :
    exec (.ldp q pos) s = row (.ldp q pos) (.block 6) s fun s => (s.runOp q pos 8).settleWork := rfl
theorem exec_stp (q : Nat) (pos : Nat) (s : State) :
    exec (.stp q pos) s = row (.stp q pos) (.block 6) s fun s => (s.runOp q pos 9).settleWork := rfl
theorem exec_branch (q : Nat) (s : State) :
    exec (.branch q) s = row (.branch q) (.block 6) s fun s => (s.seqBranch q).settleWork := rfl
theorem exec_call (q : Nat) (s : State) : exec (.call q) s = row (.call q) (.block 6) s fun s => (s.seqCall q).settleWork := rfl
theorem exec_ret (q : Nat) (s : State) : exec (.ret q) s = row (.ret q) (.block 6) s fun s => (s.seqRet q).settleWork := rfl
theorem exec_rett (q : Nat) (s : State) : exec (.rett q) s = row (.rett q) (.block 6) s fun s => (s.seqRett q).settleWork := rfl
theorem exec_actAtPosition (q : Nat) (pos : Nat) (s : State) :
    exec (.actAtPosition q pos) s = row (.actAtPosition q pos) (.block 6) s fun s => (s.actAtPosition q pos).settleWork := rfl
theorem exec_waitEnd (q : Nat) (o : MediaObs) (s : State) :
    exec (.waitEnd q o) s = row (.waitEnd q o) (.block 6) s fun s => (s.waitEnd q o).settleWork := rfl
theorem exec_waitTimeout (q : Nat) (s : State) :
    exec (.waitTimeout q) s = row (.waitTimeout q) (.block 6) s fun s => (s.waitTimeout q).settleWork := rfl
theorem exec_seqInterrupt (q : Nat) (s : State) :
    exec (.seqInterrupt q) s = row (.seqInterrupt q) (.block 6) s fun s => (s.seqInterrupt q).settleWork := rfl
theorem exec_privTrap (q : Nat) (s : State) :
    exec (.privTrap q) s = row (.privTrap q) (.block 6) s fun s => (s.privTrap q).settleWork := rfl
theorem exec_controlStoreReload (q : Nat) (flip : Bool) (s : State) :
    exec (.controlStoreReload q flip) s = row (.controlStoreReload q flip) (.block 6) s fun s => (s.storeReload q flip).settleWork := rfl
theorem exec_lockstepFail (q : Nat) (s : State) :
    exec (.lockstepFail q) s = row (.lockstepFail q) (.block 6) s fun s => (s.lockstepFail q).settleWork := rfl
theorem exec_seqCsRead (ag : Agent) (v : Word) (s : State) :
    exec (.seqCsRead ag v) s = row (.seqCsRead ag v) (.agent ag) s fun s => s.regRow ag .seqCsDiag v := rfl
theorem exec_seqCsInject (ag : Agent) (v : Word) (s : State) :
    exec (.seqCsInject ag v) s = row (.seqCsInject ag v) (.agent ag) s fun s => s.regRow ag .seqCsDiag v := rfl
theorem exec_servoSample (a : Nat) (late : Bool) (s : State) :
    exec (.servoSample a late) s = row (.servoSample a late) (.block 7) s fun s => s.servoSample a late := rfl
theorem exec_swapRequest (ag : Agent) (n : Nat) (v : Word) (s : State) :
    exec (.swapRequest ag n v) s = row (.swapRequest ag n v) (.agent ag) s fun s => s.regRow ag (.sceSlot n) v := rfl
theorem exec_sceWindowWrite (ag : Agent) (ofs : Nat) (v : Word) (s : State) :
    exec (.sceWindowWrite ag ofs v) s = row (.sceWindowWrite ag ofs v) (.agent ag) s fun s => s.regRow ag (.sceWindow ofs) v := rfl
theorem exec_sceTgtWrite (ag : Agent) (st : Nat) (v : Word) (s : State) :
    exec (.sceTgtWrite ag st v) s = row (.sceTgtWrite ag st v) (.agent ag) s fun s => s.regRow ag (.sceTgt st) v := rfl
theorem exec_go (ag : Agent) (a : Nat) (v : Word) (s : State) :
    exec (.go ag a v) s = row (.go ag a v) (.agent ag) s fun s => s.regRow ag (.sceActCmd a) v := rfl
theorem exec_load (ag : Agent) (a : Nat) (v : Word) (s : State) :
    exec (.load ag a v) s = row (.load ag a v) (.agent ag) s fun s => s.regRow ag (.sceActCmd a) v := rfl
theorem exec_unload (ag : Agent) (a : Nat) (v : Word) (s : State) :
    exec (.unload ag a v) s = row (.unload ag a v) (.agent ag) s fun s => s.regRow ag (.sceActCmd a) v := rfl
theorem exec_seekEnd (a : Nat) (s : State) :
    exec (.seekEnd a) s = row (.seekEnd a) (.block 7) s fun s => (s.seekEnd a).saveStep := rfl
theorem exec_seekTimeout (a : Nat) (s : State) :
    exec (.seekTimeout a) s = row (.seekTimeout a) (.block 7) s fun s => s.seekTimeout a := rfl
theorem exec_loadFail (a : Nat) (s : State) : exec (.loadFail a) s = row (.loadFail a) (.block 7) s fun s => s.loadFail a := rfl
theorem exec_unloadDone (a : Nat) (s : State) :
    exec (.unloadDone a) s = row (.unloadDone a) (.block 7) s fun s => (((s.unloadDone a).spnPending).loadDue).abortPoint 4 := rfl
theorem exec_unloadFail (a : Nat) (s : State) :
    exec (.unloadFail a) s = row (.unloadFail a) (.block 7) s fun s => (s.unloadFail a).spnPending := rfl
theorem exec_faultReload (a : Nat) (s : State) :
    exec (.faultReload a) s = row (.faultReload a) (.block 7) s fun s => s.faultReload a := rfl
theorem exec_currentLoopPeriod (a : Nat) (isense : Int) (vcoil : Int) (s : State) :
    exec (.currentLoopPeriod a isense vcoil) s =
      row (.currentLoopPeriod a isense vcoil) (.block 7) s fun s => s.currentPeriod a isense vcoil := rfl
theorem exec_slotMem (n : Nat) (s : State) : exec (.slotMem n) s = row (.slotMem n) (.block 7) s fun s => s.slotMem n := rfl
theorem exec_spindleEnable (ag : Agent) (v : Word) (s : State) :
    exec (.spindleEnable ag v) s = row (.spindleEnable ag v) (.agent ag) s fun s => s.regRow ag .spnCtl v := rfl
theorem exec_spindleDisable (ag : Agent) (v : Word) (s : State) :
    exec (.spindleDisable ag v) s = row (.spindleDisable ag v) (.agent ag) s fun s => s.regRow ag .spnCtl v := rfl
theorem exec_targetRpmWrite (ag : Agent) (v : Word) (s : State) :
    exec (.targetRpmWrite ag v) s = row (.targetRpmWrite ag v) (.agent ag) s fun s => s.regRow ag .spnCtl v := rfl
theorem exec_listenEnd (speed : Option Nat) (s : State) :
    exec (.listenEnd speed) s = row (.listenEnd speed) (.block 8) s fun s => s.listenEnd speed := rfl
theorem exec_senseEnd (sector : Nat) (s : State) :
    exec (.senseEnd sector) s = row (.senseEnd sector) (.block 8) s fun s => s.senseEnd sector := rfl
theorem exec_alignEnd (s : State) : exec .alignEnd s = row .alignEnd (.block 8) s fun s => s.alignEnd := rfl
theorem exec_openLoopEnd (s : State) : exec .openLoopEnd s = row .openLoopEnd (.block 8) s fun s => s.openLoopEnd := rfl
theorem exec_startRetry (s : State) : exec .startRetry s = row .startRetry (.block 8) s fun s => s.startRetry := rfl
theorem exec_spinupTimeout (s : State) : exec .spinupTimeout s = row .spinupTimeout (.block 8) s fun s => s.spinupTimeout := rfl
theorem exec_brakeEnd (s : State) : exec .brakeEnd s = row .brakeEnd (.block 8) s fun s => s.brakeEnd := rfl
theorem exec_zeroCrossing (late : Bool) (s : State) :
    exec (.zeroCrossing late) s = row (.zeroCrossing late) (.block 8) s fun s => s.zeroCrossing late := rfl
theorem exec_spindleCurrentPeriod (isense : Int) (s : State) :
    exec (.spindleCurrentPeriod isense) s = row (.spindleCurrentPeriod isense) (.block 8) s fun s => s.spnCurrent isense := rfl
theorem exec_spindleIndex (late : Bool) (s : State) :
    exec (.spindleIndex late) s = row (.spindleIndex late) (.block 8) s fun s => ((s.spindleIndex late).loadDue).abortPoint 5 := rfl
theorem exec_syncEdge (s : State) : exec .syncEdge s = row .syncEdge (.block 16) s fun s => s.syncEdge := rfl
theorem exec_tlHoldover (s : State) : exec .tlHoldover s = row .tlHoldover (.block 8) s fun s => s.tlHoldover := rfl
theorem exec_ethFrameReceive (p : Nat) (f : RxFrame) (level : Nat) (s : State) :
    exec (.ethFrameReceive p f level) s = row (.ethFrameReceive p f level) .live s fun s => s.frameReceive p f level := rfl
theorem exec_roceWriteReceive (k : WritePkt) (bad : Nat) (s : State) :
    exec (.roceWriteReceive k bad) s = row (.roceWriteReceive k bad) .live s fun s => s.writeReceive k bad := rfl
theorem exec_sqDb (ix : Nat) (w : DWord) (s : State) : exec (.sqDb ix w) s = row (.sqDb ix w) .live s fun s => s.sqDb ix w := rfl
theorem exec_cqDb (ix : Nat) (w : DWord) (s : State) : exec (.cqDb ix w) s = row (.cqDb ix w) .live s fun s => s.cqDb ix w := rfl
theorem exec_evDb (ix : Nat) (w : DWord) (s : State) : exec (.evDb ix w) s = row (.evDb ix w) .live s fun s => s.evDb ix w := rfl
theorem exec_pushDataWrite (ix : Nat) (ofs : Nat) (bytes : List Byte) (bad : Nat) (s : State) :
    exec (.pushDataWrite ix ofs bytes bad) s = row (.pushDataWrite ix ofs bytes bad) .live s fun s => s.pushData ix ofs bytes bad := rfl
theorem exec_rdmaReadResponse (ix : Nat) (bytes : List Byte) (bad : Nat) (s : State) :
    exec (.rdmaReadResponse ix bytes bad) s = row (.rdmaReadResponse ix bytes bad) .live s fun s => s.readResponse ix bytes bad := rfl
theorem exec_roceAckReceive (ix : Nat) (k : AckKind) (psn : BitVec 24) (s : State) :
    exec (.roceAckReceive ix k psn) s = row (.roceAckReceive ix k psn) .live s fun s => s.ackReceive ix k psn := rfl
theorem exec_rnrNakReceive (ix : Nat) (s : State) :
    exec (.rnrNakReceive ix) s = row (.rnrNakReceive ix) .live s fun s => s.rnrNak ix := rfl
theorem exec_requestRetryTimeout (ix : Nat) (s : State) :
    exec (.requestRetryTimeout ix) s = row (.requestRetryTimeout ix) .live s fun s => s.retryTimeout ix := rfl
theorem exec_cnpReceive (ix : Nat) (s : State) :
    exec (.cnpReceive ix) s = row (.cnpReceive ix) .live s fun s => s.cnpReceive ix := rfl
theorem exec_rateIncrease (ix : Nat) (s : State) :
    exec (.rateIncrease ix) s = row (.rateIncrease ix) .live s fun s => s.rateIncrease ix := rfl
theorem exec_hostAckTimer (ix : Nat) (s : State) :
    exec (.hostAckTimer ix) s = row (.hostAckTimer ix) .live s fun s => s.hostAckTimer ix := rfl
theorem exec_req (port : Nat) (m : ReqMsg) (s : State) :
    exec (.req port m) s = row (.req port m) .live s fun s => s.req port m := rfl
theorem exec_rtu (ix : Nat) (s : State) : exec (.rtu ix) s = row (.rtu ix) .live s fun s => s.rtu ix := rfl
theorem exec_dreq (ix : Nat) (release : Bool) (s : State) :
    exec (.dreq ix release) s = row (.dreq ix release) .live s fun s => s.dreq ix release := rfl
theorem exec_drep (ix : Nat) (s : State) : exec (.drep ix) s = row (.drep ix) .live s fun s => s.drep ix := rfl
theorem exec_lap (ix : Nat) (p : PathReq) (s : State) : exec (.lap ix p) s = row (.lap ix p) .live s fun s => s.lap ix p := rfl
theorem exec_rej (ix : Nat) (s : State) : exec (.rej ix) s = row (.rej ix) .live s fun s => s.abandon ix := rfl
theorem exec_admitTimeout (ix : Nat) (s : State) :
    exec (.admitTimeout ix) s = row (.admitTimeout ix) (.block 0) s fun s => s.admitTimeout ix := rfl
theorem exec_lineageRelease (l : Nat) (s : State) :
    exec (.lineageRelease l) s = row (.lineageRelease l) (.block 0) s fun s => s.lineageRelease l := rfl
theorem exec_linkLoss (p : Nat) (s : State) : exec (.linkLoss p) s = row (.linkLoss p) .live s fun s => s.linkLoss p false := rfl
theorem exec_pathTimeout (ix : Nat) (s : State) :
    exec (.pathTimeout ix) s = row (.pathTimeout ix) .live s fun s => s.pathTimeout ix := rfl
theorem exec_linkUp (p : Nat) (partner : Nat) (fec74 : Bool) (s : State) :
    exec (.linkUp p partner fec74) s = row (.linkUp p partner fec74) .live s fun s => s.linkUp p partner fec74 := rfl
theorem exec_ethCfgWrite (ag : Agent) (p : Nat) (v : Word) (s : State) :
    exec (.ethCfgWrite ag p v) s = row (.ethCfgWrite ag p v) (.agent ag) s fun s => s.regRow ag (.ethCfg p) v := rfl
theorem exec_fetchIssue (s : State) : exec .fetchIssue s = row .fetchIssue .live s fun s => s.fetchIssue := rfl
theorem exec_grantIssue (t : Nat) (s : State) : exec (.grantIssue t) s = row (.grantIssue t) .live s fun s => s.grantIssue t := rfl
theorem exec_pushTimeout (t : Nat) (s : State) :
    exec (.pushTimeout t) s = row (.pushTimeout t) (.block 0) s fun s => s.pushTimeout t := rfl
theorem exec_quarantineEnd (ix : Nat) (s : State) :
    exec (.quarantineEnd ix) s = row (.quarantineEnd ix) (.block 0) s fun s => s.quarantineEnd ix := rfl
theorem exec_read (t : Nat) (s : State) : exec (.read t) s = row (.read t) (.block 0) s fun s => s.cmdRead t := rfl
theorem exec_write (t : Nat) (s : State) : exec (.write t) s = row (.write t) (.block 0) s fun s => s.cmdWrite t := rfl
theorem exec_deallocate (t : Nat) (s : State) :
    exec (.deallocate t) s = row (.deallocate t) (.block 0) s fun s => s.cmdDeallocate t := rfl
theorem exec_flush (t : Nat) (s : State) : exec (.flush t) s = row (.flush t) (.block 0) s fun s => s.cmdFlush t := rfl
theorem exec_copy (t : Nat) (s : State) : exec (.copy t) s = row (.copy t) (.block 0) s fun s => s.cmdCopy t := rfl
theorem exec_gather (t : Nat) (s : State) : exec (.gather t) s = row (.gather t) (.block 0) s fun s => s.cmdGather t := rfl
theorem exec_verify (t : Nat) (s : State) : exec (.verify t) s = row (.verify t) (.block 0) s fun s => s.cmdVerify t := rfl
theorem exec_zoneClose (t : Nat) (s : State) :
    exec (.zoneClose t) s = row (.zoneClose t) (.block 0) s fun s => s.cmdZoneClose t := rfl
theorem exec_zoneFinish (t : Nat) (s : State) :
    exec (.zoneFinish t) s = row (.zoneFinish t) (.block 0) s fun s => s.cmdZoneFinish t := rfl
theorem exec_zoneReset (t : Nat) (s : State) :
    exec (.zoneReset t) s = row (.zoneReset t) (.block 0) s fun s => s.cmdZoneReset t := rfl
theorem exec_zoneReport (t : Nat) (s : State) :
    exec (.zoneReport t) s = row (.zoneReport t) (.block 0) s fun s => s.cmdZoneReport t := rfl
theorem exec_nsCreate (t : Nat) (s : State) : exec (.nsCreate t) s = row (.nsCreate t) (.block 0) s fun s => s.cmdNsCreate t := rfl
theorem exec_nsDelete (t : Nat) (s : State) : exec (.nsDelete t) s = row (.nsDelete t) (.block 0) s fun s => s.cmdNsDelete t := rfl
theorem exec_nsDeleteDone (t : Nat) (s : State) :
    exec (.nsDeleteDone t) s = row (.nsDeleteDone t) (.block 0) s fun s => s.nsDeleteDone t := rfl
theorem exec_imageDownload (t : Nat) (s : State) :
    exec (.imageDownload t) s = row (.imageDownload t) (.block 0) s fun s => s.cmdImageDownload t := rfl
theorem exec_imageActivate (t : Nat) (s : State) :
    exec (.imageActivate t) s = row (.imageActivate t) (.block 0) s fun s => s.cmdImageActivate t := rfl
theorem exec_activationSequence (flashOk : Bool) (s : State) :
    exec (.activationSequence flashOk) s = row (.activationSequence flashOk) (.block 0) s fun s => s.activationSequence flashOk := rfl
theorem exec_latencyTolerance (t : Nat) (s : State) :
    exec (.latencyTolerance t) s = row (.latencyTolerance t) (.block 0) s fun s => s.cmdLatencyTolerance t := rfl
theorem exec_getLog (t : Nat) (s : State) : exec (.getLog t) s = row (.getLog t) (.block 0) s fun s => s.cmdGetLog t := rfl
theorem exec_attest (t : Nat) (s : State) : exec (.attest t) s = row (.attest t) (.block 0) s fun s => s.cmdAttest t := rfl
theorem exec_queueReset (t : Nat) (s : State) :
    exec (.queueReset t) s = row (.queueReset t) (.block 0) s fun s => s.cmdQueueReset t := rfl
theorem exec_queueResetDone (t : Nat) (s : State) :
    exec (.queueResetDone t) s = row (.queueResetDone t) (.block 0) s fun s => s.queueResetDone t := rfl
theorem exec_regAccessRead (t : Nat) (s : State) :
    exec (.regAccessRead t) s = row (.regAccessRead t) (.block 0) s fun s => s.cmdRegRead t := rfl
theorem exec_regAccessWrite (t : Nat) (s : State) :
    exec (.regAccessWrite t) s = row (.regAccessWrite t) (.block 0) s fun s => s.cmdRegWrite t := rfl
theorem exec_claimEvent (t : Nat) (s : State) :
    exec (.claimEvent t) s = row (.claimEvent t) (.block 0) s fun s => s.cmdClaim t := rfl
theorem exec_completeEvent (t : Nat) (s : State) :
    exec (.completeEvent t) s = row (.completeEvent t) (.block 0) s fun s => s.cmdComplete t := rfl
theorem exec_commandComplete (t : Nat) (s : State) :
    exec (.commandComplete t) s = row (.commandComplete t) (.block 0) s fun s => s.commandComplete t := rfl
theorem exec_readDataDelivered (t : Nat) (s : State) :
    exec (.readDataDelivered t) s = row (.readDataDelivered t) (.block 0) s fun s => s.readDelivered t := rfl
theorem exec_flushDone (t : Nat) (s : State) : exec (.flushDone t) s = row (.flushDone t) (.block 0) s fun s => s.flushDone t := rfl
theorem exec_modTimerExpire (ix : Nat) (s : State) :
    exec (.modTimerExpire ix) s = row (.modTimerExpire ix) (.block 0) s fun s => s.modTimer ix := rfl
theorem exec_evcMaskWrite (ag : Agent) (n : Nat) (hi : Bool) (v : Word) (s : State) :
    exec (.evcMaskWrite ag n hi v) s =
      row (.evcMaskWrite ag n hi v) (.agent ag) s fun s => s.regRow ag (if hi then .evcMaskHi n else .evcMaskLo n) v := rfl
theorem exec_evcRaise (ag : Agent) (v : Word) (s : State) :
    exec (.evcRaise ag v) s = row (.evcRaise ag v) (.agent ag) s fun s => s.regRow ag .evcRaise v := rfl
theorem exec_heartbeat (s : State) : exec .heartbeat s = row .heartbeat (.block 16) s fun s => s.heartbeat := rfl
theorem exec_turnEnd (a : Nat) (rows : List RowPlan) (posts : List SysPlan) (s : State) :
    exec (.turnEnd a rows posts) s = row (.turnEnd a rows posts) (.block 10) s fun s => s.turnEnd a rows posts := rfl
theorem exec_scrubRead (sram : Bool) (err : Nat) (s : State) :
    exec (.scrubRead sram err) s = row (.scrubRead sram err) (.block 11) s fun s => s.scrub sram err := rfl
theorem exec_scrubLate (s : State) : exec .scrubLate s = row .scrubLate (.block 11) s fun s => s.scrubLate := rfl
theorem exec_rowRepair (adr : Nat) (grans : List Nat) (spare : Bool) (s : State) :
    exec (.rowRepair adr grans spare) s = row (.rowRepair adr grans spare) (.block 11) s fun s => s.rowRepair adr grans spare := rfl
theorem exec_stackFail (k : Nat) (s : State) :
    exec (.stackFail k) s = row (.stackFail k) (.block 11) s fun s => s.stackFail k := rfl
theorem exec_cacheDrain (ag : Agent) (v : Word) (s : State) :
    exec (.cacheDrain ag v) s = row (.cacheDrain ag v) (.agent ag) s fun s => s.regRow ag .cchCtl v := rfl
theorem exec_drainDone (s : State) : exec .drainDone s = row .drainDone (.block 13) s fun s => s.drainDone := rfl
theorem exec_hbmDiagWrite (ag : Agent) (v : Word) (s : State) :
    exec (.hbmDiagWrite ag v) s = row (.hbmDiagWrite ag v) (.agent ag) s fun s => s.regRow ag .hbmDiag v := rfl
theorem exec_hbmDiagRead (ag : Agent) (v : Word) (s : State) :
    exec (.hbmDiagRead ag v) s = row (.hbmDiagRead ag v) (.agent ag) s fun s => s.regRow ag .hbmDiag v := rfl
theorem exec_srmDiagWrite (ag : Agent) (v : Word) (s : State) :
    exec (.srmDiagWrite ag v) s = row (.srmDiagWrite ag v) (.agent ag) s fun s => s.regRow ag .srmDiag v := rfl
theorem exec_srmDiagRead (ag : Agent) (v : Word) (s : State) :
    exec (.srmDiagRead ag v) s = row (.srmDiagRead ag v) (.agent ag) s fun s => s.regRow ag .srmDiag v := rfl
theorem exec_warmReset (s : State) : exec .warmReset s = row .warmReset (.block 15) s fun s => s.warmReset := rfl
theorem exec_moveIndex (c : Nat) (fab : Option (Nat × Nat)) (s : State) :
    exec (.moveIndex c fab) s = row (.moveIndex c fab) (.block 14) s fun s => s.dmaMoveIndex c fab := rfl
theorem exec_moveTwoDimensional (c : Nat) (fab : Option (Nat × Nat)) (s : State) :
    exec (.moveTwoDimensional c fab) s = row (.moveTwoDimensional c fab) (.block 14) s fun s => s.dmaMove2d c fab := rfl
theorem exec_loop (c : Nat) (s : State) : exec (.loop c) s = row (.loop c) (.block 14) s fun s => s.dmaLoop c := rfl
theorem exec_wait (c : Nat) (s : State) : exec (.wait c) s = row (.wait c) (.block 14) s fun s => s.dmaWait c := rfl
theorem exec_waitSlot (c : Nat) (s : State) : exec (.waitSlot c) s = row (.waitSlot c) (.block 14) s fun s => s.dmaWaitSlot c := rfl
theorem exec_signal (c : Nat) (s : State) : exec (.signal c) s = row (.signal c) (.block 14) s fun s => s.dmaSignal c := rfl
theorem exec_flagWrite (c : Nat) (s : State) :
    exec (.flagWrite c) s = row (.flagWrite c) (.block 14) s fun s => s.dmaFlagWrite c := rfl
theorem exec_dmaEvent (s : State) : exec .dmaEvent s = row .dmaEvent (.block 14) s fun s => s.dmaEvent := rfl
theorem exec_timerEvent (n : Nat) (s : State) :
    exec (.timerEvent n) s = row (.timerEvent n) (.block 14) s fun s => s.timerEvent n := rfl
theorem exec_start (ag : Agent) (c : Nat) (v : Word) (s : State) :
    exec (.start ag c v) s = row (.start ag c v) (.agent ag) s fun s => s.regRow ag (.dmaChCtl c) v := rfl
theorem exec_stop (ag : Agent) (c : Nat) (v : Word) (s : State) :
    exec (.stop ag c v) s = row (.stop ag c v) (.agent ag) s fun s => s.regRow ag (.dmaChCtl c) v := rfl
theorem exec_clr (ag : Agent) (c : Nat) (v : Word) (s : State) :
    exec (.clr ag c v) s = row (.clr ag c v) (.agent ag) s fun s => s.regRow ag (.dmaChCtl c) v := rfl
theorem exec_dmaWatchdog (c : Nat) (s : State) :
    exec (.dmaWatchdog c) s = row (.dmaWatchdog c) (.block 14) s fun s => s.dmaWatchdog c := rfl
theorem exec_powerEntryBegin (s : State) :
    exec .powerEntryBegin s = row .powerEntryBegin (.block 15) s fun s => s.powerEntryBegin := rfl
theorem exec_participantReady (repairing : Bool) (s : State) :
    exec (.participantReady repairing) s = row (.participantReady repairing) (.block 15) s fun s => s.participantReady repairing := rfl
theorem exec_wakeExit (s : State) : exec .wakeExit s = row .wakeExit (.block 15) s fun s => s.wakeExit := rfl
theorem exec_wakeAssert (s : State) : exec .wakeAssert s = row .wakeAssert .pins s fun s => s.wakeAssert := rfl
theorem exec_supplySample (mv : Nat) (s : State) :
    exec (.supplySample mv) s = row (.supplySample mv) (.block 15) s fun s => s.supplySample mv := rfl
theorem exec_stageEnter (s : State) : exec .stageEnter s = row .stageEnter (.block 15) s fun s => s.stageEnter := rfl
theorem exec_stageLeave (s : State) : exec .stageLeave s = row .stageLeave (.block 15) s fun s => s.stageLeave := rfl
theorem exec_pwrgoodFall (s : State) : exec .pwrgoodFall s = row .pwrgoodFall .pins s fun s => s.pwrgoodFall := rfl
theorem exec_eclipseSaveEnd (s : State) :
    exec .eclipseSaveEnd s = row .eclipseSaveEnd (.block 15) s fun s => s.eclipseSaveEnd := rfl
theorem exec_resetNFall (s : State) : exec .resetNFall s = row .resetNFall .pins s fun s => s.resetFall := rfl
theorem exec_coldBoot (trained : Nat) (checkFailed : Nat) (checker : Nat) (s : State) :
    exec (.coldBoot trained checkFailed checker) s =
      row (.coldBoot trained checkFailed checker) .pins s fun s => s.coldBoot trained checkFailed checker := rfl
theorem exec_flashRead (ag : Agent) (v : Word) (s : State) :
    exec (.flashRead ag v) s = row (.flashRead ag v) (.agent ag) s fun s => s.regRow ag .secFlashCtl v := rfl
theorem exec_flashProgram (ag : Agent) (v : Word) (s : State) :
    exec (.flashProgram ag v) s = row (.flashProgram ag v) (.agent ag) s fun s => s.regRow ag .secFlashCtl v := rfl
theorem exec_flashErase (ag : Agent) (v : Word) (s : State) :
    exec (.flashErase ag v) s = row (.flashErase ag v) (.agent ag) s fun s => s.regRow ag .secFlashCtl v := rfl
theorem exec_flashOpDone (ok : Bool) (s : State) :
    exec (.flashOpDone ok) s = row (.flashOpDone ok) .mgmt s fun s => s.flashOpDone ok := rfl
theorem exec_ptpSync (port : Nat) (identity : BitVec 64) (origin : Nat) (s : State) :
    exec (.ptpSync port identity origin) s =
      row (.ptpSync port identity origin) (.block 16) s fun s => s.ptpSync port identity origin := rfl
theorem exec_ptpAnnounce (m : Master) (s : State) :
    exec (.ptpAnnounce m) s = row (.ptpAnnounce m) (.block 16) s fun s => s.ptpAnnounce m := rfl
theorem exec_delayReqSend (s : State) : exec .delayReqSend s = row .delayReqSend (.block 16) s fun s => s.delayReqSend := rfl
theorem exec_delayResp (port : Nat) (identity : BitVec 64) (received : Nat) (s : State) :
    exec (.delayResp port identity received) s =
      row (.delayResp port identity received) (.block 16) s fun s => s.delayResp port identity received := rfl
theorem exec_ptpHoldover (announce : Bool) (s : State) :
    exec (.ptpHoldover announce) s = row (.ptpHoldover announce) (.block 16) s fun s => s.ptpHoldover announce := rfl
theorem exec_ppsHoldover (s : State) : exec .ppsHoldover s = row .ppsHoldover (.block 16) s fun s => s.ppsHoldover := rfl
theorem exec_ppsOutputSecond (s : State) : exec .ppsOutputSecond s = row .ppsOutputSecond (.block 16) s fun s => s.ppsOutput := rfl
theorem exec_timSetWrite (ag : Agent) (v : Word) (s : State) :
    exec (.timSetWrite ag v) s = row (.timSetWrite ag v) (.agent ag) s fun s => s.regRow ag .timSetHi v := rfl
theorem exec_conjunctionCompute (s : State) :
    exec .conjunctionCompute s = row .conjunctionCompute (.block 16) s fun s => s.conjCompute := rfl
theorem exec_faultReport (rep : Option Report) (s : State) :
    exec (.faultReport rep) s = row (.faultReport rep) .pins s fun s => s.faultReport rep := rfl
theorem exec_faultRecordWrite (s : State) :
    exec .faultRecordWrite s = row .faultRecordWrite .pins s fun s => s.faultRecordWrite := rfl
theorem exec_faultForce (ag : Agent) (n : Nat) (v : Word) (s : State) :
    exec (.faultForce ag n v) s = row (.faultForce ag n v) (.agent ag) s fun s => s.regRow ag (.fltSrc n) v := rfl
theorem exec_fltRdWrite (ag : Agent) (v : Word) (s : State) :
    exec (.fltRdWrite ag v) s = row (.fltRdWrite ag v) (.agent ag) s fun s => s.regRow ag .fltRd v := rfl
theorem exec_faultRecovery (n : Nat) (s : State) :
    exec (.faultRecovery n) s = row (.faultRecovery n) (.block 17) s fun s => s.faultRecovery n := rfl
theorem exec_trig (ag : Agent) (v : Word) (s : State) :
    exec (.trig ag v) s = row (.trig ag v) (.agent ag) s fun s => s.regRow ag .talCtl v := rfl
theorem exec_rearm (ag : Agent) (v : Word) (s : State) :
    exec (.rearm ag v) s = row (.rearm ag v) (.agent ag) s fun s => s.regRow ag .talCtl v := rfl
theorem exec_tailPeriod (s : State) : exec .tailPeriod s = row .tailPeriod (.block 18) s fun s => s.tailPeriod := rfl
theorem exec_tailCapture (s : State) : exec .tailCapture s = row .tailCapture .live s fun s => s.tailCapture := rfl
theorem exec_talListWrite (ag : Agent) (l : Nat) (ix : Nat) (v : Word) (s : State) :
    exec (.talListWrite ag l ix v) s = row (.talListWrite ag l ix v) (.agent ag) s fun s => s.regRow ag (.talList l ix) v := rfl
theorem exec_talCfgWrite (ag : Agent) (v : Word) (s : State) :
    exec (.talCfgWrite ag v) s = row (.talCfgWrite ag v) (.agent ag) s fun s => s.regRow ag .talCfg v := rfl
theorem exec_readMgmt (addr : Nat) (pecOk : Bool) (s : State) :
    exec (.readMgmt addr pecOk) s = row (.readMgmt addr pecOk) .mgmt s fun s => s.readMgmt addr pecOk := rfl
theorem exec_lastStatus (s : State) : exec .lastStatus s = row .lastStatus .mgmt s fun s => s.lastStatusRead := rfl
theorem exec_mgmtSclTimeout (s : State) : exec .mgmtSclTimeout s = row .mgmtSclTimeout .mgmt s fun s => s.sclTimeout := rfl
theorem exec_ethIpCtlWrite (ag : Agent) (p : Nat) (v : Word) (s : State) :
    exec (.ethIpCtlWrite ag p v) s = row (.ethIpCtlWrite ag p v) (.agent ag) s fun s => s.regRow ag (.ethIpCtl p) v := rfl
theorem exec_ethAddressWrite (ag : Agent) (p : Nat) (k : Nat) (v : Word) (s : State) :
    exec (.ethAddressWrite ag p k v) s = row (.ethAddressWrite ag p k v) (.agent ag) s fun s => s.regRow ag (ethAddressReg p k) v := rfl
theorem exec_sharedResourceWrite (ag : Agent) (reg : Reg) (v : Word) (s : State) :
    exec (.sharedResourceWrite ag reg v) s = row (.sharedResourceWrite ag reg v) (.agent ag) s fun s => s.regRow ag reg v := rfl
theorem exec_pwrgoodRise (straps : Nat) (railsLost : Bool) (s : State) :
    exec (.pwrgoodRise straps railsLost) s = row (.pwrgoodRise straps railsLost) .pins s fun s => s.pwrgoodRise straps railsLost := rfl
theorem exec_powerUp (s : State) : exec .powerUp s = row .powerUp .pins s fun s => s.powerUp := rfl
theorem exec_dieTemperatureChange (temp : Int) (s : State) :
    exec (.dieTemperatureChange temp) s = row (.dieTemperatureChange temp) (.block 20) s fun s => s.dieTemperature temp := rfl
theorem exec_coreLockstepFail (c : Nat) (s : State) :
    exec (.coreLockstepFail c) s = row (.coreLockstepFail c) (.block 20) s fun s => s.coreLockstep c := rfl
theorem exec_slewEnd (s : State) : exec .slewEnd s = row .slewEnd (.block 16) s fun s => s.slewEnd := rfl
theorem exec_jtagInstruction (ir : Nat) (s : State) :
    exec (.jtagInstruction ir) s = row (.jtagInstruction ir) .pins s fun s => s.jtagInstruction ir := rfl

/-- Every command is a row of the shared form, with the taker that `Instr.need` names. -/
theorem exec_row (c : Instr) (s : State) : ∃ f : State → State, exec c s = row c c.need s f := by
  cases c with
  | setupRegisterWrite ag addr v => exact ⟨_, exec_setupRegisterWrite ag addr v s⟩
  | plcStripeCfgWrite ag v => exact ⟨_, exec_plcStripeCfgWrite ag v s⟩
  | bandSetFree n => exact ⟨_, exec_bandSetFree n s⟩
  | reservationGrant => exact ⟨_, exec_reservationGrant s⟩
  | writeAccept t => exact ⟨_, exec_writeAccept t s⟩
  | landingRecopyDone kind n stack => exact ⟨_, exec_landingRecopyDone kind n stack s⟩
  | rowComplete n => exact ⟨_, exec_rowComplete n s⟩
  | journalOnMedia n => exact ⟨_, exec_journalOnMedia n s⟩
  | checkpointBegin => exact ⟨_, exec_checkpointBegin s⟩
  | checkpointInForce => exact ⟨_, exec_checkpointInForce s⟩
  | mapRebuild badRoots bad => exact ⟨_, exec_mapRebuild badRoots bad s⟩
  | chnStHeadWrite ag st v => exact ⟨_, exec_chnStHeadWrite ag st v s⟩
  | headSwitch st => exact ⟨_, exec_headSwitch st s⟩
  | chnAfSelWrite ag n v => exact ⟨_, exec_chnAfSelWrite ag n v s⟩
  | frontEndFail n => exact ⟨_, exec_frontEndFail n s⟩
  | servoWedge st o => exact ⟨_, exec_servoWedge st o s⟩
  | decodeStop st o => exact ⟨_, exec_decodeStop st o s⟩
  | deepDecodeDone k word => exact ⟨_, exec_deepDecodeDone k word s⟩
  | rereadDone ix missed values => exact ⟨_, exec_rereadDone ix missed values s⟩
  | rebuildDone ix => exact ⟨_, exec_rebuildDone ix s⟩
  | chnStatSnap ag v => exact ⟨_, exec_chnStatSnap ag v s⟩
  | chnStatSnapClear ag v => exact ⟨_, exec_chnStatSnapClear ag v s⟩
  | linkAck a w parts => exact ⟨_, exec_linkAck a w parts s⟩
  | preampFault a w parts => exact ⟨_, exec_preampFault a w parts s⟩
  | linkAckTimeout a => exact ⟨_, exec_linkAckTimeout a s⟩
  | linkResetRetry a => exact ⟨_, exec_linkResetRetry a s⟩
  | contactRestore h => exact ⟨_, exec_contactRestore h s⟩
  | plkClr ag n v => exact ⟨_, exec_plkClr ag n v s⟩
  | touchdownStart ag v => exact ⟨_, exec_touchdownStart ag v s⟩
  | touchdownStep => exact ⟨_, exec_touchdownStep s⟩
  | wfltAssert a ns => exact ⟨_, exec_wfltAssert a ns s⟩
  | verifyDone id => exact ⟨_, exec_verifyDone id s⟩
  | verifyWindowExpire id => exact ⟨_, exec_verifyWindowExpire id s⟩
  | nop q pos => exact ⟨_, exec_nop q pos s⟩
  | ldi q pos => exact ⟨_, exec_ldi q pos s⟩
  | ldih q pos => exact ⟨_, exec_ldih q pos s⟩
  | add q pos => exact ⟨_, exec_add q pos s⟩
  | addv q pos => exact ⟨_, exec_addv q pos s⟩
  | and q pos => exact ⟨_, exec_and q pos s⟩
  | cmp q pos => exact ⟨_, exec_cmp q pos s⟩
  | cmpv q pos => exact ⟨_, exec_cmpv q pos s⟩
  | ldp q pos => exact ⟨_, exec_ldp q pos s⟩
  | stp q pos => exact ⟨_, exec_stp q pos s⟩
  | branch q => exact ⟨_, exec_branch q s⟩
  | call q => exact ⟨_, exec_call q s⟩
  | ret q => exact ⟨_, exec_ret q s⟩
  | rett q => exact ⟨_, exec_rett q s⟩
  | actAtPosition q pos => exact ⟨_, exec_actAtPosition q pos s⟩
  | waitEnd q o => exact ⟨_, exec_waitEnd q o s⟩
  | waitTimeout q => exact ⟨_, exec_waitTimeout q s⟩
  | seqInterrupt q => exact ⟨_, exec_seqInterrupt q s⟩
  | privTrap q => exact ⟨_, exec_privTrap q s⟩
  | controlStoreReload q flip => exact ⟨_, exec_controlStoreReload q flip s⟩
  | lockstepFail q => exact ⟨_, exec_lockstepFail q s⟩
  | seqCsRead ag v => exact ⟨_, exec_seqCsRead ag v s⟩
  | seqCsInject ag v => exact ⟨_, exec_seqCsInject ag v s⟩
  | servoSample a late => exact ⟨_, exec_servoSample a late s⟩
  | swapRequest ag n v => exact ⟨_, exec_swapRequest ag n v s⟩
  | sceWindowWrite ag ofs v => exact ⟨_, exec_sceWindowWrite ag ofs v s⟩
  | sceTgtWrite ag st v => exact ⟨_, exec_sceTgtWrite ag st v s⟩
  | go ag a v => exact ⟨_, exec_go ag a v s⟩
  | load ag a v => exact ⟨_, exec_load ag a v s⟩
  | unload ag a v => exact ⟨_, exec_unload ag a v s⟩
  | seekEnd a => exact ⟨_, exec_seekEnd a s⟩
  | seekTimeout a => exact ⟨_, exec_seekTimeout a s⟩
  | loadFail a => exact ⟨_, exec_loadFail a s⟩
  | unloadDone a => exact ⟨_, exec_unloadDone a s⟩
  | unloadFail a => exact ⟨_, exec_unloadFail a s⟩
  | faultReload a => exact ⟨_, exec_faultReload a s⟩
  | currentLoopPeriod a isense vcoil => exact ⟨_, exec_currentLoopPeriod a isense vcoil s⟩
  | slotMem n => exact ⟨_, exec_slotMem n s⟩
  | spindleEnable ag v => exact ⟨_, exec_spindleEnable ag v s⟩
  | spindleDisable ag v => exact ⟨_, exec_spindleDisable ag v s⟩
  | targetRpmWrite ag v => exact ⟨_, exec_targetRpmWrite ag v s⟩
  | listenEnd speed => exact ⟨_, exec_listenEnd speed s⟩
  | senseEnd sector => exact ⟨_, exec_senseEnd sector s⟩
  | alignEnd => exact ⟨_, exec_alignEnd s⟩
  | openLoopEnd => exact ⟨_, exec_openLoopEnd s⟩
  | startRetry => exact ⟨_, exec_startRetry s⟩
  | spinupTimeout => exact ⟨_, exec_spinupTimeout s⟩
  | brakeEnd => exact ⟨_, exec_brakeEnd s⟩
  | zeroCrossing late => exact ⟨_, exec_zeroCrossing late s⟩
  | spindleCurrentPeriod isense => exact ⟨_, exec_spindleCurrentPeriod isense s⟩
  | spindleIndex late => exact ⟨_, exec_spindleIndex late s⟩
  | syncEdge => exact ⟨_, exec_syncEdge s⟩
  | tlHoldover => exact ⟨_, exec_tlHoldover s⟩
  | ethFrameReceive p f level => exact ⟨_, exec_ethFrameReceive p f level s⟩
  | roceWriteReceive k bad => exact ⟨_, exec_roceWriteReceive k bad s⟩
  | sqDb ix w => exact ⟨_, exec_sqDb ix w s⟩
  | cqDb ix w => exact ⟨_, exec_cqDb ix w s⟩
  | evDb ix w => exact ⟨_, exec_evDb ix w s⟩
  | pushDataWrite ix ofs bytes bad => exact ⟨_, exec_pushDataWrite ix ofs bytes bad s⟩
  | rdmaReadResponse ix bytes bad => exact ⟨_, exec_rdmaReadResponse ix bytes bad s⟩
  | roceAckReceive ix k psn => exact ⟨_, exec_roceAckReceive ix k psn s⟩
  | rnrNakReceive ix => exact ⟨_, exec_rnrNakReceive ix s⟩
  | requestRetryTimeout ix => exact ⟨_, exec_requestRetryTimeout ix s⟩
  | cnpReceive ix => exact ⟨_, exec_cnpReceive ix s⟩
  | rateIncrease ix => exact ⟨_, exec_rateIncrease ix s⟩
  | hostAckTimer ix => exact ⟨_, exec_hostAckTimer ix s⟩
  | req port m => exact ⟨_, exec_req port m s⟩
  | rtu ix => exact ⟨_, exec_rtu ix s⟩
  | dreq ix release => exact ⟨_, exec_dreq ix release s⟩
  | drep ix => exact ⟨_, exec_drep ix s⟩
  | lap ix p => exact ⟨_, exec_lap ix p s⟩
  | rej ix => exact ⟨_, exec_rej ix s⟩
  | admitTimeout ix => exact ⟨_, exec_admitTimeout ix s⟩
  | lineageRelease l => exact ⟨_, exec_lineageRelease l s⟩
  | linkLoss p => exact ⟨_, exec_linkLoss p s⟩
  | pathTimeout ix => exact ⟨_, exec_pathTimeout ix s⟩
  | linkUp p partner fec74 => exact ⟨_, exec_linkUp p partner fec74 s⟩
  | ethCfgWrite ag p v => exact ⟨_, exec_ethCfgWrite ag p v s⟩
  | fetchIssue => exact ⟨_, exec_fetchIssue s⟩
  | grantIssue t => exact ⟨_, exec_grantIssue t s⟩
  | pushTimeout t => exact ⟨_, exec_pushTimeout t s⟩
  | quarantineEnd ix => exact ⟨_, exec_quarantineEnd ix s⟩
  | read t => exact ⟨_, exec_read t s⟩
  | write t => exact ⟨_, exec_write t s⟩
  | deallocate t => exact ⟨_, exec_deallocate t s⟩
  | flush t => exact ⟨_, exec_flush t s⟩
  | copy t => exact ⟨_, exec_copy t s⟩
  | gather t => exact ⟨_, exec_gather t s⟩
  | verify t => exact ⟨_, exec_verify t s⟩
  | zoneClose t => exact ⟨_, exec_zoneClose t s⟩
  | zoneFinish t => exact ⟨_, exec_zoneFinish t s⟩
  | zoneReset t => exact ⟨_, exec_zoneReset t s⟩
  | zoneReport t => exact ⟨_, exec_zoneReport t s⟩
  | nsCreate t => exact ⟨_, exec_nsCreate t s⟩
  | nsDelete t => exact ⟨_, exec_nsDelete t s⟩
  | nsDeleteDone t => exact ⟨_, exec_nsDeleteDone t s⟩
  | imageDownload t => exact ⟨_, exec_imageDownload t s⟩
  | imageActivate t => exact ⟨_, exec_imageActivate t s⟩
  | activationSequence flashOk => exact ⟨_, exec_activationSequence flashOk s⟩
  | latencyTolerance t => exact ⟨_, exec_latencyTolerance t s⟩
  | getLog t => exact ⟨_, exec_getLog t s⟩
  | attest t => exact ⟨_, exec_attest t s⟩
  | queueReset t => exact ⟨_, exec_queueReset t s⟩
  | queueResetDone t => exact ⟨_, exec_queueResetDone t s⟩
  | regAccessRead t => exact ⟨_, exec_regAccessRead t s⟩
  | regAccessWrite t => exact ⟨_, exec_regAccessWrite t s⟩
  | claimEvent t => exact ⟨_, exec_claimEvent t s⟩
  | completeEvent t => exact ⟨_, exec_completeEvent t s⟩
  | commandComplete t => exact ⟨_, exec_commandComplete t s⟩
  | readDataDelivered t => exact ⟨_, exec_readDataDelivered t s⟩
  | flushDone t => exact ⟨_, exec_flushDone t s⟩
  | modTimerExpire ix => exact ⟨_, exec_modTimerExpire ix s⟩
  | evcMaskWrite ag n hi v => exact ⟨_, exec_evcMaskWrite ag n hi v s⟩
  | evcRaise ag v => exact ⟨_, exec_evcRaise ag v s⟩
  | heartbeat => exact ⟨_, exec_heartbeat s⟩
  | turnEnd a rows posts => exact ⟨_, exec_turnEnd a rows posts s⟩
  | scrubRead sram err => exact ⟨_, exec_scrubRead sram err s⟩
  | scrubLate => exact ⟨_, exec_scrubLate s⟩
  | rowRepair adr grans spare => exact ⟨_, exec_rowRepair adr grans spare s⟩
  | stackFail k => exact ⟨_, exec_stackFail k s⟩
  | cacheDrain ag v => exact ⟨_, exec_cacheDrain ag v s⟩
  | drainDone => exact ⟨_, exec_drainDone s⟩
  | hbmDiagWrite ag v => exact ⟨_, exec_hbmDiagWrite ag v s⟩
  | hbmDiagRead ag v => exact ⟨_, exec_hbmDiagRead ag v s⟩
  | srmDiagWrite ag v => exact ⟨_, exec_srmDiagWrite ag v s⟩
  | srmDiagRead ag v => exact ⟨_, exec_srmDiagRead ag v s⟩
  | warmReset => exact ⟨_, exec_warmReset s⟩
  | moveIndex c fab => exact ⟨_, exec_moveIndex c fab s⟩
  | moveTwoDimensional c fab => exact ⟨_, exec_moveTwoDimensional c fab s⟩
  | loop c => exact ⟨_, exec_loop c s⟩
  | wait c => exact ⟨_, exec_wait c s⟩
  | waitSlot c => exact ⟨_, exec_waitSlot c s⟩
  | signal c => exact ⟨_, exec_signal c s⟩
  | flagWrite c => exact ⟨_, exec_flagWrite c s⟩
  | dmaEvent => exact ⟨_, exec_dmaEvent s⟩
  | timerEvent n => exact ⟨_, exec_timerEvent n s⟩
  | start ag c v => exact ⟨_, exec_start ag c v s⟩
  | stop ag c v => exact ⟨_, exec_stop ag c v s⟩
  | clr ag c v => exact ⟨_, exec_clr ag c v s⟩
  | dmaWatchdog c => exact ⟨_, exec_dmaWatchdog c s⟩
  | powerEntryBegin => exact ⟨_, exec_powerEntryBegin s⟩
  | participantReady repairing => exact ⟨_, exec_participantReady repairing s⟩
  | wakeExit => exact ⟨_, exec_wakeExit s⟩
  | wakeAssert => exact ⟨_, exec_wakeAssert s⟩
  | supplySample mv => exact ⟨_, exec_supplySample mv s⟩
  | stageEnter => exact ⟨_, exec_stageEnter s⟩
  | stageLeave => exact ⟨_, exec_stageLeave s⟩
  | pwrgoodFall => exact ⟨_, exec_pwrgoodFall s⟩
  | eclipseSaveEnd => exact ⟨_, exec_eclipseSaveEnd s⟩
  | resetNFall => exact ⟨_, exec_resetNFall s⟩
  | coldBoot trained checkFailed checker => exact ⟨_, exec_coldBoot trained checkFailed checker s⟩
  | flashRead ag v => exact ⟨_, exec_flashRead ag v s⟩
  | flashProgram ag v => exact ⟨_, exec_flashProgram ag v s⟩
  | flashErase ag v => exact ⟨_, exec_flashErase ag v s⟩
  | flashOpDone ok => exact ⟨_, exec_flashOpDone ok s⟩
  | ptpSync port identity origin => exact ⟨_, exec_ptpSync port identity origin s⟩
  | ptpAnnounce m => exact ⟨_, exec_ptpAnnounce m s⟩
  | delayReqSend => exact ⟨_, exec_delayReqSend s⟩
  | delayResp port identity received => exact ⟨_, exec_delayResp port identity received s⟩
  | ptpHoldover announce => exact ⟨_, exec_ptpHoldover announce s⟩
  | ppsHoldover => exact ⟨_, exec_ppsHoldover s⟩
  | ppsOutputSecond => exact ⟨_, exec_ppsOutputSecond s⟩
  | timSetWrite ag v => exact ⟨_, exec_timSetWrite ag v s⟩
  | conjunctionCompute => exact ⟨_, exec_conjunctionCompute s⟩
  | faultReport rep => exact ⟨_, exec_faultReport rep s⟩
  | faultRecordWrite => exact ⟨_, exec_faultRecordWrite s⟩
  | faultForce ag n v => exact ⟨_, exec_faultForce ag n v s⟩
  | fltRdWrite ag v => exact ⟨_, exec_fltRdWrite ag v s⟩
  | faultRecovery n => exact ⟨_, exec_faultRecovery n s⟩
  | trig ag v => exact ⟨_, exec_trig ag v s⟩
  | rearm ag v => exact ⟨_, exec_rearm ag v s⟩
  | tailPeriod => exact ⟨_, exec_tailPeriod s⟩
  | tailCapture => exact ⟨_, exec_tailCapture s⟩
  | talListWrite ag l ix v => exact ⟨_, exec_talListWrite ag l ix v s⟩
  | talCfgWrite ag v => exact ⟨_, exec_talCfgWrite ag v s⟩
  | readMgmt addr pecOk => exact ⟨_, exec_readMgmt addr pecOk s⟩
  | lastStatus => exact ⟨_, exec_lastStatus s⟩
  | mgmtSclTimeout => exact ⟨_, exec_mgmtSclTimeout s⟩
  | ethIpCtlWrite ag p v => exact ⟨_, exec_ethIpCtlWrite ag p v s⟩
  | ethAddressWrite ag p k v => exact ⟨_, exec_ethAddressWrite ag p k v s⟩
  | sharedResourceWrite ag reg v => exact ⟨_, exec_sharedResourceWrite ag reg v s⟩
  | pwrgoodRise straps railsLost => exact ⟨_, exec_pwrgoodRise straps railsLost s⟩
  | powerUp => exact ⟨_, exec_powerUp s⟩
  | dieTemperatureChange temp => exact ⟨_, exec_dieTemperatureChange temp s⟩
  | coreLockstepFail c => exact ⟨_, exec_coreLockstepFail c s⟩
  | slewEnd => exact ⟨_, exec_slewEnd s⟩
  | jtagInstruction ir => exact ⟨_, exec_jtagInstruction ir s⟩

end Sys2Proof.Machine
end

