-- ==== Sys2Proof/Laws/Kept.lean ====
section
/-! SUPPORT. What raising an event source leaves alone, field by field. -/

namespace Sys2Proof.Machine

theorem foldl_keeps {α β : Type} (p : State → α) (f : State → β → State) (h : ∀ s b, p (f s b) = p s) (l : List β) (s : State) :
    p (l.foldl f s) = p s := by
  induction l generalizing s with
  | nil => rfl
  | cons b l ih => rw [List.foldl_cons, ih, h]

@[simp] theorem State.sendPkt_now (s : State) (i : Nat) (p : Pkt) : (s.sendPkt i p).now = s.now := by
  simp only [State.sendPkt]
  split <;> rfl
@[simp] theorem State.sendPkt_free (s : State) (i : Nat) (p : Pkt) : (s.sendPkt i p).free = s.free := by
  simp only [State.sendPkt]
  split <;> rfl
@[simp] theorem State.sendPkt_regs (s : State) (i : Nat) (p : Pkt) : (s.sendPkt i p).regs = s.regs := by
  simp only [State.sendPkt]
  split <;> rfl
@[simp] theorem State.sendPkt_latches (s : State) (i : Nat) (p : Pkt) : (s.sendPkt i p).latches = s.latches := by
  simp only [State.sendPkt]
  split <;> rfl
@[simp] theorem State.sendPkt_setupErr (s : State) (i : Nat) (p : Pkt) : (s.sendPkt i p).setupErr = s.setupErr := by
  simp only [State.sendPkt]
  split <;> rfl
@[simp] theorem State.sendPkt_tim (s : State) (i : Nat) (p : Pkt) : (s.sendPkt i p).tim = s.tim := by
  simp only [State.sendPkt]
  split <;> rfl
@[simp] theorem State.sendPkt_flt (s : State) (i : Nat) (p : Pkt) : (s.sendPkt i p).flt = s.flt := by
  simp only [State.sendPkt]
  split <;> rfl
@[simp] theorem State.sendPkt_tal (s : State) (i : Nat) (p : Pkt) : (s.sendPkt i p).tal = s.tal := by
  simp only [State.sendPkt]
  split <;> rfl
@[simp] theorem State.sendPkt_evc (s : State) (i : Nat) (p : Pkt) : (s.sendPkt i p).evc = s.evc := by
  simp only [State.sendPkt]
  split <;> rfl
@[simp] theorem State.sendPkt_plc (s : State) (i : Nat) (p : Pkt) : (s.sendPkt i p).plc = s.plc := by
  simp only [State.sendPkt]
  split <;> rfl
@[simp] theorem State.sendPkt_orb (s : State) (i : Nat) (p : Pkt) : (s.sendPkt i p).orb = s.orb := by
  simp only [State.sendPkt]
  split <;> rfl
@[simp] theorem State.sendPkt_sce (s : State) (i : Nat) (p : Pkt) : (s.sendPkt i p).sce = s.sce := by
  simp only [State.sendPkt]
  split <;> rfl
@[simp] theorem State.sendPkt_spn (s : State) (i : Nat) (p : Pkt) : (s.sendPkt i p).spn = s.spn := by
  simp only [State.sendPkt]
  split <;> rfl
@[simp] theorem State.sendPkt_chn (s : State) (i : Nat) (p : Pkt) : (s.sendPkt i p).chn = s.chn := by
  simp only [State.sendPkt]
  split <;> rfl
@[simp] theorem State.sendPkt_wrp (s : State) (i : Nat) (p : Pkt) : (s.sendPkt i p).wrp = s.wrp := by
  simp only [State.sendPkt]
  split <;> rfl
@[simp] theorem State.sendPkt_seq (s : State) (i : Nat) (p : Pkt) : (s.sendPkt i p).seq = s.seq := by
  simp only [State.sendPkt]
  split <;> rfl
@[simp] theorem State.sendPkt_dma (s : State) (i : Nat) (p : Pkt) : (s.sendPkt i p).dma = s.dma := by
  simp only [State.sendPkt]
  split <;> rfl
@[simp] theorem State.sendPkt_pwr (s : State) (i : Nat) (p : Pkt) : (s.sendPkt i p).pwr = s.pwr := by
  simp only [State.sendPkt]
  split <;> rfl
@[simp] theorem State.sendPkt_hbm (s : State) (i : Nat) (p : Pkt) : (s.sendPkt i p).hbm = s.hbm := by
  simp only [State.sendPkt]
  split <;> rfl
@[simp] theorem State.sendPkt_srm (s : State) (i : Nat) (p : Pkt) : (s.sendPkt i p).srm = s.srm := by
  simp only [State.sendPkt]
  split <;> rfl
@[simp] theorem State.sendPkt_cch (s : State) (i : Nat) (p : Pkt) : (s.sendPkt i p).cch = s.cch := by
  simp only [State.sendPkt]
  split <;> rfl
@[simp] theorem State.sendPkt_sec (s : State) (i : Nat) (p : Pkt) : (s.sendPkt i p).sec = s.sec := by
  simp only [State.sendPkt]
  split <;> rfl
@[simp] theorem State.sendPkt_pin (s : State) (i : Nat) (p : Pkt) : (s.sendPkt i p).pin = s.pin := by
  simp only [State.sendPkt]
  split <;> rfl
@[simp] theorem State.sendPkt_pending (s : State) (i : Nat) (p : Pkt) : (s.sendPkt i p).pending = s.pending := by
  simp only [State.sendPkt]
  split <;> rfl
@[simp] theorem State.sendPkt_eqt_ports (s : State) (i : Nat) (p : Pkt) : (s.sendPkt i p).eqt.ports = s.eqt.ports := by
  simp only [State.sendPkt]
  split <;> rfl
@[simp] theorem State.sendPkt_eqt_sessions (s : State) (i : Nat) (p : Pkt) : (s.sendPkt i p).eqt.sessions = s.eqt.sessions := by
  simp only [State.sendPkt]
  split <;> rfl
@[simp] theorem State.sendPkt_eqt_lineages (s : State) (i : Nat) (p : Pkt) : (s.sendPkt i p).eqt.lineages = s.eqt.lineages := by
  simp only [State.sendPkt]
  split <;> rfl
@[simp] theorem State.sendPkt_eqt_nextLineage (s : State) (i : Nat) (p : Pkt) : (s.sendPkt i p).eqt.nextLineage = s.eqt.nextLineage := by
  simp only [State.sendPkt]
  split <;> rfl
@[simp] theorem State.sendPkt_eqt_cmds (s : State) (i : Nat) (p : Pkt) : (s.sendPkt i p).eqt.cmds = s.eqt.cmds := by
  simp only [State.sendPkt]
  split <;> rfl
@[simp] theorem State.sendPkt_eqt_rrNext (s : State) (i : Nat) (p : Pkt) : (s.sendPkt i p).eqt.rrNext = s.eqt.rrNext := by
  simp only [State.sendPkt]
  split <;> rfl
@[simp] theorem State.sendPkt_eqt_dbBad (s : State) (i : Nat) (p : Pkt) : (s.sendPkt i p).eqt.dbBad = s.eqt.dbBad := by
  simp only [State.sendPkt]
  split <;> rfl
@[simp] theorem State.sendPkt_eqt_sglBad (s : State) (i : Nat) (p : Pkt) : (s.sendPkt i p).eqt.sglBad = s.eqt.sglBad := by
  simp only [State.sendPkt]
  split <;> rfl
@[simp] theorem State.sendPkt_eqt_pushBad (s : State) (i : Nat) (p : Pkt) : (s.sendPkt i p).eqt.pushBad = s.eqt.pushBad := by
  simp only [State.sendPkt]
  split <;> rfl
@[simp] theorem State.sendPkt_eqt_mraQueue (s : State) (i : Nat) (p : Pkt) : (s.sendPkt i p).eqt.mraQueue = s.eqt.mraQueue := by
  simp only [State.sendPkt]
  split <;> rfl
@[simp] theorem State.sendPkt_eqt_staged (s : State) (i : Nat) (p : Pkt) : (s.sendPkt i p).eqt.staged = s.eqt.staged := by
  simp only [State.sendPkt]
  split <;> rfl
@[simp] theorem State.sendPkt_eqt_activation (s : State) (i : Nat) (p : Pkt) : (s.sendPkt i p).eqt.activation = s.eqt.activation := by
  simp only [State.sendPkt]
  split <;> rfl
@[simp] theorem State.sendPkt_eqt_acceptCmds (s : State) (i : Nat) (p : Pkt) : (s.sendPkt i p).eqt.acceptCmds = s.eqt.acceptCmds := by
  simp only [State.sendPkt]
  split <;> rfl
@[simp] theorem State.sendPkt_eqt_firstAccepted (s : State) (i : Nat) (p : Pkt) : (s.sendPkt i p).eqt.firstAccepted = s.eqt.firstAccepted := by
  simp only [State.sendPkt]
  split <;> rfl
@[simp] theorem State.sendPkt_sess (s : State) (i j : Nat) (p : Pkt) : (s.sendPkt i p).sess j = s.sess j := by
  simp [State.sess]

theorem notify_pwr (s : State) (i r : Nat) : (s.notify i r).pwr = s.pwr := by
  simp only [State.notify]
  split <;> (try split) <;> simp

theorem evWrite_pwr (s : State) (i : Nat) (e : EventRec) : (s.evWrite i e).pwr = s.pwr := by
  simp only [State.evWrite]
  split <;> simp [notify_pwr]

theorem evRaised_pwr (s : State) (i n c : Nat) (v : BitVec 64) : (s.evRaised i n c v).pwr = s.pwr := by
  simp only [State.evRaised]
  split <;> simp [evWrite_pwr]

@[simp] theorem State.enterPending_pwr (s : State) (n : Nat) (v : BitVec 32) : (s.enterPending n v).pwr = s.pwr := by
  simp only [State.enterPending]
  rw [foldl_keeps State.pwr _ fun _ _ => evRaised_pwr _ _ _ _ _]
  simp

@[simp] theorem State.evcEdge_pwr (s : State) (n : Nat) (v : BitVec 32) : (s.evcEdge n v).pwr = s.pwr := by
  simp only [State.evcEdge]
  split <;> simp

@[simp] theorem State.evcLevel_pwr (s : State) (n : Nat) : (s.evcLevel n).pwr = s.pwr := by
  simp only [State.evcLevel]
  split <;> simp

@[simp] theorem State.enterPending_now (s : State) (n : Nat) (v : BitVec 32) : (s.enterPending n v).now = s.now := still_now (still_enterPending s _ _)
@[simp] theorem State.enterPending_free (s : State) (n : Nat) (v : BitVec 32) : (s.enterPending n v).free = s.free := still_free (still_enterPending s _ _)
@[simp] theorem State.enterPending_regs (s : State) (n : Nat) (v : BitVec 32) : (s.enterPending n v).regs = s.regs := still_regs (still_enterPending s _ _)
@[simp] theorem State.enterPending_latches (s : State) (n : Nat) (v : BitVec 32) : (s.enterPending n v).latches = s.latches := still_latches (still_enterPending s _ _)
@[simp] theorem State.enterPending_setupErr (s : State) (n : Nat) (v : BitVec 32) : (s.enterPending n v).setupErr = s.setupErr := still_setupErr (still_enterPending s _ _)
@[simp] theorem State.enterPending_flt (s : State) (n : Nat) (v : BitVec 32) : (s.enterPending n v).flt = s.flt := still_flt (still_enterPending s _ _)
@[simp] theorem State.enterPending_tal (s : State) (n : Nat) (v : BitVec 32) : (s.enterPending n v).tal = s.tal := still_tal (still_enterPending s _ _)
@[simp] theorem State.enterPending_plc (s : State) (n : Nat) (v : BitVec 32) : (s.enterPending n v).plc = s.plc := still_plc (still_enterPending s _ _)
@[simp] theorem State.enterPending_orb (s : State) (n : Nat) (v : BitVec 32) : (s.enterPending n v).orb = s.orb := still_orb (still_enterPending s _ _)
@[simp] theorem State.enterPending_sce (s : State) (n : Nat) (v : BitVec 32) : (s.enterPending n v).sce = s.sce := still_sce (still_enterPending s _ _)
@[simp] theorem State.enterPending_spn (s : State) (n : Nat) (v : BitVec 32) : (s.enterPending n v).spn = s.spn := still_spn (still_enterPending s _ _)
@[simp] theorem State.enterPending_chn (s : State) (n : Nat) (v : BitVec 32) : (s.enterPending n v).chn = s.chn := still_chn (still_enterPending s _ _)
@[simp] theorem State.enterPending_wrp (s : State) (n : Nat) (v : BitVec 32) : (s.enterPending n v).wrp = s.wrp := still_wrp (still_enterPending s _ _)
@[simp] theorem State.enterPending_seq (s : State) (n : Nat) (v : BitVec 32) : (s.enterPending n v).seq = s.seq := still_seq (still_enterPending s _ _)
@[simp] theorem State.enterPending_dma (s : State) (n : Nat) (v : BitVec 32) : (s.enterPending n v).dma = s.dma := still_dma (still_enterPending s _ _)
@[simp] theorem State.enterPending_hbm (s : State) (n : Nat) (v : BitVec 32) : (s.enterPending n v).hbm = s.hbm := still_hbm (still_enterPending s _ _)
@[simp] theorem State.enterPending_srm (s : State) (n : Nat) (v : BitVec 32) : (s.enterPending n v).srm = s.srm := still_srm (still_enterPending s _ _)
@[simp] theorem State.enterPending_cch (s : State) (n : Nat) (v : BitVec 32) : (s.enterPending n v).cch = s.cch := still_cch (still_enterPending s _ _)
@[simp] theorem State.enterPending_sec (s : State) (n : Nat) (v : BitVec 32) : (s.enterPending n v).sec = s.sec := still_sec (still_enterPending s _ _)
@[simp] theorem State.enterPending_pin (s : State) (n : Nat) (v : BitVec 32) : (s.enterPending n v).pin = s.pin := still_pin (still_enterPending s _ _)
@[simp] theorem State.enterPending_pending (s : State) (n : Nat) (v : BitVec 32) : (s.enterPending n v).pending = s.pending := still_queue (still_enterPending s _ _)
@[simp] theorem State.enterPending_tim_state (s : State) (n : Nat) (v : BitVec 32) : (s.enterPending n v).tim.state = s.tim.state := by
  have k := congrArg Tim.state (still_tim (still_enterPending s n v))
  exact k
@[simp] theorem State.enterPending_tim_tick (s : State) (n : Nat) (v : BitVec 32) : (s.enterPending n v).tim.tick = s.tim.tick := by
  have k := congrArg Tim.tick (still_tim (still_enterPending s n v))
  exact k
@[simp] theorem State.enterPending_tim_corr (s : State) (n : Nat) (v : BitVec 32) : (s.enterPending n v).tim.corr = s.tim.corr := by
  have k := congrArg Tim.corr (still_tim (still_enterPending s n v))
  exact k
@[simp] theorem State.enterPending_tim_trim (s : State) (n : Nat) (v : BitVec 32) : (s.enterPending n v).tim.trim = s.tim.trim := by
  have k := congrArg Tim.trim (still_tim (still_enterPending s n v))
  exact k
@[simp] theorem State.enterPending_tim_lastOff (s : State) (n : Nat) (v : BitVec 32) : (s.enterPending n v).tim.lastOff = s.tim.lastOff := by
  have k := congrArg Tim.lastOff (still_tim (still_enterPending s n v))
  exact k
@[simp] theorem State.enterPending_tim_inLock (s : State) (n : Nat) (v : BitVec 32) : (s.enterPending n v).tim.inLock = s.tim.inLock := by
  have k := congrArg Tim.inLock (still_tim (still_enterPending s n v))
  exact k
@[simp] theorem State.enterPending_tim_outLock (s : State) (n : Nat) (v : BitVec 32) : (s.enterPending n v).tim.outLock = s.tim.outLock := by
  have k := congrArg Tim.outLock (still_tim (still_enterPending s n v))
  exact k
@[simp] theorem State.enterPending_tim_holdSince (s : State) (n : Nat) (v : BitVec 32) : (s.enterPending n v).tim.holdSince = s.tim.holdSince := by
  have k := congrArg Tim.holdSince (still_tim (still_enterPending s n v))
  exact k
@[simp] theorem State.enterPending_tim_slavePort (s : State) (n : Nat) (v : BitVec 32) : (s.enterPending n v).tim.slavePort = s.tim.slavePort := by
  have k := congrArg Tim.slavePort (still_tim (still_enterPending s n v))
  exact k
@[simp] theorem State.enterPending_tim_masters (s : State) (n : Nat) (v : BitVec 32) : (s.enterPending n v).tim.masters = s.tim.masters := by
  have k := congrArg Tim.masters (still_tim (still_enterPending s n v))
  exact k
@[simp] theorem State.enterPending_tim_master (s : State) (n : Nat) (v : BitVec 32) : (s.enterPending n v).tim.master = s.tim.master := by
  have k := congrArg Tim.master (still_tim (still_enterPending s n v))
  exact k
@[simp] theorem State.enterPending_tim_lastSync (s : State) (n : Nat) (v : BitVec 32) : (s.enterPending n v).tim.lastSync = s.tim.lastSync := by
  have k := congrArg Tim.lastSync (still_tim (still_enterPending s n v))
  exact k
@[simp] theorem State.enterPending_tim_pathDelay (s : State) (n : Nat) (v : BitVec 32) : (s.enterPending n v).tim.pathDelay = s.tim.pathDelay := by
  have k := congrArg Tim.pathDelay (still_tim (still_enterPending s n v))
  exact k
@[simp] theorem State.enterPending_tim_delayReq (s : State) (n : Nat) (v : BitVec 32) : (s.enterPending n v).tim.delayReq = s.tim.delayReq := by
  have k := congrArg Tim.delayReq (still_tim (still_enterPending s n v))
  exact k
@[simp] theorem State.enterPending_tim_delaySent (s : State) (n : Nat) (v : BitVec 32) : (s.enterPending n v).tim.delaySent = s.tim.delaySent := by
  have k := congrArg Tim.delaySent (still_tim (still_enterPending s n v))
  exact k
@[simp] theorem State.enterPending_tim_syncStamps (s : State) (n : Nat) (v : BitVec 32) : (s.enterPending n v).tim.syncStamps = s.tim.syncStamps := by
  have k := congrArg Tim.syncStamps (still_tim (still_enterPending s n v))
  exact k
@[simp] theorem State.enterPending_tim_trims (s : State) (n : Nat) (v : BitVec 32) : (s.enterPending n v).tim.trims = s.tim.trims := by
  have k := congrArg Tim.trims (still_tim (still_enterPending s n v))
  exact k
@[simp] theorem State.enterPending_tim_ppsNext (s : State) (n : Nat) (v : BitVec 32) : (s.enterPending n v).tim.ppsNext = s.tim.ppsNext := by
  have k := congrArg Tim.ppsNext (still_tim (still_enterPending s n v))
  exact k
@[simp] theorem State.enterPending_tim_ppsLast (s : State) (n : Nat) (v : BitVec 32) : (s.enterPending n v).tim.ppsLast = s.tim.ppsLast := by
  have k := congrArg Tim.ppsLast (still_tim (still_enterPending s n v))
  exact k
@[simp] theorem State.enterPending_tim_ppsHigh (s : State) (n : Nat) (v : BitVec 32) : (s.enterPending n v).tim.ppsHigh = s.tim.ppsHigh := by
  have k := congrArg Tim.ppsHigh (still_tim (still_enterPending s n v))
  exact k
@[simp] theorem State.enterPending_tim_ppsSec (s : State) (n : Nat) (v : BitVec 32) : (s.enterPending n v).tim.ppsSec = s.tim.ppsSec := by
  have k := congrArg Tim.ppsSec (still_tim (still_enterPending s n v))
  exact k
@[simp] theorem State.enterPending_tim_hbSec (s : State) (n : Nat) (v : BitVec 32) : (s.enterPending n v).tim.hbSec = s.tim.hbSec := by
  have k := congrArg Tim.hbSec (still_tim (still_enterPending s n v))
  exact k
@[simp] theorem State.enterPending_tim_digest (s : State) (n : Nat) (v : BitVec 32) : (s.enterPending n v).tim.digest = s.tim.digest := by
  have k := congrArg Tim.digest (still_tim (still_enterPending s n v))
  exact k
@[simp] theorem State.enterPending_tim_serial (s : State) (n : Nat) (v : BitVec 32) : (s.enterPending n v).tim.serial = s.tim.serial := by
  have k := congrArg Tim.serial (still_tim (still_enterPending s n v))
  exact k
@[simp] theorem State.enterPending_tim_tagPair (s : State) (n : Nat) (v : BitVec 32) : (s.enterPending n v).tim.tagPair = s.tim.tagPair := by
  have k := congrArg Tim.tagPair (still_tim (still_enterPending s n v))
  exact k
@[simp] theorem State.enterPending_tim_gen (s : State) (n : Nat) (v : BitVec 32) : (s.enterPending n v).tim.gen = s.tim.gen := by
  have k := congrArg Tim.gen (still_tim (still_enterPending s n v))
  exact k
@[simp] theorem State.enterPending_tim_busy (s : State) (n : Nat) (v : BitVec 32) : (s.enterPending n v).tim.busy = s.tim.busy := by
  have k := congrArg Tim.busy (still_tim (still_enterPending s n v))
  exact k
@[simp] theorem State.enterPending_eqt_ports (s : State) (n : Nat) (v : BitVec 32) : (s.enterPending n v).eqt.ports = s.eqt.ports := by
  have k := congrArg Eqt.ports (still_eqt (still_enterPending s n v))
  exact k
@[simp] theorem State.enterPending_eqt_lineages (s : State) (n : Nat) (v : BitVec 32) : (s.enterPending n v).eqt.lineages = s.eqt.lineages := by
  have k := congrArg Eqt.lineages (still_eqt (still_enterPending s n v))
  exact k
@[simp] theorem State.enterPending_eqt_nextLineage (s : State) (n : Nat) (v : BitVec 32) : (s.enterPending n v).eqt.nextLineage = s.eqt.nextLineage := by
  have k := congrArg Eqt.nextLineage (still_eqt (still_enterPending s n v))
  exact k
@[simp] theorem State.enterPending_eqt_cmds (s : State) (n : Nat) (v : BitVec 32) : (s.enterPending n v).eqt.cmds = s.eqt.cmds := by
  have k := congrArg Eqt.cmds (still_eqt (still_enterPending s n v))
  exact k
@[simp] theorem State.enterPending_eqt_rrNext (s : State) (n : Nat) (v : BitVec 32) : (s.enterPending n v).eqt.rrNext = s.eqt.rrNext := by
  have k := congrArg Eqt.rrNext (still_eqt (still_enterPending s n v))
  exact k
@[simp] theorem State.enterPending_eqt_dbBad (s : State) (n : Nat) (v : BitVec 32) : (s.enterPending n v).eqt.dbBad = s.eqt.dbBad := by
  have k := congrArg Eqt.dbBad (still_eqt (still_enterPending s n v))
  exact k
@[simp] theorem State.enterPending_eqt_sglBad (s : State) (n : Nat) (v : BitVec 32) : (s.enterPending n v).eqt.sglBad = s.eqt.sglBad := by
  have k := congrArg Eqt.sglBad (still_eqt (still_enterPending s n v))
  exact k
@[simp] theorem State.enterPending_eqt_pushBad (s : State) (n : Nat) (v : BitVec 32) : (s.enterPending n v).eqt.pushBad = s.eqt.pushBad := by
  have k := congrArg Eqt.pushBad (still_eqt (still_enterPending s n v))
  exact k
@[simp] theorem State.enterPending_eqt_mraQueue (s : State) (n : Nat) (v : BitVec 32) : (s.enterPending n v).eqt.mraQueue = s.eqt.mraQueue := by
  have k := congrArg Eqt.mraQueue (still_eqt (still_enterPending s n v))
  exact k
@[simp] theorem State.enterPending_eqt_staged (s : State) (n : Nat) (v : BitVec 32) : (s.enterPending n v).eqt.staged = s.eqt.staged := by
  have k := congrArg Eqt.staged (still_eqt (still_enterPending s n v))
  exact k
@[simp] theorem State.enterPending_eqt_activation (s : State) (n : Nat) (v : BitVec 32) : (s.enterPending n v).eqt.activation = s.eqt.activation := by
  have k := congrArg Eqt.activation (still_eqt (still_enterPending s n v))
  exact k
@[simp] theorem State.enterPending_eqt_acceptCmds (s : State) (n : Nat) (v : BitVec 32) : (s.enterPending n v).eqt.acceptCmds = s.eqt.acceptCmds := by
  have k := congrArg Eqt.acceptCmds (still_eqt (still_enterPending s n v))
  exact k
@[simp] theorem State.enterPending_eqt_firstAccepted (s : State) (n : Nat) (v : BitVec 32) : (s.enterPending n v).eqt.firstAccepted = s.eqt.firstAccepted := by
  have k := congrArg Eqt.firstAccepted (still_eqt (still_enterPending s n v))
  exact k

@[simp] theorem State.evcEdge_now (s : State) (n : Nat) (v : BitVec 32) : (s.evcEdge n v).now = s.now := still_now (still_evcEdge s _ _)
@[simp] theorem State.evcEdge_free (s : State) (n : Nat) (v : BitVec 32) : (s.evcEdge n v).free = s.free := still_free (still_evcEdge s _ _)
@[simp] theorem State.evcEdge_regs (s : State) (n : Nat) (v : BitVec 32) : (s.evcEdge n v).regs = s.regs := still_regs (still_evcEdge s _ _)
@[simp] theorem State.evcEdge_latches (s : State) (n : Nat) (v : BitVec 32) : (s.evcEdge n v).latches = s.latches := still_latches (still_evcEdge s _ _)
@[simp] theorem State.evcEdge_setupErr (s : State) (n : Nat) (v : BitVec 32) : (s.evcEdge n v).setupErr = s.setupErr := still_setupErr (still_evcEdge s _ _)
@[simp] theorem State.evcEdge_flt (s : State) (n : Nat) (v : BitVec 32) : (s.evcEdge n v).flt = s.flt := still_flt (still_evcEdge s _ _)
@[simp] theorem State.evcEdge_tal (s : State) (n : Nat) (v : BitVec 32) : (s.evcEdge n v).tal = s.tal := still_tal (still_evcEdge s _ _)
@[simp] theorem State.evcEdge_plc (s : State) (n : Nat) (v : BitVec 32) : (s.evcEdge n v).plc = s.plc := still_plc (still_evcEdge s _ _)
@[simp] theorem State.evcEdge_orb (s : State) (n : Nat) (v : BitVec 32) : (s.evcEdge n v).orb = s.orb := still_orb (still_evcEdge s _ _)
@[simp] theorem State.evcEdge_sce (s : State) (n : Nat) (v : BitVec 32) : (s.evcEdge n v).sce = s.sce := still_sce (still_evcEdge s _ _)
@[simp] theorem State.evcEdge_spn (s : State) (n : Nat) (v : BitVec 32) : (s.evcEdge n v).spn = s.spn := still_spn (still_evcEdge s _ _)
@[simp] theorem State.evcEdge_chn (s : State) (n : Nat) (v : BitVec 32) : (s.evcEdge n v).chn = s.chn := still_chn (still_evcEdge s _ _)
@[simp] theorem State.evcEdge_wrp (s : State) (n : Nat) (v : BitVec 32) : (s.evcEdge n v).wrp = s.wrp := still_wrp (still_evcEdge s _ _)
@[simp] theorem State.evcEdge_seq (s : State) (n : Nat) (v : BitVec 32) : (s.evcEdge n v).seq = s.seq := still_seq (still_evcEdge s _ _)
@[simp] theorem State.evcEdge_dma (s : State) (n : Nat) (v : BitVec 32) : (s.evcEdge n v).dma = s.dma := still_dma (still_evcEdge s _ _)
@[simp] theorem State.evcEdge_hbm (s : State) (n : Nat) (v : BitVec 32) : (s.evcEdge n v).hbm = s.hbm := still_hbm (still_evcEdge s _ _)
@[simp] theorem State.evcEdge_srm (s : State) (n : Nat) (v : BitVec 32) : (s.evcEdge n v).srm = s.srm := still_srm (still_evcEdge s _ _)
@[simp] theorem State.evcEdge_cch (s : State) (n : Nat) (v : BitVec 32) : (s.evcEdge n v).cch = s.cch := still_cch (still_evcEdge s _ _)
@[simp] theorem State.evcEdge_sec (s : State) (n : Nat) (v : BitVec 32) : (s.evcEdge n v).sec = s.sec := still_sec (still_evcEdge s _ _)
@[simp] theorem State.evcEdge_pin (s : State) (n : Nat) (v : BitVec 32) : (s.evcEdge n v).pin = s.pin := still_pin (still_evcEdge s _ _)
@[simp] theorem State.evcEdge_pending (s : State) (n : Nat) (v : BitVec 32) : (s.evcEdge n v).pending = s.pending := still_queue (still_evcEdge s _ _)
@[simp] theorem State.evcEdge_tim_state (s : State) (n : Nat) (v : BitVec 32) : (s.evcEdge n v).tim.state = s.tim.state := by
  have k := congrArg Tim.state (still_tim (still_evcEdge s n v))
  exact k
@[simp] theorem State.evcEdge_tim_tick (s : State) (n : Nat) (v : BitVec 32) : (s.evcEdge n v).tim.tick = s.tim.tick := by
  have k := congrArg Tim.tick (still_tim (still_evcEdge s n v))
  exact k
@[simp] theorem State.evcEdge_tim_corr (s : State) (n : Nat) (v : BitVec 32) : (s.evcEdge n v).tim.corr = s.tim.corr := by
  have k := congrArg Tim.corr (still_tim (still_evcEdge s n v))
  exact k
@[simp] theorem State.evcEdge_tim_trim (s : State) (n : Nat) (v : BitVec 32) : (s.evcEdge n v).tim.trim = s.tim.trim := by
  have k := congrArg Tim.trim (still_tim (still_evcEdge s n v))
  exact k
@[simp] theorem State.evcEdge_tim_lastOff (s : State) (n : Nat) (v : BitVec 32) : (s.evcEdge n v).tim.lastOff = s.tim.lastOff := by
  have k := congrArg Tim.lastOff (still_tim (still_evcEdge s n v))
  exact k
@[simp] theorem State.evcEdge_tim_inLock (s : State) (n : Nat) (v : BitVec 32) : (s.evcEdge n v).tim.inLock = s.tim.inLock := by
  have k := congrArg Tim.inLock (still_tim (still_evcEdge s n v))
  exact k
@[simp] theorem State.evcEdge_tim_outLock (s : State) (n : Nat) (v : BitVec 32) : (s.evcEdge n v).tim.outLock = s.tim.outLock := by
  have k := congrArg Tim.outLock (still_tim (still_evcEdge s n v))
  exact k
@[simp] theorem State.evcEdge_tim_holdSince (s : State) (n : Nat) (v : BitVec 32) : (s.evcEdge n v).tim.holdSince = s.tim.holdSince := by
  have k := congrArg Tim.holdSince (still_tim (still_evcEdge s n v))
  exact k
@[simp] theorem State.evcEdge_tim_slavePort (s : State) (n : Nat) (v : BitVec 32) : (s.evcEdge n v).tim.slavePort = s.tim.slavePort := by
  have k := congrArg Tim.slavePort (still_tim (still_evcEdge s n v))
  exact k
@[simp] theorem State.evcEdge_tim_masters (s : State) (n : Nat) (v : BitVec 32) : (s.evcEdge n v).tim.masters = s.tim.masters := by
  have k := congrArg Tim.masters (still_tim (still_evcEdge s n v))
  exact k
@[simp] theorem State.evcEdge_tim_master (s : State) (n : Nat) (v : BitVec 32) : (s.evcEdge n v).tim.master = s.tim.master := by
  have k := congrArg Tim.master (still_tim (still_evcEdge s n v))
  exact k
@[simp] theorem State.evcEdge_tim_lastSync (s : State) (n : Nat) (v : BitVec 32) : (s.evcEdge n v).tim.lastSync = s.tim.lastSync := by
  have k := congrArg Tim.lastSync (still_tim (still_evcEdge s n v))
  exact k
@[simp] theorem State.evcEdge_tim_pathDelay (s : State) (n : Nat) (v : BitVec 32) : (s.evcEdge n v).tim.pathDelay = s.tim.pathDelay := by
  have k := congrArg Tim.pathDelay (still_tim (still_evcEdge s n v))
  exact k
@[simp] theorem State.evcEdge_tim_delayReq (s : State) (n : Nat) (v : BitVec 32) : (s.evcEdge n v).tim.delayReq = s.tim.delayReq := by
  have k := congrArg Tim.delayReq (still_tim (still_evcEdge s n v))
  exact k
@[simp] theorem State.evcEdge_tim_delaySent (s : State) (n : Nat) (v : BitVec 32) : (s.evcEdge n v).tim.delaySent = s.tim.delaySent := by
  have k := congrArg Tim.delaySent (still_tim (still_evcEdge s n v))
  exact k
@[simp] theorem State.evcEdge_tim_syncStamps (s : State) (n : Nat) (v : BitVec 32) : (s.evcEdge n v).tim.syncStamps = s.tim.syncStamps := by
  have k := congrArg Tim.syncStamps (still_tim (still_evcEdge s n v))
  exact k
@[simp] theorem State.evcEdge_tim_trims (s : State) (n : Nat) (v : BitVec 32) : (s.evcEdge n v).tim.trims = s.tim.trims := by
  have k := congrArg Tim.trims (still_tim (still_evcEdge s n v))
  exact k
@[simp] theorem State.evcEdge_tim_ppsNext (s : State) (n : Nat) (v : BitVec 32) : (s.evcEdge n v).tim.ppsNext = s.tim.ppsNext := by
  have k := congrArg Tim.ppsNext (still_tim (still_evcEdge s n v))
  exact k
@[simp] theorem State.evcEdge_tim_ppsLast (s : State) (n : Nat) (v : BitVec 32) : (s.evcEdge n v).tim.ppsLast = s.tim.ppsLast := by
  have k := congrArg Tim.ppsLast (still_tim (still_evcEdge s n v))
  exact k
@[simp] theorem State.evcEdge_tim_ppsHigh (s : State) (n : Nat) (v : BitVec 32) : (s.evcEdge n v).tim.ppsHigh = s.tim.ppsHigh := by
  have k := congrArg Tim.ppsHigh (still_tim (still_evcEdge s n v))
  exact k
@[simp] theorem State.evcEdge_tim_ppsSec (s : State) (n : Nat) (v : BitVec 32) : (s.evcEdge n v).tim.ppsSec = s.tim.ppsSec := by
  have k := congrArg Tim.ppsSec (still_tim (still_evcEdge s n v))
  exact k
@[simp] theorem State.evcEdge_tim_hbSec (s : State) (n : Nat) (v : BitVec 32) : (s.evcEdge n v).tim.hbSec = s.tim.hbSec := by
  have k := congrArg Tim.hbSec (still_tim (still_evcEdge s n v))
  exact k
@[simp] theorem State.evcEdge_tim_digest (s : State) (n : Nat) (v : BitVec 32) : (s.evcEdge n v).tim.digest = s.tim.digest := by
  have k := congrArg Tim.digest (still_tim (still_evcEdge s n v))
  exact k
@[simp] theorem State.evcEdge_tim_serial (s : State) (n : Nat) (v : BitVec 32) : (s.evcEdge n v).tim.serial = s.tim.serial := by
  have k := congrArg Tim.serial (still_tim (still_evcEdge s n v))
  exact k
@[simp] theorem State.evcEdge_tim_tagPair (s : State) (n : Nat) (v : BitVec 32) : (s.evcEdge n v).tim.tagPair = s.tim.tagPair := by
  have k := congrArg Tim.tagPair (still_tim (still_evcEdge s n v))
  exact k
@[simp] theorem State.evcEdge_tim_gen (s : State) (n : Nat) (v : BitVec 32) : (s.evcEdge n v).tim.gen = s.tim.gen := by
  have k := congrArg Tim.gen (still_tim (still_evcEdge s n v))
  exact k
@[simp] theorem State.evcEdge_tim_busy (s : State) (n : Nat) (v : BitVec 32) : (s.evcEdge n v).tim.busy = s.tim.busy := by
  have k := congrArg Tim.busy (still_tim (still_evcEdge s n v))
  exact k
@[simp] theorem State.evcEdge_eqt_ports (s : State) (n : Nat) (v : BitVec 32) : (s.evcEdge n v).eqt.ports = s.eqt.ports := by
  have k := congrArg Eqt.ports (still_eqt (still_evcEdge s n v))
  exact k
@[simp] theorem State.evcEdge_eqt_lineages (s : State) (n : Nat) (v : BitVec 32) : (s.evcEdge n v).eqt.lineages = s.eqt.lineages := by
  have k := congrArg Eqt.lineages (still_eqt (still_evcEdge s n v))
  exact k
@[simp] theorem State.evcEdge_eqt_nextLineage (s : State) (n : Nat) (v : BitVec 32) : (s.evcEdge n v).eqt.nextLineage = s.eqt.nextLineage := by
  have k := congrArg Eqt.nextLineage (still_eqt (still_evcEdge s n v))
  exact k
@[simp] theorem State.evcEdge_eqt_cmds (s : State) (n : Nat) (v : BitVec 32) : (s.evcEdge n v).eqt.cmds = s.eqt.cmds := by
  have k := congrArg Eqt.cmds (still_eqt (still_evcEdge s n v))
  exact k
@[simp] theorem State.evcEdge_eqt_rrNext (s : State) (n : Nat) (v : BitVec 32) : (s.evcEdge n v).eqt.rrNext = s.eqt.rrNext := by
  have k := congrArg Eqt.rrNext (still_eqt (still_evcEdge s n v))
  exact k
@[simp] theorem State.evcEdge_eqt_dbBad (s : State) (n : Nat) (v : BitVec 32) : (s.evcEdge n v).eqt.dbBad = s.eqt.dbBad := by
  have k := congrArg Eqt.dbBad (still_eqt (still_evcEdge s n v))
  exact k
@[simp] theorem State.evcEdge_eqt_sglBad (s : State) (n : Nat) (v : BitVec 32) : (s.evcEdge n v).eqt.sglBad = s.eqt.sglBad := by
  have k := congrArg Eqt.sglBad (still_eqt (still_evcEdge s n v))
  exact k
@[simp] theorem State.evcEdge_eqt_pushBad (s : State) (n : Nat) (v : BitVec 32) : (s.evcEdge n v).eqt.pushBad = s.eqt.pushBad := by
  have k := congrArg Eqt.pushBad (still_eqt (still_evcEdge s n v))
  exact k
@[simp] theorem State.evcEdge_eqt_mraQueue (s : State) (n : Nat) (v : BitVec 32) : (s.evcEdge n v).eqt.mraQueue = s.eqt.mraQueue := by
  have k := congrArg Eqt.mraQueue (still_eqt (still_evcEdge s n v))
  exact k
@[simp] theorem State.evcEdge_eqt_staged (s : State) (n : Nat) (v : BitVec 32) : (s.evcEdge n v).eqt.staged = s.eqt.staged := by
  have k := congrArg Eqt.staged (still_eqt (still_evcEdge s n v))
  exact k
@[simp] theorem State.evcEdge_eqt_activation (s : State) (n : Nat) (v : BitVec 32) : (s.evcEdge n v).eqt.activation = s.eqt.activation := by
  have k := congrArg Eqt.activation (still_eqt (still_evcEdge s n v))
  exact k
@[simp] theorem State.evcEdge_eqt_acceptCmds (s : State) (n : Nat) (v : BitVec 32) : (s.evcEdge n v).eqt.acceptCmds = s.eqt.acceptCmds := by
  have k := congrArg Eqt.acceptCmds (still_eqt (still_evcEdge s n v))
  exact k
@[simp] theorem State.evcEdge_eqt_firstAccepted (s : State) (n : Nat) (v : BitVec 32) : (s.evcEdge n v).eqt.firstAccepted = s.eqt.firstAccepted := by
  have k := congrArg Eqt.firstAccepted (still_eqt (still_evcEdge s n v))
  exact k

@[simp] theorem State.evcLevel_now (s : State) (n : Nat) : (s.evcLevel n).now = s.now := still_now (still_evcLevel s _)
@[simp] theorem State.evcLevel_free (s : State) (n : Nat) : (s.evcLevel n).free = s.free := still_free (still_evcLevel s _)
@[simp] theorem State.evcLevel_regs (s : State) (n : Nat) : (s.evcLevel n).regs = s.regs := still_regs (still_evcLevel s _)
@[simp] theorem State.evcLevel_latches (s : State) (n : Nat) : (s.evcLevel n).latches = s.latches := still_latches (still_evcLevel s _)
@[simp] theorem State.evcLevel_setupErr (s : State) (n : Nat) : (s.evcLevel n).setupErr = s.setupErr := still_setupErr (still_evcLevel s _)
@[simp] theorem State.evcLevel_flt (s : State) (n : Nat) : (s.evcLevel n).flt = s.flt := still_flt (still_evcLevel s _)
@[simp] theorem State.evcLevel_tal (s : State) (n : Nat) : (s.evcLevel n).tal = s.tal := still_tal (still_evcLevel s _)
@[simp] theorem State.evcLevel_plc (s : State) (n : Nat) : (s.evcLevel n).plc = s.plc := still_plc (still_evcLevel s _)
@[simp] theorem State.evcLevel_orb (s : State) (n : Nat) : (s.evcLevel n).orb = s.orb := still_orb (still_evcLevel s _)
@[simp] theorem State.evcLevel_sce (s : State) (n : Nat) : (s.evcLevel n).sce = s.sce := still_sce (still_evcLevel s _)
@[simp] theorem State.evcLevel_spn (s : State) (n : Nat) : (s.evcLevel n).spn = s.spn := still_spn (still_evcLevel s _)
@[simp] theorem State.evcLevel_chn (s : State) (n : Nat) : (s.evcLevel n).chn = s.chn := still_chn (still_evcLevel s _)
@[simp] theorem State.evcLevel_wrp (s : State) (n : Nat) : (s.evcLevel n).wrp = s.wrp := still_wrp (still_evcLevel s _)
@[simp] theorem State.evcLevel_seq (s : State) (n : Nat) : (s.evcLevel n).seq = s.seq := still_seq (still_evcLevel s _)
@[simp] theorem State.evcLevel_dma (s : State) (n : Nat) : (s.evcLevel n).dma = s.dma := still_dma (still_evcLevel s _)
@[simp] theorem State.evcLevel_hbm (s : State) (n : Nat) : (s.evcLevel n).hbm = s.hbm := still_hbm (still_evcLevel s _)
@[simp] theorem State.evcLevel_srm (s : State) (n : Nat) : (s.evcLevel n).srm = s.srm := still_srm (still_evcLevel s _)
@[simp] theorem State.evcLevel_cch (s : State) (n : Nat) : (s.evcLevel n).cch = s.cch := still_cch (still_evcLevel s _)
@[simp] theorem State.evcLevel_sec (s : State) (n : Nat) : (s.evcLevel n).sec = s.sec := still_sec (still_evcLevel s _)
@[simp] theorem State.evcLevel_pin (s : State) (n : Nat) : (s.evcLevel n).pin = s.pin := still_pin (still_evcLevel s _)
@[simp] theorem State.evcLevel_pending (s : State) (n : Nat) : (s.evcLevel n).pending = s.pending := still_queue (still_evcLevel s _)
@[simp] theorem State.evcLevel_tim_state (s : State) (n : Nat) : (s.evcLevel n).tim.state = s.tim.state := by
  have k := congrArg Tim.state (still_tim (still_evcLevel s n))
  exact k
@[simp] theorem State.evcLevel_tim_tick (s : State) (n : Nat) : (s.evcLevel n).tim.tick = s.tim.tick := by
  have k := congrArg Tim.tick (still_tim (still_evcLevel s n))
  exact k
@[simp] theorem State.evcLevel_tim_corr (s : State) (n : Nat) : (s.evcLevel n).tim.corr = s.tim.corr := by
  have k := congrArg Tim.corr (still_tim (still_evcLevel s n))
  exact k
@[simp] theorem State.evcLevel_tim_trim (s : State) (n : Nat) : (s.evcLevel n).tim.trim = s.tim.trim := by
  have k := congrArg Tim.trim (still_tim (still_evcLevel s n))
  exact k
@[simp] theorem State.evcLevel_tim_lastOff (s : State) (n : Nat) : (s.evcLevel n).tim.lastOff = s.tim.lastOff := by
  have k := congrArg Tim.lastOff (still_tim (still_evcLevel s n))
  exact k
@[simp] theorem State.evcLevel_tim_inLock (s : State) (n : Nat) : (s.evcLevel n).tim.inLock = s.tim.inLock := by
  have k := congrArg Tim.inLock (still_tim (still_evcLevel s n))
  exact k
@[simp] theorem State.evcLevel_tim_outLock (s : State) (n : Nat) : (s.evcLevel n).tim.outLock = s.tim.outLock := by
  have k := congrArg Tim.outLock (still_tim (still_evcLevel s n))
  exact k
@[simp] theorem State.evcLevel_tim_holdSince (s : State) (n : Nat) : (s.evcLevel n).tim.holdSince = s.tim.holdSince := by
  have k := congrArg Tim.holdSince (still_tim (still_evcLevel s n))
  exact k
@[simp] theorem State.evcLevel_tim_slavePort (s : State) (n : Nat) : (s.evcLevel n).tim.slavePort = s.tim.slavePort := by
  have k := congrArg Tim.slavePort (still_tim (still_evcLevel s n))
  exact k
@[simp] theorem State.evcLevel_tim_masters (s : State) (n : Nat) : (s.evcLevel n).tim.masters = s.tim.masters := by
  have k := congrArg Tim.masters (still_tim (still_evcLevel s n))
  exact k
@[simp] theorem State.evcLevel_tim_master (s : State) (n : Nat) : (s.evcLevel n).tim.master = s.tim.master := by
  have k := congrArg Tim.master (still_tim (still_evcLevel s n))
  exact k
@[simp] theorem State.evcLevel_tim_lastSync (s : State) (n : Nat) : (s.evcLevel n).tim.lastSync = s.tim.lastSync := by
  have k := congrArg Tim.lastSync (still_tim (still_evcLevel s n))
  exact k
@[simp] theorem State.evcLevel_tim_pathDelay (s : State) (n : Nat) : (s.evcLevel n).tim.pathDelay = s.tim.pathDelay := by
  have k := congrArg Tim.pathDelay (still_tim (still_evcLevel s n))
  exact k
@[simp] theorem State.evcLevel_tim_delayReq (s : State) (n : Nat) : (s.evcLevel n).tim.delayReq = s.tim.delayReq := by
  have k := congrArg Tim.delayReq (still_tim (still_evcLevel s n))
  exact k
@[simp] theorem State.evcLevel_tim_delaySent (s : State) (n : Nat) : (s.evcLevel n).tim.delaySent = s.tim.delaySent := by
  have k := congrArg Tim.delaySent (still_tim (still_evcLevel s n))
  exact k
@[simp] theorem State.evcLevel_tim_syncStamps (s : State) (n : Nat) : (s.evcLevel n).tim.syncStamps = s.tim.syncStamps := by
  have k := congrArg Tim.syncStamps (still_tim (still_evcLevel s n))
  exact k
@[simp] theorem State.evcLevel_tim_trims (s : State) (n : Nat) : (s.evcLevel n).tim.trims = s.tim.trims := by
  have k := congrArg Tim.trims (still_tim (still_evcLevel s n))
  exact k
@[simp] theorem State.evcLevel_tim_ppsNext (s : State) (n : Nat) : (s.evcLevel n).tim.ppsNext = s.tim.ppsNext := by
  have k := congrArg Tim.ppsNext (still_tim (still_evcLevel s n))
  exact k
@[simp] theorem State.evcLevel_tim_ppsLast (s : State) (n : Nat) : (s.evcLevel n).tim.ppsLast = s.tim.ppsLast := by
  have k := congrArg Tim.ppsLast (still_tim (still_evcLevel s n))
  exact k
@[simp] theorem State.evcLevel_tim_ppsHigh (s : State) (n : Nat) : (s.evcLevel n).tim.ppsHigh = s.tim.ppsHigh := by
  have k := congrArg Tim.ppsHigh (still_tim (still_evcLevel s n))
  exact k
@[simp] theorem State.evcLevel_tim_ppsSec (s : State) (n : Nat) : (s.evcLevel n).tim.ppsSec = s.tim.ppsSec := by
  have k := congrArg Tim.ppsSec (still_tim (still_evcLevel s n))
  exact k
@[simp] theorem State.evcLevel_tim_hbSec (s : State) (n : Nat) : (s.evcLevel n).tim.hbSec = s.tim.hbSec := by
  have k := congrArg Tim.hbSec (still_tim (still_evcLevel s n))
  exact k
@[simp] theorem State.evcLevel_tim_digest (s : State) (n : Nat) : (s.evcLevel n).tim.digest = s.tim.digest := by
  have k := congrArg Tim.digest (still_tim (still_evcLevel s n))
  exact k
@[simp] theorem State.evcLevel_tim_serial (s : State) (n : Nat) : (s.evcLevel n).tim.serial = s.tim.serial := by
  have k := congrArg Tim.serial (still_tim (still_evcLevel s n))
  exact k
@[simp] theorem State.evcLevel_tim_tagPair (s : State) (n : Nat) : (s.evcLevel n).tim.tagPair = s.tim.tagPair := by
  have k := congrArg Tim.tagPair (still_tim (still_evcLevel s n))
  exact k
@[simp] theorem State.evcLevel_tim_gen (s : State) (n : Nat) : (s.evcLevel n).tim.gen = s.tim.gen := by
  have k := congrArg Tim.gen (still_tim (still_evcLevel s n))
  exact k
@[simp] theorem State.evcLevel_tim_busy (s : State) (n : Nat) : (s.evcLevel n).tim.busy = s.tim.busy := by
  have k := congrArg Tim.busy (still_tim (still_evcLevel s n))
  exact k
@[simp] theorem State.evcLevel_eqt_ports (s : State) (n : Nat) : (s.evcLevel n).eqt.ports = s.eqt.ports := by
  have k := congrArg Eqt.ports (still_eqt (still_evcLevel s n))
  exact k
@[simp] theorem State.evcLevel_eqt_lineages (s : State) (n : Nat) : (s.evcLevel n).eqt.lineages = s.eqt.lineages := by
  have k := congrArg Eqt.lineages (still_eqt (still_evcLevel s n))
  exact k
@[simp] theorem State.evcLevel_eqt_nextLineage (s : State) (n : Nat) : (s.evcLevel n).eqt.nextLineage = s.eqt.nextLineage := by
  have k := congrArg Eqt.nextLineage (still_eqt (still_evcLevel s n))
  exact k
@[simp] theorem State.evcLevel_eqt_cmds (s : State) (n : Nat) : (s.evcLevel n).eqt.cmds = s.eqt.cmds := by
  have k := congrArg Eqt.cmds (still_eqt (still_evcLevel s n))
  exact k
@[simp] theorem State.evcLevel_eqt_rrNext (s : State) (n : Nat) : (s.evcLevel n).eqt.rrNext = s.eqt.rrNext := by
  have k := congrArg Eqt.rrNext (still_eqt (still_evcLevel s n))
  exact k
@[simp] theorem State.evcLevel_eqt_dbBad (s : State) (n : Nat) : (s.evcLevel n).eqt.dbBad = s.eqt.dbBad := by
  have k := congrArg Eqt.dbBad (still_eqt (still_evcLevel s n))
  exact k
@[simp] theorem State.evcLevel_eqt_sglBad (s : State) (n : Nat) : (s.evcLevel n).eqt.sglBad = s.eqt.sglBad := by
  have k := congrArg Eqt.sglBad (still_eqt (still_evcLevel s n))
  exact k
@[simp] theorem State.evcLevel_eqt_pushBad (s : State) (n : Nat) : (s.evcLevel n).eqt.pushBad = s.eqt.pushBad := by
  have k := congrArg Eqt.pushBad (still_eqt (still_evcLevel s n))
  exact k
@[simp] theorem State.evcLevel_eqt_mraQueue (s : State) (n : Nat) : (s.evcLevel n).eqt.mraQueue = s.eqt.mraQueue := by
  have k := congrArg Eqt.mraQueue (still_eqt (still_evcLevel s n))
  exact k
@[simp] theorem State.evcLevel_eqt_staged (s : State) (n : Nat) : (s.evcLevel n).eqt.staged = s.eqt.staged := by
  have k := congrArg Eqt.staged (still_eqt (still_evcLevel s n))
  exact k
@[simp] theorem State.evcLevel_eqt_activation (s : State) (n : Nat) : (s.evcLevel n).eqt.activation = s.eqt.activation := by
  have k := congrArg Eqt.activation (still_eqt (still_evcLevel s n))
  exact k
@[simp] theorem State.evcLevel_eqt_acceptCmds (s : State) (n : Nat) : (s.evcLevel n).eqt.acceptCmds = s.eqt.acceptCmds := by
  have k := congrArg Eqt.acceptCmds (still_eqt (still_evcLevel s n))
  exact k
@[simp] theorem State.evcLevel_eqt_firstAccepted (s : State) (n : Nat) : (s.evcLevel n).eqt.firstAccepted = s.eqt.firstAccepted := by
  have k := congrArg Eqt.firstAccepted (still_eqt (still_evcLevel s n))
  exact k

end Sys2Proof.Machine
end

