-- ==== Sys2Proof/Laws/Memory.lean ====
section
/-! SUPPORT. Every operation on HBM, SRAM and the boot flash keeps the canonical form of the memory. -/

namespace Sys2Proof.Machine

/-- The three addressed memories are in canonical form. -/
def MemoryOk (s : State) : Prop :=
  Memory.wf s.hbmFillByte s.hbm.mem = true ∧ Memory.wf (fun _ => 0) s.srm.mem = true ∧ Memory.wf (fun _ => 0xFF) s.sec.flash = true

theorem memory_wf_iff (fill : Nat → Byte) (m : Assoc Byte) :
    Memory.wf fill m = true ↔ risingFrom none m = true ∧ ∀ e ∈ m, e.2 ≠ fill e.1 := by
  simp [Memory.wf, List.all_eq_true]

/-- A canonical write keeps the form: a value equal to what an unlisted address reads as takes the entry off the list. -/
theorem memory_wf_acanon (fill : Nat → Byte) (m : Assoc Byte) (k : Nat) (v : Byte) (h : Memory.wf fill m = true) :
    Memory.wf fill (acanon m k (fill k) v) = true := by
  rw [memory_wf_iff] at h ⊢
  simp only [acanon]
  split
  · exact ⟨adel_rising m k h.1, fun e he => h.2 e (mem_adel he)⟩
  · rename_i hv
    refine ⟨aput_rising _ k v (adel_rising m k h.1), fun e he => ?_⟩
    rcases mem_aput he with rfl | he
    · exact hv
    · exact h.2 e (mem_adel he)

theorem risingFrom_afilter (m : Assoc Byte) (f : Nat → Byte → Bool) (b : Option Nat) (h : risingFrom b m = true) :
    risingFrom b (afilter m f) = true := by
  induction m generalizing b with
  | nil => exact h
  | cons e m ih =>
    obtain ⟨j, w⟩ := e
    simp only [afilter] at ih ⊢
    rw [List.filter_cons]
    cases b with
    | none =>
      simp only [risingFrom] at h
      split
      · simpa only [risingFrom] using ih (some j) h
      · exact ih none (risingFrom_none m h)
    | some b =>
      simp only [risingFrom, Bool.and_eq_true, decide_eq_true_eq] at h
      split
      · simp only [risingFrom, Bool.and_eq_true, decide_eq_true_eq]
        exact ⟨h.1, ih (some j) h.2⟩
      · exact ih (some b) (risingFrom_weaken m (by omega) h.2)

/-- Taking entries off the list keeps the form. -/
theorem memory_wf_afilter (fill : Nat → Byte) (m : Assoc Byte) (f : Nat → Byte → Bool) (h : Memory.wf fill m = true) :
    Memory.wf fill (afilter m f) = true := by
  rw [memory_wf_iff] at h ⊢
  exact ⟨risingFrom_afilter m f none h.1, fun e he => h.2 e ((List.mem_filter.1 he).1)⟩

theorem memoryOk_reset : MemoryOk State.reset := ⟨rfl, rfl, rfl⟩

theorem memoryOk_hbmPut (s : State) (a : Nat) (b : Byte) (h : MemoryOk s) : MemoryOk (s.hbmPut a b) := by
  cases hk : diagKeyAt a with
  | none =>
    simp only [State.hbmPut, hk]
    exact ⟨memory_wf_acanon s.hbmFillByte s.hbm.mem a b h.1, h.2⟩
  | some k =>
    simp only [State.hbmPut, hk]
    exact h

theorem memoryOk_foldl {β : Type} (f : State → β → State) (hf : ∀ s b, MemoryOk s → MemoryOk (f s b)) (l : List β) (s : State)
    (h : MemoryOk s) : MemoryOk (l.foldl f s) := by
  induction l generalizing s with
  | nil => exact h
  | cons b l ih => exact ih _ (hf s b h)

theorem memoryOk_writeBack (s : State) (l : Nat) (v : BitVec 1024) (h : MemoryOk s) : MemoryOk (s.writeBack l v) :=
  memoryOk_foldl _ (fun s _ hs => memoryOk_hbmPut s _ _ hs) _ s h

theorem memoryOk_writeBacks {β : Type} (g : β → Bool) (l : β → Nat) (v : β → BitVec 1024) (es : List β) (s : State) (h : MemoryOk s) :
    MemoryOk (es.foldl (fun s e => if g e then s.writeBack (l e) (v e) else s) s) :=
  memoryOk_foldl (fun s e => if g e then s.writeBack (l e) (v e) else s) (fun s e hs => by
    split
    · exact memoryOk_writeBack s _ _ hs
    · exact hs) es s h

theorem memoryOk_cch (s : State) (x : Cch) (h : MemoryOk s) : MemoryOk { s with cch := x } := h

theorem memoryOk_cacheFlush (s : State) (h : MemoryOk s) : MemoryOk s.cacheFlush := by
  simp only [State.cacheFlush]
  apply memoryOk_cch
  refine memoryOk_foldl (fun (s : State) (e : Nat × BitVec 1024) => s.writeBack e.1 e.2)
    (fun s e hs => memoryOk_writeBack s e.1 e.2 hs) _ _ ?_
  exact memoryOk_writeBacks (fun e : Nat × Line => e.2.dirty) (fun e => e.1) (fun e => e.2.bytes) _ s h

theorem memoryOk_flushWays (s : State) (ways : Nat) (h : MemoryOk s) : MemoryOk (s.flushWays ways) := by
  simp only [State.flushWays]
  apply memoryOk_cch
  exact memoryOk_writeBacks (fun e : Nat × Line => e.2.dirty && ways.testBit e.2.way) (fun e => e.1) (fun e => e.2.bytes) _ s h

theorem memoryOk_hbmWrite (s : State) (a : Nat) (b : Byte) (h : MemoryOk s) : MemoryOk (s.hbmWrite a b) := by
  simp only [State.hbmWrite]
  split
  · split
    · exact memoryOk_hbmPut _ a b h
    · exact h
  · split
    · exact h
    · exact memoryOk_hbmPut _ a b h

theorem memoryOk_sramPut (s : State) (o : Nat) (b : Byte) (h : MemoryOk s) : MemoryOk (s.sramPut o b) := by
  simp only [State.sramPut]
  split
  · exact ⟨h.1, memory_wf_acanon (fun _ => 0) s.srm.mem o b h.2.1, h.2.2⟩
  all_goals exact h

theorem memoryOk_dmaPut (s : State) (a : Nat) (b : Byte) (h : MemoryOk s) : MemoryOk (s.dmaPut a b) := by
  simp only [State.dmaPut]
  split
  · exact memoryOk_hbmWrite s a b h
  · exact memoryOk_sramPut s _ b h

theorem memoryOk_dmaPutAll (s : State) (a : Nat) (bs : List Byte) (h : MemoryOk s) : MemoryOk (s.dmaPutAll a bs) := by
  induction bs generalizing s a with
  | nil => exact h
  | cons b bs ih => exact ih _ _ (memoryOk_dmaPut s _ b h)

theorem memoryOk_flashProgram (s : State) (a : Nat) (bs : List Byte) (h : MemoryOk s) : MemoryOk (s.flashProgram a bs) := by
  induction bs generalizing s a with
  | nil => exact h
  | cons b bs ih =>
    exact ih _ _ ⟨h.1, h.2.1, memory_wf_acanon (fun _ => 0xFF) s.sec.flash a (s.flashByte a &&& b) h.2.2⟩

theorem memoryOk_flashErase (s : State) (a len : Nat) (h : MemoryOk s) : MemoryOk (s.flashErase a len) :=
  ⟨h.1, h.2.1, memory_wf_afilter _ _ (fun k _ => !(decide (a ≤ k) && decide (k < a + len))) h.2.2⟩

/-- Bit j of byte k. -/
theorem byteOf_bit {w : Nat} (v : BitVec w) (k j : Nat) : (byteOf v k).getLsbD j = (decide (j < 8) && v.getLsbD (8 * k + j)) := by
  simp only [byteOf, BitVec.getLsbD_ofNat, Nat.testBit_div_two_pow]
  rw [Nat.add_comm]
  rfl

/-- Bit n of a bit vector with byte k replaced. -/
theorem withByte_bit {w : Nat} (v : BitVec w) (k n : Nat) (b : Byte) (hn : n < w) :
    (withByte v k b).getLsbD n = if 8 * k ≤ n ∧ n < 8 * k + 8 then b.getLsbD (n - 8 * k) else v.getLsbD n := by
  have h255 : ∀ m, Nat.testBit 255 m = decide (m < 8) := fun m => Nat.testBit_two_pow_sub_one 8 m
  have hb : b.toNat.testBit (n - 8 * k) = b.getLsbD (n - 8 * k) := rfl
  simp only [withByte, BitVec.getLsbD_or, BitVec.getLsbD_and, BitVec.getLsbD_not, BitVec.getLsbD_ofNat, Nat.testBit_mul_two_pow, h255,
    hb, hn, decide_true, Bool.true_and]
  split
  · rename_i h
    have h1 : n - 8 * k < 8 := by omega
    simp [h.1, h1]
  · rename_i h
    by_cases h1 : 8 * k ≤ n
    · have h2 : ¬ n - 8 * k < 8 := by omega
      simp [h2, BitVec.getLsbD_of_ge b (n - 8 * k) (by omega)]
    · simp [h1]

/-- A byte replaced reads as the new one; every other byte of the vector reads as before. -/
theorem byteOf_withByte {w : Nat} (v : BitVec w) (k j : Nat) (b : Byte) (hj : 8 * j + 8 ≤ w) :
    byteOf (withByte v k b) j = if j = k then b else byteOf v j := by
  apply BitVec.eq_of_getLsbD_eq
  intro i hi
  rw [byteOf_bit, withByte_bit v k (8 * j + i) b (by omega)]
  by_cases h : j = k
  · subst h
    simp only [hi, decide_true, Bool.true_and, if_true]
    rw [if_pos (by omega)]
    congr 1
    omega
  · rw [if_neg h, if_neg (by omega), byteOf_bit]

/-- A half with the check bytes of its data reads as its data. -/
theorem halfData_fresh (d : BitVec 256) : halfData (DiagHalf.mk d (Config.hbmCheck d)) = d := by simp [halfData]

/-- A byte of HBM, once written, reads as written; every other byte reads as before. -/
theorem hbmRaw_hbmPut (s : State) (a c : Nat) (b : Byte) : (s.hbmPut a b).hbmRaw c = if c = a then b else s.hbmRaw c := by
  cases ha : diagKeyAt a with
  | none =>
    have hf : (s.hbmPut a b).hbmFillByte c = s.hbmFillByte c := by simp only [State.hbmPut, ha]; rfl
    have hd : ∀ k, (s.hbmPut a b).diagHalf k = s.diagHalf k := fun k => by simp only [State.hbmPut, ha]; rfl
    have hm : (s.hbmPut a b).hbm.mem = acanon s.hbm.mem a (s.hbmFillByte a) b := by simp only [State.hbmPut, ha]
    simp only [State.hbmRaw, hf, hd, hm]
    by_cases h : c = a
    · subst h
      rw [if_pos rfl, ha]
      exact agetD_acanon_same _ _ _ _
    · rw [if_neg h]
      cases diagKeyAt c with
      | some k => rfl
      | none => exact agetD_acanon_other _ _ _ _ h
  | some k =>
    have hf : (s.hbmPut a b).hbmFillByte c = s.hbmFillByte c := by simp only [State.hbmPut, ha]; rfl
    have hm : (s.hbmPut a b).hbm.mem = s.hbm.mem := by simp only [State.hbmPut, ha]
    have hd : (s.hbmPut a b).diagHalf k =
        DiagHalf.mk (withByte (halfData (s.diagHalf k)) (a % 32) b) (Config.hbmCheck (withByte (halfData (s.diagHalf k)) (a % 32) b)) := by
      simp only [State.diagHalf, State.hbmPut, ha]
      exact agetD_aput_same _ _ _ _
    have ho : ∀ j, j ≠ k → (s.hbmPut a b).diagHalf j = s.diagHalf j := fun j hj => by
      simp only [State.diagHalf, State.hbmPut, ha]
      exact agetD_aput_other _ _ _ hj
    simp only [State.hbmRaw, hf, hm]
    cases hc : diagKeyAt c with
    | none =>
      rw [if_neg]
      intro h
      rw [h, ha] at hc
      cases hc
    | some j =>
      have hka : a = 0x17FFC00000 + 32 * k + a % 32 := by
        simp only [diagKeyAt] at ha
        split at ha
        · cases ha; omega
        · cases ha
      have hjc : c = 0x17FFC00000 + 32 * j + c % 32 := by
        simp only [diagKeyAt] at hc
        split at hc
        · cases hc; omega
        · cases hc
      by_cases hj : j = k
      · subst hj
        simp only [hd, halfData_fresh]
        rw [byteOf_withByte _ _ _ _ (by omega)]
        by_cases h : c % 32 = a % 32
        · rw [if_pos h, if_pos (by omega)]
        · rw [if_neg h, if_neg (by omega)]
      · simp only [ho j hj]
        rw [if_neg (by omega)]

end Sys2Proof.Machine
end

