-- ==== Sys2Proof/Tests/Slice0.lean ====
section
/-! SUPPORT. The row's own tests: the manual's own examples, an ill-formed command for each check of WellFormed, and for every statement with
hypotheses states and operands that meet them. -/

namespace Sys2Proof.Machine

set_option Elab.async false

/-- A booted device in Run with its pins as a running board drives them, and nothing else. -/
def live : State :=
  { State.reset with
    pwr := { pwrReset with pwrgood := true, railEn := true }, sec := { secReset with booted := true } }

/-- The same device once its level event sources and its quiet clock have been judged. -/
def witNoted : State := live.noteLevels.noteQuiet

def witMaster : Master :=
  { priority1 := 1, clockClass := 6, accuracy := 0, variance := 0, priority2 := 0, identity := 5, steps := 0, port := 0, logSync := -4,
    logDelayReq := 0 }

def witTrigger : TailTrigger := { trigger := 3, list := 1, fault := 0xFFFF, pair := zeroPair, faultRec := 0 }

def witStamped : Stamped :=
  { rep := { source := 64, kind := 3, addr := 5, severity := 2 }, pair := zeroPair, react := noReactions }

def witRecord : FaultRecord :=
  { rep := witStamped.rep, react := noReactions, coalesced := 0, pair := zeroPair, lost := 0, number := 1, poisoned := false }

def witCoalesce : State :=
  { live with flt := { fltReset with buffer := [witStamped], slots := [(1, witRecord)], next := 2 }, hbm := { hbmReset with inUse := 15 } }

def witLand : LandBlock :=
  { key := blockKey 1 5, val := zeroBlock 5, pair := zeroPair, stackA := 0, stackB := 1, missing := false, row := none, dead := false,
    avoid := none }

def witSave : Save :=
  { pair := zeroPair, gen := 1, blocks := [witLand], deltas := [], area := 0, streams := [], rings := [], steps := [], shares := [],
    posted := [], spots := [], ended := false, outcome := 0 }

def witServo : ServoRec :=
  { head := 0, track := 5, wedge := 1, pes := 0, qual := 0, sam := true, gray := true, parity := true, oneReader := false, samTime := 0,
    at_ := 0 }

def witTraj : Trajectory := { start := 0, target := 5, begun := 3, phases := [], tPlan := 9000 }

/-- Actuator 1 follows track 5 with stream 4. -/
def witFollowing : State :=
  let s := { live with sec := { live.sec with pers := { noPers with
    heads := List.replicate 72 { pitch := 16384, weight := 1, hmaGain := 1, hmaLimit := 1 } } } }
  ((s.setRv (.sceTgt 4) 0x80000005).modStream 4 fun x => { x with readers := 1 }).modAct 1 fun x => { x with state := .following }

/-- Sequencer q stands at address 0, where the control store holds a word. -/
def witSeq (q : Nat) (w : BitVec 128) (f : Seq → Seq) : State :=
  State.modSeq { live with seq := { seqReset with words := [(0, w)] } } q f

def witTrap : TrapRec :=
  { pc := 9, zero := true, neg := false, carry := true, inWait := true, timeout := false, late := false, depth := 1, links := [3, 0, 0, 0], cause := 1024,
    pair := zeroPair, vars := List.replicate 16 4 }


def witSweep : Sweep :=
  { busy := true, head := 0, code := 0, result := 0, tdCode := 0, stepAt := 0, readings := [], baseline := none, overAt := none }

def witSurf : State := { live with sec := { live.sec with pers := { noPers with surfaces := 18 } } }

def witWedge : WedgeObs :=
  { sam := true, track := 70, wedge := 5, gray := true, parity := false, qual := 9, samTime := 0, bursts := [(4, 2, 3, 3)], expected := 5,
    interval := 1000 }

def witReading : Reading :=
  { slot := 3, surface := 1, track := 2, sector := 3, kind := 1, flags := 0, tag := 0, missed := 0,
    endAt := none, snr := 0, nac := false, one := false }

/-- Ladder of the sector of witReading, outside every row. -/
def witLad : Ladder :=
  { surface := 1, track := 2, sector := 3, head := 19, stream := 4, code := 0, pair := zeroPair, cfg := 0x331, step := 0, reads := 0,
    slot := some 2, rereadDue := false, rebuild := false, issued := [], gathered := [], refused := [], row := none, deep := true }

def witLadder : State :=
  { live with chn := { live.chn with
      ladders := [(3, witLad)], nextLadder := 4, deepBusy := [{ ladder := 3, member := none, first := true, begun := 0 }] } }

def witMember (pos track : Nat) (parity : Bool) : Member :=
  { pos := pos, surface := pos + 1, band := pos, act := 1, track := track, sector := 3, parity := parity, written := 1, onMedia := true,
    failed := [] }

/-- A stripe row of two members of one sector; block 5 of namespace 1 is its data sector. -/
def witRow : State :=
  { live with plc := { live.plc with
      rows := [(0, {
                     set := 0, r := 0, w := 2, wide := 2, p := 1, c := 1, pair := zeroPair, members := [witMember 0 2 false, witMember 1 2 true],
                     vals := [(0, { key := blockKey 1 5, pair := zeroPair, val := zeroBlock 5 })], copies := false, jrn := none,
                     recs := [], recorded := [], verifying := 0, complete := true })],
      blocks := [(blockKey 1 5, { val := zeroBlock 5, pair := zeroPair, place := .media 0 0 0 })] } }

def emptyRow : Row :=
  { set := 0, r := 0, w := 0, wide := 0, p := 0, c := 0, pair := zeroPair, members := [], vals := [], copies := false, jrn := none, recs := [],
    recorded := [], verifying := 0, complete := false }

/-- A codeword of code option 0 for data of zeros and the metadata of member 1 of row 0. -/
def witWord : BitVec 41216 :=
  BitVec.ofNat 41216 (2 ^ 33280 *
    0xdb9a68d255c67d2420100226376cbb1f25432f0087f64a67365f89cbf7cd0003db9a68d255c67d2420100226376cbb1f25432f0087f64a6736de894bf6cd00032c2ef9767e4a874c20100226376cbb1f25432f0087f64a6736de894bf6cd0004db9a68d255c67d046030019ded24690ae33f1901881adea95a619adc19570003db9a68d255c67d046030019ded24690ae33f190187f5b78a12368328c9570003db9a68d255c67d24201001dded24690ae33f190187f5b78a12368328c9570003db9a68d255c67d24201001dded24690ae33f190187f44a67365f89cbf7cd0003b734d1a4ab8cfa48402003bbda48d215c67c36010fec94ce6cbf1397ef9a0007fef6923485719f4d0000000000000000000000000000000000000000000000000000000000000000000000000000000000000000000000000000000102010002)

def witMetaBytes : List Byte := [2, 0, 1, 2, 1] ++ List.replicate 51 0 ++ [77, 159, 113, 133, 52, 146, 246, 254]

theorem witWord_meta : payloadMeta (wordPayload witWord) = witMetaBytes := by decide +kernel
theorem witWord_checks : checksHold 0 witWord = true := by decide +kernel
theorem witCrc_1 : (witMetaBytes.take 14).foldl crc64Byte 0 = 14579429083074028430 := by decide +kernel
theorem witCrc_2 : ((witMetaBytes.drop 14).take 14).foldl crc64Byte 14579429083074028430 = 4807128078264631343 := by decide +kernel
theorem witCrc_3 : ((witMetaBytes.drop 28).take 14).foldl crc64Byte 4807128078264631343 = 5792550182866782343 := by decide +kernel
theorem witCrc_4 : ((witMetaBytes.drop 42).take 14).foldl crc64Byte 5792550182866782343 = 18372032484179287885 := by decide +kernel
theorem witMeta_parts : witMetaBytes.take 56 = witMetaBytes.take 14 ++ ((witMetaBytes.drop 14).take 14 ++
    ((witMetaBytes.drop 28).take 14 ++ (witMetaBytes.drop 42).take 14)) := by decide

theorem witMeta_good : metaGood witMetaBytes = true := by
  unfold metaGood crc64
  rw [witMeta_parts, List.foldl_append, List.foldl_append, List.foldl_append, witCrc_1, witCrc_2, witCrc_3, witCrc_4]
  decide

/-- The codeword converges. -/
theorem witWord_good : wordOutcome 0 witWord = 0 := by
  unfold wordOutcome
  rw [witWord_checks, witWord_meta, witMeta_good]
  rfl

/-- A sector whose decode leaves that codeword converges. -/
theorem witStop (s : State) (r : Reading) (o : DecodeObs) (hr : r.missed = 0) (hc : s.codeOf r.surface r.track = 0)
    (ho : o.word = witWord) : s.stopHow r o = 0 := by
  unfold State.stopHow
  rw [if_neg (by rw [hr]; decide), hc, ho]
  exact witWord_good

/-- A word of which checks fail. -/
theorem witBad_outcome : wordOutcome 0 1 = 1 := by decide +kernel

/-- The payload of that codeword. -/
def witPayload : BitVec 33792 := wordPayload witWord

theorem witPayload_good : gatheredGood 0 (witRow.plc.rows.headD (0, emptyRow)).2 [(1, witPayload)] = true := by
  unfold gatheredGood
  rw [List.all_cons, List.all_nil, Bool.and_true]
  show (metaGood (payloadMeta witPayload) && _ && _) = true
  unfold witPayload
  rw [witWord_meta, witMeta_good]
  decide

/-- A ladder of the data sector of witRow that has read the other member. -/
def witLadRow : Ladder := { witLad with rebuild := true, row := some (0, 0, 0), issued := [1], gathered := [(1, witPayload)] }

def witRebuild (l : Ladder) : State := { witRow with chn := { live.chn with ladders := [(3, l)] } }

theorem witRebuild_good : (witRebuild witLadRow).rebuildGood witLadRow = true := by
  show (gatheredGood 0 (witRow.plc.rows.headD (0, emptyRow)).2 [(1, witPayload)] &&
    (rebuildFrom (witRow.plc.rows.headD (0, emptyRow)).2 0 [(1, witPayload)]).isSome) = true
  rw [witPayload_good]
  rfl

/-- The row of witRow with its members, records and verifies done, and its landing buffer still there. -/
def witDone : State :=
  { witRow with plc := { witRow.plc with
      rows := [(0, { (witRow.plc.rows.headD (0, emptyRow)).2 with complete := false, jrn := some 5, recorded := [0] })],
      landing := [{ witLand with row := some 0 }] } }

def witSet : BandSet :=
  { surfaces := [0], bands := [5], w := 1, p := 0, c := 16, rows := 1, isOpen := false, reclaiming := false, earlier := false }

def witJrn : JRec :=
  { pair := zeroPair, size := 64, effect := .zoneFinish 1 0, stackA := 0, stackB := 1, missing := false, onMedia := false, spots := [],
    owner := none }

/-- A posted write of two runs with some sectors verified. -/
def witSys (verified : Nat) : SysWork :=
  { kind := .journal, index := 4, pair := zeroPair, count := 1, pages := [],
    spots := [0, 1].map fun u => { surface := u, track := 0, sector := 0, act := u, written := 1, verified := verified, failed := false } }

def witVer : VerifyItem :=
  { surface := 1, track := 2, sector := 3, count := 1, row := some (0, 0), sys := none, ecl := [], cfg := 0x2181, deadline := 9000,
    read := false, bad := [] }

def witVerify : State := { witRow with wrp := { witRow.wrp with verifies := [(3, { witVer with read := true })] } }

def witPiece : Piece :=
  { kind := .ladder, owner := 3, items := [0], act := 1, surfaces := [1], track := 2, sector := 3, cls := 0, count := 0, ages := [], dueAt := none,
    pair := zeroPair, head := none }

/-- Actuator 1 follows and one re-read waits for it. -/
def witTurn : State :=
  let s := { witLadder with
    plc := { live.plc with rebuilt := true },
    orb := { pieces := [(0, witPiece)], nextPiece := 1, turns := [] } }
  s.modAct 1 fun x => { x with state := .following }

/-- An entry: opcode, namespace, block count and first block. -/
def witEntry (o nsid nblk lba : Nat) : BitVec 512 := BitVec.ofNat 512 (o + 2 ^ 16 * nsid + 2 ^ 32 * nblk + 2 ^ 128 * lba)

/-- A command of session 0 on one block of namespace 1. -/
def witCmd (o : Nat) (f : Cmd → Cmd) : Cmd := f (newCmd 0 0 0 (witEntry o 1 1 5) zeroPair)

/-- That command alone in flight, with tag 7. -/
def witCmdState (o : Nat) (q : List Nat) (f : Cmd → Cmd) : State :=
  { live with eqt := { eqtReset with cmds := [(7, witCmd o f)] }, plc := { plcReset with resvQueue := q } }

/-- Every stack in use and room under D_max. -/
def State.withRoom (s : State) : State :=
  { s with hbm := { hbmReset with inUse := 15 }, pwr := { s.pwr with dmax := 2 ^ 30 } }

/-- Session 4 alone, ACTIVE on port 0, with every level source raised. -/
def witSession (f : Session → Session) : State :=
  State.setSess { live with evc := levelSources.map fun n => (n, { idleSource with state := .pending }) } 4 (f { freeSession with state := .active, sqLog := 4, cq := { emptyCompRing with log2 := 4 } })

/-- That session with the link of its port. -/
def witHost : State := State.modPort (witSession id) 0 fun x => { x with link := true, speed := 1 }

def witPkt : WritePkt :=
  { port := 0, qp := 4, psn := 0, pkey := 0, icrcOk := true, ce := false, op := .only, addr := Config.dbAddr 4, rkey := Config.dbRkey 4,
    dmaLen := 8, payload := [3, 0, 0, 0, 0, 0, 0, 0] }

def witReq (k : ReqKind) : DevReq := { psn := 0, npsn := 1, kind := k, tries := 0, rnrTries := 0, deadline := 90 }

def witGrant : Grant :=
  { tag := 7, entry := { cmdId := 0, dataOfs := 0, len := 4096, winOfs := 0, grantNo := 0, regrant := false, last := true }, written := [],
    tmo := 9, notified := false, deadline := 9 }

/-- A path from the link-local GID of port 0. -/
def witOwn : PathReq :=
  { localGid := linkLocal (macOf 0), remoteGid := 0xFE800000000000000000000000000000, flow := 0, tclass := 0, hop := 0 }

def witReqMsg : ReqMsg :=
  { serviceId := 0x4551, rc := true,
    primary := witOwn, alternate := none,
    pkey := 0xFFFF, psn := 0, retry := 7, rnrRetry := 7, ackExp := 14, respRes := 4, pmtu := 4096,
    priv := BitVec.ofNat 736 (2 + 2 ^ 32 * 4 + 2 ^ 40 * 4 + 2 ^ 352 * 1 + 2 ^ 368 * 1) }

/-- A device that admits, without a session. -/
def witOpen : State :=
  let s := State.setRv witHost (.ethPkey 0) 0x8000FFFF
  { s with eqt := { s.eqt with acceptCmds := true, sessions := [] } }

/-- The link-local GID of port 0 heads the GIDs of the port. -/
theorem gids_own (s : State) : ∃ tl, s.gids 0 = (0, linkLocal (macOf 0)) :: tl := by
  unfold State.gids
  simp only
  exact ⟨_, by rw [List.append_assoc, List.singleton_append]⟩

theorem gidAt_head (s : State) (g : BitVec 128) (tl : List (Nat × BitVec 128)) (h : s.gids 0 = (0, g) :: tl) :
    s.gidAt g = some (0, 0) := by simp [State.gidAt, h]

/-- The path that a request makes on port 0. -/
def witPath (r : PathReq) : Path :=
  { port := 0, gidIndex := 0, localGid := r.localGid, remoteGid := r.remoteGid, flow := r.flow, tclass := r.tclass, hop := r.hop }

theorem pathOf_own (s : State) (r : PathReq) (h : r.localGid = linkLocal (macOf 0)) : s.pathOf r = s.pathAt r (0, 0) := by
  obtain ⟨tl, hg⟩ := gids_own s
  unfold State.pathOf
  rw [h, gidAt_head s _ tl hg, Option.bind_some]

theorem pathAt_some (s : State) (r : PathReq) (h : s.nextHop 0 0 r.remoteGid = true) : s.pathAt r (0, 0) = some (witPath r) := by
  unfold State.pathAt
  exact if_pos h

theorem pathAt_none (s : State) (r : PathReq) (h : s.nextHop 0 0 r.remoteGid ≠ true) : s.pathAt r (0, 0) = none := by
  unfold State.pathAt
  exact if_neg h

theorem nextHop_linkLocal (s : State) : s.nextHop 0 0 0xFE800000000000000000000000000000 = true := by
  simp [State.nextHop, samePrefix]

theorem pathOf_witOwn (s : State) : s.pathOf witOwn = some (witPath witOwn) :=
  (pathOf_own s witOwn (by unfold witOwn; rfl)).trans (pathAt_some s witOwn (nextHop_linkLocal s))

theorem reqPaths_witReqMsg (s : State) : s.reqPaths witReqMsg = some (witPath witOwn, none) := by
  have h : s.pathOf witReqMsg.primary = some (witPath witOwn) := pathOf_witOwn s
  unfold State.reqPaths
  rw [h]
  exact if_neg (by decide +kernel)

def witLin : Lineage :=
  { token := 0, group := 0, bound := some 4, holdUntil := 9, held := [], memory := [], oldPending := 0 }

/-- A push WRITE of one block whose reservation is granted. -/
def witPushCmd : Cmd :=
  { newCmd 4 0 0 (witEntry 0x102 1 1 5) zeroPair with
    phase := .waiting, walked := true, resv := some { blocks := 1, granted := true, stackA := 0, stackB := 1 } }

def witPush : State :=
  let s := witSession fun x => { x with lwSize := 2 ^ 20 }
  { s with eqt := { s.eqt with cmds := [(7, witPushCmd)] } }


/-- A device that accepts commands, with namespace 1 of a kind and room for data, and command 7 of an opcode in work. -/
def witAcc (kind : NsKind) (o : Nat) (f : Cmd → Cmd) : State :=
  let s := State.withRoom { live with
    tim := { live.tim with state := .locked },
    eqt := { eqtReset with acceptCmds := true, cmds := [(7, f { witCmd o id with phase := .waiting, walked := true })] },
    plc := { plcReset with spaces := [(1, { kind := kind, capacity := 131072, key := 0, zones := [] })],
                           userCap := 1000000 } }
  { s with evc := levelSources.map fun n => (n, { idleSource with state := .pending }) }

/-- That command. -/
def witWork (o : Nat) (f : Cmd → Cmd) : Cmd := f { witCmd o id with phase := .waiting, walked := true }

/-- Command 7 as it arrives with an entry. -/
def witHanded (e : BitVec 512) : State :=
  let s := witAcc .placed 1 id
  { s with eqt := { s.eqt with cmds := [(7, newCmd 0 0 0 e zeroPair)] } }

/-- A zone action on the zone of block 0 of namespace 1. -/
def witZone (action : Nat) (f : Cmd → Cmd) : Cmd :=
  f { newCmd 0 0 0 (BitVec.ofNat 512 (8 + 2 ^ 16 + 2 ^ 32 * action)) zeroPair with phase := .waiting, walked := true }

/-- That command in flight with its zone. -/
def witZoned (action : Nat) (z : ZoneRec) (f : Cmd → Cmd) : State :=
  let s := witAcc .zoned 1 id
  { s with
    eqt := { s.eqt with cmds := [(7, witZone action f)] },
    plc := { s.plc with
      spaces := [(1, { kind := .zoned, capacity := 131072, key := 0, zones := [(0, z)] })] } }

/-- A command in work with the entry given. -/
def witEntryWork (e : BitVec 512) (f : Cmd → Cmd) : Cmd := f { newCmd 0 0 0 e zeroPair with phase := .waiting, walked := true }

/-- That command in flight on a device with namespace 1. -/
def witAny (kind : NsKind) (c : Cmd) : State :=
  let s := witAcc kind 1 id
  { s with eqt := { s.eqt with cmds := [(7, c)] } }

def witBound : Bound := { nsid := 1, lba := 5, val := zeroBlock 5, spot := none, onMedia := false, got := true, lost := false }

/-- An entry whose DPTR is one DATA segment of 4,096 bytes. -/
def witDataEntry (o : Nat) : BitVec 512 := BitVec.ofNat 512 ((witEntry o 1 1 5).toNat + 2 ^ 320 * 4096)

def witResv : Resv := { blocks := 1, granted := true, stackA := 0, stackB := 1 }

/-- Two commands not yet handed on, the later one with tag 7. -/
def witTwoHanded : State :=
  let s := witAcc .placed 1 id
  { s with eqt := { s.eqt with cmds := [(3, newCmd 0 0 0 (witEntry 1 1 1 5) zeroPair),
                                        (7, newCmd 0 0 0 (witEntry 1 1 1 5) { zeroPair with time := 9 })] } }

/-- Command 7 arrives with the CMD_ID of command 3, which is in work. -/
def witIdInUse : State :=
  let s := witAcc .placed 1 id
  { s with eqt := { s.eqt with cmds := [(3, witWork 1 id), (7, newCmd 0 0 0 (witEntry 1 1 1 5) zeroPair)] } }

def witCompletion : Completion :=
  { cmdId := 0, result := 5, sqHead := 0, pair := zeroPair, status := 1, replay := false, held := false }

def witCompRecord : CompRecord := { opcode := 2, comp := witCompletion, stackA := 0, stackB := 1 }

/-- The lineage of command 7 holds a record of its CMD_ID. -/
def witRecorded : State :=
  let s := witHanded (witEntry 2 1 1 5)
  { s with eqt := { s.eqt with lineages := [(0, { witLin with memory := [witCompRecord] })] } }

/-- A PI 0b01 entry whose protection segment is no DATA segment. -/
def witPiEntry (o : Nat) : BitVec 512 := BitVec.ofNat 512 ((witEntry o 1 1 5).toNat + 2 ^ 9 + 2 ^ 384)

/-- A GATHER of one range whose list segment has 32 bytes. -/
def witGatherEntry : BitVec 512 := BitVec.ofNat 512 (6 + 2 ^ 16 + 2 ^ 32 + 2 ^ 192 * 32)

def witGot (o : Nat) : Cmd := { witCmd o id with phase := .accepted, walked := true, bound := [witBound] }

def witLost (o : Nat) : Cmd := { witGot o with bound := [{ witBound with got := false, lost := true }] }

def witPart (o : Nat) : Cmd := { witGot o with bound := [{ witBound with got := false }] }

def witDeliver : Cmd := { witGot 1 with sess := 4, segs := [{ addr := 64, len := 4096, rkey := 1 }] }

def witReach : State :=
  { witHost with eqt := { witHost.eqt with cmds := [(7, witDeliver)] } }

/-- A WRITE of block 0, whose zone is EMPTY. -/
def witWriteZero : Cmd := witEntryWork (witEntry 2 1 1 0) fun c => { c with resv := some witResv, present := true }

def witFlush : Cmd := { witCmd 4 id with phase := .accepted, accept := some zeroPair }

/-- A block accepted before a flush that is not on media. -/
def witUncovered : State :=
  let s := witAny .placed { witFlush with accept := some { zeroPair with time := 9 } }
  { s with plc := { s.plc with landing := [witLand] } }

/-- A CLOSE of all zones of namespace 1, two of them OPEN. -/
def witCloseAll : State :=
  let z : ZoneRec := { state := .open_, wp := 3, lastWrite := 0 }
  let s := witAny .zoned (witEntryWork (BitVec.ofNat 512 (8 + 2 ^ 16 + 2 ^ 40)) id)
  { s with plc := { s.plc with
      spaces := [(1, { kind := .zoned, capacity := 131072, key := 0, zones := [(0, z), (1, z)] })] } }

/-- NS_CREATE of namespace 3 with 65,536 blocks. -/
def witNsEntry : BitVec 512 := BitVec.ofNat 512 (0x40 + 2 ^ 16 * 3 + 2 ^ 128 * 65536)

def witDeleting : Cmd := { newCmd 0 0 0 (BitVec.ofNat 512 (0x41 + 2 ^ 16)) zeroPair with phase := .accepted, accept := some zeroPair }

/-- IMAGE_DOWNLOAD of a firmware image of 4,096 bytes, the whole of it and a later piece. -/
def witImgEntry : BitVec 512 := BitVec.ofNat 512 (0x42 + 2 ^ 32 + 2 ^ 160 * 4096 + 2 ^ 192 * 4096)

def witImgNext : BitVec 512 := BitVec.ofNat 512 (0x42 + 2 ^ 32 + 2 ^ 128 * 4096 + 2 ^ 160 * 4096 + 2 ^ 192 * 8192)

/-- IMAGE_ACTIVATE of the firmware image. -/
def witActivate : Cmd := witEntryWork (BitVec.ofNat 512 (0x43 + 2 ^ 32 * 3)) id

def witActivation : Activation := { tag := 7, kinds := 1, step := 0, fwDigest := 0, persDigest := 0, cut := false }

/-- Both images are staged, with no bytes. -/
def witStaged : State :=
  let s := witAny .placed witActivate
  let x : Staging := { owner := 0, total := 0, bytes := [] }
  { s with eqt := { s.eqt with staged := [(1, x), (2, x)] } }

/-- Flash whose four package slots count no sections and no bytes. -/
def witFlash : Assoc Byte :=
  [bankSlot 0 1, bankSlot 0 2, bankSlot 1 1, bankSlot 1 2].flatMap fun b => (List.range 6).map fun o => (b + 10 + o, 0)

/-- An activation at a step. -/
def witActing (n : Nat) (f : State → State) : State :=
  let s := witAny .placed { witActivate with phase := .accepted }
  let x : Staging := { owner := 0, total := 28, bytes := List.replicate 28 0 }
  f { s with eqt := { s.eqt with activation := some { witActivation with step := n }, staged := [(1, x), (2, x)] },
             sec := { s.sec with flash := witFlash } }

/-- The activation names both images. -/
def witBoth (s : State) : State :=
  { s with eqt := { s.eqt with activation := s.eqt.activation.map fun a => { a with kinds := 3 } } }

/-- GET_LOG of a log from its beginning, 4,096 bytes. -/
def witLogEntry (n : Nat) : BitVec 512 := BitVec.ofNat 512 (0x45 + 2 ^ 32 * n + 2 ^ 192 * 4096)

def witTailRecord : TailRecord :=
  { seq := 1, trig := witTrigger, valid := 0, gen := 0, values := [], poisoned := true }

def witTailLost : State :=
  let s := witAny .placed (witEntryWork (witLogEntry 4) id)
  { s with tal := { s.tal with ring := [(0, witTailRecord)] } }

/-- REG_ACCESS: direction, address, word. -/
def witRegEntry (w addr v : Nat) : Cmd := witEntryWork (BitVec.ofNat 512 (0x48 + 2 ^ 63 * w + 2 ^ 128 * addr + 2 ^ 160 * v)) id

/-- A WRITE in work, command 3, and a QUEUE_RESET that arrives. -/
def witResetTwo : State :=
  let s := witHanded (BitVec.ofNat 512 0x47)
  { s with eqt := { s.eqt with cmds := [(3, { witWork 2 id with lineage := 1 }), (7, newCmd 0 0 0 (BitVec.ofNat 512 0x47) zeroPair)] } }

def witReset : Cmd := { newCmd 0 0 0 (BitVec.ofNat 512 0x47) zeroPair with phase := .accepted, accept := some zeroPair }

def witResetBusy : State :=
  let s := witHanded (BitVec.ofNat 512 0x47)
  { s with eqt := { s.eqt with cmds := [(3, witWork 2 id), (7, witReset)] } }

/-- CLAIM_EVENT of any source. -/
def witClaimEntry : BitVec 512 := BitVec.ofNat 512 (0x49 + 2 ^ 32 * 0xFFFF)

/-- Session 0 is ACTIVE and source 200 is PENDING for its group. -/
def witClaimable : State :=
  let s := State.setRv (State.modSess (witHanded witClaimEntry) 0 fun x => { x with state := .active, group := 1 }) (.evcMaskLo 200) 2
  State.setSrc s 200 { idleSource with state := .pending, count := 1, value := 5 }

/-- Session 0 holds source 200. -/
def witHolding : State :=
  let s := witHanded (BitVec.ofNat 512 (0x4A + 2 ^ 32 * 200))
  State.setSrc s 200 { idleSource with state := .claimed, holder := 0 }

/-- A command whose status is decided. -/
def witEnded (o : Nat) : Cmd := { witCmd o id with phase := .done, endPair := zeroPair }

/-- It is alone in flight, on an ACTIVE session with room in its ring. -/
def witEndedBare (o : Nat) : State :=
  let s := witAny .placed { witEnded o with noRecord := true }
  State.modSess s 0 fun x => { x with state := .active, modCount := 16, cq := { x.cq with log2 := 4 } }

/-- The same with its lineage. -/
def witCompleting (o : Nat) : State :=
  let s := witEndedBare o
  { s with eqt := { s.eqt with cmds := [(7, witEnded o)], lineages := [(0, { witLin with bound := some 0 })] } }

/-- A command of a session that has ended, its lineage unbound. -/
def witHeldEnd : State :=
  let s := witAny .placed { witEnded 2 with noRecord := true, heldEnd := true }
  { s with eqt := { s.eqt with lineages := [(0, { witLin with bound := none })] } }

/-- Every stack trained at cold power-on. -/
def State.withCold (s : State) : State := { s with hbm := { s.hbm with cold := 15 } }

/-- A DMA instruction: OP, MODE or KIND, bytes 4-5, bytes 6-7, and its last three eight-byte fields. -/
def witInstr (op mode count target a : Nat) (b : Nat := 0) (c : Nat := 0) : List Byte :=
  leBytes 1 op ++ leBytes 1 0 ++ leBytes 1 mode ++ leBytes 1 0 ++ leBytes 2 count ++ leBytes 2 target ++ leBytes 8 a ++ leBytes 8 b ++
    leBytes 8 c

/-- With its BAD bit. -/
def witBad (l : List Byte) : List Byte := l.set 1 2

/-- With its END bit. -/
def witEnd (l : List Byte) : List Byte := l.set 1 1

/-- A descriptor: source and destination offsets, length, flags. -/
def witDesc (src dst len flags : Nat) : List Byte := leBytes 6 src ++ leBytes 6 dst ++ leBytes 3 len ++ leBytes 1 flags

/-- Bytes of HBM from an address on. -/
def witBytes (a : Nat) : List Byte → Assoc Byte
  | [] => []
  | b :: bs => if b = 0 then witBytes (a + 1) bs else (a, b) :: witBytes (a + 1) bs

/-- Channel 3 runs a program at 0x600000. -/
def witDma (program : List Byte) (f : DmaCh → DmaCh) : State :=
  let s := live.withRoom.withCold
  let s := State.setRv { s with hbm := { s.hbm with mem := witBytes 0x600000 program } } (.dmaChProgLo 3) 0x600000
  State.modCh s 3 fun x => f { x with state := .running }

/-- It runs an index MOVE whose descriptor stands at 0x600400. -/
def witMove (src : Nat) (desc : List Byte) : State :=
  let s := witDma (witInstr 1 0 1 0 0x600400 src 0x600000) id
  { s with hbm := { s.hbm with mem := s.hbm.mem ++ witBytes 0x600400 desc ++ [(0x600800, 9)] } }

def witMoveState : State := witMove 0x600000 (witDesc 0x800 0x900 4 0)

def witMoveBad : State := witMove 0x600000 (witDesc 0x800 0x900 4 1)

def witMoveFault : State := witMove 0x2000000000 (witDesc 0x800 0x900 4 0)

/-- One event waits to be counted. -/
def witEvent (f : DmaCh → DmaCh) : State :=
  let s := State.modCh live 3 f
  { s with dma := { s.dma with events := [7] } }
/-! ## The manual's own examples -/

/-- The check value of the CRC over the nine bytes "123456789" (R11). -/
theorem test_crc64_check_value :
    crc64 [0x31, 0x32, 0x33, 0x34, 0x35, 0x36, 0x37, 0x38, 0x39] = 0x6C40DF5F0B497347 := by decide +kernel

/-- Two completions of one time, with sequence numbers 0xFFFF_FFFE and 3: the first came first (the example under R15). -/
theorem test_pairBefore_wraps :
    pairBefore { time := 9, seq := 0xFFFFFFFE } { time := 9, seq := 3 } = true ∧
    pairBefore { time := 9, seq := 3 } { time := 9, seq := 0xFFFFFFFE } = false := by decide

/-- The seek of the example under R231: 100,000 tracks at 40 million tracks/s take 4.6 ms, with a cruise. -/
theorem test_seek_plan_of_example :
    phasesTime (planPhases (100000 * 2 ^ 42) 40000000 20000000000 200000000000000).1 = 4600000000 := by decide +kernel

/-- Drive member 268,844 heartbeats when the second is 16 modulo 60 (the example of chapter 16). -/
theorem test_heartbeat_second : dueSecond 601 268844 60 = 616 ∧ dueSecond 616 268844 60 = 616 := by decide

/-- Packages of 12 MiB and 6 MiB give a T_BOOT of 107.19 ms (the example of chapter 18), in whole microseconds rounded up. -/
theorem test_boot_time :
    State.tBootUs { live with sec := { live.sec with fw := { noPkg with total := 12582912 },
                                                     persPkg := { noPkg with total := 6291456 } } } = 107186 := by decide

/-- With transit lock on SYNC (0x9478_00B6) SYNC_FN reads 3, and TAL_CFG 0xE00F_A3FF is refused with status 2 and stays as it was; with
transit lock in OFF it is accepted (the example of chapter 19). -/
theorem test_sync_shared_resource :
    let s := live.setupWrite .mgmt (regAddr .spnTlCfg) 0x947800B6
    let t := s.setupWrite .mgmt (regAddr .talCfg) 0xE00FA3FF
    let u := (t.setupWrite .mgmt (regAddr .spnTlCfg) 0x147800B6).setupWrite .mgmt (regAddr .talCfg) 0xE00FA3FF
    s.syncFn = 3 ∧ t.rv .talCfg = 0xC00FA3FF ∧ t.pin.lastStatus = 2 ∧ u.rv .talCfg = 0xE00FA3FF ∧ u.pin.lastStatus = 0 := by
  decide +kernel

/-- The mask 5 comes into force at the write of its upper half alone (the example of chapter 20). -/
theorem test_mask_pair :
    let s := live.setupWrite .mgmt 0x01000020 5
    let t := s.setupWrite .mgmt 0x01000024 0
    s.rv .eqtAdminMaskLo = 1 ∧ t.rv .eqtAdminMaskLo = 5 ∧ t.rv .eqtAdminMaskHi = 0 ∧ t.tim.busy = true := by decide +kernel

/-! ## Commands that cannot arrive -/

/-- Commands each of which fails one check of WellFormed and passes the others (1). -/
theorem test_illFormed_1 : (
    [.setupRegisterWrite (.core 8) 0 0, .plcStripeCfgWrite (.core 8) 0, .landingRecopyDone 5 0 0, .landingRecopyDone 0 0 4,
      .chnStHeadWrite (.core 8) 0 0, .chnStHeadWrite .mgmt 16 0, .headSwitch 16, .chnAfSelWrite (.core 8) 0 0,
      .chnAfSelWrite .mgmt 32 0, .frontEndFail 32, .servoWedge 16 witWedge, .decodeStop 16 ({ word := 0, values := [], iter := 1 }),
      .deepDecodeDone 4 0, .chnStatSnap (.core 8) 0x80000000, .chnStatSnap .mgmt 0x0, .chnStatSnap .mgmt 0xc0000000,
      .chnStatSnapClear (.core 8) 0xc0000000, .chnStatSnapClear .mgmt 0x40000000, .chnStatSnapClear .mgmt 0x80000000, .linkAck 4 0 [],
      .preampFault 4 0 [], .linkAckTimeout 4, .linkResetRetry 4, .contactRestore 72] : List Instr).all (fun c => c.wf == false) = true := by decide

/-- Commands each of which fails one check of WellFormed and passes the others (2). -/
theorem test_illFormed_2 : (
    [.plkClr (.core 8) 0 0x80, .plkClr .mgmt 4 0x80, .plkClr .mgmt 0 0x0, .touchdownStart (.core 8) 0x80000000,
      .touchdownStart .mgmt 0x0, .wfltAssert 4 0, .nop 18 0, .ldi 18 0, .ldih 18 0, .add 18 0, .addv 18 0, .and 18 0, .cmp 18 0,
      .cmpv 18 0, .ldp 18 0, .stp 18 0, .branch 18, .call 18, .ret 18, .rett 18, .actAtPosition 18 0, .waitEnd 18 .nothing,
      .waitTimeout 18, .seqInterrupt 16] : List Instr).all (fun c => c.wf == false) = true := by decide

/-- Commands each of which fails one check of WellFormed and passes the others (3). -/
theorem test_illFormed_3 : (
    [.privTrap 0xf, .privTrap 18, .controlStoreReload 18 false, .lockstepFail 18, .seqCsRead (.core 8) 0x80000000,
      .seqCsRead .mgmt 0x0, .seqCsInject (.core 8) 0x40000000, .seqCsInject .mgmt 0x0, .servoSample 4 false,
      .swapRequest (.core 8) 0 0x80000000, .swapRequest .mgmt 24 0x80000000, .swapRequest .mgmt 0 0x0,
      .sceWindowWrite (.core 8) 0x10000 0, .sceWindowWrite .mgmt 0xffff 0, .sceWindowWrite .mgmt 0x64000 0,
      .sceTgtWrite (.core 8) 0 0, .sceTgtWrite .mgmt 16 0, .go (.core 8) 0 0x80000000, .go .mgmt 4 0x80000000, .go .mgmt 0 0x0,
      .load (.core 8) 0 0x40000000, .load .mgmt 4 0x40000000, .load .mgmt 0 0x0, .unload (.core 8) 0 0x20000000] : List Instr).all (fun c => c.wf == false) = true := by decide

/-- Commands each of which fails one check of WellFormed and passes the others (4). -/
theorem test_illFormed_4 : (
    [.unload .mgmt 4 0x20000000, .unload .mgmt 0 0x0, .seekEnd 4, .seekTimeout 4, .loadFail 4, .unloadDone 4, .unloadFail 4,
      .faultReload 4, .currentLoopPeriod 4 0 0, .slotMem 24, .spindleEnable (.core 8) 0x80000000, .spindleEnable .mgmt 0x0,
      .spindleDisable (.core 8) 0x0, .spindleDisable .mgmt 0x80000000, .targetRpmWrite (.core 8) 0, .senseEnd 6,
      .ethFrameReceive 2 ({ len := 64, tags := 0, fcsOk := true, body := .other }) 0, .roceWriteReceive ({ witPkt with port := 2 }) 0,
      .roceWriteReceive witPkt 4, .sqDb 1024 0, .cqDb 1024 0, .evDb 1024 0, .pushDataWrite 1024 0 [] 0, .pushDataWrite 0 0 [] 4] : List Instr).all (fun c => c.wf == false) = true := by decide

/-- Commands each of which fails one check of WellFormed and passes the others (5). -/
theorem test_illFormed_5 : (
    [.rdmaReadResponse 1024 [] 0, .rdmaReadResponse 0 [] 4, .roceAckReceive 1024 .ack 0, .rnrNakReceive 1024,
      .requestRetryTimeout 1024, .cnpReceive 1024, .rateIncrease 1024, .hostAckTimer 1024, .req 2 witReqMsg, .rtu 1024,
      .dreq 1024 false, .drep 1024, .lap 1024 witOwn, .rej 1024, .admitTimeout 1024, .linkLoss 2, .pathTimeout 1024,
      .linkUp 2 0 false, .ethCfgWrite (.core 8) 0 0, .ethCfgWrite .mgmt 2 0, .quarantineEnd 1024, .modTimerExpire 1024,
      .evcMaskWrite (.core 8) 0 false 0, .evcMaskWrite .mgmt 256 false 0] : List Instr).all (fun c => c.wf == false) = true := by decide

/-- Commands each of which fails one check of WellFormed and passes the others (6). -/
theorem test_illFormed_6 : (
    [.evcRaise (.core 8) 0, .turnEnd 4 [] [], .scrubRead false 4, .scrubRead true 3, .stackFail 4, .cacheDrain (.core 8) 0,
      .hbmDiagWrite (.core 8) 0x80000000, .hbmDiagWrite .mgmt 0x0, .hbmDiagRead (.core 8) 0x40000000, .hbmDiagRead .mgmt 0x0,
      .srmDiagWrite (.core 8) 0x80000000, .srmDiagWrite .mgmt 0x0, .srmDiagRead (.core 8) 0x40000000, .srmDiagRead .mgmt 0x0,
      .moveIndex 32 none, .moveTwoDimensional 32 none, .loop 32, .wait 32, .waitSlot 32, .signal 32, .flagWrite 32, .timerEvent 8,
      .start (.core 8) 0 0x80000000, .start .mgmt 32 0x80000000] : List Instr).all (fun c => c.wf == false) = true := by decide

/-- Commands each of which fails one check of WellFormed and passes the others (7). -/
theorem test_illFormed_7 : (
    [.start .mgmt 0 0x0, .stop (.core 8) 0 0x40000000, .stop .mgmt 32 0x40000000, .stop .mgmt 0 0x0, .clr (.core 8) 0 0x20000000,
      .clr .mgmt 32 0x20000000, .clr .mgmt 0 0x0, .dmaWatchdog 32, .coldBoot 16 0 0, .coldBoot 0 16 0, .coldBoot 0 0 4,
      .flashRead (.core 8) 0x80000000, .flashRead .mgmt 0x0, .flashRead .mgmt 0x83000000, .flashProgram (.core 8) 0x81000000,
      .flashProgram .mgmt 0x1000000, .flashProgram .mgmt 0x83000000, .flashErase (.core 8) 0x82000000, .flashErase .mgmt 0x2000000,
      .flashErase .mgmt 0x83000000, .ptpSync 2 0 0, .ptpAnnounce ({ witMaster with port := 2 }), .delayResp 2 0 0,
      .timSetWrite (.core 8) 0] : List Instr).all (fun c => c.wf == false) = true := by decide

/-- Commands each of which fails one check of WellFormed and passes the others (8). -/
theorem test_illFormed_8 : (
    [.faultForce (.core 8) 0 0x80000000, .faultForce .mgmt 1024 0x80000000, .faultForce .mgmt 0 0x0, .fltRdWrite (.core 8) 0,
      .faultRecovery 1024, .trig (.core 8) 0x80000000, .trig .mgmt 0x0, .rearm (.core 8) 0x40000000, .rearm .mgmt 0x0,
      .talListWrite (.core 8) 0 0 0, .talListWrite .mgmt 4 0 0, .talListWrite .mgmt 0 32 0, .talCfgWrite (.core 8) 0,
      .ethIpCtlWrite (.core 8) 0 0, .ethIpCtlWrite .mgmt 2 0, .ethAddressWrite (.core 8) 0 0 0, .ethAddressWrite .mgmt 2 0 0,
      .ethAddressWrite .mgmt 0 6 0, .sharedResourceWrite (.core 8) .timCfg 0, .sharedResourceWrite .mgmt .fltCfg 0,
      .pwrgoodRise 4 false, .coreLockstepFail 8] : List Instr).all (fun c => c.wf == false) = true := by decide

/-! ## Witnesses -/

/-- States and operands that meet the hypotheses of StepRunsFront, clause by clause. -/
theorem witness_StepRunsFront :
    ((fun (s : State) (c : Instr) (q : List Instr) => s.pending = c :: q) { live with pending := [.heartbeat, .powerUp] } .heartbeat
        [.powerUp]) ∧
    ((fun (s : State) => s.pending = []) State.reset) := by
  refine ⟨?_, ?_⟩
  · decide
  · decide

/-- States and operands that meet the hypotheses of CommandOutcomes, clause by clause. -/
theorem witness_CommandOutcomes :
    ((fun (_s : State) (c : Instr) => c.wf = false) live (.go .mgmt 99 0)) ∧
    ((fun (s : State) (c : Instr) => c.wf = true ∧ s.has c.need = false) State.reset .heartbeat) ∧
    ((fun (_s : State) (c : Instr) => c.wf = true) live .heartbeat) := by
  refine ⟨?_, ?_, ?_⟩
  · decide
  · decide
  · decide

/-- States and operands that meet the hypotheses of InvKept, clause by clause. -/
theorem witness_InvKept :
    ((fun (s : State) (t : State) => Inv s ∧ step s = .next t) witNoted (witNoted.advance 1)) := by
  exact ⟨⟨by decide +kernel, by decide +kernel, by decide +kernel⟩, rfl⟩

/-- States and operands that meet the hypotheses of ResetRegisters, clause by clause. -/
theorem witness_ResetRegisters :
    ((fun (_s : State) (r : Reg) => regExists r = true ∧ r ≠ .secFuse0 ∧ r ≠ .secFuse1 ∧ r ≠ .pinStat) live (.sceSlot 23)) ∧
    ((fun (s : State) => s.pin.straps < 4) live) := by
  refine ⟨?_, ?_⟩
  · decide
  · decide

/-- States and operands that meet the hypotheses of RegisterAddresses, clause by clause. -/
theorem witness_RegisterAddresses :
    ((fun (_s : State) (r : Reg) => regExists r = true) live (.sceWindow 0x63FFC)) ∧
    ((fun (_s : State) (a : Nat) (r : Reg) => regAt a = some r) live 0x02200003 .talCfg) ∧
    ((fun (_s : State) (r q : Reg) => regAddr q ≠ regAddr r) live (.dmaChCtl 31) (.dmaTm 7)) := by
  refine ⟨?_, ?_, ?_⟩
  · decide
  · repeat' apply And.intro
    all_goals first | decide +kernel | rfl
  · decide

/-- States and operands that meet the hypotheses of TimeReference, clause by clause. -/
theorem witness_TimeReference :
    ((fun (s : State) (port : Nat) (identity : BitVec 64) (origin d : Nat) (m : Master) => Ready (.ptpSync port identity origin) s ∧
        s.timMode = 1 ∧ s.tim.master = some m ∧ m.identity = identity ∧ m.port = port ∧ s.tim.pathDelay = some d)
        { live with tim := { live.tim with master := some witMaster, pathDelay := some 100, state := .acquiring, inLock := 15, tick := 2 ^ 50 } }
        0 5 262000 100 witMaster) ∧
    ((fun (s : State) (port : Nat) (identity : BitVec 64) (origin : Nat) (m : Master) => Ready (.ptpSync port identity origin) s ∧
        s.timMode = 1 ∧ s.tim.master = some m ∧ m.identity = identity ∧ m.port = port ∧ s.tim.pathDelay = none)
        { live with tim := { live.tim with master := some witMaster } } 0 5 262000 witMaster) ∧
    ((fun (s : State) (m : Master) => Ready (.ptpAnnounce m) s ∧ s.timMode = 1 ∧ s.tim.masters = [] ∧ s.tim.master = none) live
        witMaster) ∧
    ((fun (s : State) (m : Master) => Ready .delayReqSend s ∧ s.timMode = 1 ∧ s.tim.master = some m)
        { live with tim := { live.tim with master := some witMaster } } witMaster) ∧
    ((fun (s : State) (port : Nat) (identity : BitVec 64) (received t1 t2 t3 : Nat) (m : Master) => Ready (.delayResp port identity
        received) s ∧ s.timMode = 1 ∧ s.tim.master = some m ∧ m.identity = identity ∧ m.port = port ∧ s.tim.delayReq = some t3 ∧
        s.tim.syncStamps = some (t1, t2))
        { live with tim := { live.tim with master := some witMaster, delayReq := some 70, syncStamps := some (10, 30) } } 0 5 80 10 30
        70 witMaster) ∧
    ((fun (s : State) (announce : Bool) (m : Master) => Ready (.ptpHoldover announce) s ∧ s.timMode = 1 ∧ s.tim.master = some m ∧
        s.tim.state = .locked) { live with tim := { live.tim with master := some witMaster, state := .locked } } false witMaster) ∧
    ((fun (s : State) (x n : Nat) => Ready .ppsHoldover s ∧ s.timMode = 2 ∧ s.tim.ppsLast = some (x, n) ∧ s.tim.state = .locked)
        { (live.setRv .timCfg 0x81001932) with tim := { live.tim with ppsLast := some (7, 3), state := .locked } } 7 3) ∧
    ((fun (s : State) => Ready .slewEnd s ∧ s.tim.corr < 0 ∧ s.tim.state = .slewing)
        { live with tim := { live.tim with corr := -5000 * 2 ^ 32, state := .slewing } }) := by
  refine ⟨?_, ?_, ?_, ?_, ?_, ?_, ?_, ?_⟩
  · decide
  · decide
  · decide
  · decide
  · decide
  · decide
  · decide
  · decide

/-- States and operands that meet the hypotheses of TimeSetAndSeconds, clause by clause. -/
theorem witness_TimeSetAndSeconds :
    ((fun (s : State) (ag : Agent) (v w : Word) => Ready (.timSetWrite ag v) s ∧ Accepts s .timSetHi v ∧ s.timMode = 0 ∧ (s.latch ag
        (regAddr .timSetLo)).lower = some w) ((live.setRv .timCfg 0x01001932).setLatch
        { agent := .mgmt, pair := regAddr .timSetLo, lower := some 9, upper := none }) .mgmt 1 9) ∧
    ((fun (s : State) (ag : Agent) (v w : Word) => Ready (.timSetWrite ag v) s ∧ Accepts s .timSetHi v ∧ s.timMode = 2 ∧ (s.latch ag
        (regAddr .timSetLo)).lower = some w) ((live.setRv .timCfg 0x81001932).setLatch
        { agent := .mgmt, pair := regAddr .timSetLo, lower := some 9, upper := none }) .mgmt 1 9) ∧
    ((fun (s : State) (n : Nat) => Ready .syncEdge s ∧ s.syncFn = 1 ∧ s.tim.ppsNext = some n)
        { (live.setRv .timCfg 0x81001932) with tim := { live.tim with ppsNext := some 3 } } 3) ∧
    ((fun (s : State) => Ready .heartbeat s ∧ fld (s.rv .timHbCfg) 11 0 ≠ 0 ∧ s.tim.state ≠ .unset ∧ ¬((s.src 10).state = .idle ∧
        s.levelHolds 10 = true ∧ s.evcMask 10 ≠ 0)) { (live.setRv .timHbCfg 1) with tim := { live.tim with state := .locked } }) ∧
    ((fun (s : State) => Ready .ppsOutputSecond s ∧ s.syncFn = 2 ∧ s.tim.state = .locked)
        { (live.setRv .timCfg 0x61001932) with tim := { live.tim with state := .locked } }) ∧
    ((fun (s : State) => Ready .conjunctionCompute s ∧ s.tim.busy = true) { live with tim := { live.tim with busy := true } }) := by
  refine ⟨?_, ?_, ?_, ?_, ?_, ?_⟩
  · repeat' apply And.intro
    all_goals first | decide +kernel | rfl
  · repeat' apply And.intro
    all_goals first | decide +kernel | rfl
  · decide
  · decide
  · decide
  · decide

/-- States and operands that meet the hypotheses of TailRecorder, clause by clause. -/
theorem witness_TailRecorder :
    ((fun (s : State) (ag : Agent) (v : Word) => Ready (.trig ag v) s ∧ Accepts s .talCtl v ∧ bit v 30 = false ∧ bit (s.rv .talCfg) 31
        = true ∧ s.tal.capturing = none ∧ s.tal.full = false ∧ s.pwr.umbra = false) (live.setRv .talCfg 0x80000401) .mgmt 0xA0000000) ∧
    ((fun (s : State) (d : Nat) => Ready .tailPeriod s ∧ s.tal.periodDue = some d ∧ bit (s.rv .talCfg) 31 = true ∧ s.tal.capturing =
        none ∧ s.tal.full = false ∧ s.pwr.umbra = false)
        { (live.setRv .talCfg 0x90000401) with tal := { talReset with periodDue := some 77 } } 77) ∧
    ((fun (s : State) => Ready .syncEdge s ∧ s.syncFn = 4 ∧ bit (s.rv .talCfg) 31 = true ∧ s.tal.capturing = none ∧ s.tal.full = false
        ∧ s.pwr.umbra = false) (live.setRv .talCfg 0xA0000401)) ∧
    ((fun (s : State) (g : TailTrigger) => Ready .tailCapture s ∧ s.tal.capturing = some g ∧ s.hbmUp = true ∧ bit (s.rv .talCfg) 30 =
        true)
        { (live.setRv .talCfg 0xC0000401) with tal := { talReset with capturing := some witTrigger }, hbm := { hbmReset with inUse := 15 } }
        witTrigger) ∧
    ((fun (s : State) (g : TailTrigger) => Ready .tailCapture s ∧ s.tal.capturing = some g ∧ s.hbmUp = true ∧ bit (s.rv .talCfg) 30 =
        false ∧ s.tal.next + 1 ≠ 0 ∧ s.tal.oldest = 1 ∧ s.tal.next.toNat = s.tailCapacity)
        { (live.setRv .talCfg 0x80000401) with tal := { talReset with capturing := some witTrigger, next := 4096 }, hbm := { hbmReset with inUse := 15 } }
        witTrigger) ∧
    ((fun (s : State) (ag : Agent) (v : Word) => Ready (.rearm ag v) s ∧ Accepts s .talCtl v ∧ bit v 31 = false) live .mgmt 0x40000000) ∧
    ((fun (s : State) (ag : Agent) (v : Word) => Ready (.talCfgWrite ag v) s ∧ Accepts s .talCfg v) live .mgmt 0x90000401) ∧
    ((fun (s : State) (ag : Agent) (l i : Nat) (v : Word) => Ready (.talListWrite ag l i v) s ∧ Accepts s (.talList l i) v)
        { live with tal := { talReset with gens := 0xFF03FF02 } } .mgmt 2 31 0x01000405) := by
  refine ⟨?_, ?_, ?_, ?_, ?_, ?_, ?_, ?_⟩
  · decide
  · decide
  · decide
  · decide
  · decide
  · decide
  · decide
  · decide

/-- States and operands that meet the hypotheses of FaultReports, clause by clause. -/
theorem witness_FaultReports :
    ((fun (s : State) (r : Report) (d : Reactions) => Ready (.faultReport (some r)) s ∧ reportOk r = true ∧ decideReactions (s.rv
        (.fltSrc r.source)) r.severity = d ∧ d.nmi = false ∧ d.blockRst = false ∧ d.warmRst = false ∧ s.flt.buffer.length < 64)
        (live.setRv (.fltSrc 64) 1) { source := 64, kind := 3, addr := 5, severity := 2 } (decideReactions 1 2)) ∧
    ((fun (s : State) (r : Report) (d : Reactions) => Ready (.faultReport (some r)) s ∧ reportOk r = true ∧ decideReactions (s.rv
        (.fltSrc r.source)) r.severity = d ∧ d.nmi = false ∧ d.blockRst = false ∧ d.warmRst = false ∧ 64 ≤ s.flt.buffer.length)
        { (live.setRv (.fltSrc 64) 1) with flt := { fltReset with buffer := List.replicate 64 witStamped } }
        { source := 64, kind := 3, addr := 5, severity := 3 } (decideReactions 1 3)) ∧
    ((fun (s : State) (r : Report) (d : Reactions) => Ready (.faultReport (some r)) s ∧ reportOk r = true ∧ decideReactions (s.rv
        (.fltSrc r.source)) r.severity = d ∧ d.nmi = true ∧ d.blockRst = false ∧ d.warmRst = false ∧ s.flt.buffer.length < 64)
        (live.setRv (.fltSrc 64) 4) { source := 64, kind := 3, addr := 5, severity := 2 } (decideReactions 4 2)) ∧
    ((fun (s : State) (x : Nat) (r : Report) (rest : List (Nat × Report)) (d : Reactions) => Ready (.faultReport none) s ∧ s.flt.inbox
        = (x, r) :: rest ∧ decideReactions (s.rv (.fltSrc r.source)) r.severity = d ∧ d.nmi = false ∧ d.blockRst = false ∧ d.warmRst =
        false ∧ s.flt.buffer.length < 64)
        { live with flt := { fltReset with inbox := [(0, { source := 64, kind := 3, addr := 5, severity := 2 })] } } 0
        { source := 64, kind := 3, addr := 5, severity := 2 } [] (decideReactions 0x201 2)) := by
  refine ⟨?_, ?_, ?_, ?_⟩
  · decide
  · decide
  · decide
  · decide

/-- States and operands that meet the hypotheses of FaultRecords, clause by clause. -/
theorem witness_FaultRecords :
    ((fun (s : State) (b : Stamped) (rest : List Stamped) => Ready .faultRecordWrite s ∧ s.hbmUp = true ∧ s.flt.buffer = b :: rest ∧
        s.coalesces b = none ∧ s.unread < 4096 ∧ bit (s.rv (.fltSrc b.rep.source)) 26 = false)
        { live with flt := { fltReset with buffer := [witStamped] }, hbm := { hbmReset with inUse := 15 } } witStamped []) ∧
    ((fun (s : State) (b : Stamped) (rest : List Stamped) (r : FaultRecord) => Ready .faultRecordWrite s ∧ s.hbmUp = true ∧
        s.flt.buffer = b :: rest ∧ s.coalesces b = some r) witCoalesce witStamped [] witRecord) ∧
    ((fun (s : State) (b : Stamped) (rest : List Stamped) => Ready .faultRecordWrite s ∧ s.hbmUp = true ∧ s.flt.buffer = b :: rest ∧
        s.coalesces b = none ∧ s.unread = 4096 ∧ b.rep.severity = 3 ∧ bit (s.rv (.fltSrc b.rep.source)) 26 = false)
        { live with flt := { fltReset with buffer := [{ witStamped with rep := { witStamped.rep with severity := 3 } }], next := 4097 }, hbm := { hbmReset with inUse := 15 } }
        { witStamped with rep := { witStamped.rep with severity := 3 } } []) ∧
    ((fun (s : State) (b : Stamped) (rest : List Stamped) => Ready .faultRecordWrite s ∧ s.hbmUp = true ∧ s.flt.buffer = b :: rest ∧
        s.coalesces b = none ∧ s.unread = 4096 ∧ b.rep.severity ≠ 3)
        { live with flt := { fltReset with buffer := [witStamped], next := 4097 }, hbm := { hbmReset with inUse := 15 } } witStamped []) ∧
    ((fun (s : State) (ag : Agent) (v : Word) => Ready (.fltRdWrite ag v) s ∧ Accepts s .fltRd v)
        { live with flt := { fltReset with next := 5, errnLost := [3] } } .mgmt 4) ∧
    ((fun (s : State) (n : Nat) => Ready (.faultRecovery n) s ∧ (s.fsrc n).faulted = true ∧ s.heldCondition n = some false ∧
        s.flt.buffer.length < 64) { live with flt := { fltReset with sources := [(64, { quietSource with faulted := true })] } } 64) ∧
    ((fun (s : State) (n : Nat) => Ready (.faultRecovery n) s ∧ (s.fsrc n).faulted = true ∧ s.heldCondition n = none ∧
        s.flt.buffer.length < 64) { live with flt := { fltReset with sources := [(100, { quietSource with faulted := true })] } } 100) := by
  refine ⟨?_, ?_, ?_, ?_, ?_, ?_, ?_⟩
  · decide
  · repeat' apply And.intro
    all_goals first | decide +kernel | rfl
  · decide
  · decide
  · decide
  · decide
  · decide

/-- States and operands that meet the hypotheses of ForcedReport, clause by clause. -/
theorem witness_ForcedReport :
    ((fun (s : State) (ag : Agent) (n : Nat) (v : Word) => Ready (.faultForce ag n v) s ∧ Accepts s (.fltSrc n) v ∧ faultListed n =
        true) live .mgmt 64 0xC0000001) ∧
    ((fun (s : State) (x : Nat) (r : Report) (rest : List (Nat × Report)) => s.flt.inbox = (x, r) :: rest ∧ (Instr.faultReport (some
        r)).wf = true ∧ reportOk r = true)
        { live with flt := { fltReset with inbox := [(0, { source := 64, kind := 63, addr := 0, severity := 2 })] } } 0
        { source := 64, kind := 63, addr := 0, severity := 2 } []) := by
  refine ⟨?_, ?_⟩
  · decide
  · decide

/-- States and operands that meet the hypotheses of SetupWriteTaken, clause by clause. -/
theorem witness_SetupWriteTaken :
    ((fun (s : State) (ag : Agent) (addr : Nat) (v : Word) (r : Reg) => Ready (.setupRegisterWrite ag addr v) s ∧ r ∈ plainRegs ∧ regAt
        addr = some r ∧ Accepts s r v) live (.core 3) (regAddr .orbSeekCfg) 7 .orbSeekCfg) ∧
    ((fun (s : State) (ag : Agent) (addr : Nat) (v : Word) (r hi : Reg) => Ready (.setupRegisterWrite ag addr v) s ∧ regAt addr = some
        r ∧ s.blockOff r = false ∧ regUpper r = some hi) live .mgmt (regAddr .timSetLo) 7 .timSetLo .timSetHi) ∧
    ((fun (s : State) (ag : Agent) (v : Word) => Ready (.sharedResourceWrite ag .timCfg v) s ∧ Accepts s .timCfg v ∧ fld v 31 30 =
        s.timMode ∧ fld v 25 16 = fld (s.rv .timCfg) 25 16) live .mgmt 0x41002032) ∧
    ((fun (s : State) (ag : Agent) (v : Word) => Ready (.sharedResourceWrite ag .timCfg v) s ∧ Accepts s .timCfg v ∧ fld v 31 30 ≠
        s.timMode ∧ s.tim.state ≠ .unset) { live with tim := { live.tim with state := .locked } } .mgmt 0x01001932) := by
  refine ⟨?_, ?_, ?_, ?_⟩
  · repeat' apply And.intro
    all_goals first | decide +kernel | rfl
  · repeat' apply And.intro
    all_goals first | decide +kernel | rfl
  · decide
  · decide

/-- States and operands that meet the hypotheses of SetupWriteRefused, clause by clause. -/
theorem witness_SetupWriteRefused :
    ((fun (s : State) (ag : Agent) (addr : Nat) (v : Word) => Ready (.setupRegisterWrite ag addr v) s ∧ regAt addr = none) live .mgmt
        0x2345678 7) ∧
    ((fun (s : State) (ag : Agent) (addr : Nat) (v : Word) (r : Reg) => Ready (.setupRegisterWrite ag addr v) s ∧ regAt addr = some r ∧
        s.blockOff r = false ∧ regUpper r = none ∧ s.wordRefused r v = true) live (.core 0) (regAddr .talCfg) 0 .talCfg) ∧
    ((fun (s : State) (ag : Agent) (addr : Nat) (v : Word) (r : Reg) => Ready (.setupRegisterWrite ag addr v) s ∧ regAt addr = some r ∧
        s.blockOff r = false ∧ regUpper r = none ∧ s.wordRefused r v = false ∧ s.stateRefused r v = true) live .mgmt (regAddr
        .timSetHi) 7 .timSetHi) ∧
    ((fun (s : State) (ag : Agent) (addr : Nat) (v : Word) (r : Reg) => Ready (.setupRegisterWrite ag addr v) s ∧ regAt addr = some r ∧
        s.blockOff r = true) { live with pwr := { live.pwr with point := 0x35 } } .mgmt (regAddr .chnEscCfg) 7 .chnEscCfg) ∧
    ((fun (s : State) (ag : Agent) (r : Reg) (v : Word) => Ready (.sharedResourceWrite ag r v) s ∧ regAt (regAddr r) = some r ∧
        s.blockOff r = false ∧ s.wordRefused r v = false ∧ s.syncConflict r v = true) (live.setRv .timCfg 0x81001932) .mgmt .talCfg
        0xA0000401) := by
  refine ⟨?_, ?_, ?_, ?_, ?_⟩
  · decide
  · repeat' apply And.intro
    all_goals first | decide +kernel | rfl
  · repeat' apply And.intro
    all_goals first | decide +kernel | rfl
  · repeat' apply And.intro
    all_goals first | decide +kernel | rfl
  · repeat' apply And.intro
    all_goals first | decide +kernel | rfl

/-- States and operands that meet the hypotheses of SetupReads, clause by clause. -/
theorem witness_SetupReads :
    ((fun (s : State) (addr : Nat) (r : Reg) => Ready (.readMgmt addr true) s ∧ regAt addr = some r ∧ s.blockOff r = false ∧ regUpper r
        = none ∧ regLower r = none ∧ r ≠ .pwrSense ∧ r ≠ .pinThermStat) live (regAddr .pinStat) .pinStat) ∧
    ((fun (s : State) (addr : Nat) (r hi : Reg) => Ready (.readMgmt addr true) s ∧ regAt addr = some r ∧ s.blockOff r = false ∧
        regUpper r = some hi) live (regAddr .timNowLo) .timNowLo .timNowHi) ∧
    ((fun (s : State) (addr : Nat) (hi lo : Reg) (w : Word) => Ready (.readMgmt addr true) s ∧ regAt addr = some hi ∧ s.blockOff hi =
        false ∧ regUpper hi = none ∧ regLower hi = some lo ∧ (s.latch .mgmt (regAddr lo)).upper = some w) (live.setLatch
        { agent := .mgmt, pair := regAddr .timNowLo, lower := none, upper := some 9 }) (regAddr .timNowHi) .timNowHi .timNowLo 9) ∧
    ((fun (s : State) (addr : Nat) => Ready (.readMgmt addr true) s ∧ regAt addr = none) live 12) ∧
    ((fun (s : State) (addr : Nat) => Ready (.readMgmt addr false) s) live 12) ∧
    ((fun (s : State) => Ready .lastStatus s) live) ∧
    ((fun (s : State) => Ready .mgmtSclTimeout s) live) := by
  refine ⟨?_, ?_, ?_, ?_, ?_, ?_, ?_⟩
  · repeat' apply And.intro
    all_goals first | decide +kernel | rfl
  · repeat' apply And.intro
    all_goals first | decide +kernel | rfl
  · repeat' apply And.intro
    all_goals first | decide +kernel | rfl
  · decide
  · decide
  · decide
  · decide

/-- States and operands that meet the hypotheses of PortAddressesHeld, clause by clause. -/
theorem witness_PortAddressesHeld :
    ((fun (s : State) (ag : Agent) (p : Nat) (v : Word) => Ready (.ethAddressWrite ag p 0 v) s ∧ Accepts s (.ethIpv4 p) v) live .mgmt 1
        0x0A000001) ∧
    ((fun (s : State) (ag : Agent) (p : Nat) (v : Word) => Ready (.ethAddressWrite ag p 1 v) s ∧ Accepts s (.ethIpv4Gw p) v) live .mgmt
        1 0x0A000001) ∧
    ((fun (s : State) (ag : Agent) (p k : Nat) (v : Word) => Ready (.ethAddressWrite ag p (k + 2) v) s ∧ Accepts s (.ethIpv6 p k) v)
        live .mgmt 1 3 0x0A000001) ∧
    ((fun (s : State) (ag : Agent) (p : Nat) (v : Word) (x : Port) => Ready (.ethIpCtlWrite ag p v) s ∧ Accepts s (.ethIpCtl p) v ∧
        s.port p = x) (live.modPort 1 fun y => { y with heldV4 := some 9, heldV6 := [(2, 4)] }) .mgmt 1 0x80180040
        { downPort with heldV4 := some 9, heldV6 := [(2, 4)] }) ∧
    ((fun (s : State) (ag : Agent) (p : Nat) (v : Word) => Ready (.ethIpCtlWrite ag p v) s ∧ regAt (regAddr (.ethIpCtl p)) = some
        (.ethIpCtl p) ∧ s.blockOff (.ethIpCtl p) = false ∧ s.wordRefused (.ethIpCtl p) v = false ∧ s.gidLost p v = true)
        { live with eqt := { live.eqt with sessions := [(3, { freeSession with state := .active, path := { noPath with gidIndex := 9, localGid := 77 } })] } }
        .mgmt 0 0x00180040) := by
  refine ⟨?_, ?_, ?_, ?_, ?_⟩
  · decide
  · decide
  · decide
  · decide
  · decide

/-- States and operands that meet the hypotheses of PinsAndTemperature, clause by clause. -/
theorem witness_PinsAndTemperature :
    ((fun (s : State) => Ready .powerUp s ∧ s.pwr.point ≠ 0x45) State.reset) ∧
    ((fun (s : State) (straps : Nat) => Ready (.pwrgoodRise straps false) s ∧ s.pwr.umbra = false) State.reset 2) ∧
    ((fun (s : State) (straps : Nat) => Ready (.pwrgoodRise straps true) s) live 3) ∧
    ((fun (s : State) (temp : Int) => Ready (.dieTemperatureChange temp) s) live (-4)) ∧
    ((fun (s : State) (k : Nat) => Ready (.coreLockstepFail k) s ∧ s.pin.coresOut.testBit k = false ∧ s.pwr.change = none) live 7) ∧
    ((fun (s : State) (ir : Nat) => Ready (.jtagInstruction ir) s ∧ s.pwr.resetN = false ∧ ir < 4)
        { live with pwr := { live.pwr with resetN := false } } 1) ∧
    ((fun (s : State) (ir : Nat) => Ready (.jtagInstruction ir) s ∧ 3 < ir) live 4) := by
  refine ⟨?_, ?_, ?_, ?_, ?_, ?_, ?_⟩
  · decide
  · decide
  · decide
  · decide
  · decide
  · decide
  · decide

/-- States and operands that meet the hypotheses of BootFlash, clause by clause. -/
theorem witness_BootFlash :
    ((fun (s : State) (ag : Agent) (v : Word) => Ready (.flashRead ag v) s ∧ Accepts s .secFlashCtl v) ((State.setRv
        { live with sec := { live.sec with recovery := true } } .secFlashAddr 0x100000)) .mgmt 0x80000000) ∧
    ((fun (s : State) (ag : Agent) (v : Word) => Ready (.flashProgram ag v) s ∧ Accepts s .secFlashCtl v) ((State.setRv
        { live with sec := { live.sec with recovery := true } } .secFlashAddr 0x100000)) .mgmt 0x81000000) ∧
    ((fun (s : State) (ag : Agent) (v : Word) => Ready (.flashErase ag v) s ∧ Accepts s .secFlashCtl v) ((State.setRv
        { live with sec := { live.sec with recovery := true } } .secFlashAddr 0x100000)) .mgmt 0x82000000) ∧
    ((fun (s : State) (f : FlashOp) => Ready (.flashOpDone true) s ∧ s.sec.flashBusy = some f ∧ f.op = 0)
        { live with sec := { live.sec with flashBusy := some { op := 0, addr := 256, window := [] } } }
        { op := 0, addr := 256, window := [] }) ∧
    ((fun (s : State) (f : FlashOp) => Ready (.flashOpDone true) s ∧ s.sec.flashBusy = some f ∧ f.op = 1 ∧ s.stageCode < 2)
        { live with sec := { live.sec with flashBusy := some { op := 1, addr := 256, window := [7, 9] } } }
        { op := 1, addr := 256, window := [7, 9] }) ∧
    ((fun (s : State) (f : FlashOp) => Ready (.flashOpDone true) s ∧ s.sec.flashBusy = some f ∧ f.op = 2 ∧ s.stageCode < 2)
        { live with sec := { live.sec with flashBusy := some { op := 2, addr := 65536, window := [] } } }
        { op := 2, addr := 65536, window := [] }) ∧
    ((fun (s : State) (f : FlashOp) => Ready (.flashOpDone false) s ∧ s.sec.flashBusy = some f ∧ s.stageCode < 2)
        { live with sec := { live.sec with flashBusy := some { op := 1, addr := 256, window := [] } } }
        { op := 1, addr := 256, window := [] }) ∧
    ((fun (s : State) (ok : Bool) (f : FlashOp) => Ready (.flashOpDone ok) s ∧ s.sec.flashBusy = some f ∧ f.op ≠ 0 ∧ 2 ≤ s.stageCode)
        { live with sec := { live.sec with flashBusy := some { op := 1, addr := 256, window := [] } }, pwr := { live.pwr with stage := 2 } }
        true { op := 1, addr := 256, window := [] }) := by
  refine ⟨?_, ?_, ?_, ?_, ?_, ?_, ?_, ?_⟩
  · decide
  · decide
  · decide
  · decide
  · decide
  · decide
  · decide
  · decide

/-- States and operands that meet the hypotheses of FlashGoRefused, clause by clause. -/
theorem witness_FlashGoRefused :
    ((fun (s : State) (i : Instr) (ag : Agent) (v : Word) => Ready i s ∧ i ∈ [Instr.flashRead ag v, .flashProgram ag v, .flashErase ag
        v] ∧ s.blockOff .secFlashCtl = false ∧ (s.sec.recovery = false ∨ s.sec.flashBusy.isSome = true ∨ 0x20000 ≤ fld (s.rv
        .secFlashAddr) 28 0 ∧ fld (s.rv .secFlashAddr) 28 0 < 0x100000)) live (.flashRead .mgmt 0x80000000) .mgmt 0x80000000) := by
  decide

/-- States and operands that meet the hypotheses of SpindleStart, clause by clause. -/
theorem witness_SpindleStart :
    ((fun (s : State) (ag : Agent) (v : Word) => Ready (.spindleEnable ag v) s ∧ Accepts s .spnCtl v ∧ (s.spn.state = .stopped ∨
        s.spn.state = .fault) ∧ s.spn.retryDue = none) live .mgmt 0x80001C20) ∧
    ((fun (s : State) => Ready (.listenEnd none) s ∧ s.spn.state = .listen) { live with spn := { spnReset with state := .listen } }) ∧
    ((fun (s : State) (v : Nat) => Ready (.listenEnd (some v)) s ∧ s.spn.state = .listen ∧ 16 * s.spnPers.olRpm ≤ v)
        { live with spn := { spnReset with state := .listen } } 5) ∧
    ((fun (s : State) (v : Nat) => Ready (.listenEnd (some v)) s ∧ s.spn.state = .listen ∧ v < 16 * s.spnPers.olRpm)
        { live with spn := { spnReset with state := .listen }, sec := { live.sec with pers := { noPers with spindle := { noSpindle with olRpm := 300 } } } }
        5) ∧
    ((fun (s : State) (sector : Nat) => Ready (.senseEnd sector) s ∧ s.spn.state = .sense)
        { live with spn := { spnReset with state := .sense } } 3) ∧
    ((fun (s : State) => Ready .alignEnd s ∧ s.spn.state = .align) { live with spn := { spnReset with state := .align } }) ∧
    ((fun (s : State) => Ready .openLoopEnd s ∧ s.spn.state = .openLoop ∧ s.olMatched = true)
        { live with spn := { spnReset with state := .openLoop, crossings := List.replicate 12 0 }, sec := { live.sec with pers := { noPers with spindle := { noSpindle with advance := 30 } } } }) ∧
    ((fun (s : State) => Ready .openLoopEnd s ∧ s.spn.state = .openLoop ∧ s.olMatched = false ∧ s.spn.attempts < 2)
        { live with spn := { spnReset with state := .openLoop } }) ∧
    ((fun (s : State) => Ready .openLoopEnd s ∧ s.spn.state = .openLoop ∧ s.olMatched = false ∧ s.spn.attempts = 2)
        { live with spn := { spnReset with state := .openLoop, attempts := 2 } }) ∧
    ((fun (s : State) (x : Nat) => Ready .startRetry s ∧ s.spn.retryDue = some x)
        { live with spn := { spnReset with retryDue := some 5 } } 5) := by
  refine ⟨?_, ?_, ?_, ?_, ?_, ?_, ?_, ?_, ?_, ?_⟩
  · decide
  · decide
  · decide
  · decide
  · decide
  · decide
  · decide +kernel
  · decide
  · decide
  · decide

/-- States and operands that meet the hypotheses of SpindleSpeedAndStop, clause by clause. -/
theorem witness_SpindleSpeedAndStop :
    ((fun (s : State) (ag : Agent) (v : Word) => Ready (.targetRpmWrite ag v) s ∧ Accepts s .spnCtl v ∧ bit v 31 = true ∧ s.spn.state =
        .atSpeed ∧ s.spn.target ≤ (s.setRv .spnCtl v).targetRpm ∧ s.stageCode = 0) ((State.setRv
        { live with spn := { spnReset with state := .atSpeed } } .spnCtl 0x80000000)) .mgmt 0x80001C20) ∧
    ((fun (s : State) (ag : Agent) (v : Word) => Ready (.spindleDisable ag v) s ∧ Accepts s .spnCtl v ∧ bit (s.rv .spnCtl) 31 = true ∧
        s.spn.state ≠ .stopped ∧ s.spn.state ≠ .fault) ((State.setRv { live with spn := { spnReset with state := .atSpeed } } .spnCtl
        0x80000000)) .mgmt 0) ∧
    ((fun (s : State) (ag : Agent) (v : Word) => Ready (.spindleDisable ag v) s ∧ s.blockOff .spnCtl = false ∧ s.wordRefused .spnCtl v
        = false ∧ bit (s.rv .spnCtl) 31 = true ∧ s.allUnloaded = false) ((State.modAct live 1 fun x =>
        { x with state := .following }).setRv .spnCtl 0x80000000) .mgmt 0) ∧
    ((fun (s : State) => Ready .brakeEnd s ∧ s.spn.state = .brake) { live with spn := { spnReset with state := .brake } }) ∧
    ((fun (s : State) => Ready .spinupTimeout s ∧ s.spn.enabledAt ≠ 0 ∧ s.spn.state ≠ .atSpeed ∧ s.spn.state ≠ .coast)
        { live with spn := { spnReset with state := .ramp, enabledAt := 7 } }) ∧
    ((fun (s : State) (isense : Int) => Ready (.spindleCurrentPeriod isense) s ∧ 10 * isense ≤ 12 * 32767 ∧ 10 * (s.commandNow -
        isense).natAbs ≤ 32767) { live with spn := { spnReset with state := .ramp, command := 900 } } 800) ∧
    ((fun (s : State) (isense : Int) => Ready (.spindleCurrentPeriod isense) s ∧ 12 * 32767 < 10 * isense ∧ s.spn.overRun = 1)
        ((State.modAct { live with spn := { spnReset with state := .ramp, overRun := 1 } } 2 fun x => { x with state := .following }))
        40000) := by
  refine ⟨?_, ?_, ?_, ?_, ?_, ?_, ?_⟩
  · decide
  · decide
  · decide
  · decide
  · decide
  · decide
  · decide

/-- States and operands that meet the hypotheses of SpindleRevolutions, clause by clause. -/
theorem witness_SpindleRevolutions :
    ((fun (s : State) (late : Bool) (x : Nat) => Ready (.zeroCrossing late) s ∧ (s.spn.state = .coast ∨ s.spn.state = .brake ∨
        s.spn.state = .openLoop) ∧ s.loadedActs = [] ∧ s.spn.crossings[5]? = some x ∧ x < s.now)
        { live with now := 10000000, spn := { spnReset with state := .coast, crossings := [9, 8, 7, 6, 5, 4] } } false 4) ∧
    ((fun (s : State) (late : Bool) => Ready (.zeroCrossing late) s ∧ (s.spn.state = .ramp ∨ s.spn.state = .atSpeed))
        { live with spn := { spnReset with state := .ramp } } false) ∧
    ((fun (s : State) (late : Bool) => Ready (.spindleIndex late) s ∧ s.spn.state = .ramp ∧ s.setPointNow = 16 * s.spn.target ∧ 1000 *
        ((s.spn.speed : Int) - (16 * s.spn.target : Nat)).natAbs ≤ 16 * s.spn.target ∧ s.spn.goodRevs = 7 ∧ s.spn.target = s.targetRpm
        ∧ s.spn.tlState = .off ∧ s.spn.tlCfg = s.rv .spnTlCfg ∧ s.pwr.toLoad = [] ∧ s.pwr.change = none)
        { live with spn := { spnReset with state := .ramp, goodRevs := 7 } } false) ∧
    ((fun (s : State) => Ready .syncEdge s ∧ s.syncFn = 3 ∧ s.spn.syncEdge = none ∧ s.spn.tlState ≠ .holdover) (live.setRv .spnTlCfg
        0x947800B6)) ∧
    ((fun (s : State) (x : Nat) => Ready .syncEdge s ∧ s.syncFn = 3 ∧ s.spn.syncEdge = some x ∧ fld (s.rv .spnTlCfg) 23 16 *
        60000000000 / max 1 s.targetRpm < 1000 * ((s.now : Int) - x - (fld (s.rv .spnTlCfg) 23 16 * 60000000000 / max 1 s.targetRpm :
        Nat)).natAbs) ((State.setRv { live with spn := { spnReset with syncEdge := some 0 } } .spnTlCfg 0x947800B6)) 0) ∧
    ((fun (s : State) (x : Nat) => Ready .tlHoldover s ∧ fld s.spn.tlCfg 31 30 = 2 ∧ s.spn.tlState = .locked ∧ s.spn.syncEdge = some x)
        { live with spn := { spnReset with tlCfg := 0x947800B6, tlState := .locked, syncEdge := some 5 } } 5) := by
  refine ⟨?_, ?_, ?_, ?_, ?_, ?_⟩
  · decide
  · decide
  · decide
  · decide
  · decide
  · decide

/-- States and operands that meet the hypotheses of ServoSamples, clause by clause. -/
theorem witness_ServoSamples :
    ((fun (s : State) (a : Nat) => Ready (.servoSample a true) s ∧ s.sampleRecords a ≠ []) ((State.modStream (live.setRv (.sceTgt 4)
        0x80000005) 4 fun x => { x with readers := 1, fresh := some witServo })) 1) ∧
    ((fun (s : State) (a : Nat) (late : Bool) => Ready (.servoSample a late) s ∧ s.sampleRecords a = []) live 1 false) ∧
    ((fun (s : State) (a st : Nat) (r : ServoRec) => Ready (.servoSample a false) s ∧ (s.act a).state = .loading ∧ st ∈ s.activeStreams
        a ∧ (st, r) ∈ s.sampleRecords a ∧ validRec r = true ∧ (s.loop st).regain = 3) ((State.modLoop (State.modStream (State.setRv
        (State.modAct live 1 fun x => { x with state := .loading }) (.sceTgt 4) 0x80000005) 4 fun x =>
        { x with readers := 1, fresh := some witServo }) 4 fun l => { l with regain := 3 })) 1 4 witServo) ∧
    ((fun (s : State) (a : Nat) (isense vcoil : Int) => Ready (.currentLoopPeriod a isense vcoil) s ∧ (s.act a).stageOn = true ∧ (s.act
        a).state = .following ∧ 10 * ((s.act a).command - isense).natAbs ≤ 32767) ((State.modAct live 1 fun x =>
        { x with stageOn := true, state := .following, command := 50 })) 1 40 7) ∧
    ((fun (s : State) (a : Nat) (isense vcoil : Int) => Ready (.currentLoopPeriod a isense vcoil) s ∧ (s.act a).stageOn = true ∧
        ((s.act a).state = .loading ∨ (s.act a).state = .unloading ∨ (s.act a).state = .retract) ∧ (s.act a).diffRun < 31)
        ((State.modAct live 1 fun x => { x with stageOn := true, state := .unloading })) 1 40 7) := by
  refine ⟨?_, ?_, ?_, ?_, ?_⟩
  · decide
  · decide
  · decide
  · decide
  · decide

/-- States and operands that meet the hypotheses of ServoSettings, clause by clause. -/
theorem witness_ServoSettings :
    ((fun (s : State) (ag : Agent) (n : Nat) (v : Word) => Ready (.swapRequest ag n v) s ∧ Accepts s (.sceSlot n) v) live (.core 2) 20
        0xC0000000) ∧
    ((fun (s : State) (ag : Agent) (ofs : Nat) (v : Word) => Ready (.sceWindowWrite ag ofs v) s ∧ Accepts s (.sceWindow ofs) v) live
        (.core 2) 0x10104 9) ∧
    ((fun (s : State) (ag : Agent) (ofs : Nat) (v : Word) => Ready (.sceWindowWrite ag ofs v) s ∧ regAt (regAddr (.sceWindow ofs)) =
        some (.sceWindow ofs) ∧ s.blockOff (.sceWindow ofs) = false ∧ s.bankClosed ofs = true) live (.core 2) 0x10004 9) ∧
    ((fun (s : State) (ag : Agent) (st : Nat) (v : Word) => Ready (.sceTgtWrite ag st v) s ∧ Accepts s (.sceTgt st) v) live (.core 2) 5
        0x80000010) ∧
    ((fun (s : State) (n : Nat) => Ready (.slotMem n) s ∧ (((List.range 22).map fun k => (s.slot k).phys).contains 22) = false) live 3) ∧
    ((fun (s : State) (n : Nat) => Ready (.slotMem n) s ∧ (((List.range 22).map fun k => (s.slot k).phys).contains 22) = true ∧
        (((List.range 22).map fun k => (s.slot k).phys).contains 23) = true ∧ 20 ≤ n) ((State.modSlot (State.modSlot live 3 fun x =>
        { x with phys := 22 }) 4 fun x => { x with phys := 23 })) 20) := by
  refine ⟨?_, ?_, ?_, ?_, ?_, ?_⟩
  · decide
  · decide
  · decide
  · decide +kernel
  · decide
  · decide

/-- States and operands that meet the hypotheses of ServoSeeks, clause by clause. -/
theorem witness_ServoSeeks :
    ((fun (s : State) (ag : Agent) (a : Nat) (v : Word) (x : Int) => Ready (.go ag a v) s ∧ Accepts s (.sceActCmd a) v ∧ s.targetRef a
        = some x ∧ 2 ^ 42 ≤ (x - (s.act a).xRef).natAbs) witFollowing .mgmt 1 0x80000000 (5 * 2 ^ 42)) ∧
    ((fun (s : State) (ag : Agent) (a : Nat) (v : Word) (x : Int) => Ready (.go ag a v) s ∧ Accepts s (.sceActCmd a) v ∧ s.targetRef a
        = some x ∧ (x - (s.act a).xRef).natAbs < 2 ^ 42) ((State.modAct witFollowing 1 fun x => { x with xRef := 5 * 2 ^ 42 })) .mgmt 1
        0x80000000 (5 * 2 ^ 42)) ∧
    ((fun (s : State) (a : Nat) (r : Trajectory) => Ready (.seekEnd a) s ∧ (s.act a).traj = some r ∧ (s.act a).state = .seeking ∧
        s.pwr.save = none) ((State.modAct live 1 fun x => { x with state := .seeking, traj := some witTraj })) 1 witTraj) ∧
    ((fun (s : State) (a : Nat) => Ready (.seekTimeout a) s ∧ ((s.act a).state = .seeking ∨ (s.act a).state = .settling) ∧ (s.act
        a).goTime ≠ 0 ∧ (s.act a).timeouts = 0) ((State.modAct live 1 fun x => { x with state := .seeking, goTime := 7 })) 1) ∧
    ((fun (s : State) (a : Nat) => Ready (.seekTimeout a) s ∧ ((s.act a).state = .seeking ∨ (s.act a).state = .settling) ∧ (s.act
        a).goTime ≠ 0 ∧ 1 ≤ (s.act a).timeouts) ((State.modAct live 1 fun x =>
        { x with state := .seeking, goTime := 7, timeouts := 1 })) 1) := by
  refine ⟨?_, ?_, ?_, ?_, ?_⟩
  · decide +kernel
  · decide +kernel
  · repeat' apply And.intro
    all_goals first | decide +kernel | rfl
  · decide
  · decide

/-- States and operands that meet the hypotheses of ServoLoadAndUnload, clause by clause. -/
theorem witness_ServoLoadAndUnload :
    ((fun (s : State) (ag : Agent) (a : Nat) (v : Word) => Ready (.load ag a v) s ∧ Accepts s (.sceActCmd a) v)
        { (State.modAct witFollowing 1 fun x => { x with state := .unloaded }) with spn := { spnReset with state := .atSpeed } } .mgmt
        1 0x40000000) ∧
    ((fun (s : State) (ag : Agent) (a : Nat) (v : Word) => Ready (.unload ag a v) s ∧ Accepts s (.sceActCmd a) v) witFollowing .mgmt 1
        0x20000000) ∧
    ((fun (s : State) (a x : Nat) => Ready (.unloadDone a) s ∧ (s.act a).state = .unloading ∧ (s.act a).slowSince = some x ∧ (s.act
        a).reloadDue = none ∧ s.spn.faultPending = false ∧ s.pwr.toLoad = [] ∧ s.pwr.change = none) ((State.modAct live 1 fun x =>
        { x with state := .unloading, slowSince := some 7 })) 1 7) ∧
    ((fun (s : State) (a x y : Nat) => Ready (.unloadDone a) s ∧ (s.act a).state = .retract ∧ (s.act a).slowSince = some x ∧ (s.act
        a).reloadDue = some y ∧ s.spn.faultPending = false ∧ s.pwr.toLoad = [] ∧ s.pwr.change = none) ((State.modAct live 1 fun x =>
        { x with state := .retract, reloadDue := some 0, slowSince := some 7 })) 1 7 0) ∧
    ((fun (s : State) (a : Nat) => Ready (.unloadDone a) s ∧ (s.act a).slowSince = none ∧ s.spn.faultPending = false ∧ s.pwr.toLoad =
        [] ∧ s.pwr.change = none) live 1) ∧
    ((fun (s : State) (a : Nat) => Ready (.loadFail a) s ∧ (s.act a).state = .loading) ((State.modAct live 1 fun x =>
        { x with state := .loading })) 1) ∧
    ((fun (s : State) (a : Nat) => Ready (.unloadFail a) s ∧ ((s.act a).state = .unloading ∨ (s.act a).state = .retract))
        ((State.modAct live 1 fun x => { x with state := .unloading })) 1) ∧
    ((fun (s : State) (a x : Nat) => Ready (.faultReload a) s ∧ (s.act a).state = .unloaded ∧ (s.act a).reloadDue = some x ∧ x ≠ 0 ∧
        (s.act a).retireAfter = false ∧ s.spn.state = .atSpeed)
        { (State.modAct live 1 fun x => { x with reloadDue := some 5 }) with spn := { spnReset with state := .atSpeed } } 1 5) ∧
    ((fun (s : State) (a x : Nat) => Ready (.faultReload a) s ∧ (s.act a).state = .unloaded ∧ (s.act a).reloadDue = some x ∧ x ≠ 0 ∧
        (s.act a).retireAfter = true) ((State.modAct live 1 fun x => { x with reloadDue := some 5, retireAfter := true })) 1 5) := by
  refine ⟨?_, ?_, ?_, ?_, ?_, ?_, ?_, ?_, ?_⟩
  · decide
  · decide
  · decide
  · decide
  · decide
  · decide
  · decide
  · decide
  · decide

/-- States and operands that meet the hypotheses of SequencerOperations, clause by clause. -/
theorem witness_SequencerOperations :
    ((fun (s : State) (q pos : Nat) => Ready (.nop q pos) s ∧ s.seqReady q = true ∧ mwAtm (s.mword q) = 0 ∧ s.seq.done = [] ∧ mwOpc
        (s.mword q) = 0) ((witSeq 3 0x10010800500000 fun x => { x with state := .running, vars := [7, 9] ++ List.replicate 14 0 })) 3
        20) ∧
    ((fun (s : State) (q pos : Nat) => Ready (.ldi q pos) s ∧ s.seqReady q = true ∧ mwAtm (s.mword q) = 0 ∧ s.seq.done = [] ∧ mwOpc
        (s.mword q) = 1) ((witSeq 3 0x110800500000 fun x => { x with state := .running, vars := [7, 9] ++ List.replicate 14 0 })) 3 20) ∧
    ((fun (s : State) (q pos : Nat) => Ready (.ldih q pos) s ∧ s.seqReady q = true ∧ mwAtm (s.mword q) = 0 ∧ s.seq.done = [] ∧ mwOpc
        (s.mword q) = 2) ((witSeq 3 0x210800500000 fun x => { x with state := .running, vars := [7, 9] ++ List.replicate 14 0 })) 3 20) ∧
    ((fun (s : State) (q pos : Nat) => Ready (.add q pos) s ∧ s.seqReady q = true ∧ mwAtm (s.mword q) = 0 ∧ s.seq.done = [] ∧ mwOpc
        (s.mword q) = 3) ((witSeq 3 0x310800500000 fun x => { x with state := .running, vars := [7, 9] ++ List.replicate 14 0 })) 3 20) ∧
    ((fun (s : State) (q pos : Nat) => Ready (.addv q pos) s ∧ s.seqReady q = true ∧ mwAtm (s.mword q) = 0 ∧ s.seq.done = [] ∧ mwOpc
        (s.mword q) = 4) ((witSeq 3 0x410800500000 fun x => { x with state := .running, vars := [7, 9] ++ List.replicate 14 0 })) 3 20) ∧
    ((fun (s : State) (q pos : Nat) => Ready (.and q pos) s ∧ s.seqReady q = true ∧ mwAtm (s.mword q) = 0 ∧ s.seq.done = [] ∧ mwOpc
        (s.mword q) = 5) ((witSeq 3 0x510800500000 fun x => { x with state := .running, vars := [7, 9] ++ List.replicate 14 0 })) 3 20) ∧
    ((fun (s : State) (q pos : Nat) => Ready (.cmp q pos) s ∧ s.seqReady q = true ∧ mwAtm (s.mword q) = 0 ∧ s.seq.done = [] ∧ mwOpc
        (s.mword q) = 6) ((witSeq 3 0x610800500000 fun x => { x with state := .running, vars := [7, 9] ++ List.replicate 14 0 })) 3 20) ∧
    ((fun (s : State) (q pos : Nat) => Ready (.cmpv q pos) s ∧ s.seqReady q = true ∧ mwAtm (s.mword q) = 0 ∧ s.seq.done = [] ∧ mwOpc
        (s.mword q) = 7) ((witSeq 3 0x710800500000 fun x => { x with state := .running, vars := [7, 9] ++ List.replicate 14 0 })) 3 20) := by
  refine ⟨?_, ?_, ?_, ?_, ?_, ?_, ?_, ?_⟩
  · decide
  · decide
  · decide
  · decide
  · decide
  · decide
  · decide
  · decide

/-- States and operands that meet the hypotheses of SequencerPorts, clause by clause. -/
theorem witness_SequencerPorts :
    ((fun (s : State) (q pos : Nat) => Ready (.ldp q pos) s ∧ s.seqReady q = true ∧ mwAtm (s.mword q) = 0 ∧ s.seq.done = [] ∧ mwOpc
        (s.mword q) = 8 ∧ s.portOk q (mwImm (s.mword q)) = true) ((witSeq 3 0x810001800000 fun x =>
        { x with state := .running, vars := [7, 9] ++ List.replicate 14 0 })) 3 20) ∧
    ((fun (s : State) (q pos : Nat) => Ready (.ldp q pos) s ∧ s.seqReady q = true ∧ mwAtm (s.mword q) = 0 ∧ s.seq.done = [] ∧ mwOpc
        (s.mword q) = 8 ∧ s.portOk q (mwImm (s.mword q)) = false) ((witSeq 3 0x810008200000 fun x =>
        { x with state := .running, vars := [7, 9] ++ List.replicate 14 0 })) 3 20) ∧
    ((fun (s : State) (q pos : Nat) => Ready (.stp q pos) s ∧ s.seqReady q = true ∧ mwAtm (s.mword q) = 0 ∧ s.seq.done = [] ∧ mwOpc
        (s.mword q) = 9 ∧ mwImm (s.mword q) = 1 ∧ q < 16) ((witSeq 3 0x900000100000 fun x =>
        { x with state := .running, vars := [7, 9] ++ List.replicate 14 0 })) 3 20) ∧
    ((fun (s : State) (q pos : Nat) => Ready (.stp q pos) s ∧ s.seqReady q = true ∧ mwAtm (s.mword q) = 0 ∧ s.seq.done = [] ∧ mwOpc
        (s.mword q) = 9 ∧ mwImm (s.mword q) = 0x82 ∧ 16 ≤ q) ((witSeq 16 0x900008200000 fun x =>
        { x with state := .running, vars := [7, 9] ++ List.replicate 14 0 })) 16 20) ∧
    ((fun (s : State) (q pos k : Nat) => Ready (.stp q pos) s ∧ s.seqReady q = true ∧ mwAtm (s.mword q) = 0 ∧ s.seq.done = [] ∧ mwOpc
        (s.mword q) = 9 ∧ mwImm (s.mword q) = 0x80 ∧ 16 ≤ q ∧ fld (seqVar (s.seqr q) (mwSrc (s.mword q))) 3 0 = k ∧ (s.seqr k).state ≠
        .failed ∧ (s.seqr k).items = [] ∧ k < 16) ((witSeq 16 0x900008000000 fun x =>
        { x with state := .running, vars := [7, 9] ++ List.replicate 14 0 })) 16 20 7) ∧
    ((fun (s : State) (q pos : Nat) => Ready (.stp q pos) s ∧ s.seqReady q = true ∧ mwAtm (s.mword q) = 0 ∧ s.seq.done = [] ∧ mwOpc
        (s.mword q) = 9 ∧ s.portOk q (mwImm (s.mword q)) = false) ((witSeq 3 0x900008000000 fun x =>
        { x with state := .running, vars := [7, 9] ++ List.replicate 14 0 })) 3 20) ∧
    ((fun (s : State) (q pos : Nat) => Ready (.stp q pos) s ∧ s.seqReady q = true ∧ mwAtm (s.mword q) = 0 ∧ s.seq.done = [] ∧ mwOpc
        (s.mword q) = 9 ∧ (within (mwImm (s.mword q)) 0x08 0x0F ∨ within (mwImm (s.mword q)) 0x18 0x1A ∨ mwImm (s.mword q) = 0x1C))
        ((witSeq 3 0x900001800000 fun x => { x with state := .running, vars := [7, 9] ++ List.replicate 14 0 })) 3 20) := by
  refine ⟨?_, ?_, ?_, ?_, ?_, ?_, ?_⟩
  · decide
  · decide
  · decide
  · decide
  · decide
  · decide
  · decide

/-- States and operands that meet the hypotheses of SequencerFlow, clause by clause. -/
theorem witness_SequencerFlow :
    ((fun (s : State) (q : Nat) => Ready (.branch q) s ∧ s.flowReady q 0 = true ∧ (s.seqr q).inherit_ = [] ∧ (s.seqr q).other = none ∧
        s.seq.done = []) ((witSeq 3 0x1000400000000000001000000000000 fun x => { x with state := .running, stage := .flow })) 3) ∧
    ((fun (s : State) (q : Nat) => Ready (.call q) s ∧ s.flowReady q 1 = true ∧ (s.seqr q).stack.length < 4 ∧ (s.seqr q).inherit_ = []
        ∧ (s.seqr q).other = none ∧ s.seq.done = []) ((witSeq 3 0x1010400000000000001000000000000 fun x =>
        { x with state := .running, stage := .flow })) 3) ∧
    ((fun (s : State) (q : Nat) => Ready (.call q) s ∧ s.flowReady q 1 = true ∧ 4 ≤ (s.seqr q).stack.length ∧ s.seq.done = []) ((witSeq
        3 0x1010400000000000001000000000000 fun x => { x with state := .running, stage := .flow, stack := [1, 2, 3, 4] })) 3) ∧
    ((fun (s : State) (q a : Nat) (l : List Nat) => Ready (.ret q) s ∧ s.flowReady q 2 = true ∧ (s.seqr q).stack = l ++ [a] ∧ (s.seqr
        q).inherit_ = [] ∧ (s.seqr q).other = none ∧ s.seq.done = []) ((witSeq 3 0x1020400000000000001000000000000 fun x =>
        { x with state := .running, stage := .flow, stack := [1, 2] })) 3 2 [1]) ∧
    ((fun (s : State) (q : Nat) => Ready (.ret q) s ∧ s.flowReady q 2 = true ∧ (s.seqr q).stack = [] ∧ s.seq.done = []) ((witSeq 3
        0x1020400000000000001000000000000 fun x => { x with state := .running, stage := .flow })) 3) ∧
    ((fun (s : State) (q : Nat) (r : TrapRec) => Ready (.rett q) s ∧ s.flowReady q 3 = true ∧ 16 ≤ q ∧ (s.seqr q).trap = some r ∧
        s.seq.stopReq = false ∧ mwCommit (s.mword q) = false ∧ s.seq.done = []) ((witSeq 17 0x30000000000000000000000000000 fun x =>
        { x with state := .running, stage := .flow, trap := some witTrap })) 17 witTrap) ∧
    ((fun (s : State) (q : Nat) (r : TrapRec) => Ready (.rett q) s ∧ s.flowReady q 3 = true ∧ 16 ≤ q ∧ (s.seqr q).trap = some r ∧
        s.seq.stopReq = false ∧ mwCommit (s.mword q) = true ∧ s.seq.done = []) ((witSeq 17 0x1030400000000000001000000000000 fun x =>
        { x with state := .running, stage := .flow, trap := some witTrap })) 17 witTrap) := by
  refine ⟨?_, ?_, ?_, ?_, ?_, ?_, ?_⟩
  · decide
  · decide
  · decide
  · decide
  · decide
  · repeat' apply And.intro
    all_goals first | decide +kernel | rfl
  · repeat' apply And.intro
    all_goals first | decide +kernel | rfl

/-- States and operands that meet the hypotheses of SequencerWaits, clause by clause. -/
theorem witness_SequencerWaits :
    ((fun (s : State) (q pos : Nat) => Ready (.actAtPosition q pos) s ∧ s.seqReady q = true ∧ mwAtm (s.mword q) ≠ 0 ∧ pos < s.wordPos q
        ∧ s.posNow q ≤ pos ∧ s.wordPos q ≤ 0xFFFFF ∧ s.seq.done = []) ((witSeq 3 0x80019000000000000000 fun x =>
        { x with state := .running, vars := [7, 9] ++ List.replicate 14 0 })) 3 20) ∧
    ((fun (s : State) (q pos : Nat) => Ready (.actAtPosition q pos) s ∧ s.seqReady q = true ∧ mwAtm (s.mword q) ≠ 0 ∧ s.wordPos q ≤ min
        pos 0xFFFFF ∧ (s.posRate q ≠ 0 ∨ pos = s.wordPos q) ∧ mwOpc (s.mword q) = 0 ∧ s.seq.done = []) ((witSeq 3
        0x80019000000000000000 fun x => { x with state := .running, vars := [7, 9] ++ List.replicate 14 0 })) 3 50) ∧
    ((fun (s : State) (q : Nat) (o : MediaObs) => Ready (.waitEnd q o) s ∧ q < 16 ∧ (s.seqr q).stage = .wait ∧ (s.seqr q).state ≠
        .failed ∧ (s.seqr q).state ≠ .stopped ∧ (s.observe (s.seqr q).stream o).seqCond q (mwWait (s.mword q)) ≠ mwWneg (s.mword q) ∧
        s.seq.done = []) (((witSeq 3 0x4800200000000000000000000 fun x => { x with state := .waiting, stage := .wait })).modStream 3
        fun y => { y with readers := 1, readGate := true, inSector := true }) 3 (.syncMark (some (0, 0)) none [])) ∧
    ((fun (s : State) (q : Nat) (o : MediaObs) => Ready (.waitEnd q o) s ∧ q < 16 ∧ (s.seqr q).stage = .wait ∧ (s.seqr q).other = none
        ∧ (s.observe (s.seqr q).stream o).seqCond q (mwWait (s.mword q)) = mwWneg (s.mword q) ∧ s.seq.done = []) (((witSeq 3
        0x4800200000000000000000000 fun x => { x with state := .waiting, stage := .wait })).modStream 3 fun y =>
        { y with readers := 1, readGate := true, inSector := true }) 3 (.syncMark none none [])) ∧
    ((fun (s : State) (q : Nat) => Ready (.waitTimeout q) s ∧ (s.seqr q).stage = .wait ∧ mwTmo (s.mword q) ≠ 0 ∧ (s.seqr q).state ≠
        .failed ∧ (s.seqr q).state ≠ .stopped ∧ s.seq.done = []) ((witSeq 3 0x4800400000000000000000000 fun x =>
        { x with state := .waiting, stage := .wait })) 3) := by
  refine ⟨?_, ?_, ?_, ?_, ?_⟩
  · decide
  · decide
  · decide +kernel
  · decide +kernel
  · decide

/-- States and operands that meet the hypotheses of SequencerRestarts, clause by clause. -/
theorem witness_SequencerRestarts :
    ((fun (s : State) (q : Nat) => Ready (.seqInterrupt q) s ∧ (s.seqr q).pendingCause ≠ 0 ∧ (s.seqr q).state ≠ .failed ∧ (s.seqr
        q).state ≠ .stopped ∧ (s.seqr q).fromSnap < 7 ∧ (s.seqr q).snap = none ∧ s.seq.done = []) ((witSeq 3 0 fun x =>
        { x with state := .running, pendingCause := 1 })) 3) ∧
    ((fun (s : State) (q : Nat) (n : Snapshot) => Ready (.seqInterrupt q) s ∧ (s.seqr q).pendingCause ≠ 0 ∧ (s.seqr q).state ≠ .failed
        ∧ (s.seqr q).state ≠ .stopped ∧ (s.seqr q).fromSnap < 7 ∧ (s.seqr q).snap = some n ∧ s.seq.done = []) ((witSeq 3 0 fun x =>
        { x with state := .running, pendingCause := 1, snap := some (snapOf x 5) })) 3 (snapOf (idleSeq 3) 5)) ∧
    ((fun (s : State) (q : Nat) => Ready (.privTrap q) s ∧ (q = 16 ∨ q = 17) ∧ (s.seqr q).pendingCause ≠ 0 ∧ (s.seqr q).state ≠ .failed
        ∧ (s.seqr q).trap = none ∧ ((s.seqr q).stage ≠ .flow ∨ (s.seqr q).pendingCause &&& faultCauses ≠ 0) ∧ s.seq.done = []) ((witSeq
        16 0 fun x => { x with state := .running, pendingCause := 1024 })) 16) ∧
    ((fun (s : State) (q k : Nat) => Ready (.lockstepFail q) s ∧ (s.seqr q).state ≠ .failed ∧ s.heirOf q = some k ∧ s.seq.done = [] ∧ q
        < 16) ((witSeq 3 0 fun x => { x with state := .running, vars := [7, 9] ++ List.replicate 14 0 })) 3 0) ∧
    ((fun (s : State) (q k : Nat) => Ready (.lockstepFail q) s ∧ (s.seqr q).state ≠ .failed ∧ s.heirOf q = some k ∧ s.seq.done = [] ∧
        16 ≤ q ∧ q < 18 ∧ (s.seqr k).state ≠ .idle) ((witSeq 17 0 fun x => { x with state := .running }).modSeq 16 fun x =>
        { x with state := .running }) 17 16) ∧
    ((fun (s : State) (q : Nat) => Ready (.controlStoreReload q true) s ∧ (s.seqr q).stage = .fetch ∧ (s.seqr q).state ≠ .failed ∧ aget
        s.seq.reloads (s.seqr q).pc = none ∧ s.seq.bad = [] ∧ s.seq.done = []) ((witSeq 3 0 fun x =>
        { x with state := .running, vars := [7, 9] ++ List.replicate 14 0 })) 3) ∧
    ((fun (s : State) (q : Nat) => Ready (.controlStoreReload q false) s ∧ s.badWord q = false ∧ s.seq.done = []) ((witSeq 3 0 fun x =>
        { x with state := .running, vars := [7, 9] ++ List.replicate 14 0 })) 3) ∧
    ((fun (s : State) (ag : Agent) (v : Word) => Ready (.seqCsRead ag v) s ∧ Accepts s .seqCsDiag v ∧ bit v 30 = false) live .mgmt
        0x80000000) ∧
    ((fun (s : State) (ag : Agent) (v : Word) => Ready (.seqCsInject ag v) s ∧ Accepts s .seqCsDiag v ∧ bit v 31 = false ∧
        s.seq.bad.contains (fld v 13 0, fld v 15 14) = false) live .mgmt 0x40000007) := by
  refine ⟨?_, ?_, ?_, ?_, ?_, ?_, ?_, ?_, ?_⟩
  · decide
  · decide
  · decide
  · decide
  · decide
  · decide
  · decide
  · decide
  · decide

/-- States and operands that meet the hypotheses of HeadsAndFrontEnds, clause by clause. -/
theorem witness_HeadsAndFrontEnds :
    ((fun (s : State) (ag : Agent) (st : Nat) (v : Word) => Ready (.chnStHeadWrite ag st v) s ∧ Accepts s (.chnStHead st) v) witSurf
        .mgmt 4 0x101) ∧
    ((fun (s : State) (ag : Agent) (st : Nat) (v : Word) => Ready (.chnStHeadWrite ag st v) s ∧ s.blockOff (.chnStHead st) = false ∧
        s.wordRefused (.chnStHead st) v = false ∧ fld v 9 8 ≠ 0 ∧ s.headTaken st (fld v 4 0) = true) ((State.modStream witSurf 5 fun x
        => { x with readers := 1, head := 1 })) (.core 2) 4 0x101) ∧
    ((fun (s : State) (st : Nat) (w : Word) => Ready (.headSwitch st) s ∧ (s.stream st).pendingHead = some w ∧ (s.stream st).readGate =
        false ∧ (s.stream st).writeGate = false ∧ (s.stream st).inSector = false ∧ s.pwr.toLoad = []) ((State.modStream live 4 fun x =>
        { x with readers := 1, head := 1, pendingHead := some 0x302 })) 4 0x302) ∧
    ((fun (s : State) (st : Nat) => Ready (.headSwitch st) s ∧ ((s.stream st).pendingHead = none ∨ (s.stream st).readGate = true ∨
        (s.stream st).writeGate = true ∨ (s.stream st).inSector = true) ∧ s.pwr.toLoad = []) ((State.modStream live 4 fun x =>
        { x with readers := 1, readGate := true, pendingHead := some 0x302 })) 4) ∧
    ((fun (s : State) (ag : Agent) (n : Nat) (v : Word) => Ready (.chnAfSelWrite ag n v) s ∧ Accepts s (.chnAfSel n) v) live .mgmt 9
        0x80000003) ∧
    ((fun (s : State) (ag : Agent) (n : Nat) (v : Word) => Ready (.chnAfSelWrite ag n v) s ∧ s.blockOff (.chnAfSel n) = false ∧
        s.wordRefused (.chnAfSel n) v = false ∧ bit v 31 = true ∧ (s.stream (n / 2)).readers ≠ 0) ((State.modStream live 4 fun x =>
        { x with readers := 1 })) .mgmt 9 0x80000003) ∧
    ((fun (s : State) (n : Nat) => Ready (.frontEndFail n) s ∧ s.chn.afFailed.contains n = false) ((State.modStream live 4 fun x =>
        { x with readers := 3 })) 9) ∧
    ((fun (s : State) (n : Nat) => Ready (.frontEndFail n) s ∧ s.chn.afFailed.contains n = true)
        { live with chn := { live.chn with afFailed := [9] } } 9) := by
  refine ⟨?_, ?_, ?_, ?_, ?_, ?_, ?_, ?_⟩
  · decide
  · decide
  · repeat' apply And.intro
    all_goals first | decide +kernel | rfl
  · decide
  · decide
  · decide
  · decide
  · decide

/-- States and operands that meet the hypotheses of ServoWedges, clause by clause. -/
theorem witness_ServoWedges :
    ((fun (s : State) (st : Nat) (o : WedgeObs) => Ready (.servoWedge st o) s ∧ (s.stream st).readers ≠ 0 ∧ o.sam = true)
        ((State.modStream live 4 fun x => { x with readers := 1, head := 1, noMark := 1 })) 4 witWedge) ∧
    ((fun (s : State) (st : Nat) (o : WedgeObs) => Ready (.servoWedge st o) s ∧ (s.stream st).readers ≠ 0 ∧ o.sam = false)
        ((State.modStream live 4 fun x => { x with readers := 1, head := 1, noMark := 1, locked := true })) 4
        { witWedge with sam := false }) ∧
    ((fun (s : State) (st : Nat) (o : WedgeObs) => Ready (.servoWedge st o) s ∧ (s.stream st).readers = 0) live 4 witWedge) := by
  refine ⟨?_, ?_, ?_⟩
  · decide
  · decide
  · decide

/-- States and operands that meet the hypotheses of DecodingAndLadder, clause by clause. -/
theorem witness_DecodingAndLadder :
    ((fun (s : State) (st : Nat) (o : DecodeObs) (r : Reading) (rest : List Reading) => Ready (.decodeStop st o) s ∧ (s.stream
        st).decoding = r :: rest ∧ (r.missed ≠ 0 ∨ r.endAt.isSome = true)) ((State.modStream (live) 4 fun x =>
        { x with readers := 1, decoding := [{ witReading with endAt := some 0 }] })) 4 { word := 1, values := [3, -4], iter := 7 }
        { witReading with endAt := some 0 } []) ∧
    ((fun (s : State) (st : Nat) (o : DecodeObs) (r : Reading) (rest : List Reading) => Ready (.decodeStop st o) s ∧ (s.stream
        st).decoding = r :: rest ∧ r.missed = 0 ∧ r.endAt = none) ((State.modStream (live) 4 fun x =>
        { x with readers := 1, decoding := [witReading] })) 4 { word := 1, values := [3, -4], iter := 7 } witReading []) ∧
    ((fun (s : State) (st : Nat) (o : DecodeObs) => Ready (.decodeStop st o) s ∧ (s.stream st).decoding = []) live 4
        { word := 1, values := [], iter := 7 }) ∧
    ((fun (s : State) (st : Nat) (o : DecodeObs) (r : Reading) (rest : List Reading) (n m p : Nat) => Ready (.decodeStop st o) s ∧
        (s.stream st).decoding = r :: rest ∧ (r.missed ≠ 0 ∨ r.endAt.isSome = true) ∧ r.kind ≠ 5 ∧ r.kind ≠ 3 ∧ r.flags.testBit 1 =
        false ∧ s.stopHow r o = 0 ∧ s.rowOf r.surface r.track r.sector = some (n, m, p)) ((State.modStream (witRow) 4 fun x =>
        { x with readers := 1, decoding := [{ witReading with endAt := some 0 }] })) 4 { word := witWord, values := [], iter := 7 }
        { witReading with endAt := some 0 } [] 0 0 0) ∧
    ((fun (s : State) (st : Nat) (o : DecodeObs) (r : Reading) (rest : List Reading) => Ready (.decodeStop st o) s ∧ (s.stream
        st).decoding = r :: rest ∧ (r.missed ≠ 0 ∨ r.endAt.isSome = true) ∧ r.kind ≠ 5 ∧ r.kind ≠ 3 ∧ r.flags.testBit 1 = false ∧
        (s.stopHow r o = 1 ∨ s.stopHow r o = 2) ∧ (s.chn.ladders.any (fun l : Nat × Ladder => l.2.surface == r.surface && l.2.track ==
        r.track && l.2.sector == r.sector)) = false ∧ s.chn.deepQueue.length < 64) ((State.modStream (live) 4 fun x =>
        { x with readers := 1, decoding := [{ witReading with endAt := some 0 }] })) 4 { word := 1, values := [3, -4], iter := 7 }
        { witReading with endAt := some 0 } []) ∧
    ((fun (s : State) (st : Nat) (o : DecodeObs) (r : Reading) (rest : List Reading) => Ready (.decodeStop st o) s ∧ (s.stream
        st).decoding = r :: rest ∧ (r.missed ≠ 0 ∨ r.endAt.isSome = true) ∧ r.kind ≠ 5 ∧ r.kind ≠ 3 ∧ r.flags.testBit 1 = false ∧ 3 ≤
        s.stopHow r o ∧ (s.chn.ladders.any (fun l : Nat × Ladder => l.2.surface == r.surface && l.2.track == r.track && l.2.sector ==
        r.sector)) = false ∧ 1 ≤ fld (s.rv .chnEscCfg) 1 0 ∧ (s.healthyHeads r.surface).isEmpty = false) ((State.modStream (live) 4 fun
        x => { x with readers := 1, decoding := [{ witReading with missed := 4 }] })) 4 { word := 1, values := [3, -4], iter := 7 }
        { witReading with missed := 4 } []) ∧
    ((fun (s : State) (st : Nat) (o : DecodeObs) (r : Reading) (rest : List Reading) => Ready (.decodeStop st o) s ∧ (s.stream
        st).decoding = r :: rest ∧ (r.missed ≠ 0 ∨ r.endAt.isSome = true) ∧ r.kind ≠ 5 ∧ r.kind ≠ 3 ∧ r.flags.testBit 1 = false ∧
        s.stopHow r o ≠ 0 ∧ (s.chn.ladders.any (fun l : Nat × Ladder => l.2.surface == r.surface && l.2.track == r.track && l.2.sector
        == r.sector)) = true) ((State.modStream (witLadder) 4 fun x =>
        { x with readers := 1, decoding := [{ witReading with endAt := some 0 }] })) 4 { word := 1, values := [3, -4], iter := 7 }
        { witReading with endAt := some 0 } []) ∧
    ((fun (s : State) (st : Nat) (o : DecodeObs) (r : Reading) (rest : List Reading) => Ready (.decodeStop st o) s ∧ (s.stream
        st).decoding = r :: rest ∧ (r.missed ≠ 0 ∨ r.endAt.isSome = true) ∧ r.kind = 3) ((State.modStream (live) 4 fun x =>
        { x with readers := 1, decoding := [{ witReading with kind := 3, endAt := some 0 }] })) 4
        { word := 1, values := [3, -4], iter := 7 } { witReading with kind := 3, endAt := some 0 } []) ∧
    ((fun (s : State) (k : Nat) (w : BitVec 41216) => Ready (.deepDecodeDone k w) s ∧ s.chn.deepBusy[k]? = none) live 0 1) ∧
    ((fun (s : State) (k : Nat) (w : BitVec 41216) (j : DeepJob) (l : Ladder) => Ready (.deepDecodeDone k w) s ∧ s.chn.deepBusy[k]? =
        some j ∧ j.member = none ∧ aget s.chn.ladders j.ladder = some l ∧ wordOutcome l.code w = 0) witLadder 0 witWord
        { ladder := 3, member := none, first := true, begun := 0 } witLad) ∧
    ((fun (s : State) (k : Nat) (w : BitVec 41216) (j : DeepJob) (l : Ladder) => Ready (.deepDecodeDone k w) s ∧ s.chn.deepBusy[k]? =
        some j ∧ j.member = none ∧ aget s.chn.ladders j.ladder = some l ∧ wordOutcome l.code w ≠ 0 ∧ l.row = none ∧ l.rereadDue = false
        ∧ l.reads < ladRereads l ∧ (s.healthyHeads l.surface).isEmpty = false ∧ ((s.chn.deepQueue ++ s.chn.deepBusy.eraseIdx k).any fun
        d => d.ladder == j.ladder && d.member.isNone) = false) witLadder 0 1 { ladder := 3, member := none, first := true, begun := 0 }
        witLad) ∧
    ((fun (s : State) (k m : Nat) (w : BitVec 41216) (j : DeepJob) (l : Ladder) => Ready (.deepDecodeDone k w) s ∧ s.chn.deepBusy[k]? =
        some j ∧ j.member = some m ∧ aget s.chn.ladders j.ladder = some l ∧ wordOutcome l.code w = 0)
        { witLadder with chn := { witLadder.chn with deepBusy := [{ ladder := 3, member := some 1, first := false, begun := 0 }] } } 0
        1 witWord { ladder := 3, member := some 1, first := false, begun := 0 } witLad) ∧
    ((fun (s : State) (ix : Nat) (missed : Bool) (values : List Int) (l : Ladder) => Ready (.rereadDone ix missed values) s ∧ aget
        s.chn.ladders ix = some l ∧ l.rereadDue = false) witLadder 3 false [] witLad) ∧
    ((fun (s : State) (ix : Nat) (values : List Int) (l : Ladder) => Ready (.rereadDone ix false values) s ∧ aget s.chn.ladders ix =
        some l ∧ l.rereadDue = true) { live with chn := { live.chn with ladders := [(3, { witLad with rereadDue := true })] } } 3 [1,
        -2] { witLad with rereadDue := true }) ∧
    ((fun (s : State) (ix : Nat) (l : Ladder) (n m p key : Nat) => Ready (.rebuildDone ix) s ∧ aget s.chn.ladders ix = some l ∧
        l.rebuild = true ∧ l.row = some (n, m, p) ∧ s.rebuildNeed l ≤ l.gathered.length ∧ s.rebuildGood l = true ∧ s.blockAt n m p =
        some key ∧ fld l.cfg 11 8 ≤ 3) (witRebuild witLadRow) 3 witLadRow 0 0 0 (blockKey 1 5)) ∧
    ((fun (s : State) (ix : Nat) (l : Ladder) (n m p : Nat) => Ready (.rebuildDone ix) s ∧ aget s.chn.ladders ix = some l ∧ l.rebuild =
        true ∧ l.row = some (n, m, p) ∧ s.rebuildNeed l ≤ l.gathered.length ∧ s.rebuildGood l = false ∧ l.deep = false ∧ l.rereadDue =
        false ∧ ladRereads l ≤ l.reads) (witRebuild { witLadRow with gathered := [(5, 0)], reads := 3, deep := false }) 3
        { witLadRow with gathered := [(5, 0)], reads := 3, deep := false } 0 0 0) := by
  refine ⟨?_, ?_, ?_, ?_, ?_, ?_, ?_, ?_, ?_, ?_, ?_, ?_, ?_, ?_, ?_, ?_⟩
  · decide
  · decide
  · decide
  · exact ⟨by decide, rfl, Or.inr rfl, by decide, by decide, by decide, witStop _ _ _ rfl rfl rfl, by decide⟩
  · decide +kernel
  · decide +kernel
  · decide +kernel
  · decide
  · decide
  · exact ⟨by decide, rfl, rfl, rfl, witWord_good⟩
  · decide +kernel
  · exact ⟨by decide, rfl, rfl, rfl, witWord_good⟩
  · decide
  · decide
  · exact ⟨by decide, rfl, rfl, rfl, by decide, witRebuild_good, by decide, by decide⟩
  · decide +kernel

/-- States and operands that meet the hypotheses of PreampLinksAndCounters, clause by clause. -/
theorem witness_PreampLinksAndCounters :
    ((fun (s : State) (a : Nat) (w : BitVec 64) (parts : List Nat) => Ready (.linkAck a w parts) s ∧ (fldN w 63 60 ≠ 0xD ∨ fldN w 7 0 ≠
        (crc8 w).toNat)) live 1 5 []) ∧
    ((fun (s : State) (a : Nat) (w : BitVec 64) (parts : List Nat) => Ready (.linkAck a w parts) s ∧ fldN w 63 60 = 0xD ∧ fldN w 7 0 =
        (crc8 w).toNat ∧ (∀ f, f ∈ (s.link a).flight → ¬(fldN w 59 56 = f.cmd ∧ fldN w 55 51 = f.head ∧ fldN w 50 48 = f.seq)))
        ((State.modLink (live) 1 fun l =>
        { l with up := true, flight := [{ cmd := 2, head := 3, seq := 2, data := 0, tries := 1, sentAt := 0 }] })) 1 (frameBits 0xD 2 3
        1 0) []) ∧
    ((fun (s : State) (a : Nat) (w : BitVec 64) (parts : List Nat) (f : LinkFrame) => Ready (.linkAck a w parts) s ∧ (s.link a).flight
        = [f] ∧ fldN w 63 60 = 0xD ∧ fldN w 7 0 = (crc8 w).toNat ∧ fldN w 59 56 = f.cmd ∧ fldN w 55 51 = f.head ∧ fldN w 50 48 = f.seq
        ∧ f.cmd = 2 ∧ (s.link a).queue = [] ∧ (s.link a).up = true) ((State.modLink (live) 1 fun l =>
        { l with up := true, flight := [{ cmd := 2, head := 3, seq := 2, data := 0, tries := 1, sentAt := 0 }] })) 1 (frameBits 0xD 2 3
        2 0) [] { cmd := 2, head := 3, seq := 2, data := 0, tries := 1, sentAt := 0 }) ∧
    ((fun (s : State) (a : Nat) (w : BitVec 64) (parts : List Nat) (f : LinkFrame) => Ready (.linkAck a w parts) s ∧ (s.link a).flight
        = [f] ∧ fldN w 63 60 = 0xD ∧ fldN w 7 0 = (crc8 w).toNat ∧ fldN w 59 56 = f.cmd ∧ fldN w 55 51 = f.head ∧ fldN w 50 48 = f.seq
        ∧ f.cmd = 4 ∧ (s.link a).queue = [] ∧ (s.link a).up = true) ((State.modLink (live) 1 fun l =>
        { l with up := true, flight := [{ cmd := 4, head := 3, seq := 2, data := 1, tries := 1, sentAt := 0 }] })) 1 (frameBits 0xD 4 3
        2 0) [] { cmd := 4, head := 3, seq := 2, data := 1, tries := 1, sentAt := 0 }) ∧
    ((fun (s : State) (a : Nat) (w : BitVec 64) (parts : List Nat) (f : LinkFrame) => Ready (.linkAck a w parts) s ∧ (s.link a).flight
        = [f] ∧ fldN w 63 60 = 0xD ∧ fldN w 7 0 = (crc8 w).toNat ∧ fldN w 59 56 = f.cmd ∧ fldN w 55 51 = f.head ∧ fldN w 50 48 = f.seq
        ∧ f.cmd = 9 ∧ (s.link a).queue = [] ∧ (s.link a).up = true ∧ s.wrp.sweep.busy = true ∧ s.wrp.sweep.head = 18 * a + f.head)
        ((State.modLink ({ live with wrp := { live.wrp with sweep := { witSweep with head := 21 } } }) 1 fun l =>
        { l with up := true, flight := [{ cmd := 9, head := 3, seq := 2, data := 0, tries := 1, sentAt := 0 }] })) 1 (frameBits 0xD 9 3
        2 77) [] { cmd := 9, head := 3, seq := 2, data := 0, tries := 1, sentAt := 0 }) ∧
    ((fun (s : State) (a : Nat) (w : BitVec 64) (parts : List Nat) (f g : LinkFrame) => Ready (.linkAck a w parts) s ∧ (s.link
        a).flight = [f] ∧ fldN w 63 60 = 0xD ∧ fldN w 7 0 = (crc8 w).toNat ∧ fldN w 59 56 = f.cmd ∧ fldN w 55 51 = f.head ∧ fldN w 50
        48 = f.seq ∧ f.cmd ≠ 2 ∧ f.cmd ≠ 4 ∧ f.cmd ≠ 6 ∧ f.cmd ≠ 9 ∧ f.cmd ≠ 10 ∧ (s.link a).queue = [g] ∧ (s.link a).up = true)
        ((State.modLink (live) 1 fun l =>
        { l with up := true, flight := [{ cmd := 1, head := 3, seq := 2, data := 0, tries := 1, sentAt := 0 }], queue := [{ cmd := 3, head := 3, seq := 2, data := 7, tries := 1, sentAt := 0 }], nextSeq := 7 }))
        1 (frameBits 0xD 1 3 2 0) [] { cmd := 1, head := 3, seq := 2, data := 0, tries := 1, sentAt := 0 }
        { cmd := 3, head := 3, seq := 2, data := 7, tries := 1, sentAt := 0 }) ∧
    ((fun (s : State) (a : Nat) (w : BitVec 64) (parts : List Nat) (f : LinkFrame) => Ready (.linkAck a w parts) s ∧ (s.link a).flight
        = [f] ∧ fldN w 63 60 = 0xD ∧ fldN w 7 0 = (crc8 w).toNat ∧ fldN w 59 56 = f.cmd ∧ fldN w 55 51 = f.head ∧ fldN w 50 48 = f.seq
        ∧ f.cmd = 10 ∧ (∀ st, st ∈ streamsOf a → (s.stream st).readers = 0) ∧ (s.link a).queue = []) ((State.modLink live 1 fun l =>
        { l with resetDue := 9, flight := [{ cmd := 10, head := 31, seq := 2, data := 0, tries := 1, sentAt := 0 }] })) 1 (frameBits
        0xD 10 31 2 0) [] { cmd := 10, head := 31, seq := 2, data := 0, tries := 1, sentAt := 0 }) ∧
    ((fun (s : State) (a st : Nat) (w : BitVec 64) (parts : List Nat) (f : LinkFrame) => Ready (.linkAck a w parts) s ∧ (s.link
        a).flight = [f] ∧ fldN w 63 60 = 0xD ∧ fldN w 7 0 = (crc8 w).toNat ∧ fldN w 59 56 = f.cmd ∧ fldN w 55 51 = f.head ∧ fldN w 50
        48 = f.seq ∧ f.cmd = 10 ∧ st ∈ streamsOf a ∧ (s.stream st).readers ≠ 0) ((State.modLink (State.modStream live 6 fun x =>
        { x with readers := 1, head := 3 }) 1 fun l =>
        { l with resetDue := 9, flight := [{ cmd := 10, head := 31, seq := 2, data := 0, tries := 1, sentAt := 0 }] })) 1 6 (frameBits
        0xD 10 31 2 0) [] { cmd := 10, head := 31, seq := 2, data := 0, tries := 1, sentAt := 0 }) ∧
    ((fun (s : State) (a : Nat) (w : BitVec 64) (parts : List Nat) => Ready (.preampFault a w parts) s ∧ (fldN w 63 60 ≠ 0xD ∨ fldN w 7
        0 ≠ (crc8 w).toNat)) live 1 5 []) ∧
    ((fun (s : State) (a st : Nat) (w : BitVec 64) (parts : List Nat) => Ready (.preampFault a w parts) s ∧ fldN w 63 60 = 0xD ∧ fldN w
        7 0 = (crc8 w).toNat ∧ fldN w 59 56 = 15 ∧ fldN w 55 51 = 31 ∧ fldN w 50 48 = 0 ∧ fldN w 47 16 = 2 ^ (16 + st % 4) ∧ st ∈
        streamsOf a ∧ (s.stream st).readers ≠ 0) ((State.modStream live 6 fun x => { x with readers := 1, head := 3 })) 1 6 (frameBits
        0xD 15 31 0 0x40000) []) ∧
    ((fun (s : State) (a st : Nat) (w : BitVec 64) (parts : List Nat) => Ready (.preampFault a w parts) s ∧ fldN w 63 60 = 0xD ∧ fldN w
        7 0 = (crc8 w).toNat ∧ fldN w 59 56 = 15 ∧ fldN w 55 51 = 31 ∧ fldN w 50 48 = 0 ∧ fldN w 47 16 = 2 ^ (8 + st % 4) ∧ st ∈
        streamsOf a ∧ (s.stream st).readers ≠ 0 ∧ (s.lhead (headOf st (s.stream st))).contact = false) ((State.modStream live 6 fun x
        => { x with readers := 1, head := 3, writeGate := true })) 1 6 (frameBits 0xD 15 31 0 0x400) []) ∧
    ((fun (s : State) (a : Nat) (f : LinkFrame) (rest : List LinkFrame) => Ready (.linkAckTimeout a) s ∧ (s.link a).flight = f :: rest
        ∧ (s.link a).resetDue = 0 ∧ f.tries < 3 ∧ f.cmd ≠ 5) ((State.modLink (live) 1 fun l =>
        { l with up := true, flight := [{ cmd := 2, head := 3, seq := 2, data := 0, tries := 1, sentAt := 0 }] })) 1
        { cmd := 2, head := 3, seq := 2, data := 0, tries := 1, sentAt := 0 } []) ∧
    ((fun (s : State) (a : Nat) (f n : LinkFrame) (rest : List LinkFrame) => Ready (.linkAckTimeout a) s ∧ (s.link a).flight = f ::
        rest ∧ (s.link a).resetDue = 0 ∧ f.tries < 3 ∧ f.cmd = 5 ∧ ((rest ++ (s.link a).queue).reverse.find? fun g => g.cmd == 5 &&
        g.head == f.head) = some n) ((State.modLink (live) 1 fun l =>
        { l with up := true, flight := [{ cmd := 5, head := 3, seq := 2, data := 0, tries := 1, sentAt := 0 }], queue := [{ cmd := 5, head := 3, seq := 2, data := 9, tries := 1, sentAt := 0 }] }))
        1 { cmd := 5, head := 3, seq := 2, data := 0, tries := 1, sentAt := 0 }
        { cmd := 5, head := 3, seq := 2, data := 9, tries := 1, sentAt := 0 } []) ∧
    ((fun (s : State) (a : Nat) (f : LinkFrame) (rest : List LinkFrame) => Ready (.linkAckTimeout a) s ∧ (s.link a).flight = f :: rest
        ∧ (s.link a).resetDue = 0 ∧ 3 ≤ f.tries ∧ s.wrp.sweep.busy = false) ((State.modLink (State.modStream live 6 fun x =>
        { x with readers := 1, head := 3, writeGate := true }) 1 fun l =>
        { l with up := true, flight := [{ cmd := 2, head := 3, seq := 2, data := 0, tries := 3, sentAt := 0 }] })) 1
        { cmd := 2, head := 3, seq := 2, data := 0, tries := 3, sentAt := 0 } []) ∧
    ((fun (s : State) (a : Nat) => Ready (.linkResetRetry a) s ∧ (s.link a).resetDue ≠ 0) ((State.modLink live 1 fun l =>
        { l with resetDue := 5000 })) 1) ∧
    ((fun (s : State) (a : Nat) => Ready (.linkResetRetry a) s ∧ (s.link a).resetDue = 0) live 1) ∧
    ((fun (s : State) (ag : Agent) (v : Word) => Ready (.chnStatSnap ag v) s ∧ Accepts s .chnStatSel v)
        { live with chn := { live.chn with counters := [(5, 7)] } } .mgmt 0x80000000) ∧
    ((fun (s : State) (ag : Agent) (v : Word) => Ready (.chnStatSnapClear ag v) s ∧ Accepts s .chnStatSel v)
        { live with chn := { live.chn with counters := [(5, 7), (1030, 8)] } } .mgmt 0xC0000000) ∧
    ((fun (s : State) (ag : Agent) (n : Nat) (v : Word) => Ready (.plkClr ag n v) s ∧ Accepts s (.plkCtl n) v) ((State.modLink live 2
        fun l => { l with resends := 4, upCrc := 5 })) .mgmt 2 0x84) := by
  refine ⟨?_, ?_, ?_, ?_, ?_, ?_, ?_, ?_, ?_, ?_, ?_, ?_, ?_, ?_, ?_, ?_, ?_, ?_, ?_⟩
  · decide +kernel
  · decide +kernel
  · decide +kernel
  · decide +kernel
  · decide +kernel
  · decide +kernel
  · decide +kernel
  · decide +kernel
  · decide +kernel
  · decide +kernel
  · decide +kernel
  · decide
  · decide
  · decide
  · decide
  · decide
  · decide
  · decide
  · decide

/-- States and operands that meet the hypotheses of ContactAndWriteFaults, clause by clause. -/
theorem witness_ContactAndWriteFaults :
    ((fun (s : State) (h : Nat) => Ready (.contactRestore h) s ∧ (s.lhead h).contact = true) ((State.modHead (State.modStream live 6
        fun x => { x with readers := 1, head := 3 }) 21 fun x => { x with contact := true })) 21) ∧
    ((fun (s : State) (h : Nat) => Ready (.contactRestore h) s ∧ (s.lhead h).contact = false) live 21) ∧
    ((fun (s : State) (ag : Agent) (v : Word) => Ready (.touchdownStart ag v) s ∧ Accepts s .plkTdCtl v) ((State.modStream witSurf 6
        fun x => { x with readers := 1, head := 3 })) .mgmt 0x80020015) ∧
    ((fun (s : State) (ag : Agent) (v : Word) => Ready (.touchdownStart ag v) s ∧ s.blockOff .plkTdCtl = false ∧ s.wordRefused
        .plkTdCtl v = false ∧ s.tdRefused v = true) live .mgmt 0x80020015) ∧
    ((fun (s : State) => Ready .touchdownStep s ∧ s.wrp.sweep.busy = false) live) ∧
    ((fun (s : State) (b : Nat) => Ready .touchdownStep s ∧ s.wrp.sweep.busy = true ∧ s.wrp.sweep.baseline = some b ∧
        s.wrp.sweep.overAt = none ∧ (∀ l, l ∈ s.stepReadings (fld (s.rv .plkTdCtl) 19 16) → (deviation l).getD 0 ≤ b) ∧
        s.wrp.sweep.code < 255)
        { State.setRv (State.modStream live 6 fun x => { x with readers := 1, head := 3 }) .plkTdCtl 0x80020015 with wrp := { (State.setRv (State.modStream live 6 fun x => { x with readers := 1, head := 3 }) .plkTdCtl 0x80020015).wrp with sweep := { witSweep with head := 21, code := 9, baseline := some 4, readings := [(1, 3), (2, 5)] } } }
        4) ∧
    ((fun (s : State) (b : Nat) => Ready .touchdownStep s ∧ s.wrp.sweep.busy = true ∧ s.wrp.sweep.baseline = some b ∧ (∀ l, l ∈
        s.stepReadings (fld (s.rv .plkTdCtl) 19 16) → (deviation l).getD 0 ≤ b) ∧ s.wrp.sweep.code = 255)
        { State.setRv (State.modStream live 6 fun x => { x with readers := 1, head := 3 }) .plkTdCtl 0x80020015 with wrp := { (State.setRv (State.modStream live 6 fun x => { x with readers := 1, head := 3 }) .plkTdCtl 0x80020015).wrp with sweep := { witSweep with head := 21, code := 255, baseline := some 4, readings := [(1, 3), (2, 5)] } } }
        4) ∧
    ((fun (s : State) (st b c d : Nat) (l : List Nat) (ls : List (List Nat)) => Ready .touchdownStep s ∧ s.wrp.sweep.busy = true ∧
        s.wrp.sweep.baseline = some b ∧ s.wrp.sweep.overAt = some c ∧ ((streamsOf (s.wrp.sweep.head / 18)).find? fun st => (s.stream
        st).readers != 0 && headOf st (s.stream st) == s.wrp.sweep.head) = some st ∧ s.stepReadings (fld (s.rv .plkTdCtl) 19 16) = l ::
        ls ∧ deviation l = some d ∧ b + wprofByte (s.stream st).wprofile 25 < d)
        { State.setRv (State.modStream (live.modSpn fun x => { x with speed := 160000 }) 6 fun x => { x with readers := 1, head := 3 }) .plkTdCtl 0x80020015 with wrp := { (State.setRv (State.modStream (live.modSpn fun x => { x with speed := 160000 }) 6 fun x => { x with readers := 1, head := 3 }) .plkTdCtl 0x80020015).wrp with sweep := { witSweep with head := 21, code := 10, baseline := some 4, overAt := some 9, readings := [(1, 3), (2, 50)] } } }
        6 4 9 47 [3, 50] [[]]) ∧
    ((fun (s : State) (a ns : Nat) => Ready (.wfltAssert a ns) s ∧ ns < 5) live 2 4) ∧
    ((fun (s : State) (a ns : Nat) => Ready (.wfltAssert a ns) s ∧ 5 ≤ ns) live 2 5) := by
  refine ⟨?_, ?_, ?_, ?_, ?_, ?_, ?_, ?_, ?_, ?_⟩
  · decide
  · decide
  · decide
  · decide
  · decide
  · decide +kernel
  · decide +kernel
  · decide +kernel
  · decide
  · decide

/-- States and operands that meet the hypotheses of LandingAndRows, clause by clause. -/
theorem witness_LandingAndRows :
    ((fun (s : State) (ag : Agent) (v : Word) => Ready (.plcStripeCfgWrite ag v) s ∧ Accepts s .plcStripeCfg v)
        { witSurf with plc := { witSurf.plc with sets := [(2, witSet)] } } .mgmt 0x0001020C) ∧
    ((fun (s : State) (ag : Agent) (v : Word) => Ready (.plcStripeCfgWrite ag v) s ∧ s.blockOff .plcStripeCfg = false ∧ s.wordRefused
        .plcStripeCfg v = false ∧ s.capacityUnder v < s.allocated) ((State.modNs witSurf 1 fun _ =>
        { kind := .placed, capacity := 9, key := 0, zones := [] })) .mgmt 0x0001020C) ∧
    ((fun (s : State) => Ready .reservationGrant s ∧ s.plc.resvQueue = []) live) ∧
    ((fun (s : State) (k : Nat) (rest : List Nat) (c : Cmd) => Ready .reservationGrant s ∧ s.plc.resvQueue = k :: rest ∧ s.cmd? k =
        some c ∧ (s.resvPair (eNblk c.entry) ((s.ns (eNsid c.entry)).kind == .placed) = none ∨ s.earlierFetched c.fetch = true))
        (witCmdState 2 [7] fun c =>
        { c with phase := .waiting, resv := some { blocks := 1, granted := false, stackA := 0, stackB := 0 } }) 7 [] ((witCmd 2 fun c
        => { c with phase := .waiting, resv := some { blocks := 1, granted := false, stackA := 0, stackB := 0 } }))) ∧
    ((fun (s : State) (k a b : Nat) (rest : List Nat) (c : Cmd) => Ready .reservationGrant s ∧ s.plc.resvQueue = k :: rest ∧ s.cmd? k =
        some c ∧ s.resvPair (eNblk c.entry) ((s.ns (eNsid c.entry)).kind == .placed) = some (a, b) ∧ s.earlierFetched c.fetch = false)
        ((State.withRoom (witCmdState 2 [7] fun c =>
        { c with phase := .waiting, resv := some { blocks := 1, granted := false, stackA := 0, stackB := 0 } }))) 7 0 1 [] ((witCmd 2
        fun c => { c with phase := .waiting, resv := some { blocks := 1, granted := false, stackA := 0, stackB := 0 } }))) ∧
    ((fun (s : State) (n stack : Nat) (b : LandBlock) => Ready (.landingRecopyDone 0 n stack) s ∧ s.plc.landing[n]? = some b ∧
        b.missing = true ∧ s.thirdStack stack b.stackA b.stackB = true)
        { live with hbm := { hbmReset with inUse := 13, failed := 2 }, plc := { live.plc with landing := [{ witLand with missing := true }] } }
        0 2 { witLand with missing := true }) ∧
    ((fun (s : State) (n stack : Nat) (r : JRec) => Ready (.landingRecopyDone 1 n stack) s ∧ aget s.plc.journal n = some r ∧ r.missing
        = true ∧ s.thirdStack stack r.stackA r.stackB = true)
        { live with hbm := { hbmReset with inUse := 13, failed := 2 }, plc := { live.plc with journal := [(4, { witJrn with missing := true })] } }
        4 2 { witJrn with missing := true }) ∧
    ((fun (s : State) (k stack : Nat) (c : Cmd) (r : Resv) => Ready (.landingRecopyDone 2 k stack) s ∧ s.cmd? k = some c ∧ c.resv =
        some r ∧ c.recopy.testBit 0 = true ∧ s.thirdStack stack r.stackA r.stackB = true)
        { witCmdState 2 [] (fun c => { c with phase := .handed, recopy := 3, resv := some { blocks := 1, granted := true, stackA := 0, stackB := 1 } }) with hbm := { hbmReset with inUse := 13, failed := 2 } }
        7 2 (witCmd 2 (fun c =>
        { c with phase := .handed, recopy := 3, resv := some { blocks := 1, granted := true, stackA := 0, stackB := 1 } }))
        { blocks := 1, granted := true, stackA := 0, stackB := 1 }) ∧
    ((fun (s : State) (k stack : Nat) (c : Cmd) (r : Resv) => Ready (.landingRecopyDone 2 k stack) s ∧ s.cmd? k = some c ∧ c.resv =
        some r ∧ c.recopy.testBit 0 = false ∧ c.recopy ≠ 0 ∧ s.thirdStack stack r.stackA r.stackB = true)
        { witCmdState 2 [] (fun c => { c with phase := .handed, recopy := 2, resv := some { blocks := 1, granted := true, stackA := 0, stackB := 1 } }) with hbm := { hbmReset with inUse := 13, failed := 2 } }
        7 2 (witCmd 2 (fun c =>
        { c with phase := .handed, recopy := 2, resv := some { blocks := 1, granted := true, stackA := 0, stackB := 1 } }))
        { blocks := 1, granted := true, stackA := 0, stackB := 1 }) ∧
    ((fun (s : State) (n stack : Nat) (l : Lineage) => Ready (.landingRecopyDone 3 n stack) s ∧ aget s.eqt.lineages n = some l)
        { live with eqt := { eqtReset with lineages := [(0, { token := 5, group := 1, bound := none, holdUntil := 0, held := [], memory := [{ opcode := 2, comp := { cmdId := 1, result := 0, sqHead := 0, pair := zeroPair, status := 1, replay := false, held := false }, stackA := 0, stackB := 0 }], oldPending := 0 })] }, hbm := { hbmReset with inUse := 13, failed := 2 } }
        0 2
        { token := 5, group := 1, bound := none, holdUntil := 0, held := [], memory := [{ opcode := 2, comp := { cmdId := 1, result := 0, sqHead := 0, pair := zeroPair, status := 1, replay := false, held := false }, stackA := 0, stackB := 0 }], oldPending := 0 }) ∧
    ((fun (s : State) (n stack : Nat) => Ready (.landingRecopyDone 4 n stack) s ∧ n ∈ s.plc.mapBad)
        { live with plc := { live.plc with mapBad := [4, 6] } } 6 0) ∧
    ((fun (s : State) (n : Nat) (r : Row) => Ready (.rowComplete n) s ∧ aget s.plc.rows n = some r ∧ (r.verifying ≠ 0 ∨ r.jrn = none ∨
        r.recs.any s.recPending = true ∨ r.complete = true)) witRow 0 { (witRow.plc.rows.headD (0, emptyRow)).2 with complete := true }) ∧
    ((fun (s : State) (n j : Nat) (r : Row) => Ready (.rowComplete n) s ∧ aget s.plc.rows n = some r ∧ r.complete = false ∧ r.jrn =
        some j ∧ r.verifying = 0 ∧ r.recs.any s.recPending = false ∧ (∀ e, e ∈ r.vals → s.notOwed n r e = true)) witDone 0 5
        { (witRow.plc.rows.headD (0, emptyRow)).2 with complete := false, jrn := some 5, recorded := [0] }) ∧
    ((fun (s : State) (n : Nat) (b : BandSet) => Ready (.bandSetFree n) s ∧ aget s.plc.sets n = some b ∧ (b.reclaiming = false ∨
        (s.liveKeys n).isEmpty = false ∨ s.setBound n = true)) { live with plc := { live.plc with sets := [(2, witSet)] } } 2 witSet) ∧
    ((fun (s : State) (n : Nat) (b : BandSet) => Ready (.bandSetFree n) s ∧ aget s.plc.sets n = some b ∧ b.reclaiming = true ∧
        (s.liveKeys n).isEmpty = true ∧ s.plc.rows.any (fun r => r.2.set == n && !r.2.complete) = false ∧ s.setBound n = false)
        { live with plc := { live.plc with sets := [(2, { witSet with reclaiming := true }), (3, { witSet with bands := [6] })], bands := [(5, { state := .reclaim, writePos := 9, failures := 0, set := 2 })] } }
        2 { witSet with reclaiming := true }) := by
  refine ⟨?_, ?_, ?_, ?_, ?_, ?_, ?_, ?_, ?_, ?_, ?_, ?_, ?_, ?_, ?_⟩
  · decide
  · decide
  · decide
  · repeat' apply And.intro
    all_goals first | decide +kernel | rfl
  · repeat' apply And.intro
    all_goals first | decide +kernel | rfl
  · repeat' apply And.intro
    all_goals first | decide +kernel | rfl
  · repeat' apply And.intro
    all_goals first | decide +kernel | rfl
  · repeat' apply And.intro
    all_goals first | decide +kernel | rfl
  · repeat' apply And.intro
    all_goals first | decide +kernel | rfl
  · decide
  · decide
  · repeat' apply And.intro
    all_goals first | decide +kernel | rfl
  · repeat' apply And.intro
    all_goals first | decide +kernel | rfl
  · repeat' apply And.intro
    all_goals first | decide +kernel | rfl
  · repeat' apply And.intro
    all_goals first | decide +kernel | rfl

/-- States and operands that meet the hypotheses of JournalAndCheckpoints, clause by clause. -/
theorem witness_JournalAndCheckpoints :
    ((fun (s : State) (n k : Nat) (w : SysWork) (r : JRec) => Ready (.journalOnMedia n) s ∧ s.plc.sys.find? (fun e => e.2.kind ==
        .journal && e.2.index == n) = some (k, w) ∧ aget s.plc.journal n = some r ∧ ((liveSpots w).length ≠ 2 ∨ (liveSpots w).all (fun
        p => decide (w.count ≤ p.verified)) = false))
        { live with plc := { live.plc with journal := [(4, witJrn)], sys := [(0, witSys 0)] } } 4 0 (witSys 0) witJrn) ∧
    ((fun (s : State) (n k : Nat) (w : SysWork) (r : JRec) => Ready (.journalOnMedia n) s ∧ s.plc.sys.find? (fun e => e.2.kind ==
        .journal && e.2.index == n) = some (k, w) ∧ aget s.plc.journal n = some r ∧ (liveSpots w).length = 2 ∧ (liveSpots w).all (fun p
        => decide (w.count ≤ p.verified)) = true ∧ r.owner = none ∧ s.plc.roots.any (fun e => e.2.covered == r.pair || pairBefore
        r.pair e.2.covered) = false) { live with plc := { live.plc with journal := [(4, witJrn)], sys := [(0, witSys 1)] } } 4 0
        (witSys 1) witJrn) ∧
    ((fun (s : State) (n k g : Nat) (w : SysWork) (r : JRec) (c : Cmd) => Ready (.journalOnMedia n) s ∧ s.plc.sys.find? (fun e =>
        e.2.kind == .journal && e.2.index == n) = some (k, w) ∧ aget s.plc.journal n = some r ∧ (liveSpots w).length = 2 ∧ (liveSpots
        w).all (fun p => decide (w.count ≤ p.verified)) = true ∧ r.owner = some g ∧ s.cmd? g = some c ∧ eOp c.entry = 0x40 ∧ c.phase =
        .accepted ∧ c.accept.isSome = true ∧ s.plc.roots.any (fun e => e.2.covered == r.pair || pairBefore r.pair e.2.covered) = false)
        { witCmdState 0x40 [] (fun c => { c with phase := .accepted, accept := some zeroPair }) with plc := { live.plc with journal := [(4, { witJrn with owner := some 7 })], sys := [(0, witSys 1)] } }
        4 0 7 (witSys 1) { witJrn with owner := some 7 } (witCmd 0x40 fun c => { c with phase := .accepted, accept := some zeroPair })) ∧
    ((fun (s : State) => Ready .checkpointBegin s ∧ s.plc.rebuilt = true ∧ s.plc.ckpt = none ∧ s.pwr.umbra = false ∧ s.plc.sys.any (fun
        e => e.2.kind == .root && e.2.index == s.plc.ckptSlot) = false ∧ s.uncovered < fld (s.rv .plcCkptCfg) 15 8 * 2 ^ 24 ∧
        s.pwr.change = none) { live with plc := { live.plc with rebuilt := true } }) ∧
    ((fun (s : State) => Ready .checkpointBegin s ∧ s.plc.rebuilt = true ∧ s.plc.ckpt = none ∧ s.pwr.umbra = false ∧ s.plc.sys.any (fun
        e => e.2.kind == .root && e.2.index == s.plc.ckptSlot) = false ∧ fld (s.rv .plcCkptCfg) 15 8 * 2 ^ 24 ≤ s.uncovered)
        { live with plc := { live.plc with rebuilt := true, journal := [(4, { witJrn with size := 2 ^ 34 })] } }) ∧
    ((fun (s : State) => Ready .checkpointBegin s ∧ (s.plc.rebuilt = false ∨ s.plc.ckpt.isSome = true ∨ s.pwr.umbra = true)) live) ∧
    ((fun (s : State) (root : Root) (k : Nat) (w : SysWork) => Ready .checkpointInForce s ∧ s.plc.ckpt = some root ∧ s.plc.sys.find?
        (fun e => e.2.kind == .root && e.2.index == s.plc.ckptSlot) = some (k, w) ∧ (rootSpots w).isEmpty = false)
        { live with plc := { live.plc with journal := [(4, { witJrn with onMedia := true })], sys := [(0, { witSys 1 with kind := .root, index := 0 })], ckpt := some { covered := zeroPair, cuts := [], blocks := [], spaces := [], copies := 0, spots := [] } } }
        { covered := zeroPair, cuts := [], blocks := [], spaces := [], copies := 0, spots := [] } 0
        { witSys 1 with kind := .root, index := 0 }) ∧
    ((fun (s : State) (badRoots : List Nat) (bad : List (Nat × Nat × Nat)) => Ready (.mapRebuild badRoots bad) s ∧ s.plc.rebuilt =
        false ∧ s.pwr.umbra = false ∧ (s.act 1).state = .following ∧ (∀ k, k ∈ akeys s.plc.roots → k ∈ badRoots) ∧ s.plc.mediaJournal =
        [] ∧ s.plc.generations = [] ∧ s.plc.landing = []) ((State.modAct live 1 fun x => { x with state := .following })) [] []) ∧
    ((fun (s : State) (badRoots : List Nat) (bad : List (Nat × Nat × Nat)) => Ready (.mapRebuild badRoots bad) s ∧ (s.plc.rebuilt =
        true ∨ s.pwr.umbra = true ∨ ∀ a, a < 4 → (s.act a).state ≠ .following)) live [] []) := by
  refine ⟨?_, ?_, ?_, ?_, ?_, ?_, ?_, ?_, ?_⟩
  · repeat' apply And.intro
    all_goals first | decide +kernel | rfl
  · repeat' apply And.intro
    all_goals first | decide +kernel | rfl
  · decide +kernel
  · decide
  · decide
  · decide
  · decide
  · decide
  · decide

/-- States and operands that meet the hypotheses of TrailingVerify, clause by clause. -/
theorem witness_TrailingVerify :
    ((fun (s : State) (id : Nat) (v : VerifyItem) => Ready (.verifyDone id) s ∧ aget s.wrp.verifies id = some v ∧ (v.read = false ∨
        v.deadline < s.now)) { witVerify with now := 10 ^ 13 } 3 { witVer with read := true }) ∧
    ((fun (s : State) (id n k : Nat) (v : VerifyItem) (r : Row) (m : Member) => Ready (.verifyDone id) s ∧ aget s.wrp.verifies id =
        some v ∧ v.read = true ∧ s.now ≤ v.deadline ∧ v.row = some (n, k) ∧ aget s.plc.rows n = some r ∧ r.members[k]? = some m ∧ v.ecl
        = [] ∧ (∀ i, i < v.count → i ∉ v.bad)) witVerify 3 0 0 { witVer with read := true } ((witRow.plc.rows.headD (0, emptyRow)).2)
        (witMember 0 2 false)) ∧
    ((fun (s : State) (id n k : Nat) (v : VerifyItem) (r : Row) (m : Member) => Ready (.verifyDone id) s ∧ aget s.wrp.verifies id =
        some v ∧ v.read = true ∧ s.now ≤ v.deadline ∧ v.row = some (n, k) ∧ v.count = 1 ∧ aget s.plc.rows n = some r ∧ r.members[k]? =
        some m ∧ m.failed.contains (v.sector - m.sector) = false ∧ v.ecl = [] ∧ 0 ∈ v.bad)
        { witRow with wrp := { witRow.wrp with verifies := [(3, { witVer with read := true, bad := [0] })] } } 3 0 0
        { witVer with read := true, bad := [0] } ((witRow.plc.rows.headD (0, emptyRow)).2) (witMember 0 2 false)) ∧
    ((fun (s : State) (id n k : Nat) (v : VerifyItem) (r : Row) (m : Member) => Ready (.verifyWindowExpire id) s ∧ aget s.wrp.verifies
        id = some v ∧ v.row = some (n, k) ∧ v.count = 1 ∧ aget s.plc.rows n = some r ∧ r.members[k]? = some m ∧ m.failed.contains
        (v.sector - m.sector) = false ∧ v.ecl = []) witVerify 3 0 0 { witVer with read := true } ((witRow.plc.rows.headD (0,
        emptyRow)).2) (witMember 0 2 false)) ∧
    ((fun (s : State) (id : Nat) => Ready (.verifyWindowExpire id) s ∧ aget s.wrp.verifies id = none) live 4) ∧
    ((fun (s : State) (a : Nat) (rows : List RowPlan) (posts : List SysPlan) => Ready (.turnEnd a rows posts) s ∧ s.pwr.umbra = true)
        { live with pwr := { live.pwr with umbra := true } } 1 [] []) ∧
    ((fun (s : State) (a : Nat) (rows : List RowPlan) (posts : List SysPlan) => Ready (.turnEnd a rows posts) s ∧ s.pwr.umbra = false ∧
        s.seq.done = [] ∧ (s.turn a).busy = true ∧ s.turnDone a = false) ((State.modSeq (State.modTurn live 1 fun x =>
        { x with busy := true }) 5 fun x =>
        { x with items := [{ kind := 1, head := 0, flags := 0, track := 0, first := 0, count := 1, slot := 0, tag := 0 }] })) 1 [] []) ∧
    ((fun (s : State) (a : Nat) (rows : List RowPlan) (posts : List SysPlan) => Ready (.turnEnd a rows posts) s ∧ s.pwr.umbra = false ∧
        s.seq.done = [] ∧ (s.turn a).busy = false ∧ (s.turn a).served = [] ∧ s.plc.rebuilt = false ∧ s.stageCode < 3 ∧ s.bandsLow =
        false ∧ s.mapNearFull = false ∧ s.plc.sets = []) live 1 [] []) ∧
    ((fun (s : State) (a i : Nat) (p : Piece) => Ready (.turnEnd a [] []) s ∧ s.pwr.umbra = false ∧ s.seq.done = [] ∧ (s.turn a).busy =
        false ∧ (s.turn a).served = [] ∧ s.orb.pieces = [(i, p)] ∧ i < s.orb.nextPiece ∧ p.act = a ∧ s.mayChoose a = true ∧ s.mayServe
        p = true ∧ s.mayLead p = true ∧ s.bandsLow = false ∧ s.mapNearFull = false ∧ s.plc.sets = [] ∧ s.assign (s.workStreams a)
        ((pickJobs (s.jobOpen p) (s.workStreams a).length [] (s.jobs p)).1.map fun j => (i, j)) ≠ []) witTurn 1 0 witPiece) := by
  refine ⟨?_, ?_, ?_, ?_, ?_, ?_, ?_, ?_, ?_⟩
  · decide
  · repeat' apply And.intro
    all_goals first | decide +kernel | rfl
  · repeat' apply And.intro
    all_goals first | decide +kernel | rfl
  · repeat' apply And.intro
    all_goals first | decide +kernel | rfl
  · decide
  · decide
  · decide
  · decide
  · decide +kernel

/-- States and operands that meet the hypotheses of PortsAndPaths, clause by clause. -/
theorem witness_PortsAndPaths :
    ((fun (s : State) (p : Nat) (f : RxFrame) (level : Nat) => Ready (.ethFrameReceive p f level) s ∧ (s.port p).link = false) live 1
        { len := 100, tags := 0, fcsOk := true, body := .other } 10) ∧
    ((fun (s : State) (p : Nat) (f : RxFrame) (level : Nat) => Ready (.ethFrameReceive p f level) s ∧ (s.port p).link = true ∧ bit
        (s.rv (.ethCfg p)) 27 = false ∧ (macDrops f = true ∨ f.body = .ptpDropped ∨ f.body = .roceUnsupported ∨ f.body = .other))
        ((State.modPort (State.setRv live (.ethCfg 1) 0x80000000) 1 fun x => { x with link := true })) 1
        { len := 100, tags := 2, fcsOk := true, body := .rocePacket } 10) ∧
    ((fun (s : State) (p : Nat) (f : RxFrame) (level : Nat) => Ready (.ethFrameReceive p f level) s ∧ (s.port p).link = true ∧ bit
        (s.rv (.ethCfg p)) 27 = false ∧ macDrops f = false ∧ bit (s.rv (.ethIpCtl p)) 31 = true ∧ f.body = .arp (s.rv (.ethIpv4 p)))
        ((State.setRv (State.modPort (State.setRv live (.ethCfg 1) 0x80000000) 1 fun x => { x with link := true }) (.ethIpCtl 1)
        0x80000000)) 1 { len := 100, tags := 0, fcsOk := true, body := .arp 0 } 10) ∧
    ((fun (s : State) (p : Nat) (f : RxFrame) (r : BitVec 128) (level : Nat) => Ready (.ethFrameReceive p f level) s ∧ (s.port p).link
        = true ∧ bit (s.rv (.ethCfg p)) 27 = false ∧ macDrops f = false ∧ f.body = .routerAdvert r) ((State.modPort (State.setRv live
        (.ethCfg 1) 0x80000000) 1 fun x => { x with link := true })) 1
        { len := 100, tags := 0, fcsOk := true, body := .routerAdvert 5 } 5 10) ∧
    ((fun (s : State) (p : Nat) (f : RxFrame) (level : Nat) => Ready (.ethFrameReceive p f level) s ∧ macDrops f = false ∧ f.body =
        .rocePacket ∧ (s.port p).link = true ∧ bit (s.rv (.ethCfg p)) 27 = true ∧ 75 ≤ level ∧ (s.port p).paused = false) ((State.setRv
        (State.modPort (State.setRv live (.ethCfg 1) 0x80000000) 1 fun x => { x with link := true }) (.ethCfg 1) 0x88000000)) 1
        { len := 100, tags := 0, fcsOk := true, body := .rocePacket } 80) ∧
    ((fun (s : State) (p : Nat) (f : RxFrame) (level : Nat) => Ready (.ethFrameReceive p f level) s ∧ macDrops f = false ∧ f.body =
        .pfcPause (fld (s.rv (.ethCfg p)) 26 24) true ∧ (s.port p).link = true ∧ bit (s.rv (.ethCfg p)) 27 = true ∧ level < 75 ∧
        (s.port p).paused = false) ((State.setRv (State.modPort (State.setRv live (.ethCfg 1) 0x80000000) 1 fun x =>
        { x with link := true }) (.ethCfg 1) 0x88000000)) 1 { len := 100, tags := 0, fcsOk := true, body := .pfcPause 0 true } 8) ∧
    ((fun (s : State) (p : Nat) (f : RxFrame) (level : Nat) => Ready (.ethFrameReceive p f level) s ∧ macDrops f = false ∧ f.body =
        .pfcPause (fld (s.rv (.ethCfg p)) 26 24) false ∧ (s.port p).link = true ∧ bit (s.rv (.ethCfg p)) 27 = true ∧ level < 75 ∧
        (s.port p).paused = false)
        { (State.setRv (State.modPort (State.setRv live (.ethCfg 1) 0x80000000) 1 fun x => { x with link := true, pausedByPeer := true }) (.ethCfg 1) 0x88000000) with eqt := { (State.setRv (State.modPort (State.setRv live (.ethCfg 1) 0x80000000) 1 fun x => { x with link := true, pausedByPeer := true }) (.ethCfg 1) 0x88000000).eqt with held := [({ sess := 4, path := { noPath with port := 1 }, srcPort := 0, dstPort := 0 }, .cnp)] } }
        1 { len := 100, tags := 0, fcsOk := true, body := .pfcPause 0 false } 8) ∧
    ((fun (s : State) (p partner m : Nat) (fec74 : Bool) => Ready (.linkUp p partner fec74) s ∧ bit (s.rv (.ethCfg p)) 31 = true ∧
        (s.port p).link = false ∧ commonMode (s.rv (.ethCfg p)) partner = some m) ((State.modPort (State.setRv live (.ethCfg 1)
        0x80000000) 1 fun x => { x with speed := 0 })) 1 7 0 true) ∧
    ((fun (s : State) (p partner : Nat) (fec74 : Bool) => Ready (.linkUp p partner fec74) s ∧ (bit (s.rv (.ethCfg p)) 31 = false ∨
        (s.port p).link = true ∨ commonMode (s.rv (.ethCfg p)) partner = none)) ((State.modPort (State.setRv live (.ethCfg 1)
        0x80000000) 1 fun x => { x with link := true })) 1 7 true) ∧
    ((fun (s : State) (p : Nat) => Ready (.linkLoss p) s ∧ (s.port p).link = true ∧ (∀ i, i ∈ s.sessIds → (s.sess i).path.port ≠ p))
        ((State.modPort (State.setRv live (.ethCfg 1) 0x80000000) 1 fun x => { x with link := true, speed := 1 })) 1) ∧
    ((fun (s : State) (p i : Nat) (q : Path) => Ready (.linkLoss p) s ∧ (s.port p).link = true ∧ s.sessIds.filter (fun i => (s.sess
        i).path.port == p) = [i] ∧ (s.sess i).state = .active ∧ (s.sess i).alt = some q ∧ q.port ≠ p ∧ (s.port q.port).link = true)
        ((State.modPort (State.modPort (witSession fun x => { x with alt := some { noPath with port := 1 } }) 0 fun x =>
        { x with link := true }) 1 fun x => { x with link := true })) 0 4 { noPath with port := 1 }) ∧
    ((fun (s : State) (p : Nat) => Ready (.linkLoss p) s ∧ (s.port p).link = false) live 1) ∧
    ((fun (s : State) (ag : Agent) (p : Nat) (v : Word) => Ready (.ethCfgWrite ag p v) s ∧ Accepts s (.ethCfg p) v ∧ (∀ i, i ∈
        s.sessIds → (s.sess i).path.port ≠ p)) ((State.modPort (State.setRv live (.ethCfg 1) 0x80000000) 1 fun x =>
        { x with link := true })) .mgmt 1 0x80000000) ∧
    ((fun (s : State) (ix u : Nat) (q : Path) => Ready (.pathTimeout ix) s ∧ (s.sess ix).silentSince = some u ∧ ((s.sess ix).state =
        .active ∨ (s.sess ix).state = .closing) ∧ (s.sess ix).reqs ≠ [] ∧ (s.sess ix).alt = some q ∧ (s.port q.port).link = true)
        ((State.modPort (witSession fun x =>
        { x with alt := some { noPath with port := 1 }, silentSince := some 5, reqs := [witReq (.fetch 0 1)] }) 1 fun x =>
        { x with link := true })) 4 5 { noPath with port := 1 }) ∧
    ((fun (s : State) (ix : Nat) => Ready (.pathTimeout ix) s ∧ ((s.sess ix).silentSince = none ∨ (s.sess ix).reqs = [] ∨ s.altUsable
        ix = false)) live 4) := by
  refine ⟨?_, ?_, ?_, ?_, ?_, ?_, ?_, ?_, ?_, ?_, ?_, ?_, ?_, ?_, ?_⟩
  · decide
  · decide
  · decide
  · decide
  · decide
  · decide
  · decide
  · decide
  · decide
  · decide
  · decide
  · decide
  · decide
  · decide
  · decide

/-- States and operands that meet the hypotheses of HostWrites, clause by clause. -/
theorem witness_HostWrites :
    ((fun (s : State) (k : WritePkt) (bad : Nat) => Ready (.roceWriteReceive k bad) s ∧ (s.port k.port).link = false) live witPkt 0) ∧
    ((fun (s : State) (k : WritePkt) (bad : Nat) => Ready (.roceWriteReceive k bad) s ∧ (s.port k.port).link = true ∧ (k.icrcOk = false
        ∨ s.doorbellLive k.qp = false ∨ k.pkey ≠ (s.sess k.qp).pkey)) witHost { witPkt with icrcOk := false } 0) ∧
    ((fun (s : State) (k : WritePkt) (bad : Nat) => Ready (.roceWriteReceive k bad) s ∧ (s.port k.port).link = true ∧ k.icrcOk = true ∧
        s.doorbellLive k.qp = true ∧ k.pkey = (s.sess k.qp).pkey ∧ k.ce = false ∧ k.psn ≠ (s.sess k.qp).epsn ∧ (k.psn - (s.sess
        k.qp).epsn).toNat < 2 ^ 23 ∧ (s.sess k.qp).nakSent = false) witHost { witPkt with psn := 5 } 0) ∧
    ((fun (s : State) (k : WritePkt) (bad : Nat) => Ready (.roceWriteReceive k bad) s ∧ (s.port k.port).link = true ∧ k.icrcOk = true ∧
        s.doorbellLive k.qp = true ∧ k.pkey = (s.sess k.qp).pkey ∧ k.ce = false ∧ (k.psn - (s.sess k.qp).epsn).toNat ≥ 2 ^ 23) witHost
        { witPkt with psn := 0xFFFFFE } 0) ∧
    ((fun (s : State) (k : WritePkt) (bad : Nat) => Ready (.roceWriteReceive k bad) s ∧ (s.port k.port).link = true ∧ k.icrcOk = true ∧
        s.doorbellLive k.qp = true ∧ k.pkey = (s.sess k.qp).pkey ∧ k.ce = false ∧ LevelsRaised s ∧ k.psn = (s.sess k.qp).epsn ∧ k.op =
        .only ∧ (s.sess k.qp).wrCursor = none ∧ k.dmaLen = 8 ∧ k.payload.length = 8 ∧ k.addr = Config.dbAddr k.qp ∧ k.rkey =
        Config.dbRkey k.qp ∧ leAt k.payload 0 8 < 2 ^ (s.sess k.qp).sqLog ∧ (s.sess k.qp).sqLog ≤ 12 ∧ (s.sess k.qp).stopFetch = false
        ∧ (s.sess k.qp).pendNotify = false ∧ (s.sess k.qp).hostPkts = 0 ∧ (s.sess k.qp).ackDue = none) witHost witPkt 0) ∧
    ((fun (s : State) (ix : Nat) (w : DWord) => Ready (.sqDb ix w) s ∧ s.doorbellLive ix = false) live 4 1) ∧
    ((fun (s : State) (ix : Nat) (w : DWord) => Ready (.sqDb ix w) s ∧ s.doorbellLive ix = true ∧ badDoorbell w (s.sess ix).sqLog =
        true) witHost 4 0x10000) ∧
    ((fun (s : State) (ix : Nat) (w : DWord) => Ready (.cqDb ix w) s ∧ s.doorbellLive ix = true ∧ badDoorbell w (s.sess ix).cq.log2 =
        true) witHost 4 0x10000) ∧
    ((fun (s : State) (ix : Nat) (w : DWord) => Ready (.sqDb ix w) s ∧ LevelsRaised s ∧ s.doorbellLive ix = true ∧ badDoorbell w
        (s.sess ix).sqLog = false ∧ (s.sess ix).stopFetch = false ∧ (s.sess ix).pendNotify = false) witHost 4 3) ∧
    ((fun (s : State) (ix : Nat) (w : DWord) => Ready (.cqDb ix w) s ∧ LevelsRaised s ∧ s.doorbellLive ix = true ∧ badDoorbell w
        (s.sess ix).cq.log2 = false ∧ unconsumed (s.sess ix).cq.log2 (fldN w 15 0) (s.sess ix).cq.head ≤ unconsumed (s.sess ix).cq.log2
        (s.sess ix).cq.wr (s.sess ix).cq.head ∧ (s.sess ix).pendNotify = false ∧ (s.sess ix).cq.waiting = []) ((witSession fun x =>
        { x with cq := { emptyCompRing with log2 := 4, wr := 3 } })) 4 2) ∧
    ((fun (s : State) (ix : Nat) (w : DWord) => Ready (.cqDb ix w) s ∧ s.doorbellLive ix = true ∧ unconsumed (s.sess ix).cq.log2
        (s.sess ix).cq.wr (s.sess ix).cq.head < unconsumed (s.sess ix).cq.log2 (fldN w 15 0) (s.sess ix).cq.head) ((witSession fun x =>
        { x with cq := { emptyCompRing with log2 := 4, wr := 3 } })) 4 5) ∧
    ((fun (s : State) (ix : Nat) (w : DWord) => Ready (.evDb ix w) s ∧ LevelsRaised s ∧ s.doorbellLive ix = true ∧ (s.sess ix).events =
        true ∧ badDoorbell w (s.sess ix).eq.log2 = false ∧ fldN w 15 0 = (s.sess ix).eq.wr ∧ (s.sess ix).pendNotify = false ∧ (s.sess
        ix).eq.deferred = [] ∧ (s.sess ix).eq.deferredHb = false ∧ (s.sess ix).eq.waitingClaim = []) ((witSession fun x =>
        { x with events := true, eq := { emptyEventRing with log2 := 4, wr := 3 } })) 4 3) ∧
    ((fun (s : State) (ix : Nat) (w : DWord) => Ready (.evDb ix w) s ∧ s.doorbellLive ix = true ∧ ((s.sess ix).events = false ∨
        badDoorbell w (s.sess ix).eq.log2 = true)) witHost 4 3) ∧
    ((fun (s : State) (ix ofs : Nat) (bytes : List Byte) (bad : Nat) (g : Grant) => Ready (.pushDataWrite ix ofs bytes bad) s ∧
        ((s.sess ix).state = .active ∨ (s.sess ix).state = .closing) ∧ (s.sess ix).grants = [g] ∧ g.entry.winOfs ≤ ofs ∧ ofs +
        bytes.length ≤ g.entry.winOfs + g.entry.len ∧ (writeOver g.written (ofs - g.entry.winOfs) bytes).length ≠ g.entry.len)
        ((witSession fun x => { x with grants := [witGrant] })) 4 20 [7] 0 witGrant) ∧
    ((fun (s : State) (ix ofs : Nat) (bytes : List Byte) (bad : Nat) => Ready (.pushDataWrite ix ofs bytes bad) s ∧ ((s.sess ix).state
        = .active ∨ (s.sess ix).state = .closing) ∧ (s.sess ix).grants = [] ∧ (∀ k, k < bytes.length → ∃ q ∈ (s.sess ix).quarantine,
        q.ofs ≤ ofs + k ∧ ofs + k < q.ofs + q.len)) ((witSession fun x =>
        { x with quarantine := [{ ofs := 16, len := 8, until_ := 9 }] })) 4 20 [7] 0) ∧
    ((fun (s : State) (ix ofs : Nat) (bytes : List Byte) (bad : Nat) => Ready (.pushDataWrite ix ofs bytes bad) s ∧ ((s.sess ix).state
        = .active ∨ (s.sess ix).state = .closing) ∧ (s.sess ix).grants = [] ∧ (s.sess ix).quarantine = [] ∧ bytes ≠ []) witHost 4 20
        [7] 0) ∧
    ((fun (s : State) (ix d : Nat) => Ready (.hostAckTimer ix) s ∧ (s.sess ix).ackDue = some d) ((witSession fun x =>
        { x with hostPkts := 3, ackDue := some 9 })) 4 9) ∧
    ((fun (s : State) (ix : Nat) => Ready (.hostAckTimer ix) s ∧ (s.sess ix).ackDue = none) live 4) := by
  refine ⟨?_, ?_, ?_, ?_, ?_, ?_, ?_, ?_, ?_, ?_, ?_, ?_, ?_, ?_, ?_, ?_, ?_, ?_⟩
  · decide
  · decide
  · decide
  · decide
  · repeat' apply And.intro
    all_goals first | decide +kernel | rfl
  · decide
  · decide
  · decide
  · decide
  · decide
  · decide
  · decide
  · decide
  · decide
  · decide
  · decide
  · decide
  · decide

/-- States and operands that meet the hypotheses of SessionsAndLineages, clause by clause. -/
theorem witness_SessionsAndLineages :
    ((fun (s : State) (port : Nat) (m : ReqMsg) => Ready (.req port m) s ∧ (s.port port).link = false) live 1 witReqMsg) ∧
    ((fun (s : State) (port : Nat) (m : ReqMsg) (x : Activation) => Ready (.req port m) s ∧ (s.port port).link = true ∧
        s.eqt.activation = some x ∧ 1 ≤ x.step ∧ x.step ≤ 4 ∧ s.pwr.point = 0 ∧ s.pwr.change = none)
        { witHost with eqt := { witHost.eqt with activation := some { tag := 0, kinds := 1, step := 2, fwDigest := 0, persDigest := 0, cut := false } } }
        0 witReqMsg { tag := 0, kinds := 1, step := 2, fwDigest := 0, persDigest := 0, cut := false }) ∧
    ((fun (s : State) (port reason : Nat) (status : BitVec 16) (m : ReqMsg) => Ready (.req port m) s ∧ (s.port port).link = true ∧
        s.eqt.activation = none ∧ s.pwr.point = 0 ∧ s.pwr.change = none ∧ s.admCheck m = some (reason, status)) witHost 0 28 0x247
        witReqMsg) ∧
    ((fun (s : State) (port : Nat) (m : ReqMsg) (p : Path) (alt : Option Path) => Ready (.req port m) s ∧ (s.port port).link = true ∧
        s.eqt.activation = none ∧ s.pwr.point = 0 ∧ s.pwr.change = none ∧ s.admCheck m = none ∧ s.reqPaths m = some (p, alt) ∧
        admResume m = false) witOpen 0 witReqMsg (witPath witOwn) none) ∧
    ((fun (s : State) (ix : Nat) => Ready (.rtu ix) s ∧ LevelsRaised s ∧ (s.sess ix).state = .admitting ∧ (s.sess ix).cq.waiting = [])
        ((witSession fun x => { x with state := .admitting })) 4) ∧
    ((fun (s : State) (ix : Nat) => Ready (.rtu ix) s ∧ (s.sess ix).state ≠ .admitting) witHost 4) ∧
    ((fun (s : State) (ix : Nat) (release : Bool) (l : Lineage) => Ready (.dreq ix release) s ∧ (s.sess ix).state = .active ∧ s.cmdsOf
        ix = [] ∧ (s.sess ix).reqs = [] ∧ (s.sess ix).cq.waiting = [] ∧ aget s.eqt.lineages (s.sess ix).lineage = some l ∧ l.bound =
        some ix ∧ s.heldSource ix = none) { witHost with eqt := { witHost.eqt with lineages := [(0, witLin)] } } 4 false witLin) ∧
    ((fun (s : State) (ix : Nat) (release : Bool) => Ready (.dreq ix release) s ∧ (s.sess ix).state = .active ∧ s.cmdsOf ix ≠ [])
        { witHost with eqt := { witHost.eqt with cmds := [(7, { witCmd 1 id with sess := 4 })] } } 4 true) ∧
    ((fun (s : State) (ix : Nat) (release : Bool) => Ready (.dreq ix release) s ∧ (s.sess ix).state ≠ .active) live 4 true) ∧
    ((fun (s : State) (ix : Nat) => Ready (.drep ix) s) live 4) ∧
    ((fun (s : State) (ix : Nat) (r : PathReq) (q : Path) => Ready (.lap ix r) s ∧ (s.sess ix).state = .active ∧ s.pathOf r = some q ∧
        q.port ≠ (s.sess ix).path.port) ((witSession fun x => { x with path := { noPath with port := 1 } })) 4 witOwn (witPath witOwn)) ∧
    ((fun (s : State) (ix : Nat) (r : PathReq) => Ready (.lap ix r) s ∧ (s.sess ix).state = .active ∧ s.pathOf r = none) witHost 4
        { witOwn with remoteGid := 0 }) ∧
    ((fun (s : State) (ix : Nat) => Ready (.rej ix) s ∧ (s.sess ix).state = .admitting ∧ (s.sess ix).reqs = [] ∧ (s.sess ix).cq.waiting
        = [] ∧ (s.sess ix).createdLineage = true)
        { (witSession fun x => { x with state := .admitting, createdLineage := true, admitDeadline := 9 }) with eqt := { (witSession fun x => { x with state := .admitting, createdLineage := true, admitDeadline := 9 }).eqt with lineages := [(0, witLin)] } }
        4) ∧
    ((fun (s : State) (ix : Nat) => Ready (.rej ix) s ∧ (s.sess ix).state ≠ .admitting) witHost 4) ∧
    ((fun (s : State) (ix : Nat) => Ready (.admitTimeout ix) s ∧ (s.sess ix).state = .admitting ∧ (s.sess ix).reqs = [] ∧ (s.sess
        ix).cq.waiting = [] ∧ (s.sess ix).createdLineage = true)
        { (witSession fun x => { x with state := .admitting, createdLineage := true, admitDeadline := 9 }) with eqt := { (witSession fun x => { x with state := .admitting, createdLineage := true, admitDeadline := 9 }).eqt with lineages := [(0, witLin)] } }
        4) ∧
    ((fun (s : State) (ix : Nat) => Ready (.admitTimeout ix) s ∧ (s.sess ix).state ≠ .admitting) witHost 4) ∧
    ((fun (s : State) (l : Nat) (x : Lineage) => Ready (.lineageRelease l) s ∧ aget s.eqt.lineages l = some x ∧ x.bound = none)
        { live with eqt := { eqtReset with lineages := [(3, { witLin with bound := none })] } } 3 { witLin with bound := none }) ∧
    ((fun (s : State) (l : Nat) (x : Lineage) => Ready (.lineageRelease l) s ∧ aget s.eqt.lineages l = some x ∧ x.bound.isSome = true)
        { live with eqt := { eqtReset with lineages := [(3, witLin)] } } 3 witLin) := by
  refine ⟨?_, ?_, ?_, ?_, ?_, ?_, ?_, ?_, ?_, ?_, ?_, ?_, ?_, ?_, ?_, ?_, ?_, ?_⟩
  · decide
  · decide +kernel
  · decide
  · refine ⟨by decide, by decide, by decide, by decide, by decide, ?_, (reqPaths_witReqMsg _), by decide +kernel⟩
    unfold State.admCheck
    rw [reqPaths_witReqMsg]
    decide +kernel
  · decide
  · decide
  · decide +kernel
  · decide
  · decide
  · decide
  · refine ⟨by decide, by decide, pathOf_witOwn _, by decide⟩
  · refine ⟨by decide, by decide, (pathOf_own _ _ (by unfold witOwn; rfl)).trans (pathAt_none _ _ (by decide +kernel))⟩
  · decide
  · decide
  · decide
  · decide
  · decide +kernel
  · decide +kernel

/-- States and operands that meet the hypotheses of RequestsAndGrants, clause by clause. -/
theorem witness_RequestsAndGrants :
    ((fun (s : State) (ix slot n : Nat) (bytes : List Byte) (bad : Nat) (r : DevReq) (rest : List DevReq) => Ready (.rdmaReadResponse
        ix bytes bad) s ∧ (s.sess ix).state = .active ∧ (s.sess ix).reqs = r :: rest ∧ r.kind = .fetch slot n ∧ (s.sess ix).stopFetch =
        true ∧ s.readerOf ix = none) ((witSession fun x => { x with stopFetch := true, reqs := [witReq (.fetch 0 1)] })) 4 0 1 [7] 0
        (witReq (.fetch 0 1)) []) ∧
    ((fun (s : State) (ix slot : Nat) (bytes : List Byte) (bad : Nat) (r : DevReq) (rest : List DevReq) => Ready (.rdmaReadResponse ix
        bytes bad) s ∧ (s.sess ix).state = .active ∧ (s.sess ix).reqs = r :: rest ∧ r.kind = .fetch slot 1 ∧ (s.sess ix).stopFetch =
        false ∧ s.cmdsOf ix = []) ((witSession fun x => { x with reqs := [witReq (.fetch 0 1)] })) 4 0 [7] 0 (witReq (.fetch 0 1)) []) ∧
    ((fun (s : State) (ix : Nat) (bytes : List Byte) (bad : Nat) => Ready (.rdmaReadResponse ix bytes bad) s ∧ (¬((s.sess ix).state =
        .active ∨ (s.sess ix).state = .closing) ∨ (s.sess ix).reqs.any (fun r => isRead r.kind) = false)) witHost 4 [7] 0) ∧
    ((fun (s : State) (ix : Nat) (psn : BitVec 24) => Ready (.roceAckReceive ix .ack psn) s ∧ LevelsRaised s ∧ (s.sess ix).state =
        .active) ((witSession fun x => { x with reqs := [witReq .notify] })) 4 0) ∧
    ((fun (s : State) (ix : Nat) (psn : BitVec 24) => Ready (.roceAckReceive ix .nakSeq psn) s ∧ ((s.sess ix).state = .active ∨ (s.sess
        ix).state = .closing)) ((witSession fun x => { x with reqs := [witReq .notify] })) 4 0) ∧
    ((fun (s : State) (ix : Nat) (k : AckKind) (psn : BitVec 24) (l : Lineage) => Ready (.roceAckReceive ix k psn) s ∧ (k = .nakAccess
        ∨ k = .nakOperational ∨ k = .nakInvalid) ∧ ((s.sess ix).state = .active ∨ (s.sess ix).state = .closing) ∧ s.cmdsOf ix = [] ∧
        s.heldSource ix = none ∧ (s.sess ix).reqs = [] ∧ (s.sess ix).cq.waiting = [] ∧ (s.sess ix).releaseLineage = false ∧ aget
        s.eqt.lineages (s.sess ix).lineage = some l ∧ l.bound = some ix)
        { witHost with eqt := { witHost.eqt with lineages := [(0, witLin)] } } 4 .nakAccess 0 witLin) ∧
    ((fun (s : State) (ix : Nat) (k : AckKind) (psn : BitVec 24) => Ready (.roceAckReceive ix k psn) s ∧ (s.sess ix).state ≠ .active ∧
        (s.sess ix).state ≠ .closing) live 4 .ack 0) ∧
    ((fun (s : State) (ix : Nat) (r : DevReq) (rest : List DevReq) => Ready (.rnrNakReceive ix) s ∧ LevelsRaised s ∧ ((s.sess ix).state
        = .active ∨ (s.sess ix).state = .closing) ∧ (s.sess ix).reqs = r :: rest ∧ ((s.sess ix).rnrRetry = 7 ∨ r.rnrTries < (s.sess
        ix).rnrRetry)) ((witSession fun x => { x with rnrRetry := 7, reqs := [witReq .notify] })) 4 (witReq .notify) []) ∧
    ((fun (s : State) (ix : Nat) (r : DevReq) (rest : List DevReq) => Ready (.requestRetryTimeout ix) s ∧ ((s.sess ix).state = .active
        ∨ (s.sess ix).state = .closing) ∧ (s.sess ix).reqs = r :: rest ∧ r.tries < (s.sess ix).retry) ((witSession fun x =>
        { x with retry := 2, reqs := [witReq .notify] })) 4 (witReq .notify) []) ∧
    ((fun (s : State) (ix : Nat) (r : DevReq) (rest : List DevReq) (q : Path) => Ready (.requestRetryTimeout ix) s ∧ ((s.sess ix).state
        = .active ∨ (s.sess ix).state = .closing) ∧ (s.sess ix).reqs = r :: rest ∧ (s.sess ix).retry ≤ r.tries ∧ (s.sess ix).alt = some
        q ∧ (s.port q.port).link = true) ((State.modPort (witSession fun x =>
        { x with reqs := [witReq .notify], alt := some { noPath with port := 1 } }) 1 fun x => { x with link := true })) 4 (witReq
        .notify) [] { noPath with port := 1 }) ∧
    ((fun (s : State) (ix : Nat) => Ready (.cnpReceive ix) s ∧ ((s.sess ix).state = .active ∨ (s.sess ix).state = .closing))
        ((witSession fun x => { x with rate := 8 })) 4) ∧
    ((fun (s : State) (ix : Nat) => Ready (.rateIncrease ix) s ∧ ((s.sess ix).state = .active ∨ (s.sess ix).state = .closing))
        ((witSession fun x => { x with rate := 8 })) 4) ∧
    ((fun (s : State) => Ready .fetchIssue s ∧ s.fetchChoice = none) live) ∧
    ((fun (s : State) (i : Nat) => Ready .fetchIssue s ∧ s.fetchChoice = some i) ((State.modSess witHost 4 fun x =>
        { x with tail := 3, respRes := 4 })) 4) ∧
    ((fun (s : State) (k o : Nat) (c : Cmd) (r : Resv) => Ready (.grantIssue k) s ∧ s.cmd? k = some c ∧ eOp c.entry = 2 ∧ ePush c.entry
        = true ∧ c.phase = .waiting ∧ c.walked = true ∧ c.resv = some r ∧ r.granted = true ∧ c.issued < dataLen c ∧ (s.sess
        c.sess).grants.any (fun g => g.tag == k) = false ∧ ((s.sess c.sess).state = .active ∨ (s.sess c.sess).state = .closing) ∧
        ((windowSpot (s.sess c.sess) (s.sess c.sess).grantEnd (min (s.pieceMax c) (dataLen c - c.issued))).or (windowSpot (s.sess
        c.sess) 0 (min (s.pieceMax c) (dataLen c - c.issued)))) = some o) witPush 7 0 witPushCmd
        { blocks := 1, granted := true, stackA := 0, stackB := 1 }) ∧
    ((fun (s : State) (k : Nat) => Ready (.grantIssue k) s ∧ s.cmd? k = none) live 7) ∧
    ((fun (s : State) (k : Nat) (c : Cmd) (g : Grant) => Ready (.pushTimeout k) s ∧ s.cmd? k = some c ∧ c.phase = .waiting ∧ c.accept =
        none ∧ (s.sess c.sess).grants = [g] ∧ g.tag = k ∧ g.notified = true) ((State.modSess witPush 4 fun x =>
        { x with grants := [{ witGrant with tag := 7, notified := true }] })) 7 witPushCmd { witGrant with tag := 7, notified := true }) ∧
    ((fun (s : State) (ix : Nat) (q : Quarantine) (rest : List Quarantine) => Ready (.quarantineEnd ix) s ∧ (s.sess ix).quarantine = q
        :: rest) ((witSession fun x => { x with quarantine := [{ ofs := 16, len := 8, until_ := 9 }] })) 4
        { ofs := 16, len := 8, until_ := 9 } []) ∧
    ((fun (s : State) (ix : Nat) => Ready (.quarantineEnd ix) s ∧ (s.sess ix).quarantine = []) live 4) := by
  refine ⟨?_, ?_, ?_, ?_, ?_, ?_, ?_, ?_, ?_, ?_, ?_, ?_, ?_, ?_, ?_, ?_, ?_, ?_, ?_⟩
  · decide +kernel
  · decide +kernel
  · decide
  · decide
  · decide
  · decide +kernel
  · decide
  · decide
  · decide
  · decide
  · decide
  · decide
  · decide
  · decide
  · repeat' apply And.intro
    all_goals first | decide +kernel | rfl
  · decide
  · repeat' apply And.intro
    all_goals first | decide +kernel | rfl
  · decide
  · decide

/-- States and operands that meet the hypotheses of CommandsHandedOn, clause by clause. -/
theorem witness_CommandsHandedOn :
    ((fun (s : State) (k : Nat) (c : Cmd) => Ready (rowOf c.entry k) s ∧ s.cmd? k = some c ∧ c.phase = .handed ∧ s.oldestHanded k c =
        false) witTwoHanded 7 (newCmd 0 0 0 (witEntry 1 1 1 5) { zeroPair with time := 9 })) ∧
    ((fun (s : State) (k : Nat) (c : Cmd) => Ready (rowOf c.entry k) s ∧ s.cmd? k = some c ∧ c.phase = .handed ∧ s.oldestHanded k c =
        true ∧ s.idInUse k c = true) witIdInUse 7 (newCmd 0 0 0 (witEntry 1 1 1 5) zeroPair)) ∧
    ((fun (s : State) (k : Nat) (c : Cmd) (r : CompRecord) => Ready (rowOf c.entry k) s ∧ s.cmd? k = some c ∧ c.phase = .handed ∧
        s.oldestHanded k c = true ∧ s.idInUse k c = false ∧ s.recordOf c.lineage (eCmdId c.entry) = some r ∧ isRepostable r.opcode =
        false) witRecorded 7 (newCmd 0 0 0 (witEntry 2 1 1 5) zeroPair) witCompRecord) ∧
    ((fun (s : State) (k : Nat) (c : Cmd) => Ready (rowOf c.entry k) s ∧ s.cmd? k = some c ∧ c.phase = .handed ∧ s.oldestHanded k c =
        true ∧ s.idInUse k c = false ∧ s.recordOf c.lineage (eCmdId c.entry) = none ∧ (badHeader c.entry (s.sess c.sess).lwSize = true
        ∨ badFields c.entry = true)) ((witHanded (witEntry 1 1 0 5))) 7 (newCmd 0 0 0 (witEntry 1 1 0 5) zeroPair)) ∧
    ((fun (s : State) (k : Nat) (c : Cmd) => Ready (rowOf c.entry k) s ∧ s.cmd? k = some c ∧ c.phase = .handed ∧ s.oldestHanded k c =
        true ∧ s.idInUse k c = false ∧ s.recordOf c.lineage (eCmdId c.entry) = none ∧ badHeader c.entry (s.sess c.sess).lwSize = false
        ∧ badFields c.entry = false ∧ isRestricted c.entry = true ∧ (s.rv64 .eqtAdminMaskLo .eqtAdminMaskHi).testBit (s.sess
        c.sess).group = false) ((State.setRv (State.modSess (witHanded (BitVec.ofNat 512 (0x40 + 2 ^ 16 + 2 ^ 128 * 5))) 0 fun x =>
        { x with state := .active, group := 9 }) .eqtAdminMaskLo 1)) 7 (newCmd 0 0 0 (BitVec.ofNat 512 (0x40 + 2 ^ 16 + 2 ^ 128 * 5))
        zeroPair)) ∧
    ((fun (s : State) (k n : Nat) (c : Cmd) => Ready (rowOf c.entry k) s ∧ s.cmd? k = some c ∧ c.phase = .handed ∧ s.oldestHanded k c =
        true ∧ s.idInUse k c = false ∧ s.recordOf c.lineage (eCmdId c.entry) = none ∧ badHeader c.entry (s.sess c.sess).lwSize = false
        ∧ badFields c.entry = false ∧ (isRestricted c.entry = false ∨ (s.rv64 .eqtAdminMaskLo .eqtAdminMaskHi).testBit (s.sess
        c.sess).group = true) ∧ n ∈ needsNs c.entry ∧ s.nsExists n = false) ((witHanded (witEntry 3 2 1 5))) 7 2 (newCmd 0 0 0
        (witEntry 3 2 1 5) zeroPair)) ∧
    ((fun (s : State) (k : Nat) (c : Cmd) => Ready (rowOf c.entry k) s ∧ s.cmd? k = some c ∧ c.phase = .handed ∧ s.oldestHanded k c =
        true ∧ s.idInUse k c = false ∧ s.recordOf c.lineage (eCmdId c.entry) = none ∧ badHeader c.entry (s.sess c.sess).lwSize = false
        ∧ badFields c.entry = false ∧ (isRestricted c.entry = false ∨ (s.rv64 .eqtAdminMaskLo .eqtAdminMaskHi).testBit (s.sess
        c.sess).group = true) ∧ (∀ n, n ∈ needsNs c.entry → s.nsExists n = true) ∧ s.badType c.entry = true) ((witHanded (witEntry 8 1
        0 0))) 7 (newCmd 0 0 0 (witEntry 8 1 0 0) zeroPair)) ∧
    ((fun (s : State) (k : Nat) (c : Cmd) => Ready (rowOf c.entry k) s ∧ s.cmd? k = some c ∧ c.phase = .handed ∧ s.oldestHanded k c =
        true ∧ s.idInUse k c = false ∧ s.recordOf c.lineage (eCmdId c.entry) = none ∧ badHeader c.entry (s.sess c.sess).lwSize = false
        ∧ badFields c.entry = false ∧ (isRestricted c.entry = false ∨ (s.rv64 .eqtAdminMaskLo .eqtAdminMaskHi).testBit (s.sess
        c.sess).group = true) ∧ (∀ n, n ∈ needsNs c.entry → s.nsExists n = true) ∧ s.badType c.entry = false ∧ s.badRange c.entry =
        true) ((witHanded (witEntry 3 1 9 131070))) 7 (newCmd 0 0 0 (witEntry 3 1 9 131070) zeroPair)) ∧
    ((fun (s : State) (k : Nat) => Ready (.read k) s ∧ s.cmd? k = none) live 7) ∧
    ((fun (s : State) (k : Nat) (c : Cmd) => Ready (.flush k) s ∧ s.cmd? k = some c ∧ c.phase ≠ .handed ∧ eOp c.entry ≠ 4) ((witAcc
        .placed 1 id)) 7 (witWork 1 id)) := by
  refine ⟨?_, ?_, ?_, ?_, ?_, ?_, ?_, ?_, ?_, ?_⟩
  · repeat' apply And.intro
    all_goals first | decide +kernel | rfl
  · repeat' apply And.intro
    all_goals first | decide +kernel | rfl
  · repeat' apply And.intro
    all_goals first | decide +kernel | rfl
  · repeat' apply And.intro
    all_goals first | decide +kernel | rfl
  · repeat' apply And.intro
    all_goals first | decide +kernel | rfl
  · repeat' apply And.intro
    all_goals first | decide +kernel | rfl
  · repeat' apply And.intro
    all_goals first | decide +kernel | rfl
  · repeat' apply And.intro
    all_goals first | decide +kernel | rfl
  · decide
  · repeat' apply And.intro
    all_goals first | decide +kernel | rfl

/-- States and operands that meet the hypotheses of ReadsAndWalks, clause by clause. -/
theorem witness_ReadsAndWalks :
    ((fun (s : State) (k : Nat) (c : Cmd) (st : BitVec 16) => Ready (.read k) s ∧ s.cmd? k = some c ∧ c.phase = .handed ∧
        s.oldestHanded k c = true ∧ s.idInUse k c = false ∧ s.recordOf c.lineage (eCmdId c.entry) = none ∧ s.checkEntry c.sess c.entry
        = none ∧ eOp c.entry = 1 ∧ protStatus c = some st) ((witHanded (witPiEntry 1))) 7 (newCmd 0 0 0 (witPiEntry 1) zeroPair) 0x0210) ∧
    ((fun (s : State) (k : Nat) (c : Cmd) (st : BitVec 16) => Ready (.read k) s ∧ s.cmd? k = some c ∧ c.phase = .handed ∧
        s.oldestHanded k c = true ∧ s.idInUse k c = false ∧ s.recordOf c.lineage (eCmdId c.entry) = none ∧ s.checkEntry c.sess c.entry
        = none ∧ eOp c.entry = 1 ∧ protStatus c = none ∧ ePush c.entry = false ∧ walkList [] 0 [eDptr c.entry] = .bad st) ((witHanded
        (witEntry 1 1 1 5))) 7 (newCmd 0 0 0 (witEntry 1 1 1 5) zeroPair) 0x0210) ∧
    ((fun (s : State) (k : Nat) (c : Cmd) (st : BitVec 16) => Ready (.write k) s ∧ s.cmd? k = some c ∧ c.phase = .handed ∧
        s.oldestHanded k c = true ∧ s.idInUse k c = false ∧ s.recordOf c.lineage (eCmdId c.entry) = none ∧ s.checkEntry c.sess c.entry
        = none ∧ eOp c.entry = 2 ∧ protStatus c = some st) ((witHanded (witPiEntry 2))) 7 (newCmd 0 0 0 (witPiEntry 2) zeroPair) 0x0210) ∧
    ((fun (s : State) (k : Nat) (c : Cmd) (st : BitVec 16) => Ready (.write k) s ∧ s.cmd? k = some c ∧ c.phase = .handed ∧
        s.oldestHanded k c = true ∧ s.idInUse k c = false ∧ s.recordOf c.lineage (eCmdId c.entry) = none ∧ s.checkEntry c.sess c.entry
        = none ∧ eOp c.entry = 2 ∧ protStatus c = none ∧ ePush c.entry = false ∧ walkList [] 0 [eDptr c.entry] = .bad st) ((witHanded
        (witEntry 2 1 1 5))) 7 (newCmd 0 0 0 (witEntry 2 1 1 5) zeroPair) 0x0210) ∧
    ((fun (s : State) (k : Nat) (c : Cmd) => Ready (.gather k) s ∧ s.cmd? k = some c ∧ c.phase = .handed ∧ s.oldestHanded k c = true ∧
        s.idInUse k c = false ∧ s.recordOf c.lineage (eCmdId c.entry) = none ∧ s.checkEntry c.sess c.entry = none ∧ eOp c.entry = 6 ∧
        dataSegOk (c.entry.extractLsb' 128 128) = true ∧ sgLen (c.entry.extractLsb' 128 128) ≠ 16 * ef c.entry 32 9) ((witHanded
        witGatherEntry)) 7 (newCmd 0 0 0 witGatherEntry zeroPair)) ∧
    ((fun (s : State) (k : Nat) (c : Cmd) => Ready (.read k) s ∧ s.cmd? k = some c ∧ c.phase = .waiting ∧ eOp c.entry = 1 ∧ s.mayAccept
        k c false = true ∧ c.listRead = false ∧ s.pagesHere (s.rangesOf c) = true) ((witAcc .placed 1 id)) 7 (witWork 1 id)) ∧
    ((fun (s : State) (k : Nat) (c : Cmd) => Ready (.read k) s ∧ s.cmd? k = some c ∧ c.phase = .waiting ∧ eOp c.entry = 1 ∧
        (s.mayAccept k c false = false ∨ s.pagesHere (s.rangesOf c) = false)) { witAcc .placed 1 id with tim := timReset } 7 (witWork 1
        id)) ∧
    ((fun (s : State) (k : Nat) (c : Cmd) => Ready (.gather k) s ∧ s.cmd? k = some c ∧ c.phase = .waiting ∧ eOp c.entry = 6 ∧
        s.mayAccept k c false = true ∧ c.listRead = false ∧ s.pagesHere (s.rangesOf c) = true) ((witAcc .placed 6 id)) 7 (witWork 6 id)) ∧
    ((fun (s : State) (k : Nat) (c : Cmd) => Ready (.gather k) s ∧ s.cmd? k = some c ∧ c.phase = .waiting ∧ eOp c.entry = 6 ∧
        (s.mayAccept k c false = false ∨ s.pagesHere (s.rangesOf c) = false)) { witAcc .placed 6 id with tim := timReset } 7 (witWork 6
        id)) ∧
    ((fun (s : State) (k : Nat) (c : Cmd) => Ready (.verify k) s ∧ s.cmd? k = some c ∧ c.phase = .waiting ∧ eOp c.entry = 7 ∧
        s.mayAccept k c false = true ∧ c.listRead = false ∧ s.pagesHere (s.rangesOf c) = true) ((witAcc .placed 7 id)) 7 (witWork 7 id)) ∧
    ((fun (s : State) (k : Nat) (c : Cmd) => Ready (.verify k) s ∧ s.cmd? k = some c ∧ c.phase = .waiting ∧ eOp c.entry = 7 ∧
        (s.mayAccept k c false = false ∨ s.pagesHere (s.rangesOf c) = false)) { witAcc .placed 7 id with tim := timReset } 7 (witWork 7
        id)) ∧
    ((fun (s : State) (k : Nat) (c : Cmd) (b : Bound) => Ready (.readDataDelivered k) s ∧ s.cmd? k = some c ∧ c.phase = .accepted ∧
        c.walked = true ∧ (eOp c.entry = 7 ∨ blockData (eOp c.entry) = true) ∧ (∀ x, x ∈ c.bound → x.got = true ∨ x.lost = true) ∧
        c.bound.find? (fun x => x.lost) = some b) ((witAny .placed (witLost 1))) 7 (witLost 1)
        { witBound with got := false, lost := true }) ∧
    ((fun (s : State) (k : Nat) (c : Cmd) => Ready (.readDataDelivered k) s ∧ s.cmd? k = some c ∧ c.phase = .accepted ∧ c.walked = true
        ∧ eOp c.entry = 7 ∧ (∀ x, x ∈ c.bound → x.got = true ∧ x.lost = false)) ((witAny .placed (witGot 7))) 7 (witGot 7)) ∧
    ((fun (s : State) (k : Nat) (c : Cmd) (g : Seg) => Ready (.readDataDelivered k) s ∧ s.cmd? k = some c ∧ c.phase = .accepted ∧
        c.walked = true ∧ eOp c.entry = 1 ∧ (∀ x, x ∈ c.bound → x.got = true ∧ x.lost = false) ∧ c.bound ≠ [] ∧ s.reachable c.sess =
        true ∧ c.segs = [g] ∧ (deliveredBytes c).1.length ≤ g.len ∧ g.len ≤ 65536 ∧ 0 < (deliveredBytes c).1.length ∧ c.prot = none)
        witReach 7 witDeliver { addr := 64, len := 4096, rkey := 1 }) ∧
    ((fun (s : State) (k : Nat) (c : Cmd) => Ready (.readDataDelivered k) s ∧ s.cmd? k = some c ∧ c.phase = .accepted ∧ c.walked = true
        ∧ (eOp c.entry = 7 ∨ blockData (eOp c.entry) = true) ∧ (∃ x, x ∈ c.bound ∧ x.got = false ∧ x.lost = false)) ((witAny .placed
        (witPart 1))) 7 (witPart 1)) ∧
    ((fun (s : State) (k : Nat) (c : Cmd) => Ready (.readDataDelivered k) s ∧ s.cmd? k = some c ∧ (c.phase ≠ .accepted ∨ c.walked =
        false)) ((witAcc .placed 1 id)) 7 (witWork 1 id)) := by
  refine ⟨?_, ?_, ?_, ?_, ?_, ?_, ?_, ?_, ?_, ?_, ?_, ?_, ?_, ?_, ?_, ?_⟩
  · repeat' apply And.intro
    all_goals first | decide +kernel | rfl
  · repeat' apply And.intro
    all_goals first | decide +kernel | rfl
  · repeat' apply And.intro
    all_goals first | decide +kernel | rfl
  · repeat' apply And.intro
    all_goals first | decide +kernel | rfl
  · repeat' apply And.intro
    all_goals first | decide +kernel | rfl
  · repeat' apply And.intro
    all_goals first | decide +kernel | rfl
  · repeat' apply And.intro
    all_goals first | decide +kernel | rfl
  · repeat' apply And.intro
    all_goals first | decide +kernel | rfl
  · repeat' apply And.intro
    all_goals first | decide +kernel | rfl
  · repeat' apply And.intro
    all_goals first | decide +kernel | rfl
  · repeat' apply And.intro
    all_goals first | decide +kernel | rfl
  · repeat' apply And.intro
    all_goals first | decide +kernel | rfl
  · repeat' apply And.intro
    all_goals first | decide +kernel | rfl
  · repeat' apply And.intro
    all_goals first | decide +kernel | rfl
  · refine ⟨?_, ?_, ?_, ?_, ?_, ⟨_, List.mem_singleton.mpr rfl, ?_⟩⟩
    all_goals first | decide +kernel | rfl
  · repeat' apply And.intro
    all_goals first | decide +kernel | rfl

/-- States and operands that meet the hypotheses of WritesAndFlushes, clause by clause. -/
theorem witness_WritesAndFlushes :
    ((fun (s : State) (k a b : Nat) (c : Cmd) (segs : List Seg) => Ready (.write k) s ∧ s.cmd? k = some c ∧ c.phase = .handed ∧
        s.oldestHanded k c = true ∧ s.idInUse k c = false ∧ s.recordOf c.lineage (eCmdId c.entry) = none ∧ s.checkEntry c.sess c.entry
        = none ∧ eOp c.entry = 2 ∧ ePi c.entry = 0 ∧ walkList [] 0 [eDptr c.entry] = .done segs ∧ (segs.map Seg.len).sum = dataLen c ∧
        c.chain = none ∧ s.cmdsOf c.sess = [(k, c)] ∧ s.plc.resvQueue = [] ∧ s.earlierFetched c.fetch = false ∧ s.mayRead c.sess =
        false ∧ s.resvPair (eNblk c.entry) ((s.ns (eNsid c.entry)).kind == .placed) = some (a, b)) ((witHanded (witDataEntry 2))) 7 0 1
        (newCmd 0 0 0 (witDataEntry 2) zeroPair) [{ addr := 0, len := 4096, rkey := 0 }]) ∧
    ((fun (s : State) (k : Nat) (c : Cmd) (segs : List Seg) => Ready (.write k) s ∧ s.cmd? k = some c ∧ c.phase = .handed ∧
        s.oldestHanded k c = true ∧ s.idInUse k c = false ∧ s.recordOf c.lineage (eCmdId c.entry) = none ∧ s.checkEntry c.sess c.entry
        = none ∧ eOp c.entry = 2 ∧ ePi c.entry = 0 ∧ walkList [] 0 [eDptr c.entry] = .done segs ∧ (segs.map Seg.len).sum = dataLen c ∧
        c.chain = none ∧ s.cmdsOf c.sess = [(k, c)] ∧ s.plc.resvQueue = [] ∧ s.mayRead c.sess = false ∧ (s.earlierFetched c.fetch =
        true ∨ s.resvPair (eNblk c.entry) ((s.ns (eNsid c.entry)).kind == .placed) = none))
        { witHanded (witDataEntry 2) with plc := { (witHanded (witDataEntry 2)).plc with landing := [] }, hbm := { hbmReset with inUse := 0 } }
        7 (newCmd 0 0 0 (witDataEntry 2) zeroPair) [{ addr := 0, len := 4096, rkey := 0 }]) ∧
    ((fun (s : State) (k : Nat) (c : Cmd) => Ready (.write k) s ∧ s.cmd? k = some c ∧ inWork c = true ∧ eOp c.entry = 2) ((witAcc
        .placed 2 id)) 7 (witWork 2 id)) ∧
    ((fun (s : State) (k : Nat) (c : Cmd) => Ready (.copy k) s ∧ s.cmd? k = some c ∧ c.phase = .waiting ∧ eOp c.entry = 5 ∧
        c.copyStarted = false ∧ s.orderAllows k c = true ∧ s.heldByCopy k c = false ∧ s.pagesHere [copySource c.entry] = true) ((witAcc
        .placed 5 id)) 7 (witWork 5 id)) ∧
    ((fun (s : State) (k : Nat) (c : Cmd) => Ready (.copy k) s ∧ s.cmd? k = some c ∧ c.phase = .waiting ∧ eOp c.entry = 5 ∧
        (c.copyStarted = true ∨ s.orderAllows k c = false ∨ s.heldByCopy k c = true ∨ s.pagesHere [copySource c.entry] = false))
        ((witAcc .placed 5 fun c => { c with copyStarted := true })) 7 (witWork 5 fun c => { c with copyStarted := true })) ∧
    ((fun (s : State) (k : Nat) (c : Cmd) (r : Resv) => Ready (.writeAccept k) s ∧ s.cmd? k = some c ∧ c.resv = some r ∧ r.granted =
        true ∧ c.recopy = 0 ∧ (eOp c.entry = 2 ∧ c.present = true ∨ eOp c.entry = 5 ∧ c.copyStarted = true ∧ ∀ b ∈ c.bound, b.got =
        true ∨ b.lost = true) ∧ (∀ b ∈ c.bound, b.lost = false) ∧ s.mayAccept k c true = true ∧ s.dirty ≤ s.pwr.dmax ∧ (s.ns (eNsid
        c.entry)).kind ≠ .zoned) ((witAcc .placed 2 fun c => { c with resv := some witResv, present := true })) 7 (witWork 2 fun c =>
        { c with resv := some witResv, present := true }) witResv) ∧
    ((fun (s : State) (k : Nat) (c : Cmd) (r : Resv) => Ready (.writeAccept k) s ∧ s.cmd? k = some c ∧ c.resv = some r ∧ r.granted =
        true ∧ c.recopy = 0 ∧ (eOp c.entry = 2 ∧ c.present = true ∨ eOp c.entry = 5 ∧ c.copyStarted = true ∧ ∀ b ∈ c.bound, b.got =
        true ∨ b.lost = true) ∧ (∀ b ∈ c.bound, b.lost = false) ∧ s.mayAccept k c true = true ∧ s.dirty ≤ s.pwr.dmax ∧ (s.ns (eNsid
        c.entry)).kind = .zoned ∧ s.zoneWriteStatus (eNsid c.entry) (targetLba c) (eNblk c.entry) = none) ((witAny .zoned
        witWriteZero)) 7 witWriteZero witResv) ∧
    ((fun (s : State) (k : Nat) (c : Cmd) (r : Resv) (st : BitVec 16) => Ready (.writeAccept k) s ∧ s.cmd? k = some c ∧ c.resv = some r
        ∧ r.granted = true ∧ c.recopy = 0 ∧ (eOp c.entry = 2 ∧ c.present = true ∨ eOp c.entry = 5 ∧ c.copyStarted = true ∧ ∀ b ∈
        c.bound, b.got = true ∨ b.lost = true) ∧ (∀ b ∈ c.bound, b.lost = false) ∧ s.mayAccept k c true = true ∧ s.dirty ≤ s.pwr.dmax ∧
        (s.ns (eNsid c.entry)).kind = .zoned ∧ s.zoneWriteStatus (eNsid c.entry) (targetLba c) (eNblk c.entry) = some st) ((witAcc
        .zoned 2 fun c => { c with resv := some witResv, present := true })) 7 (witWork 2 fun c =>
        { c with resv := some witResv, present := true }) witResv 0x0101) ∧
    ((fun (s : State) (k lba : Nat) (c : Cmd) (r : Resv) => Ready (.writeAccept k) s ∧ s.cmd? k = some c ∧ c.resv = some r ∧ r.granted
        = true ∧ c.recopy = 0 ∧ (eOp c.entry = 2 ∧ c.present = true ∨ eOp c.entry = 5 ∧ c.copyStarted = true ∧ ∀ b ∈ c.bound, b.got =
        true ∨ b.lost = true) ∧ ((c.bound.filter (·.lost)).map Bound.lba).min? = some lba) ((witAcc .placed 5 fun c =>
        { c with resv := some witResv, copyStarted := true, bound := [{ witBound with lost := true }] })) 7 5 (witWork 5 fun c =>
        { c with resv := some witResv, copyStarted := true, bound := [{ witBound with lost := true }] }) witResv) ∧
    ((fun (s : State) (k : Nat) (c : Cmd) (r : Resv) => Ready (.writeAccept k) s ∧ s.cmd? k = some c ∧ c.resv = some r ∧ r.granted =
        true ∧ c.recopy = 0 ∧ (eOp c.entry = 2 ∧ c.present = true ∨ eOp c.entry = 5 ∧ c.copyStarted = true ∧ ∀ b ∈ c.bound, b.got =
        true ∨ b.lost = true) ∧ (∀ b ∈ c.bound, b.lost = false) ∧ (s.mayAccept k c true = false ∨ s.pwr.dmax < s.dirty))
        { witAcc .placed 5 fun c => { c with resv := some witResv, copyStarted := true, bound := [witBound] } with tim := timReset } 7
        (witWork 5 fun c => { c with resv := some witResv, copyStarted := true, bound := [witBound] }) witResv) ∧
    ((fun (s : State) (k : Nat) (c : Cmd) => Ready (.writeAccept k) s ∧ s.cmd? k = some c ∧ c.resv = none) ((witAcc .placed 2 id)) 7
        (witWork 2 id)) ∧
    ((fun (s : State) (k : Nat) (c : Cmd) => Ready (.deallocate k) s ∧ s.cmd? k = some c ∧ c.phase = .waiting ∧ eOp c.entry = 3 ∧
        s.mayAccept k c true = true) ((witAcc .placed 3 id)) 7 (witWork 3 id)) ∧
    ((fun (s : State) (k : Nat) (c : Cmd) => Ready (.flush k) s ∧ s.cmd? k = some c ∧ c.phase = .waiting ∧ eOp c.entry = 4 ∧
        s.mayAccept k c false = true) ((witAcc .placed 4 id)) 7 (witWork 4 id)) ∧
    ((fun (s : State) (k : Nat) (c : Cmd) (p : Pair) => Ready (.flushDone k) s ∧ s.cmd? k = some c ∧ c.phase = .accepted ∧ c.accept =
        some p ∧ eOp c.entry = 4 ∧ c.awaits = [] ∧ s.coveredOnMedia (if eFlushAll c.entry then none else some (eNsid c.entry)) p =
        true) ((witAny .placed witFlush)) 7 witFlush zeroPair) ∧
    ((fun (s : State) (k : Nat) (c : Cmd) (p : Pair) => Ready (.flushDone k) s ∧ s.cmd? k = some c ∧ c.phase = .accepted ∧ c.accept =
        some p ∧ eOp c.entry = 4 ∧ (c.awaits ≠ [] ∨ s.coveredOnMedia (if eFlushAll c.entry then none else some (eNsid c.entry)) p =
        false)) witUncovered 7 { witFlush with accept := some { zeroPair with time := 9 } } { zeroPair with time := 9 }) := by
  refine ⟨?_, ?_, ?_, ?_, ?_, ?_, ?_, ?_, ?_, ?_, ?_, ?_, ?_, ?_, ?_⟩
  · repeat' apply And.intro
    all_goals first | decide +kernel | rfl
  · repeat' apply And.intro
    all_goals first | decide +kernel | rfl
  · repeat' apply And.intro
    all_goals first | decide +kernel | rfl
  · repeat' apply And.intro
    all_goals first | decide +kernel | rfl
  · repeat' apply And.intro
    all_goals first | decide +kernel | rfl
  · repeat' apply And.intro
    all_goals first | decide +kernel | rfl
  · repeat' apply And.intro
    all_goals first | decide +kernel | rfl
  · repeat' apply And.intro
    all_goals first | decide +kernel | rfl
  · repeat' apply And.intro
    all_goals first | decide +kernel | rfl
  · repeat' apply And.intro
    all_goals first | decide +kernel | rfl
  · repeat' apply And.intro
    all_goals first | decide +kernel | rfl
  · repeat' apply And.intro
    all_goals first | decide +kernel | rfl
  · repeat' apply And.intro
    all_goals first | decide +kernel | rfl
  · repeat' apply And.intro
    all_goals first | decide +kernel | rfl
  · repeat' apply And.intro
    all_goals first | decide +kernel | rfl

/-- States and operands that meet the hypotheses of ZonesAndNamespaces, clause by clause. -/
theorem witness_ZonesAndNamespaces :
    ((fun (s : State) (k : Nat) (c : Cmd) => Ready (.zoneClose k) s ∧ s.cmd? k = some c ∧ c.phase = .waiting ∧ eOp c.entry = 8 ∧
        s.mayAccept k c false = true ∧ eZoneAction c.entry = 0 ∧ eZoneAll c.entry = false ∧ (s.zone (eNsid c.entry) (eLba c.entry /
        zoneBlocks)).state = .open_) ((witZoned 0 { state := .open_, wp := 3, lastWrite := 0 } id)) 7 (witZone 0 id)) ∧
    ((fun (s : State) (k : Nat) (c : Cmd) => Ready (.zoneClose k) s ∧ s.cmd? k = some c ∧ c.phase = .waiting ∧ eOp c.entry = 8 ∧
        s.mayAccept k c false = true ∧ eZoneAction c.entry = 0 ∧ eZoneAll c.entry = false ∧ (s.zone (eNsid c.entry) (eLba c.entry /
        zoneBlocks)).state = .closed) ((witZoned 0 { state := .closed, wp := 3, lastWrite := 0 } id)) 7 (witZone 0 id)) ∧
    ((fun (s : State) (k : Nat) (c : Cmd) => Ready (.zoneClose k) s ∧ s.cmd? k = some c ∧ c.phase = .waiting ∧ eOp c.entry = 8 ∧
        s.mayAccept k c false = true ∧ eZoneAction c.entry = 0 ∧ eZoneAll c.entry = false ∧ ((s.zone (eNsid c.entry) (eLba c.entry /
        zoneBlocks)).state = .empty ∨ (s.zone (eNsid c.entry) (eLba c.entry / zoneBlocks)).state = .full)) ((witZoned 0
        { state := .full, wp := 3, lastWrite := 0 } id)) 7 (witZone 0 id)) ∧
    ((fun (s : State) (k : Nat) (c : Cmd) => Ready (.zoneClose k) s ∧ s.cmd? k = some c ∧ c.phase = .waiting ∧ eOp c.entry = 8 ∧
        s.mayAccept k c false = true ∧ eZoneAction c.entry = 0 ∧ eZoneAll c.entry = true) witCloseAll 7 (witEntryWork (BitVec.ofNat 512
        (8 + 2 ^ 16 + 2 ^ 40)) id)) ∧
    ((fun (s : State) (k : Nat) (c : Cmd) => Ready (.zoneFinish k) s ∧ s.cmd? k = some c ∧ c.phase = .waiting ∧ eOp c.entry = 8 ∧
        s.mayAccept k c true = true ∧ eZoneAction c.entry = 1 ∧ eZoneAll c.entry = false ∧ (s.zone (eNsid c.entry) (eLba c.entry /
        zoneBlocks)).state ≠ .full) ((witZoned 1 { state := .closed, wp := 3, lastWrite := 0 } id)) 7 (witZone 1 id)) ∧
    ((fun (s : State) (k : Nat) (c : Cmd) => Ready (.zoneFinish k) s ∧ s.cmd? k = some c ∧ c.phase = .waiting ∧ eOp c.entry = 8 ∧
        s.mayAccept k c true = true ∧ eZoneAction c.entry = 1 ∧ eZoneAll c.entry = false ∧ (s.zone (eNsid c.entry) (eLba c.entry /
        zoneBlocks)).state = .full) ((witZoned 1 { state := .full, wp := 3, lastWrite := 0 } id)) 7 (witZone 1 id)) ∧
    ((fun (s : State) (k : Nat) (c : Cmd) => Ready (.zoneReset k) s ∧ s.cmd? k = some c ∧ c.phase = .waiting ∧ eOp c.entry = 8 ∧
        s.mayAccept k c true = true ∧ eZoneAction c.entry = 2 ∧ eZoneAll c.entry = false ∧ (s.zone (eNsid c.entry) (eLba c.entry /
        zoneBlocks)).state ≠ .empty) ((witZoned 2 { state := .closed, wp := 3, lastWrite := 0 } id)) 7 (witZone 2 id)) ∧
    ((fun (s : State) (k : Nat) (c : Cmd) => Ready (.zoneReset k) s ∧ s.cmd? k = some c ∧ c.phase = .waiting ∧ eOp c.entry = 8 ∧
        s.mayAccept k c true = true ∧ eZoneAction c.entry = 2 ∧ eZoneAll c.entry = false ∧ (s.zone (eNsid c.entry) (eLba c.entry /
        zoneBlocks)).state = .empty) ((witZoned 2 { state := .empty, wp := 3, lastWrite := 0 } id)) 7 (witZone 2 id)) ∧
    ((fun (s : State) (k : Nat) (c : Cmd) => Ready (.zoneReport k) s ∧ s.cmd? k = some c ∧ c.phase = .waiting ∧ eOp c.entry = 9 ∧
        s.mayAccept k c false = true) ((witAcc .zoned 9 id)) 7 (witWork 9 id)) ∧
    ((fun (s : State) (k : Nat) (c : Cmd) => Ready (.nsCreate k) s ∧ s.cmd? k = some c ∧ c.phase = .waiting ∧ eOp c.entry = 64 ∧
        s.mayAccept k c false = true ∧ s.stageCode < 2 ∧ (s.ns (eNsid c.entry)).kind = .absent ∧ s.allocated + eLba c.entry ≤
        s.plc.userCap) ((witAny .placed (witEntryWork witNsEntry id))) 7 (witEntryWork witNsEntry id)) ∧
    ((fun (s : State) (k : Nat) (c : Cmd) => Ready (.nsCreate k) s ∧ s.cmd? k = some c ∧ c.phase = .waiting ∧ eOp c.entry = 64 ∧
        s.mayAccept k c false = true ∧ s.stageCode < 2 ∧ (s.ns (eNsid c.entry)).kind ≠ .absent) ((witAcc .placed 0x40 id)) 7 (witWork
        0x40 id)) ∧
    ((fun (s : State) (k : Nat) (c : Cmd) => Ready (.nsCreate k) s ∧ s.cmd? k = some c ∧ c.phase = .waiting ∧ eOp c.entry = 64 ∧
        s.mayAccept k c false = true ∧ s.stageCode < 2 ∧ (s.ns (eNsid c.entry)).kind = .absent ∧ s.plc.userCap < s.allocated + eLba
        c.entry) { witAny .placed (witEntryWork witNsEntry id) with plc := plcReset } 7 (witEntryWork witNsEntry id)) ∧
    ((fun (s : State) (k : Nat) (c : Cmd) => Ready (.nsDelete k) s ∧ s.cmd? k = some c ∧ c.phase = .waiting ∧ eOp c.entry = 65 ∧
        s.mayAccept k c false = true ∧ s.nsExists (eNsid c.entry) = true ∧ s.cmdsOf c.sess = [(k, c)] ∧ s.eqt.cmds = [(k, c)]) ((witAcc
        .placed 0x41 id)) 7 (witWork 0x41 id)) ∧
    ((fun (s : State) (k : Nat) (c : Cmd) => Ready (.nsDelete k) s ∧ s.cmd? k = some c ∧ c.phase = .waiting ∧ eOp c.entry = 65 ∧
        s.mayAccept k c false = true ∧ s.nsExists (eNsid c.entry) = false) ((witAcc .absent 0x41 id)) 7 (witWork 0x41 id)) ∧
    ((fun (s : State) (k : Nat) (c : Cmd) => Ready (.nsDeleteDone k) s ∧ s.cmd? k = some c ∧ eOp c.entry = 0x41 ∧ c.phase = .accepted ∧
        s.ownOnMedia k = true ∧ s.stageCode < 2 ∧ s.eqt.cmds = [(k, c)] ∧ (s.ns (eNsid c.entry)).kind = .deleting) ((witAny .deleting
        (witDeleting))) 7 witDeleting) ∧
    ((fun (s : State) (k : Nat) (c : Cmd) => Ready (.nsDeleteDone k) s ∧ s.cmd? k = some c ∧ (s.ownOnMedia k = false ∨ 2 ≤
        s.stageCode)) { witAny .deleting witDeleting with pwr := { pwrReset with pwrgood := true, railEn := true, stage := 2 } } 7
        witDeleting) := by
  refine ⟨?_, ?_, ?_, ?_, ?_, ?_, ?_, ?_, ?_, ?_, ?_, ?_, ?_, ?_, ?_, ?_⟩
  · repeat' apply And.intro
    all_goals first | decide +kernel | rfl
  · repeat' apply And.intro
    all_goals first | decide +kernel | rfl
  · repeat' apply And.intro
    all_goals first | decide +kernel | rfl
  · repeat' apply And.intro
    all_goals first | decide +kernel | rfl
  · repeat' apply And.intro
    all_goals first | decide +kernel | rfl
  · repeat' apply And.intro
    all_goals first | decide +kernel | rfl
  · repeat' apply And.intro
    all_goals first | decide +kernel | rfl
  · repeat' apply And.intro
    all_goals first | decide +kernel | rfl
  · repeat' apply And.intro
    all_goals first | decide +kernel | rfl
  · repeat' apply And.intro
    all_goals first | decide +kernel | rfl
  · repeat' apply And.intro
    all_goals first | decide +kernel | rfl
  · repeat' apply And.intro
    all_goals first | decide +kernel | rfl
  · repeat' apply And.intro
    all_goals first | decide +kernel | rfl
  · repeat' apply And.intro
    all_goals first | decide +kernel | rfl
  · repeat' apply And.intro
    all_goals first | decide +kernel | rfl
  · repeat' apply And.intro
    all_goals first | decide +kernel | rfl

/-- States and operands that meet the hypotheses of ImagesAndActivation, clause by clause. -/
theorem witness_ImagesAndActivation :
    ((fun (s : State) (k : Nat) (c : Cmd) => Ready (.imageDownload k) s ∧ s.cmd? k = some c ∧ c.phase = .waiting ∧ eOp c.entry = 66 ∧
        s.mayAccept k c false = true ∧ c.present = true ∧ s.downloadFits c = true) ((witAny .placed (witEntryWork witImgEntry fun c =>
        { c with present := true }))) 7 (witEntryWork witImgEntry fun c => { c with present := true })) ∧
    ((fun (s : State) (k : Nat) (c : Cmd) => Ready (.imageDownload k) s ∧ s.cmd? k = some c ∧ c.phase = .waiting ∧ eOp c.entry = 66 ∧
        s.mayAccept k c false = true ∧ c.present = true ∧ s.downloadFits c = false) ((witAny .placed (witEntryWork witImgNext fun c =>
        { c with present := true }))) 7 (witEntryWork witImgNext fun c => { c with present := true })) ∧
    ((fun (s : State) (k : Nat) (c : Cmd) => Ready (.imageActivate k) s ∧ s.cmd? k = some c ∧ c.phase = .waiting ∧ eOp c.entry = 67 ∧
        s.mayAccept k c false = true ∧ s.eqt.activation.isSome = true)
        { witAny .placed witActivate with eqt := { (witAny .placed witActivate).eqt with activation := some witActivation } } 7
        witActivate) ∧
    ((fun (s : State) (k : Nat) (c : Cmd) => Ready (.imageActivate k) s ∧ s.cmd? k = some c ∧ c.phase = .waiting ∧ eOp c.entry = 67 ∧
        s.mayAccept k c false = true ∧ s.eqt.activation = none ∧ (∃ x, x ∈ kindsOf (ef c.entry 32 2) ∧ s.stagedWhole x = none))
        ((witAny .placed witActivate)) 7 witActivate) ∧
    ((fun (s : State) (k : Nat) (c : Cmd) => Ready (.imageActivate k) s ∧ s.cmd? k = some c ∧ c.phase = .waiting ∧ eOp c.entry = 67 ∧
        s.mayAccept k c false = true ∧ s.eqt.activation = none ∧ (∀ x, x ∈ kindsOf (ef c.entry 32 2) → (s.stagedWhole x).isSome =
        true)) witStaged 7 witActivate) ∧
    ((fun (s : State) (flashOk : Bool) => Ready (.activationSequence flashOk) s ∧ s.eqt.activation = none) live true) ∧
    ((fun (s : State) (a : Activation) (c : Cmd) => Ready (.activationSequence false) s ∧ s.eqt.activation = some a ∧ a.cut = false ∧
        a.step = 0 ∧ s.stageCode < 2 ∧ s.cmd? a.tag = some c ∧ c.phase = .accepted) ((witActing 0 witBoth))
        { witActivation with kinds := 3 } { witActivate with phase := .accepted }) ∧
    ((fun (s : State) (a : Activation) => Ready (.activationSequence true) s ∧ s.eqt.activation = some a ∧ a.cut = false ∧ a.step = 0 ∧
        s.stageCode < 2) ((witActing 0 witBoth)) { witActivation with kinds := 3 }) ∧
    ((fun (s : State) (flashOk : Bool) (a : Activation) => Ready (.activationSequence flashOk) s ∧ s.eqt.activation = some a ∧ a.cut =
        false ∧ a.step = 0 ∧ 2 ≤ s.stageCode) ((witActing 0 fun s => { s with pwr := { s.pwr with stage := 2 } })) true witActivation) ∧
    ((fun (s : State) (flashOk : Bool) (a : Activation) => Ready (.activationSequence flashOk) s ∧ s.eqt.activation = some a ∧ a.cut =
        false ∧ a.step = 1) ((witActing 1 id)) true { witActivation with step := 1 }) ∧
    ((fun (s : State) (flashOk : Bool) (a : Activation) => Ready (.activationSequence flashOk) s ∧ s.eqt.activation = some a ∧ a.cut =
        false ∧ a.step = 2 ∧ s.seqsStopped = true ∧ s.stageCode < 2) ((witActing 2 id)) true { witActivation with step := 2 }) ∧
    ((fun (s : State) (flashOk : Bool) (a : Activation) => Ready (.activationSequence flashOk) s ∧ s.eqt.activation = some a ∧ a.cut =
        false ∧ a.step = 2 ∧ (s.seqsStopped = false ∨ 2 ≤ s.stageCode)) ((witActing 2 fun s =>
        { s with pwr := { s.pwr with stage := 2 } })) true { witActivation with step := 2 }) ∧
    ((fun (s : State) (flashOk : Bool) (a : Activation) => Ready (.activationSequence flashOk) s ∧ s.eqt.activation = some a ∧ a.step =
        3 ∧ a.kinds.testBit 1 = false) ((witActing 3 id)) true { witActivation with step := 3 }) ∧
    ((fun (s : State) (flashOk : Bool) (a : Activation) => Ready (.activationSequence flashOk) s ∧ s.eqt.activation = some a ∧ a.step =
        3 ∧ a.kinds.testBit 1 = true) ((witActing 3 witBoth)) true { witActivation with step := 3, kinds := 3 }) ∧
    ((fun (s : State) (flashOk : Bool) (a : Activation) (c : Cmd) => Ready (.activationSequence flashOk) s ∧ s.eqt.activation = some a
        ∧ a.step = 4 ∧ s.cmd? a.tag = some c ∧ c.phase = .accepted ∧ s.eqt.mraQueue = []) ((witActing 4 id)) true
        { witActivation with step := 4 } { witActivate with phase := .accepted }) ∧
    ((fun (s : State) (flashOk : Bool) (a : Activation) (c : Cmd) => Ready (.activationSequence flashOk) s ∧ s.eqt.activation = some a
        ∧ a.cut = true ∧ a.step < 3 ∧ s.cmd? a.tag = some c ∧ c.phase = .accepted ∧ s.eqt.mraQueue = [])
        { witActing 1 id with eqt := { (witActing 1 id).eqt with activation := some { witActivation with step := 1, cut := true } } }
        true { witActivation with step := 1, cut := true } { witActivate with phase := .accepted }) ∧
    ((fun (s : State) (flashOk : Bool) (a : Activation) => Ready (.activationSequence flashOk) s ∧ s.eqt.activation = some a ∧ a.step =
        5) ((witActing 5 id)) true { witActivation with step := 5 }) := by
  refine ⟨?_, ?_, ?_, ?_, ?_, ?_, ?_, ?_, ?_, ?_, ?_, ?_, ?_, ?_, ?_, ?_, ?_⟩
  · repeat' apply And.intro
    all_goals first | decide +kernel | rfl
  · repeat' apply And.intro
    all_goals first | decide +kernel | rfl
  · repeat' apply And.intro
    all_goals first | decide +kernel | rfl
  · refine ⟨?_, ?_, ?_, ?_, ?_, ?_, ⟨1, ?_, ?_⟩⟩
    all_goals first | decide +kernel | rfl
  · repeat' apply And.intro
    all_goals first | decide +kernel | rfl
  · decide
  · repeat' apply And.intro
    all_goals first | decide +kernel | rfl
  · repeat' apply And.intro
    all_goals first | decide +kernel | rfl
  · repeat' apply And.intro
    all_goals first | decide +kernel | rfl
  · repeat' apply And.intro
    all_goals first | decide +kernel | rfl
  · repeat' apply And.intro
    all_goals first | decide +kernel | rfl
  · repeat' apply And.intro
    all_goals first | decide +kernel | rfl
  · repeat' apply And.intro
    all_goals first | decide +kernel | rfl
  · repeat' apply And.intro
    all_goals first | decide +kernel | rfl
  · repeat' apply And.intro
    all_goals first | decide +kernel | rfl
  · repeat' apply And.intro
    all_goals first | decide +kernel | rfl
  · repeat' apply And.intro
    all_goals first | decide +kernel | rfl

/-- States and operands that meet the hypotheses of LogsAndRegisters, clause by clause. -/
theorem witness_LogsAndRegisters :
    ((fun (s : State) (k : Nat) (c : Cmd) => Ready (.latencyTolerance k) s ∧ s.cmd? k = some c ∧ c.phase = .waiting ∧ eOp c.entry = 68
        ∧ s.mayAccept k c false = true) ((witAny .placed (witEntryWork (BitVec.ofNat 512 (0x44 + 2 ^ 128 * 900)) id))) 7 (witEntryWork
        (BitVec.ofNat 512 (0x44 + 2 ^ 128 * 900)) id)) ∧
    ((fun (s : State) (k len : Nat) (c : Cmd) => Ready (.getLog k) s ∧ s.cmd? k = some c ∧ c.phase = .waiting ∧ eOp c.entry = 69 ∧
        s.mayAccept k c false = true ∧ s.logLen (ef c.entry 32 8) = some len ∧ (ef c.entry 32 8 = 3 → s.flt.slots.all (fun e =>
        !e.2.poisoned) = true) ∧ (ef c.entry 32 8 = 4 → s.tal.ring.all (fun e => !e.2.poisoned) = true)) ((witAny .placed (witEntryWork
        (witLogEntry 5) id))) 7 1024 (witEntryWork (witLogEntry 5) id)) ∧
    ((fun (s : State) (k len i : Nat) (c : Cmd) (r : FaultRecord) => Ready (.getLog k) s ∧ s.cmd? k = some c ∧ c.phase = .waiting ∧ eOp
        c.entry = 69 ∧ s.mayAccept k c false = true ∧ s.logLen (ef c.entry 32 8) = some len ∧ ef c.entry 32 8 = 3 ∧ s.flt.slots = [(2 *
        i, r)] ∧ r.poisoned = true ∧ i < 2048 ∧ eLba c.entry < 64 + 64 * (i + 1) ∧ 64 + 64 * i < eLba c.entry + ef c.entry 192 32)
        { witAny .placed (witEntryWork (witLogEntry 3) id) with flt := { fltReset with slots := [(0, { witRecord with poisoned := true })] } }
        7 131136 0 (witEntryWork (witLogEntry 3) id) { witRecord with poisoned := true }) ∧
    ((fun (s : State) (k len i : Nat) (c : Cmd) (r : TailRecord) => Ready (.getLog k) s ∧ s.cmd? k = some c ∧ c.phase = .waiting ∧ eOp
        c.entry = 69 ∧ s.mayAccept k c false = true ∧ s.logLen (ef c.entry 32 8) = some len ∧ ef c.entry 32 8 = 4 ∧ s.tal.ring = [(i,
        r)] ∧ r.poisoned = true ∧ eLba c.entry < 1024 + 256 * (i + 1) ∧ 1024 + 256 * i < eLba c.entry + ef c.entry 192 32) witTailLost
        7 (1024 + 256 * witTailLost.tailCapacity) 0 (witEntryWork (witLogEntry 4) id) witTailRecord) ∧
    ((fun (s : State) (k : Nat) (c : Cmd) => Ready (.getLog k) s ∧ s.cmd? k = some c ∧ c.phase = .waiting ∧ eOp c.entry = 69 ∧
        s.mayAccept k c false = true ∧ s.logLen (ef c.entry 32 8) = none) ((witAny .placed (witEntryWork (witLogEntry 9) id))) 7
        (witEntryWork (witLogEntry 9) id)) ∧
    ((fun (s : State) (k : Nat) (c : Cmd) => Ready (.attest k) s ∧ s.cmd? k = some c ∧ c.phase = .waiting ∧ eOp c.entry = 70 ∧
        s.mayAccept k c false = true) ((witAcc .placed 0x46 id)) 7 (witWork 0x46 id)) ∧
    ((fun (s : State) (k : Nat) (c : Cmd) (r : Reg) => Ready (.regAccessRead k) s ∧ s.cmd? k = some c ∧ c.phase = .waiting ∧ eOp
        c.entry = 72 ∧ s.mayAccept k c false = true ∧ eRegWrite c.entry = false ∧ regAt (ef c.entry 128 32) = some r ∧ s.blockOff r =
        false ∧ regUpper r = none ∧ regLower r = none ∧ r ≠ .pwrSense ∧ r ≠ .pinThermStat) ((witAny .placed (witRegEntry 0 (regAddr
        .orbSeekCfg) 0))) 7 (witRegEntry 0 (regAddr .orbSeekCfg) 0) .orbSeekCfg) ∧
    ((fun (s : State) (k : Nat) (c : Cmd) (r u : Reg) => Ready (.regAccessRead k) s ∧ s.cmd? k = some c ∧ c.phase = .waiting ∧ eOp
        c.entry = 72 ∧ s.mayAccept k c false = true ∧ eRegWrite c.entry = false ∧ regAt (ef c.entry 128 32) = some r ∧ s.blockOff r =
        false ∧ regUpper r = some u) ((witAny .placed (witRegEntry 0 (regAddr .eqtAdminMaskLo) 0))) 7 (witRegEntry 0 (regAddr
        .eqtAdminMaskLo) 0) .eqtAdminMaskLo .eqtAdminMaskHi) ∧
    ((fun (s : State) (k : Nat) (c : Cmd) => Ready (.regAccessRead k) s ∧ s.cmd? k = some c ∧ c.phase = .waiting ∧ eOp c.entry = 72 ∧
        s.mayAccept k c false = true ∧ eRegWrite c.entry = false ∧ regAt (ef c.entry 128 32) = none) ((witAny .placed (witRegEntry 0
        0x2345678 0))) 7 (witRegEntry 0 0x2345678 0)) ∧
    ((fun (s : State) (k : Nat) (c : Cmd) (r : Reg) => Ready (.regAccessWrite k) s ∧ s.cmd? k = some c ∧ c.phase = .waiting ∧ eOp
        c.entry = 72 ∧ s.mayAccept k c false = true ∧ eRegWrite c.entry = true ∧ r ∈ plainRegs ∧ regAt (ef c.entry 128 32) = some r ∧
        Accepts s r (BitVec.ofNat 32 (ef c.entry 160 32))) ((witAny .placed (witRegEntry 1 (regAddr .orbSeekCfg) 7))) 7 (witRegEntry 1
        (regAddr .orbSeekCfg) 7) .orbSeekCfg) ∧
    ((fun (s : State) (k : Nat) (c : Cmd) => Ready (.regAccessWrite k) s ∧ s.cmd? k = some c ∧ c.phase = .waiting ∧ eOp c.entry = 72 ∧
        s.mayAccept k c false = true ∧ eRegWrite c.entry = true ∧ regAt (ef c.entry 128 32) = none) ((witAny .placed (witRegEntry 1
        0x2345678 0))) 7 (witRegEntry 1 0x2345678 0)) ∧
    ((fun (s : State) (k : Nat) (c : Cmd) (r : Reg) => Ready (.regAccessWrite k) s ∧ s.cmd? k = some c ∧ c.phase = .waiting ∧ eOp
        c.entry = 72 ∧ s.mayAccept k c false = true ∧ eRegWrite c.entry = true ∧ regAt (ef c.entry 128 32) = some r ∧ s.blockOff r =
        false ∧ regUpper r = none ∧ s.wordRefused r (BitVec.ofNat 32 (ef c.entry 160 32)) = true) ((witAny .placed (witRegEntry 1
        (regAddr .talCfg) 0))) 7 (witRegEntry 1 (regAddr .talCfg) 0) .talCfg) ∧
    ((fun (s : State) (k : Nat) (c : Cmd) (r : Reg) => Ready (.regAccessWrite k) s ∧ s.cmd? k = some c ∧ c.phase = .waiting ∧ eOp
        c.entry = 72 ∧ s.mayAccept k c false = true ∧ eRegWrite c.entry = true ∧ regAt (ef c.entry 128 32) = some r ∧ s.blockOff r =
        false ∧ regUpper r = none ∧ s.wordRefused r (BitVec.ofNat 32 (ef c.entry 160 32)) = false ∧ s.syncConflict r (BitVec.ofNat 32
        (ef c.entry 160 32)) = true) ((State.setRv (witAny .placed (witRegEntry 1 (regAddr .talCfg) 0xA0000401)) .timCfg 0x81001932)) 7
        (witRegEntry 1 (regAddr .talCfg) 0xA0000401) .talCfg) := by
  refine ⟨?_, ?_, ?_, ?_, ?_, ?_, ?_, ?_, ?_, ?_, ?_, ?_, ?_⟩
  · repeat' apply And.intro
    all_goals first | decide +kernel | rfl
  · repeat' apply And.intro
    all_goals first | decide +kernel | rfl
  · repeat' apply And.intro
    all_goals first | decide +kernel | rfl
  · repeat' apply And.intro
    all_goals first | decide +kernel | rfl
  · repeat' apply And.intro
    all_goals first | decide +kernel | rfl
  · repeat' apply And.intro
    all_goals first | decide +kernel | rfl
  · repeat' apply And.intro
    all_goals first | decide +kernel | rfl
  · repeat' apply And.intro
    all_goals first | decide +kernel | rfl
  · repeat' apply And.intro
    all_goals first | decide +kernel | rfl
  · repeat' apply And.intro
    all_goals first | decide +kernel | rfl
  · repeat' apply And.intro
    all_goals first | decide +kernel | rfl
  · repeat' apply And.intro
    all_goals first | decide +kernel | rfl
  · repeat' apply And.intro
    all_goals first | decide +kernel | rfl

/-- States and operands that meet the hypotheses of QueuesAndCompletions, clause by clause. -/
theorem witness_QueuesAndCompletions :
    ((fun (s : State) (k : Nat) (c : Cmd) => Ready (.queueReset k) s ∧ s.cmd? k = some c ∧ c.phase = .handed ∧ s.oldestHanded k c =
        true ∧ s.idInUse k c = false ∧ s.recordOf c.lineage (eCmdId c.entry) = none ∧ s.checkEntry c.sess c.entry = none ∧ s.acceptOpen
        = true ∧ eOp c.entry = 0x47 ∧ s.cmdsOf c.sess = [(k, c)]) ((witHanded (BitVec.ofNat 512 0x47))) 7 (newCmd 0 0 0 (BitVec.ofNat
        512 0x47) zeroPair)) ∧
    ((fun (s : State) (k j : Nat) (c d : Cmd) => Ready (.queueReset k) s ∧ s.cmd? k = some c ∧ c.phase = .handed ∧ s.oldestHanded k c =
        true ∧ s.idInUse k c = false ∧ s.recordOf c.lineage (eCmdId c.entry) = none ∧ s.checkEntry c.sess c.entry = none ∧ s.acceptOpen
        = true ∧ eOp c.entry = 0x47 ∧ s.eqt.cmds = [(j, d), (k, c)] ∧ j ≠ k ∧ d.sess = c.sess ∧ d.phase = .waiting ∧ d.accept = none ∧
        isOrderedOp (eOp d.entry) = true) witResetTwo 7 3 (newCmd 0 0 0 (BitVec.ofNat 512 0x47) zeroPair)
        { witWork 2 id with lineage := 1 }) ∧
    ((fun (s : State) (k : Nat) (c : Cmd) => Ready (.queueResetDone k) s ∧ s.cmd? k = some c ∧ eOp c.entry = 0x47 ∧ c.phase = .accepted
        ∧ (s.sess c.sess).resetTag = some k ∧ s.cmdsOf c.sess = [(k, c)]) ((State.modSess (witAny .placed witReset) 0 fun x =>
        { x with state := .active, resetTag := some 7 })) 7 witReset) ∧
    ((fun (s : State) (k : Nat) (c : Cmd) => Ready (.queueResetDone k) s ∧ s.cmd? k = some c ∧ eOp c.entry = 0x47 ∧ c.phase = .accepted
        ∧ (s.cmdsOf c.sess).length ≠ 1) witResetBusy 7 witReset) ∧
    ((fun (s : State) (k : Nat) (c : Cmd) => Ready (.claimEvent k) s ∧ s.cmd? k = some c ∧ c.phase = .handed ∧ s.oldestHanded k c =
        true ∧ s.idInUse k c = false ∧ s.recordOf c.lineage (eCmdId c.entry) = none ∧ s.checkEntry c.sess c.entry = none ∧ s.acceptOpen
        = true ∧ eOp c.entry = 0x49 ∧ s.claimable c.sess (ef c.entry 32 16) = none) ((witHanded witClaimEntry)) 7 (newCmd 0 0 0
        witClaimEntry zeroPair)) ∧
    ((fun (s : State) (k n : Nat) (c : Cmd) => Ready (.claimEvent k) s ∧ s.cmd? k = some c ∧ c.phase = .handed ∧ s.oldestHanded k c =
        true ∧ s.idInUse k c = false ∧ s.recordOf c.lineage (eCmdId c.entry) = none ∧ s.checkEntry c.sess c.entry = none ∧ s.acceptOpen
        = true ∧ eOp c.entry = 0x49 ∧ s.claimable c.sess (ef c.entry 32 16) = some n ∧ (s.sess c.sess).events = false) witClaimable 7
        200 (newCmd 0 0 0 witClaimEntry zeroPair)) ∧
    ((fun (s : State) (k n : Nat) (c : Cmd) => Ready (.claimEvent k) s ∧ s.cmd? k = some c ∧ c.phase = .handed ∧ s.oldestHanded k c =
        true ∧ s.idInUse k c = false ∧ s.recordOf c.lineage (eCmdId c.entry) = none ∧ s.checkEntry c.sess c.entry = none ∧ s.acceptOpen
        = true ∧ eOp c.entry = 0x49 ∧ s.claimable c.sess (ef c.entry 32 16) = some n ∧ (s.sess c.sess).events = true ∧ evClaimRoom
        (s.sess c.sess) = true) ((State.modSess witClaimable 0 fun x =>
        { x with events := true, eq := { emptyEventRing with log2 := 4 } })) 7 200 (newCmd 0 0 0 witClaimEntry zeroPair)) ∧
    ((fun (s : State) (k n : Nat) (c : Cmd) => Ready (.claimEvent k) s ∧ s.cmd? k = some c ∧ c.phase = .handed ∧ s.oldestHanded k c =
        true ∧ s.idInUse k c = false ∧ s.recordOf c.lineage (eCmdId c.entry) = none ∧ s.checkEntry c.sess c.entry = none ∧ s.acceptOpen
        = true ∧ eOp c.entry = 0x49 ∧ s.claimable c.sess (ef c.entry 32 16) = some n ∧ (s.sess c.sess).events = true ∧ evClaimRoom
        (s.sess c.sess) = false) ((State.modSess witClaimable 0 fun x => { x with events := true })) 7 200 (newCmd 0 0 0 witClaimEntry
        zeroPair)) ∧
    ((fun (s : State) (k n : Nat) (c : Cmd) => Ready (.completeEvent k) s ∧ s.cmd? k = some c ∧ c.phase = .handed ∧ s.oldestHanded k c
        = true ∧ s.idInUse k c = false ∧ s.recordOf c.lineage (eCmdId c.entry) = none ∧ s.checkEntry c.sess c.entry = none ∧
        s.acceptOpen = true ∧ eOp c.entry = 0x4A ∧ ef c.entry 32 16 = n ∧ s.heldSource c.sess = some n ∧ evcIsLevel n = false)
        witHolding 7 200 (newCmd 0 0 0 (BitVec.ofNat 512 (0x4A + 2 ^ 32 * 200)) zeroPair)) ∧
    ((fun (s : State) (k : Nat) (c : Cmd) => Ready (.completeEvent k) s ∧ s.cmd? k = some c ∧ c.phase = .handed ∧ s.oldestHanded k c =
        true ∧ s.idInUse k c = false ∧ s.recordOf c.lineage (eCmdId c.entry) = none ∧ s.checkEntry c.sess c.entry = none ∧ s.acceptOpen
        = true ∧ eOp c.entry = 0x4A ∧ s.heldSource c.sess ≠ some (ef c.entry 32 16)) ((witHanded (BitVec.ofNat 512 (0x4A + 2 ^ 32 *
        200)))) 7 (newCmd 0 0 0 (BitVec.ofNat 512 (0x4A + 2 ^ 32 * 200)) zeroPair)) ∧
    ((fun (s : State) (k : Nat) (c : Cmd) => Ready (.claimEvent k) s ∧ s.cmd? k = some c ∧ c.phase = .handed ∧ s.oldestHanded k c =
        true ∧ s.idInUse k c = false ∧ s.recordOf c.lineage (eCmdId c.entry) = none ∧ s.checkEntry c.sess c.entry = none ∧ eOp c.entry
        = 0x49 ∧ s.acceptOpen = false) { witHanded witClaimEntry with tim := timReset } 7 (newCmd 0 0 0 witClaimEntry zeroPair)) ∧
    ((fun (s : State) (k : Nat) (c : Cmd) (l : Lineage) => Ready (.commandComplete k) s ∧ s.cmd? k = some c ∧ c.phase = .done ∧
        s.mayComplete k = true ∧ c.claimWait = false ∧ c.heldEnd = false ∧ c.noRecord = false ∧ aget s.eqt.lineages c.lineage = some l
        ∧ l.memory = [] ∧ s.oldPending c.sess = 0 ∧ (s.sess c.sess).state = .active ∧ (s.sess c.sess).cq.waiting = [] ∧ unconsumed
        (s.sess c.sess).cq.log2 (s.sess c.sess).cq.wr (s.sess c.sess).cq.head + 1 < 2 ^ (s.sess c.sess).cq.log2 ∧ (s.sess
        c.sess).cq.count + 1 < (s.sess c.sess).modCount ∧ s.eqt.activation = none ∧ (eOp c.entry ≠ 0x40 ∧ eOp c.entry ≠ 0x41 ∧ eOp
        c.entry ≠ 0x43 ∧ eOp c.entry ≠ 0x47 ∨ c.status ≠ 0)) ((witCompleting 1)) 7 (witEnded 1) { witLin with bound := some 0 }) ∧
    ((fun (s : State) (k : Nat) (c : Cmd) => Ready (.commandComplete k) s ∧ s.cmd? k = some c ∧ c.phase = .done ∧ s.mayComplete k =
        true ∧ c.claimWait = false ∧ c.heldEnd = false ∧ c.noRecord = true ∧ s.oldPending c.sess = 0 ∧ (s.sess c.sess).state = .active
        ∧ (s.sess c.sess).cq.waiting = [] ∧ unconsumed (s.sess c.sess).cq.log2 (s.sess c.sess).cq.wr (s.sess c.sess).cq.head + 1 < 2 ^
        (s.sess c.sess).cq.log2 ∧ (s.sess c.sess).cq.count + 1 < (s.sess c.sess).modCount ∧ s.eqt.activation = none) ((witEndedBare 2))
        7 { witEnded 2 with noRecord := true }) ∧
    ((fun (s : State) (k : Nat) (c : Cmd) => Ready (.commandComplete k) s ∧ s.cmd? k = some c ∧ c.phase = .done ∧ s.mayComplete k =
        true ∧ c.claimWait = false ∧ c.heldEnd = false ∧ c.noRecord = false ∧ eOp c.entry = 0x47 ∧ c.status = 0 ∧ s.oldPending c.sess =
        0 ∧ (s.sess c.sess).state = .active ∧ (s.sess c.sess).cq.waiting = [] ∧ unconsumed (s.sess c.sess).cq.log2 (s.sess
        c.sess).cq.wr (s.sess c.sess).cq.head + 1 < 2 ^ (s.sess c.sess).cq.log2 ∧ (s.sess c.sess).cq.count + 1 < (s.sess
        c.sess).modCount ∧ s.eqt.activation = none ∧ s.heldSource c.sess = none) ((witCompleting 0x47)) 7 (witEnded 0x47)) ∧
    ((fun (s : State) (k : Nat) (c : Cmd) => Ready (.commandComplete k) s ∧ s.cmd? k = some c ∧ c.phase = .done ∧ s.mayComplete k =
        true ∧ c.claimWait = false ∧ c.heldEnd = false ∧ c.noRecord = false ∧ (eOp c.entry = 0x40 ∨ eOp c.entry = 0x41) ∧ c.status = 0
        ∧ s.oldPending c.sess = 0 ∧ (s.sess c.sess).state = .active ∧ (s.sess c.sess).cq.waiting = [] ∧ unconsumed (s.sess
        c.sess).cq.log2 (s.sess c.sess).cq.wr (s.sess c.sess).cq.head + 1 < 2 ^ (s.sess c.sess).cq.log2 ∧ (s.sess c.sess).cq.count + 1
        < (s.sess c.sess).modCount ∧ s.eqt.activation = none) ((witCompleting 0x40)) 7 (witEnded 0x40)) ∧
    ((fun (s : State) (k : Nat) (c : Cmd) (l : Lineage) => Ready (.commandComplete k) s ∧ s.cmd? k = some c ∧ c.phase = .done ∧
        s.mayComplete k = true ∧ c.claimWait = false ∧ c.heldEnd = true ∧ c.noRecord = true ∧ aget s.eqt.lineages c.lineage = some l ∧
        l.bound = none ∧ s.eqt.activation = none ∧ (s.sess c.sess).state = .free) witHeldEnd 7
        { witEnded 2 with noRecord := true, heldEnd := true } { witLin with bound := none }) ∧
    ((fun (s : State) (k : Nat) (c : Cmd) => Ready (.commandComplete k) s ∧ s.cmd? k = some c ∧ (c.phase ≠ .done ∨ s.mayComplete k =
        false ∨ c.claimWait = true ∧ (s.sess c.sess).eq.waitingClaim ≠ [])) ((witAcc .placed 1 id)) 7 (witWork 1 id)) ∧
    ((fun (s : State) (ix d : Nat) => Ready (.modTimerExpire ix) s ∧ (s.sess ix).cq.timer = some d ∧ s.reachable ix = true)
        ((State.modSess witHost 4 fun x => { x with cq := { x.cq with timer := some 9, count := 3 } })) 4 9) ∧
    ((fun (s : State) (ix d : Nat) => Ready (.modTimerExpire ix) s ∧ (s.sess ix).cq.timer = some d ∧ s.reachable ix = false)
        ((witSession fun x => { x with cq := { x.cq with timer := some 9, count := 3 } })) 4 9) ∧
    ((fun (s : State) (ix : Nat) => Ready (.modTimerExpire ix) s ∧ (s.sess ix).cq.timer = none) live 4) := by
  refine ⟨?_, ?_, ?_, ?_, ?_, ?_, ?_, ?_, ?_, ?_, ?_, ?_, ?_, ?_, ?_, ?_, ?_, ?_, ?_, ?_⟩
  · repeat' apply And.intro
    all_goals first | decide +kernel | rfl
  · repeat' apply And.intro
    all_goals first | decide +kernel | rfl
  · repeat' apply And.intro
    all_goals first | decide +kernel | rfl
  · repeat' apply And.intro
    all_goals first | decide +kernel | rfl
  · repeat' apply And.intro
    all_goals first | decide +kernel | rfl
  · repeat' apply And.intro
    all_goals first | decide +kernel | rfl
  · repeat' apply And.intro
    all_goals first | decide +kernel | rfl
  · repeat' apply And.intro
    all_goals first | decide +kernel | rfl
  · repeat' apply And.intro
    all_goals first | decide +kernel | rfl
  · repeat' apply And.intro
    all_goals first | decide +kernel | rfl
  · repeat' apply And.intro
    all_goals first | decide +kernel | rfl
  · repeat' apply And.intro
    all_goals first | decide +kernel | rfl
  · repeat' apply And.intro
    all_goals first | decide +kernel | rfl
  · repeat' apply And.intro
    all_goals first | decide +kernel | rfl
  · repeat' apply And.intro
    all_goals first | decide +kernel | rfl
  · repeat' apply And.intro
    all_goals first | decide +kernel | rfl
  · repeat' apply And.intro
    all_goals first | decide +kernel | rfl
  · repeat' apply And.intro
    all_goals first | decide +kernel | rfl
  · repeat' apply And.intro
    all_goals first | decide +kernel | rfl
  · decide

/-- States and operands that meet the hypotheses of EventSources, clause by clause. -/
theorem witness_EventSources :
    ((fun (s : State) (ag : Agent) (n : Nat) (v : Word) => Ready (.evcMaskWrite ag n false v) s ∧ regAt (regAddr (.evcMaskLo n)) = some
        (.evcMaskLo n) ∧ s.blockOff (.evcMaskLo n) = false) live .mgmt 3 7) ∧
    ((fun (s : State) (ag : Agent) (n : Nat) (v : Word) => Ready (.evcMaskWrite ag n true v) s ∧ evcListed n = true ∧ Accepts s
        (.evcMaskHi n) v) witClaimable .mgmt 200 7) ∧
    ((fun (s : State) (ag : Agent) (v : Word) => Ready (.evcRaise ag v) s ∧ Accepts s .evcRaise v) live (.core 1) 0x30005) ∧
    ((fun (s : State) (ag : Agent) (v : Word) (i : Nat) => Ready (.evcRaise ag v) s ∧ Accepts s .evcRaise v ∧ (s.src (192 + fld v 21
        16)).state = .idle ∧ s.evTargets (192 + fld v 21 16) = [i] ∧ evRoom (s.sess i) = true) ((State.setRv (witSession fun x =>
        { x with events := true, group := 1, eq := { emptyEventRing with log2 := 4 } }) (.evcMaskLo 195) 2)) (.core 1) 0x30005 4) ∧
    ((fun (s : State) (ag : Agent) (v : Word) (i : Nat) => Ready (.evcRaise ag v) s ∧ Accepts s .evcRaise v ∧ (s.src (192 + fld v 21
        16)).state = .idle ∧ s.evTargets (192 + fld v 21 16) = [i] ∧ evRoom (s.sess i) = false ∧ LevelsRaised s) ((State.setRv
        (witSession fun x => { x with events := true, group := 1, eq := { emptyEventRing with log2 := 1 } }) (.evcMaskLo 195) 2))
        (.core 1) 0x30005 4) := by
  refine ⟨?_, ?_, ?_, ?_, ?_⟩
  · decide
  · decide
  · decide
  · decide
  · decide

/-- States and operands that meet the hypotheses of MemoryUpkeep, clause by clause. -/
theorem witness_MemoryUpkeep :
    ((fun (s : State) => Ready (.scrubRead false 0) s ∧ s.scrubRuns = true ∧ s.hbm.poisoned.contains s.hbm.scrubPos = false ∧
        s.hbm.correctable.contains s.hbm.scrubPos = false ∧ s.hbm.scrubPos + 1 < granules) live.withRoom) ∧
    ((fun (s : State) (k : Nat) => Ready (.scrubRead false 1) s ∧ s.scrubRuns = true ∧ s.unitStack (s.hbm.scrubPos / 16384) = some k ∧
        s.hbm.poisoned.contains s.hbm.scrubPos = false ∧ s.hbm.scrubPos + 1 < granules) live.withRoom.withCold 0) ∧
    ((fun (s : State) (k : Nat) => Ready (.scrubRead false 2) s ∧ s.scrubRuns = true ∧ s.unitStack (s.hbm.scrubPos / 16384) = some k ∧
        s.hbm.poisoned.contains s.hbm.scrubPos = false ∧ s.hbm.scrubPos + 1 < granules ∧ (s.hbm.scrubPos / 16384 < 1280 ∨ (10496 ≤
        s.hbm.scrubPos / 16384 ∧ s.hbm.scrubPos / 16384 < mapBase + 512) ∨ (mapBase + s.hbm.mapUnits ≤ s.hbm.scrubPos / 16384 ∧
        s.hbm.scrubPos / 16384 < readCacheTop))) live.withRoom.withCold 0) ∧
    ((fun (s : State) (k : Nat) => Ready (.scrubRead false 2) s ∧ s.scrubRuns = true ∧ s.unitStack (s.hbm.scrubPos / 16384) = some k ∧
        s.hbm.poisoned.contains s.hbm.scrubPos = false ∧ s.hbm.scrubPos + 1 < granules ∧ mapBase + 512 ≤ s.hbm.scrubPos / 16384 ∧
        s.hbm.scrubPos / 16384 < mapBase + s.hbm.mapUnits ∧ mapBase + s.hbm.mapUnits ≤ readCacheTop)
        { live.withRoom.withCold with hbm := { live.withRoom.withCold.hbm with mapUnits := 600, scrubPos := 16384 * 11010 } } 2) ∧
    ((fun (s : State) (k : Nat) => Ready (.scrubRead false 2) s ∧ s.scrubRuns = true ∧ s.unitStack (s.hbm.scrubPos / 16384) = some k ∧
        s.hbm.poisoned.contains s.hbm.scrubPos = false ∧ s.hbm.scrubPos + 1 < granules ∧ s.hbm.scrubPos / 16384 = 9472)
        { live.withRoom.withCold with flt := { fltReset with slots := [(0, witRecord)] }, hbm := { live.withRoom.withCold.hbm with scrubPos := 16384 * 9472 } }
        0) ∧
    ((fun (s : State) (sram : Bool) (err : Nat) => Ready (.scrubRead sram err) s ∧ s.scrubRuns = false) ((live.setRv .hbmScrubCfg 0))
        true 0) ∧
    ((fun (s : State) => Ready (.scrubRead false 0) s ∧ s.scrubRuns = true ∧ s.hbm.poisoned.contains s.hbm.scrubPos = false ∧
        s.hbm.correctable.contains s.hbm.scrubPos = false ∧ s.hbm.scrubPos + 1 = granules)
        { live.withRoom with hbm := { live.withRoom.hbm with scrubPos := 1610612735 } }) ∧
    ((fun (s : State) => Ready (.scrubRead true 0) s ∧ s.scrubRuns = true ∧ s.srm.poisoned.contains s.hbm.sramPos = false ∧
        s.srm.correctable.contains s.hbm.sramPos = false) live.withRoom) ∧
    ((fun (s : State) => Ready (.scrubRead true 1) s ∧ s.scrubRuns = true ∧ s.srm.poisoned.contains s.hbm.sramPos = false ∧ 0x1000000 ≤
        s.hbm.sramPos) { live.withRoom with hbm := { live.withRoom.hbm with sramPos := 0x2000000 } }) ∧
    ((fun (s : State) (w : Nat) (l : List Nat) => Ready (.scrubRead true 1) s ∧ s.scrubRuns = true ∧ s.srm.poisoned.contains
        s.hbm.sramPos = false ∧ s.hbm.sramPos < 0x1000000 ∧ s.hbm.sramPos / 0x100000 = w ∧ (agetD s.cch.wayErrs w []).filter (fun x =>
        decide (s.now < x + 1000000000 * fld (s.rv .cchErrCfg) 7 0)) ++ [s.now] = l ∧ (l.length < fld (s.rv .cchErrCfg) 31 16 ∨
        s.cch.waysOff.testBit w = true)) { live.withRoom with hbm := { live.withRoom.hbm with sramPos := 0x200000 } } 2 [0]) ∧
    ((fun (s : State) (w : Nat) (l : List Nat) => Ready (.scrubRead true 1) s ∧ s.scrubRuns = true ∧ s.srm.poisoned.contains
        s.hbm.sramPos = false ∧ s.hbm.sramPos < 0x1000000 ∧ s.hbm.sramPos / 0x100000 = w ∧ (agetD s.cch.wayErrs w []).filter (fun x =>
        decide (s.now < x + 1000000000 * fld (s.rv .cchErrCfg) 7 0)) ++ [s.now] = l ∧ fld (s.rv .cchErrCfg) 31 16 ≤ l.length ∧
        s.cch.waysOff.testBit w = false)
        { live.withRoom with hbm := { live.withRoom.hbm with sramPos := 0x200000 }, cch := { cchReset with wayErrs := [(2, List.replicate 63 0)] } }
        2 (List.replicate 63 0 ++ [0])) ∧
    ((fun (s : State) => Ready (.scrubRead true 2) s ∧ s.scrubRuns = true ∧ s.srm.poisoned.contains s.hbm.sramPos = false)
        live.withRoom) ∧
    ((fun (s : State) => Ready .scrubLate s ∧ s.hbm.lapLate = false ∧ s.scrubRuns = true) live.withRoom) ∧
    ((fun (s : State) => Ready .scrubLate s ∧ (s.hbm.lapLate = true ∨ s.scrubRuns = false))
        { live.withRoom with hbm := { live.withRoom.hbm with lapLate := true } }) ∧
    ((fun (s : State) (a k : Nat) (grans : List Nat) => Ready (.rowRepair a grans true) s ∧ s.rowWorn grans = true ∧ s.unitStack (a / 2
        ^ 20) = some k) { live.withRoom.withCold with hbm := { live.withRoom.withCold.hbm with poisoned := [98304] } } 0x600000 0
        [98304]) ∧
    ((fun (s : State) (a k u : Nat) (grans : List Nat) => Ready (.rowRepair a grans false) s ∧ s.rowWorn grans = true ∧ s.unitStack (a
        / 2 ^ 20) = some k ∧ s.topCacheUnit (readCacheTop - 1) 24576 = some u)
        { live.withRoom.withCold with hbm := { live.withRoom.withCold.hbm with poisoned := [98304] } } 0x600000 0 98171 [98304]) ∧
    ((fun (s : State) (a : Nat) (grans : List Nat) (spare : Bool) => Ready (.rowRepair a grans spare) s ∧ (s.unitStack (a / 2 ^ 20) =
        none ∨ s.rowWorn grans = false)) live 0x6000000000 [] true) ∧
    ((fun (s : State) (k : Nat) => Ready (.stackFail k) s ∧ s.hbm.inUse.testBit k = true ∧ s.hbm.failed = 0 ∧ (∀ b ∈ s.plc.landing,
        b.missing = false)) live.withRoom.withCold 2) ∧
    ((fun (s : State) (k : Nat) (b : LandBlock) (r : BlockRec) => Ready (.stackFail k) s ∧ s.hbm.inUse.testBit k = true ∧ s.plc.landing
        = [b] ∧ b.missing = true ∧ b.stackA = k ∧ b.row = none ∧ s.plc.blocks = [(b.key, r)] ∧ r.place = .landing ∧ r.pair = b.pair)
        { live.withRoom.withCold with plc := { live.plc with landing := [{ witLand with stackA := 2, missing := true }], blocks := [(blockKey 1 5, { val := zeroBlock 5, pair := zeroPair, place := .landing })] } }
        2 { witLand with stackA := 2, missing := true } { val := zeroBlock 5, pair := zeroPair, place := .landing }) ∧
    ((fun (s : State) (k : Nat) => Ready (.stackFail k) s ∧ s.hbm.inUse.testBit k = false) live 2) ∧
    ((fun (s : State) (ag : Agent) (v : Word) => Ready (.cacheDrain ag v) s ∧ Accepts s .cchCtl v ∧ ((bit (s.rv .cchCtl) 31 = true ∧
        bit v 31 = false) ∨ fld (s.rv .cchCtl) 15 0 &&& fld v 15 0 ≠ fld (s.rv .cchCtl) 15 0)) ((live.setRv .cchCtl 0x8010FFFF)) .mgmt
        0x0010FFFF) ∧
    ((fun (s : State) (ag : Agent) (v : Word) => Ready (.cacheDrain ag v) s ∧ Accepts s .cchCtl v ∧ (¬((bit (s.rv .cchCtl) 31 = true ∧
        bit v 31 = false) ∨ fld (s.rv .cchCtl) 15 0 &&& fld v 15 0 ≠ fld (s.rv .cchCtl) 15 0))) ((live.setRv .cchCtl 0x8010000F)) .mgmt
        0x8010FFFF) ∧
    ((fun (s : State) (l : Nat) (x : Line) => Ready .drainDone s ∧ s.cch.draining = true ∧ s.cch.drainWays = 0xFFFF ∧ s.cch.lines =
        [(l, x)] ∧ x.dirty = true ∧ s.cch.victims = [])
        { live.withRoom.withCold with cch := { cchReset with draining := true, drainWays := 0xFFFF, lines := [(3, { way := 1, dirty := true, bytes := 7 })] } }
        3 { way := 1, dirty := true, bytes := 7 }) ∧
    ((fun (s : State) => Ready .drainDone s ∧ s.cch.draining = true ∧ s.cch.lines = [] ∧ s.cch.victims = [])
        { live with cch := { cchReset with draining := true } }) ∧
    ((fun (s : State) => Ready .drainDone s ∧ s.cch.draining = false) live) := by
  refine ⟨?_, ?_, ?_, ?_, ?_, ?_, ?_, ?_, ?_, ?_, ?_, ?_, ?_, ?_, ?_, ?_, ?_, ?_, ?_, ?_, ?_, ?_, ?_, ?_, ?_⟩
  · decide
  · decide
  · decide
  · decide
  · decide
  · decide
  · decide
  · decide
  · decide
  · decide
  · decide
  · decide
  · decide
  · decide
  · decide
  · decide
  · decide
  · decide
  · repeat' apply And.intro
    all_goals first | decide +kernel | rfl
  · decide
  · decide
  · decide
  · repeat' apply And.intro
    all_goals first | decide +kernel | rfl
  · decide
  · decide

/-- States and operands that meet the hypotheses of MemoryDiagnostics, clause by clause. -/
theorem witness_MemoryDiagnostics :
    ((fun (s : State) (ag : Agent) (v : Word) => Ready (.hbmDiagWrite ag v) s ∧ Accepts s .hbmDiag v ∧ bit v 31 = true ∧ fld v 29 28 =
        0) live.withRoom .mgmt 0x80000005) ∧
    ((fun (s : State) (ag : Agent) (v : Word) => Ready (.hbmDiagWrite ag v) s ∧ Accepts s .hbmDiag v ∧ bit v 31 = true ∧ fld v 29 28 =
        1) live.withRoom .mgmt 0x90000005) ∧
    ((fun (s : State) (ag : Agent) (v : Word) => Ready (.hbmDiagWrite ag v) s ∧ Accepts s .hbmDiag v ∧ bit v 31 = true ∧ fld v 29 28 =
        2) live.withRoom .mgmt 0xa0000005) ∧
    ((fun (s : State) (ag : Agent) (v : Word) => Ready (.hbmDiagRead ag v) s ∧ Accepts s .hbmDiag v ∧ bit v 31 = false ∧ bit v 30 =
        true) live.withRoom .mgmt 0x40000005) ∧
    ((fun (s : State) (ag : Agent) (v : Word) => Ready (.srmDiagWrite ag v) s ∧ Accepts s .srmDiag v ∧ bit v 31 = true ∧ fld v 29 28 =
        0) live .mgmt 0x80000005) ∧
    ((fun (s : State) (ag : Agent) (v : Word) => Ready (.srmDiagWrite ag v) s ∧ Accepts s .srmDiag v ∧ bit v 31 = true ∧ fld v 29 28 =
        1) live .mgmt 0x90000005) ∧
    ((fun (s : State) (ag : Agent) (v : Word) => Ready (.srmDiagWrite ag v) s ∧ Accepts s .srmDiag v ∧ bit v 31 = true ∧ fld v 29 28 =
        2) live .mgmt 0xa0000005) ∧
    ((fun (s : State) (ag : Agent) (v : Word) => Ready (.srmDiagRead ag v) s ∧ Accepts s .srmDiag v ∧ bit v 31 = false ∧ bit v 30 =
        true) live .mgmt 0x40000005) := by
  refine ⟨?_, ?_, ?_, ?_, ?_, ?_, ?_, ?_⟩
  · decide +kernel
  · decide +kernel
  · decide +kernel
  · decide +kernel
  · decide +kernel
  · decide +kernel
  · decide +kernel
  · decide +kernel

/-- States and operands that meet the hypotheses of DmaMoves, clause by clause. -/
theorem witness_DmaMoves :
    ((fun (s : State) (i : Instr) (c : Nat) (fab : Option (Nat × Nat)) => Ready i s ∧ i ∈ [Instr.moveIndex c fab, .moveTwoDimensional c
        fab, .loop c, .wait c, .waitSlot c, .signal c, .flagWrite c] ∧ (32 ≤ c ∨ (s.ch c).state ≠ .running)) live (.loop 3) 3 none) ∧
    ((fun (s : State) (i : Instr) (c : Nat) (fab : Option (Nat × Nat)) => Ready i s ∧ i ∈ [Instr.moveIndex c fab, .moveTwoDimensional c
        fab, .loop c, .wait c, .waitSlot c, .signal c, .flagWrite c] ∧ c < 32 ∧ (s.ch c).state = .running ∧ 1023 < (s.ch c).pc)
        ((witDma [] fun x => { x with pc := 1024 })) (.loop 3) 3 none) ∧
    ((fun (s : State) (i : Instr) (c : Nat) (fab : Option (Nat × Nat)) => Ready i s ∧ i ∈ [Instr.moveIndex c fab, .moveTwoDimensional c
        fab, .loop c, .wait c, .waitSlot c, .signal c, .flagWrite c] ∧ c < 32 ∧ (s.ch c).state = .running ∧ (s.ch c).pc ≤ 1023 ∧
        (s.firstFault (s.rv64 (.dmaChProgLo c) (.dmaChProgHi c) + 32 * (s.ch c).pc) 32 true).isSome = true) ((State.setRv (witDma []
        id) (.dmaChProgHi 3) 0xFF)) (.loop 3) 3 none) ∧
    ((fun (s : State) (i : Instr) (c : Nat) (fab : Option (Nat × Nat)) (b : List Byte) => Ready i s ∧ i ∈ [Instr.moveIndex c fab,
        .moveTwoDimensional c fab, .loop c, .wait c, .waitSlot c, .signal c, .flagWrite c] ∧ c < 32 ∧ (s.ch c).state = .running ∧ (s.ch
        c).pc ≤ 1023 ∧ s.firstFault (s.rv64 (.dmaChProgLo c) (.dmaChProgHi c) + 32 * (s.ch c).pc) 32 true = none ∧ s.dmaInstr c = b ∧
        s.dmaBadProg c b = true) ((witDma [] id)) (.loop 3) 3 none (List.replicate 32 0)) ∧
    ((fun (s : State) (c : Nat) (b : List Byte) => Ready (.loop c) s ∧ c < 32 ∧ (s.ch c).state = .running ∧ (s.ch c).pc ≤ 1023 ∧
        s.firstFault (s.rv64 (.dmaChProgLo c) (.dmaChProgHi c) + 32 * (s.ch c).pc) 32 true = none ∧ s.dmaInstr c = b ∧ s.dmaBadProg c b
        = false ∧ diOp b ≠ 2) ((witDma (witInstr 4 0 0 0 0) id)) 3 (witInstr 4 0 0 0 0)) ∧
    ((fun (s : State) (c pc src dst len : Nat) (b d : List Byte) => Ready (.moveIndex c none) s ∧ c < 32 ∧ (s.ch c).state = .running ∧
        (s.ch c).pc ≤ 1023 ∧ s.firstFault (s.rv64 (.dmaChProgLo c) (.dmaChProgHi c) + 32 * (s.ch c).pc) 32 true = none ∧ s.dmaInstr c =
        b ∧ s.dmaBadProg c b = false ∧ diOp b = 1 ∧ diMode b = 0 ∧ diCount b = 1 ∧ (s.ch c).pc = pc ∧ agetD (s.ch c).cursors pc 0 = 0 ∧
        s.firstFault (leAt b 8 8) 16 true = none ∧ s.dmaBytes (leAt b 8 8) 16 = d ∧ leAt d 15 1 = 0 ∧ (leAt b 16 8 + leAt d 0 6) % 2 ^
        48 = src ∧ (leAt b 24 8 + leAt d 6 6) % 2 ^ 48 = dst ∧ leAt d 12 3 = len ∧ 0 < len ∧ s.moveFault src dst len none = none ∧ dst
        + len ≤ 2 ^ 48 ∧ s.cch.side = [] ∧ diEnd b = false) witMoveState 3 0 0x600800 0x600900 4 (witInstr 1 0 1 0 0x600400 0x600000
        0x600000) (witDesc 0x800 0x900 4 0)) ∧
    ((fun (s : State) (c pc : Nat) (b d : List Byte) => Ready (.moveIndex c none) s ∧ c < 32 ∧ (s.ch c).state = .running ∧ (s.ch c).pc
        ≤ 1023 ∧ s.firstFault (s.rv64 (.dmaChProgLo c) (.dmaChProgHi c) + 32 * (s.ch c).pc) 32 true = none ∧ s.dmaInstr c = b ∧
        s.dmaBadProg c b = false ∧ diOp b = 1 ∧ diMode b = 0 ∧ diCount b = 1 ∧ (s.ch c).pc = pc ∧ agetD (s.ch c).cursors pc 0 = 0 ∧
        s.firstFault (leAt b 8 8) 16 true = none ∧ s.dmaBytes (leAt b 8 8) 16 = d ∧ (leAt d 15 1).testBit 0 = true ∧ diEnd b = false)
        witMoveBad 3 0 (witInstr 1 0 1 0 0x600400 0x600000 0x600000) (witDesc 0x800 0x900 4 1)) ∧
    ((fun (s : State) (c pc src dst len o kind a : Nat) (b d : List Byte) => Ready (.moveIndex c none) s ∧ c < 32 ∧ (s.ch c).state =
        .running ∧ (s.ch c).pc ≤ 1023 ∧ s.firstFault (s.rv64 (.dmaChProgLo c) (.dmaChProgHi c) + 32 * (s.ch c).pc) 32 true = none ∧
        s.dmaInstr c = b ∧ s.dmaBadProg c b = false ∧ diOp b = 1 ∧ diMode b = 0 ∧ diCount b = 1 ∧ (s.ch c).pc = pc ∧ agetD (s.ch
        c).cursors pc 0 = 0 ∧ s.firstFault (leAt b 8 8) 16 true = none ∧ s.dmaBytes (leAt b 8 8) 16 = d ∧ leAt d 15 1 = 0 ∧ (leAt b 16
        8 + leAt d 0 6) % 2 ^ 48 = src ∧ (leAt b 24 8 + leAt d 6 6) % 2 ^ 48 = dst ∧ leAt d 12 3 = len ∧ 0 < len ∧ s.moveFault src dst
        len none = some (o, kind, a) ∧ s.addrFault ((leAt b 8 8 + 15) % 2 ^ 48) = none ∧ diEnd b = false) witMoveFault 3 0 0x2000000800
        0x600900 4 0 1 0x2000000800 (witInstr 1 0 1 0 0x600400 0x2000000000 0x600000) (witDesc 0x800 0x900 4 0)) ∧
    ((fun (s : State) (c pc src dst len : Nat) (b : List Byte) => Ready (.moveTwoDimensional c none) s ∧ c < 32 ∧ (s.ch c).state =
        .running ∧ (s.ch c).pc ≤ 1023 ∧ s.firstFault (s.rv64 (.dmaChProgLo c) (.dmaChProgHi c) + 32 * (s.ch c).pc) 32 true = none ∧
        s.dmaInstr c = b ∧ s.dmaBadProg c b = false ∧ diOp b = 1 ∧ diMode b = 1 ∧ (s.ch c).pc = pc ∧ agetD (s.ch c).cursors pc 0 = 0 ∧
        diBad b = false ∧ diTarget b = 1 ∧ leAt b 8 6 = src ∧ leAt b 24 6 = dst ∧ diCount b = len ∧ s.moveFault src dst len none = none
        ∧ dst + len ≤ 2 ^ 48 ∧ s.cch.side = [] ∧ diEnd b = false) ((witDma (witInstr 1 1 4 1 0x600800 0 0x600900) id)) 3 0 0x600800
        0x600900 4 (witInstr 1 1 4 1 0x600800 0 0x600900)) ∧
    ((fun (s : State) (c pc : Nat) (b : List Byte) => Ready (.moveTwoDimensional c none) s ∧ c < 32 ∧ (s.ch c).state = .running ∧ (s.ch
        c).pc ≤ 1023 ∧ s.firstFault (s.rv64 (.dmaChProgLo c) (.dmaChProgHi c) + 32 * (s.ch c).pc) 32 true = none ∧ s.dmaInstr c = b ∧
        s.dmaBadProg c b = false ∧ diOp b = 1 ∧ diMode b = 1 ∧ (s.ch c).pc = pc ∧ agetD (s.ch c).cursors pc 0 = 0 ∧ diBad b = true ∧
        diEnd b = false) ((witDma (witBad (witInstr 1 1 4 1 0x600800 0 0x600900)) id)) 3 0 (witBad (witInstr 1 1 4 1 0x600800 0
        0x600900))) ∧
    ((fun (s : State) (c pc src dst len o kind a : Nat) (b : List Byte) => Ready (.moveTwoDimensional c none) s ∧ c < 32 ∧ (s.ch
        c).state = .running ∧ (s.ch c).pc ≤ 1023 ∧ s.firstFault (s.rv64 (.dmaChProgLo c) (.dmaChProgHi c) + 32 * (s.ch c).pc) 32 true =
        none ∧ s.dmaInstr c = b ∧ s.dmaBadProg c b = false ∧ diOp b = 1 ∧ diMode b = 1 ∧ (s.ch c).pc = pc ∧ agetD (s.ch c).cursors pc 0
        = 0 ∧ diBad b = false ∧ diTarget b = 1 ∧ leAt b 8 6 = src ∧ leAt b 24 6 = dst ∧ diCount b = len ∧ s.moveFault src dst len none
        = some (o, kind, a) ∧ s.addrFault (((s.rv64 (.dmaChProgLo c) (.dmaChProgHi c) + 32 * (s.ch c).pc) + 1) % 2 ^ 48) = none ∧ diEnd
        b = false) ((witDma (witInstr 1 1 4 1 0x2000000800 0 0x600900) id)) 3 0 0x2000000800 0x600900 4 0 1 0x2000000800 (witInstr 1 1
        4 1 0x2000000800 0 0x600900)) := by
  refine ⟨?_, ?_, ?_, ?_, ?_, ?_, ?_, ?_, ?_, ?_, ?_⟩
  · decide
  · decide
  · decide +kernel
  · decide +kernel
  · decide +kernel
  · decide +kernel
  · decide +kernel
  · decide +kernel
  · decide +kernel
  · decide +kernel
  · decide +kernel

/-- States and operands that meet the hypotheses of DmaControl, clause by clause. -/
theorem witness_DmaControl :
    ((fun (s : State) (c pc : Nat) (b : List Byte) => Ready (.loop c) s ∧ c < 32 ∧ (s.ch c).state = .running ∧ (s.ch c).pc ≤ 1023 ∧
        s.firstFault (s.rv64 (.dmaChProgLo c) (.dmaChProgHi c) + 32 * (s.ch c).pc) 32 true = none ∧ s.dmaInstr c = b ∧ s.dmaBadProg c b
        = false ∧ (s.ch c).pc = pc ∧ diOp b = 2 ∧ (diCount b = 0 ∨ agetD (s.ch c).loops pc 0 + 1 < diCount b) ∧ diEnd b = false)
        ((witDma (witInstr 2 0 4 0 0) id)) 3 0 (witInstr 2 0 4 0 0)) ∧
    ((fun (s : State) (c pc : Nat) (b : List Byte) => Ready (.loop c) s ∧ c < 32 ∧ (s.ch c).state = .running ∧ (s.ch c).pc ≤ 1023 ∧
        s.firstFault (s.rv64 (.dmaChProgLo c) (.dmaChProgHi c) + 32 * (s.ch c).pc) 32 true = none ∧ s.dmaInstr c = b ∧ s.dmaBadProg c b
        = false ∧ (s.ch c).pc = pc ∧ diOp b = 2 ∧ diCount b ≠ 0 ∧ diCount b ≤ agetD (s.ch c).loops pc 0 + 1 ∧ diEnd b = false) ((witDma
        (witInstr 2 0 1 0 0) id)) 3 0 (witInstr 2 0 1 0 0)) ∧
    ((fun (s : State) (c pc : Nat) (b : List Byte) => Ready (.wait c) s ∧ c < 32 ∧ (s.ch c).state = .running ∧ (s.ch c).pc ≤ 1023 ∧
        s.firstFault (s.rv64 (.dmaChProgLo c) (.dmaChProgHi c) + 32 * (s.ch c).pc) 32 true = none ∧ s.dmaInstr c = b ∧ s.dmaBadProg c b
        = false ∧ (s.ch c).pc = pc ∧ diOp b = 3 ∧ diMode b < 3 ∧ agetD (s.ch c).counts (256 * diMode b + diCount b) 0 = 0) ((witDma
        (witInstr 3 1 7 0 0) id)) 3 0 (witInstr 3 1 7 0 0)) ∧
    ((fun (s : State) (c pc n : Nat) (b : List Byte) => Ready (.wait c) s ∧ c < 32 ∧ (s.ch c).state = .running ∧ (s.ch c).pc ≤ 1023 ∧
        s.firstFault (s.rv64 (.dmaChProgLo c) (.dmaChProgHi c) + 32 * (s.ch c).pc) 32 true = none ∧ s.dmaInstr c = b ∧ s.dmaBadProg c b
        = false ∧ (s.ch c).pc = pc ∧ diOp b = 3 ∧ diMode b < 3 ∧ agetD (s.ch c).counts (256 * diMode b + diCount b) 0 = n + 1 ∧ diEnd b
        = false) ((witDma (witInstr 3 1 7 0 0) fun x => { x with counts := [(263, 2)] })) 3 0 1 (witInstr 3 1 7 0 0)) ∧
    ((fun (s : State) (c pc : Nat) (b : List Byte) => Ready (.waitSlot c) s ∧ c < 32 ∧ (s.ch c).state = .running ∧ (s.ch c).pc ≤ 1023 ∧
        s.firstFault (s.rv64 (.dmaChProgLo c) (.dmaChProgHi c) + 32 * (s.ch c).pc) 32 true = none ∧ s.dmaInstr c = b ∧ s.dmaBadProg c b
        = false ∧ (s.ch c).pc = pc ∧ diOp b = 3 ∧ diMode b = 3 ∧ s.slotState (diCount b) ((diTarget b + agetD (s.ch c).cursors pc 0) %
        256) = .decoded ∧ diEnd b = false) ((State.setSlot (witDma (witInstr 3 3 4 9 0) id) 4 9 .decoded)) 3 0 (witInstr 3 3 4 9 0)) ∧
    ((fun (s : State) (c pc : Nat) (b : List Byte) => Ready (.waitSlot c) s ∧ c < 32 ∧ (s.ch c).state = .running ∧ (s.ch c).pc ≤ 1023 ∧
        s.firstFault (s.rv64 (.dmaChProgLo c) (.dmaChProgHi c) + 32 * (s.ch c).pc) 32 true = none ∧ s.dmaInstr c = b ∧ s.dmaBadProg c b
        = false ∧ (s.ch c).pc = pc ∧ diOp b = 3 ∧ diMode b = 3 ∧ s.slotState (diCount b) ((diTarget b + agetD (s.ch c).cursors pc 0) %
        256) = .failed ∧ leAt b 3 1 = 0 ∧ diEnd b = false) ((State.setSlot (witDma (witInstr 3 3 4 9 0) id) 4 9 .failed)) 3 0 (witInstr
        3 3 4 9 0)) ∧
    ((fun (s : State) (c pc : Nat) (b : List Byte) => Ready (.waitSlot c) s ∧ c < 32 ∧ (s.ch c).state = .running ∧ (s.ch c).pc ≤ 1023 ∧
        s.firstFault (s.rv64 (.dmaChProgLo c) (.dmaChProgHi c) + 32 * (s.ch c).pc) 32 true = none ∧ s.dmaInstr c = b ∧ s.dmaBadProg c b
        = false ∧ (s.ch c).pc = pc ∧ diOp b = 3 ∧ diMode b = 3 ∧ s.slotState (diCount b) ((diTarget b + agetD (s.ch c).cursors pc 0) %
        256) ≠ .decoded ∧ s.slotState (diCount b) ((diTarget b + agetD (s.ch c).cursors pc 0) % 256) ≠ .failed) ((witDma (witInstr 3 3
        4 9 0) id)) 3 0 (witInstr 3 3 4 9 0)) ∧
    ((fun (s : State) (c pc : Nat) (b : List Byte) => Ready (.signal c) s ∧ c < 32 ∧ (s.ch c).state = .running ∧ (s.ch c).pc ≤ 1023 ∧
        s.firstFault (s.rv64 (.dmaChProgLo c) (.dmaChProgHi c) + 32 * (s.ch c).pc) 32 true = none ∧ s.dmaInstr c = b ∧ s.dmaBadProg c b
        = false ∧ (s.ch c).pc = pc ∧ diOp b = 4 ∧ diMode b = 0 ∧ diEnd b = false) ((witDma (witInstr 4 0 0 0 0) id)) 3 0 (witInstr 4 0
        0 0 0)) ∧
    ((fun (s : State) (c pc : Nat) (b : List Byte) => Ready (.signal c) s ∧ c < 32 ∧ (s.ch c).state = .running ∧ (s.ch c).pc ≤ 1023 ∧
        s.firstFault (s.rv64 (.dmaChProgLo c) (.dmaChProgHi c) + 32 * (s.ch c).pc) 32 true = none ∧ s.dmaInstr c = b ∧ s.dmaBadProg c b
        = false ∧ (s.ch c).pc = pc ∧ diOp b = 4 ∧ diMode b = 0 ∧ diEnd b = true ∧ s.trigger c = none) ((witDma (witEnd (witInstr 4 0 0
        0 0)) id)) 3 0 (witEnd (witInstr 4 0 0 0 0))) ∧
    ((fun (s : State) (c pc a : Nat) (b : List Byte) => Ready (.flagWrite c) s ∧ c < 32 ∧ (s.ch c).state = .running ∧ (s.ch c).pc ≤
        1023 ∧ s.firstFault (s.rv64 (.dmaChProgLo c) (.dmaChProgHi c) + 32 * (s.ch c).pc) 32 true = none ∧ s.dmaInstr c = b ∧
        s.dmaBadProg c b = false ∧ (s.ch c).pc = pc ∧ diOp b = 4 ∧ diMode b = 1 ∧ leAt b 8 8 % 2 ^ 48 = a ∧ s.addrFault a = none ∧ a +
        4 ≤ 2 ^ 48 ∧ s.cch.side = [] ∧ diEnd b = false) ((witDma (witInstr 4 1 0 0 0x600800 7) id)) 3 0 0x600800 (witInstr 4 1 0 0
        0x600800 7)) ∧
    ((fun (s : State) (c pc a k : Nat) (b : List Byte) => Ready (.flagWrite c) s ∧ c < 32 ∧ (s.ch c).state = .running ∧ (s.ch c).pc ≤
        1023 ∧ s.firstFault (s.rv64 (.dmaChProgLo c) (.dmaChProgHi c) + 32 * (s.ch c).pc) 32 true = none ∧ s.dmaInstr c = b ∧
        s.dmaBadProg c b = false ∧ (s.ch c).pc = pc ∧ diOp b = 4 ∧ diMode b = 1 ∧ leAt b 8 8 % 2 ^ 48 = a ∧ s.addrFault a = some k ∧
        diEnd b = false) ((witDma (witInstr 4 1 0 0 0x2000000800 7) id)) 3 0 0x2000000800 1 (witInstr 4 1 0 0 0x2000000800 7)) ∧
    ((fun (s : State) => Ready .dmaEvent s ∧ s.dma.events = []) live) ∧
    ((fun (s : State) (e c : Nat) (rest : List Nat) => Ready .dmaEvent s ∧ s.dma.events = e :: rest ∧ c < 32 ∧ (∀ d, d < 32 → d ≠ c →
        dmaActive (s.ch d).state = false) ∧ (s.ch c).state = .waiting ∧ (s.ch c).waitOn = some e ∧ (s.ch c).waitEnd = false) ((witEvent
        fun x => { x with state := .waiting, waitOn := some 7 })) 7 3 []) ∧
    ((fun (s : State) (e c : Nat) (rest : List Nat) => Ready .dmaEvent s ∧ s.dma.events = e :: rest ∧ c < 32 ∧ (∀ d, d < 32 → d ≠ c →
        dmaActive (s.ch d).state = false) ∧ (s.ch c).state = .armed ∧ s.trigger c = some e ∧ (s.ch c).waitOn = none) ((State.setRv
        (witEvent fun x => { x with state := .armed }) (.dmaChCfg 3) 0x04070000)) 7 3 []) ∧
    ((fun (s : State) (e c : Nat) (rest : List Nat) => Ready .dmaEvent s ∧ s.dma.events = e :: rest ∧ c < 32 ∧ (∀ d, d < 32 → d ≠ c →
        dmaActive (s.ch d).state = false) ∧ (s.ch c).state = .running) ((witEvent fun x => { x with state := .running })) 7 3 []) ∧
    ((fun (s : State) (n d : Nat) => Ready (.timerEvent n) s ∧ aget s.dma.timers n = some d)
        { live with dma := { chans := [], timers := [(2, 50)], events := [], arb := arbReset } } 2 50) ∧
    ((fun (s : State) (n : Nat) => Ready (.timerEvent n) s ∧ aget s.dma.timers n = none) live 2) ∧
    ((fun (s : State) (ag : Agent) (c : Nat) (v : Word) => Ready (.clr ag c v) s ∧ Accepts s (.dmaChCtl c) v ∧ bit v 31 = false ∧ bit v
        30 = false) ((witDma [] id)) .mgmt 3 0x20000000) ∧
    ((fun (s : State) (ag : Agent) (c : Nat) (v : Word) => Ready (.start ag c v) s ∧ regAt (regAddr (.dmaChCtl c)) = some (.dmaChCtl c)
        ∧ s.blockOff (.dmaChCtl c) = false ∧ bit v 31 = true ∧ bit v 30 = false ∧ dmaActive (s.ch c).state = true) ((witDma [] id))
        .mgmt 3 0x80000000) ∧
    ((fun (s : State) (c w : Nat) => Ready (.dmaWatchdog c) s ∧ fld (s.rv (.dmaChCfg c)) 15 0 = w ∧ w ≠ 0 ∧ ((s.ch c).state = .running
        ∨ (s.ch c).state = .waiting)) ((State.setRv (witDma [] id) (.dmaChCfg 3) 9)) 3 9) ∧
    ((fun (s : State) (c : Nat) => Ready (.dmaWatchdog c) s ∧ (fld (s.rv (.dmaChCfg c)) 15 0 = 0 ∨ (s.ch c).state ≠ .running ∧ (s.ch
        c).state ≠ .waiting)) live 3) := by
  refine ⟨?_, ?_, ?_, ?_, ?_, ?_, ?_, ?_, ?_, ?_, ?_, ?_, ?_, ?_, ?_, ?_, ?_, ?_, ?_, ?_, ?_⟩
  · decide +kernel
  · decide +kernel
  · decide +kernel
  · decide +kernel
  · decide +kernel
  · decide +kernel
  · decide +kernel
  · decide +kernel
  · decide +kernel
  · decide +kernel
  · decide +kernel
  · decide
  · decide
  · decide
  · decide
  · decide
  · decide
  · decide
  · decide
  · decide
  · decide

/-- States and operands that meet the hypotheses of DmaStopAndStart, clause by clause. -/
theorem witness_DmaStopAndStart :
    ((fun (s : State) (ag : Agent) (c : Nat) (v : Word) => Ready (.start ag c v) s ∧ Accepts s (.dmaChCtl c) v ∧ bit v 31 = true) live
        .mgmt 3 0x80000000) ∧
    ((fun (s : State) (ag : Agent) (c : Nat) (v : Word) => Ready (.stop ag c v) s ∧ Accepts s (.dmaChCtl c) v ∧ bit v 31 = false ∧ bit
        v 30 = true) ((witDma [] id)) .mgmt 3 0x40000000) := by
  refine ⟨?_, ?_⟩
  · decide
  · decide

/-- States and operands that meet the hypotheses of PowerPoints, clause by clause. -/
theorem witness_PowerPoints :
    ((fun (s : State) (q : Nat) => Ready .powerEntryBegin s ∧ s.pwr.quietSince = some q ∧ s.pwr.target ≠ 0xFF ∧ s.pwr.point = 0 ∧
        s.pwr.change = none ∧ s.quiet = true) { live with pwr := { live.pwr with target := 0x10 } } 0) ∧
    ((fun (s : State) (rep : Bool) (target begun x : Nat) (p : Pair) => Ready (.participantReady rep) s ∧ s.pwr.change = some
        (.entering target p begun 6 x) ∧ ((List.range 32).any fun k => (s.ch k).state == .running || (s.ch k).state == .waiting) =
        false ∧ s.pwr.wake = 0 ∧ target < 0x35) { live with pwr := { live.pwr with change := some (.entering 0x21 zeroPair 5 6 7) } }
        false 0x21 5 7 zeroPair) ∧
    ((fun (s : State) (rep : Bool) (target begun x : Nat) (p : Pair) => Ready (.participantReady rep) s ∧ s.pwr.change = some
        (.entering target p begun 6 x) ∧ ((List.range 32).any fun k => (s.ch k).state == .running || (s.ch k).state == .waiting) =
        true) ((State.modCh { live with pwr := { live.pwr with change := some (.entering 0x21 zeroPair 5 6 7) } } 3 fun x =>
        { x with state := .running })) false 0x21 5 7 zeroPair) ∧
    ((fun (s : State) (rep : Bool) (target begun x : Nat) (p : Pair) => Ready (.participantReady rep) s ∧ s.pwr.change = some
        (.entering target p begun 8 x) ∧ s.pwr.wake = 0 ∧ target ≠ 0x45)
        { live with pwr := { live.pwr with change := some (.entering 0x21 zeroPair 5 8 7) } } false 0x21 5 7 zeroPair) ∧
    ((fun (s : State) (rep : Bool) (target begun x : Nat) (p : Pair) => Ready (.participantReady rep) s ∧ s.pwr.change = some
        (.entering target p begun 8 x) ∧ s.pwr.wake ≠ 0)
        { live with pwr := { live.pwr with wake := 3, change := some (.entering 0x21 zeroPair 5 8 7) } } false 0x21 5 7 zeroPair) ∧
    ((fun (s : State) => Ready .wakeAssert s ∧ s.pwr.point = 0x45)
        { live with pwr := { live.pwr with point := 0x45, railEn := false } }) ∧
    ((fun (s : State) => Ready .wakeAssert s ∧ s.pwr.point ≠ 0x45 ∧ s.pwr.point ≠ 0 ∧ s.pwr.change = none)
        { live with pwr := { live.pwr with point := 0x21 } }) ∧
    ((fun (s : State) => Ready .wakeExit s ∧ s.pwr.change = some (.exiting 2 false) ∧ s.pwr.point ≠ 0)
        { live with pwr := { live.pwr with point := 0x21, change := some (.exiting 2 false) } }) := by
  refine ⟨?_, ?_, ?_, ?_, ?_, ?_, ?_, ?_⟩
  · decide
  · decide
  · decide
  · decide
  · decide
  · decide
  · decide
  · decide

/-- States and operands that meet the hypotheses of SupplyLoss, clause by clause. -/
theorem witness_SupplyLoss :
    ((fun (s : State) => Ready .pwrgoodFall s ∧ s.running = true ∧ s.pwr.point = 0 ∧ s.pwr.umbra = false ∧ s.pwr.stage = 3 ∧
        s.eqt.activation = none) { live with pwr := { live.pwr with stage := 3 } }) ∧
    ((fun (s : State) => Ready .pwrgoodFall s ∧ s.running = false) State.reset) ∧
    ((fun (s : State) (v : Save) => Ready .eclipseSaveEnd s ∧ s.pwr.save = some v ∧ v.ended = false ∧ s.saveWhole v = true ∧ v.blocks ≠
        [] ∧ s.pwr.umbra = true ∧ s.pwr.resetPending = true)
        { live with pwr := { live.pwr with umbra := true, resetPending := true, save := some witSave } } witSave) ∧
    ((fun (s : State) (v : Save) => Ready .eclipseSaveEnd s ∧ s.pwr.save = some v ∧ v.ended = false ∧ s.saveWhole v = false ∧
        (s.spn.speed : Rat) / 16 ≤ sMin s.sec.pers ∧ v.blocks ≠ [] ∧ s.pwr.umbra = true ∧ s.pwr.resetPending = true)
        { live with pwr := { live.pwr with umbra := true, resetPending := true, save := some { witSave with posted := [(0, [])] } } }
        { witSave with posted := [(0, [])] }) ∧
    ((fun (s : State) (v : Save) => Ready .eclipseSaveEnd s ∧ s.pwr.save = some v ∧ v.ended = false ∧ s.saveWhole v = false ∧ sMin
        s.sec.pers < (s.spn.speed : Rat) / 16)
        { live with spn := { live.spn with speed := 160000 }, pwr := { live.pwr with umbra := true, resetPending := true, save := some { witSave with posted := [(0, [])] } } }
        { witSave with posted := [(0, [])] }) ∧
    ((fun (s : State) => Ready .eclipseSaveEnd s ∧ s.pwr.save = none) live) ∧
    ((fun (s : State) => Ready .warmReset s ∧ s.pwr.umbra = true) { live with pwr := { live.pwr with umbra := true } }) ∧
    ((fun (s : State) => Ready .resetNFall s ∧ s.running = false) State.reset) ∧
    ((fun (s : State) => Ready .resetNFall s ∧ s.running = true ∧ s.pwr.point ≠ 0x45 ∧ s.pwr.pwrgood = true ∧ s.pwr.umbra = true)
        { live with pwr := { live.pwr with umbra := true } }) ∧
    ((fun (s : State) (mv : Nat) => Ready (.supplySample mv) s)
        { live with now := 7, pwr := { live.pwr with samples := [12000, 12000, 12000, 12000] } } 8000) ∧
    ((fun (s : State) (m : Nat) => Ready .stageEnter s ∧ s.stageCode = 0 ∧ aget s.pwr.belowAt 1 = some m ∧ s.wrp.sweep.busy = false)
        { live with pwr := { live.pwr with belowAt := [(1, 5)] } } 5) ∧
    ((fun (s : State) (m : Nat) => Ready .stageLeave s ∧ s.pwr.umbra = false ∧ s.pwr.stage = 1 ∧ aget s.pwr.aboveAt 1 = some m ∧
        s.targetRpm = s.spn.target) { live with pwr := { live.pwr with stage := 1, aboveAt := [(1, 5)] } } 5) := by
  refine ⟨?_, ?_, ?_, ?_, ?_, ?_, ?_, ?_, ?_, ?_, ?_, ?_⟩
  · decide
  · decide
  · repeat' apply And.intro
    all_goals first | decide +kernel | rfl
  · repeat' apply And.intro
    all_goals first | decide +kernel | rfl
  · repeat' apply And.intro
    all_goals first | decide +kernel | rfl
  · decide
  · decide
  · decide
  · decide
  · decide
  · decide
  · decide

/-- States and operands that meet the hypotheses of BootAndWarmReset, clause by clause. -/
theorem witness_BootAndWarmReset :
    ((fun (s : State) => Ready (.coldBoot 15 0 0) s ∧ s.pwr.pwrgood = true ∧ s.pwr.railEn = true ∧ s.running = false)
        { State.reset with pwr := { pwrReset with pwrgood := true, railEn := true } }) ∧
    ((fun (s : State) => Ready (.coldBoot 3 0 0) s ∧ s.pwr.pwrgood = true ∧ s.pwr.railEn = true ∧ s.running = false)
        { State.reset with pwr := { pwrReset with pwrgood := true, railEn := true } }) ∧
    ((fun (s : State) => Ready .warmReset s ∧ s.pwr.umbra = false ∧ s.eqt.activation = none ∧ s.pwr.change = none ∧ s.pwr.point = 0)
        live) := by
  refine ⟨?_, ?_, ?_⟩
  · decide
  · decide
  · decide

end Sys2Proof.Machine
end

section
/-! SUPPORT. What an accepted set-up write is, and what a write of DMA_CH_CTL_c does to its channel (Table 14.11). -/

namespace Sys2Proof.Machine

/-- A write that nothing refuses has the effect of its register, and what every accepted write adds (R565, R649). -/
theorem regRow_of_accepts {s : State} {ag : Agent} {r : Reg} {v : Word} (h : Accepts s r v) :
    s.regRow ag r v = s.wrote (s.regAct ag r v) ag r := by
  obtain ⟨hmap, hon, hpair, hword, hstate, hsync⟩ := h
  simp [State.regRow, State.setupWrite, State.regWrite, State.regWriteIn, State.wrote, hmap, hon, hpair, hword, hstate, hsync]

@[simp] theorem wrote_pending (s u : State) (ag : Agent) (r : Reg) : (s.wrote u ag r).pending = u.pending := by
  simp only [State.wrote, State.conjStart, apply_ite State.pending, ite_self]

@[simp] theorem wrote_dma (s u : State) (ag : Agent) (r : Reg) : (s.wrote u ag r).dma = u.dma := by
  simp only [State.wrote, State.conjStart, apply_ite State.dma, ite_self]

/-- A row that writes a register completes with the effect of the write where nothing refuses it. -/
theorem gives_of_accepts {i : Instr} {need : Need} {s : State} {ag : Agent} {r : Reg} {v : Word}
    (hexec : exec i s = row i need s fun s => s.regRow ag r v) (hwf : i.wf = true) (hneed : s.has need = true)
    (hacc : Accepts s r v) (hqueue : (s.regAct ag r v).pending = s.pending) :
    Gives i s (Still (s.wrote (s.regAct ag r v) ag r)) := by
  refine gives_of hexec hwf hneed fun t ht => ?_
  have hkept : (s.wrote (s.regAct ag r v) ag r).pending = s.pending := by rw [wrote_pending, hqueue]
  rwa [regRow_of_accepts hacc, ← hkept] at ht

/-! ## DMA_CH_CTL_c -/

@[simp] theorem ch_modCh_same (s : State) (c : Nat) (f : DmaCh → DmaCh) : (s.modCh c f).ch c = f (s.ch c) :=
  agetD_acanon_same ..

/-- Two changes of one channel are one change. -/
@[simp] theorem modCh_modCh (s : State) (c : Nat) (f g : DmaCh → DmaCh) :
    (s.modCh c f).modCh c g = s.modCh c fun x => g (f x) := by
  rw [State.modCh, ch_modCh_same]
  simp [State.modCh]

@[simp] theorem trigger_modCh (s : State) (c k : Nat) (f : DmaCh → DmaCh) : (s.modCh c f).trigger k = s.trigger k := rfl

/-- START begins anew (R489, R494); CLR written with it clears the count of bad descriptors. -/
theorem dmaCtl_start {s : State} {c : Nat} {v : Word} (hstart : bit v 31 = true) :
    s.dmaCtl c v = s.modCh c fun x => { x with
      state := if (s.trigger c).isSome then .armed else .running, pc := 0, cursors := [], loops := [], counts := [], watch := [],
      waitOn := none, progress := s.now, badCnt := if bit v 29 then 0 else x.badCnt } := by
  cases hclr : bit v 29 <;> simp [State.dmaCtl, State.dmaStart, hstart, hclr]

/-- STOP of an active channel keeps its counter, its cursors and its counts (R505). -/
theorem dmaCtl_stop_active {s : State} {c : Nat} {v : Word} (hstart : bit v 31 = false) (hstop : bit v 30 = true)
    (hactive : dmaActive (s.ch c).state = true) :
    s.dmaCtl c v = s.modCh c fun x => { x with
      state := .stopped, waitOn := none, badCnt := if bit v 29 then 0 else x.badCnt } := by
  cases hclr : bit v 29 <;> simp [State.dmaCtl, State.dmaStop, hstart, hstop, hclr, hactive]

/-- STOP of a channel that is not active leaves the state as it is, down to the form of its map of channels. -/
theorem dmaCtl_stop_inactive {s : State} {c : Nat} {v : Word} (hstart : bit v 31 = false) (hstop : bit v 30 = true)
    (hclr : bit v 29 = false) (hactive : dmaActive (s.ch c).state = false) : s.dmaCtl c v = s := by
  simp [State.dmaCtl, State.dmaStop, hstart, hstop, hclr, hactive]

@[simp] theorem dmaStart_pending (s : State) (c : Nat) : (s.dmaStart c).pending = s.pending := rfl

@[simp] theorem dmaStop_pending (s : State) (c : Nat) : (s.dmaStop c).pending = s.pending := by
  simp only [State.dmaStop, apply_ite State.pending, State.modCh_pending, ite_self]

@[simp] theorem dmaCtl_pending (s : State) (c : Nat) (v : Word) : (s.dmaCtl c v).pending = s.pending := by
  simp only [State.dmaCtl, apply_ite State.pending, dmaStart_pending, dmaStop_pending, State.modCh_pending, ite_self]

/-! ## START and STOP -/

/-- An accepted START begins anew, in every state: the first clause of DmaStopAndStart. -/
theorem start_gives {s : State} {ag : Agent} {c : Nat} {v : Word} (hready : Ready (.start ag c v) s)
    (hacc : Accepts s (.dmaChCtl c) v) (hstart : bit v 31 = true) :
    Gives (.start ag c v) s (Still
      (s.wrote (s.modCh c fun x => { x with
        state := if (s.trigger c).isSome then .armed else .running, pc := 0, cursors := [], loops := [], counts := [], watch := [],
        waitOn := none, progress := s.now, badCnt := if bit v 29 then 0 else x.badCnt }) ag (.dmaChCtl c))) := by
  rw [← dmaCtl_start hstart]
  exact gives_of_accepts (exec_start ag c v s) hready.1 hready.2 hacc (dmaCtl_pending s c v)

/-- An accepted STOP has the effect of its register. -/
theorem stop_gives {s : State} {ag : Agent} {c : Nat} {v : Word} (hready : Ready (.stop ag c v) s)
    (hacc : Accepts s (.dmaChCtl c) v) : Gives (.stop ag c v) s (Still (s.wrote (s.dmaCtl c v) ag (.dmaChCtl c))) :=
  gives_of_accepts (exec_stop ag c v s) hready.1 hready.2 hacc (dmaCtl_pending s c v)

/-- An accepted STOP of an armed, running or waiting channel leaves it stopped, with all else of it kept, in every state: what the
second clause of DmaStopAndStart says of an active channel. -/
theorem stop_gives_of_active {s : State} {ag : Agent} {c : Nat} {v : Word} (hready : Ready (.stop ag c v) s)
    (hacc : Accepts s (.dmaChCtl c) v) (hstart : bit v 31 = false) (hstop : bit v 30 = true)
    (hactive : dmaActive (s.ch c).state = true) :
    Gives (.stop ag c v) s (Still
      (s.wrote (s.modCh c fun x => { x with
        state := .stopped, waitOn := none, badCnt := if bit v 29 then 0 else x.badCnt }) ag (.dmaChCtl c))) := by
  rw [← dmaCtl_stop_active hstart hstop hactive]
  exact stop_gives hready hacc

/-- A powered device with its idle channel 3 listed in the map of channels, from which a canonical write would take it. -/
def idleListed : State :=
  { State.reset with
    pwr := { pwrReset with pwrgood := true, railEn := true }, dma := { State.reset.dma with chans := [(3, idleCh)] } }

/-- Refutes O57: its STOP clause also covers a channel that is not active, and there says that the map of channels is put into
canonical form. The model leaves the map as it is, which differs where an idle channel is listed, as in `idleListed`. This is a
matter of the map's form and not of R505: what the channel holds is the same, and START and STOP of an active channel are as the
obligation says in every state (`start_gives`, `stop_gives_of_active`). -/
theorem not_dmaStopAndStart : ¬ Obligations.DmaStopAndStart := by
  rintro ⟨-, hclause⟩
  have hready : Ready (.stop .mgmt 3 0x40000000) idleListed := by decide
  have hacc : Accepts idleListed (.dmaChCtl 3) 0x40000000 := by decide
  obtain ⟨t, hexec, -, hclaimed⟩ := hclause idleListed .mgmt 3 0x40000000 hready hacc (by decide) (by decide)
  obtain ⟨u, hexec', -, hmodel⟩ := stop_gives hready hacc
  obtain rfl : t = u := Host.Outcome.next.inj (hexec.symm.trans hexec')
  rw [dmaCtl_stop_inactive (by decide) (by decide) (by decide) (by decide)] at hmodel
  have hlisted : t.dma.chans = [(3, idleCh)] := by rw [still_dma hmodel, wrote_dma, idleListed]
  have hunlisted : t.dma.chans = [] := by
    rw [still_dma hclaimed, wrote_dma]
    decide
  simp [hlisted] at hunlisted

end Sys2Proof.Machine
end

section
/-! SUPPORT. What a write of FLT_SRC_n with FORCE does to a source, and what taking a report that a block has made answers (R573). -/

namespace Sys2Proof.Machine

/-- The row of FAULT_FORCE is a write by an agent, to the register of one of the 1,024 sources, with FORCE set. -/
theorem faultForce_wf_iff {ag : Agent} {n : Nat} {v : Word} :
    (Instr.faultForce ag n v).wf = true ↔ agentOk ag = true ∧ n < 1024 ∧ bit v 31 = true := by
  simp [Instr.wf, and_assoc]

/-! ## FLT_SRC_n -/

/-- FORCE stores the register of a listed source and makes it report FORCED, in every state. -/
theorem fltSrcWrite_force {s : State} {n : Nat} {v : Word} (hlisted : faultListed n = true) (hforce : bit v 31 = true) :
    s.fltSrcWrite n v = (s.setRv (.fltSrc n) v).report n 63 0 (fld v 30 29) := by
  simp [State.fltSrcWrite, hlisted, hforce]

@[simp] theorem fltSrcWrite_pending (s : State) (n : Nat) (v : Word) : (s.fltSrcWrite n v).pending = s.pending := by
  simp only [State.fltSrcWrite, apply_ite State.pending, State.report_pending, State.setRv_pending, ite_self]

/-- An accepted write of FLT_SRC_n with FORCE completes, and the source has made its report: the first clause of ForcedReport. -/
theorem faultForce_gives {s : State} {ag : Agent} {n : Nat} {v : Word} (hready : Ready (.faultForce ag n v) s)
    (hacc : Accepts s (.fltSrc n) v) (hlisted : faultListed n = true) :
    Gives (.faultForce ag n v) s
      (Still (s.wrote ((s.setRv (.fltSrc n) v).report n 63 0 (fld v 30 29)) ag (.fltSrc n))) := by
  obtain ⟨hwf, hneed⟩ := hready
  obtain ⟨-, -, hforce⟩ := faultForce_wf_iff.mp hwf
  rw [← fltSrcWrite_force hlisted hforce]
  exact gives_of_accepts (exec_faultForce ag n v s) hwf hneed hacc (fltSrcWrite_pending s n v)

/-! ## FAULT_REPORT -/

/-- The first report that a block has made is taken as the same report on arrival, once it has left those on their way. -/
theorem faultReport_none {s : State} {x : Nat} {r : Report} {rest : List (Nat × Report)} (hfirst : s.flt.inbox = (x, r) :: rest)
    (hok : reportOk r = true) :
    s.faultReport none = ({ s with flt := { s.flt with inbox := rest } } : State).faultReport (some r) := by
  simp only [State.faultReport, hfirst, hok, if_true]

/-- FAULT_REPORT can always arrive and needs no block: its row is its effect. -/
theorem exec_faultReport_taken (rep : Option Report) (s : State) :
    exec (.faultReport rep) s = .next { ((s.faultReport rep).noteLevels).noteQuiet with pending := s.pending } :=
  (exec_faultReport rep s).trans (row_taken _ _ _ _ rfl rfl)

/-- Taking the first report that a block has made answers what its arrival answers: the second clause of ForcedReport. -/
theorem exec_faultReport_none {s : State} {x : Nat} {r : Report} {rest : List (Nat × Report)} (hfirst : s.flt.inbox = (x, r) :: rest)
    (hok : reportOk r = true) :
    exec (.faultReport none) s = exec (.faultReport (some r)) { s with flt := { s.flt with inbox := rest } } := by
  rw [exec_faultReport_taken, exec_faultReport_taken, faultReport_none hfirst hok]

/-- Settles O13: FORCE is the effect of FLT_SRC_n followed by the report of the source, and a report on its way is taken by the same
function of the state as one that arrives. -/
theorem forcedReport : Obligations.ForcedReport := by
  unfold Obligations.ForcedReport
  refine ⟨?force, ?taken⟩
  case force =>
    intro s ag n v hready hacc hlisted
    exact faultForce_gives hready hacc hlisted
  case taken =>
    intro s x r rest hfirst _ hok
    exact exec_faultReport_none hfirst hok

end Sys2Proof.Machine
end

section
/-! SUPPORT. What a set-up write turned away for the state of the device leaves (R652, R665), and the GO of SEC_FLASH_CTL (R623). -/

namespace Sys2Proof.Machine

/-- A write of a register that can be reached, with a word that is not reserved, is turned away where the state refuses it. -/
theorem regRow_of_stateRefused {s : State} {ag : Agent} {r : Reg} {v : Word} (hmap : regAt (regAddr r) = some r)
    (hon : s.blockOff r = false) (hpair : regUpper r = none) (hword : s.wordRefused r v = false) (hstate : s.stateRefused r v = true) :
    s.regRow ag r v = s.turnedAway ag 2 (regAddr r) 1 := by
  simp [State.regRow, State.setupWrite, State.regWrite, State.regWriteIn, State.turnedAway, hmap, hon, hpair, hword, hstate]

@[simp] theorem turnedAway_pending (s : State) (ag : Agent) (cause addr status : Nat) :
    (s.turnedAway ag cause addr status).pending = s.pending := by
  simp only [State.turnedAway, State.setupError, apply_ite State.pending, ite_self]

/-- A row that writes a register completes with the record of the refusal where the state refuses the write. -/
theorem gives_of_stateRefused {i : Instr} {need : Need} {s : State} {ag : Agent} {r : Reg} {v : Word}
    (hexec : exec i s = row i need s fun s => s.regRow ag r v) (hready : i.wf = true ∧ s.has need = true)
    (hmap : regAt (regAddr r) = some r) (hon : s.blockOff r = false) (hpair : regUpper r = none)
    (hword : s.wordRefused r v = false) (hstate : s.stateRefused r v = true) :
    Gives i s (Still (s.turnedAway ag 2 (regAddr r) 1)) := by
  refine gives_of hexec hready.1 hready.2 fun t ht => ?_
  rwa [regRow_of_stateRefused hmap hon hpair hword hstate, ← turnedAway_pending s ag 2 (regAddr r) 1] at ht

/-! ## SEC_FLASH_CTL -/

/-- The row of each flash operation is a write of SEC_FLASH_CTL with GO set and the operation in OP. -/
theorem flashRead_wf_iff {ag : Agent} {v : Word} :
    (Instr.flashRead ag v).wf = true ↔ agentOk ag = true ∧ bit v 31 = true ∧ fld v 25 24 = 0 := by
  simp [Instr.wf, and_assoc]

theorem flashProgram_wf_iff {ag : Agent} {v : Word} :
    (Instr.flashProgram ag v).wf = true ↔ agentOk ag = true ∧ bit v 31 = true ∧ fld v 25 24 = 1 := by
  simp [Instr.wf, and_assoc]

theorem flashErase_wf_iff {ag : Agent} {v : Word} :
    (Instr.flashErase ag v).wf = true ↔ agentOk ag = true ∧ bit v 31 = true ∧ fld v 25 24 = 2 := by
  simp [Instr.wf, and_assoc]

theorem keyArea_iff {a : Nat} : keyArea a = true ↔ 0x20000 ≤ a ∧ a < 0x100000 := by
  simp [keyArea]

/-- Of a word written to SEC_FLASH_CTL only the operation 3 is reserved. -/
theorem wordRefused_secFlashCtl_iff {s : State} {v : Word} : s.wordRefused .secFlashCtl v = true ↔ fld v 25 24 = 3 := by
  simp [State.wordRefused, regReserved]

/-- A GO outside RECOVERY, while BUSY, or in the key area is refused, whatever its operation (R623). -/
theorem flashRefused_of_go {s : State} {v : Word} (hgo : bit v 31 = true)
    (hwhy : s.sec.recovery = false ∨ s.sec.flashBusy.isSome = true ∨
      0x20000 ≤ fld (s.rv .secFlashAddr) 28 0 ∧ fld (s.rv .secFlashAddr) 28 0 < 0x100000) :
    s.flashRefused v = true := by
  rw [← keyArea_iff] at hwhy
  rcases hwhy with hrecovery | hbusy | hkeys
  · simp [State.flashRefused, hgo, hrecovery]
  · simp [State.flashRefused, hgo, hbusy]
  · simp [State.flashRefused, hgo, hkeys]

/-- A row that writes SEC_FLASH_CTL with a defined operation is turned away where the GO is refused. -/
theorem flashGo_turnedAway {i : Instr} {s : State} {ag : Agent} {v : Word}
    (hexec : exec i s = row i (.agent ag) s fun s => s.regRow ag .secFlashCtl v) (hready : i.wf = true ∧ s.has (.agent ag) = true)
    (hop : fld v 25 24 ≠ 3) (hon : s.blockOff .secFlashCtl = false) (hrefused : s.flashRefused v = true) :
    Gives i s (Still (s.turnedAway ag 2 (regAddr .secFlashCtl) 1)) := by
  have hword : s.wordRefused .secFlashCtl v = false := Bool.eq_false_iff.mpr (mt wordRefused_secFlashCtl_iff.mp hop)
  exact gives_of_stateRefused hexec hready (by decide) hon rfl hword hrefused

/-- Settles O20: the rows of the three operations are one write of SEC_FLASH_CTL with GO and a defined operation, which the state
refuses for each reason of R623. -/
theorem flashGoRefused : Obligations.FlashGoRefused := by
  unfold Obligations.FlashGoRefused
  intro s i ag v hready hmem hon hwhy
  simp only [List.mem_cons, List.not_mem_nil, or_false] at hmem
  rcases hmem with rfl | rfl | rfl
  case inl =>
    obtain ⟨-, hgo, hop⟩ := flashRead_wf_iff.mp hready.1
    exact flashGo_turnedAway (exec_flashRead ag v s) hready (by omega) hon (flashRefused_of_go hgo hwhy)
  case inr.inl =>
    obtain ⟨-, hgo, hop⟩ := flashProgram_wf_iff.mp hready.1
    exact flashGo_turnedAway (exec_flashProgram ag v s) hready (by omega) hon (flashRefused_of_go hgo hwhy)
  case inr.inr =>
    obtain ⟨-, hgo, hop⟩ := flashErase_wf_iff.mp hready.1
    exact flashGo_turnedAway (exec_flashErase ag v s) hready (by omega) hon (flashRefused_of_go hgo hwhy)

end Sys2Proof.Machine
end

section
/-! SUPPORT. What the parts of the state hold after reset, and what each register reads there (R653). -/

namespace Sys2Proof.Machine

/-! ## Words of fields -/

@[simp] theorem b2n_false : b2n false = 0 := rfl

@[simp] theorem b2n_true : b2n true = 1 := rfl

/-- The sum that `word` builds begins anywhere. -/
theorem foldl_fields_add (fs : List (Nat × Nat)) (a : Nat) :
    fs.foldl (fun a f => a + f.1 * 2 ^ f.2) a = a + fs.foldl (fun a f => a + f.1 * 2 ^ f.2) 0 := by
  induction fs generalizing a with
  | nil => rfl
  | cons f fs ih => rw [List.foldl_cons, List.foldl_cons, ih, ih (0 + _), Nat.zero_add, Nat.add_assoc]

@[simp] theorem word_nil : word [] = 0#32 := rfl

/-- A word is its first field in its place added to the word of the others: a field of 0 then drops out. -/
@[simp] theorem word_cons (v k : Nat) (fs : List (Nat × Nat)) : word ((v, k) :: fs) = BitVec.ofNat 32 (2 ^ k * v) + word fs := by
  rw [word, List.foldl_cons, foldl_fields_add, BitVec.ofNat_add, Nat.zero_add, Nat.mul_comm, word]

/-! ## The parts after reset -/

@[simp] theorem agetD_nil {α : Type} (k : Nat) (d : α) : agetD [] k d = d := rfl

@[simp] theorem rv_reset (r : Reg) : State.reset.rv r = regReset r := rfl
@[simp] theorem port_reset (p : Nat) : State.reset.port p = downPort := rfl
@[simp] theorem sessIds_reset : State.reset.sessIds = [] := rfl
@[simp] theorem src_reset (n : Nat) : State.reset.src n = idleSource := rfl
@[simp] theorem chn_reset : State.reset.chn = chnReset := rfl
@[simp] theorem stream_reset (i : Nat) : State.reset.stream i = idleStream := rfl
@[simp] theorem link_reset (a : Nat) : State.reset.link a = restingLink := rfl
@[simp] theorem seq_reset : State.reset.seq = seqReset := rfl
@[simp] theorem seqr_reset (q : Nat) : State.reset.seqr q = idleSeq q := rfl
@[simp] theorem vector_reset (i : Nat) : State.reset.vector i = 0 := rfl
@[simp] theorem slot_reset (n : Nat) : State.reset.slot n = restingSlot n := rfl
@[simp] theorem act_reset (a : Nat) : State.reset.act a = restingAct := rfl
@[simp] theorem orbPieces_reset : State.reset.orb.pieces = [] := rfl
@[simp] theorem turn_reset (a : Nat) : State.reset.turn a = idleTurn := rfl
@[simp] theorem hbm_reset : State.reset.hbm = hbmReset := rfl
@[simp] theorem ch_reset (c : Nat) : State.reset.ch c = idleCh := rfl
@[simp] theorem fsrc_reset (n : Nat) : State.reset.fsrc n = quietSource := rfl
@[simp] theorem conjTag_reset : State.reset.conjTag = 0 := BitVec.extractLsb'_zero

theorem evcIsLevel_iff {n : Nat} : evcIsLevel n = true ↔ n ∈ levelSources := by
  simp only [evcIsLevel, levelSources, List.mem_cons, List.not_mem_nil, or_false, Bool.or_eq_true, Bool.and_eq_true,
    decide_eq_true_eq, beq_iff_eq]
  omega

/-- Table 11.10 gives LEVEL as the one bit of EVC_STAT_n that is not 0 after reset. -/
theorem tableReset_evcStat (n : Nat) : tableReset (.evcStat n) = if evcIsLevel n = true then 0x20000000#32 else 0#32 :=
  ite_congr (propext evcIsLevel_iff.symm) (fun _ => rfl) fun _ => rfl

/-! ## The flash window -/

theorem leNat_replicate_zero (n : Nat) : leNat (List.replicate n 0#8) = 0 := by
  induction n with
  | zero => rfl
  | succ n ih => simp [List.replicate_succ, leNat, ih]

/-- A slice of bytes 0 is bytes 0, inside the list and beyond its end. -/
theorem sliceBytes_replicate_zero (n ofs len : Nat) : sliceBytes (List.replicate n 0#8) ofs len = List.replicate len 0#8 := by
  have hlength : min len (n - ofs) + (len - min len (n - ofs)) = len := by omega
  simp only [sliceBytes, List.drop_replicate, List.take_replicate, List.length_replicate]
  exact List.replicate_append_replicate.trans (congrArg (List.replicate · 0#8) hlength)

@[simp] theorem windowWord_reset (k : Nat) : State.reset.windowWord k = 0 := by
  have hwindow : State.reset.sec.window = List.replicate 256 0#8 := rfl
  simp only [State.windowWord, leAt, hwindow, sliceBytes_replicate_zero, leNat_replicate_zero]
  rfl

/-! ## The registers after reset -/

/-- Inside a list of words 0 and beyond its end a word reads 0. -/
theorem getD_replicate_zero (n k : Nat) : (List.replicate n 0#32).getD k 0#32 = 0#32 := by
  by_cases hin : k < n
  · simp only [List.getD_eq_getElem?_getD, List.getElem?_replicate, if_pos hin, Option.getD_some]
  · simp only [List.getD_eq_getElem?_getD, List.getElem?_replicate, if_neg hin, Option.getD_none]

/-- Every register outside the fuses and straps reads its Reset column after a cold power-on. The named cases read a part of the state
at an index, and so its idle value, or a value that depends on the index; both sides of every other case are one literal. -/
theorem regPeek_reset {r : Reg} (hfuse0 : r ≠ .secFuse0) (hfuse1 : r ≠ .secFuse1) (hstraps : r ≠ .pinStat) :
    State.reset.regPeek r = tableReset r := by
  cases r
  case secFuse0 => exact absurd rfl hfuse0
  case secFuse1 => exact absurd rfl hfuse1
  case pinStat => exact absurd rfl hstraps
  case ethStat p | ethDrop p => simp [State.regPeek, tableReset, downPort]
  case evcStat n =>
    cases hlevel : evcIsLevel n with
    | false => simp [State.regPeek, tableReset_evcStat, idleSource, evCode, hlevel]
    | true => simp [State.regPeek, tableReset_evcStat, idleSource, evCode, hlevel]
  case chnStatData k | seqCsData k => exact getD_replicate_zero _ k
  case chnAfSel n => simp [State.regPeek, tableReset, regReset, chnReset]
  case chnStHead st => simp [State.regPeek, tableReset, idleStream]
  case plkCtl n => simp [State.regPeek, tableReset, regReset, restingLink]
  case seqVec n => simp [State.regPeek, tableReset, State.seqVec]
  case seqStat q =>
    by_cases hplain : q < 16
    · simp [State.regPeek, tableReset, seqCode, idleSeq, hplain]
    · simp [State.regPeek, tableReset, seqCode, idleSeq, hplain]
  case sceSlot n => simp [State.regPeek, tableReset, regReset, restingSlot]
  case sceActStat a | sceActPlan a => simp [State.regPeek, tableReset, restingAct, actCode, wrapBits]
  case orbQos q =>
    match q with
    | 0 | 1 | 2 => rfl
    | q + 3 => simp [State.regPeek, tableReset, regReset]
  case orbStat a => simp [State.regPeek, tableReset, idleTurn]
  case hbmErr k => simp [State.regPeek, tableReset, hbmReset]
  case dmaChStat c | dmaChErr c | dmaChEaddrHi c => simp [State.regPeek, tableReset, idleCh, dmaCode, half64]
  case fltSrc n | fltCnt n => simp [State.regPeek, tableReset, regReset, quietSource]
  case secFlashWindow k => exact windowWord_reset k
  case timConjTagLo | timConjTagHi => simp [State.regPeek, tableReset, half64]
  all_goals rfl

/-- PIN_STAT reads the management address that the straps select, whatever SYNC does. -/
theorem fld_pinStat_straps {s : State} (hstraps : s.pin.straps < 4) : fld (s.regPeek .pinStat) 6 0 = 0x58 + s.pin.straps := by
  change fld (word [(s.syncFn, 29), (b2n s.syncLevel, 28), (0x58 + s.pin.straps, 0)]) 6 0 = _
  simp only [fld, word, List.foldl_cons, List.foldl_nil, BitVec.toNat_ofNat]
  omega

/-- Settles O5: of the registers outside the fuses and straps each is read at the idle values of the parts it shows (`regPeek_reset`); the
fuse registers and PIN_STAT show theirs in every state. Table 20.5 gives no number for SEQ_VEC_n, the SCE windows, TIM_NOW
and TIM_CONJ_TAG: their 0, with no personality installed, is the model's choice (log entries 11 and 14). -/
theorem resetRegisters : Obligations.ResetRegisters := by
  unfold Obligations.ResetRegisters
  refine ⟨?table, ?fuses, ?straps⟩
  case table =>
    intro r _ hfuse0 hfuse1 hstraps
    exact regPeek_reset hfuse0 hfuse1 hstraps
  case fuses =>
    rintro s f rfl
    exact ⟨rfl, rfl⟩
  case straps =>
    intro s hstraps
    exact fld_pinStat_straps hstraps

end Sys2Proof.Machine
end

section
/-! SUPPORT. What a write of a port's address registers does (R655). -/

namespace Sys2Proof.Machine

/-- Values put into force one after another leave the queue. -/
theorem foldl_setRv_pending {α : Type} (r : α → Reg) (v : α → Word) (l : List α) (s : State) :
    (l.foldl (fun u e => u.setRv (r e) (v e)) s).pending = s.pending := by
  induction l generalizing s with
  | nil => rfl
  | cons e l ih => simp [ih]

/-- ETH_IP_CTL_p puts its word and then each held write in force, and its port holds none any more (R655). -/
theorem withIp_eq (s : State) (p : Nat) (v : Word) :
    s.withIp p v = ((s.port p).heldV6.foldl (fun u e => u.setRv (.ethIpv6 p e.1) e.2)
      ((s.port p).heldGw.toList.foldl (fun u w => u.setRv (.ethIpv4Gw p) w)
        ((s.port p).heldV4.toList.foldl (fun u w => u.setRv (.ethIpv4 p) w) (s.setRv (.ethIpCtl p) v)))).modPort p
      fun y => { y with heldV4 := none, heldGw := none, heldV6 := [] } := by
  cases hv4 : (s.port p).heldV4 <;> cases hgw : (s.port p).heldGw <;> simp [State.withIp, hv4, hgw]

@[simp] theorem withIp_pending (s : State) (p : Nat) (v : Word) : (s.withIp p v).pending = s.pending := by
  simp only [withIp_eq, State.modPort_pending, State.setRv_pending, foldl_setRv_pending]

/-- A write of an address register changes only what its port holds, so it leaves the queue. -/
theorem regAct_ethAddressReg_pending (s : State) (ag : Agent) (p k : Nat) (v : Word) :
    (s.regAct ag (ethAddressReg p k) v).pending = s.pending := by
  match k with
  | 0 | 1 | k + 2 => exact State.modPort_pending ..

/-- An accepted write of an address register has the effect of its register, whichever of the six it is. -/
theorem ethAddressWrite_gives {s : State} {ag : Agent} {p k : Nat} {v : Word} (hready : Ready (.ethAddressWrite ag p k v) s)
    (hacc : Accepts s (ethAddressReg p k) v) :
    Gives (.ethAddressWrite ag p k v) s (Still (s.wrote (s.regAct ag (ethAddressReg p k) v) ag (ethAddressReg p k))) :=
  gives_of_accepts (exec_ethAddressWrite ag p k v s) hready.1 hready.2 hacc (regAct_ethAddressReg_pending s ag p k v)

/-- Settles O17: a write of an address register is held by its port; one of ETH_IP_CTL_p is its word and every held write in force
(`withIp_eq`), and is turned away for the state of the device where a GID in use would go. -/
theorem portAddressesHeld : Obligations.PortAddressesHeld := by
  unfold Obligations.PortAddressesHeld
  refine ⟨?v4, ?gateway, ?v6, ?inForce, ?refused⟩
  case v4 =>
    intro s ag p v hready hacc
    exact ethAddressWrite_gives hready hacc
  case gateway =>
    intro s ag p v hready hacc
    exact ethAddressWrite_gives hready hacc
  case v6 =>
    intro s ag p k v hready hacc
    exact ethAddressWrite_gives hready hacc
  case inForce =>
    rintro s ag p v x hready hacc rfl
    rw [← withIp_eq]
    exact gives_of_accepts (exec_ethIpCtlWrite ag p v s) hready.1 hready.2 hacc (withIp_pending s p v)
  case refused =>
    intro s ag p v hready hmap hon hword hlost
    exact gives_of_stateRefused (exec_ethIpCtlWrite ag p v s) hready hmap hon rfl hword hlost

end Sys2Proof.Machine
end

section
/-! SUPPORT. What judging the level event sources and the quiet conditions leaves true, and so the invariant that every step keeps. -/

namespace Sys2Proof.Machine

open Sys2Proof

/-! ## What the conditions of R513 and of Table 11.4 do not read -/

/-- The condition of a level source reads nothing of the event machinery. -/
theorem levelHolds_eventsOf (s t : State) (n : Nat) : (t.eventsOf s).levelHolds n = t.levelHolds n := rfl

theorem still_levelHolds {s t : State} (h : Still s t) (n : Nat) : t.levelHolds n = s.levelHolds n := by
  rw [← levelHolds_eventsOf s t, h.1]

theorem still_evcMask {s t : State} (h : Still s t) (n : Nat) : t.evcMask n = s.evcMask n := by
  simp only [State.evcMask, State.rv64, State.rv, still_regs h]

/-! ## The event sources -/

@[simp] theorem src_setSrc_same (s : State) (n : Nat) (e : EvSource) : (s.setSrc n e).src n = e := agetD_acanon_same ..

theorem src_setSrc_other (s : State) {n m : Nat} (e : EvSource) (h : m ≠ n) : (s.setSrc n e).src m = s.src m :=
  agetD_acanon_other _ _ _ _ h

@[simp] theorem notify_evc (s : State) (i r : Nat) : (s.notify i r).evc = s.evc := by
  simp only [State.notify]
  split <;> simp

@[simp] theorem evWrite_evc (s : State) (i : Nat) (e : EventRec) : (s.evWrite i e).evc = s.evc := by
  simp only [State.evWrite]
  split <;> simp

@[simp] theorem evRaised_evc (s : State) (i n count : Nat) (v : BitVec 64) : (s.evRaised i n count v).evc = s.evc := by
  simp only [State.evRaised]
  split <;> simp

/-- Of the sources only the one that enters PENDING changes (Table 11.5). -/
theorem enterPending_evc (s : State) (n : Nat) (v : BitVec 32) :
    (s.enterPending n v).evc = (s.setSrc n { s.src n with state := .pending, holder := 0 }).evc := by
  simp only [State.enterPending]
  exact foldl_keeps State.evc _ (fun _ _ => evRaised_evc ..) _ _

@[simp] theorem src_enterPending_same (s : State) (n : Nat) (v : BitVec 32) :
    (s.enterPending n v).src n = { s.src n with state := .pending, holder := 0 } := by
  rw [State.src, enterPending_evc]
  exact src_setSrc_same ..

theorem src_enterPending_other (s : State) {n m : Nat} (v : BitVec 32) (h : m ≠ n) : (s.enterPending n v).src m = s.src m := by
  rw [State.src, enterPending_evc]
  exact src_setSrc_other s _ h

/-- Source n does not stay IDLE while its condition holds and its target mask is not 0 (Table 11.5). -/
def LevelRaised (s : State) (n : Nat) : Prop := ¬((s.src n).state = .idle ∧ s.levelHolds n = true ∧ s.evcMask n ≠ 0)

theorem levelRaised_of_still {s t : State} {n : Nat} (h : Still s t) (hsrc : t.src n = s.src n) (hs : LevelRaised s n) :
    LevelRaised t n := by
  rwa [LevelRaised, hsrc, still_levelHolds h, still_evcMask h]

theorem levelRaised_evcLevel_same (s : State) (n : Nat) : LevelRaised (s.evcLevel n) n := by
  simp only [State.evcLevel]
  split
  · simp [LevelRaised]
  · rename_i hquiet
    exact hquiet

/-- A look at one source keeps what holds of every other. -/
theorem levelRaised_evcLevel (s : State) (n m : Nat) (h : LevelRaised s m) : LevelRaised (s.evcLevel n) m := by
  by_cases hm : m = n
  · exact hm ▸ levelRaised_evcLevel_same s n
  · refine levelRaised_of_still (still_evcLevel s n) ?_ h
    simp only [State.evcLevel]
    split
    · exact src_enterPending_other s _ hm
    · rfl

theorem levelRaised_foldl (l : List Nat) (s : State) (m : Nat) (h : LevelRaised s m ∨ m ∈ l) :
    LevelRaised (l.foldl State.evcLevel s) m := by
  induction l generalizing s with
  | nil => exact h.resolve_right (List.not_mem_nil)
  | cons n l ih =>
    refine ih (s.evcLevel n) ?_
    rcases h with h | h
    · exact .inl (levelRaised_evcLevel s n m h)
    · rcases List.mem_cons.mp h with rfl | h
      · exact .inl (levelRaised_evcLevel_same s m)
      · exact .inr h

/-- Once the level sources have been looked at, none stays IDLE that should be raised. -/
theorem levelsRaised_noteLevels (s : State) : LevelsRaised s.noteLevels := by
  intro hbooted n hn
  rw [still_sec (still_noteLevels s)] at hbooted
  simp only [State.noteLevels, hbooted, if_true]
  exact levelRaised_foldl levelSources s n (.inr hn)

/-! ## The quiet clock -/

@[simp] theorem noteQuiet_src (s : State) (n : Nat) : s.noteQuiet.src n = s.src n := by
  simp only [State.noteQuiet]
  split <;> (try split) <;> rfl

theorem levelsRaised_noteQuiet {s : State} (h : LevelsRaised s) : LevelsRaised s.noteQuiet := by
  intro hbooted n hn
  rw [still_sec (still_noteQuiet s)] at hbooted
  exact levelRaised_of_still (still_noteQuiet s) (noteQuiet_src s n) (h hbooted n hn)

theorem quietClock_noteQuiet (s : State) : QuietClock s.noteQuiet := by
  cases hq : s.quiet with
  | false =>
    have : s.noteQuiet = { s with pwr := { s.pwr with quietSince := none } } := by simp [State.noteQuiet, hq]
    rw [QuietClock, this]
    exact hq.symm
  | true =>
    cases hm : s.pwr.quietSince with
    | some m =>
      have : s.noteQuiet = s := by simp [State.noteQuiet, hq, hm]
      rw [QuietClock, this, hm, hq]
      rfl
    | none =>
      have : s.noteQuiet = { s with pwr := { s.pwr with quietSince := some s.now } } := by simp [State.noteQuiet, hq, hm]
      rw [QuietClock, this]
      exact hq.symm

/-! ## Steps -/

/-- The queue is no part of what the conditions read. -/
theorem inv_queue {s : State} {q : List Instr} (hclock : QuietClock s) (hlevels : LevelsRaised s) (hq : ∀ c ∈ q, c.wf = true) :
    Inv { s with pending := q } := ⟨hclock, hlevels, hq⟩

/-- Whatever a row answers meets the invariant, with the queue that it found. -/
theorem row_keeps_inv {c : Instr} {need : Need} {s t : State} {f : State → State} (h : Inv s) (ht : row c need s f = .next t) :
    Inv t := by
  obtain ⟨-, -, hqueue⟩ := id h
  rcases row_cases c need s f with ⟨-, hrow⟩ | ⟨-, -, hrow⟩ | ⟨-, -, hrow⟩
  · rw [hrow] at ht
    cases ht
  · rw [hrow] at ht
    cases ht
    exact h
  · rw [hrow] at ht
    cases ht
    exact inv_queue (quietClock_noteQuiet _) (levelsRaised_noteQuiet (levelsRaised_noteLevels _)) hqueue

theorem exec_keeps_inv {c : Instr} {s t : State} (h : Inv s) (ht : exec c s = .next t) : Inv t := by
  obtain ⟨f, hf⟩ := exec_row c s
  exact row_keeps_inv h (hf ▸ ht)

theorem step_front {s : State} {c : Instr} {q : List Instr} (h : s.pending = c :: q) : step s = exec c { s with pending := q } := by
  simp only [step, h]

theorem step_idle {s : State} (h : s.pending = []) : step s = .next (s.advance 1) := by
  simp only [step, h]

/-- The clock's going on changes no condition. -/
theorem inv_advance {s : State} (h : Inv s) (dt : Nat) : Inv (s.advance dt) := h

/-- Settles O3: after every row the level sources and the quiet conditions are judged again (`row_keeps_inv`), whatever its effect; on an
empty queue only the clock goes on. -/
theorem invKept : Obligations.InvKept := by
  unfold Obligations.InvKept
  intro s t h ht
  cases hq : s.pending with
  | nil =>
    rw [step_idle hq] at ht
    cases ht
    exact inv_advance h 1
  | cons c q =>
    rw [step_front hq] at ht
    obtain ⟨hclock, hlevels, hqueue⟩ := h
    exact exec_keeps_inv (inv_queue hclock hlevels fun d hd => hqueue d (hq ▸ List.mem_cons_of_mem c hd)) ht

/-- Settles O1: both answers of a step are its own equations. -/
theorem stepRunsFront : Obligations.StepRunsFront := by
  unfold Obligations.StepRunsFront
  exact ⟨fun c q s h => step_front h, fun s h => step_idle h⟩

/-- Settles O2: every command is a row (`exec_row`), and a row has three answers (`row_cases`), of which only the first is no next
state. -/
theorem commandOutcomes : Obligations.CommandOutcomes := by
  unfold Obligations.CommandOutcomes
  intro c s
  obtain ⟨f, hf⟩ := exec_row c s
  rw [hf]
  refine ⟨row_illFormed c c.need s f, row_absent c c.need s f, fun hwf => ?_⟩
  cases hneed : s.has c.need with
  | false => exact ⟨s, row_absent c c.need s f hwf hneed, rfl⟩
  | true => exact ⟨_, row_taken c c.need s f hwf hneed, rfl⟩

/-- Settles O4: after reset nothing is at work, nothing is booted and no command waits. -/
theorem invAtReset : Obligations.InvAtReset := by
  unfold Obligations.InvAtReset
  refine ⟨?clock, ?levels, ?queue⟩
  case clock => rfl
  case levels => exact fun hbooted => nomatch hbooted
  case queue => exact fun c hc => nomatch hc

/-- Settles O6: each part of the reset state is read off; a session, source, actuator or channel that no map lists is its idle value. -/
theorem resetState : Obligations.ResetState := by
  unfold Obligations.ResetState
  exact ⟨rfl, rfl, rfl, rfl, rfl, rfl, rfl, rfl, rfl, rfl, fun _ => rfl, fun _ => rfl, fun _ => rfl, fun _ => rfl, rfl, rfl,
    fun _ => rfl, rfl, rfl, rfl, rfl, rfl, rfl⟩

end Sys2Proof.Machine
end

section
/-! SUPPORT. The map of the set-up registers (R645, R646): a register is found at its address, and there alone. -/

namespace Sys2Proof.Machine

open Sys2Proof

/-- A register of Table 20.5 has a word of the 1 MiB of its block, and the map names it there. The named cases carry an index, within
whose range no other register of the block lies. -/
theorem regCandidate_regSpot {r : Reg} (h : regExists r = true) :
    regCandidate (regSpot r).1 (regSpot r).2 = some r ∧ (regSpot r).2 % 4 = 0 ∧ (regSpot r).2 < 0x100000 := by
  cases r
  case ethIpv6 p k | talList l k =>
    simp only [regExists, Bool.and_eq_true, decide_eq_true_eq] at h
    simp only [regSpot]
    refine ⟨?_, by omega, by omega⟩
    simp only [regCandidate]
    simp (disch := omega) only [if_pos, if_neg]
    congr 2 <;> omega
  case sceWindow o =>
    simp only [regExists, Bool.and_eq_true, Bool.or_eq_true, decide_eq_true_eq, beq_iff_eq] at h
    simp only [regSpot]
    refine ⟨?_, by omega, by omega⟩
    simp only [regCandidate]
    simp (disch := omega) only [if_neg]
  case ethCfg n | ethStat n | ethDrop n | ethIpv4 n | ethIpCtl n | ethIpv4Gw n | ethPkey n | evcMaskLo n | evcMaskHi n | evcStat n |
      chnStatData n | chnAfSel n | chnStHead n | chnStLast n | wrpInh n | sceTgt n | plkCtl n | seqVec n | seqCsData n | seqStat n |
      sceSlot n | sceActCmd n | sceActStat n | sceActPlan n | orbStat n | orbQos n | hbmErr n | dmaTm n | dmaChProgLo n |
      dmaChProgHi n | dmaChCfg n | dmaChCtl n | dmaChStat n | dmaChErr n | dmaChEaddrLo n | dmaChEaddrHi n | fltSrc n | fltCnt n |
      secFlashWindow n =>
    simp only [regExists, decide_eq_true_eq] at h
    simp only [regSpot]
    refine ⟨?_, by omega, by omega⟩
    simp only [regCandidate]
    simp (disch := omega) only [if_pos, if_neg]
    congr 2
    omega
  all_goals exact ⟨rfl, rfl, by decide⟩

/-- Whatever register the map names, if any, lies at offset o of block b. -/
def SpotIs (b o : Nat) (found : Option Reg) : Prop := ∀ r, found = some r → regSpot r = (b, o)

theorem spotIs_none {b o : Nat} : SpotIs b o none := fun _ h => nomatch h

theorem spotIs_some {b o : Nat} {r : Reg} (h : regSpot r = (b, o)) : SpotIs b o (some r) := fun _ e => Option.some.inj e ▸ h

theorem spotIs_ite {b o : Nat} {c : Prop} [Decidable c] {x y : Option Reg} (hx : c → SpotIs b o x) (hy : ¬c → SpotIs b o y) :
    SpotIs b o (if c then x else y) := by
  split
  · exact hx ‹_›
  · exact hy ‹_›

/-- The map names a register at no other offset than its own: each test of the map leaves an offset that its index gives back. -/
theorem spotIs_regCandidate (b o : Nat) (ho : o % 4 = 0) : SpotIs b o (regCandidate b o) := by
  unfold regCandidate
  split
  all_goals repeat' (refine spotIs_ite (fun _ => ?_) (fun _ => ?_))
  all_goals first
    | exact spotIs_none
    | exact spotIs_some (Prod.ext rfl (by simp only [regSpot] <;> omega))

theorem regAt_eq_some_iff {a : Nat} {r : Reg} :
    regAt a = some r ↔ 0x01000000 ≤ a ∧ regExists r = true ∧
      regCandidate ((a - 0x01000000) / 4 * 4 / 0x100000) ((a - 0x01000000) / 4 * 4 % 0x100000) = some r := by
  by_cases hlow : a < 0x01000000
  · simp only [regAt, if_pos hlow]
    exact iff_of_false (fun h => nomatch h) (by omega)
  · simp only [regAt, if_neg hlow]
    split
    · rename_i hnone
      simp [hnone]
    · rename_i q hq
      rw [hq]
      constructor
      · intro h
        split at h
        · cases h
          exact ⟨by omega, ‹_›, rfl⟩
        · cases h
      · rintro ⟨-, hexists, hqr⟩
        cases hqr
        rw [if_pos hexists]

theorem regAddr_eq (r : Reg) : regAddr r = 0x01000000 + 0x100000 * (regSpot r).1 + (regSpot r).2 := rfl

/-- The map answers a register at its own address. -/
theorem regAt_regAddr {r : Reg} (h : regExists r = true) : regAt (regAddr r) = some r := by
  obtain ⟨hfound, halign, hblock⟩ := regCandidate_regSpot h
  rw [regAt_eq_some_iff, regAddr_eq]
  refine ⟨by omega, h, ?_⟩
  have hword : (0x01000000 + 0x100000 * (regSpot r).1 + (regSpot r).2 - 0x01000000) / 4 * 4 =
      0x100000 * (regSpot r).1 + (regSpot r).2 := by omega
  have hid : (0x100000 * (regSpot r).1 + (regSpot r).2) / 0x100000 = (regSpot r).1 := by omega
  have hofs : (0x100000 * (regSpot r).1 + (regSpot r).2) % 0x100000 = (regSpot r).2 := by omega
  rw [hword, hid, hofs, hfound]

/-- Where the map answers a register, the address lies in that register's word. -/
theorem regAddr_of_regAt {a : Nat} {r : Reg} (h : regAt a = some r) : regExists r = true ∧ regAddr r = a / 4 * 4 := by
  obtain ⟨hlow, hexists, hfound⟩ := regAt_eq_some_iff.mp h
  have hspot := spotIs_regCandidate _ _ (by omega) r hfound
  refine ⟨hexists, ?_⟩
  rw [regAddr_eq, hspot]
  omega

@[simp] theorem rv_setRv_same (s : State) (r : Reg) (v : Word) : (s.setRv r v).rv r = v &&& regRw r := agetD_acanon_same ..

theorem rv_setRv_other (s : State) {r q : Reg} (v : Word) (h : regAddr q ≠ regAddr r) : (s.setRv r v).rv q = s.rv q :=
  agetD_acanon_other _ _ _ _ h

/-- Settles O7: the spot of a register and the map's answer are inverse to each other (`regCandidate_regSpot`, `spotIs_regCandidate`), and
a register's value is kept under its address. -/
theorem registerAddresses : Obligations.RegisterAddresses := by
  unfold Obligations.RegisterAddresses
  refine ⟨?found, ?inside, rv_setRv_same, fun s r q v => rv_setRv_other s v⟩
  case found =>
    intro r h
    obtain ⟨-, halign, hblock⟩ := regCandidate_regSpot h
    refine ⟨regAt_regAddr h, ?_⟩
    rw [regAddr_eq]
    omega
  case inside =>
    intro a r h
    exact regAddr_of_regAt h

end Sys2Proof.Machine
end

section
/-! SUPPORT. Completing a row with a state named, and the parts of the state that an update can change. -/

namespace Sys2Proof.Machine

open Sys2Proof

/-! ## Rows that answer a state named -/

/-- A row completes with every state that is u but for events, where its effect is such a state. -/
theorem gives_still {c : Instr} {need : Need} {s u : State} {f : State → State} (hc : exec c s = row c need s f)
    (hready : c.wf = true ∧ s.has need = true) (hqueue : u.pending = s.pending) (h : Still u (f s)) : Gives c s (Still u) := by
  refine gives_of hc hready.1 hready.2 fun t ht => still_trans ?_ ht
  have hu : ({ u with pending := s.pending } : State) = u := by rw [← hqueue]
  simpa only [hu] using still_pending h s.pending

theorem gives_mono {c : Instr} {s : State} {P Q : State → Prop} (h : Gives c s P) (hpq : ∀ t, P t → Q t) : Gives c s Q := by
  obtain ⟨t, hexec, hqueue, hp⟩ := h
  exact ⟨t, hexec, hqueue, hpq t hp⟩

/-- A row completes with what holds of every state that is u but for events, where its effect is such a state. -/
theorem gives_effect {c : Instr} {need : Need} {s u : State} {f : State → State} {P : State → Prop} (hc : exec c s = row c need s f)
    (hready : c.wf = true ∧ s.has need = true) (heffect : Still u (f s)) (hqueue : u.pending = s.pending)
    (h : ∀ t, Still u t → P t) : Gives c s P := gives_mono (gives_still hc hready hqueue heffect) h

theorem still_of_eq {s t : State} (h : t = s) : Still s t := h ▸ still_refl t

/-- What a clause claims of the answer of a row holds of a state that is the row's effect but for events. -/
theorem gives_model {c : Instr} {need : Need} {s : State} {f : State → State} {P : State → Prop} (h : Gives c s P)
    (hexec : exec c s = row c need s f) (hready : c.wf = true ∧ s.has need = true) :
    ∃ t, P t ∧ Still { f s with pending := s.pending } t := by
  obtain ⟨t, ht, -, hp⟩ := h
  obtain ⟨u, hu, -, hstill⟩ := row_still c need s f hready.1 hready.2
  obtain rfl : t = u := Host.Outcome.next.inj (ht.symm.trans (hexec.trans hu))
  exact ⟨t, hp, hstill⟩

/-! ## Fields that event records leave alone -/

/-- A field of the time block but the sequence counter. -/
theorem still_tim_field {α : Type} {s t : State} (f : Tim → α) (h : Still s t)
    (hf : ∀ (x : Tim) (n : BitVec 32), f { x with seq := n } = f x := by exact fun _ _ => rfl) : f t.tim = f s.tim :=
  (hf t.tim s.tim.seq).symm.trans (congrArg f (still_tim h))

/-- A field of the power controller but the moment of the quiet clock. -/
theorem still_pwr_field {α : Type} {s t : State} (f : Pwr → α) (h : Still s t)
    (hf : ∀ (x : Pwr) (n : Option Nat), f { x with quietSince := n } = f x := by exact fun _ _ => rfl) : f t.pwr = f s.pwr :=
  (hf t.pwr s.pwr.quietSince).symm.trans (congrArg f (still_pwr h))

/-- A field of the host interface but the sessions and the packets that wait. -/
theorem still_eqt_field {α : Type} {s t : State} (f : Eqt → α) (h : Still s t)
    (hf : ∀ (x : Eqt) (y : Assoc Session) (z : List (Route × Pkt)), f { x with sessions := y, held := z } = f x := by
      exact fun _ _ _ => rfl) : f t.eqt = f s.eqt :=
  (hf t.eqt s.eqt.sessions s.eqt.held).symm.trans (congrArg f (still_eqt h))

/-! ## Parts -/

theorem part_refl (p : Part) (s : State) : p.same s s := by
  cases p
  case eqt => exact ⟨rfl, fun _ => rfl⟩
  all_goals rfl

/-- What `Only` says of each part. -/
theorem only_iff {ps : List Part} {s t : State} :
    Only ps s t ↔ (Part.clock ∉ ps → t.now = s.now) ∧ (Part.free ∉ ps → t.free = s.free) ∧ (Part.regs ∉ ps → t.regs = s.regs) ∧
      (Part.latches ∉ ps → t.latches = s.latches) ∧ (Part.setupErr ∉ ps → t.setupErr = s.setupErr) ∧
      (Part.tim ∉ ps → { t.tim with seq := s.tim.seq } = s.tim) ∧ (Part.flt ∉ ps → t.flt = s.flt) ∧
      (Part.tal ∉ ps → t.tal = s.tal) ∧
      (Part.eqt ∉ ps → { t.eqt with sessions := s.eqt.sessions, held := s.eqt.held } = s.eqt ∧
        ∀ i, calmSession (t.sess i) = calmSession (s.sess i)) ∧
      (Part.plc ∉ ps → t.plc = s.plc) ∧ (Part.orb ∉ ps → t.orb = s.orb) ∧
      (Part.sce ∉ ps → t.sce = s.sce) ∧ (Part.spn ∉ ps → t.spn = s.spn) ∧ (Part.chn ∉ ps → t.chn = s.chn) ∧
      (Part.wrp ∉ ps → t.wrp = s.wrp) ∧ (Part.seq ∉ ps → t.seq = s.seq) ∧ (Part.dma ∉ ps → t.dma = s.dma) ∧
      (Part.pwr ∉ ps → { t.pwr with quietSince := s.pwr.quietSince } = s.pwr) ∧ (Part.hbm ∉ ps → t.hbm = s.hbm) ∧
      (Part.srm ∉ ps → t.srm = s.srm) ∧ (Part.cch ∉ ps → t.cch = s.cch) ∧ (Part.sec ∉ ps → t.sec = s.sec) ∧
      (Part.pin ∉ ps → t.pin = s.pin) := by
  constructor
  · intro h
    exact ⟨h .clock, h .free, h .regs, h .latches, h .setupErr, h .tim, h .flt, h .tal, h .eqt, h .plc, h .orb, h .sce, h .spn,
      h .chn, h .wrp, h .seq, h .dma, h .pwr, h .hbm, h .srm, h .cch, h .sec, h .pin⟩
  · rintro ⟨h1, h2, h3, h4, h5, h6, h7, h8, h9, h10, h11, h12, h13, h14, h15, h16, h17, h18, h19, h20, h21, h22, h23⟩
    exact fun
      | .clock => h1 | .free => h2 | .regs => h3 | .latches => h4 | .setupErr => h5 | .tim => h6 | .flt => h7 | .tal => h8 |
      .eqt => h9 | .plc => h10 | .orb => h11 | .sce => h12 | .spn => h13 | .chn => h14 | .wrp => h15 | .seq => h16 | .dma =>
      h17 | .pwr => h18 | .hbm => h19 | .srm => h20 | .cch => h21 | .sec => h22 | .pin => h23

/-- Event records after a change change no further part. -/
theorem only_still {ps : List Part} {s u t : State} (h : Only ps s u) (ht : Still u t) : Only ps s t :=
  only_trans h (only_mono (still_only ht) fun _ hp => nomatch hp)

theorem only_refl (ps : List Part) (s : State) : Only ps s s := fun p _ => part_refl p s

end Sys2Proof.Machine
end

section
/-! SUPPORT. What a set-up write does, taken or turned away (R646, R652, R665), and what the management port reads (R649). -/

namespace Sys2Proof.Machine

open Sys2Proof

/-! ## A write by its address -/

theorem setupWrite_of_accepts {s : State} {ag : Agent} {addr : Nat} {r : Reg} {v : Word} (hmap : regAt addr = some r)
    (h : Accepts s r v) : s.setupWrite ag addr v = s.wrote (s.regAct ag r v) ag r := by
  obtain ⟨-, hon, hpair, hword, hstate, hsync⟩ := h
  simp [State.setupWrite, State.regWrite, State.regWriteIn, State.wrote, hmap, hon, hpair, hword, hstate, hsync]

theorem setupWrite_of_unmapped {s : State} {ag : Agent} {addr : Nat} {v : Word} (hmap : regAt addr = none) :
    s.setupWrite ag addr v = s.turnedAway ag 4 (addr / 4 * 4) 3 := by
  simp [State.setupWrite, State.regWrite, State.turnedAway, hmap]

theorem setupWrite_of_wordRefused {s : State} {ag : Agent} {addr : Nat} {r : Reg} {v : Word} (hmap : regAt addr = some r)
    (hon : s.blockOff r = false) (hpair : regUpper r = none) (hword : s.wordRefused r v = true) :
    s.setupWrite ag addr v = s.turnedAway ag 1 (regAddr r) 1 := by
  simp [State.setupWrite, State.regWrite, State.regWriteIn, State.turnedAway, hmap, hon, hpair, hword]

theorem setupWrite_of_stateRefused {s : State} {ag : Agent} {addr : Nat} {r : Reg} {v : Word} (hmap : regAt addr = some r)
    (hon : s.blockOff r = false) (hpair : regUpper r = none) (hword : s.wordRefused r v = false) (hstate : s.stateRefused r v = true) :
    s.setupWrite ag addr v = s.turnedAway ag 2 (regAddr r) 1 := by
  simp [State.setupWrite, State.regWrite, State.regWriteIn, State.turnedAway, hmap, hon, hpair, hword, hstate]

theorem setupWrite_of_syncConflict {s : State} {ag : Agent} {addr : Nat} {r : Reg} {v : Word} (hmap : regAt addr = some r)
    (hon : s.blockOff r = false) (hpair : regUpper r = none) (hword : s.wordRefused r v = false)
    (hstate : s.stateRefused r v = false) (hsync : s.syncConflict r v = true) :
    s.setupWrite ag addr v = s.turnedAway ag 3 (regAddr r) 2 := by
  simp [State.setupWrite, State.regWrite, State.regWriteIn, State.turnedAway, hmap, hon, hpair, hword, hstate, hsync]

/-- A write to a block in RETENTION or OFF is counted, and nothing else (R523). -/
theorem setupWrite_of_blockOff {s : State} {ag : Agent} {addr : Nat} {r : Reg} {v : Word} (hmap : regAt addr = some r)
    (hoff : s.blockOff r = true) :
    s.setupWrite ag addr v = { s with
      pwr := { s.pwr with offValid := true, offBlock := (regSpot r).1, offCount := satInc s.pwr.offCount 0xFFFF },
      pin := { s.pin with lastStatus := if ag = .mgmt then 4 else s.pin.lastStatus } } := by
  by_cases hag : ag = .mgmt
  · simp [State.setupWrite, State.regWrite, State.accessOff, hmap, hoff, hag]
  · simp [State.setupWrite, State.regWrite, State.accessOff, hmap, hoff, hag]

/-- A lower half is held for its agent (R4, R648). -/
theorem setupWrite_of_lower {s : State} {ag : Agent} {addr : Nat} {r hi : Reg} {v : Word} (hmap : regAt addr = some r)
    (hon : s.blockOff r = false) (hpair : regUpper r = some hi) :
    s.setupWrite ag addr v = { s.setLatch { s.latch ag (regAddr r) with lower := some v } with
      pin := { s.pin with lastStatus := if ag = .mgmt then 0 else s.pin.lastStatus } } := by
  by_cases hag : ag = .mgmt
  · simp [State.setupWrite, State.regWrite, State.regWriteIn, hmap, hon, hpair, hag]
  · simp [State.setupWrite, State.regWrite, State.regWriteIn, hmap, hon, hpair, hag]
    rfl

theorem regAct_plain {s : State} {ag : Agent} {r : Reg} {v : Word} (h : r ∈ plainRegs) : s.regAct ag r v = s.setRv r v := by
  simp only [plainRegs, List.mem_cons, List.not_mem_nil, or_false] at h
  rcases h with rfl | rfl | rfl | rfl | rfl | rfl | rfl | rfl | rfl | rfl | rfl | rfl | rfl | rfl | rfl | rfl | rfl | rfl | rfl | rfl |
    rfl | rfl
  all_goals rfl

/-! ## What an accepted write adds -/

theorem conjChanged_congr {s u t : State} (h : t.regs = u.regs) (r : Reg) : conjChanged s t r = conjChanged s u r := by
  simp only [conjChanged, State.rv, h]

/-- What an accepted write adds does not depend on event records. -/
theorem still_wrote {s u t : State} (h : Still u t) (ag : Agent) (r : Reg) : Still (s.wrote u ag r) (s.wrote t ag r) := by
  obtain ⟨hevents, hcalm, hout⟩ := h
  have hconj := conjChanged_congr (s := s) (still_regs ⟨hevents, hcalm, hout⟩) r
  have hpin := still_pin ⟨hevents, hcalm, hout⟩
  have hcs : Still u.conjStart t.conjStart := by
    refine ⟨?_, hcalm, hout⟩
    rw [← hevents]
    rfl
  have key : ∀ {x y : State}, Still x y → Still { x with pin := { x.pin with lastStatus := 0 } }
      { y with pin := { y.pin with lastStatus := 0 } } := by
    intro x y hxy
    refine ⟨?_, hxy.2.1, hxy.2.2⟩
    rw [← hxy.1]
    rfl
  simp only [State.wrote, hconj]
  split
  · split
    · exact key hcs
    · exact key ⟨hevents, hcalm, hout⟩
  · split
    · exact hcs
    · exact ⟨hevents, hcalm, hout⟩
/-- An accepted write of a register completes with what its effect is but for events. -/
theorem gives_wrote {i : Instr} {need : Need} {s u : State} {ag : Agent} {r : Reg} {v : Word}
    (hexec : exec i s = row i need s fun s => s.regRow ag r v) (hready : i.wf = true ∧ s.has need = true)
    (hacc : Accepts s r v) (hqueue : u.pending = s.pending) (h : Still u (s.regAct ag r v)) :
    Gives i s (Still (s.wrote u ag r)) := by
  refine gives_still hexec hready (by rw [wrote_pending, hqueue]) ?_
  rw [regRow_of_accepts hacc]
  exact still_wrote h ag r

/-! ## TIM_CFG -/

theorem fld_eq_extract (v : Word) (hi lo : Nat) : fld v hi lo = (v.extractLsb' lo (hi + 1 - lo)).toNat := by
  simp [fld, BitVec.extractLsb'_toNat, Nat.shiftRight_eq_div_pow]

/-- A field that a mask keeps whole. -/
theorem fld_and {m : Word} {hi lo : Nat} (v : Word) (h : m.extractLsb' lo (hi + 1 - lo) = BitVec.allOnes _) :
    fld (v &&& m) hi lo = fld v hi lo := by
  rw [fld_eq_extract, fld_eq_extract, BitVec.extractLsb'_and, h, BitVec.and_allOnes]

/-- MODE of TIM_CFG is an RW field. -/
@[simp] theorem timMode_setRv (s : State) (v : Word) : (s.setRv .timCfg v).timMode = fld v 31 30 := by
  rw [State.timMode, rv_setRv_same]
  exact fld_and v (by decide)

/-- A write of TIM_CFG that keeps MODE and the master fields puts its word in force. -/
theorem regAct_timCfg_keep {s : State} {ag : Agent} {v : Word} (hmode : fld v 31 30 = s.timMode)
    (hmaster : fld v 25 16 = fld (s.rv .timCfg) 25 16) : s.regAct ag .timCfg v = (s.setRv .timCfg v).evcLevel 10 := by
  have hsame : ¬(fld (s.rv .timCfg) 31 30 ≠ fld v 31 30 ∨ fld (s.rv .timCfg) 25 16 ≠ fld v 25 16) := by
    simp [hmode, hmaster, State.timMode]
  simp only [State.regAct, if_neg hsame]

/-- A write of TIM_CFG that changes MODE begins the search for a reference anew, with the count as it stands (R552, R558). -/
theorem regAct_timCfg_mode {s : State} {ag : Agent} {v : Word} (hmode : fld v 31 30 ≠ s.timMode) :
    s.regAct ag .timCfg v = (s.setRv .timCfg v).timResync.evcLevel 10 := by
  have hnew : fld (s.rv .timCfg) 31 30 ≠ fld v 31 30 ∨ fld (s.rv .timCfg) 25 16 ≠ fld v 25 16 := .inl (Ne.symm hmode)
  simp only [State.regAct, if_pos hnew]

theorem still_modTim (s : State) (f : Tim → Tim) : Still { s with tim := f s.tim } (s.modTim f) := still_evcLevel _ _

/-- TIM_CFG is a conjunct register, and a new MODE is a new value of it. -/
theorem conjChanged_timCfg_mode {s u : State} {v : Word} (hu : u.rv .timCfg = v &&& regRw .timCfg) (hmode : fld v 31 30 ≠ s.timMode) :
    conjChanged s u .timCfg = true := by
  have hne : v &&& regRw .timCfg ≠ s.rv .timCfg := by
    intro heq
    apply hmode
    rw [State.timMode, ← heq]
    exact (fld_and v (by decide)).symm
  simp [conjChanged, regConjunct, hu, hne]

theorem wrote_tim_of_changed {s u : State} {ag : Agent} {r : Reg} (h : conjChanged s u r = true) :
    (s.wrote u ag r).tim = { u.tim with busy := true } := by
  simp only [State.wrote, h, if_true, apply_ite State.tim, State.conjStart, ite_self]

@[simp] theorem wrote_rv (s u : State) (ag : Agent) (r q : Reg) : (s.wrote u ag r).rv q = u.rv q := by
  simp only [State.wrote, State.conjStart, State.rv, apply_ite State.regs, ite_self]

/-- What every accepted write may add: a computation of the digest, and the status kept for the management port. -/
theorem only_wrote (s u : State) (ag : Agent) (r : Reg) : Only [.tim, .pin] u (s.wrote u ag r) := by
  simp only [State.wrote]
  split <;> split <;> simp [only_iff, State.sess, State.conjStart]

/-- TIM_CFG written with another MODE: the word is in force and the search for a reference begins anew. -/
def State.modeWritten (s : State) (v : Word) : State :=
  { s.setRv .timCfg v with tim := { s.tim with
      state := if s.tim.state = .unset then .unset else (s.setRv .timCfg v).restState, masters := [], master := none,
      pathDelay := none, delayReq := none, syncStamps := none, inLock := 0, outLock := 0, ppsNext := none, ppsLast := none } }

theorem still_regAct_timCfg_mode {s : State} {ag : Agent} {v : Word} (hmode : fld v 31 30 ≠ s.timMode) :
    Still (s.modeWritten v) (s.regAct ag .timCfg v) := by
  rw [regAct_timCfg_mode hmode]
  have hsync : Still _ (s.setRv .timCfg v).timResync := still_modTim (s.setRv .timCfg v) _
  exact still_trans hsync (still_evcLevel _ _)

theorem only_modeWritten (s : State) (v : Word) : Only [.regs, .tim] s (s.modeWritten v) := by
  simp [State.modeWritten, only_iff, State.sess]

/-- An accepted write of TIM_CFG with another MODE: the last clause of SetupWriteTaken. -/
theorem timCfg_mode_gives {s : State} {ag : Agent} {v : Word} (hready : Ready (.sharedResourceWrite ag .timCfg v) s)
    (hacc : Accepts s .timCfg v) (hmode : fld v 31 30 ≠ s.timMode) (hset : s.tim.state ≠ .unset) :
    Gives (.sharedResourceWrite ag .timCfg v) s fun t =>
      t.rv .timCfg = v &&& regRw .timCfg ∧ t.tim.state = (if fld v 31 30 = 0 then TimeState.free else TimeState.acquiring) ∧
      t.tim.masters = [] ∧ t.tim.master = none ∧ t.tim.pathDelay = none ∧ t.tim.busy = true ∧ t.tim.tick = s.tim.tick ∧
      Only [.regs, .tim, .pin] s t := by
  refine gives_mono (gives_wrote (u := s.modeWritten v) (exec_sharedResourceWrite ag .timCfg v s) hready hacc rfl
    (still_regAct_timCfg_mode hmode)) fun t ht => ?_
  have hrv : (s.modeWritten v).rv .timCfg = v &&& regRw .timCfg := rv_setRv_same ..
  have htim := (still_tim ht).trans (wrote_tim_of_changed (conjChanged_timCfg_mode hrv hmode))
  have htick := congrArg Tim.tick htim
  have hrest : (s.setRv .timCfg v).restState = if fld v 31 30 = 0 then TimeState.free else TimeState.acquiring := by
    rw [State.restState, timMode_setRv]
  refine ⟨?rv, ?state, congrArg Tim.masters htim, congrArg Tim.master htim, congrArg Tim.pathDelay htim, congrArg Tim.busy htim,
    htick, ?only⟩
  case rv =>
    rw [State.rv, still_regs ht]
    exact (wrote_rv s _ ag .timCfg .timCfg).trans hrv
  case state =>
    have hstate := congrArg Tim.state htim
    simpa only [State.modeWritten, if_neg hset, hrest] using hstate
  case only =>
    exact only_still (only_trans (only_mono (only_modeWritten s v) (by decide)) (only_mono (only_wrote s _ ag .timCfg) (by decide))) ht

/-- Settles O14: a register of `plainRegs` has no effect but its value, a lower half goes into its latch, and of TIM_CFG a new MODE
begins the search for a reference anew. -/
theorem setupWriteTaken : Obligations.SetupWriteTaken := by
  unfold Obligations.SetupWriteTaken
  refine ⟨?plain, ?lower, ?keep, ?mode⟩
  case plain =>
    intro s ag addr v r hready hplain hmap hacc
    refine gives_still (exec_setupRegisterWrite ag addr v s) hready (wrote_pending ..) ?_
    rw [setupWrite_of_accepts hmap hacc, regAct_plain hplain]
    exact still_refl _
  case lower =>
    intro s ag addr v r hi hready hmap hon hpair
    refine gives_still (exec_setupRegisterWrite ag addr v s) hready rfl ?_
    rw [setupWrite_of_lower hmap hon hpair]
    exact still_refl _
  case keep =>
    intro s ag v hready hacc hmode hmaster
    refine gives_wrote (exec_sharedResourceWrite ag .timCfg v s) hready hacc rfl ?_
    rw [regAct_timCfg_keep hmode hmaster]
    exact still_evcLevel _ _
  case mode =>
    intro s ag v hready hacc hmode hset
    exact timCfg_mode_gives hready hacc hmode hset

/-! ## Refused writes -/

theorem stateRefused_shared {s : State} {r : Reg} {v : Word} (h : r = .timCfg ∨ r = .spnTlCfg ∨ r = .talCfg) :
    s.stateRefused r v = false ∧ regUpper r = none := by
  rcases h with rfl | rfl | rfl
  all_goals exact ⟨rfl, rfl⟩

theorem sharedResourceWrite_wf_iff {ag : Agent} {r : Reg} {v : Word} :
    (Instr.sharedResourceWrite ag r v).wf = true ↔ agentOk ag = true ∧ (r = .timCfg ∨ r = .spnTlCfg ∨ r = .talCfg) := by
  simp [Instr.wf, or_assoc]

/-- Settles O15: each cause of Table 20.3 turns the write away with its record, and a sleeping block counts it instead. -/
theorem setupWriteRefused : Obligations.SetupWriteRefused := by
  unfold Obligations.SetupWriteRefused
  refine ⟨?unmapped, ?word, ?state, ?off, ?sync⟩
  case unmapped =>
    intro s ag addr v hready hmap
    refine gives_still (exec_setupRegisterWrite ag addr v s) hready (turnedAway_pending ..) ?_
    rw [setupWrite_of_unmapped hmap]
    exact still_refl _
  case word =>
    intro s ag addr v r hready hmap hon hpair hword
    refine gives_still (exec_setupRegisterWrite ag addr v s) hready (turnedAway_pending ..) ?_
    rw [setupWrite_of_wordRefused hmap hon hpair hword]
    exact still_refl _
  case state =>
    intro s ag addr v r hready hmap hon hpair hword hstate
    refine gives_still (exec_setupRegisterWrite ag addr v s) hready (turnedAway_pending ..) ?_
    rw [setupWrite_of_stateRefused hmap hon hpair hword hstate]
    exact still_refl _
  case off =>
    intro s ag addr v r hready hmap hoff
    refine gives_still (exec_setupRegisterWrite ag addr v s) hready rfl ?_
    rw [setupWrite_of_blockOff hmap hoff]
    exact still_refl _
  case sync =>
    intro s ag r v hready hmap hon hword hsync
    obtain ⟨hstate, hpair⟩ := stateRefused_shared (s := s) (v := v) (sharedResourceWrite_wf_iff.mp hready.1).2
    refine gives_still (exec_sharedResourceWrite ag r v s) hready (turnedAway_pending ..) ?_
    rw [State.regRow, setupWrite_of_syncConflict hmap hon hpair hword hstate hsync]
    exact still_refl _

/-! ## Reads of the management port -/

theorem readMgmt_taken {s : State} {addr : Nat} : s.readMgmt addr true =
    (s.regRead .mgmt addr).1.emit (.mgmt ([5] ++ [BitVec.ofNat 8 (s.regRead .mgmt addr).2.2] ++
      leBytes 4 (s.regRead .mgmt addr).2.1.toNat)) := rfl

theorem regRead_plain {s : State} {ag : Agent} {addr : Nat} {r : Reg} (hmap : regAt addr = some r) (hon : s.blockOff r = false)
    (hupper : regUpper r = none) (hlower : regLower r = none) (hsense : r ≠ .pwrSense) (htherm : r ≠ .pinThermStat) :
    s.regRead ag addr = (s, s.regPeek r, 0) := by
  have hin : s.regReadIn ag r = (s, s.regPeek r) := by
    simp only [State.regReadIn, hupper, hlower]
  simp [State.regRead, hmap, hon, hin]

theorem regRead_lower {s : State} {ag : Agent} {addr : Nat} {r hi : Reg} (hmap : regAt addr = some r) (hon : s.blockOff r = false)
    (hupper : regUpper r = some hi) :
    s.regRead ag addr = (s.setLatch { s.latch ag (regAddr r) with upper := some (s.regPeek hi) }, s.regPeek r, 0) := by
  simp [State.regRead, State.regReadIn, hmap, hon, hupper]

theorem regRead_upper {s : State} {ag : Agent} {addr : Nat} {hi lo : Reg} {w : Word} (hmap : regAt addr = some hi)
    (hon : s.blockOff hi = false) (hupper : regUpper hi = none) (hlower : regLower hi = some lo)
    (hlatch : (s.latch ag (regAddr lo)).upper = some w) :
    s.regRead ag addr = (s.setLatch { s.latch ag (regAddr lo) with upper := none }, w, 0) := by
  simp [State.regRead, State.regReadIn, hmap, hon, hupper, hlower, hlatch]

theorem regRead_unmapped {s : State} {ag : Agent} {addr : Nat} (hmap : regAt addr = none) : s.regRead ag addr = (s, 0, 3) := by
  simp [State.regRead, hmap]

theorem readMgmt_unmapped {s : State} {addr : Nat} (hmap : regAt addr = none) :
    s.readMgmt addr true = s.emit (.mgmt [5, 3, 0, 0, 0, 0]) := by
  have hzeros : leBytes 4 (0 : Word).toNat = [0, 0, 0, 0] := by decide
  rw [readMgmt_taken, regRead_unmapped hmap, hzeros]
  rfl

/-- Settles O16: READ_MGMT emits what the read of its address answers, which depends on how the register is paired. -/
theorem setupReads : Obligations.SetupReads := by
  unfold Obligations.SetupReads
  refine ⟨?plain, ?lower, ?upper, ?unmapped, ?pec, ?status, ?timeout⟩
  case plain =>
    intro s addr r hready hmap hon hupper hlower hsense htherm
    refine gives_still (exec_readMgmt addr true s) hready rfl ?_
    rw [readMgmt_taken, regRead_plain hmap hon hupper hlower hsense htherm]
    exact still_refl _
  case lower =>
    intro s addr r hi hready hmap hon hupper
    refine gives_still (exec_readMgmt addr true s) hready rfl ?_
    rw [readMgmt_taken, regRead_lower hmap hon hupper]
    exact still_refl _
  case upper =>
    intro s addr hi lo w hready hmap hon hupper hlower hlatch
    refine gives_still (exec_readMgmt addr true s) hready rfl ?_
    rw [readMgmt_taken, regRead_upper hmap hon hupper hlower hlatch]
    exact still_refl _
  case unmapped =>
    intro s addr hready hmap
    refine gives_still (exec_readMgmt addr true s) hready rfl ?_
    rw [readMgmt_unmapped hmap]
    exact still_refl _
  case pec =>
    intro s addr hready
    exact gives_still (exec_readMgmt addr false s) hready rfl (still_refl _)
  case status =>
    intro s hready
    exact gives_still (exec_lastStatus s) hready rfl (still_refl _)
  case timeout =>
    intro s hready
    exact gives_still (exec_mgmtSclTimeout s) hready rfl (still_refl _)

/-! ## A control core that fails -/

/-- A running device with an IMAGE_ACTIVATE at its first step. -/
def activating : State :=
  { live with eqt := { live.eqt with
      activation := some { tag := 0, kinds := 1, step := 0, fwDigest := 0, persDigest := 0, cut := false } } }

/-- Refutes O18: its clause on a control core that fails its lockstep check says that nothing changes but the core and the report. The
recovery from a fault ranks above an activation (R20), so that the model marks one that has not reached step 3 to be abandoned;
in `activating` that mark is the difference. -/
theorem not_pinsAndTemperature : ¬ Obligations.PinsAndTemperature := by
  rintro ⟨-, -, -, -, hcore, -⟩
  have hready : Ready (.coreLockstepFail 0) activating := by decide
  obtain ⟨t, hclaimed, hmodel⟩ :=
    gives_model (hcore activating 0 hready (by decide) (by decide)) (exec_coreLockstepFail 0 activating) hready
  have hcut : t.eqt.activation.map (·.cut) = some true := congrArg (fun e : Eqt => e.activation.map (·.cut)) (still_eqt hmodel)
  have hkept : t.eqt.activation.map (·.cut) = some false := congrArg (fun e : Eqt => e.activation.map (·.cut)) (still_eqt hclaimed)
  simp [hcut] at hkept

end Sys2Proof.Machine
end

section
/-! SUPPORT. States on which a clause of TimeReference and one of TailRecorder fail. -/

namespace Sys2Proof.Machine

open Sys2Proof

/-- The first output of a list that begins with another. -/
theorem head_of_prefix {α : Type} {l m : List α} (h : l <+: m) (hl : l ≠ []) : m.head? = l.head? := by
  obtain ⟨r, rfl⟩ := h
  cases l with
  | nil => exact absurd rfl hl
  | cons a l => rfl

/-- A running device, not LOCKED, with a master and one ACTIVE session with an event ring; source 10 is IDLE, its condition holds and
group 0 is its target. -/
def unlockedListening : State :=
  { live with
    tim := { live.tim with master := some witMaster },
    eqt := { live.eqt with sessions := [(0, { freeSession with state := .active, events := true, eq := { emptyEventRing with log2 := 4 } })] } }

/-- Refutes O8: its clause on DELAY_REQ_SEND puts the Delay_Req right after the outputs of before. In `unlockedListening`, which does not
meet the invariant (`Inv`), the model judges source 10 first and its RAISED record leaves before the Delay_Req. -/
theorem not_timeReference : ¬ Obligations.TimeReference := by
  rintro ⟨-, -, -, hdelay, -⟩
  have hready : Ready .delayReqSend unlockedListening := by decide
  obtain ⟨t, ⟨-, -, hclaimed⟩, -, -, hmodel⟩ :=
    gives_model (hdelay unlockedListening witMaster hready (by decide) rfl) (exec_delayReqSend unlockedListening) hready
  have hfirst := head_of_prefix hclaimed (by decide)
  rw [head_of_prefix hmodel (by decide)] at hfirst
  revert hfirst
  decide

/-- A running device whose Tail ring is not powered off and holds no record, with SIZE_MIB and the next sequence number at 0, which no
accepted write and no capture leave. -/
def sizelessRing : State :=
  { live with
    regs := [(regAddr .talCfg, 0)], hbm := { live.hbm with inUse := 15 },
    tal := { live.tal with next := 0, capturing := some witTrigger } }

/-- Refutes O10: its clause on a full ring without WRAP says that the oldest record stays, and leaves out that SIZE_MIB is not 0 (R9). In
`sizelessRing` the capacity is 0, so that the ring counts as full before the capture and the oldest gives way. -/
theorem not_tailRecorder : ¬ Obligations.TailRecorder := by
  rintro ⟨-, -, -, -, hfull, -⟩
  have hready : Ready .tailCapture sizelessRing := by decide
  obtain ⟨t, ⟨-, -, -, -, -, holdest, -⟩, hmodel⟩ :=
    gives_model (hfull sizelessRing witTrigger hready rfl (by decide) (by decide) (by decide) rfl (by decide))
      (exec_tailCapture sizelessRing) hready
  rw [still_tal hmodel] at holdest
  revert holdest
  decide

end Sys2Proof.Machine
end

section
/-! SUPPORT. The fault collector: what a report does on arrival, how it becomes a record, and how a source recovers (chapter 17). -/

namespace Sys2Proof.Machine

open Sys2Proof

/-! ## Edge sources after a row -/

theorem src_evcLevel_other (s : State) {n m : Nat} (h : m ≠ n) : (s.evcLevel n).src m = s.src m := by
  simp only [State.evcLevel]
  split
  · exact src_enterPending_other s _ h
  · rfl

/-- Looking at the level sources leaves every other source alone. -/
theorem src_noteLevels_edge (s : State) {m : Nat} (h : m ∉ levelSources) : s.noteLevels.src m = s.src m := by
  have key : ∀ l : List Nat, m ∉ l → ∀ u : State, (l.foldl State.evcLevel u).src m = u.src m := by
    intro l
    induction l with
    | nil => exact fun _ _ => rfl
    | cons n l ih =>
      intro hm u
      rw [List.foldl_cons, ih (fun hl => hm (List.mem_cons_of_mem n hl)), src_evcLevel_other u (fun e => hm (List.mem_cons.mpr (.inl e)))]
  simp only [State.noteLevels]
  split
  · exact key levelSources h s
  · rfl

/-- A row that is taken completes with what holds of every state that is its effect but for events and has the edge sources of its
effect. -/
theorem gives_of_edges {c : Instr} {need : Need} {s : State} {f : State → State} {P : State → Prop} (hc : exec c s = row c need s f)
    (hready : c.wf = true ∧ s.has need = true)
    (h : ∀ t, Still { f s with pending := s.pending } t → (∀ n, n ∉ levelSources → t.src n = (f s).src n) → P t) : Gives c s P := by
  refine ⟨_, hc.trans (row_taken c need s f hready.1 hready.2), rfl, h _ ?_ fun n hn => ?_⟩
  · exact still_pending (still_trans (still_noteLevels _) (still_noteQuiet _)) _
  · exact (noteQuiet_src _ n).trans (src_noteLevels_edge _ hn)

/-- One event of an edge source is counted with its value (R411, R416). -/
theorem src_evcEdge (s : State) (n : Nat) (v : BitVec 32) :
    ((s.evcEdge n v).src n).value = v ∧ ((s.evcEdge n v).src n).count = satInc (s.src n).count 255 := by
  simp only [State.evcEdge]
  split
  · simp
  · simp

/-! ## What the collector keeps of a source -/

@[simp] theorem fsrc_modFsrc_same (s : State) (n : Nat) (f : FaultSource → FaultSource) : (s.modFsrc n f).fsrc n = f (s.fsrc n) :=
  agetD_acanon_same ..

theorem fsrc_modFsrc_other (s : State) {n m : Nat} (f : FaultSource → FaultSource) (h : m ≠ n) :
    (s.modFsrc n f).fsrc m = s.fsrc m := agetD_acanon_other _ _ _ _ h

theorem still_fsrc {s t : State} (h : Still s t) (n : Nat) : t.fsrc n = s.fsrc n := by
  rw [State.fsrc, still_flt h]
  rfl

/-- A timer that runs out finds the clock at its moment, or later. -/
theorem now_advanceTo (s : State) (m : Nat) : (s.advanceTo m).now = max s.now m := by
  simp only [State.advanceTo, State.advance]
  omega

/-! ## Arrival -/

/-- A report whose reactions do not name a warm reset is taken as it is. -/
theorem judge_eq {s : State} {r : Report} {d : Reactions} (hd : decideReactions (s.rv (.fltSrc r.source)) r.severity = d)
    (hwarm : d.warmRst = false) : s.judge r = (r, d) := by
  simp [State.judge, hd, hwarm]

/-- A report that finds room in the buffer. -/
def State.buffered (s : State) (r : Report) (d : Reactions) : State :=
  { s.stamped with flt := { s.flt with
      sources := acanon s.flt.sources r.source quietSource
        { s.fsrc r.source with lastReport := s.now, faulted := (s.fsrc r.source).faulted || decide (2 ≤ r.severity) },
      buffer := s.flt.buffer ++ [{ rep := r, pair := s.pair, react := d }],
      bufMax := max s.flt.bufMax (s.flt.buffer.length + 1) } }

/-- A report that finds the buffer full. -/
def State.turnedLost (s : State) (r : Report) (d : Reactions) : State :=
  (s.stamped.modFsrc r.source fun f => { f with lastReport := s.now, faulted := f.faulted || decide (2 ≤ r.severity) }).faultLost r d

theorem faultArrive_room {s : State} {r : Report} {d : Reactions} (hd : decideReactions (s.rv (.fltSrc r.source)) r.severity = d)
    (hwarm : d.warmRst = false) (hroom : s.flt.buffer.length < 64) : s.faultArrive r = (s.buffered r d, r, d) := by
  simp only [State.faultArrive, judge_eq hd hwarm]
  rw [if_pos (by exact hroom)]
  simp only [List.length_append, List.length_singleton]
  rfl

theorem faultArrive_full {s : State} {r : Report} {d : Reactions} (hd : decideReactions (s.rv (.fltSrc r.source)) r.severity = d)
    (hwarm : d.warmRst = false) (hfull : 64 ≤ s.flt.buffer.length) : s.faultArrive r = (s.turnedLost r d, r, d) := by
  simp only [State.faultArrive, judge_eq hd hwarm]
  rw [if_neg (by exact Nat.not_lt.mpr hfull)]
  rfl

theorem takeReport_quiet {s u : State} {r : Report} {d : Reactions} (h : s.faultArrive r = (u, r, d)) (hnmi : d.nmi = false)
    (hblock : d.blockRst = false) (hwarm : d.warmRst = false) : s.takeReport r = u := by
  simp [State.takeReport, h, hnmi, hblock, hwarm]

/-- NMI names the record number that the report will take, and wakes the device (R514, R571). -/
theorem takeReport_nmi {s u : State} {r : Report} {d : Reactions} (h : s.faultArrive r = (u, r, d)) (hnmi : d.nmi = true)
    (hblock : d.blockRst = false) (hwarm : d.warmRst = false) :
    s.takeReport r = (u.emit (.nmi (u.flt.next + BitVec.ofNat 32 (u.flt.buffer.length - 1)))).wakeEvent 5 := by
  simp [State.takeReport, h, hnmi, hblock, hwarm]

theorem only_buffered (s : State) (r : Report) (d : Reactions) : Only [.flt, .tim] s (s.buffered r d) := by
  simp [State.buffered, only_iff, State.sess]

theorem fsrc_buffered_same (s : State) (r : Report) (d : Reactions) : (s.buffered r d).fsrc r.source =
    { s.fsrc r.source with lastReport := s.now, faulted := (s.fsrc r.source).faulted || decide (2 ≤ r.severity) } :=
  agetD_acanon_same ..

theorem fsrc_buffered_other (s : State) (r : Report) (d : Reactions) {n : Nat} (h : n ≠ r.source) :
    (s.buffered r d).fsrc n = s.fsrc n := agetD_acanon_other _ _ _ _ h

theorem only_turnedLost (s : State) (r : Report) (d : Reactions) : Only [.flt, .tim] s (s.turnedLost r d) := by
  simp [State.turnedLost, State.faultLost, only_iff, State.sess]

theorem lost_faultLost (s : State) (r : Report) (d : Reactions) :
    ((s.faultLost r d).fsrc r.source).lost = satInc (s.fsrc r.source).lost 0xFFFF :=
  congrArg FaultSource.lost (agetD_acanon_same ..)

theorem fsrc_faultLost_other (s : State) (r : Report) (d : Reactions) {n : Nat} (h : n ≠ r.source) :
    (s.faultLost r d).fsrc n = s.fsrc n := agetD_acanon_other _ _ _ _ h

theorem lost_turnedLost (s : State) (r : Report) (d : Reactions) :
    ((s.turnedLost r d).fsrc r.source).lost = satInc (s.fsrc r.source).lost 0xFFFF := by
  rw [State.turnedLost, lost_faultLost, fsrc_modFsrc_same]
  rfl

theorem fsrc_turnedLost_other (s : State) (r : Report) (d : Reactions) {n : Nat} (h : n ≠ r.source) :
    (s.turnedLost r d).fsrc n = s.fsrc n := by
  rw [State.turnedLost, fsrc_faultLost_other _ r d h, fsrc_modFsrc_other _ _ h]
  rfl

/-- A lost report that asserts ERR_N holds it (R663). -/
theorem errnLost_turnedLost (s : State) (r : Report) (d : Reactions) : (s.turnedLost r d).flt.errnLost =
    if d.errN = true ∨ r.severity = 3 then s.flt.errnLost ++ [s.flt.next] else s.flt.errnLost := by
  simp [State.turnedLost, State.faultLost, assertsErr, State.modFsrc]

/-- A wake event that is no recovery changes the power controller alone (R514). -/
theorem wakeEvent_five (s : State) : ∃ p : Pwr, s.wakeEvent 5 = { s with pwr := p } := by
  simp only [State.wakeEvent]
  rw [if_neg (by decide)]
  split
  · split
    · exact ⟨_, rfl⟩
    · exact ⟨s.pwr, rfl⟩
  · exact ⟨s.pwr, rfl⟩
  · split
    · exact ⟨s.pwr, rfl⟩
    · exact ⟨_, rfl⟩

@[simp] theorem wakeEvent_pending (s : State) (k : Nat) : (s.wakeEvent k).pending = s.pending := by
  have hcut : s.cutActivation.pending = s.pending := rfl
  simp only [State.wakeEvent]
  split <;> split <;> (try split) <;> simp [hcut]

theorem only_wakeEvent_five (s : State) : Only [.pwr] s (s.wakeEvent 5) := by
  obtain ⟨p, hp⟩ := wakeEvent_five s
  rw [hp]
  simp [only_iff, State.sess]

theorem faultReport_some {s : State} {r : Report} (hok : reportOk r = true) : s.faultReport (some r) = s.takeReport r := by
  simp only [State.faultReport, hok, if_true]

/-- A report that finds room, with no reaction beyond the record: the first clause of FaultReports. -/
theorem faultReport_room_gives {s : State} {r : Report} {d : Reactions} (hready : Ready (.faultReport (some r)) s)
    (hok : reportOk r = true) (hd : decideReactions (s.rv (.fltSrc r.source)) r.severity = d) (hnmi : d.nmi = false)
    (hblock : d.blockRst = false) (hwarm : d.warmRst = false) (hroom : s.flt.buffer.length < 64) :
    Gives (.faultReport (some r)) s (Still (s.buffered r d)) := by
  refine gives_still (exec_faultReport (some r) s) hready rfl (still_of_eq ?_)
  rw [faultReport_some hok]
  exact takeReport_quiet (faultArrive_room hd hwarm hroom) hnmi hblock hwarm

/-- Settles O11: a report that is taken is stamped and buffered (`State.buffered`), or with a full buffer lost (`State.turnedLost`); NMI
adds its output and a wake event. -/
theorem faultReports : Obligations.FaultReports := by
  unfold Obligations.FaultReports
  refine ⟨?room, ?full, ?nmi, ?inbox⟩
  case room =>
    intro s r d hready hok hd hnmi hblock hwarm hroom
    refine gives_mono (faultReport_room_gives hready hok hd hnmi hblock hwarm hroom) fun t ht => ?_
    refine ⟨?_, ?_, fun n hn => ?_, only_still (only_buffered s r d) ht⟩
    · rw [still_flt ht]
      rfl
    · rw [still_fsrc ht]
      exact fsrc_buffered_same s r d
    · rw [still_fsrc ht]
      exact fsrc_buffered_other s r d hn
  case full =>
    intro s r d hready hok hd hnmi hblock hwarm hfull
    refine gives_effect (u := s.turnedLost r d) (exec_faultReport (some r) s) hready (still_of_eq ?_) rfl fun t ht => ?_
    · rw [faultReport_some hok]
      exact takeReport_quiet (faultArrive_full hd hwarm hfull) hnmi hblock hwarm
    · refine ⟨?_, ?_, ?_, fun n hn => ?_, ?_, only_still (only_turnedLost s r d) ht⟩
      · rw [still_flt ht]
        rfl
      · rw [still_flt ht]
        rfl
      · rw [still_fsrc ht]
        exact lost_turnedLost s r d
      · rw [still_fsrc ht]
        exact fsrc_turnedLost_other s r d hn
      · rw [still_flt ht]
        exact errnLost_turnedLost s r d
  case nmi =>
    intro s r d hready hok hd hnmi hblock hwarm hroom
    have heffect : s.faultReport (some r) = ((s.buffered r d).emit (.nmi (s.flt.next + BitVec.ofNat 32 s.flt.buffer.length))).wakeEvent 5 := by
      rw [faultReport_some hok, takeReport_nmi (faultArrive_room hd hwarm hroom) hnmi hblock hwarm]
      simp [State.buffered]
    refine gives_effect (exec_faultReport (some r) s) hready (still_of_eq heffect) (by rw [wakeEvent_pending]; rfl) fun t ht => ?_
    obtain ⟨p, hp⟩ := wakeEvent_five ((s.buffered r d).emit (.nmi (s.flt.next + BitVec.ofNat 32 s.flt.buffer.length)))
    rw [hp] at ht
    refine ⟨?_, ?_, only_still ?_ ht⟩
    · rw [still_flt ht]
      rfl
    · exact ht.2.2.subset (List.mem_append_right _ (List.mem_singleton_self _))
    · simp [State.buffered, only_iff, State.sess]
  case inbox =>
    intro s x r rest d hready hinbox hd hnmi hblock hwarm hroom
    have heffect : s.faultReport none = ({ s with flt := { s.flt with inbox := rest } } : State).buffered r d := by
      simp only [State.faultReport, hinbox]
      exact takeReport_quiet (faultArrive_room hd hwarm hroom) hnmi hblock hwarm
    refine gives_effect (exec_faultReport none s) hready (still_of_eq heffect) rfl fun t ht => ?_
    refine ⟨?_, only_still ?_ ht⟩
    · rw [still_flt ht]
      rfl
    · simp [State.buffered, only_iff, State.sess]

/-! ## Records -/

/-- Without TRIG_EN a record is written and that is all. -/
theorem putRecord_plain {s : State} {b : Stamped} (htrig : bit (s.rv (.fltSrc b.rep.source)) 26 = false) :
    s.putRecord b = { s with flt := { s.flt with
      sources := acanon s.flt.sources b.rep.source quietSource { s.fsrc b.rep.source with lostSince := 0 },
      slots := aput s.flt.slots (s.flt.next.toNat % 4096)
        { rep := b.rep, react := b.react, coalesced := 0, pair := b.pair, lost := (s.fsrc b.rep.source).lostSince,
          number := s.flt.next, poisoned := false },
      next := s.flt.next + 1 } } := by
  simp only [State.putRecord, State.modFsrc, State.rv] at htrig ⊢
  simp [htrig]

/-- The collector with other reports in its buffer. -/
def State.withBuffer (s : State) (rest : List Stamped) : State := { s with flt := { s.flt with buffer := rest } }

/-- The report taken off the buffer is judged as it was in it. -/
@[simp] theorem coalesces_withBuffer (s : State) (rest : List Stamped) (b : Stamped) :
    (s.withBuffer rest).coalesces b = s.coalesces b := rfl

@[simp] theorem unread_withBuffer (s : State) (rest : List Stamped) : (s.withBuffer rest).unread = s.unread := rfl

theorem recordOne_fold {s : State} {b : Stamped} {rest : List Stamped} {r : FaultRecord} (hbuffer : s.flt.buffer = b :: rest)
    (hcoal : s.coalesces b = some r) :
    s.recordOne = { s with flt := { s.flt with
      buffer := rest, slots := aput s.flt.slots (r.number.toNat % 4096)
        { r with coalesced := satInc r.coalesced 0xFFFF, react := foldReactions r.react b.react } } } := by
  have h : (s.withBuffer rest).coalesces b = some r := hcoal
  simp only [State.withBuffer] at h
  simp only [State.recordOne, hbuffer, h]

theorem recordOne_record {s : State} {b : Stamped} {rest : List Stamped} (hbuffer : s.flt.buffer = b :: rest)
    (hcoal : s.coalesces b = none) (hunread : s.unread ≠ 4096) : s.recordOne = (s.withBuffer rest).putRecord b := by
  have h : (s.withBuffer rest).coalesces b = none := hcoal
  have hu : (s.withBuffer rest).unread ≠ 4096 := hunread
  simp only [State.withBuffer] at h hu ⊢
  simp only [State.recordOne, hbuffer, h, if_neg hu]

theorem recordOne_overwrite {s : State} {b : Stamped} {rest : List Stamped} (hbuffer : s.flt.buffer = b :: rest)
    (hcoal : s.coalesces b = none) (hunread : s.unread = 4096) (hfatal : b.rep.severity = 3) :
    s.recordOne = ({ s with flt := { s.flt with
      buffer := rest, rd := s.flt.rd + 1, overwritten := satInc s.flt.overwritten 0xFFFF } } : State).putRecord b := by
  have h : (s.withBuffer rest).coalesces b = none := hcoal
  have hu : (s.withBuffer rest).unread = 4096 := hunread
  simp only [State.withBuffer] at h hu
  simp only [State.recordOne, hbuffer, h, if_pos hu, if_pos hfatal]

theorem recordOne_lost {s : State} {b : Stamped} {rest : List Stamped} (hbuffer : s.flt.buffer = b :: rest)
    (hcoal : s.coalesces b = none) (hunread : s.unread = 4096) (hfatal : b.rep.severity ≠ 3) :
    s.recordOne = (s.withBuffer rest).faultLost b.rep b.react := by
  have h : (s.withBuffer rest).coalesces b = none := hcoal
  have hu : (s.withBuffer rest).unread = 4096 := hunread
  simp only [State.withBuffer] at h hu ⊢
  simp only [State.recordOne, hbuffer, h, if_pos hu, if_neg hfatal]

/-- While HBM is available the row is the record and then the look at the sources 0 and 6. -/
theorem faultRecordWrite_gives {s u : State} (hready : Ready .faultRecordWrite s) (hup : s.hbmUp = true) (hrec : s.recordOne = u)
    (hqueue : u.pending = s.pending) : Gives .faultRecordWrite s (Still u) := by
  refine gives_still (exec_faultRecordWrite s) hready hqueue ?_
  simp only [State.faultRecordWrite, hup, if_true, hrec]
  exact still_trans (still_evcLevel _ _) (still_evcLevel _ _)

/-! ## Recovery -/

/-- A source that has recovered, its RECOVERY record in the buffer (R581). -/
def State.recovered (s : State) (n : Nat) : State :=
  { s.stamped with flt := { s.flt with
      sources := acanon s.flt.sources n quietSource
        { s.fsrc n with faulted := false, recoveries := satInc (s.fsrc n).recoveries 0xFFFF },
      buffer := s.flt.buffer ++
        [{ rep := { source := n, kind := 0, addr := 0, severity := 0 }, pair := s.pair, react := noReactions }],
      bufMax := max s.flt.bufMax (s.flt.buffer.length + 1) } }

theorem recover_room {s : State} {n : Nat} (hroom : s.flt.buffer.length < 64) :
    s.recover n = (s.recovered n).evcEdge 9 (BitVec.ofNat 32 n) := by
  simp only [State.recover]
  rw [if_pos (by exact hroom)]
  simp only [List.length_append, List.length_singleton]
  rfl

@[simp] theorem evcEdge_pending (s : State) (n : Nat) (v : BitVec 32) : (s.evcEdge n v).pending = s.pending :=
  still_queue (still_evcEdge s n v)

theorem fsrc_recovered_same (s : State) (n : Nat) : (s.recovered n).fsrc n =
    { s.fsrc n with faulted := false, recoveries := satInc (s.fsrc n).recoveries 0xFFFF } := agetD_acanon_same ..

theorem fsrc_recovered_other (s : State) {n k : Nat} (h : k ≠ n) : (s.recovered n).fsrc k = s.fsrc k :=
  agetD_acanon_other _ _ _ _ h

theorem only_recovered (s : State) (n : Nat) : Only [.tim, .flt] s (s.recovered n) := by
  simp [State.recovered, only_iff, State.sess]

/-- Settles O12: the first buffered report is folded, recorded, lost or takes the oldest one's place, FLT_RD has its own effect, and a source that
recovers leaves its record in the buffer (`State.recovered`) and raises source 9. -/
theorem faultRecords : Obligations.FaultRecords := by
  unfold Obligations.FaultRecords
  refine ⟨?record, ?fold, ?overwrite, ?lost, ?read, ?recovery, ?hold⟩
  case record =>
    intro s b rest hready hup hbuffer hcoal hunread htrig
    have hrec := (recordOne_record hbuffer hcoal (by omega)).trans (putRecord_plain (by exact htrig))
    refine gives_mono (faultRecordWrite_gives hready hup hrec rfl) fun t ht => ?_
    have hflt := still_flt ht
    refine ⟨?_, fun k hk => ?_, ?_, ?_, fun n hn => ?_, only_still ?_ ht⟩
    · rw [hflt]
      exact aget_aput_same ..
    · rw [hflt]
      exact aget_aput_other _ _ hk
    · rw [hflt]
      rfl
    · rw [still_fsrc ht]
      exact agetD_acanon_same ..
    · rw [still_fsrc ht]
      exact agetD_acanon_other _ _ _ _ hn
    · simp [State.withBuffer, only_iff, State.sess]
  case fold =>
    intro s b rest r hready hup hbuffer hcoal
    refine gives_mono (faultRecordWrite_gives hready hup (recordOne_fold hbuffer hcoal) rfl) fun t ht => ?_
    refine ⟨still_flt ht, only_still ?_ ht⟩
    simp [only_iff, State.sess]
  case overwrite =>
    intro s b rest hready hup hbuffer hcoal hunread hfatal htrig
    have hrec := (recordOne_overwrite hbuffer hcoal hunread hfatal).trans (putRecord_plain (by exact htrig))
    refine gives_mono (faultRecordWrite_gives hready hup hrec rfl) fun t ht => ?_
    have hflt := still_flt ht
    refine ⟨by rw [hflt], by rw [hflt], by rw [hflt], by rw [hflt], ?_, only_still ?_ ht⟩
    · rw [hflt, aget_aput_same]
      rfl
    · simp [only_iff, State.sess]
  case lost =>
    intro s b rest hready hup hbuffer hcoal hunread hfatal
    refine gives_mono (faultRecordWrite_gives hready hup (recordOne_lost hbuffer hcoal hunread hfatal) rfl) fun t ht => ?_
    have hflt := still_flt ht
    refine ⟨by rw [hflt]; rfl, by rw [hflt]; rfl, by rw [hflt]; rfl, by rw [hflt]; rfl, by rw [hflt]; rfl, ?_, only_still ?_ ht⟩
    · rw [still_fsrc ht]
      exact lost_faultLost _ b.rep b.react
    · simp [State.withBuffer, State.faultLost, only_iff, State.sess]
  case read =>
    intro s ag v hready hacc
    refine gives_wrote (exec_fltRdWrite ag v s) hready hacc rfl ?_
    exact still_trans (still_evcLevel _ _) (still_evcLevel _ _)
  case recovery =>
    intro s n hready hfaulted hheld hroom
    have heffect : s.faultRecovery n = (s.recovered n).evcEdge 9 (BitVec.ofNat 32 n) := by
      simp only [State.faultRecovery, hfaulted, hheld, ← recover_room hroom, Bool.not_true, Bool.false_eq_true, if_false]
    refine gives_of_edges (exec_faultRecovery n s) hready fun t ht hedges => ?_
    rw [heffect] at ht hedges
    have hsrc : t.src 9 = ((s.recovered n).evcEdge 9 (BitVec.ofNat 32 n)).src 9 := hedges 9 (by decide)
    obtain ⟨hvalue, hcount⟩ := src_evcEdge (s.recovered n) 9 (BitVec.ofNat 32 n)
    have hq : ({ (s.recovered n).evcEdge 9 (BitVec.ofNat 32 n) with pending := s.pending } : State) =
        (s.recovered n).evcEdge 9 (BitVec.ofNat 32 n) := by
      rw [← show ((s.recovered n).evcEdge 9 (BitVec.ofNat 32 n)).pending = s.pending from evcEdge_pending ..]
    rw [hq] at ht
    replace ht := still_trans (still_evcEdge _ _ _) ht
    refine ⟨?_, fun k hk => ?_, ?_, ?_, ?_, only_still (only_recovered s n) ht⟩
    · rw [still_fsrc ht]
      exact fsrc_recovered_same s n
    · rw [still_fsrc ht]
      exact fsrc_recovered_other s hk
    · rw [still_flt ht]
      rfl
    · rw [hsrc, hvalue]
    · rw [hsrc, hcount]
      rfl
  case hold =>
    intro s n hready hfaulted hheld hroom
    have hroom' : (s.advanceTo ((s.fsrc n).lastReport + 1000000 * fld (s.rv .fltCfg) 31 16)).flt.buffer.length < 64 := hroom
    refine gives_effect (u := (s.advanceTo ((s.fsrc n).lastReport + 1000000 * fld (s.rv .fltCfg) 31 16)).recovered n)
      (exec_faultRecovery n s) hready ?_ rfl fun t ht => ?_
    · simp only [State.faultRecovery, hfaulted, hheld, Bool.not_true, Bool.false_eq_true, if_false]
      rw [recover_room hroom']
      exact still_evcEdge _ _ _
    · refine ⟨?_, ?_, fun k hk => ?_, only_still ?_ ht⟩
      · rw [still_now ht]
        exact now_advanceTo s _
      · rw [still_fsrc ht]
        exact fsrc_recovered_same _ n
      · rw [still_fsrc ht]
        exact fsrc_recovered_other _ hk
      · simp [State.recovered, only_iff, State.sess]

end Sys2Proof.Machine
end

section
/-! SUPPORT. States on which clauses of the statements on sequencers and actuators fail: an eclipse save or an activation is under way, of
which the statements say that nothing changes, or a target is withdrawn. -/

namespace Sys2Proof.Machine

open Sys2Proof

theorem save_of_only {ps : List Part} {s t : State} (h : Only ps s t) (hp : Part.pwr ∉ ps) : t.pwr.save = s.pwr.save := by
  have hsave := congrArg Pwr.save (show { t.pwr with quietSince := s.pwr.quietSince } = s.pwr from h .pwr hp)
  exact hsave

theorem activation_of_only {ps : List Part} {s t : State} (h : Only ps s t) (hp : Part.eqt ∉ ps) :
    t.eqt.activation = s.eqt.activation := by
  have hactivation := congrArg Eqt.activation (h .eqt hp).1
  exact hactivation

/-- Sequencer q stands at a word in umbra, while the eclipse save still counts on stream 0, whose head is not active: SQP0 goes on with the
save after whatever the word does, and drops the stream (R21, R537). -/
def saving (q : Nat) (w : BitVec 128) (f : Seq → Seq) : State :=
  { witSeq q w f with pwr := { live.pwr with umbra := true, save := some { witSave with streams := [0] } } }

/-- A clause that lets nothing of the power controller change is not met where the model's save loses a stream. -/
theorem drops_stream_absurd {ps : List Part} {s t u : State} (hclaimed : Only ps s t) (hps : Part.pwr ∉ ps) (hmodel : Still u t)
    (hs : s.pwr.save.map (·.streams) = some [0]) (hu : u.pwr.save.map (·.streams) = some []) : False := by
  have hkept := save_of_only hclaimed hps
  have hdropped : t.pwr.save = u.pwr.save := still_pwr_field Pwr.save hmodel
  rw [← hkept, hdropped, hu] at hs
  exact absurd hs (by decide)

/-- Refutes O28: its clauses let nothing of the power controller change, and do not leave out umbra. In `saving`, the eclipse save goes on
after the NOP and a stream leaves it. -/
theorem not_sequencerOperations : ¬ Obligations.SequencerOperations := by
  rintro ⟨hnop, -⟩
  let s := saving 0 0 fun x => { x with state := .running }
  have hready : Ready (.nop 0 0) s := by decide
  obtain ⟨t, ⟨-, -, -, -, -, -, -, -, -, hclaimed⟩, hmodel⟩ :=
    gives_model (hnop s 0 0 hready (by decide) (by decide) (by decide) (by decide)) (exec_nop 0 0 s) hready
  exact drops_stream_absurd hclaimed (by decide) hmodel (by decide) (by decide)

/-- A word whose operation is STP to port 4, which Table 5.5 does not list. -/
def stpUnlisted : BitVec 128 := (9#128 <<< 44) ||| (4#128 <<< 20)

/-- Refutes O29: its clauses let nothing of the power controller change, and do not leave out umbra. In `saving`, the eclipse save goes on
after the STP that faults and a stream leaves it. -/
theorem not_sequencerPorts : ¬ Obligations.SequencerPorts := by
  rintro ⟨-, -, -, -, -, hstp, -⟩
  let s := saving 0 stpUnlisted fun x => { x with state := .running }
  have hready : Ready (.stp 0 0) s := by decide
  obtain ⟨t, ⟨-, -, -, hclaimed⟩, hmodel⟩ :=
    gives_model (hstp s 0 0 hready (by decide) (by decide) (by decide) (by decide) (by decide)) (exec_stp 0 0 s) hready
  exact drops_stream_absurd hclaimed (by decide) hmodel (by decide) (by decide)

/-- Refutes O30: its clauses let nothing of the power controller change, and do not leave out umbra. In `saving`, the eclipse save goes on
after the BRANCH and a stream leaves it. -/
theorem not_sequencerFlow : ¬ Obligations.SequencerFlow := by
  rintro ⟨hbranch, -⟩
  let s := saving 0 0 fun x => { x with state := .running, stage := .flow }
  have hready : Ready (.branch 0) s := by decide
  obtain ⟨t, ⟨-, -, -, -, -, -, -, -, -, -, hclaimed⟩, hmodel⟩ :=
    gives_model (hbranch s 0 hready (by decide) (by decide) (by decide) (by decide)) (exec_branch 0 s) hready
  exact drops_stream_absurd hclaimed (by decide) hmodel (by decide) (by decide)

/-- Refutes O31: its clauses on a wait let nothing of the power controller change, and do not leave out umbra. In `saving`, the eclipse save
goes on while the wait of the sequencer does, and a stream leaves the save. -/
theorem not_sequencerWaits : ¬ Obligations.SequencerWaits := by
  rintro ⟨-, -, -, hwait, -⟩
  let s := saving 0 0 fun x => { x with state := .waiting, stage := .wait }
  have hready : Ready (.waitEnd 0 .nothing) s := by decide
  obtain ⟨t, hclaimed, hmodel⟩ :=
    gives_model (hwait s 0 .nothing hready (by decide) (by decide) (by decide) (by decide) (by decide)) (exec_waitEnd 0 .nothing s) hready
  exact drops_stream_absurd (still_only hclaimed) (by decide) hmodel (by decide) (by decide)

/-- Sequencer 0 is at a word that has failed for good: no spare was left for it (R168). -/
def deadWord : State :=
  let s := witSeq 0 0 fun x => { x with state := .running }
  { s with seq := { s.seq with dead := [0] } }

/-- Refutes O32: its clause on a word that fails parity says that the word is reloaded and reported, and does not leave out a word that has
failed for good; in `deadWord` nothing is reported. -/
theorem not_sequencerRestarts : ¬ Obligations.SequencerRestarts := by
  rintro ⟨-, -, -, -, -, hreload, -⟩
  have hready : Ready (.controlStoreReload 0 true) deadWord := by decide
  obtain ⟨t, ⟨-, -, -, -, -, -, -, hclaimed, -⟩, hmodel⟩ :=
    gives_model (hreload deadWord 0 hready (by decide) (by decide) (by decide) (by decide) (by decide))
      (exec_controlStoreReload 0 true deadWord) hready
  rw [still_flt hmodel] at hclaimed
  exact absurd (congrArg List.length hclaimed) (by decide)

/-- A clause that lets nothing of the host interface but its events change is not met where the model marks an activation to be abandoned. -/
theorem cut_activation_absurd {ps : List Part} {s t u : State} (hclaimed : Only ps s t) (hps : Part.eqt ∉ ps) (hmodel : Still u t)
    (hs : s.eqt.activation.map (·.cut) = some false) (hu : u.eqt.activation.map (·.cut) = some true) : False := by
  have hkept := activation_of_only hclaimed hps
  have hcut : t.eqt.activation = u.eqt.activation := still_eqt_field Eqt.activation hmodel
  rw [← hkept, hcut, hu] at hs
  exact absurd hs (by decide)

/-- Refutes O26: its clause on a second seek timeout lets nothing of the host interface change. The recovery from a fault ranks above an
activation (R20), so that the model marks one that has not reached step 3 to be abandoned. -/
theorem not_servoSeeks : ¬ Obligations.ServoSeeks := by
  rintro ⟨-, -, -, -, htimeout⟩
  let s := activating.modAct 0 fun x => { x with state := .seeking, goTime := 1, timeouts := 1 }
  have hready : Ready (.seekTimeout 0) s := by decide
  obtain ⟨t, ⟨-, -, -, -, -, -, hclaimed⟩, hmodel⟩ :=
    gives_model (htimeout s 0 hready (by decide) (by decide) (by decide)) (exec_seekTimeout 0 s) hready
  exact cut_activation_absurd hclaimed (by decide) hmodel (by decide) (by decide)

/-- Refutes O27: its clause on a load that fails lets nothing of the host interface change. The recovery from a fault ranks above an
activation (R20), so that the model marks one that has not reached step 3 to be abandoned. -/
theorem not_servoLoadAndUnload : ¬ Obligations.ServoLoadAndUnload := by
  rintro ⟨-, -, -, -, -, hload, -⟩
  let s := activating.modAct 0 fun x => { x with state := .loading }
  have hready : Ready (.loadFail 0) s := by decide
  obtain ⟨t, ⟨-, -, -, -, -, -, hclaimed⟩, hmodel⟩ :=
    gives_model (hload s 0 hready (by decide)) (exec_loadFail 0 s) hready
  exact cut_activation_absurd hclaimed (by decide) hmodel (by decide) (by decide)

/-- A target that is withdrawn, with TRACK 0, is within every limit of R218. -/
theorem targetRefused_zero (s : State) (st : Nat) : s.targetRefused st 0 = false := by
  have hvalid : bit (0#32) 31 = false := rfl
  have htrack : fld (0#32) 23 0 = 0 := rfl
  simp [State.targetRefused, hvalid, htrack, Rat.natCast_nonneg, Rat.not_lt]

/-- Refutes O25: its clause on a write of a target does not leave out one that clears VALID while the head is active. The model then sends
the head's command 0 over the link (R201); in `witFollowing` that frame is the difference. -/
theorem not_servoSettings : ¬ Obligations.ServoSettings := by
  rintro ⟨-, -, -, htarget, -⟩
  have hready : Ready (.sceTgtWrite (.core 0) 4 0) witFollowing := by decide
  have haccepts : Accepts witFollowing (.sceTgt 4) 0 :=
    ⟨by decide, by decide, by decide, by decide, targetRefused_zero _ _, by decide⟩
  obtain ⟨t, hclaimed, hmodel⟩ :=
    gives_model (htarget witFollowing (.core 0) 4 0 hready haccepts) (exec_sceTgtWrite (.core 0) 4 0 witFollowing) hready
  have hwrp : t.wrp.links.length = 0 := congrArg (fun w => w.links.length) (still_wrp hclaimed)
  rw [regRow_of_accepts haccepts] at hmodel
  rw [still_wrp hmodel] at hwrp
  revert hwrp
  decide

end Sys2Proof.Machine
end

section
/-! SUPPORT. Diagnostic access to HBM and SRAM (R472): what a diagnostic write stores and what a diagnostic read reports. -/

namespace Sys2Proof.Machine

open Sys2Proof

/-! ## What an accepted write leaves of its effect -/

/-- What neither a digest that is due nor the status of the management port can change. -/
theorem wrote_keeps {α : Type} (f : State → α) (s u : State) (ag : Agent) (r : Reg)
    (hconj : ∀ u : State, f u.conjStart = f u := by exact fun _ => rfl)
    (hpin : ∀ (u : State) (p : Pin), f { u with pin := p } = f u := by exact fun _ _ => rfl) : f (s.wrote u ag r) = f u := by
  simp only [State.wrote]
  split <;> split <;> simp only [hconj, hpin]

/-- A register that is no conjunct starts no computation of the digest. -/
theorem only_wrote_plain (s u : State) (ag : Agent) {r : Reg} (h : regConjunct r = false) : Only [.pin] u (s.wrote u ag r) := by
  have hplain : conjChanged s u r = false := by simp [conjChanged, h]
  simp only [State.wrote, hplain]
  split <;> simp [only_iff, State.sess]

/-- What an accepted write of a register that is no conjunct changes. -/
theorem only_of_wrote {ps : List Part} {s u t : State} {ag : Agent} {r : Reg} (hu : Only ps s u) (hr : regConjunct r = false)
    (hpin : Part.pin ∈ ps) (ht : Still (s.wrote u ag r) t) : Only ps s t :=
  only_still (only_trans hu (only_mono (only_wrote_plain s u ag hr) (by simpa using hpin))) ht

/-! ## The diagnostic units -/

/-- What a diagnostic half holds depends on HBM alone. -/
theorem diagHalf_congr {s t : State} (h : t.hbm = s.hbm) (j : Nat) : t.diagHalf j = s.diagHalf j := by
  cases s
  cases t
  cases h
  rfl

/-- The state with what a half holds replaced. -/
def State.putHalf (s : State) (key : Nat) (x : DiagHalf) : State :=
  { s with hbm := { s.hbm with diag := aput s.hbm.diag key x } }

theorem diagHalf_putHalf_same (s : State) (key : Nat) (x : DiagHalf) : (s.putHalf key x).diagHalf key = x :=
  agetD_aput_same ..

theorem diagHalf_putHalf_other (s : State) {key j : Nat} (x : DiagHalf) (h : j ≠ key) :
    (s.putHalf key x).diagHalf j = s.diagHalf j :=
  agetD_aput_other _ _ _ h

/-- The key of a half is below the 4 MiB of the diagnostic units. -/
theorem diagKey_lt (v : Word) (b : Bool) : diagKey v (b2n b) < 131072 := by
  have hstack : fld v 25 24 < 4 := Nat.mod_lt _ (by decide)
  have hgran : fld v 13 0 < 16384 := Nat.mod_lt _ (by decide)
  have hhalf : b2n b ≤ 1 := by cases b <;> decide
  unfold diagKey
  omega

theorem diagKeyAt_half {key i : Nat} (hkey : key < 131072) (hi : i < 32) : diagKeyAt (0x17FFC00000 + 32 * key + i) = some key := by
  rw [diagKeyAt, if_pos (by omega)]
  congr 1
  omega

/-- A half with its own check bytes reads as its data. -/
theorem hbmRaw_half {s : State} {key i : Nat} {d : BitVec 256} (hkey : key < 131072) (hi : i < 32)
    (hhalf : s.diagHalf key = { data := d, check := Config.hbmCheck d }) :
    s.hbmRaw (0x17FFC00000 + 32 * key + i) = byteOf d i := by
  have hmod : (0x17FFC00000 + 32 * key + i) % 32 = i := by omega
  have hdata : halfData { data := d, check := Config.hbmCheck d } = d := by simp [halfData]
  simp only [State.hbmRaw, diagKeyAt_half hkey hi, hhalf, hdata, hmod]

/-! ## HBM_DIAG.WRITE -/

/-- What HBM_DIAG.WRITE leaves of a half. -/
def State.newHalf (s : State) (v : Word) (old : DiagHalf) : DiagHalf :=
  let rep : BitVec 256 := (List.range 8).foldl (fun m i => m ||| (((s.rv .hbmDiagVal).setWidth 256) <<< (32 * i))) 0
  match fld v 29 28 with
  | 0 => { data := rep, check := Config.hbmCheck rep }
  | 1 => { old with data := rep }
  | _ => { old with check := s.rv .hbmDiagVal }

theorem regAct_hbmDiag_write {s : State} {ag : Agent} {v : Word} (hwrite : bit v 31 = true) :
    s.regAct ag .hbmDiag v = (s.setRv .hbmDiag v).putHalf (diagKey v (b2n (bit v 14)))
      (s.newHalf v (s.diagHalf (diagKey v (b2n (bit v 14))))) := by
  have hval : (s.setRv .hbmDiag v).rv .hbmDiagVal = s.rv .hbmDiagVal := rv_setRv_other s v (by decide)
  have hold : (s.setRv .hbmDiag v).diagHalf (diagKey v (b2n (bit v 14))) = s.diagHalf (diagKey v (b2n (bit v 14))) :=
    diagHalf_congr rfl _
  simp only [State.regAct, State.hbmDiag, State.hbmDiagWrite, hwrite, if_true, hval, hold]
  rfl

/-- A diagnostic write of HBM stores its half, whatever it makes of it, and nothing else. -/
theorem hbmDiagWrite_gives {s : State} {ag : Agent} {v : Word} {x : DiagHalf} (hready : Ready (.hbmDiagWrite ag v) s)
    (hacc : Accepts s .hbmDiag v) (hwrite : bit v 31 = true)
    (hx : s.newHalf v (s.diagHalf (diagKey v (b2n (bit v 14)))) = x) :
    Gives (.hbmDiagWrite ag v) s fun t =>
      t.diagHalf (diagKey v (b2n (bit v 14))) = x ∧ (∀ j, j ≠ diagKey v (b2n (bit v 14)) → t.diagHalf j = s.diagHalf j) ∧
      t.rv .hbmDiag = v &&& regRw .hbmDiag ∧ { t.hbm with diag := s.hbm.diag } = s.hbm ∧ Only [.regs, .hbm, .pin] s t := by
  refine gives_mono (gives_wrote (u := (s.setRv .hbmDiag v).putHalf (diagKey v (b2n (bit v 14))) x)
    (exec_hbmDiagWrite ag v s) hready hacc rfl (still_of_eq (hx ▸ regAct_hbmDiag_write hwrite))) fun t ht => ?_
  have hhbm := (still_hbm ht).trans (wrote_keeps State.hbm s _ ag .hbmDiag)
  refine ⟨?same, ?other, ?rv, ?rest, ?only⟩
  case same => exact (diagHalf_congr hhbm _).trans (diagHalf_putHalf_same ..)
  case other => exact fun j hj => (diagHalf_congr hhbm j).trans (diagHalf_putHalf_other _ _ hj)
  case rv =>
    rw [State.rv, still_regs ht]
    exact (wrote_rv ..).trans (rv_setRv_same ..)
  case rest => rw [hhbm]; rfl
  case only => exact only_of_wrote (by simp [State.putHalf, only_iff, State.sess]) rfl (by decide) ht

/-! ## HBM_DIAG.READ -/

/-- The outcome of a granule depends on HBM alone. -/
theorem granOutcome_congr {s t : State} (h : t.hbm = s.hbm) (g : Nat) : t.granOutcome g = s.granOutcome g := by
  cases s
  cases t
  cases h
  rfl

/-- HBM after a diagnostic read with an outcome. -/
def State.hbmRead (s : State) (k r : Nat) : Hbm :=
  { s.hbm with
    diagResult := r, corr := if r = 1 then (s.hbmCorr k).hbm.corr else s.hbm.corr,
    uncorr := if r = 2 then acanon s.hbm.uncorr k 0 (satInc (agetD s.hbm.uncorr k 0) 255) else s.hbm.uncorr }

/-- The state after a diagnostic read of HBM: a corrected granule is counted, an uncorrectable one counted and reported. -/
def State.halfShown (s : State) (v : Word) : State :=
  let a := 0x17FFC00000 + 0x100000 * fld v 25 24 + 64 * fld v 13 0
  let r := s.granOutcome (a / 64)
  { s with
    hbm := s.hbmRead (fld v 25 24) r,
    flt := { s.flt with
      inbox := if r = 2 then joinReports s.now { source := 224 + fld v 25 24, kind := 1, addr := a, severity := 1 } s.flt.inbox
        else s.flt.inbox } }

theorem hbmDiagRead_eq (s : State) (v : Word) : s.hbmDiagRead v = s.halfShown v := by
  simp only [State.hbmDiagRead, State.halfShown, State.hbmRead]
  split
  next h => simp only [h]; rfl
  split
  next h => simp only [h]; rfl
  next => rfl

theorem regAct_hbmDiag_read {s : State} {ag : Agent} {v : Word} (hwrite : bit v 31 = false) (hread : bit v 30 = true) :
    s.regAct ag .hbmDiag v = (s.setRv .hbmDiag v).hbmDiagRead v := by
  simp [State.regAct, State.hbmDiag, hwrite, hread]

/-! ## SRM_DIAG -/

/-- The state with what a diagnostic byte holds replaced. -/
def State.putDiagByte (s : State) (o : Nat) (x : DiagByte) : State :=
  { s with srm := { s.srm with diag := aput s.srm.diag o x } }

theorem diagByte_putDiagByte_same (s : State) (o : Nat) (x : DiagByte) : (s.putDiagByte o x).diagByte o = x :=
  agetD_aput_same ..

theorem diagByte_putDiagByte_other (s : State) {o j : Nat} (x : DiagByte) (h : j ≠ o) :
    (s.putDiagByte o x).diagByte j = s.diagByte j :=
  agetD_aput_other _ _ _ h

/-- What SRM_DIAG.WRITE leaves of a byte. -/
def newByte (v : Word) (old : DiagByte) : DiagByte :=
  match fld v 29 28 with
  | 0 => { data := BitVec.ofNat 8 (fld v 20 13), check := Config.srmCheck (BitVec.ofNat 8 (fld v 20 13)) }
  | 1 => { old with data := BitVec.ofNat 8 (fld v 20 13) }
  | _ => { old with check := BitVec.ofNat 5 (fld v 25 21) }

theorem regAct_srmDiag_write {s : State} {ag : Agent} {v : Word} (hwrite : bit v 31 = true) :
    s.regAct ag .srmDiag v = (s.setRv .srmDiag v).putDiagByte (fld v 12 0) (newByte v (s.diagByte (fld v 12 0))) := by
  simp only [State.regAct, State.srmDiag, State.srmDiagWrite, hwrite, if_true]
  rfl

/-- A diagnostic write of SRAM stores its byte, whatever it makes of it, and nothing else. -/
theorem srmDiagWrite_gives {s : State} {ag : Agent} {v : Word} {x : DiagByte} (hready : Ready (.srmDiagWrite ag v) s)
    (hacc : Accepts s .srmDiag v) (hwrite : bit v 31 = true) (hx : newByte v (s.diagByte (fld v 12 0)) = x) :
    Gives (.srmDiagWrite ag v) s fun t =>
      t.diagByte (fld v 12 0) = x ∧ (∀ j, j ≠ fld v 12 0 → t.diagByte j = s.diagByte j) ∧
      t.rv .srmDiag = v &&& regRw .srmDiag ∧ { t.srm with diag := s.srm.diag } = s.srm ∧ Only [.regs, .srm, .pin] s t := by
  refine gives_mono (gives_wrote (u := (s.setRv .srmDiag v).putDiagByte (fld v 12 0) x)
    (exec_srmDiagWrite ag v s) hready hacc rfl (still_of_eq (hx ▸ regAct_srmDiag_write hwrite))) fun t ht => ?_
  have hsrm := (still_srm ht).trans (wrote_keeps State.srm s _ ag .srmDiag)
  have hbyte (j : Nat) : t.diagByte j = ((s.setRv .srmDiag v).putDiagByte (fld v 12 0) x).diagByte j := by
    rw [State.diagByte, State.diagByte, hsrm]
  refine ⟨?same, ?other, ?rv, ?rest, ?only⟩
  case same => exact (hbyte _).trans (diagByte_putDiagByte_same ..)
  case other => exact fun j hj => (hbyte j).trans (diagByte_putDiagByte_other _ _ hj)
  case rv =>
    rw [State.rv, still_regs ht]
    exact (wrote_rv ..).trans (rv_setRv_same ..)
  case rest => rw [hsrm]; rfl
  case only => exact only_of_wrote (by simp [State.putDiagByte, only_iff, State.sess]) rfl (by decide) ht

theorem regAct_srmDiag_read {s : State} {ag : Agent} {v : Word} (hwrite : bit v 31 = false) (hread : bit v 30 = true) :
    s.regAct ag .srmDiag v = (s.setRv .srmDiag v).srmDiagRead v := by
  simp [State.regAct, State.srmDiag, hwrite, hread]

/-- What SRM_DIAG shows once a byte has been read (Table 13.12). -/
def shownByte (v : Word) (d : DiagByte) : Word :=
  word [(fld v 29 28, 28), (d.check.toNat, 21), (d.data.toNat, 13), (fld v 12 0, 0)]

/-- The state after a diagnostic read of SRAM: the byte is shown, a corrected one counted, an uncorrectable one counted and reported. -/
def State.byteShown (s : State) (v : Word) : State :=
  let d := s.diagByte (fld v 12 0)
  let r := byteOutcome d
  ({ s with
    srm := { s.srm with
      diagResult := r, corr := if r = 1 then satInc s.srm.corr 0xFFFF else s.srm.corr,
      uncorr := if r = 2 then satInc s.srm.uncorr 255 else s.srm.uncorr },
    flt := { s.flt with
      inbox := if r = 2 then joinReports s.now {
          source := 228, kind := 1, addr := (sramBase + 0x3FFE000 + fld v 12 0) % 2 ^ 40, severity := 1 } s.flt.inbox
        else s.flt.inbox } } : State).setRv .srmDiag (shownByte v d)

theorem srmDiagRead_eq (s : State) (v : Word) : s.srmDiagRead v = s.byteShown v := by
  simp only [State.srmDiagRead, State.byteShown, shownByte]
  split
  next h => simp only [h]; rfl
  split
  next h => simp only [h]; rfl
  next => rfl

theorem byteShown_shape (s : State) (v : Word) :
    ∃ (a : Assoc Word) (b : Srm) (c : Flt), s.byteShown v = { s with regs := a, srm := b, flt := c } :=
  ⟨_, _, _, rfl⟩

theorem byteShown_pending (s : State) (v : Word) : (s.byteShown v).pending = s.pending := by
  obtain ⟨a, b, c, h⟩ := byteShown_shape s v
  rw [h]

theorem rv_byteShown (s : State) (v : Word) : (s.byteShown v).rv .srmDiag = shownByte v (s.diagByte (fld v 12 0)) &&& regRw .srmDiag := by
  simp only [State.byteShown, rv_setRv_same]

theorem only_byteShown (s : State) (v : Word) : Only [.regs, .srm, .flt] s (s.byteShown v) := by
  obtain ⟨a, b, c, h⟩ := byteShown_shape s v
  rw [h]
  simp [only_iff, State.sess]

/-- The fields of SRM_DIAG as a read shows them. -/
theorem fld_shownByte (v : Word) (d : DiagByte) :
    fld (shownByte v d &&& regRw .srmDiag) 20 13 = d.data.toNat ∧ fld (shownByte v d &&& regRw .srmDiag) 25 21 = d.check.toNat ∧
      fld (shownByte v d &&& regRw .srmDiag) 12 0 = fld v 12 0 := by
  have hmode : fld v 29 28 < 4 := Nat.mod_lt _ (by decide)
  have hofs : fld v 12 0 < 8192 := Nat.mod_lt _ (by decide)
  have hcheck := d.check.isLt
  have hdata := d.data.isLt
  have hnat : (shownByte v d).toNat = fld v 29 28 * 2 ^ 28 + d.check.toNat * 2 ^ 21 + d.data.toNat * 2 ^ 13 + fld v 12 0 := by
    simp only [shownByte, word, List.foldl_cons, List.foldl_nil, BitVec.toNat_ofNat]
    omega
  rw [fld_and _ (by decide), fld_and _ (by decide), fld_and _ (by decide), fld, fld, fld, hnat]
  omega

/-- Settles O54: a diagnostic write stores what `newHalf` or `newByte` makes of the half or byte it names, and a diagnostic read is
`hbmDiagRead_eq` or `srmDiagRead_eq`. -/
theorem memoryDiagnostics : Obligations.MemoryDiagnostics := by
  unfold Obligations.MemoryDiagnostics
  refine ⟨?hbmBoth, ?hbmData, ?hbmCheck, ?hbmRead, ?srmBoth, ?srmData, ?srmCheck, ?srmRead⟩
  case hbmBoth =>
    intro s ag v hready hacc hwrite hmode
    refine gives_mono (hbmDiagWrite_gives hready hacc hwrite (by simp only [State.newHalf, hmode]; rfl)) fun t ht => ?_
    obtain ⟨hsame, hother, hrv, hrest, honly⟩ := ht
    exact ⟨hsame, hother, fun i hi => hbmRaw_half (diagKey_lt v _) hi hsame, hrv, hrest, honly⟩
  case hbmData =>
    intro s ag v hready hacc hwrite hmode
    exact hbmDiagWrite_gives hready hacc hwrite (by simp only [State.newHalf, hmode])
  case hbmCheck =>
    intro s ag v hready hacc hwrite hmode
    exact hbmDiagWrite_gives hready hacc hwrite (by simp only [State.newHalf, hmode])
  case hbmRead =>
    intro s ag v hready hacc hwrite hread
    refine gives_mono (gives_wrote (u := (s.setRv .hbmDiag v).halfShown v) (exec_hbmDiagRead ag v s) hready hacc rfl
      (still_of_eq ((regAct_hbmDiag_read hwrite hread).trans (hbmDiagRead_eq _ v)))) fun t ht => ?_
    have hshown : ((s.setRv .hbmDiag v).halfShown v) = { s.halfShown v with regs := (s.setRv .hbmDiag v).regs } := by
      simp only [State.halfShown, granOutcome_congr (s := s) (t := s.setRv .hbmDiag v) rfl]
      rfl
    rw [hshown] at ht
    refine ⟨?hbm, ?inbox, ?rv, ?only⟩
    case hbm => exact (still_hbm ht).trans (wrote_keeps State.hbm s _ ag .hbmDiag)
    case inbox => exact congrArg Flt.inbox ((still_flt ht).trans (wrote_keeps State.flt s _ ag .hbmDiag))
    case rv =>
      rw [State.rv, still_regs ht]
      exact (wrote_rv ..).trans (rv_setRv_same ..)
    case only => exact only_of_wrote (by simp [State.halfShown, only_iff, State.sess]) rfl (by decide) ht
  case srmBoth =>
    intro s ag v hready hacc hwrite hmode
    exact srmDiagWrite_gives hready hacc hwrite (by simp only [newByte, hmode])
  case srmData =>
    intro s ag v hready hacc hwrite hmode
    exact srmDiagWrite_gives hready hacc hwrite (by simp only [newByte, hmode])
  case srmCheck =>
    intro s ag v hready hacc hwrite hmode
    exact srmDiagWrite_gives hready hacc hwrite (by simp only [newByte, hmode])
  case srmRead =>
    intro s ag v hready hacc hwrite hread
    refine gives_mono (gives_wrote (u := (s.setRv .srmDiag v).byteShown v) (exec_srmDiagRead ag v s) hready hacc (byteShown_pending ..)
      (still_of_eq ((regAct_srmDiag_read hwrite hread).trans (srmDiagRead_eq _ v)))) fun t ht => ?_
    have hrv : t.rv .srmDiag = shownByte v (s.diagByte (fld v 12 0)) &&& regRw .srmDiag := by
      rw [State.rv, still_regs ht]
      exact (wrote_rv ..).trans (rv_byteShown _ v)
    obtain ⟨hdata, hcheck, hofs⟩ := fld_shownByte v (s.diagByte (fld v 12 0))
    refine ⟨?srm, ?inbox, hrv ▸ hdata, hrv ▸ hcheck, hrv ▸ hofs, ?only⟩
    case srm => exact (still_srm ht).trans (wrote_keeps State.srm s _ ag .srmDiag)
    case inbox => exact congrArg Flt.inbox ((still_flt ht).trans (wrote_keeps State.flt s _ ag .srmDiag))
    case only => exact only_of_wrote (only_trans (by simp [only_iff, State.sess]) (only_mono (only_byteShown _ v) (by decide))) rfl (by decide) ht

end Sys2Proof.Machine
end

section
/-! SUPPORT. Which parts of the state the operations of the media path, of the sequencers and of the sessions can change. -/

namespace Sys2Proof.Machine

open Sys2Proof

-- One declaration at a time: proofs elaborated side by side hold a stack each, and the check bounds their sum.
set_option Elab.async false

/-! ## Composing changes -/

/-- A further change whose parts are listed already. -/
theorem only_step {ps qs : List Part} {a b c : State} (h : Only ps a b) (k : Only qs b c) (hs : ∀ p ∈ qs, p ∈ ps := by decide) :
    Only ps a c := only_trans h (only_mono k hs)

theorem only_of_still {ps : List Part} {s t : State} (h : Still s t) : Only ps s t :=
  only_mono (still_only h) fun _ hp => nomatch hp

theorem only_foldl {ps : List Part} {β : Type} {f : State → β → State} (h : ∀ s b, Only ps s (f s b)) (l : List β) (s : State) :
    Only ps s (l.foldl f s) := by
  induction l generalizing s with
  | nil => exact only_refl ps s
  | cons b l ih => exact only_trans (h s b) (ih _)

theorem only_ite {ps : List Part} {p : Prop} [Decidable p] {s t u : State} (h : p → Only ps s t) (k : ¬p → Only ps s u) :
    Only ps s (if p then t else u) := by
  split
  · exact h ‹_›
  · exact k ‹_›

/-- What the answer of a row differs in from the state before, where the row's effect is known. -/
theorem only_answer {ps : List Part} {s u t : State} {p : List Instr} (h : Only ps s u) (ht : Still { u with pending := p } t) :
    Only ps s t := by
  have hqueue : Only ps u { u with pending := p } := by simp [only_iff, State.sess]
  exact only_still (only_trans h hqueue) ht

theorem pwr_of_only {α : Type} {ps : List Part} {s t : State} (f : Pwr → α) (h : Only ps s t) (hp : Part.pwr ∉ ps)
    (hf : ∀ (x : Pwr) (n : Option Nat), f { x with quietSince := n } = f x := by exact fun _ _ => rfl) : f t.pwr = f s.pwr := by
  have hsame : ({ t.pwr with quietSince := s.pwr.quietSince } : Pwr) = s.pwr := h .pwr hp
  exact (hf t.pwr s.pwr.quietSince).symm.trans (congrArg f hsame)

theorem tim_of_only {α : Type} {ps : List Part} {s t : State} (f : Tim → α) (h : Only ps s t) (hp : Part.tim ∉ ps)
    (hf : ∀ (x : Tim) (n : BitVec 32), f { x with seq := n } = f x := by exact fun _ _ => rfl) : f t.tim = f s.tim := by
  have hsame : ({ t.tim with seq := s.tim.seq } : Tim) = s.tim := h .tim hp
  exact (hf t.tim s.tim.seq).symm.trans (congrArg f hsame)

theorem eqt_of_only {α : Type} {ps : List Part} {s t : State} (f : Eqt → α) (h : Only ps s t) (hp : Part.eqt ∉ ps)
    (hf : ∀ (x : Eqt) (y : Assoc Session) (z : List (Route × Pkt)), f { x with sessions := y, held := z } = f x := by
      exact fun _ _ _ => rfl) : f t.eqt = f s.eqt := by
  have hsame : ({ t.eqt with sessions := s.eqt.sessions, held := s.eqt.held } : Eqt) = s.eqt := (h .eqt hp).1
  exact (hf t.eqt s.eqt.sessions s.eqt.held).symm.trans (congrArg f hsame)

/-! ## One part replaced -/

section One
variable (s : State)

theorem only_setFlt (x : Flt) : Only [.flt] s { s with flt := x } := by simp [only_iff, State.sess]
theorem only_setEqt (x : Eqt) : Only [.eqt] s { s with eqt := x } := by simp [only_iff]
theorem only_setPlc (x : Plc) : Only [.plc] s { s with plc := x } := by simp [only_iff, State.sess]
theorem only_setOrb (x : Orb) : Only [.orb] s { s with orb := x } := by simp [only_iff, State.sess]
theorem only_setSce (x : Sce) : Only [.sce] s { s with sce := x } := by simp [only_iff, State.sess]
theorem only_setSpn (x : Spn) : Only [.spn] s { s with spn := x } := by simp [only_iff, State.sess]
theorem only_setChn (x : Chn) : Only [.chn] s { s with chn := x } := by simp [only_iff, State.sess]
theorem only_setWrp (x : Wrp) : Only [.wrp] s { s with wrp := x } := by simp [only_iff, State.sess]
theorem only_setSeq (x : Seqs) : Only [.seq] s { s with seq := x } := by simp [only_iff, State.sess]
theorem only_setPwr (x : Pwr) : Only [.pwr] s { s with pwr := x } := by simp [only_iff, State.sess]
theorem only_setRegs (x : Assoc Word) : Only [.regs] s { s with regs := x } := by simp [only_iff, State.sess]
theorem only_setHbm (x : Hbm) : Only [.hbm] s { s with hbm := x } := by simp [only_iff, State.sess]
theorem only_setTim (x : Tim) : Only [.tim] s { s with tim := x } := by simp [only_iff, State.sess]
theorem only_emit (o : Out) : Only [] s (s.emit o) := only_of_still (still_emit s o)
theorem only_advanceTo (m : Nat) : Only [.clock, .tim] s (s.advanceTo m) := by
  simp [State.advanceTo, State.advance, only_iff, State.sess]
theorem only_setRv (r : Reg) (v : Word) : Only [.regs] s (s.setRv r v) := only_setRegs s _
theorem only_report (n k a sev : Nat) : Only [.flt] s (s.report n k a sev) := only_setFlt s _
theorem only_modSeq (q : Nat) (f : Seq → Seq) : Only [.seq] s (s.modSeq q f) := only_setSeq s _
theorem only_modStream (i : Nat) (f : Stream → Stream) : Only [.chn] s (s.modStream i f) := only_setChn s _
theorem only_modHead (h : Nat) (f : LinkHead → LinkHead) : Only [.wrp] s (s.modHead h f) := only_setWrp s _
theorem only_modLink (a : Nat) (f : Link → Link) : Only [.wrp] s (s.modLink a f) := only_setWrp s _
theorem only_modLoop (i : Nat) (f : HeadLoop → HeadLoop) : Only [.sce] s (s.modLoop i f) := only_setSce s _
theorem only_modSlot (n : Nat) (f : Slot → Slot) : Only [.sce] s (s.modSlot n f) := only_setSce s _
theorem only_modAct (a : Nat) (f : Act → Act) : Only [.sce] s (s.modAct a f) := only_setSce s _
theorem only_modSpn (f : Spn → Spn) : Only [.spn] s (s.modSpn f) := only_setSpn s _
theorem only_modSave (f : Save → Save) : Only [.pwr] s (s.modSave f) := only_setPwr s _
theorem only_evcLevel (n : Nat) : Only [] s (s.evcLevel n) := only_of_still (still_evcLevel s n)
theorem only_evcEdge (n : Nat) (v : BitVec 32) : Only [] s (s.evcEdge n v) := only_of_still (still_evcEdge s n v)
theorem only_stamped : Only [] s s.stamped := only_of_still (still_stamped s)

/-! ## Causes and frames -/

theorem only_cause (q c : Nat) : Only [.seq] s (s.cause q c) :=
  only_ite (fun _ => only_refl _ s) fun _ => only_modSeq s _ _

theorem only_causeStream (st c : Nat) : Only [.seq] s (s.causeStream st c) := by
  simp only [State.causeStream]
  split
  · exact only_refl _ s
  · exact only_cause s _ _

theorem only_linkPumpN (a n : Nat) : Only [.wrp] s (s.linkPumpN a n) := by
  induction n generalizing s with
  | zero => exact only_refl _ s
  | succ n ih =>
    simp only [State.linkPumpN]
    split
    · exact only_refl _ s
    · split
      · exact only_refl _ s
      · exact only_trans (only_step (only_modLink s _ _) (only_emit _ _)) (ih _)

theorem only_linkSend (a cmd head data : Nat) : Only [.wrp] s (s.linkSend a cmd head data) :=
  only_trans (only_modLink s _ _) (only_linkPumpN _ _ _)

theorem only_sendDeselect (st head : Nat) : Only [.wrp] s (s.sendDeselect st head) := only_linkSend s _ _ _ _

/-! ## Inhibits, tracks and readers -/

theorem only_writerIdle (st : Nat) : Only [.chn] s (s.writerIdle st) :=
  only_ite (fun _ => only_trans (only_of_still (still_trans (still_emit ..) (still_emit ..))) (only_modStream _ _ _)) fun _ => only_refl _ s

theorem only_inhibitOnly (st b : Nat) : Only [.chn, .seq] s (s.inhibitOnly st b) :=
  only_step (only_step (only_mono (only_writerIdle s st) (by decide)) (only_modStream _ _ _)) (only_causeStream _ _ _)

theorem only_sweepEnd (result code : Nat) : Only [.wrp] s (s.sweepEnd result code) :=
  only_trans (only_trans (only_setWrp s _) (only_modHead _ _ _)) (only_linkSend _ _ _ _ _)

theorem only_sweepAbort (h : Nat) : Only [.wrp] s (s.sweepAbort h) :=
  only_ite (fun _ => only_sweepEnd s _ _) fun _ => only_refl _ s

theorem only_inhibit (st b : Nat) : Only [.chn, .seq, .wrp] s (s.inhibit st b) :=
  only_ite (fun _ => only_mono (only_inhibitOnly s st b) (by decide)) fun _ =>
    only_step (only_mono (only_inhibitOnly s st b) (by decide)) (only_sweepAbort _ _)

theorem only_setOnTrack (st : Nat) (v : Bool) : Only [.chn, .seq, .wrp, .sce] s (s.setOnTrack st v) := by
  have hloop := only_mono (qs := [.chn, .seq, .wrp, .sce]) (only_modLoop s st fun l => { l with onTrack := v, regain := 0 }) (by decide)
  exact only_ite (fun _ => only_step hloop (only_inhibit _ _ _)) fun _ => hloop

theorem only_setReaders (st readers : Nat) : Only [.chn, .wrp] s (s.setReaders st readers) := by
  simp only [State.setReaders]
  refine only_step (?_ : Only [.chn, .wrp] s _) (only_modStream _ _ _)
  refine only_ite (fun _ => ?_) fun _ => only_refl _ s
  exact only_step (only_step (only_mono (only_writerIdle s st) (by decide)) (only_sendDeselect _ _ _)) (only_modHead _ _ _)

theorem only_supplyStop (v : Bool) : Only [.chn, .seq, .wrp] s (s.supplyStop v) := by
  have hset := only_mono (qs := [.chn, .seq, .wrp]) (only_setWrp s { s.wrp with supplyStop := v }) (by decide)
  exact only_ite (fun _ => only_trans hset (only_foldl (fun _ _ => only_inhibit _ _ _) _ _)) fun _ => hset

/-! ## D_max, ramps and seeks -/

/-- D_max computed anew: its figures, the hold of admissions, and the events of source 2. -/
theorem recomputeDmax_shape : ∃ (d τ : Nat) (h : Bool),
    Still { s with pwr := { s.pwr with dmax := d, tSave := τ }, plc := { s.plc with hold := h } } s.recomputeDmax :=
  ⟨_, _, _, still_evcLevel _ _⟩

theorem only_recomputeDmax : Only [.plc, .pwr] s s.recomputeDmax := by
  obtain ⟨d, τ, h, hstill⟩ := recomputeDmax_shape s
  refine only_still ?_ hstill
  simp [only_iff, State.sess]

theorem only_wakeEvent {k : Nat} (hk : k ≠ 7) : Only [.pwr] s (s.wakeEvent k) := by
  simp only [State.wakeEvent, if_neg hk]
  split
  · exact only_ite (fun _ => only_setPwr _ _) fun _ => only_refl _ s
  · exact only_refl _ s
  · exact only_ite (fun _ => only_refl _ s) fun _ => only_setPwr _ _

theorem only_deselectAll (a : Nat) : Only [.chn, .seq, .wrp, .sce] s (s.deselectAll a) := by
  refine only_foldl (fun s st => ?_) _ s
  refine only_step (only_step ?_ (only_setReaders _ _ _)) (only_modLoop _ _ _)
  exact only_step (only_mono (only_sweepAbort s _) (by decide)) (only_setOnTrack _ _ _)

theorem only_toRamp (a : Nat) (st : ActState) : Only [.chn, .seq, .wrp, .sce, .plc, .pwr] s (s.toRamp a st) :=
  only_step (only_step (only_mono (only_deselectAll s a) (by decide)) (only_modAct _ _ _)) (only_recomputeDmax _)

theorem only_retract (a : Nat) : Only [.chn, .seq, .wrp, .sce, .plc, .pwr] s (s.retract a) :=
  only_ite (fun _ => only_refl _ s) fun _ => only_step (only_toRamp s a _) (only_evcLevel _ _)

theorem only_retractAll : Only [.chn, .seq, .wrp, .sce, .plc, .pwr] s s.retractAll := only_foldl (fun s a => only_retract s a) _ s

theorem only_loseTracks (l : List Nat) : Only [.chn, .seq, .wrp, .sce] s (l.foldl (fun s st => s.setOnTrack st false) s) :=
  only_foldl (fun s st => only_setOnTrack s st false) l s

theorem only_modLoops (l : List Nat) (f : HeadLoop → HeadLoop) : Only [.sce] s (l.foldl (fun s st => s.modLoop st f) s) :=
  only_foldl (fun s st => only_modLoop s st f) l s

/-- What both kinds of seek have in common: the target, the tracks lost, the heads and the actuator begun anew, and D_max. -/
theorem only_seekBegun (a : Nat) (x y : Act → Act) (l m : List Nat) (f : HeadLoop → HeadLoop) :
    Only [.chn, .seq, .wrp, .sce, .plc, .pwr] s (((m.foldl (fun s st => s.modLoop st f)
      (l.foldl (fun s st => s.setOnTrack st false) (s.modAct a x))).modAct a y).recomputeDmax) := by
  have hact := only_mono (qs := [.chn, .seq, .wrp, .sce, .plc, .pwr]) (only_modAct s a x) (by decide)
  exact only_step (only_step (only_step (only_step hact (only_loseTracks _ _)) (only_modLoops _ _ _)) (only_modAct _ _ _)) (only_recomputeDmax _)

theorem only_goTo (a : Nat) (t : Int) (quiet : Bool) : Only [.chn, .seq, .wrp, .sce, .plc, .pwr] s (s.goTo a t quiet) := by
  unfold State.goTo
  refine only_ite (fun _ => only_seekBegun s a _ _ _ _ _) fun _ => ?_
  generalize State.planSeek _ _ _ _ _ = p
  obtain ⟨tr, peak⟩ := p
  exact only_seekBegun s a _ _ _ _ _

theorem only_go (a : Nat) (quiet : Bool) : Only [.chn, .seq, .wrp, .sce, .plc, .pwr] s (s.go a quiet) := by
  simp only [State.go]
  split
  · exact only_refl _ s
  · exact only_goTo s _ _ _

/-! ## Work items and FORCE -/

theorem only_closeGates (st : Nat) (rd wr : Bool) : Only [.chn] s (s.closeGates st rd wr) := by
  simp only [State.closeGates]
  refine only_trans ?_ (only_modStream _ _ _)
  exact only_ite (fun _ => only_writerIdle s st) fun _ => only_refl _ s

theorem only_reportCauses (q mask : Nat) : Only [.flt] s (s.reportCauses q mask) :=
  only_foldl (fun s _ => only_ite (fun _ => only_report s _ _ _ _) fun _ => only_refl _ s) _ s

theorem only_retire (q count result : Nat) : Only [.chn, .seq] s (s.retire q count result) := by
  simp only [State.retire]
  split
  · exact only_refl _ s
  · exact only_step (only_step (only_mono (only_modSeq s _ _) (by decide)) (only_modStream _ _ _)) (only_setSeq _ _)

theorem only_retireAll (q result : Nat) : Only [.chn, .seq] s (s.retireAll q result) :=
  only_foldl (fun s _ => only_retire s q 0 result) _ s

theorem only_force (q vec : Nat) : Only [.flt, .chn, .seq] s (s.force q vec) := by
  refine only_ite (fun _ => only_refl _ s) fun _ => ?_
  refine only_step (only_step (only_step (only_step ?_ (only_closeGates _ _ _ _)) (only_modStream _ _ _)) (only_retireAll _ _ _)) (only_modSeq _ _ _)
  exact only_mono (only_reportCauses s _ _) (by decide)

theorem only_postItem (q : Nat) (w : WorkItem) : Only [.seq] s (s.postItem q w) :=
  only_ite (fun _ => only_modSeq s _ _) fun _ => only_setSeq s _

/-! ## Sessions -/

theorem only_setSess (i : Nat) (x : Session) : Only [.eqt] s (s.setSess i x) := only_setEqt s _
theorem only_modSess (i : Nat) (f : Session → Session) : Only [.eqt] s (s.modSess i f) := only_setEqt s _
theorem only_modCmd (t : Nat) (f : Cmd → Cmd) : Only [.eqt] s (s.modCmd t f) := only_setEqt s _
theorem only_sendPkt (i : Nat) (p : Pkt) : Only [] s (s.sendPkt i p) := only_of_still (still_sendPkt s i p)
theorem only_request (i n : Nat) (k : ReqKind) : Only [] s (s.request i n k) := only_of_still (still_request s i n k)

theorem only_notify (i ring : Nat) : Only [.eqt] s (s.notify i ring) := by
  simp only [State.notify]
  split
  · exact only_step (only_step (only_setSess s _ _) (only_sendPkt _ _ _)) (only_request _ _ _ _)
  · exact only_setSess s _ _

theorem only_notifyFresh : Only [.eqt] s s.notifyFresh := by
  refine only_foldl (fun s i => ?_) _ s
  have hfirst : Only [.eqt] s (if (s.sess i).cq.fresh then s.notify i 1 else s) :=
    only_ite (fun _ => only_notify s i 1) fun _ => only_refl _ s
  exact only_ite (fun _ => only_trans hfirst (only_notify _ _ _)) fun _ => hfirst

end One

end Sys2Proof.Machine
end

section
/-! SUPPORT. Entries to and exits from an operating point (R513 to R521). -/

namespace Sys2Proof.Machine

open Sys2Proof

-- One declaration at a time: proofs elaborated side by side hold a stack each, and the check bounds their sum.
set_option Elab.async false

/-! ## The entry -/

/-- The heads that the streams have selected, as words of CHN_ST_HEAD. -/
def State.headsSelected (s : State) : List (Nat × Word) :=
  (List.range 16).filterMap fun st =>
    if (s.stream st).readers = 0 then none else some (st, word [((s.stream st).readers, 8), ((s.stream st).head, 0)])

/-- The state in which an entry to the target has begun. -/
def State.entryBegun (s : State) : State :=
  { s.stamped with pwr := { s.pwr with
      change := some (.entering s.pwr.target s.pair s.now 1 s.now), wake := 0, savedSpn := s.rv .spnCtl, savedHeads := s.headsSelected,
      parked := [] } }

/-- The entry begins and the stop of participant 1 with it (R513, R515). -/
theorem powerEntryBegin_eq {s : State} {q : Nat} (hsince : s.pwr.quietSince = some q) (harmed : s.pwr.target ≠ 0xFF)
    (hrun : s.pwr.point = 0) (hidle : s.pwr.change = none) (hquiet : s.quiet = true) :
    s.powerEntryBegin = (s.advanceTo (q + 1000000 * fld (s.rv .pwrCfg) 23 16)).entryBegun.notifyFresh := by
  simp only [State.powerEntryBegin, hsince]
  rw [if_neg (by simp [harmed, hrun, hidle, hquiet])]
  rfl

theorem only_entryBegun (s : State) : Only [.pwr] s s.entryBegun :=
  only_trans (only_mono (only_stamped s) (by decide)) (only_setPwr _ _)

/-- What a participant that is ready leaves, with no wake event pending: the next is stopped (R515). -/
theorem participantReady_next {s : State} {rep : Bool} {target begun k x : Nat} {p : Pair}
    (hchange : s.pwr.change = some (.entering target p begun k x)) (hans : s.partAnswer target k x rep = (s, some 0))
    (hwake : s.pwr.wake = 0) (hk : k < 8) :
    s.participantReady rep =
      ({ s with pwr := { s.pwr with change := some (.entering target p begun (k + 1) s.now) } } : State).stopPart target (k + 1) := by
  simp only [State.participantReady, hchange, hans]
  rw [if_neg (by simp [hwake]), if_neg (by omega)]

/-- The last participant is ready: the entry is complete (R508, R518). -/
theorem participantReady_last {s : State} {rep : Bool} {target begun x : Nat} {p : Pair}
    (hchange : s.pwr.change = some (.entering target p begun 8 x)) (hwake : s.pwr.wake = 0) :
    s.participantReady rep = s.entryDone target begun p := by
  simp only [State.participantReady, hchange, State.partAnswer]
  rw [if_neg (by simp [hwake]), if_pos (by decide)]

/-- A participant that is ready with a wake event pending abandons the entry (R516). -/
theorem participantReady_abort {s : State} {rep : Bool} {target begun k x : Nat} {p : Pair}
    (hchange : s.pwr.change = some (.entering target p begun k x)) (hans : s.partAnswer target k x rep = (s, some 0))
    (hwake : s.pwr.wake ≠ 0) :
    s.participantReady rep = (s.attempt target begun p 1 0 s.pwr.wake).exitFrom k := by
  simp only [State.participantReady, hchange, hans]
  rw [if_pos hwake]
  simp only [State.abortEntry, hchange, if_neg hwake]

/-- A participant that refuses abandons the entry with its reason (R517). -/
theorem participantReady_refuse {s : State} {rep : Bool} {target begun k x r : Nat} {p : Pair}
    (hchange : s.pwr.change = some (.entering target p begun k x)) (hans : s.partAnswer target k x rep = (s, some r)) (hr : r ≠ 0) :
    s.participantReady rep =
      (({ s with pwr := { s.pwr with lastPart := k, lastReason := r } } : State).attempt target begun p 2 k r).exitFrom (k - 1) := by
  obtain ⟨n, rfl⟩ := Nat.exists_eq_succ_of_ne_zero hr
  simp only [State.participantReady, hchange, hans]

/-! ## The end of an entry and of an exit -/

/-- The state in which an entry to a point other than Off has ended, but for its event and D_max. -/
def State.pointReached (s : State) (target begun : Nat) (p : Pair) : State :=
  { s.attempt target begun p 0 0 0 with pwr := { (s.attempt target begun p 0 0 0).pwr with change := none, point := target } }

theorem entryDone_eq {s : State} {target begun : Nat} {p : Pair} (hon : target ≠ 0x45) :
    s.entryDone target begun p = ((s.pointReached target begun p).evcEdge 16 (BitVec.ofNat 32 target)).recomputeDmax := by
  simp only [State.entryDone, if_neg hon]
  rfl

/-- An event of source 16 and D_max after it: the value, and what stays. -/
theorem src_edge_recomputeDmax (s : State) (v : BitVec 32) : (((s.evcEdge 16 v).recomputeDmax).src 16).value = v := by
  have hdmax : ((s.evcEdge 16 v).recomputeDmax).src 16 = (s.evcEdge 16 v).src 16 := src_evcLevel_other _ (by decide)
  rw [hdmax]
  exact (src_evcEdge s 16 v).1

/-- The power controller and the placement of an answer, where a row ends with D_max computed anew. -/
theorem answer_of_dmax {s u t : State} {l : List Instr} (h : Still s u) (ht : Still { u.recomputeDmax with pending := l } t) :
    ∃ (d τ : Nat) (q : Option Nat) (x : Bool),
      t.pwr = { s.pwr with dmax := d, tSave := τ, quietSince := q } ∧ t.plc = { s.plc with hold := x } := by
  obtain ⟨d, τ, x, hdmax⟩ := recomputeDmax_shape u
  have hall := still_trans (still_pending hdmax l) ht
  refine ⟨d, τ, t.pwr.quietSince, x, ?_, ?_⟩
  · have hpwr := still_pwr hall
    have hsame := still_pwr h
    calc t.pwr = { ({ t.pwr with quietSince := u.pwr.quietSince } : Pwr) with quietSince := t.pwr.quietSince } := rfl
      _ = { ({ u.pwr with quietSince := s.pwr.quietSince } : Pwr) with dmax := d, tSave := τ, quietSince := t.pwr.quietSince } := by
        rw [hpwr]
      _ = _ := by rw [hsame]
  · rw [still_plc hall]
    show ({ u.plc with hold := x } : Plc) = _
    rw [still_plc h]

theorem wakeEvent_below {s : State} {k : Nat} (hk : k ≠ 7) (hon : s.pwr.point ≠ 0x45) (hbelow : s.pwr.point ≠ 0)
    (hidle : s.pwr.change = none) : s.wakeEvent k = { s with pwr := { s.pwr with change := some (.exiting 8 false) } } := by
  simp [State.wakeEvent, hk, hon, hbelow, hidle]

/-- The state in which participant 2 has restarted. -/
def State.lastRestart (s : State) : State :=
  { s with plc := { s.plc with ckptLast := s.now }, pwr := { s.pwr with change := some (.exiting 1 false) } }

/-- The last two participants restart: participant 2 counts its checkpoint interval from now, and the exit is done (R519). -/
theorem wakeExit_two {s : State} (hchange : s.pwr.change = some (.exiting 2 false)) :
    s.wakeExit = s.lastRestart.exitDone := by
  simp only [State.wakeExit, State.exitSteps, hchange, State.restartPart, State.restarted]
  rfl

theorem exitDone_below {s : State} (hbelow : s.pwr.point ≠ 0) : s.exitDone =
    (({ s with pwr := { s.pwr with change := none, point := 0, wake := 0 } } : State).evcEdge 16 0).recomputeDmax := by
  simp only [State.exitDone, if_neg hbelow]

/-- Settles O58: each clause is one way that an entry goes on or ends, or that an exit begins or ends. -/
theorem powerPoints : Obligations.PowerPoints := by
  unfold Obligations.PowerPoints
  refine ⟨?begin, ?next, ?refuse, ?last, ?abort, ?off, ?wake, ?exit⟩
  case begin =>
    intro s q hready hsince harmed hrun hidle hquiet
    refine gives_of (exec_powerEntryBegin s) hready.1 hready.2 fun t ht => ?_
    rw [powerEntryBegin_eq hsince harmed hrun hidle hquiet] at ht
    let u := s.advanceTo (q + 1000000 * fld (s.rv .pwrCfg) 23 16)
    have honly : Only [.eqt] u.entryBegun t := only_answer (only_notifyFresh _) ht
    refine ⟨pwr_of_only Pwr.change honly (by decide), pwr_of_only Pwr.wake honly (by decide),
      pwr_of_only Pwr.savedSpn honly (by decide), pwr_of_only Pwr.parked honly (by decide), ?_, honly .clock (by decide), ?_⟩
    · exact (pwr_of_only Pwr.point honly (by decide)).trans hrun
    · exact only_step (only_step (only_mono (only_advanceTo s _) (by decide)) (only_entryBegun u)) honly
  case next =>
    intro s rep target begun x p hready hchange hidle hwake htarget
    refine gives_still (exec_participantReady rep s) hready rfl (still_of_eq ?_)
    have hans : s.partAnswer target 6 x rep = (s, some 0) := by simp [State.partAnswer, hidle]
    rw [participantReady_next hchange hans hwake (by decide)]
    simp only [State.stopPart, if_neg (Nat.not_le.mpr htarget)]
  case refuse =>
    intro s rep target begun x p hready hchange hbusy
    refine gives_still (exec_participantReady rep s) hready rfl (still_of_eq ?_)
    have hans : s.partAnswer target 6 x rep = (s, some 0x50) := by simp [State.partAnswer, hbusy]
    rw [participantReady_refuse hchange hans (by decide)]
    rfl
  case last =>
    intro s rep target begun x p hready hchange hwake hon
    refine gives_of_edges (exec_participantReady rep s) hready fun t ht hsrc => ?_
    rw [participantReady_last hchange hwake, entryDone_eq hon] at ht hsrc
    obtain ⟨d, τ, q, x, hpwr, -⟩ := answer_of_dmax (still_evcEdge _ _ _) ht
    refine ⟨congrArg Pwr.change hpwr, congrArg Pwr.point hpwr, congrArg Pwr.target hpwr, congrArg Pwr.entered hpwr,
      congrArg Pwr.attempts hpwr, ?_, ?_⟩
    · rw [hsrc 16 (by decide)]
      exact src_edge_recomputeDmax _ _
    · refine only_answer (only_trans (only_step ?_ (only_evcEdge _ _ _)) (only_mono (only_recomputeDmax _) (by decide))) ht
      exact only_mono (only_setPwr s _) (by decide)
  case abort =>
    intro s rep target begun x p hready hchange hwake
    refine gives_still (exec_participantReady rep s) hready rfl (still_of_eq ?_)
    rw [participantReady_abort hchange rfl hwake]
    rfl
  case off =>
    intro s hready hoff
    refine gives_still (exec_wakeAssert s) hready rfl (still_of_eq ?_)
    simp only [State.wakeAssert, if_pos hoff]
  case wake =>
    intro s hready hon hbelow hidle
    refine gives_still (exec_wakeAssert s) hready rfl (still_of_eq ?_)
    rw [State.wakeAssert, if_neg hon, wakeEvent_below (by decide) hon hbelow hidle]
  case exit =>
    intro s hready hchange hbelow
    refine gives_of_edges (exec_wakeExit s) hready fun t ht hsrc => ?_
    have hpoint : s.lastRestart.pwr.point ≠ 0 := hbelow
    rw [wakeExit_two hchange, exitDone_below hpoint] at ht hsrc
    obtain ⟨d, τ, q, x, hpwr, hplc⟩ := answer_of_dmax (still_evcEdge _ _ _) ht
    refine ⟨congrArg Pwr.change hpwr, congrArg Pwr.point hpwr, congrArg Pwr.wake hpwr, congrArg Plc.ckptLast hplc, ?_, ?_⟩
    · rw [hsrc 16 (by decide)]
      exact src_edge_recomputeDmax _ _
    · refine only_answer (only_trans (only_step ?_ (only_evcEdge _ _ _)) (only_mono (only_recomputeDmax _) (by decide))) ht
      simp [State.lastRestart, only_iff, State.sess]

end Sys2Proof.Machine
end

section
/-! SUPPORT. From reset to the first command: the cold boot (R606 to R608), and the warm chip reset (R470, R198, R506). -/

namespace Sys2Proof.Machine

open Sys2Proof

-- One declaration at a time: proofs elaborated side by side hold a stack each, and the check bounds their sum.
set_option Elab.async false

/-! ## Events without sessions -/

theorem enterPending_eqt_of_none {s : State} (h : s.eqt.sessions = []) (n : Nat) (v : BitVec 32) : (s.enterPending n v).eqt = s.eqt := by
  have hids : (s.setSrc n { s.src n with state := .pending, holder := 0 }).evTargets n = [] := by
    show (akeys s.eqt.sessions).filter _ = []
    rw [h]
    rfl
  simp only [State.enterPending, hids]
  rfl

theorem evcLevel_eqt_of_none {s : State} (h : s.eqt.sessions = []) (n : Nat) : (s.evcLevel n).eqt = s.eqt := by
  simp only [State.evcLevel]
  split
  · exact enterPending_eqt_of_none h _ _
  · rfl

theorem noteLevels_eqt_of_none {s : State} (h : s.eqt.sessions = []) : s.noteLevels.eqt = s.eqt := by
  have key : ∀ (l : List Nat) (u : State), u.eqt = s.eqt → (l.foldl State.evcLevel u).eqt = s.eqt := by
    intro l
    induction l with
    | nil => exact fun _ hu => hu
    | cons n l ih => exact fun u hu => ih _ ((evcLevel_eqt_of_none (by rw [hu, h]) n).trans hu)
  simp only [State.noteLevels]
  split
  · exact key _ s rfl
  · rfl

@[simp] theorem noteQuiet_eqt (s : State) : s.noteQuiet.eqt = s.eqt := by
  simp only [State.noteQuiet]
  split <;> (try split) <;> rfl

/-- A row whose effect has no session completes with the host interface of its effect. -/
theorem gives_without_sessions {c : Instr} {need : Need} {s : State} {f : State → State} {P : State → Prop}
    (hc : exec c s = row c need s f) (hready : c.wf = true ∧ s.has need = true) (hnone : (f s).eqt.sessions = [])
    (h : ∀ t, Still { f s with pending := s.pending } t → t.eqt = (f s).eqt → P t) : Gives c s P := by
  refine ⟨_, hc.trans (row_taken c need s f hready.1 hready.2), rfl, h _ ?_ ?_⟩
  · exact still_pending (still_trans (still_noteLevels _) (still_noteQuiet _)) _
  · exact (noteQuiet_eqt _).trans (noteLevels_eqt_of_none hnone)

/-! ## ENABLE of a spindle at rest -/

/-- The state in which LISTEN has begun with a write of SPN_CTL. -/
def State.listening (s : State) (v : Word) : State :=
  ((s.setRv .spnCtl v).spnEnter .listen).modSpn fun x =>
    { x with enabledAt := s.now + 1, attempts := 0, retryDue := none, thenSense := false, target := (s.setRv .spnCtl v).targetRpm }

/-- ENABLE in STOPPED or FAULT with no retry due begins LISTEN at the target written (R252). -/
theorem spnCtlWrite_listen {s : State} {v : Word} (henable : bit v 31 = true) (hrest : s.spn.state = .stopped ∨ s.spn.state = .fault)
    (hretry : s.spn.retryDue = none) : s.spnCtlWrite v = s.listening v := by
  have hbegin : (bit v 31 && ((s.setRv .spnCtl v).spn.state == .stopped || (s.setRv .spnCtl v).spn.state == .fault) &&
      (s.setRv .spnCtl v).spn.retryDue.isNone) = true := by
    rcases hrest with h | h <;> simp [henable, h, hretry]
  have hstate : (s.listening v).spn.state ≠ .atSpeed := by simp [State.listening, State.spnEnter, State.switchGates, State.modSpn]
  have htarget : (s.listening v).targetRpm = (s.listening v).spn.target := rfl
  simp only [State.spnCtlWrite]
  rw [if_pos hbegin, if_neg (by simp [henable])]
  show (if (s.listening v).spn.state = .atSpeed ∧ (s.listening v).targetRpm = (s.listening v).spn.target then (s.listening v).spnRamp
    else (s.listening v).takeTarget) = s.listening v
  rw [if_neg fun h => hstate h.1]
  simp only [State.takeTarget, htarget, if_true]

/-! ## A bank put into force -/

/-- A state without what a personality fills: registers, servo engine, streams, SRAM and sequencers. -/
def State.blanked (s : State) : State :=
  { s with regs := [], sce := State.reset.sce, chn := chnReset, srm := srmReset, seq := seqReset }

theorem blanked_fields {s t : State} (h : t.blanked = s.blanked) :
    t.hbm = s.hbm ∧ t.eqt = s.eqt ∧ t.tim = s.tim ∧ t.now = s.now ∧ t.plc = s.plc ∧ t.sec = s.sec := by
  have key {α : Type} (f : State → α) (hf : ∀ u : State, f u.blanked = f u) : f t = f s := by rw [← hf t, h, hf]
  exact ⟨key State.hbm fun _ => rfl, key State.eqt fun _ => rfl, key State.tim fun _ => rfl, key State.now fun _ => rfl,
    key State.plc fun _ => rfl, key State.sec fun _ => rfl⟩

theorem healProfile_blanked (s : State) (k : Nat) : (s.healProfile k).blanked = s.blanked := by
  simp only [State.healProfile]
  split <;> rfl

theorem loadProfile_blanked (s : State) (st zone : Nat) : (s.loadProfile st zone).blanked = s.blanked :=
  healProfile_blanked s (headOf st (s.stream st) * 64 + zone)

/-- What loading a personality leaves outside of what it fills. -/
theorem install_blanked (s : State) (p : Pers) (keep : Bool) : ∃ m c, (s.install p keep).blanked =
    ({ s with sec := { s.sec with pers := p }, hbm := { s.hbm with mapUnits := m }, plc := { s.plc with userCap := c } } : State).blanked := by
  have hslots (f : Nat → Slot → Slot) (l : List Nat) (u : State) :
      (l.foldl (fun s n => s.modSlot n (f n)) u).blanked = u.blanked := foldl_keeps State.blanked (fun s n => s.modSlot n (f n)) (fun _ _ => rfl) l u
  have hprofiles (l : List Nat) (u : State) : (l.foldl (fun s st => s.loadProfile st (s.stream st).zone) u).blanked = u.blanked :=
    foldl_keeps State.blanked _ (fun _ _ => loadProfile_blanked _ _ _) l u
  have hcap (u : State) (c : Nat) : ({ u with plc := { u.plc with userCap := c } } : State).blanked =
      { u.blanked with plc := { u.blanked.plc with userCap := c } } := rfl
  refine ⟨if keep then s.hbm.mapUnits else mapUnitsFor p, (s.install p keep).plc.userCap, ?_⟩
  simp only [State.install]
  rw [hcap, hprofiles, hslots]
  rfl

/-- A bank is named as the one in force. -/
def State.bankNamed (s : State) (b : Nat) (fallback : Bool) : State :=
  { s with sec := { s.sec with
    bank := b, fallback := fallback, booted := true, fw := readInfo (s.bankView b 1), persPkg := readInfo (s.bankView b 2),
    bootPkg := readBoot (s.bankView b 1) } }

/-- A sequencer at its entry vector. -/
def State.seqAtEntry (s : State) (q : Nat) : State := s.modSeq q fun x => { x with state := .running, pc := s.entryVector q }

/-- A bank is in force, and ENABLE is still to be written. -/
def State.bankInstalled (s : State) (b : Nat) (fallback : Bool) : State :=
  let u := (List.range 18).foldl State.seqAtEntry ((s.bankNamed b fallback).install (readPers ((s.bankNamed b fallback).bankView b 2)) false)
  { u with pwr := { u.pwr with toLoad := [0, 1, 2, 3] } }

theorem startBank_eq (s : State) (b : Nat) (fallback : Bool) :
    s.startBank b fallback = (s.bankInstalled b fallback).spnCtlWrite 0x80000000 := rfl

/-- The security block with a bank named as the one in force, and its packages. -/
def secNamed (y : Sec) (b : Nat) (fallback : Bool) (fw persPkg bootPkg : PkgInfo) (pers : Pers) : Sec :=
  { y with bank := b, fallback := fallback, booted := true, fw := fw, persPkg := persPkg, bootPkg := bootPkg, pers := pers }

/-- What a bank put into force leaves outside of what its personality fills. -/
theorem bankInstalled_blanked (s : State) (b : Nat) (fallback : Bool) : ∃ m c i j k p, (s.bankInstalled b fallback).blanked =
    ({ s with
      sec := secNamed s.sec b fallback i j k p, hbm := { s.hbm with mapUnits := m },
      plc := { s.plc with userCap := c }, pwr := { s.pwr with toLoad := [0, 1, 2, 3] } } : State).blanked := by
  obtain ⟨m, c, hinstall⟩ := install_blanked (s.bankNamed b fallback) (readPers ((s.bankNamed b fallback).bankView b 2)) false
  have hseqs (u : State) : ((List.range 18).foldl State.seqAtEntry u).blanked = u.blanked :=
    foldl_keeps State.blanked State.seqAtEntry (fun _ _ => rfl) _ u
  have hload (u : State) : ({ u with pwr := { u.pwr with toLoad := [0, 1, 2, 3] } } : State).blanked =
      { u.blanked with pwr := { u.blanked.pwr with toLoad := [0, 1, 2, 3] } } := rfl
  generalize hpers : readPers ((s.bankNamed b fallback).bankView b 2) = p at hinstall
  refine ⟨m, c, readInfo (s.bankView b 1), readInfo (s.bankView b 2), readBoot (s.bankView b 1), p, ?_⟩
  rw [State.bankInstalled, hpers, hload, hseqs, hinstall, State.bankNamed]
  generalize readInfo (s.bankView b 1) = i
  generalize readInfo (s.bankView b 2) = j
  generalize readBoot (s.bankView b 1) = k
  rfl

/-- A bank put into force with the spindle at rest: what it leaves outside of what it fills, and of the spindle. -/
theorem startBank_blanked {s : State} (b : Nat) (fallback : Bool) (hstop : s.spn.state = .stopped) (hretry : s.spn.retryDue = none) :
    ∃ m c i j k p x, (s.startBank b fallback).blanked =
      ({ s with
        sec := secNamed s.sec b fallback i j k p, hbm := { s.hbm with mapUnits := m },
        plc := { s.plc with userCap := c }, pwr := { s.pwr with toLoad := [0, 1, 2, 3] }, spn := x } : State).blanked := by
  obtain ⟨m, c, i, j, k, p, h⟩ := bankInstalled_blanked s b fallback
  have hspn : (s.bankInstalled b fallback).spn = s.spn := by
    have hkept (u : State) : u.blanked.spn = u.spn := rfl
    rw [← hkept, h]
    rfl
  have hlisten (u : State) (v : Word) : (u.listening v).blanked = { u.blanked with spn := (u.listening v).spn } := rfl
  refine ⟨m, c, i, j, k, p, (s.startBank b fallback).spn, ?_⟩
  rw [startBank_eq, spnCtlWrite_listen (by decide) (.inl (by rw [hspn, hstop])) (by rw [hspn, hretry]), hlisten, h]
  rfl

/-! ## The cold boot -/

theorem flashByte_congr {s t : State} (h : t.sec.flash = s.sec.flash) (a : Nat) : t.flashByte a = s.flashByte a := by
  simp only [State.flashByte, h]

theorem bankView_congr {s t : State} (h : t.sec.flash = s.sec.flash) (b k : Nat) : t.bankView b k = s.bankView b k :=
  funext fun _ => flashByte_congr h _

theorem selector_congr {s t : State} (h : t.sec.flash = s.sec.flash) : t.selector = s.selector := by
  simp only [State.selector, State.selCopy, flashByte_congr h]

theorem bankVerdict_congr {s t : State} (hflash : t.sec.flash = s.sec.flash) (hfuses : t.sec.fuses = s.sec.fuses) (b : Nat) :
    t.bankVerdict b = s.bankVerdict b := by
  simp only [State.bankVerdict, bankView_congr hflash, hfuses]

/-- Every stack trained and passed its self-test (R468, R471). -/
theorem fillHbm_all (s : State) : s.fillHbm 15 0 =
    { s with hbm := { s.hbm with cold := 15, inUse := 15, failed := 0, redundant := true, lapStart := s.now } } := rfl

/-- A boot with every stack and no checker failed goes on to its banks (step 5 of Table 18.8). -/
theorem coldBoot_all {s : State} (hgood : s.pwr.pwrgood = true) (hrail : s.pwr.railEn = true) (hrest : s.running = false) :
    s.coldBoot 15 0 0 = (s.coldState.fillHbm 15 0).bootBanks := by
  have hstacks : (s.coldState.fillHbm 15 0).stacks = [0, 1, 2, 3] := by
    rw [fillHbm_all]
    show (below 4 fun k => (15 : Nat).testBit k) = _
    decide
  simp only [State.coldBoot]
  rw [if_neg (by simp [hgood, hrail, hrest]), if_neg (by simp [hstacks])]

/-- The state in which the banks are looked at: cold, with every stack in use. -/
def State.coldFilled (s : State) : State := s.coldState.fillHbm 15 0

/-- What every boot with all stacks leaves, whichever bank it puts into force. -/
structure Booted (s t : State) : Prop where
  hbm : t.hbm.inUse = 15 ∧ t.hbm.failed = 0 ∧ t.hbm.redundant = true
  eqt : t.eqt = eqtReset
  tim : t.tim = timReset
  now : t.now = s.now
  plc : t.plc.blocks = [] ∧ t.plc.rebuilt = false
  flash : t.sec.flash = s.sec.flash
  fuses : t.sec.fuses = s.sec.fuses

theorem booted_coldFilled (s : State) (x : Sec) (hflash : x.flash = s.sec.flash) (hfuses : x.fuses = s.sec.fuses) :
    Booted s { s.coldFilled with sec := x } :=
  ⟨⟨rfl, rfl, rfl⟩, rfl, rfl, rfl, ⟨rfl, rfl⟩, hflash, hfuses⟩

/-- A bank put into force keeps what every boot leaves. -/
theorem booted_startBank (s : State) (x : Sec) (b : Nat) (fallback : Bool) (hflash : x.flash = s.sec.flash)
    (hfuses : x.fuses = s.sec.fuses) : Booted s (({ s.coldFilled with sec := x } : State).startBank b fallback) := by
  obtain ⟨m, c, i, j, k, p, y, h⟩ := startBank_blanked (s := { s.coldFilled with sec := x }) b fallback rfl rfl
  obtain ⟨hhbm, heqt, htim, hnow, hplc, hsec⟩ := blanked_fields h
  refine ⟨?_, heqt, htim, hnow, ?_, ?_, ?_⟩
  · rw [hhbm]
    exact ⟨rfl, rfl, rfl⟩
  · rw [hplc]
    exact ⟨rfl, rfl⟩
  · rw [hsec]
    exact hflash
  · rw [hsec]
    exact hfuses

/-- The bank in force after a boot. -/
theorem sec_startBank (s : State) (x : Sec) (b : Nat) (fallback : Bool) :
    (({ s.coldFilled with sec := x } : State).startBank b fallback).sec.booted = true ∧
    (({ s.coldFilled with sec := x } : State).startBank b fallback).sec.bank = b ∧
    (({ s.coldFilled with sec := x } : State).startBank b fallback).sec.fallback = fallback ∧
    (({ s.coldFilled with sec := x } : State).startBank b fallback).sec.recovery = x.recovery := by
  obtain ⟨m, c, i, j, k, p, y, h⟩ := startBank_blanked (s := { s.coldFilled with sec := x }) b fallback rfl rfl
  obtain ⟨-, -, -, -, -, hsec⟩ := blanked_fields h
  rw [hsec]
  exact ⟨rfl, rfl, rfl, rfl⟩

/-- The bank that the selector names, bank 0 without one (R607). -/
def State.activeBank (s : State) : Nat := match s.selector with | some (_, b, _) => b | none => 0

/-- The security block with a verdict on it. -/
def secFailed (x : Sec) (kind context : Nat) (v : Verdict) : Sec :=
  { x with failKind := kind, context := context, reason := v.reason, section_ := v.section_, ofs := v.ofs }

theorem bootBanks_eq (s : State) : s.bootBanks = match s.bankVerdict s.activeBank with
    | none => s.startBank s.activeBank false
    | some (k, v) => match (s.verdict k 1 v).bankVerdict (1 - s.activeBank) with
      | none => (s.verdict k 1 v).startBank (1 - s.activeBank) true
      | some (l, w) => ((s.verdict k 1 v).verdict l 1 w).enterRecovery := rfl

theorem bootBanks_passed {s : State} (h : s.bankVerdict s.activeBank = none) : s.bootBanks = s.startBank s.activeBank false := by
  rw [bootBanks_eq, h]

theorem bootBanks_fallback {s : State} {k : Nat} {v : Verdict} (h : s.bankVerdict s.activeBank = some (k, v))
    (hother : s.bankVerdict (1 - s.activeBank) = none) :
    s.bootBanks = ({ s with sec := secFailed s.sec k 1 v } : State).startBank (1 - s.activeBank) true := by
  have hsame : (s.verdict k 1 v).bankVerdict (1 - s.activeBank) = none := (bankVerdict_congr rfl rfl _).trans hother
  rw [bootBanks_eq, h]
  show (match (s.verdict k 1 v).bankVerdict (1 - s.activeBank) with | none => _ | some (l, w) => _) = _
  rw [hsame]
  rfl

theorem bootBanks_recovery {s : State} {k l : Nat} {v w : Verdict} (h : s.bankVerdict s.activeBank = some (k, v))
    (hother : s.bankVerdict (1 - s.activeBank) = some (l, w)) :
    s.bootBanks = { s with sec := { secFailed (secFailed s.sec k 1 v) l 1 w with recovery := true } } := by
  have hsame : (s.verdict k 1 v).bankVerdict (1 - s.activeBank) = some (l, w) := (bankVerdict_congr rfl rfl _).trans hother
  rw [bootBanks_eq, h]
  show (match (s.verdict k 1 v).bankVerdict (1 - s.activeBank) with | none => _ | some (l, w) => _) = _
  rw [hsame]
  rfl

/-- What a boot with all stacks puts into force: the first bank that passes, or RECOVERY (R607, R608). -/
theorem bootBanks_coldFilled (s : State) : Booted s s.coldFilled.bootBanks ∧
    (s.bankVerdict s.activeBank = none → s.coldFilled.bootBanks.sec.booted = true ∧ s.coldFilled.bootBanks.sec.bank = s.activeBank ∧
      s.coldFilled.bootBanks.sec.fallback = false ∧ s.coldFilled.bootBanks.sec.recovery = false) ∧
    (s.bankVerdict s.activeBank ≠ none → s.bankVerdict (1 - s.activeBank) = none →
      s.coldFilled.bootBanks.sec.booted = true ∧ s.coldFilled.bootBanks.sec.bank = 1 - s.activeBank ∧
      s.coldFilled.bootBanks.sec.fallback = true ∧ s.coldFilled.bootBanks.sec.recovery = false) ∧
    (s.bankVerdict s.activeBank ≠ none → s.bankVerdict (1 - s.activeBank) ≠ none →
      s.coldFilled.bootBanks.sec.booted = false ∧ s.coldFilled.bootBanks.sec.recovery = true) := by
  have hbank : s.coldFilled.activeBank = s.activeBank := by
    rw [State.activeBank, State.activeBank, selector_congr (s := s) (t := s.coldFilled) rfl]
  have hverdict (b : Nat) : s.coldFilled.bankVerdict b = s.bankVerdict b := bankVerdict_congr rfl rfl b
  have hself : ({ s.coldFilled with sec := s.coldFilled.sec } : State) = s.coldFilled := rfl
  cases h : s.bankVerdict s.activeBank with
  | none =>
    have hboot := bootBanks_passed (s := s.coldFilled) (by rw [hbank, hverdict, h])
    rw [hbank, ← hself] at hboot
    rw [hboot]
    obtain ⟨h1, h2, h3, h4⟩ := sec_startBank s s.coldFilled.sec s.activeBank false
    exact ⟨booted_startBank s _ _ _ rfl rfl, fun _ => ⟨h1, h2, h3, h4⟩, fun hne => absurd rfl hne, fun hne => absurd rfl hne⟩
  | some e =>
    obtain ⟨k, v⟩ := e
    cases h' : s.bankVerdict (1 - s.activeBank) with
    | none =>
      have hboot := bootBanks_fallback (s := s.coldFilled) (k := k) (v := v) (by rw [hbank, hverdict, h]) (by rw [hbank, hverdict, h'])
      rw [hbank] at hboot
      rw [hboot]
      obtain ⟨h1, h2, h3, h4⟩ := sec_startBank s (secFailed s.coldFilled.sec k 1 v) (1 - s.activeBank) true
      exact ⟨booted_startBank s _ _ _ rfl rfl, fun hne => (nomatch hne), fun _ _ => ⟨h1, h2, h3, h4⟩, fun _ hne => absurd rfl hne⟩
    | some e' =>
      obtain ⟨l, w⟩ := e'
      have hboot := bootBanks_recovery (s := s.coldFilled) (k := k) (v := v) (l := l) (w := w) (by rw [hbank, hverdict, h])
        (by rw [hbank, hverdict, h'])
      rw [hboot]
      exact ⟨booted_coldFilled s _ rfl rfl, fun hne => (nomatch hne), fun _ hne => (nomatch hne), fun _ _ => ⟨rfl, rfl⟩⟩

/-- With no stack, or only two, the boot stops and the lowest stack out of use is reported (Table 13.5, R468). -/
theorem coldBoot_two {s : State} (hgood : s.pwr.pwrgood = true) (hrail : s.pwr.railEn = true) (hrest : s.running = false) :
    s.coldBoot 3 0 0 = (s.coldState.fillHbm 3 0).report 226 4 0 3 := by
  have hstacks : (s.coldState.fillHbm 3 0).stacks = [0, 1] := by
    show (below 4 fun k => (3 : Nat).testBit k) = _
    decide
  have hfailed : (below 4 fun k => (s.coldState.fillHbm 3 0).hbm.failed.testBit k) = [2, 3] := by
    show (below 4 fun k => (12 : Nat).testBit k) = _
    decide
  simp only [State.coldBoot]
  rw [if_neg (by simp [hgood, hrail, hrest]), if_pos (by simp [hstacks]), hfailed]
  rfl

theorem mem_joinReports (t : Nat) (r : Report) (l : List (Nat × Report)) : (t, r) ∈ joinReports t r l := by
  induction l with
  | nil => simp [joinReports]
  | cons e l ih =>
    simp only [joinReports]
    split
    · exact List.mem_cons_self
    · exact List.mem_cons_of_mem _ ih

theorem inbox_report (s : State) (n k a sev : Nat) :
    (s.now, ({ source := n, kind := k, addr := a, severity := sev } : Report)) ∈ (s.report n k a sev).flt.inbox :=
  mem_joinReports _ _ _

/-- RECOVERY asserts ERR_N (R608). -/
theorem errN_of_recovery {t : State} (h : t.sec.recovery = true) : t.errN = true := by
  simp only [State.errN, h, Bool.or_true]

/-! ## The warm chip reset -/

section
variable (s : State)

theorem only_setDma (x : Dma) : Only [.dma] s { s with dma := x } := by simp [only_iff, State.sess]
theorem only_setCch (x : Cch) : Only [.cch] s { s with cch := x } := by simp [only_iff, State.sess]
theorem only_setSrm (x : Srm) : Only [.srm] s { s with srm := x } := by simp [only_iff, State.sess]
theorem only_setLatches (x : List Latch) : Only [.latches] s { s with latches := x } := by simp [only_iff, State.sess]

theorem only_hbmPut (a : Nat) (b : Byte) : Only [.hbm] s (s.hbmPut a b) := only_setHbm s _

theorem only_writeBack (l : Nat) (v : BitVec 1024) : Only [.hbm] s (s.writeBack l v) :=
  only_foldl (fun s _ => only_hbmPut s _ _) _ s

/-- The cache without a line. -/
def State.linesGone (s : State) : State := { s with cch := { s.cch with lines := [], side := [], victims := [] } }

theorem only_writtenLines (l : Assoc Line) :
    Only [.hbm] s (l.foldl (fun s e => if e.2.dirty then s.writeBack e.1 e.2.bytes else s) s) :=
  only_foldl (f := fun s e => if e.2.dirty then s.writeBack e.1 e.2.bytes else s)
    (fun s _ => only_ite (fun _ => only_writeBack s _ _) fun _ => only_refl _ s) l s

theorem only_writtenVictims (l : Assoc (BitVec 1024)) : Only [.hbm] s (l.foldl (fun s e => s.writeBack e.1 e.2) s) :=
  only_foldl (f := fun (s : State) (e : Nat × BitVec 1024) => s.writeBack e.1 e.2) (fun s e => only_writeBack s e.1 e.2) l s

theorem cacheFlush_eq : ∃ l : Assoc (BitVec 1024), s.cacheFlush = (l.foldl (fun s e => s.writeBack e.1 e.2)
    (s.cch.lines.foldl (fun s e => if e.2.dirty then s.writeBack e.1 e.2.bytes else s) s)).linesGone := ⟨_, rfl⟩

theorem only_linesGone : Only [.cch] s s.linesGone := only_setCch s _

theorem only_cacheFlush : Only [.hbm, .cch] s s.cacheFlush := by
  obtain ⟨l, h⟩ := cacheFlush_eq s
  rw [h]
  exact only_step (only_mono (only_step (only_writtenLines s _) (only_writtenVictims _ l)) (by decide)) (only_linesGone _)

theorem only_dmaReset : Only [.dma, .regs] s s.dmaReset := by simp [only_iff, State.dmaReset, State.sess]

theorem only_placeCopy (k : Nat) (x : Option Nat) : Only [.chn] s (s.placeCopy k x) := only_setChn s _

theorem only_addPiece (p : Piece) : Only [.orb] s (s.addPiece p) := only_setOrb s _

theorem only_queueGroups (tag cls : Nat) (pair : Pair) (used : List Nat) (l : List Group) :
    Only [.orb] s (s.queueGroups tag cls pair used l) := by
  induction l generalizing s used with
  | nil => exact only_refl _ s
  | cons g l ih => exact only_step (only_addPiece s _) (ih _ _)

theorem only_queueReads (tag cls : Nat) (pair : Pair) (bound : List Bound) : Only [.orb] s (s.queueReads tag cls pair bound) :=
  only_queueGroups s _ _ _ _ _

theorem only_resendFrom (i : Nat) (psn : BitVec 24) : Only [.eqt] s (s.resendFrom i psn) :=
  only_step (only_modSess s _ _) (only_sendPkt _ _ _)

/-- The values of rows that are not on media go back to their blocks, to be placed again. -/
def State.blocksAgain (s : State) : State :=
  (s.plc.rows.flatMap fun e => if e.2.jrn.isNone && e.2.copies then e.2.vals.map (·.2) else []).foldl
    (fun s b => match aget s.plc.blocks b.key with
      | some x => if x.pair = b.pair then s.placeCopy b.key none else s
      | none => s) s

theorem only_blocksAgain : Only [.chn] s s.blocksAgain := by
  refine only_foldl (fun s b => ?_) _ s
  split
  · exact only_ite (fun _ => only_placeCopy s _ _) fun _ => only_refl _ s
  · exact only_refl _ s

theorem only_dropRows : Only [.chn, .plc] s s.dropRows :=
  only_step (only_mono (only_blocksAgain s) (by decide)) (only_setPlc _ _)

theorem ladders_blocksAgain : s.blocksAgain.chn.ladders = s.chn.ladders := by
  refine foldl_keeps (fun s => s.chn.ladders) _ (fun s b => ?_) _ s
  split <;> (try split) <;> rfl

theorem ladders_dropRows : s.dropRows.chn.ladders = s.chn.ladders := ladders_blocksAgain s

/-- The latches and SRAM emptied (R470). -/
def State.sramWiped (s : State) : State :=
  { s with latches := [], srm := { s.srm with
    mem := [], profiles := s.sec.pers.profiles, wprofiles := s.sec.pers.wprofiles, poisoned := [], correctable := [], diag := [] } }

/-- A stream with its gates closed and nothing of its sector left. -/
def State.streamWiped (s : State) (st : Nat) : State :=
  (s.closeGates st true true).modStream st fun x =>
    { x with decoding := [], sync := .none, resync := .none, sectorDone := false, cur := none, inSector := false,
             inFragment := false, failedSectors := [], sinceGood := [] }

/-- The control store reloaded, no stop requested, the decode slots empty (R198). -/
def State.storeReloaded (s : State) : State :=
  { s with seq := { s.seq with words := s.sec.pers.words, bad := [], stopReq := false, done := [] },
           chn := { s.chn with slots := [], slotData := [] } }

/-- A sequencer that has not failed runs from its entry vector. -/
def State.seqRestarted (s : State) (q : Nat) : State :=
  if (s.seqr q).state = .failed then s else
    let v := s.entryVector q
    s.modSeq q fun x => { idleSeq q with state := .running, pc := v, stream := x.stream, restarts := x.restarts }

/-- Orbit without turns and host pieces, no ladder and no deep decode. -/
def State.laddersEnded (s : State) : State :=
  { s with
    orb := { s.orb with
      pieces := (afilter s.orb.pieces fun _ p => p.kind != .host && p.kind != .ladder),
      turns := amapv s.orb.turns fun _ t => { t with busy := false, served := [] } },
    chn := { s.chn with ladders := [], deepQueue := [], deepBusy := [] } }

/-- The reads of an accepted command are queued again. -/
def State.readsAgain (s : State) (e : Nat × Cmd) : State :=
  if e.2.phase = .accepted ∨ e.2.copyStarted then
    match e.2.accept with
    | some p => s.queueReads e.1 (s.sess e.2.sess).qos p e.2.bound
    | none => s.queueReads e.1 (s.sess e.2.sess).qos e.2.fetch e.2.bound
  else s

/-- The oldest request of a session is sent again. -/
def State.requestsAgain (s : State) (i : Nat) : State :=
  match (s.sess i).reqs with
  | [] => s
  | r :: _ => s.resendFrom i r.psn

/-- The streams and sequencers after a warm reset. -/
def State.streamsWiped (s : State) : State :=
  (List.range 18).foldl State.seqRestarted ((List.range 16).foldl State.streamWiped s).storeReloaded

/-- What goes on after a warm reset: rows, reads and requests. -/
def State.workAgain (s : State) : State :=
  let u := s.laddersEnded.dropRows
  let u := u.eqt.cmds.foldl State.readsAgain u
  u.sessIds.foldl State.requestsAgain u

/-- The moment of a warm reset is kept (R574). -/
def State.warmNoted (s : State) : State := { s with flt := { s.flt with lastWarm := some s.now } }

/-- The state in which a warm reset has taken effect. -/
def State.warmed (s : State) : State :=
  s.cacheFlush.dmaReset.sramWiped.streamsWiped.workAgain.warmNoted

/-- The point that a warm reset leaves is left for Run. -/
def State.warmExit (s : State) : State :=
  match s.pwr.change with
  | some (.entering target pair begun next _) => (s.attempt target begun pair 1 0 7).exitFrom next
  | some (.exiting _ _) => s
  | none => if s.pwr.point = 0 then s else s.exitFrom 8

theorem warmBody_eq : s.warmBody = s.activationCut.warmed.warmExit := by
  unfold State.warmBody
  extract_lets u₁ u₂ srm u₃ u₄ chn seq u₅ u₆ pieces orb ladders u₇ u₈ u₉ u₁₀ flt u₁₁
  have h₁ : u₁ = s.activationCut.cacheFlush := rfl
  have h₂ : u₂ = u₁.dmaReset := rfl
  have h₃ : u₃ = u₂.sramWiped := rfl
  have h₄ : u₄ = (List.range 16).foldl State.streamWiped u₃ := rfl
  have h₅ : u₅ = u₄.storeReloaded := rfl
  have h₆ : u₆ = (List.range 18).foldl State.seqRestarted u₅ := rfl
  have h₇ : u₇ = u₆.laddersEnded := rfl
  have h₈ : u₈ = u₇.dropRows := rfl
  have h₉ : u₉ = u₈.eqt.cmds.foldl State.readsAgain u₈ := rfl
  have h₁₀ : u₁₀ = u₉.sessIds.foldl State.requestsAgain u₉ := rfl
  have h₁₁ : u₁₁ = u₁₀.warmNoted := rfl
  have h : u₁₁ = s.activationCut.warmed := by
    rw [h₁₁, h₁₀, h₉, h₈, h₇, h₆, h₅, h₄, h₃, h₂, h₁, State.warmed, State.workAgain, State.streamsWiped]
  rw [← h]
  clear_value u₁₁
  rfl

theorem only_streamWiped (st : Nat) : Only [.chn] s (s.streamWiped st) := only_step (only_closeGates s st true true) (only_modStream _ _ _)

theorem only_storeReloaded : Only [.seq, .chn] s s.storeReloaded := by simp [only_iff, State.storeReloaded, State.sess]

theorem only_seqRestarted (q : Nat) : Only [.seq] s (s.seqRestarted q) :=
  only_ite (fun _ => only_refl _ s) fun _ => only_modSeq s _ _

theorem only_streamsWiped : Only [.seq, .chn] s s.streamsWiped :=
  only_step (only_step (only_mono (only_foldl (fun s q => only_streamWiped s q) _ s) (by decide)) (only_storeReloaded _))
    (only_foldl (fun s q => only_seqRestarted s q) _ _)

theorem only_laddersEnded : Only [.orb, .chn] s s.laddersEnded := by simp [only_iff, State.laddersEnded, State.sess]

theorem only_readsAgain (e : Nat × Cmd) : Only [.orb] s (s.readsAgain e) := by
  refine only_ite (fun _ => ?_) fun _ => only_refl _ s
  split <;> exact only_queueReads s _ _ _ _

theorem only_requestsAgain (i : Nat) : Only [.eqt] s (s.requestsAgain i) := by
  simp only [State.requestsAgain]
  split
  · exact only_refl _ s
  · exact only_resendFrom s _ _

theorem only_workAgain : Only [.orb, .chn, .plc, .eqt] s s.workAgain := by
  unfold State.workAgain
  refine only_step (ps := [.orb, .chn, .plc, .eqt]) ?_ (only_foldl (fun s i => only_requestsAgain s i) _ _)
  refine only_step (ps := [.orb, .chn, .plc, .eqt]) ?_ (only_foldl (fun s e => only_readsAgain s e) _ _)
  exact only_step (ps := [.orb, .chn, .plc, .eqt]) (only_mono (only_laddersEnded s) (by decide)) (only_dropRows _)

theorem only_sramWiped : Only [.latches, .srm] s s.sramWiped := by simp [only_iff, State.sramWiped, State.sess]

end

/-- The control store after a warm reset. -/
theorem streamsWiped_seq (s : State) : s.streamsWiped.seq.words = s.sec.pers.words ∧ s.streamsWiped.seq.stopReq = false := by
  have hkeep := foldl_keeps (fun s => (s.seq.words, s.seq.stopReq)) State.seqRestarted (fun s q => by
    simp only [State.seqRestarted]
    split <;> rfl) (List.range 18) ((List.range 16).foldl State.streamWiped s).storeReloaded
  have hsec : ((List.range 16).foldl State.streamWiped s).sec = s.sec :=
    only_foldl (fun s q => only_streamWiped s q) (List.range 16) s .sec (by decide)
  obtain ⟨hwords, hstop⟩ := Prod.mk.inj hkeep
  rw [State.streamsWiped, hwords, hstop, ← hsec]
  generalize (List.range 16).foldl State.streamWiped s = u
  exact ⟨rfl, rfl⟩

/-- What a warm reset wipes (R470, R198, R506). -/
structure Wiped (s t : State) : Prop where
  latches : t.latches = []
  srm : t.srm.mem = []
  cch : t.cch.lines = []
  dma : t.dma.chans = [] ∧ t.dma.events = []
  seq : t.seq.words = s.sec.pers.words ∧ t.seq.stopReq = false
  ladders : t.chn.ladders = []
  warm : t.flt.lastWarm = some s.now
  only : Only [.regs, .latches, .flt, .eqt, .plc, .orb, .chn, .seq, .dma, .hbm, .srm, .cch] s t

/-- A row completes with every state that is its effect but for events. -/
theorem gives_only {c : Instr} {need : Need} {s : State} {f : State → State} {P : State → Prop} (hc : exec c s = row c need s f)
    (hready : c.wf = true ∧ s.has need = true) (h : ∀ t, Only [] (f s) t → P t) : Gives c s P :=
  gives_of hc hready.1 hready.2 fun t ht => h t (only_answer (only_refl _ _) ht)

theorem wiped_warmed (s : State) : Wiped s s.warmed := by
  obtain ⟨l, hflush⟩ := cacheFlush_eq s
  have hlines : s.cacheFlush.cch.lines = [] := by
    rw [hflush]
    rfl
  have hcache : Only [.hbm, .cch] s s.cacheFlush := only_cacheFlush s
  unfold State.warmed
  generalize s.cacheFlush = u at hlines hcache ⊢
  have hsram : Only [.latches, .srm, .dma, .regs] u u.dmaReset.sramWiped :=
    only_step (ps := [.latches, .srm, .dma, .regs]) (only_mono (only_dmaReset u) (by decide)) (only_sramWiped _)
  have hempty : u.dmaReset.sramWiped.latches = [] ∧ u.dmaReset.sramWiped.srm.mem = [] ∧ u.dmaReset.sramWiped.dma.chans = [] ∧
      u.dmaReset.sramWiped.dma.events = [] := ⟨rfl, rfl, rfl, rfl⟩
  generalize u.dmaReset.sramWiped = v at hsram hempty ⊢
  have hv : Only [.hbm, .cch, .latches, .srm, .dma, .regs] s v := only_step (ps := [.hbm, .cch, .latches, .srm, .dma, .regs])
    (only_mono hcache (by decide)) hsram
  have hvlines : v.cch.lines = [] := (congrArg Cch.lines (hsram .cch (by decide))).trans hlines
  obtain ⟨hlatches, hmem, hchans, hevents⟩ := hempty
  have hstreams : Only [.seq, .chn] v v.streamsWiped := only_streamsWiped v
  obtain ⟨hwords, hstop⟩ := streamsWiped_seq v
  rw [show v.sec = s.sec from hv .sec (by decide)] at hwords
  generalize v.streamsWiped = w at hstreams hwords hstop ⊢
  have hladders : w.workAgain.chn.ladders = [] := by
    have hreads : Only [.orb, .eqt] w.laddersEnded.dropRows w.workAgain := by
      unfold State.workAgain
      exact only_step (ps := [.orb, .eqt]) (only_mono (only_foldl (fun s e => only_readsAgain s e) _ _) (by decide))
        (only_foldl (fun s i => only_requestsAgain s i) _ _)
    exact (congrArg Chn.ladders (hreads .chn (by decide))).trans (ladders_dropRows w.laddersEnded)
  have hwork : Only [.orb, .chn, .plc, .eqt] w w.workAgain := only_workAgain w
  generalize w.workAgain = x at hladders hwork ⊢
  have hnoted : Only [.flt] x x.warmNoted := only_setFlt x _
  have hvx : Only [.seq, .orb, .chn, .plc, .eqt, .flt] v x.warmNoted := only_step (ps := [.seq, .orb, .chn, .plc, .eqt, .flt])
    (only_step (ps := [.seq, .orb, .chn, .plc, .eqt, .flt]) (only_mono hstreams (by decide)) hwork) hnoted
  have hwx : Only [.orb, .chn, .plc, .eqt, .flt] w x.warmNoted := only_step (ps := [.orb, .chn, .plc, .eqt, .flt])
    (only_mono hwork (by decide)) hnoted
  have hall : Only [.regs, .latches, .flt, .eqt, .plc, .orb, .chn, .seq, .dma, .hbm, .srm, .cch] s x.warmNoted :=
    only_step (ps := [.regs, .latches, .flt, .eqt, .plc, .orb, .chn, .seq, .dma, .hbm, .srm, .cch]) (only_mono hv (by decide)) hvx
  have hnow : x.now = s.now := hall .clock (by decide)
  exact {
    latches := (hvx .latches (by decide)).trans hlatches
    srm := (congrArg Srm.mem (hvx .srm (by decide))).trans hmem
    cch := (congrArg Cch.lines (hvx .cch (by decide))).trans hvlines
    dma := ⟨(congrArg Dma.chans (hvx .dma (by decide))).trans hchans, (congrArg Dma.events (hvx .dma (by decide))).trans hevents⟩
    seq := ⟨(congrArg Seqs.words (hwx .seq (by decide))).trans hwords, (congrArg Seqs.stopReq (hwx .seq (by decide))).trans hstop⟩
    ladders := hladders
    warm := congrArg some hnow
    only := hall }

/-- In Run, outside umbra, with no change of point and no activation, a warm reset takes effect at once. -/
theorem warmReset_eq {s : State} (humbra : s.pwr.umbra = false) (hactivation : s.eqt.activation = none) (hchange : s.pwr.change = none)
    (hpoint : s.pwr.point = 0) : s.warmReset = s.warmed := by
  have hcut : s.activationCut = s := by simp only [State.activationCut, hactivation]
  have honly := (wiped_warmed s).only
  have hsame : s.warmed.warmExit = s.warmed := by
    rw [State.warmExit, pwr_of_only Pwr.change honly (by decide), hchange]
    exact if_pos ((pwr_of_only Pwr.point honly (by decide)).trans hpoint)
  rw [State.warmReset, if_neg (by simp [humbra]), warmBody_eq, hcut, hsame]

/-- Settles O60: the banks of a boot with all stacks, the report of a boot with two, and what a warm chip reset wipes. -/
theorem bootAndWarmReset : Obligations.BootAndWarmReset := by
  unfold Obligations.BootAndWarmReset
  refine ⟨?all, ?two, ?warm⟩
  case all =>
    intro s hready hgood hrail hrest
    obtain ⟨hbooted, hpassed, hfallback, hrecovery⟩ := bootBanks_coldFilled s
    have hboot : s.coldBoot 15 0 0 = s.coldFilled.bootBanks := coldBoot_all hgood hrail hrest
    rw [← hboot] at hbooted hpassed hfallback hrecovery
    refine gives_without_sessions (exec_coldBoot 15 0 0 s) hready (congrArg Eqt.sessions hbooted.eqt) fun t ht heqt => ?_
    generalize s.coldBoot 15 0 0 = u at hbooted hpassed hfallback hrecovery ht heqt
    have hsec : t.sec = u.sec := (still_sec ht :)
    have hhbm : t.hbm = u.hbm := (still_hbm ht :)
    have hplc : t.plc = u.plc := (still_plc ht :)
    have htim {α : Type} (f : Tim → α) (hf : ∀ p x, f { p with seq := x } = f p) : f t.tim = f timReset :=
      (still_tim_field f ht hf).trans (congrArg f hbooted.tim)
    obtain ⟨huse, hfailed, hredundant⟩ := hbooted.hbm
    obtain ⟨hblocks, hrebuilt⟩ := hbooted.plc
    rw [heqt, hbooted.eqt, hsec, hhbm, hplc]
    refine ⟨huse, hfailed, hredundant, rfl, rfl, rfl, htim Tim.state fun _ _ => rfl, htim Tim.tick fun _ _ => rfl,
      (still_now ht).trans hbooted.now, hblocks, hrebuilt, hbooted.flash, hbooted.fuses, fun b hb => ?_⟩
    rw [show b = s.activeBank from hb]
    refine ⟨hpassed, hfallback, fun hone hother => ?_⟩
    obtain ⟨hnot, hrec⟩ := hrecovery hone hother
    exact ⟨hnot, hrec, errN_of_recovery (hsec.symm ▸ hrec)⟩
  case two =>
    intro s hready hgood hrail hrest
    refine gives_only (exec_coldBoot 3 0 0 s) hready fun t ht => ?_
    rw [coldBoot_two hgood hrail hrest] at ht
    rw [show t.sec = _ from ht .sec (by decide), show t.hbm = _ from ht .hbm (by decide), show t.flt = _ from ht .flt (by decide)]
    exact ⟨rfl, rfl, rfl, inbox_report (s.coldState.fillHbm 3 0) 226 4 0 3⟩
  case warm =>
    intro s hready humbra hactivation hchange hpoint
    refine gives_only (exec_warmReset s) hready fun t ht => ?_
    rw [warmReset_eq humbra hactivation hchange hpoint] at ht
    have hw := wiped_warmed s
    obtain ⟨hchans, hevents⟩ := hw.dma
    obtain ⟨hwords, hstop⟩ := hw.seq
    have honly := only_step hw.only ht
    generalize s.warmed = u at ht hw hchans hevents hwords hstop
    exact ⟨tim_of_only Tim.tick honly (by decide), tim_of_only Tim.state honly (by decide), honly .clock (by decide),
      (ht .latches (by decide)).trans hw.latches, (congrArg Srm.mem (ht .srm (by decide))).trans hw.srm,
      (congrArg Cch.lines (ht .cch (by decide))).trans hw.cch, (congrArg Dma.chans (ht .dma (by decide))).trans hchans,
      (congrArg Dma.events (ht .dma (by decide))).trans hevents, (congrArg Seqs.words (ht .seq (by decide))).trans hwords,
      (congrArg Seqs.stopReq (ht .seq (by decide))).trans hstop, (congrArg Chn.ladders (ht .chn (by decide))).trans hw.ladders,
      (congrArg Flt.lastWarm (ht .flt (by decide))).trans hw.warm,
      (pwr_of_only Pwr.point honly (by decide)).trans hpoint, only_mono honly (by decide)⟩

end Sys2Proof.Machine
end

section
/-! SUPPORT. Event sources: what a target mask and a raised event do to their source (Table 11.5), and the packets that an event sends. -/

namespace Sys2Proof.Machine

open Sys2Proof

-- One declaration at a time: proofs elaborated side by side hold a stack each, and the check bounds their sum.
set_option Elab.async false

/-! ## Packets that have been sent stay sent -/

/-- No packet that has been sent, or that waits at a paused port, is lost. -/
def PktsKept (s t : State) : Prop := s.out ⊆ t.out ∧ s.eqt.held ⊆ t.eqt.held

theorem pktsKept_refl (s : State) : PktsKept s s := ⟨List.Subset.refl _, List.Subset.refl _⟩

theorem pktsKept_trans {s t u : State} (h : PktsKept s t) (k : PktsKept t u) : PktsKept s u :=
  ⟨List.Subset.trans h.1 k.1, List.Subset.trans h.2 k.2⟩

theorem pktsKept_of_eq {s t : State} (ho : t.out = s.out) (hh : t.eqt.held = s.eqt.held) : PktsKept s t :=
  ⟨ho ▸ List.Subset.refl _, hh ▸ List.Subset.refl _⟩

theorem pktsKept_setSess (s : State) (i : Nat) (x : Session) : PktsKept s (s.setSess i x) := pktsKept_of_eq rfl rfl

theorem pktsKept_request (s : State) (i n : Nat) (k : ReqKind) : PktsKept s (s.request i n k) := pktsKept_of_eq rfl rfl

theorem pktsKept_sendPkt (s : State) (i : Nat) (p : Pkt) : PktsKept s (s.sendPkt i p) := by
  simp only [State.sendPkt]
  split
  · exact ⟨List.Subset.refl _, List.subset_append_left _ _⟩
  · exact ⟨(still_emit s _).2.2.subset, List.Subset.refl _⟩

theorem pktsKept_foldl {β : Type} {f : State → β → State} (h : ∀ s b, PktsKept s (f s b)) (l : List β) (s : State) :
    PktsKept s (l.foldl f s) := by
  induction l generalizing s with
  | nil => exact pktsKept_refl s
  | cons b l ih => exact pktsKept_trans (h s b) (ih _)

theorem pktsKept_notify (s : State) (i ring : Nat) : PktsKept s (s.notify i ring) := by
  simp only [State.notify]
  split
  · exact pktsKept_trans (pktsKept_trans (pktsKept_setSess s i _) (pktsKept_sendPkt _ _ _)) (pktsKept_request _ _ _ _)
  · exact pktsKept_setSess s i _

/-- The ring after a record has been written into its next slot. -/
def eventRingOn (q : EventRing) : EventRing :=
  { q with wr := if q.wr + 1 = 2 ^ q.log2 then 0 else q.wr + 1, phase := if q.wr + 1 = 2 ^ q.log2 then !q.phase else q.phase, fresh := true }

/-- The state in which a record has taken its slot, before its packet is sent. -/
def State.evPlaced (s : State) (i : Nat) : State := s.stamped.setSess i { s.sess i with eq := eventRingOn (s.sess i).eq }

/-- The state in which the packet of a record has left. -/
def State.evSent (s : State) (i : Nat) (e : EventRec) : State :=
  ((s.evPlaced i).sendPkt i (.ringWrite 2 (s.sess i).eq.wr (eventBits { e with pair := s.pair } (s.sess i).eq.phase))).request i 1 .event

theorem evWrite_eq (s : State) (i : Nat) (e : EventRec) :
    s.evWrite i e = if (s.sess i).eq.wr = (s.sess i).eq.head then (s.evSent i e).notify i 2 else s.evSent i e := rfl

/-- Once its packet has left, the rest of writing a record loses none. -/
theorem pktsKept_evWrite_sent (s : State) (i : Nat) (e : EventRec) :
    PktsKept ((s.evPlaced i).sendPkt i (.ringWrite 2 (s.sess i).eq.wr (eventBits { e with pair := s.pair } (s.sess i).eq.phase)))
      (s.evWrite i e) := by
  rw [evWrite_eq]
  split
  · exact pktsKept_trans (pktsKept_request _ i 1 .event) (pktsKept_notify _ _ _)
  · exact pktsKept_request _ i 1 .event

theorem pktsKept_evWrite (s : State) (i : Nat) (e : EventRec) : PktsKept s (s.evWrite i e) :=
  pktsKept_trans (pktsKept_trans (pktsKept_of_eq (t := s.evPlaced i) rfl rfl) (pktsKept_sendPkt _ _ _)) (pktsKept_evWrite_sent s i e)

theorem pktsKept_evRaised (s : State) (i n c : Nat) (v : BitVec 64) : PktsKept s (s.evRaised i n c v) := by
  simp only [State.evRaised]
  split
  · exact pktsKept_evWrite s i _
  · exact pktsKept_setSess s i _

theorem pktsKept_enterPending (s : State) (n : Nat) (v : BitVec 32) : PktsKept s (s.enterPending n v) :=
  pktsKept_trans (pktsKept_of_eq (t := s.setSrc n { s.src n with state := .pending, holder := 0 }) rfl rfl)
    (pktsKept_foldl (fun _ _ => pktsKept_evRaised _ _ _ _ _) _ _)

theorem pktsKept_evcLevel (s : State) (n : Nat) : PktsKept s (s.evcLevel n) := by
  simp only [State.evcLevel]
  split
  · exact pktsKept_enterPending s n _
  · exact pktsKept_refl s

theorem pktsKept_noteLevels (s : State) : PktsKept s s.noteLevels := by
  simp only [State.noteLevels]
  split
  · exact pktsKept_foldl (fun s n => pktsKept_evcLevel s n) _ s
  · exact pktsKept_refl s

theorem pktsKept_noteQuiet (s : State) : PktsKept s s.noteQuiet := by
  simp only [State.noteQuiet]
  split <;> (try split) <;> exact pktsKept_of_eq rfl rfl

/-- A packet sent from a state that has the routes and ports of s is sent, whatever follows. -/
theorem sent_of_sendPkt {s u t : State} {i : Nat} {p : Pkt} (hport : ∀ n, u.port n = s.port n) (hpath : (u.sess i).path = (s.sess i).path)
    (h : PktsKept (u.sendPkt i p) t) : Sent i p s t := by
  have hroute : u.route i = s.route i := by simp only [State.route, hpath]
  have hpaused : (s.port (s.sess i).path.port).pausedByPeer = (u.port (u.route i).path.port).pausedByPeer := by rw [hroute, hport]; rfl
  obtain ⟨hout, hheld⟩ := h
  simp only [Sent, hpaused, ← hroute]
  simp only [State.sendPkt] at hout hheld
  split
  · rename_i hp
    rw [if_pos hp] at hheld
    exact hheld (List.mem_append_right _ List.mem_cons_self)
  · rename_i hp
    rw [if_neg hp] at hout
    exact hout (by simp [State.emit])

/-! ## Level sources that stand raised -/

/-- A look at the level sources leaves one that stands raised alone. -/
theorem src_noteLevels_raised {s : State} {m : Nat} (h : LevelRaised s m) : s.noteLevels.src m = s.src m := by
  have hone (u : State) (n : Nat) (hu : LevelRaised u m) : (u.evcLevel n).src m = u.src m := by
    by_cases hm : m = n
    · rw [← hm, State.evcLevel, if_neg hu]
    · exact src_evcLevel_other u hm
  have key : ∀ (l : List Nat) (u : State), LevelRaised u m → (l.foldl State.evcLevel u).src m = u.src m := by
    intro l
    induction l with
    | nil => exact fun _ _ => rfl
    | cons n l ih => exact fun u hu => (ih _ (levelRaised_evcLevel u n m hu)).trans (hone u n hu)
  simp only [State.noteLevels]
  split
  · exact key levelSources s h
  · rfl

/-- Where no level source waits to be raised, a look at them changes nothing. -/
theorem noteLevels_of_raised {s : State} (h : LevelsRaised s) : s.noteLevels = s := by
  have key : ∀ l : List Nat, (∀ n ∈ l, LevelRaised s n) → l.foldl State.evcLevel s = s := by
    intro l
    induction l with
    | nil => exact fun _ => rfl
    | cons n l ih =>
      intro hl
      have hn : s.evcLevel n = s := by rw [State.evcLevel, if_neg (hl n List.mem_cons_self)]
      rw [List.foldl_cons, hn]
      exact ih fun m hm => hl m (List.mem_cons_of_mem n hm)
  simp only [State.noteLevels]
  split
  · rename_i hbooted
    exact key levelSources (h hbooted)
  · rfl

/-- The level sources stand raised after event records of other sources. -/
theorem levelsRaised_of_still {s t : State} (h : Still s t) (hsrc : ∀ n ∈ levelSources, t.src n = s.src n) (hs : LevelsRaised s) :
    LevelsRaised t := by
  intro hbooted n hn
  rw [still_sec h] at hbooted
  exact levelRaised_of_still h (hsrc n hn) (hs hbooted n hn)

/-- A row that is taken completes with what holds of the state that is its effect, once the level sources have been looked at. -/
theorem gives_noted {c : Instr} {need : Need} {s : State} {f : State → State} {P : State → Prop} (hc : exec c s = row c need s f)
    (hready : c.wf = true ∧ s.has need = true) (h : P { (f s).noteLevels.noteQuiet with pending := s.pending }) : Gives c s P :=
  ⟨_, hc.trans (row_taken c need s f hready.1 hready.2), rfl, h⟩

/-! ## Target masks -/

/-- What a write of an upper half puts into force: registers and latches. -/
theorem upperWrite_shape (s : State) (ag : Agent) (lo hi : Reg) (v : Word) :
    ∃ g l, s.upperWrite ag lo hi v = { s with regs := g, latches := l } := by
  simp only [State.upperWrite]
  split
  · exact ⟨_, _, rfl⟩
  · exact ⟨_, _, rfl⟩

theorem rv_upperWrite_hi (s : State) (ag : Agent) (lo hi : Reg) (v : Word) : (s.upperWrite ag lo hi v).rv hi = v &&& regRw hi :=
  rv_setRv_same _ hi v

theorem rv_upperWrite_lo (s : State) (ag : Agent) {lo hi : Reg} (v : Word) (h : regAddr lo ≠ regAddr hi) :
    (s.upperWrite ag lo hi v).rv lo = match (s.latch ag (regAddr lo)).lower with
      | some w => w &&& regRw lo
      | none => s.rv lo := by
  have hlast (u : State) (l : Latch) : ((u.setLatch l).setRv hi v).rv lo = u.rv lo := rv_setRv_other _ v h
  rw [State.upperWrite, hlast]
  cases (s.latch ag (regAddr lo)).lower with
  | some w => exact rv_setRv_same s lo w
  | none => rfl

theorem rv_upperWrite_other (s : State) (ag : Agent) {lo hi r : Reg} (v : Word) (hlo : regAddr r ≠ regAddr lo)
    (hhi : regAddr r ≠ regAddr hi) : (s.upperWrite ag lo hi v).rv r = s.rv r := by
  have hlast (u : State) (l : Latch) : ((u.setLatch l).setRv hi v).rv r = u.rv r := rv_setRv_other _ v hhi
  rw [State.upperWrite, hlast]
  split
  · exact rv_setRv_other s _ hlo
  · rfl

theorem portsDown_congr {s t : State} (hcfg : ∀ p, p < 2 → t.rv (.ethCfg p) = s.rv (.ethCfg p)) (hports : t.eqt.ports = s.eqt.ports) :
    t.portsDown = s.portsDown := by
  have hbelow : (below 2 fun p => bit (t.rv (.ethCfg p)) 31 && !(t.port p).link) =
      below 2 fun p => bit (s.rv (.ethCfg p)) 31 && !(s.port p).link := by
    refine List.filter_congr fun p hp => ?_
    rw [hcfg p (List.mem_range.mp hp), State.port, hports]
    rfl
  rw [State.portsDown, hbelow, State.portsDown]

/-- Of the registers the conditions of Table 11.4 read only the port settings and the transit lock settings. -/
theorem levelHolds_regs {s : State} {g : Assoc Word} {l : List Latch}
    (hcfg : ∀ p, p < 2 → ({ s with regs := g, latches := l } : State).rv (.ethCfg p) = s.rv (.ethCfg p))
    (hlock : ({ s with regs := g, latches := l } : State).rv .spnTlCfg = s.rv .spnTlCfg) (n : Nat) :
    ({ s with regs := g, latches := l } : State).levelHolds n = s.levelHolds n := by
  have hports := portsDown_congr hcfg rfl
  simp only [State.levelHolds, hports, hlock]
  rfl

theorem regAddr_ethCfg_ne_mask {p n : Nat} (hp : p < 2) (hn : n < 256) :
    regAddr (.ethCfg p) ≠ regAddr (.evcMaskLo n) ∧ regAddr (.ethCfg p) ≠ regAddr (.evcMaskHi n) := by
  simp only [regAddr, regSpot, blockBase]
  omega

theorem regAddr_spnTlCfg_ne_mask {n : Nat} (hn : n < 256) :
    regAddr .spnTlCfg ≠ regAddr (.evcMaskLo n) ∧ regAddr .spnTlCfg ≠ regAddr (.evcMaskHi n) := by
  simp only [regAddr, regSpot, blockBase]
  omega

theorem levelHolds_maskWrite (s : State) (ag : Agent) {n : Nat} (v : Word) (hn : n < 256) (m : Nat) :
    (s.upperWrite ag (.evcMaskLo n) (.evcMaskHi n) v).levelHolds m = s.levelHolds m := by
  have hother {r : Reg} (h : regAddr r ≠ regAddr (.evcMaskLo n) ∧ regAddr r ≠ regAddr (.evcMaskHi n)) :=
    rv_upperWrite_other s ag v h.1 h.2
  obtain ⟨g, l, hshape⟩ := upperWrite_shape s ag (.evcMaskLo n) (.evcMaskHi n) v
  rw [hshape] at hother ⊢
  exact levelHolds_regs (fun p hp => hother (regAddr_ethCfg_ne_mask hp hn)) (hother (regAddr_spnTlCfg_ne_mask hn)) m

theorem still_releaseClaim (s : State) (n : Nat) : Still s (s.releaseClaim n) := by
  simp only [State.releaseClaim]
  split
  · exact still_enterPending s n _
  · exact still_refl s

theorem still_maskChanged (s : State) (n old : Nat) : Still s (s.maskChanged n old) := by
  simp only [State.maskChanged]
  split
  · exact still_refl s
  · split
    · split
      · split
        · exact still_evcLevel s n
        · split
          · exact still_enterPending s n _
          · exact still_refl s
      · exact still_refl s
    · split
      · exact still_setSrc s n _
      · exact still_foldl _ _ (fun _ _ => still_evRaised _ _ _ _ _) s
    · split
      · exact still_refl s
      · exact still_releaseClaim s n

/-- Where a source goes with the mask that is in force (Table 11.5). -/
def State.maskGoes (s : State) (n : Nat) : EvSource :=
  match (s.src n).state with
  | .idle => if s.evcMask n ≠ 0 ∧ (if evcIsLevel n then s.levelHolds n = true else (s.src n).count ≠ 0) then
      { s.src n with state := .pending, holder := 0 } else s.src n
  | .pending => if s.evcMask n = 0 then { s.src n with state := .idle, holder := 0 } else s.src n
  | .claimed => if (s.evcMask n).testBit (s.sess (s.src n).holder).group then s.src n else { s.src n with state := .pending, holder := 0 }

theorem src_maskChanged_same {s : State} {n : Nat} (old : Nat) (hlisted : evcListed n = true) :
    (s.maskChanged n old).src n = s.maskGoes n := by
  have hfold (l : List Nat) (c : State → Nat) (v : State → BitVec 64) : (l.foldl (fun s i => s.evRaised i n (c s) (v s)) s).src n = s.src n := by
    rw [State.src, foldl_keeps State.evc _ (fun _ _ => evRaised_evc ..)]
    rfl
  simp only [State.maskChanged, State.maskGoes, hlisted]
  cases hstate : (s.src n).state with
  | idle =>
    by_cases hmask : s.evcMask n = 0
    · simp [hmask]
    · cases hlevel : evcIsLevel n with
      | true => by_cases hholds : s.levelHolds n = true <;> simp [hmask, hholds, State.evcLevel, hstate]
      | false => by_cases hcount : (s.src n).count = 0 <;> simp [hmask, hcount]
  | pending =>
    by_cases hmask : s.evcMask n = 0
    · simp [hmask]
    · simp only [hmask, Bool.not_true, Bool.false_eq_true, if_false]
      exact hfold _ (fun s => if evcIsLevel n then 0 else (s.src n).count) fun s => (s.snapshot n).setWidth 64
  | claimed =>
    by_cases hheld : (s.evcMask n).testBit (s.sess (s.src n).holder).group = true
    · simp [hheld]
    · simp [hheld, State.releaseClaim, hstate]

theorem src_releaseClaim_other (s : State) {n m : Nat} (h : m ≠ n) : (s.releaseClaim n).src m = s.src m := by
  simp only [State.releaseClaim]
  split
  · exact src_enterPending_other s _ h
  · rfl

theorem src_maskChanged_other (s : State) {n m : Nat} (old : Nat) (h : m ≠ n) : (s.maskChanged n old).src m = s.src m := by
  have hfold (l : List Nat) (c : State → Nat) (v : State → BitVec 64) : (l.foldl (fun s i => s.evRaised i n (c s) (v s)) s).src m = s.src m := by
    rw [State.src, foldl_keeps State.evc _ (fun _ _ => evRaised_evc ..)]
    rfl
  simp only [State.maskChanged]
  split
  · rfl
  · split
    · split
      · split
        · exact src_evcLevel_other s h
        · split
          · exact src_enterPending_other s _ h
          · rfl
      · rfl
    · split
      · exact src_setSrc_other s _ h
      · exact hfold _ (fun s => if evcIsLevel n then 0 else (s.src n).count) fun s => (s.snapshot n).setWidth 64
    · split
      · rfl
      · exact src_releaseClaim_other s h

/-- A level source that a new mask leaves IDLE has no reason to be raised. -/
theorem levelRaised_maskChanged {s : State} {n : Nat} (old : Nat) (hlisted : evcListed n = true) (hlevel : evcIsLevel n = true) :
    LevelRaised (s.maskChanged n old) n := by
  rw [LevelRaised, src_maskChanged_same old hlisted, still_levelHolds (still_maskChanged s n old), still_evcMask (still_maskChanged s n old),
    State.maskGoes]
  rintro ⟨hidle, hholds, hmask⟩
  cases hstate : (s.src n).state with
  | idle => simp [hstate, hmask, hlevel, hholds] at hidle
  | pending => simp [hstate, hmask] at hidle
  | claimed => by_cases hheld : (s.evcMask n).testBit (s.sess (s.src n).holder).group = true <;> simp [hstate, hheld] at hidle

theorem evcIsLevel_of_mem {n : Nat} (h : n ∈ levelSources) : evcIsLevel n = true := by
  simp only [levelSources, List.mem_cons, List.not_mem_nil, or_false] at h
  rcases h with rfl | rfl | rfl | rfl | rfl | rfl | rfl | rfl | rfl | rfl | rfl | rfl <;> rfl

theorem evcListed_lt {n : Nat} (h : evcListed n = true) : n < 256 := by
  simp only [evcListed, Bool.or_eq_true, Bool.and_eq_true, decide_eq_true_eq] at h
  omega

/-- A row that is taken completes with what holds of every state that is its effect but for events, and keeps the event sources of its
effect but for level sources that are to be raised. -/
theorem gives_sources {c : Instr} {need : Need} {s : State} {f : State → State} {P : State → Prop} (hc : exec c s = row c need s f)
    (hready : c.wf = true ∧ s.has need = true)
    (h : ∀ t, Only [] (f s) t → (∀ n, n ∉ levelSources ∨ LevelRaised (f s) n → t.src n = (f s).src n) → P t) : Gives c s P := by
  refine gives_noted hc hready (h _ ?_ fun n hn => ?_)
  · exact only_answer (only_refl _ _) (still_pending (still_trans (still_noteLevels _) (still_noteQuiet _)) s.pending)
  · refine (noteQuiet_src _ n).trans ?_
    rcases hn with hn | hn
    · exact src_noteLevels_edge _ hn
    · exact src_noteLevels_raised hn

theorem evcMask_of_regs {s t : State} (h : t.regs = s.regs) (n : Nat) : t.evcMask n = s.evcMask n := by
  simp only [State.evcMask, State.rv64, State.rv, h]

theorem rv_of_regs {s t : State} (h : t.regs = s.regs) (r : Reg) : t.rv r = s.rv r := by simp only [State.rv, h]

/-- A mask moves the state and the holder of its source, and nothing else. -/
theorem maskGoes_shape (s : State) (n : Nat) : ∃ st k, s.maskGoes n = { s.src n with state := st, holder := k } := by
  have key {p : Prop} [Decidable p] (st : EvState) (k : Nat) : ∃ st' k', (if p then { s.src n with state := st, holder := k } else s.src n) =
      { s.src n with state := st', holder := k' } := by
    split
    · exact ⟨_, _, rfl⟩
    · exact ⟨_, _, rfl⟩
  have key' {p : Prop} [Decidable p] (st : EvState) (k : Nat) : ∃ st' k', (if p then s.src n else { s.src n with state := st, holder := k }) =
      { s.src n with state := st', holder := k' } := by
    split
    · exact ⟨_, _, rfl⟩
    · exact ⟨_, _, rfl⟩
  simp only [State.maskGoes]
  cases (s.src n).state with
  | idle => exact key .pending 0
  | pending => exact key .idle 0
  | claimed => exact key' .pending 0

theorem levelHolds_wrote (s u : State) (ag : Agent) (r : Reg) (n : Nat) : (s.wrote u ag r).levelHolds n = u.levelHolds n := by
  simp only [State.wrote]
  split <;> split <;> rfl

/-- The clause of O52 on a mask that comes into force. -/
theorem evcMaskWrite_upper {s : State} {ag : Agent} {n : Nat} {v : Word} (hready : Ready (.evcMaskWrite ag n true v) s)
    (hlisted : evcListed n = true) (hacc : Accepts s (.evcMaskHi n) v) :
    Gives (.evcMaskWrite ag n true v) s fun t =>
      t.regs = (s.upperWrite ag (.evcMaskLo n) (.evcMaskHi n) v).regs ∧
      t.src n = (s.upperWrite ag (.evcMaskLo n) (.evcMaskHi n) v).maskGoes n ∧
      (∀ m, m ≠ n → evcIsLevel m = false → t.src m = s.src m) ∧ Only [.regs, .latches, .tim, .pin] s t := by
  have heffect : s.regRow ag (.evcMaskHi n) v =
      s.wrote ((s.upperWrite ag (.evcMaskLo n) (.evcMaskHi n) v).maskChanged n (s.evcMask n)) ag (.evcMaskHi n) := regRow_of_accepts hacc
  obtain ⟨g, l, hshape⟩ := upperWrite_shape s ag (.evcMaskLo n) (.evcMaskHi n) v
  refine gives_sources (exec_evcMaskWrite ag n true v s) hready fun t ht hsrc => ?_
  rw [if_pos rfl, heffect] at ht hsrc
  generalize s.upperWrite ag (.evcMaskLo n) (.evcMaskHi n) v = w at hshape ht hsrc ⊢
  have hstill := still_maskChanged w n (s.evcMask n)
  have hsame := src_maskChanged_same (s := w) (s.evcMask n) hlisted
  have hother (m : Nat) (hm : m ≠ n) : (w.maskChanged n (s.evcMask n)).src m = s.src m := by
    rw [src_maskChanged_other w _ hm, hshape]
    rfl
  have hraised (hlevel : evcIsLevel n = true) := levelRaised_maskChanged (s := w) (s.evcMask n) hlisted hlevel
  generalize w.maskChanged n (s.evcMask n) = x at hstill hsame hother hraised ht hsrc
  have hysrc (m : Nat) : (s.wrote x ag (.evcMaskHi n)).src m = x.src m := wrote_keeps (fun u => u.src m) s x ag _
  have hyraised (hlevel : evcIsLevel n = true) : LevelRaised (s.wrote x ag (.evcMaskHi n)) n := by
    rw [LevelRaised, hysrc, levelHolds_wrote, wrote_keeps (fun u => u.evcMask n) s x ag _]
    exact hraised hlevel
  refine ⟨?_, ?_, fun m hm hedge => ?_, ?_⟩
  · exact ((ht .regs (by decide)).trans (wrote_keeps State.regs s x ag _)).trans (still_regs hstill)
  · refine (hsrc n ?_).trans ((hysrc n).trans hsame)
    by_cases hlevel : evcIsLevel n = true
    · exact .inr (hyraised hlevel)
    · exact .inl fun hmem => hlevel (evcIsLevel_of_mem hmem)
  · refine (hsrc m (.inl fun hmem => ?_)).trans ((hysrc m).trans (hother m hm))
    exact absurd (evcIsLevel_of_mem hmem) (by simp [hedge])
  · have hw : Only [.regs, .latches, .tim, .pin] s w := by rw [hshape]; simp [only_iff, State.sess]
    exact only_step (only_step (only_still hw hstill) (only_wrote s x ag _)) ht

theorem regAddr_mask_ne (n : Nat) : regAddr (.evcMaskLo n) ≠ regAddr (.evcMaskHi n) := by
  simp only [regAddr, regSpot, blockBase]
  omega

/-- The state in which an event of a source has been counted. -/
def State.evCounted (s : State) (n : Nat) (v : BitVec 32) : State :=
  s.setSrc n { s.src n with count := satInc (s.src n).count 255, value := v }

/-- A counted event of an edge source (R411, R416). -/
theorem src_evcEdge_same (s : State) (n : Nat) (v : BitVec 32) : (s.evcEdge n v).src n = { s.src n with
    count := satInc (s.src n).count 255, value := v,
    state := if (s.src n).state = .idle ∧ s.evcMask n ≠ 0 then .pending else (s.src n).state,
    holder := if (s.src n).state = .idle ∧ s.evcMask n ≠ 0 then 0 else (s.src n).holder } := by
  have hmask (e : EvSource) : (s.setSrc n e).evcMask n = s.evcMask n := rfl
  simp only [State.evcEdge, hmask]
  split <;> simp

theorem src_evcEdge_other (s : State) {n m : Nat} (v : BitVec 32) (h : m ≠ n) : (s.evcEdge n v).src m = s.src m := by
  simp only [State.evcEdge]
  split
  · exact (src_enterPending_other _ _ h).trans (src_setSrc_other s _ h)
  · exact src_setSrc_other s _ h

theorem evcMask_of_target {s : State} {n i : Nat} (h : i ∈ s.evTargets n) : s.evcMask n ≠ 0 := by
  intro hzero
  obtain ⟨-, hgood⟩ := List.mem_filter.mp h
  simp [State.eligible, hzero] at hgood

/-- An event of an IDLE edge source with one session to tell: the session gets its RAISED record (R421). -/
theorem evcEdge_one {s : State} {n i : Nat} {v : BitVec 32} (hidle : (s.src n).state = .idle) (hone : s.evTargets n = [i])
    (hedge : evcIsLevel n = false) :
    ∃ e, s.evcEdge n v = (s.setSrc n e).evRaised i n (satInc (s.src n).count 255) (v.setWidth 64) := by
  have hmask := evcMask_of_target (s := s) (n := n) (hone ▸ List.mem_cons_self : i ∈ s.evTargets n)
  have htargets (u : State) (e : EvSource) : (u.setSrc n e).evTargets n = u.evTargets n := rfl
  have hcond : (s.src n).state = .idle ∧
      (s.setSrc n { s.src n with count := satInc (s.src n).count 255, value := v }).evcMask n ≠ 0 := ⟨hidle, hmask⟩
  refine ⟨{ s.src n with count := satInc (s.src n).count 255, value := v, state := .pending, holder := 0 }, ?_⟩
  simp only [State.evcEdge]
  rw [if_pos hcond]
  simp only [State.enterPending, htargets, hone, hedge, src_setSrc_same, List.foldl_cons, List.foldl_nil]
  simp only [State.setSrc, acanon_acanon]
  rfl

theorem softSource_edge (v : Word) : evcIsLevel (192 + fld v 21 16) = false := by
  simp [evcIsLevel]
  omega

/-- A RAISED record for a session with a free slot is written (R422). -/
theorem evRaised_room {s : State} {n i c : Nat} {v : BitVec 64} {e : EvSource} (h : evRoom (s.sess i) = true) :
    (s.setSrc n e).evRaised i n c v = (s.setSrc n e).evWrite i
      { source := n, count := c, value := v, pair := s.pair, kind := .raised, overflow := false } := if_pos h

/-- A RAISED record for a session without a free slot is deferred (R422). -/
theorem evRaised_full {s : State} {n i c : Nat} {v : BitVec 64} {e : EvSource} (h : evRoom (s.sess i) = false) :
    (s.setSrc n e).evRaised i n c v = (s.setSrc n e).setSess i { s.sess i with
      eq := { (s.sess i).eq with deferred := aput (s.sess i).eq.deferred n (v, c), overflow := true } } :=
  if_neg (by simp [h] : ¬evRoom (s.sess i) = true)

/-- A write of EVC_RAISE completes with one event of its source. -/
theorem gives_evcRaise {s : State} {ag : Agent} {v : Word} {P : State → Prop} (hready : Ready (.evcRaise ag v) s)
    (hacc : Accepts s .evcRaise v)
    (h : ∀ t, Still { s.wrote (s.evcEdge (192 + fld v 21 16) (v &&& 0xFFFF)) ag .evcRaise with pending := s.pending } t →
      t = { (s.wrote (s.evcEdge (192 + fld v 21 16) (v &&& 0xFFFF)) ag .evcRaise).noteLevels.noteQuiet with pending := s.pending } →
      P t) : Gives (.evcRaise ag v) s P := by
  have heffect : s.regRow ag .evcRaise v = s.wrote (s.evcEdge (192 + fld v 21 16) (v &&& 0xFFFF)) ag .evcRaise := regRow_of_accepts hacc
  refine gives_noted (exec_evcRaise ag v s) hready ?_
  rw [heffect]
  exact h _ (still_pending (still_trans (still_noteLevels _) (still_noteQuiet _)) s.pending) rfl

/-- What an event that EVC_RAISE raises leaves of the sources. -/
theorem src_evcRaise {s t : State} {ag : Agent} {n : Nat} {v : BitVec 32}
    (ht : t = { (s.wrote (s.evcEdge n v) ag .evcRaise).noteLevels.noteQuiet with pending := s.pending }) {m : Nat}
    (hm : evcIsLevel m = false) : t.src m = (s.evcEdge n v).src m := by
  have hedge : m ∉ levelSources := fun hmem => absurd (evcIsLevel_of_mem hmem) (by simp [hm])
  rw [ht]
  exact ((noteQuiet_src _ m).trans (src_noteLevels_edge _ hedge)).trans (wrote_keeps (fun u => u.src m) s _ ag _)

theorem only_evcRaise {s t : State} {ag : Agent} {n : Nat} {v : BitVec 32}
    (ht : Still { s.wrote (s.evcEdge n v) ag .evcRaise with pending := s.pending } t) : Only [.pin] s t :=
  only_answer (only_step (only_mono (only_evcEdge s n v) (by decide)) (only_wrote_plain s _ ag rfl)) ht

theorem state_evcEdge_one {s : State} {n i : Nat} {v : BitVec 32} (hidle : (s.src n).state = .idle) (hone : s.evTargets n = [i]) :
    ((s.evcEdge n v).src n).state = .pending := by
  rw [src_evcEdge_same]
  exact if_pos ⟨hidle, evcMask_of_target (i := i) (hone ▸ List.mem_cons_self)⟩

/-- What follows the effect of EVC_RAISE loses no packet. -/
theorem pktsKept_evcRaise {s u t : State} {ag : Agent}
    (ht : t = { (s.wrote u ag .evcRaise).noteLevels.noteQuiet with pending := s.pending }) : PktsKept u t := by
  have hwrote : PktsKept u (s.wrote u ag .evcRaise) :=
    pktsKept_of_eq (wrote_keeps State.out s u ag _) (wrote_keeps (fun x => x.eqt.held) s u ag _)
  rw [ht]
  exact pktsKept_trans (pktsKept_trans hwrote (pktsKept_noteLevels _)) (pktsKept_trans (pktsKept_noteQuiet _) (pktsKept_of_eq rfl rfl))

theorem levelsRaised_evcRaise {s : State} (h : LevelsRaised s) (ag : Agent) {n : Nat} (v : BitVec 32) (hn : evcIsLevel n = false) :
    LevelsRaised (s.wrote (s.evcEdge n v) ag .evcRaise) := by
  have hedge : LevelsRaised (s.evcEdge n v) := levelsRaised_of_still (still_evcEdge s n v) (fun m hm => src_evcEdge_other s v fun heq => by
    rw [heq] at hm
    exact absurd (evcIsLevel_of_mem hm) (by simp [hn])) h
  intro hbooted m hm
  rw [wrote_keeps State.sec s _ ag _] at hbooted
  rw [wrote_keeps (fun u => u.src m) s _ ag _, levelHolds_wrote, wrote_keeps (fun u => u.evcMask m) s _ ag _]
  exact hedge hbooted m hm

/-- Settles O52: a target mask moves its source as Table 11.5 leads (`src_maskChanged_same`), a raised event counts on its own source and
goes to the sessions that are to hear of it (`evcEdge_one`). -/
theorem eventSources : Obligations.EventSources := by
  unfold Obligations.EventSources
  refine ⟨?lower, ?upper, ?raise, ?sent, ?deferred⟩
  case lower =>
    intro s ag n v hready hmap hon
    refine gives_still (exec_evcMaskWrite ag n false v s) hready rfl (still_of_eq ?_)
    exact setupWrite_of_lower hmap hon rfl
  case upper =>
    intro s ag n v hready hlisted hacc
    have hn := evcListed_lt hlisted
    refine gives_mono (evcMaskWrite_upper hready hlisted hacc) fun t ⟨hregs, hsrc, hother, honly⟩ => ?_
    obtain ⟨g, l, hshape⟩ := upperWrite_shape s ag (.evcMaskLo n) (.evcMaskHi n) v
    have hholds := levelHolds_maskWrite s ag v hn n
    have hhi := rv_upperWrite_hi s ag (.evcMaskLo n) (.evcMaskHi n) v
    have hlo := rv_upperWrite_lo s ag v (regAddr_mask_ne n)
    obtain ⟨st, k, hgoes⟩ := maskGoes_shape (s.upperWrite ag (.evcMaskLo n) (.evcMaskHi n) v) n
    generalize s.upperWrite ag (.evcMaskLo n) (.evcMaskHi n) v = w at *
    have hwsrc : w.src n = s.src n := by rw [hshape]; rfl
    have hwsess (i : Nat) : w.sess i = s.sess i := by rw [hshape]; rfl
    refine ⟨(rv_of_regs hregs _).trans hhi, (rv_of_regs hregs _).trans hlo, ?_, ?_, ?_, hother, eqt_of_only Eqt.cmds honly (by decide), honly⟩
    · rw [hsrc, hgoes, ← hwsrc]
    · rw [hsrc, hgoes, ← hwsrc]
    · rw [hsrc, State.maskGoes, hwsrc, hholds, hwsess, evcMask_of_regs hregs]
      cases hstate : (s.src n).state with
      | idle => exact (apply_ite EvSource.state _ _ _).trans (by simp only [hstate])
      | pending => exact (apply_ite EvSource.state _ _ _).trans (by simp only [hstate])
      | claimed => exact (apply_ite EvSource.state _ _ _).trans (by simp only [hstate])
  case raise =>
    intro s ag v hready hacc
    refine gives_evcRaise hready hacc fun t ht hrow => ?_
    have hn : evcIsLevel (192 + fld v 21 16) = false := softSource_edge v
    refine ⟨?_, fun m hm hedge => ?_, only_evcRaise ht⟩
    · rw [src_evcRaise hrow hn]
      exact src_evcEdge_same s _ _
    · rw [src_evcRaise hrow hedge]
      exact src_evcEdge_other s _ hm
  case sent =>
    intro s ag v i hready hacc hidle hone hroom
    refine gives_evcRaise hready hacc fun t ht hrow => ?_
    have hn : evcIsLevel (192 + fld v 21 16) = false := softSource_edge v
    refine ⟨?_, (src_evcRaise hrow hn).symm ▸ state_evcEdge_one hidle hone, only_evcRaise ht⟩
    obtain ⟨e, hedge⟩ := evcEdge_one (v := v &&& 0xFFFF) hidle hone hn
    rw [hedge, evRaised_room hroom] at hrow
    have hkept := pktsKept_trans (pktsKept_evWrite_sent _ _ _) (pktsKept_evcRaise hrow)
    refine sent_of_sendPkt (u := (s.setSrc (192 + fld v 21 16) e).evPlaced i) (fun _ => rfl) ?_ hkept
    rw [State.evPlaced, sess_setSess_same]
    rfl
  case deferred =>
    intro s ag v i hready hacc hidle hone hroom hraised
    refine gives_evcRaise hready hacc fun t ht hrow => ?_
    have hn : evcIsLevel (192 + fld v 21 16) = false := softSource_edge v
    refine ⟨?_, (src_evcRaise hrow hn).symm ▸ state_evcEdge_one hidle hone, only_evcRaise ht⟩
    rw [noteLevels_of_raised (levelsRaised_evcRaise hraised ag (v &&& 0xFFFF) hn)] at hrow
    obtain ⟨e, hedge⟩ := evcEdge_one (v := v &&& 0xFFFF) hidle hone hn
    rw [hedge, evRaised_full hroom] at hrow
    rw [hrow]
    refine (congrArg (fun q : Eqt => (agetD q.sessions i freeSession).eq)
      ((noteQuiet_eqt _).trans (wrote_keeps State.eqt s _ ag _))).trans ?_
    exact congrArg Session.eq (sess_setSess_same _ i _)

end Sys2Proof.Machine
end

section
/-! SUPPORT. The spindle (chapter 7): its gate outputs, how it starts, changes speed and stops, and transit lock. -/

namespace Sys2Proof.Machine

open Sys2Proof

-- One declaration at a time: proofs elaborated side by side hold a stack each, and the check bounds their sum.
set_option Elab.async false

/-! ## The gate outputs -/

/-- The bits of a sum of different powers of 2. -/
theorem sum_below_lt_and_testBit (p : Nat → Bool) (n : Nat) :
    ((below n p).map fun k => 2 ^ k).sum < 2 ^ n ∧
    ∀ j, (((below n p).map fun k => 2 ^ k).sum).testBit j = (decide (j < n) && p j) := by
  induction n with
  | zero => simp [below]
  | succ n ih =>
    obtain ⟨hlt, hbit⟩ := ih
    have hsum : ((below (n + 1) p).map fun k => 2 ^ k).sum = (if p n then 2 ^ n else 0) + ((below n p).map fun k => 2 ^ k).sum := by
      cases hp : p n <;> simp [below, List.range_succ, hp, Nat.add_comm]
    rw [hsum]
    cases hp : p n with
    | false =>
      refine ⟨by simp only [Bool.false_eq_true, if_false]; omega, fun j => ?_⟩
      simp only [Bool.false_eq_true, if_false, Nat.zero_add, hbit]
      by_cases hj : j = n
      · simp [hj, hp]
      · have : (j < n + 1) = (j < n) := by simp only [eq_iff_iff]; omega
        simp only [this]
    | true =>
      refine ⟨by simp only [if_true]; omega, fun j => ?_⟩
      simp only [if_true]
      rcases Nat.lt_trichotomy j n with hj | hj | hj
      · rw [Nat.testBit_two_pow_add_gt hj, hbit]
        simp [hj, Nat.lt_succ_of_lt hj]
      · subst hj
        rw [Nat.testBit_two_pow_add_eq, Nat.testBit_lt_two_pow hlt]
        simp [hp]
      · have hbig : 2 ^ n + ((below n p).map fun k => 2 ^ k).sum < 2 ^ j :=
          calc 2 ^ n + ((below n p).map fun k => 2 ^ k).sum < 2 ^ (n + 1) := by omega
            _ ≤ 2 ^ j := Nat.pow_le_pow_right (by decide) hj
        rw [Nat.testBit_lt_two_pow hbig]
        simp
        omega

/-- The gates in a state t follow what t calls for, where they were switched in a state u that called for the same. -/
theorem gatesFollow_of_switch {s t : State} (u : State) (hgates : u.spn.gates = s.spn.gates) (hfree : u.spn.gateFree = s.spn.gateFree)
    (hpers : u.spnPers = s.spnPers) (hnow : t.now = u.now) (hwant : t.gatesWanted = u.gatesWanted)
    (htgates : t.spn.gates = u.switchGates.spn.gates) (htfree : t.spn.gateFree = u.switchGates.spn.gateFree) : GatesFollow s t := by
  refine ⟨fun k hk => ?_, fun k => ?_⟩
  · rw [htfree, hwant, hnow, ← hgates, ← hfree, ← hpers]
    simp [State.switchGates, State.modSpn, hk]
  · rw [htgates, htfree, hwant, hnow]
    simp only [State.switchGates, State.modSpn, (sum_below_lt_and_testBit _ 6).2 k, Bool.and_assoc]

theorem gatesWanted_brake {t : State} (h : t.spn.state = .brake) : t.gatesWanted = 42 := by simp only [State.gatesWanted, h]

/-- In a state in which nothing drives the motor no gate is called for (Table 7.2). -/
theorem gatesWanted_rest {t : State} (h : t.spn.state ∈ [SpnState.stopped, .listen, .sense, .fault]) : t.gatesWanted = 0 := by
  simp only [List.mem_cons, List.not_mem_nil, or_false] at h
  rcases h with h | h | h | h <;> simp only [State.gatesWanted, h]

/-- What the gates called for depend on. -/
theorem gatesWanted_congr {t u : State} (hnow : t.now = u.now) (hpers : t.spnPers = u.spnPers) (hstate : t.spn.state = u.spn.state)
    (hsince : t.spn.since = u.spn.since) (hrotor : t.spn.rotor = u.spn.rotor) (hcross : t.spn.crossings = u.spn.crossings)
    (hspeed : t.spn.speed = u.spn.speed) (hduty : t.spn.duty = u.spn.duty) : t.gatesWanted = u.gatesWanted := by
  simp only [State.gatesWanted, State.commStep, hnow, hpers, hstate, hsince, hrotor, hcross, hspeed, hduty]

/-! ## Entering a state -/

/-- The spindle in a state, before its gates are switched. -/
def State.spnSet (s : State) (st : SpnState) (c : Int) : State := s.modSpn fun x => { x with state := st, since := s.now, command := c }

/-- The current command with which the spindle enters a state. -/
def State.entryCommand (s : State) : SpnState → Int
  | .align | .openLoop => ((s.spnPers.iAlign * 32767 / max 1 s.spnPers.iFs : Nat) : Int)
  | .brake => 32767
  | .ramp | .atSpeed => s.spn.command
  | _ => 0

theorem spnEnter_eq (s : State) (st : SpnState) : s.spnEnter st = (s.spnSet st (s.entryCommand st)).switchGates := by
  cases st <;> rfl

/-- Entering a state changes the spindle alone. -/
theorem spnEnter_shape (s : State) (st : SpnState) : ∃ g l, s.spnEnter st =
    { s with spn := { s.spn with state := st, since := s.now, command := s.entryCommand st, gates := g, gateFree := l } } := by
  rw [spnEnter_eq]
  exact ⟨_, _, rfl⟩

/-- The gates follow a state that is entered from u, where what comes after changes nothing that the gates depend on. -/
theorem gatesFollow_spnEnter {s t : State} (u : State) (st : SpnState) (hgates : u.spn.gates = s.spn.gates)
    (hfree : u.spn.gateFree = s.spn.gateFree) (hpers : u.spnPers = s.spnPers) (hnow : t.now = u.now)
    (hwant : t.gatesWanted = (u.spnSet st (u.entryCommand st)).gatesWanted)
    (htgates : t.spn.gates = (u.spnEnter st).spn.gates) (htfree : t.spn.gateFree = (u.spnEnter st).spn.gateFree) : GatesFollow s t := by
  rw [spnEnter_eq] at htgates htfree
  exact gatesFollow_of_switch (u.spnSet st (u.entryCommand st)) hgates hfree hpers hnow hwant htgates htfree

/-! ## Transit lock leaves with the spindle -/

/-- The spindle whose transit lock, where it is in force, waits (R273). -/
def waitSpn (x : Spn) : Spn := if x.tlState = .off then x else { x with tlState := .wait, phRun := 0, lossRun := 0, corr := 0 }

theorem still_tlWait (s : State) : Still { s with spn := waitSpn s.spn } s.tlWait := by
  simp only [State.tlWait, waitSpn]
  split
  · exact still_refl s
  · exact still_evcLevel _ 11

theorem waitSpn_shape (x : Spn) : ∃ st a b c, waitSpn x = { x with tlState := st, phRun := a, lossRun := b, corr := c } := by
  simp only [waitSpn]
  split
  · exact ⟨_, _, _, _, rfl⟩
  · exact ⟨_, _, _, _, rfl⟩

theorem waitSpn_tlState (x : Spn) : (waitSpn x).tlState = .wait ∨ (waitSpn x).tlState = .off := by
  simp only [waitSpn]
  split
  · exact .inr ‹_›
  · exact .inl rfl

theorem only_spnEnter (s : State) (st : SpnState) : Only [.spn] s (s.spnEnter st) := by
  obtain ⟨g, l, h⟩ := spnEnter_shape s st
  rw [h]
  exact only_setSpn s _

theorem only_tlWait (s : State) : Only [.spn] s s.tlWait := only_still (only_setSpn s _) (still_tlWait s)

/-- What RAMP, BRAKE and FAULT have in common: a state entered, transit lock waiting and D_max computed anew. -/
def State.spnLeft (s : State) (st : SpnState) (f : Spn → Spn) : State := (((s.spnEnter st).modSpn f).tlWait).recomputeDmax

theorem spnRamp_eq (s : State) : s.spnRamp = s.spnLeft .ramp fun x => { x with setPoint := x.speed, setAt := s.now, goodRevs := 0, badRevs := 0 } := by
  obtain ⟨g, l, h⟩ := spnEnter_shape s .ramp
  rw [State.spnRamp, State.spnLeft, h]

theorem spnFault_eq (s : State) : s.spnFault = s.spnLeft .fault fun x => { x with command := 0, duty := 0, enabledAt := 0, retryDue := none } := rfl

theorem only_spnLeft (s : State) (st : SpnState) (f : Spn → Spn) : Only [.spn, .plc, .pwr] s (s.spnLeft st f) := by
  unfold State.spnLeft
  have hspn : Only [.spn] s ((s.spnEnter st).modSpn f).tlWait := only_step (only_step (only_spnEnter s st) (only_modSpn _ f)) (only_tlWait _)
  exact only_step (only_mono hspn (by decide)) (only_recomputeDmax _)

theorem spn_spnLeft (s : State) (st : SpnState) (f : Spn → Spn) : (s.spnLeft st f).spn = waitSpn (f (s.spnEnter st).spn) := by
  have hdmax : (s.spnLeft st f).spn = ((s.spnEnter st).modSpn f).tlWait.spn := only_recomputeDmax _ .spn (by decide)
  exact hdmax.trans (still_spn (still_tlWait _))

/-- The gates follow a state that is entered, whatever of the spindle is set with it. -/
theorem gatesFollow_spnLeft {s t : State} (u : State) (st : SpnState) (f : Spn → Spn) (hgates : u.spn.gates = s.spn.gates)
    (hfree : u.spn.gateFree = s.spn.gateFree) (hpers : u.spnPers = s.spnPers) (hnow : t.now = u.now)
    (hspn : t.spn = waitSpn (f (u.spnEnter st).spn))
    (hwant : t.gatesWanted = (u.spnSet st (u.entryCommand st)).gatesWanted)
    (hf : ∀ x, (f x).gates = x.gates ∧ (f x).gateFree = x.gateFree := by exact fun _ => ⟨rfl, rfl⟩) : GatesFollow s t := by
  obtain ⟨a, b, c, d, hwait⟩ := waitSpn_shape (f (u.spnEnter st).spn)
  obtain ⟨hg, hl⟩ := hf (u.spnEnter st).spn
  rw [hwait] at hspn
  exact gatesFollow_spnEnter u st hgates hfree hpers hnow hwant ((congrArg Spn.gates hspn).trans hg) ((congrArg Spn.gateFree hspn).trans hl)

/-! ## RAMP -/

/-- The spindle that has entered RAMP at its measured speed (R255). -/
def rampSpn (x : Spn) (now : Nat) : Spn := { x with setPoint := x.speed, setAt := now, goodRevs := 0, badRevs := 0 }

theorem only_spnRamp (s : State) : Only [.spn, .plc, .pwr] s s.spnRamp := spnRamp_eq s ▸ only_spnLeft s _ _

theorem spn_spnRamp (s : State) : s.spnRamp.spn = waitSpn (rampSpn (s.spnEnter .ramp).spn s.now) := by
  rw [spnRamp_eq]
  exact spn_spnLeft s _ _

/-- What RAMP leaves of the spindle. -/
theorem spnRamp_fields (s : State) : ∃ g l st a b c, s.spnRamp.spn = { s.spn with
    state := .ramp, since := s.now, gates := g, gateFree := l, setPoint := s.spn.speed, setAt := s.now, goodRevs := 0, badRevs := 0,
    tlState := st, phRun := a, lossRun := b, corr := c } := by
  obtain ⟨g, l, h⟩ := spnEnter_shape s .ramp
  obtain ⟨st, a, b, c, hwait⟩ := waitSpn_shape (rampSpn (s.spnEnter .ramp).spn s.now)
  rw [spn_spnRamp, hwait, h]
  exact ⟨g, l, st, a, b, c, rfl⟩

theorem gatesFollow_spnRamp {s t : State} (u : State) (hgates : u.spn.gates = s.spn.gates) (hfree : u.spn.gateFree = s.spn.gateFree)
    (hpers : u.spnPers = s.spnPers) (hnow : t.now = u.now) (hsec : t.sec = u.sec) (hspn : t.spn = u.spnRamp.spn) : GatesFollow s t := by
  obtain ⟨g, l, st, a, b, c, hfields⟩ := spnRamp_fields u
  refine gatesFollow_spnLeft u .ramp (rampSpn · u.now) hgates hfree hpers hnow (hspn.trans (spn_spnRamp u)) ?_
  have hpers' : t.spnPers = u.spnPers := by simp only [State.spnPers, hsec]
  rw [hfields] at hspn
  refine gatesWanted_congr hnow hpers' ?_ ?_ ?_ ?_ ?_ ?_ <;> rw [hspn] <;> rfl

/-! ## FAULT -/

/-- The spindle of a motor that a fault has stopped (R256). -/
def faultSpn (x : Spn) : Spn := { x with command := 0, duty := 0, enabledAt := 0, retryDue := none }

theorem only_spnFault (s : State) : Only [.spn, .plc, .pwr] s s.spnFault := only_spnLeft s _ _

theorem spn_spnFault (s : State) : s.spnFault.spn = waitSpn (faultSpn (s.spnEnter .fault).spn) := spn_spnLeft s _ _

/-- What FAULT leaves of the spindle. -/
theorem spnFault_fields (s : State) : ∃ g l st a b c, s.spnFault.spn = { s.spn with
    state := .fault, since := s.now, command := 0, duty := 0, enabledAt := 0, retryDue := none, gates := g, gateFree := l,
    tlState := st, phRun := a, lossRun := b, corr := c } := by
  obtain ⟨g, l, h⟩ := spnEnter_shape s .fault
  obtain ⟨st, a, b, c, hwait⟩ := waitSpn_shape (faultSpn (s.spnEnter .fault).spn)
  rw [spn_spnFault, hwait, h]
  exact ⟨g, l, st, a, b, c, rfl⟩

theorem gatesFollow_spnFault {s t : State} (u : State) (hgates : u.spn.gates = s.spn.gates) (hfree : u.spn.gateFree = s.spn.gateFree)
    (hpers : u.spnPers = s.spnPers) (hnow : t.now = u.now) (hspn : t.spn = u.spnFault.spn) : GatesFollow s t := by
  obtain ⟨g, l, st, a, b, c, hfields⟩ := spnFault_fields u
  refine gatesFollow_spnLeft u .fault faultSpn hgates hfree hpers hnow (hspn.trans (spn_spnFault u)) ?_
  have hstate : t.spn.state = .fault := by rw [hspn, hfields]
  rw [gatesWanted_rest (by simp [hstate]), gatesWanted_rest (by simp [State.spnSet, State.modSpn])]

/-! ## Rows that enter a state -/

/-- What is set with a state is none of what the gates are. -/
def KeepsGates (f : Spn → Spn) : Prop := ∀ x, (f x).gates = x.gates ∧ (f x).gateFree = x.gateFree

/-- What is set with a state leaves the gates that it calls for. -/
def KeepsWanted (u : State) (st : SpnState) (f : Spn → Spn) : Prop :=
  ∀ t : State, t.now = u.now → t.spnPers = u.spnPers → t.spn = f (u.spnEnter st).spn →
    t.gatesWanted = (u.spnSet st (u.entryCommand st)).gatesWanted

theorem keepsWanted_rest (u : State) {st : SpnState} {f : Spn → Spn} (hst : st ∈ [SpnState.stopped, .listen, .sense, .fault])
    (hf : ∀ x, (f x).state = x.state := by exact fun _ => rfl) : KeepsWanted u st f := by
  intro t _ _ hspn
  obtain ⟨g, l, h⟩ := spnEnter_shape u st
  have hstate : t.spn.state = st := by rw [hspn, hf, h]
  rw [gatesWanted_rest (hstate ▸ hst), gatesWanted_rest (by simpa [State.spnSet, State.modSpn] using hst)]

theorem keepsWanted_brake (u : State) {f : Spn → Spn} (hf : ∀ x, (f x).state = x.state := by exact fun _ => rfl) :
    KeepsWanted u .brake f := by
  intro t _ _ hspn
  obtain ⟨g, l, h⟩ := spnEnter_shape u .brake
  have hstate : t.spn.state = .brake := by rw [hspn, hf, h]
  rw [gatesWanted_brake hstate, gatesWanted_brake rfl]

theorem keepsWanted_id (u : State) (st : SpnState) : KeepsWanted u st id := by
  intro t hnow hpers hspn
  obtain ⟨g, l, h⟩ := spnEnter_shape u st
  rw [h] at hspn
  refine gatesWanted_congr hnow hpers ?_ ?_ ?_ ?_ ?_ ?_ <;> rw [hspn] <;> rfl

/-- A state whose queue, gates and spindle block are those of s. -/
def EntersFrom (s u : State) : Prop :=
  u.pending = s.pending ∧ u.spn.gates = s.spn.gates ∧ u.spn.gateFree = s.spn.gateFree ∧ u.spnPers = s.spnPers

theorem entersFrom_advanceTo (s : State) (m : Nat) : EntersFrom s (s.advanceTo m) := ⟨rfl, rfl, rfl, rfl⟩

theorem entersFrom_modSpn {s u : State} {f : Spn → Spn} (h : EntersFrom s u) (hf : KeepsGates f := by exact fun _ => ⟨rfl, rfl⟩) :
    EntersFrom s (u.modSpn f) := by
  obtain ⟨hqueue, hgates, hfree, hpers⟩ := h
  obtain ⟨hg, hl⟩ := hf u.spn
  exact ⟨hqueue, hg.trans hgates, hl.trans hfree, hpers⟩

theorem spn_advanceTo (s : State) (m : Nat) : (s.advanceTo m).spn = s.spn := rfl

/-- A row that enters a state completes with the spindle in it, its gates switched, and nothing else changed. -/
theorem gives_entered {c : Instr} {need : Need} {s : State} {F : State → State} (hc : exec c s = row c need s F)
    (hready : c.wf = true ∧ s.has need = true) (u : State) (st : SpnState) (f : Spn → Spn) (heffect : F s = (u.spnEnter st).modSpn f)
    (hwant : KeepsWanted u st f) {x : Spn} (hx : u.spn = x := by rfl) (hfrom : EntersFrom s u := by exact ⟨rfl, rfl, rfl, rfl⟩) (hf : KeepsGates f := by exact fun _ => ⟨rfl, rfl⟩) :
    Gives c s fun t => t.spn = f { x with
        state := st, since := u.now, command := u.entryCommand st, gates := t.spn.gates, gateFree := t.spn.gateFree } ∧
      GatesFollow s t ∧ Still { u with spn := t.spn } t := by
  subst hx
  obtain ⟨hqueue, hgates, hfree, hpers⟩ := hfrom
  obtain ⟨g, l, h⟩ := spnEnter_shape u st
  have hshape : F s = { u with spn := f (u.spnEnter st).spn } := by
    rw [heffect, h]
    rfl
  refine gives_mono (gives_still (u := { u with spn := f (u.spnEnter st).spn }) hc hready hqueue (still_of_eq hshape)) fun t ht => ?_
  have hspn : t.spn = f (u.spnEnter st).spn := still_spn ht
  have hnow : t.now = u.now := (still_now ht :)
  have hsec : t.sec = u.sec := (still_sec ht :)
  obtain ⟨htg, htf⟩ := hf (u.spnEnter st).spn
  have hg : t.spn.gates = (u.spnEnter st).spn.gates := (congrArg Spn.gates hspn).trans htg
  have hl : t.spn.gateFree = (u.spnEnter st).spn.gateFree := (congrArg Spn.gateFree hspn).trans htf
  refine ⟨?_, ?_, ?_⟩
  · rw [hg, hl, h]
    rw [h] at hspn
    exact hspn
  · exact gatesFollow_spnEnter u st hgates hfree hpers hnow
      (hwant t hnow (by simp only [State.spnPers, hsec]) hspn) hg hl
  · rw [hspn]
    exact ht

/-- A row that enters RAMP completes with the spindle in it and D_max computed anew. -/
theorem gives_ramp {c : Instr} {need : Need} {s : State} {F : State → State} (hc : exec c s = row c need s F)
    (hready : c.wf = true ∧ s.has need = true) (u : State) (heffect : F s = u.spnRamp)
    (hfrom : EntersFrom s u := by exact ⟨rfl, rfl, rfl, rfl⟩) :
    Gives c s fun t => t.spn.state = .ramp ∧ t.spn.since = u.now ∧ t.spn.speed = u.spn.speed ∧ t.spn.setPoint = u.spn.speed ∧
      t.spn.setAt = u.now ∧ t.spn.anchored = u.spn.anchored ∧ GatesFollow s t ∧ Only [.spn, .plc, .pwr] u t := by
  obtain ⟨-, hgates, hfree, hpers⟩ := hfrom
  refine gives_only hc hready fun t ht => ?_
  rw [heffect] at ht
  have honly : Only [.spn, .plc, .pwr] u t := only_step (only_spnRamp u) ht
  have hspn : t.spn = u.spnRamp.spn := ht .spn (by decide)
  have hfollow := gatesFollow_spnRamp u hgates hfree hpers (honly .clock (by decide)) (honly .sec (by decide)) hspn
  obtain ⟨g, l, st, a, b, d, hfields⟩ := spnRamp_fields u
  rw [hfields] at hspn
  exact ⟨by rw [hspn], by rw [hspn], by rw [hspn], by rw [hspn], by rw [hspn], by rw [hspn], hfollow, honly⟩

theorem modSpn_id (s : State) : s.modSpn id = s := rfl

theorem listenEnd_none {s : State} (h : s.spn.state = .listen) :
    s.listenEnd none = ((s.advanceTo (s.spn.since + 5000000)).spnEnter .sense).modSpn id := by
  rw [modSpn_id, State.listenEnd, if_pos h]

theorem listenEnd_fast {s : State} {v : Nat} (h : s.spn.state = .listen) (hfast : 16 * s.spnPers.olRpm ≤ v) : s.listenEnd (some v) =
    ((s.advanceTo (s.spn.since + 5000000)).modSpn fun x => { x with speed := v, anchored := false }).spnRamp := by
  obtain ⟨-, -, -, hpers⟩ := entersFrom_advanceTo s (s.spn.since + 5000000)
  rw [← hpers] at hfast
  rw [State.listenEnd, if_pos h]
  simp only [if_pos hfast]

theorem listenEnd_slow {s : State} {v : Nat} (h : s.spn.state = .listen) (hslow : v < 16 * s.spnPers.olRpm) : s.listenEnd (some v) =
    ((s.advanceTo (s.spn.since + 5000000)).spnEnter .brake).modSpn fun x => { x with thenSense := true } := by
  obtain ⟨-, -, -, hpers⟩ := entersFrom_advanceTo s (s.spn.since + 5000000)
  rw [← hpers] at hslow
  rw [State.listenEnd, if_pos h]
  simp only [if_neg (Nat.not_le.mpr hslow)]

/-- An attempt to start that has failed is reported and counted (R254). -/
def State.startFailed (s : State) (sev : Nat) : State :=
  (s.spnReport 1 sev).modSpn fun x => { x with attempts := min 3 (x.attempts + 1) }

theorem openLoopEnd_matched {s : State} (hstate : s.spn.state = .openLoop) (h : s.olMatched = true) : s.openLoopEnd =
    ((s.advanceTo (s.spn.since + 1000000 * s.spnPers.tOl)).modSpn fun x =>
      { x with speed := 16 * s.spnPers.olRpm, anchored := false }).spnRamp := by
  simp only [State.openLoopEnd, if_pos hstate, h, if_true]
  rfl

/-- The end of OPEN_LOOP. -/
def State.loopOver (s : State) : State := s.advanceTo (s.spn.since + 1000000 * s.spnPers.tOl)

theorem openLoopEnd_retry {s : State} (hstate : s.spn.state = .openLoop) (h : s.olMatched = false) (hatt : s.spn.attempts < 2) :
    s.openLoopEnd = ((s.loopOver.startFailed 1).spnEnter .stopped).modSpn fun x =>
      { x with retryDue := some ((s.loopOver.startFailed 1).now + 1000000000) } := by
  have hsev : (if 2 ≤ s.loopOver.spn.attempts then 2 else 1) = 1 := if_neg (by show ¬2 ≤ s.spn.attempts; omega)
  have hfew : ¬3 ≤ (s.loopOver.startFailed 1).spn.attempts := by
    show ¬3 ≤ min 3 (s.spn.attempts + 1)
    omega
  simp only [State.openLoopEnd, if_pos hstate, h, Bool.false_eq_true, if_false]
  rw [show s.advanceTo (s.spn.since + 1000000 * s.spnPers.tOl) = s.loopOver from rfl, hsev]
  exact if_neg hfew

theorem openLoopEnd_fault {s : State} (hstate : s.spn.state = .openLoop) (h : s.olMatched = false) (hatt : s.spn.attempts = 2) :
    s.openLoopEnd = (s.loopOver.startFailed 2).spnFault := by
  have hsev : (if 2 ≤ s.loopOver.spn.attempts then 2 else 1) = 2 := if_pos (by show 2 ≤ s.spn.attempts; omega)
  have hmany : 3 ≤ (s.loopOver.startFailed 2).spn.attempts := by
    show 3 ≤ min 3 (s.spn.attempts + 1)
    omega
  simp only [State.openLoopEnd, if_pos hstate, h, Bool.false_eq_true, if_false]
  rw [show s.advanceTo (s.spn.since + 1000000 * s.spnPers.tOl) = s.loopOver from rfl, hsev]
  exact if_pos hmany

theorem listening_pending (s : State) (v : Word) : (s.listening v).pending = s.pending := by
  obtain ⟨g, l, h⟩ := spnEnter_shape (s.setRv .spnCtl v) .listen
  rw [State.listening, h]
  rfl

theorem only_listening (s : State) (v : Word) : Only [.regs, .spn] s (s.listening v) :=
  only_step (only_step (only_mono (only_setRv s _ _) (by decide)) (only_spnEnter _ _)) (only_modSpn _ _)

/-- Settles O21: each clause enters one state of Table 7.2, most of them with no more than a command and a moment. -/
theorem spindleStart : Obligations.SpindleStart := by
  unfold Obligations.SpindleStart
  refine ⟨?enable, ?listenNone, ?listenFast, ?listenSlow, ?sense, ?align, ?matched, ?failed, ?third, ?retry⟩
  case enable =>
    intro s ag v hready hacc hrest hretry
    have henable : bit v 31 = true := by
      have hwf := hready.1
      simp only [Instr.wf, Bool.and_eq_true] at hwf
      exact hwf.2
    have hact : s.regAct ag .spnCtl v = s.listening v := spnCtlWrite_listen henable hrest hretry
    refine gives_mono (gives_wrote (exec_spindleEnable ag v s) hready hacc (listening_pending s v) (still_of_eq hact)) fun t ht => ?_
    have hspn : t.spn = (s.listening v).spn := (still_spn ht).trans (wrote_keeps State.spn s _ ag .spnCtl)
    have hnow : t.now = s.now := ((still_now ht).trans (wrote_keeps State.now s _ ag .spnCtl)).trans (only_listening s v .clock (by decide))
    obtain ⟨g, l, h⟩ := spnEnter_shape (s.setRv .spnCtl v) .listen
    have hlisten : s.listening v = { s.setRv .spnCtl v with spn := (s.listening v).spn } := by
      rw [State.listening, h]
      rfl
    have hstate : t.spn.state = .listen := by
      rw [hspn, State.listening, h]
      rfl
    refine ⟨?_, ?_, ?_⟩
    · rw [hspn, State.listening, h, ← hretry]
      rfl
    · refine gatesFollow_spnEnter (s.setRv .spnCtl v) .listen rfl rfl rfl hnow ?_ ((congrArg Spn.gates hspn).trans rfl)
        ((congrArg Spn.gateFree hspn).trans rfl)
      rw [gatesWanted_rest (by simp [hstate]), gatesWanted_rest (by simp [State.spnSet, State.modSpn])]
    · rw [hspn, ← hlisten]
      exact ht
  case listenNone =>
    intro s hready hstate
    exact gives_entered (exec_listenEnd none s) hready _ .sense id (listenEnd_none hstate) (keepsWanted_id _ _)
      (spn_advanceTo s _) (entersFrom_advanceTo s _)
  case listenFast =>
    intro s v hready hstate hfast
    refine gives_mono (gives_ramp (exec_listenEnd (some v) s) hready _ (listenEnd_fast hstate hfast)
      (entersFrom_modSpn (entersFrom_advanceTo s _))) ?_
    rintro t ⟨h1, h2, h3, h4, h5, h6, h7, honly⟩
    refine ⟨h1, h2, h3, h4, h5, h6, h7, honly .clock (by decide), ?_⟩
    exact only_step (only_step (only_mono (only_advanceTo s _) (by decide)) (only_modSpn _ _)) honly
  case listenSlow =>
    intro s v hready hstate hslow
    exact gives_entered (exec_listenEnd (some v) s) hready _ .brake (fun x => { x with thenSense := true }) (listenEnd_slow hstate hslow)
      (keepsWanted_brake _) (spn_advanceTo s _) (entersFrom_advanceTo s _)
  case sense =>
    intro s sector hready hstate
    have hsector : sector % 6 = sector := Nat.mod_eq_of_lt (by simpa [Instr.wf] using hready.1)
    refine gives_entered (exec_senseEnd sector s) hready (s.modSpn fun x => { x with rotor := sector }) .align id ?_ (keepsWanted_id _ _)
    simp only [State.senseEnd, if_pos hstate, hsector]
    rfl
  case align =>
    intro s hready hstate
    refine gives_entered (exec_alignEnd s) hready (s.advanceTo (s.spn.since + 1000000 * s.spnPers.tAlign)) .openLoop id ?_ (keepsWanted_id _ _)
    simp only [State.alignEnd, if_pos hstate]
    rfl
  case matched =>
    intro s hready hstate hmatched
    refine gives_mono (gives_ramp (exec_openLoopEnd s) hready _ (openLoopEnd_matched hstate hmatched)) ?_
    rintro t ⟨h1, h2, h3, h4, h5, -, h7, honly⟩
    refine ⟨h1, h2, h3, h4, h5, h7, honly .clock (by decide), ?_⟩
    exact only_step (only_step (only_mono (only_advanceTo s _) (by decide)) (only_modSpn _ _)) honly
  case failed =>
    intro s hready hstate hmatched hatt
    refine gives_mono (gives_entered (exec_openLoopEnd s) hready _ .stopped _ (openLoopEnd_retry hstate hmatched hatt)
      (keepsWanted_rest _ (by decide))) ?_
    rintro t ⟨hspn, hfollow, hstill⟩
    have hmin : min 3 (s.spn.attempts + 1) = s.spn.attempts + 1 := by omega
    refine ⟨hspn.trans ?_, hfollow, hstill⟩
    rw [← hmin]
    rfl
  case third =>
    intro s hready hstate hmatched hatt
    refine gives_only (exec_openLoopEnd s) hready fun t ht => ?_
    rw [openLoopEnd_fault hstate hmatched hatt] at ht
    have hbegun : Only [.clock, .tim, .spn, .flt] s (s.loopOver.startFailed 2) :=
      only_step (only_step (only_step (only_mono (only_advanceTo s _) (by decide)) (only_report _ _ _ _ _)) (only_modSpn _ _))
        (only_modSpn _ _)
    have honly : Only [.spn, .plc, .pwr] (s.loopOver.startFailed 2) t := only_step (only_spnFault _) ht
    have hspn : t.spn = (s.loopOver.startFailed 2).spnFault.spn := ht .spn (by decide)
    have hfollow : GatesFollow s t := gatesFollow_spnFault (s.loopOver.startFailed 2) rfl rfl rfl (honly .clock (by decide)) hspn
    obtain ⟨g, l, st, a, b, d, hfields⟩ := spnFault_fields (s.loopOver.startFailed 2)
    rw [hfields] at hspn
    have hatts : (s.loopOver.startFailed 2).spn.attempts = 3 := by
      show min 3 (s.spn.attempts + 1) = 3
      rw [hatt]
      rfl
    refine ⟨by rw [hspn], by rw [hspn, hatts], by rw [hspn]; rfl, by rw [hspn], by rw [hspn], hfollow, ?_, honly .clock (by decide), ?_⟩
    · exact congrArg Flt.inbox (honly .flt (by decide))
    · exact only_step (only_mono hbegun (by decide)) honly
  case retry =>
    intro s x hready hretry
    refine gives_mono (gives_entered (exec_startRetry s) hready (s.advanceTo x) .sense (fun x => { x with retryDue := none }) ?_
      (keepsWanted_rest _ (by decide))) ?_
    · simp only [State.startRetry, hretry]
    · rintro t ⟨hspn, hfollow, hstill⟩
      rw [now_advanceTo] at hspn
      exact ⟨hspn, hfollow, hstill⟩

end Sys2Proof.Machine
end

section
/-! SUPPORT. Actuators on their way to the ramp, and the spindle in motion: target writes, stopping, faults and revolutions (chapter 7). -/

namespace Sys2Proof.Machine

open Sys2Proof

-- One declaration at a time: proofs elaborated side by side hold a stack each, and the check bounds their sum.
set_option Elab.async false

/-! ## Actuators on their way to the ramp -/

theorem act_of_acts {s t : State} (h : t.sce.acts = s.sce.acts) (a : Nat) : t.act a = s.act a := by simp only [State.act, h]

@[simp] theorem act_modAct_same (s : State) (a : Nat) (f : Act → Act) : (s.modAct a f).act a = f (s.act a) := agetD_acanon_same ..

theorem act_modAct_other (s : State) {a b : Nat} (f : Act → Act) (h : b ≠ a) : (s.modAct a f).act b = s.act b :=
  agetD_acanon_other _ _ _ _ h

theorem acts_setOnTrack (s : State) (st : Nat) (v : Bool) : (s.setOnTrack st v).sce.acts = s.sce.acts := by
  simp only [State.setOnTrack]
  split
  · have hinhibit : ((s.modLoop st fun l => { l with onTrack := v, regain := 0 }).inhibit st 0).sce =
        (s.modLoop st fun l => { l with onTrack := v, regain := 0 }).sce := only_inhibit _ st 0 .sce (by decide)
    rw [hinhibit]
    rfl
  · rfl

/-- Heads that are deselected leave the actuators. -/
theorem acts_deselectAll (s : State) (a : Nat) : (s.deselectAll a).sce.acts = s.sce.acts := by
  refine foldl_keeps (fun s => s.sce.acts) _ (fun u st => ?_) _ s
  have hsweep : (u.sweepAbort (headOf st (u.stream st))).sce = u.sce := only_sweepAbort u _ .sce (by decide)
  have htrack := acts_setOnTrack (u.sweepAbort (headOf st (u.stream st))) st false
  have hreaders : (((u.sweepAbort (headOf st (u.stream st))).setOnTrack st false).setReaders st 0).sce =
      ((u.sweepAbort (headOf st (u.stream st))).setOnTrack st false).sce := only_setReaders _ _ _ .sce (by decide)
  exact (congrArg Sce.acts hreaders).trans (htrack.trans (congrArg Sce.acts hsweep))

/-- The actuator that starts towards the ramp. -/
theorem act_toRamp_same (s : State) (a : Nat) (st : ActState) : ((s.toRamp a st).act a).state = st := by
  have hdmax : (s.toRamp a st).sce = _ := only_recomputeDmax _ .sce (by decide)
  rw [act_of_acts (congrArg Sce.acts hdmax), act_modAct_same]

theorem act_toRamp_other (s : State) {a b : Nat} (st : ActState) (h : b ≠ a) : (s.toRamp a st).act b = s.act b := by
  have hdmax : (s.toRamp a st).sce = _ := only_recomputeDmax _ .sce (by decide)
  rw [act_of_acts (congrArg Sce.acts hdmax), act_modAct_other _ _ h, act_of_acts (acts_deselectAll s a)]

theorem act_retract_other (s : State) {a b : Nat} (h : b ≠ a) : (s.retract a).act b = s.act b := by
  simp only [State.retract]
  split
  · rfl
  · rw [act_of_acts (congrArg Sce.acts (still_sce (still_evcLevel _ 4))), act_toRamp_other s _ h]

/-- A loaded actuator that retracts (R243). -/
theorem act_retract_same {s : State} {a : Nat} (h : (s.act a).state = .following) : ((s.retract a).act a).state = .retract := by
  simp only [State.retract]
  rw [if_neg (by simp [h]), act_of_acts (congrArg Sce.acts (still_sce (still_evcLevel _ 4))), act_toRamp_same]

theorem act_retract_stays {s : State} (a : Nat) {b : Nat} (h : (s.act b).state = .retract) : ((s.retract a).act b).state = .retract := by
  by_cases hb : b = a
  · subst hb
    simp only [State.retract]
    rw [if_pos (.inr (.inr h)), h]
  · rw [act_retract_other s hb, h]

/-- Every actuator that follows its track retracts. -/
theorem act_retractAll {s : State} {a : Nat} (ha : a < 4) (h : (s.act a).state = .following) : ((s.retractAll).act a).state = .retract := by
  have key : ∀ (l : List Nat) (u : State), (u.act a).state = .following ∧ a ∈ l ∨ (u.act a).state = .retract →
      ((l.foldl (fun s b => s.retract b) u).act a).state = .retract := by
    intro l
    induction l with
    | nil => exact fun u hu => hu.elim (fun hin => absurd hin.2 List.not_mem_nil) id
    | cons b l ih =>
      intro u hu
      refine ih _ ?_
      rcases hu with ⟨hfollow, hmem⟩ | hretract
      · by_cases hb : a = b
        · exact .inr (hb ▸ act_retract_same (hb ▸ hfollow))
        · exact .inl ⟨by rw [act_retract_other u hb, hfollow], (List.mem_cons.mp hmem).resolve_left hb⟩
      · exact .inr (act_retract_stays b hretract)
  exact key (List.range 4) s (.inl ⟨h, List.mem_range.mpr ha⟩)

/-! ## Writes of SPN_CTL while the motor turns -/

/-- A target written to a spindle in AT_SPEED puts it back to RAMP (R255, R664). -/
theorem spnCtlWrite_target {s : State} {v : Word} (henable : bit v 31 = true) (hstate : s.spn.state = .atSpeed)
    (hraise : s.spn.target ≤ (s.setRv .spnCtl v).targetRpm) (hstage : s.stageCode = 0) :
    ∃ p m, s.spnCtlWrite v = ((s.setRv .spnCtl v).modSpn fun x =>
      { x with target := (s.setRv .spnCtl v).targetRpm, setPoint := p, setAt := m }).spnRamp := by
  have hstate' : (s.setRv .spnCtl v).spn.state = .atSpeed := hstate
  have hstage' : (s.setRv .spnCtl v).stageCode = 0 := hstage
  have hraise' : (s.setRv .spnCtl v).spn.target ≤ (s.setRv .spnCtl v).targetRpm := hraise
  have hlisten : ¬(bit v 31 && ((s.setRv .spnCtl v).spn.state == .stopped || (s.setRv .spnCtl v).spn.state == .fault) &&
      (s.setRv .spnCtl v).spn.retryDue.isNone) = true := by simp [hstate]
  have hdisable : ¬(bit (s.rv .spnCtl) 31 && !bit v 31) = true := by simp [henable]
  rw [State.spnCtlWrite, if_neg hlisten, if_neg hdisable]
  generalize s.setRv .spnCtl v = w at hstate' hstage' hraise' ⊢
  by_cases hsame : w.targetRpm = w.spn.target
  · refine ⟨w.spn.setPoint, w.spn.setAt, ?_⟩
    rw [if_pos ⟨hstate', hsame⟩, hsame]
    rfl
  · refine ⟨w.setPointNow, w.now, ?_⟩
    rw [if_neg fun h => hsame h.2, State.takeTarget, if_neg hsame, if_neg (by omega), if_neg (by simp [hstage'])]
    exact if_pos hstate'

/-- The spindle that a write of SPN_CTL has braked. -/
def brakedSpn (x : Spn) : Spn := { x with thenSense := false, enabledAt := 0 }

/-- Clearing ENABLE of a motor that turns brakes it (R259). -/
theorem spnCtlWrite_disable {s : State} {v : Word} (hclear : bit v 31 = false) (hwas : bit (s.rv .spnCtl) 31 = true)
    (hstop : s.spn.state ≠ .stopped) (hfault : s.spn.state ≠ .fault) :
    s.spnCtlWrite v = (s.setRv .spnCtl v).spnLeft .brake brakedSpn := by
  have hturn : ¬((s.setRv .spnCtl v).spn.state = .stopped ∨ (s.setRv .spnCtl v).spn.state = .fault) := fun h => h.elim hstop hfault
  simp only [State.spnCtlWrite, hwas, hclear, Bool.false_and, Bool.false_eq_true, if_false, Bool.not_false, Bool.and_true, if_true]
  exact if_neg hturn

/-- What BRAKE after a write leaves of the spindle. -/
theorem spnLeft_brake_fields (s : State) : ∃ g l st a b c, (st = TlState.wait ∨ st = .off) ∧ (s.spnLeft .brake brakedSpn).spn =
    { s.spn with
      state := .brake, since := s.now, command := 32767, thenSense := false, enabledAt := 0, gates := g, gateFree := l,
      tlState := st, phRun := a, lossRun := b, corr := c } := by
  obtain ⟨g, l, h⟩ := spnEnter_shape s .brake
  obtain ⟨st, a, b, c, hwait⟩ := waitSpn_shape (brakedSpn (s.spnEnter .brake).spn)
  have hst := waitSpn_tlState (brakedSpn (s.spnEnter .brake).spn)
  rw [hwait] at hst
  refine ⟨g, l, st, a, b, c, hst, ?_⟩
  rw [spn_spnLeft, hwait, h]
  rfl

theorem gatesFollow_spnLeft_brake {s t : State} (u : State) (hfrom : EntersFrom s u) (hnow : t.now = u.now)
    (hspn : t.spn = (u.spnLeft .brake brakedSpn).spn) : GatesFollow s t := by
  obtain ⟨-, hgates, hfree, hpers⟩ := hfrom
  obtain ⟨g, l, st, a, b, c, -, hfields⟩ := spnLeft_brake_fields u
  have hstate : t.spn.state = .brake := by rw [hspn, hfields]
  refine gatesFollow_spnLeft u .brake brakedSpn hgates hfree hpers hnow (hspn.trans (spn_spnLeft u _ _)) ?_
  rw [gatesWanted_brake hstate, gatesWanted_brake rfl]

/-- A row that leaves the driven states for one at rest with D_max computed anew. -/
theorem brakeEnd_eq {s : State} (h : s.spn.state = .brake) : s.brakeEnd =
    ((s.advanceTo (max s.spn.since (s.spn.crossings.headD 0) + 500000000)).spnEnter (if s.spn.thenSense then .sense else .stopped)).modSpn
      fun x => { x with thenSense := false, speed := 0, anchored := false, crossings := [] } := by
  have hspn := spn_advanceTo s (max s.spn.since (s.spn.crossings.headD 0) + 500000000)
  rw [State.brakeEnd, if_pos h]
  simp only [hspn]

theorem spinupTimeout_eq {s : State} (henabled : s.spn.enabledAt ≠ 0) (hspeed : s.spn.state ≠ .atSpeed) (hcoast : s.spn.state ≠ .coast) :
    s.spinupTimeout = ((s.advanceTo (s.spn.enabledAt - 1 + 100000000 * s.spnPers.tSpinup)).spnReport 2 2).spnFault := by
  rw [State.spinupTimeout, if_neg (by simp [henabled, hspeed, hcoast])]

/-- The spindle after one PWM period (R249, R280). -/
def State.periodSpn (s : State) (isense : Int) : Spn :=
  { s.spn with
    command := s.commandNow, integ := s.spn.integ + s.spnPers.curKi * (s.commandNow - isense),
    duty := s.spnPers.curKp * (s.commandNow - isense) + (s.spn.integ + s.spnPers.curKi * (s.commandNow - isense)),
    overRun := if decide (12 * 32767 < 10 * isense) then s.spn.overRun + 1 else 0,
    diffRun := if (s.spn.state = .ramp ∨ s.spn.state = .atSpeed) ∧ 32767 < 10 * (s.commandNow - isense).natAbs then s.spn.diffRun + 1 else 0 }

/-- The state after one PWM period, its gates switched, before any fault. -/
def State.period (s : State) (isense : Int) : State := ({ s with spn := s.periodSpn isense } : State).switchGates

theorem spnCurrent_eq (s : State) (isense : Int) : s.spnCurrent isense =
    if 2 ≤ (s.periodSpn isense).overRun then (((s.period isense).spnReport 4 2).retractAll).spnFault
    else if 32 ≤ (s.periodSpn isense).diffRun then (((s.period isense).spnReport 3 2).retractAll).spnFault
    else s.period isense := by
  unfold State.spnCurrent
  rfl

theorem period_fields (s : State) (isense : Int) : ∃ g l, s.period isense = { s with spn := { s.periodSpn isense with gates := g, gateFree := l } } :=
  ⟨_, _, rfl⟩

theorem gatesFollow_period {s t : State} (isense : Int) (hnow : t.now = s.now) (hsec : t.sec = s.sec)
    (hspn : t.spn = (s.period isense).spn) : GatesFollow s t := by
  obtain ⟨g, l, h⟩ := period_fields s isense
  refine gatesFollow_of_switch ({ s with spn := s.periodSpn isense } : State) rfl rfl rfl hnow ?_ (congrArg Spn.gates hspn)
    (congrArg Spn.gateFree hspn)
  rw [h] at hspn
  refine gatesWanted_congr hnow (by simp only [State.spnPers, hsec]) ?_ ?_ ?_ ?_ ?_ ?_ <;> rw [hspn]

theorem only_spnReport (s : State) (code sev : Nat) : Only [.flt, .spn] s (s.spnReport code sev) :=
  only_step (only_mono (only_report s _ _ _ _) (by decide)) (only_modSpn _ _)

theorem targetRpm_congr {s t : State} (hregs : t.regs = s.regs) (hsec : t.sec = s.sec) : t.targetRpm = s.targetRpm := by
  simp only [State.targetRpm, rv_of_regs hregs, hsec]

/-- One PWM period within both limits (R249, R280). -/
theorem periodSpn_calm {s : State} {isense : Int} (hunder : 10 * isense ≤ 12 * 32767) (hnear : 10 * (s.commandNow - isense).natAbs ≤ 32767) :
    s.periodSpn isense = { s.spn with
      command := s.commandNow, integ := s.spn.integ + s.spnPers.curKi * (s.commandNow - isense),
      duty := s.spnPers.curKp * (s.commandNow - isense) + (s.spn.integ + s.spnPers.curKi * (s.commandNow - isense)),
      overRun := 0, diffRun := 0 } := by
  unfold State.periodSpn
  rw [if_neg (by simpa using hunder), if_neg (fun h => by omega)]

/-- An accepted write of a register that is no conjunct completes with every state that is its effect, but for events and the status kept
for the management port. -/
theorem gives_accepted {i : Instr} {need : Need} {s : State} {ag : Agent} {r : Reg} {v : Word} {P : State → Prop}
    (hexec : exec i s = row i need s fun s => s.regRow ag r v) (hready : i.wf = true ∧ s.has need = true) (hacc : Accepts s r v)
    (hplain : regConjunct r = false) (h : ∀ t, Only [.pin] (s.regAct ag r v) t → P t) : Gives i s P := by
  refine gives_only hexec hready fun t ht => h t ?_
  rw [regRow_of_accepts hacc] at ht
  exact only_step (only_wrote_plain s _ ag hplain) ht

/-- A fault of the motor reported after a PWM period. -/
theorem report_period (s : State) (isense : Int) (code sev : Nat) : Only [.spn, .flt] s ((s.period isense).spnReport code sev) ∧
    ((s.period isense).spnReport code sev).flt.inbox = joinReports s.now { source := 64, kind := code, addr := 0, severity := sev } s.flt.inbox ∧
    ((s.period isense).spnReport code sev).sce = s.sce ∧ ((s.period isense).spnReport code sev).spn.lastFault = code := by
  obtain ⟨g, l, hfields⟩ := period_fields s isense
  generalize ({ s.periodSpn isense with gates := g, gateFree := l } : Spn) = y at hfields
  rw [hfields]
  exact ⟨only_step (only_mono (only_setSpn s y) (by decide)) (only_spnReport _ code sev), rfl, rfl, rfl⟩

/-- Settles O22: a write of SPN_CTL leads to RAMP or BRAKE, a fault of the motor to FAULT, each with the gates that its state calls for. -/
theorem spindleSpeedAndStop : Obligations.SpindleSpeedAndStop := by
  unfold Obligations.SpindleSpeedAndStop
  refine ⟨?target, ?disable, ?refused, ?brake, ?spinup, ?period, ?excess⟩
  case target =>
    intro s ag v hready hacc henable hstate hraise hstage
    obtain ⟨p, m, hact⟩ := spnCtlWrite_target henable hstate hraise hstage
    refine gives_accepted (exec_targetRpmWrite ag v s) hready hacc rfl fun t ht => ?_
    rw [show s.regAct ag .spnCtl v = s.spnCtlWrite v from rfl, hact] at ht
    let u := (s.setRv .spnCtl v).modSpn fun x => { x with target := (s.setRv .spnCtl v).targetRpm, setPoint := p, setAt := m }
    have honly : Only [.spn, .plc, .pwr, .pin] u t := only_step (only_mono (only_spnRamp u) (by decide)) ht
    have hregs : t.regs = (s.setRv .spnCtl v).regs := honly .regs (by decide)
    have hspn : t.spn = u.spnRamp.spn := ht .spn (by decide)
    have hfollow : GatesFollow s t := gatesFollow_spnRamp u rfl rfl rfl (honly .clock (by decide)) (honly .sec (by decide)) hspn
    obtain ⟨g, l, st, a, b, d, hfields⟩ := spnRamp_fields u
    rw [hfields] at hspn
    refine ⟨(rv_of_regs hregs _).trans (rv_setRv_same s _ _), by rw [hspn], by rw [hspn]; rfl, ?_, by rw [hspn]; rfl, by rw [hspn]; rfl,
      by rw [hspn], hfollow, ?_⟩
    · rw [hspn, targetRpm_congr (s := s.setRv .spnCtl v) hregs (honly .sec (by decide))]
      rfl
    · exact only_step (only_step (only_mono (only_setRv s _ _) (by decide)) (only_modSpn _ _)) honly
  case disable =>
    intro s ag v hready hacc hwas hstop hfault
    have hclear : bit v 31 = false := by
      have hwf := hready.1
      simp only [Instr.wf, Bool.and_eq_true, Bool.not_eq_true'] at hwf
      exact hwf.2
    refine gives_accepted (exec_spindleDisable ag v s) hready hacc rfl fun t ht => ?_
    rw [show s.regAct ag .spnCtl v = s.spnCtlWrite v from rfl, spnCtlWrite_disable hclear hwas hstop hfault] at ht
    have honly : Only [.spn, .plc, .pwr, .pin] (s.setRv .spnCtl v) t := only_step (only_mono (only_spnLeft _ _ _) (by decide)) ht
    have hregs : t.regs = (s.setRv .spnCtl v).regs := honly .regs (by decide)
    have hspn : t.spn = ((s.setRv .spnCtl v).spnLeft .brake brakedSpn).spn := ht .spn (by decide)
    have hfollow : GatesFollow s t :=
      gatesFollow_spnLeft_brake (s.setRv .spnCtl v) ⟨rfl, rfl, rfl, rfl⟩ (honly .clock (by decide)) hspn
    obtain ⟨g, l, st, a, b, d, hst, hfields⟩ := spnLeft_brake_fields (s.setRv .spnCtl v)
    rw [hfields] at hspn
    refine ⟨(rv_of_regs hregs _).trans (rv_setRv_same s _ _), by rw [hspn], by rw [hspn]; rfl, by rw [hspn], by rw [hspn], hfollow,
      by rw [hspn]; exact hst, ?_⟩
    exact only_step (only_mono (only_setRv s _ _) (by decide)) honly
  case refused =>
    intro s ag v hready hon hword hwas hloaded
    have hclear : bit v 31 = false := by
      have hwf := hready.1
      simp only [Instr.wf, Bool.and_eq_true, Bool.not_eq_true'] at hwf
      exact hwf.2
    refine gives_still (exec_spindleDisable ag v s) hready (turnedAway_pending ..) (still_of_eq ?_)
    exact setupWrite_of_stateRefused rfl hon rfl hword (by simp [State.stateRefused, State.disableRefused, hwas, hclear, hloaded])
  case brake =>
    intro s hready hstate
    have hst : (if s.spn.thenSense then SpnState.sense else .stopped) ∈ [SpnState.stopped, .listen, .sense, .fault] := by
      split <;> decide
    have hcommand (u : State) : u.entryCommand (if s.spn.thenSense then SpnState.sense else .stopped) = 0 := by
      split <;> rfl
    refine gives_mono (gives_entered (exec_brakeEnd s) hready _ _ _ (brakeEnd_eq hstate) (keepsWanted_rest _ hst) (spn_advanceTo s _)
      (entersFrom_advanceTo s _)) ?_
    rintro t ⟨hspn, hfollow, hstill⟩
    rw [hcommand] at hspn
    exact ⟨hspn, hfollow, hstill⟩
  case spinup =>
    intro s hready henabled hspeed hcoast
    refine gives_only (exec_spinupTimeout s) hready fun t ht => ?_
    rw [spinupTimeout_eq henabled hspeed hcoast] at ht
    have hfrom : EntersFrom s (s.advanceTo (s.spn.enabledAt - 1 + 100000000 * s.spnPers.tSpinup)) := entersFrom_advanceTo s _
    have hbegun : Only [.clock, .tim, .flt, .spn] s
        ((s.advanceTo (s.spn.enabledAt - 1 + 100000000 * s.spnPers.tSpinup)).spnReport 2 2) :=
      only_step (only_mono (only_advanceTo s _) (by decide)) (only_spnReport _ 2 2)
    have hflt : (s.advanceTo (s.spn.enabledAt - 1 + 100000000 * s.spnPers.tSpinup)).flt = s.flt := rfl
    generalize s.advanceTo (s.spn.enabledAt - 1 + 100000000 * s.spnPers.tSpinup) = w at ht hfrom hbegun hflt ⊢
    have honly : Only [.spn, .plc, .pwr] (w.spnReport 2 2) t := only_step (only_spnFault _) ht
    have hspn : t.spn = (w.spnReport 2 2).spnFault.spn := ht .spn (by decide)
    obtain ⟨-, hgates, hfree, hpers⟩ := hfrom
    have hfollow : GatesFollow s t := gatesFollow_spnFault (w.spnReport 2 2) hgates hfree hpers (honly .clock (by decide)) hspn
    obtain ⟨g, l, st, a, b, d, hfields⟩ := spnFault_fields (w.spnReport 2 2)
    rw [hfields] at hspn
    refine ⟨by rw [hspn], by rw [hspn]; rfl, by rw [hspn], by rw [hspn], by rw [hspn], honly .clock (by decide), hfollow, ?_, ?_⟩
    · rw [← hflt]
      exact congrArg Flt.inbox (honly .flt (by decide))
    · exact only_step (only_mono hbegun (by decide)) honly
  case period =>
    intro s isense hready hunder hnear
    have hcalm := periodSpn_calm hunder hnear
    have heffect : s.spnCurrent isense = s.period isense := by
      rw [spnCurrent_eq, hcalm]
      rfl
    obtain ⟨g, l, hfields⟩ := period_fields s isense
    refine gives_mono (gives_still (u := s.period isense) (exec_spindleCurrentPeriod isense s) hready (by rw [hfields])
      (still_of_eq heffect)) fun t ht => ?_
    have hspn : t.spn = (s.period isense).spn := still_spn ht
    have hnow : t.now = s.now := (still_now ht).trans (by rw [hfields])
    have hsec : t.sec = s.sec := (still_sec ht).trans (by rw [hfields])
    refine ⟨?_, gatesFollow_period isense hnow hsec hspn, ?_⟩
    · rw [hspn, hfields, hcalm]
    · rw [hspn, hfields]
      rw [hfields] at ht
      exact ht
  case excess =>
    intro s isense hready hexcess hrun
    have hover : (s.periodSpn isense).overRun = 2 := by
      unfold State.periodSpn
      rw [if_pos (by simpa using hexcess), hrun]
    have heffect : s.spnCurrent isense = (((s.period isense).spnReport 4 2).retractAll).spnFault := by
      rw [spnCurrent_eq, hover]
      exact if_pos (Nat.le_refl 2)
    refine gives_only (exec_spindleCurrentPeriod isense s) hready fun t ht => ?_
    rw [heffect] at ht
    obtain ⟨hbegun, hwflt, hwsce, hwfault⟩ := report_period s isense 4 2
    generalize (s.period isense).spnReport 4 2 = w at hbegun hwflt hwsce hwfault ht
    have hretract : Only [.chn, .seq, .wrp, .sce, .plc, .pwr] w w.retractAll := only_retractAll w
    have honly : Only [.spn, .plc, .pwr] w.retractAll t := only_step (only_spnFault _) ht
    have hspn : t.spn = w.retractAll.spnFault.spn := ht .spn (by decide)
    obtain ⟨g', l', st, a, b, d, hfault⟩ := spnFault_fields w.retractAll
    rw [hfault] at hspn
    have hlast : w.retractAll.spn = w.spn := hretract .spn (by decide)
    refine ⟨by rw [hspn], by rw [hspn, hlast, hwfault], by rw [hspn], by rw [hspn], ?_, fun a ha hfollow => ?_, ?_⟩
    · rw [← hwflt, show t.flt = w.retractAll.flt from honly .flt (by decide), show w.retractAll.flt = w.flt from hretract .flt (by decide)]
    · rw [act_of_acts (congrArg Sce.acts (show t.sce = w.retractAll.sce from honly .sce (by decide)))]
      exact act_retractAll ha (by rw [act_of_acts (congrArg Sce.acts hwsce), hfollow])
    · exact only_step (only_step (ps := [.spn, .flt, .plc, .sce, .chn, .wrp, .seq, .pwr]) (only_mono hbegun (by decide)) hretract) honly

end Sys2Proof.Machine
end

section
/-! SUPPORT. Zero crossings, the spindle index and the transit lock reference (R255, R262, R267, R270, R273). -/

namespace Sys2Proof.Machine

open Sys2Proof

-- One declaration at a time: proofs elaborated side by side hold a stack each, and the check bounds their sum.
set_option Elab.async false

@[simp] theorem slot_modSlot_same (s : State) (n : Nat) (f : Slot → Slot) : (s.modSlot n f).slot n = f (s.slot n) := agetD_acanon_same ..

theorem slot_modSlot_other (s : State) {n m : Nat} (f : Slot → Slot) (h : m ≠ n) : (s.modSlot n f).slot m = s.slot m :=
  agetD_acanon_other _ _ _ _ h

/-! ## A zero crossing -/

/-- The speed over the last six zero crossings (R262). -/
def State.crossSpeed (s : State) : Nat :=
  match ((s.now :: s.spn.crossings).take 13)[6]? with
  | some t => if t < s.now then 16 * 60000000000 / (s.spnPers.polePairs * (s.now - t)) else s.spn.speed
  | none => s.spn.speed

/-- The spindle after a zero crossing. -/
def State.crossedSpn (s : State) : Spn :=
  { s.spn with crossings := (s.now :: s.spn.crossings).take 13, speed := min s.crossSpeed (2 ^ 20 - 1), rotor := (s.spn.rotor + 1) % 6 }

/-- A state in which a zero crossing has been noted. -/
def State.crossed (s : State) : State := { s with spn := s.crossedSpn }

/-- One computation of the speed loop (R264, R265). -/
def State.speedLoop (s : State) : State :=
  let err : Int := ((s.setPointNow : Int) + s.spn.corr - s.spn.speed) * 2 ^ 30
  let s := s.swapBank 20
  let sat := s.slotSaturates 20 err
  let run_ := (s.slot 20).satRun
  let (s, out) := s.runSlot 20 err
  let s := s.limitSlot 20 (decide (32767 < out + s.cogging)) run_
  let c := s.commandNow
  (s.modSpn fun x => { x with command := c }).spnMonitor 20 sat err

theorem zeroCrossing_eq (s : State) (late : Bool) : s.zeroCrossing late =
    if !decide (s.spn.state = .ramp ∨ s.spn.state = .atSpeed ∨ s.spn.state = .coast ∨ s.spn.state = .brake ∨ s.spn.state = .openLoop) then s
    else
      let u := s.crossed.speedGuard
      if (u.spn.state = .ramp ∨ u.spn.state = .atSpeed) ∧ late then u.spnSlotFault 20 6
      else if u.spn.state = .ramp ∨ u.spn.state = .atSpeed then u.speedLoop
      else u.modSlot 20 fun x => { x with run := false } := rfl

theorem only_speedGuard (s : State) : Only [.chn, .seq, .wrp, .sce, .plc, .pwr] s s.speedGuard :=
  only_ite (fun _ => only_foldl (fun s a => only_retract s a) _ s) fun _ => only_refl _ s

/-- With no head over the media there is nothing to retract. -/
theorem speedGuard_unloaded {s : State} (h : s.loadedActs = []) : s.speedGuard = s := by
  have hnone : ((List.range 4).filter fun a =>
      (s.act a).state == .loading || (s.act a).state == .seeking || (s.act a).state == .settling || (s.act a).state == .following) = [] := h
  simp only [State.speedGuard, hnone, List.foldl_nil]
  split <;> rfl

/-! ## What the speed loop keeps -/

/-- The parts that a computation of the speed loop and its faults can change. -/
def motorParts : List Part := [.regs, .setupErr, .spn, .flt, .plc, .sce, .chn, .wrp, .seq, .pwr]

/-- Of the spindle the crossings and the rotor stay, and no part changes but those of the speed loop. -/
def TurnKept (s t : State) : Prop := Only motorParts s t ∧ t.spn.crossings = s.spn.crossings ∧ t.spn.rotor = s.spn.rotor

theorem turnKept_refl (s : State) : TurnKept s s := ⟨only_refl _ s, rfl, rfl⟩

theorem turnKept_trans {s t u : State} (h : TurnKept s t) (k : TurnKept t u) : TurnKept s u := by
  obtain ⟨honly, hcross, hrotor⟩ := h
  obtain ⟨konly, kcross, krotor⟩ := k
  exact ⟨only_trans honly konly, kcross.trans hcross, krotor.trans hrotor⟩

theorem turnKept_of_only {ps : List Part} {s t : State} (h : Only ps s t) (hspn : Part.spn ∉ ps := by decide)
    (hps : ∀ p ∈ ps, p ∈ motorParts := by decide) : TurnKept s t := by
  have hsame : t.spn = s.spn := h .spn hspn
  exact ⟨only_mono h hps, by rw [hsame], by rw [hsame]⟩

theorem turnKept_modSpn (s : State) (f : Spn → Spn)
    (hf : ∀ x, (f x).crossings = x.crossings ∧ (f x).rotor = x.rotor := by exact fun _ => ⟨rfl, rfl⟩) : TurnKept s (s.modSpn f) := by
  obtain ⟨hcross, hrotor⟩ := hf s.spn
  exact ⟨only_mono (only_modSpn s f) (by decide), hcross, hrotor⟩

theorem turnKept_ite {p : Prop} [Decidable p] {s t u : State} (h : TurnKept s t) (k : TurnKept s u) : TurnKept s (if p then t else u) := by
  split
  · exact h
  · exact k

theorem turnKept_spnFault (s : State) : TurnKept s s.spnFault := by
  obtain ⟨g, l, st, a, b, c, h⟩ := spnFault_fields s
  exact ⟨only_mono (only_spnFault s) (by decide), by rw [h], by rw [h]⟩

theorem turnKept_spnReport (s : State) (code sev : Nat) : TurnKept s (s.spnReport code sev) :=
  turnKept_trans (turnKept_of_only (only_report s _ _ _ _)) (turnKept_modSpn _ _)

theorem only_reloadSlot (s : State) (n : Nat) : Only [.regs, .sce] s (s.reloadSlot n) := by
  unfold State.reloadSlot
  exact only_step (ps := [.regs, .sce]) (only_mono (only_foldl (fun s _ => only_setRv s _ _) _ s) (by decide)) (only_modSlot _ _ _)

/-- The slot reloaded and the fault of slot 20 noted. -/
def State.slotFaulted (s : State) (n code sev : Nat) : State :=
  let s := ((s.report (32 + n) code 0 sev).spnReport 6 sev).reloadSlot n
  if n = 20 then s.modSpn fun x => { x with slotFaultAt := some s.now } else s

theorem turnKept_slotFaulted (s : State) (n code sev : Nat) : TurnKept s (s.slotFaulted n code sev) := by
  have hreload : TurnKept s (((s.report (32 + n) code 0 sev).spnReport 6 sev).reloadSlot n) :=
    turnKept_trans (turnKept_trans (turnKept_of_only (only_report s _ _ _ _)) (turnKept_spnReport _ _ _))
      (turnKept_of_only (only_reloadSlot _ n))
  exact turnKept_ite (turnKept_trans hreload (turnKept_modSpn _ _)) hreload

/-- Whether a fault of slot 20 follows another within 10 s (R266). -/
def State.faultAgain (s : State) (n : Nat) : Bool :=
  n == 20 && (match s.spn.slotFaultAt with | some t => decide (s.now < t + 10000000000) | none => false)

theorem spnSlotFault_eq (s : State) (n code : Nat) : s.spnSlotFault n code =
    if s.faultAgain n then
      let u := (s.slotFaulted n code (if s.faultAgain n then 2 else 1)).retractAll
      if u.allUnloaded then u.spnFault else u.modSpn fun x => { x with faultPending := true }
    else s.slotFaulted n code (if s.faultAgain n then 2 else 1) := rfl

theorem turnKept_spnSlotFault (s : State) (n code : Nat) : TurnKept s (s.spnSlotFault n code) := by
  have hfault := turnKept_slotFaulted s n code (if s.faultAgain n then 2 else 1)
  have hretract := turnKept_trans hfault (turnKept_of_only (only_retractAll _))
  rw [spnSlotFault_eq]
  exact turnKept_ite (turnKept_ite (turnKept_trans hretract (turnKept_spnFault _)) (turnKept_trans hretract (turnKept_modSpn _ _))) hfault

theorem only_swapBank (s : State) (n : Nat) : Only [.sce, .setupErr] s (s.swapBank n) := by
  unfold State.swapBank
  refine only_ite (fun _ => only_refl _ s) fun _ => only_ite (fun _ => ?_) fun _ => only_mono (only_modSlot s _ _) (by decide)
  simp [State.setupError, State.modSlot, only_iff, State.sess]

theorem only_runSlot (s : State) (n : Nat) (err : Int) : Only [.sce] s (s.runSlot n err).1 := by
  unfold State.runSlot
  generalize s.bankHeader (s.slot n).phys (s.slot n).bank = header
  obtain ⟨nsec, shIn, shOut, clamp⟩ := header
  dsimp only
  generalize s.cascade _ _ _ _ _ _ = result
  obtain ⟨y, sts, sat⟩ := result
  exact only_modSlot s _ _

theorem only_limitSlot (s : State) (n : Nat) (limited : Bool) (k : Nat) : Only [.sce] s (s.limitSlot n limited k) :=
  only_ite (fun _ => only_modSlot s _ _) fun _ => only_refl _ s

theorem turnKept_spnMonitor (s : State) (n : Nat) (sat : Bool) (err : Int) : TurnKept s (s.spnMonitor n sat err) := by
  unfold State.spnMonitor
  have hinputs := turnKept_of_only (only_modSlot s n fun x => { x with inputs := if s.spn.state = .atSpeed then (err :: x.inputs).take 64 else [] })
  have hfault (code : Nat) := turnKept_trans hinputs (turnKept_spnSlotFault _ n code)
  exact turnKept_ite (hfault 4) (turnKept_ite (hfault 3) (turnKept_ite (hfault 5) hinputs))

theorem turnKept_speedLoop (s : State) : TurnKept s s.speedLoop := by
  unfold State.speedLoop
  refine turnKept_trans ?_ (turnKept_spnMonitor _ _ _ _)
  refine turnKept_trans ?_ (turnKept_modSpn _ _)
  refine turnKept_trans (turnKept_trans ?_ (turnKept_of_only (only_runSlot _ 20 _))) (turnKept_of_only (only_limitSlot _ 20 _ _))
  exact turnKept_of_only (only_swapBank s 20)

/-! ## The index -/

theorem seqr_modSeq (s : State) (q k : Nat) (f : Seq → Seq) : (s.modSeq q f).seqr k = if k = q then f (s.seqr k) else s.seqr k := by
  split
  · rename_i h
    subst h
    exact agetD_acanon_same ..
  · rename_i h
    exact agetD_acanon_other _ _ _ _ h

/-- The state in which the index has reached every sequencer (R267). -/
def State.indexSeen (s : State) : State := (List.range 18).foldl (fun s q => s.modSeq q fun x => { x with idx := true }) s

theorem only_indexSeen (s : State) : Only [.seq] s s.indexSeen := only_foldl (fun s q => only_modSeq s q _) _ s

theorem idx_indexSeen (s : State) {q : Nat} (hq : q < 18) : (s.indexSeen.seqr q).idx = true := by
  have key : ∀ (l : List Nat) (u : State), q ∈ l ∨ (u.seqr q).idx = true →
      ((l.foldl (fun s q => s.modSeq q fun x => { x with idx := true }) u).seqr q).idx = true := by
    intro l
    induction l with
    | nil => exact fun u hu => hu.resolve_left List.not_mem_nil
    | cons k l ih =>
      refine fun u hu => ih _ ?_
      rw [seqr_modSeq]
      by_cases hk : q = k
      · exact .inr (by rw [if_pos hk])
      · rw [if_neg hk]
        exact hu.imp (fun hmem => (List.mem_cons.mp hmem).resolve_left hk) id
  exact key (List.range 18) s (.inl (List.mem_range.mpr hq))

theorem slot_of_sce {s t : State} (h : t.sce = s.sce) (n : Nat) : t.slot n = s.slot n := by simp only [State.slot, h]

theorem slot_modSlot (s : State) (n m : Nat) (f : Slot → Slot) : (s.modSlot n f).slot m = if m = n then f (s.slot m) else s.slot m := by
  split
  · rename_i h
    subst h
    exact slot_modSlot_same s m f
  · exact slot_modSlot_other s f ‹_›

theorem setPointNow_congr {s t : State} (hspn : t.spn = s.spn) (hnow : t.now = s.now) (hsec : t.sec = s.sec) :
    t.setPointNow = s.setPointNow := by
  simp only [State.setPointNow, State.spnPers, hspn, hnow, hsec]

/-- The spindle that has reached its speed (R255). -/
def reachedSpn (x : Spn) : Spn := { x with goodRevs := 0, badRevs := 0, enabledAt := 0 }

/-- The eighth good revolution in RAMP leads to AT_SPEED (R255). -/
theorem speedIndex_reached {s : State} (hstate : s.spn.state = .ramp) (hset : s.setPointNow = 16 * s.spn.target)
    (hnear : 1000 * ((s.spn.speed : Int) - (16 * s.spn.target : Nat)).natAbs ≤ 16 * s.spn.target) (hgood : s.spn.goodRevs = 7)
    (hoff : s.spn.tlState = .off) : s.speedIndex = (s.spnEnter .atSpeed).modSpn reachedSpn := by
  obtain ⟨g, l, h⟩ := spnEnter_shape s .atSpeed
  have hwait : ¬((s.spnEnter .atSpeed).modSpn reachedSpn).spn.tlState = .wait := by
    rw [h]
    show ¬s.spn.tlState = .wait
    simp [hoff]
  rw [State.speedIndex, if_pos hstate]
  simp only []
  rw [if_pos ⟨hset, hnear⟩, if_pos (by omega)]
  exact if_neg hwait

/-- The state in which the settings of transit lock have been read and its slot has not run (R272). -/
def State.lockRead (s : State) : State :=
  (s.modSpn fun x => { x with tlCfg := s.rv .spnTlCfg, tlOfs := s.rv .spnTlOfs }).modSlot 21 fun x => { x with run := false }

theorem tlIndex_off {s : State} (late : Bool) (hcfg : s.spn.tlCfg = s.rv .spnTlCfg) (hoff : s.spn.tlState = .off) :
    s.tlIndex late = s.lockRead := by
  have hlock : s.lockRead.spn.tlState = .off := hoff
  rw [State.tlIndex, if_neg (fun h => h hcfg)]
  show (match s.lockRead.spn.tlState with | .off => s.lockRead | .wait => _ | st => _) = s.lockRead
  rw [hlock]

theorem loadDue_none {s : State} (h : s.pwr.toLoad = []) : s.loadDue = s := by
  have hsame : ({ s with pwr := { s.pwr with toLoad := [] } } : State) = s := by rw [← h]
  simp only [State.loadDue, h, List.filter_nil, List.foldl_nil]
  split
  · rfl
  · exact hsame

theorem abortPoint_none {s : State} (h : s.pwr.change = none) (k : Nat) : s.abortPoint k = s := by simp only [State.abortPoint, h]

/-- The state in which an index has led to AT_SPEED, but for D_max. -/
def State.indexReached (s : State) : State := ((s.spnEnter .atSpeed).modSpn reachedSpn).lockRead

theorem indexReached_shape (s : State) : ∃ g l, s.indexReached = ({ s with spn := { s.spn with
    state := .atSpeed, since := s.now, goodRevs := 0, badRevs := 0, enabledAt := 0, tlCfg := s.rv .spnTlCfg, tlOfs := s.rv .spnTlOfs,
    gates := g, gateFree := l } } : State).modSlot 21 fun x => { x with run := false } := by
  obtain ⟨g, l, h⟩ := spnEnter_shape s .atSpeed
  refine ⟨g, l, ?_⟩
  rw [State.indexReached, h]
  rfl

theorem only_indexReached (s : State) : Only [.spn, .sce] s s.indexReached := by
  obtain ⟨g, l, h⟩ := indexReached_shape s
  rw [h]
  exact only_step (only_mono (only_setSpn s _) (by decide)) (only_modSlot _ _ _)

/-- Once AT_SPEED is reached with the target in force, nothing but D_max is left to do at an index. -/
theorem takeTarget_indexReached {s : State} (htarget : s.spn.target = s.targetRpm) :
    (s.indexReached.recomputeDmax).takeTarget = s.indexReached.recomputeDmax := by
  have hdmax := only_recomputeDmax s.indexReached
  have hreached := only_indexReached s
  have hspn : (s.indexReached.recomputeDmax).spn = s.indexReached.spn := hdmax .spn (by decide)
  have hrpm : (s.indexReached.recomputeDmax).targetRpm = s.targetRpm :=
    targetRpm_congr ((hdmax .regs (by decide)).trans (hreached .regs (by decide))) ((hdmax .sec (by decide)).trans (hreached .sec (by decide)))
  have hsame : s.indexReached.spn.target = s.spn.target := by
    obtain ⟨g, l, h⟩ := indexReached_shape s
    rw [h]
    rfl
  rw [State.takeTarget, hrpm, hspn, hsame, if_pos htarget.symm]

theorem pwr_recomputeDmax {α : Type} (f : Pwr → α) (s : State)
    (hf : ∀ (x : Pwr) (d τ : Nat) (q : Option Nat), f { x with dmax := d, tSave := τ, quietSince := q } = f x := by exact fun _ _ _ _ => rfl) :
    f s.recomputeDmax.pwr = f s.pwr := by
  obtain ⟨d, τ, h, hstill⟩ := recomputeDmax_shape s
  have hpwr : { s.recomputeDmax.pwr with quietSince := s.pwr.quietSince } = { s.pwr with dmax := d, tSave := τ } := still_pwr hstill
  calc f s.recomputeDmax.pwr
      = f { s.recomputeDmax.pwr with quietSince := s.pwr.quietSince } :=
        (hf s.recomputeDmax.pwr s.recomputeDmax.pwr.dmax s.recomputeDmax.pwr.tSave s.pwr.quietSince).symm
    _ = f { s.pwr with dmax := d, tSave := τ } := congrArg f hpwr
    _ = f s.pwr := hf s.pwr d τ s.pwr.quietSince

/-- What an index that leads to AT_SPEED leaves, for the row as a whole (R255, R267). -/
theorem spindleIndex_reached {s : State} (late : Bool) (hstate : s.spn.state = .ramp) (hset : s.setPointNow = 16 * s.spn.target)
    (hnear : 1000 * ((s.spn.speed : Int) - (16 * s.spn.target : Nat)).natAbs ≤ 16 * s.spn.target) (hgood : s.spn.goodRevs = 7)
    (htarget : s.spn.target = s.targetRpm) (hoff : s.spn.tlState = .off) (hcfg : s.spn.tlCfg = s.rv .spnTlCfg)
    (hload : s.pwr.toLoad = []) (hchange : s.pwr.change = none) :
    ((((s.speedIndex.tlIndex late).recomputeDmax).takeTarget).loadDue).abortPoint 5 = s.indexReached.recomputeDmax := by
  have hlock : s.speedIndex.tlIndex late = s.indexReached := by
    obtain ⟨g, l, h⟩ := spnEnter_shape s .atSpeed
    rw [speedIndex_reached hstate hset hnear hgood hoff]
    refine tlIndex_off late ?_ ?_
    · rw [h]
      exact hcfg
    · rw [h]
      exact hoff
  have hreached := only_indexReached s
  have hnone : (s.indexReached.recomputeDmax).pwr.toLoad = [] :=
    (pwr_recomputeDmax Pwr.toLoad _).trans ((pwr_of_only Pwr.toLoad hreached (by decide)).trans hload)
  have hrest : (s.indexReached.recomputeDmax).pwr.change = none :=
    (pwr_recomputeDmax Pwr.change _).trans ((pwr_of_only Pwr.change hreached (by decide)).trans hchange)
  rw [hlock, takeTarget_indexReached htarget, loadDue_none hnone, abortPoint_none hrest]

theorem gatesFollow_indexReached {s t : State} (u : State) (hspn : u.spn = s.spn) (hsec : u.sec = s.sec) (hnow : t.now = u.now)
    (htsec : t.sec = u.sec) (htspn : t.spn = u.indexReached.spn) : GatesFollow s t := by
  obtain ⟨g, l, h⟩ := indexReached_shape u
  have hgates : u.indexReached.spn.gates = (u.spnEnter .atSpeed).spn.gates := rfl
  have hfree : u.indexReached.spn.gateFree = (u.spnEnter .atSpeed).spn.gateFree := rfl
  refine gatesFollow_spnEnter u .atSpeed (by rw [hspn]) (by rw [hspn]) (by simp only [State.spnPers, hsec]) hnow ?_
    ((congrArg Spn.gates htspn).trans hgates) ((congrArg Spn.gateFree htspn).trans hfree)
  rw [h] at htspn
  refine gatesWanted_congr hnow (by simp only [State.spnPers, htsec]; rfl) ?_ ?_ ?_ ?_ ?_ ?_ <;> rw [htspn] <;> rfl

/-! ## SYNC -/

theorem syncFn_three {s : State} (h : s.syncFn = 3) : fld (s.rv .spnTlCfg) 31 30 = 2 := by
  refine Decidable.byContradiction fun hne => ?_
  revert h
  simp only [State.syncFn, syncMask, if_neg hne]
  split <;> split <;> split <;> decide

theorem syncEdge_lock {s : State} (h : s.syncFn = 3) : s.syncEdge = s.tlEdge := by simp only [State.syncEdge, h]

/-- The lock holds over once the last edge is too long ago (R273). -/
theorem tlHoldover_eq {s : State} {x : Nat} (hmode : fld s.spn.tlCfg 31 30 = 2) (hlock : s.spn.tlState = .locked)
    (hedge : s.spn.syncEdge = some x) : s.tlHoldover =
    ((s.advanceTo (x + 4 * fld s.spn.tlCfg 23 16 * 60000000000 / max 1 s.targetRpm)).spnReport 7 0).tlEnter .holdover := by
  rw [State.tlHoldover, if_pos ⟨hmode, .inr hlock⟩, hedge]

theorem flt_advanceTo (s : State) (m : Nat) : (s.advanceTo m).flt = s.flt := rfl

/-- A lock that holds over is reported (R273, R279). -/
theorem still_lockOver (s : State) : Still
    { s with
      spn := { s.spn with tlState := .holdover, phRun := 0, lossRun := 0, lastFault := 7 },
      flt := { s.flt with inbox := joinReports s.now { source := 64, kind := 7, addr := 0, severity := 0 } s.flt.inbox } }
    ((s.spnReport 7 0).tlEnter .holdover) := still_trans (still_of_eq rfl) (still_evcLevel _ 11)

/-- Settles O23: a crossing and the index turn the rotor and the sequencers on, an edge is the reference or is counted. -/
theorem spindleRevolutions : Obligations.SpindleRevolutions := by
  unfold Obligations.SpindleRevolutions
  refine ⟨?coasting, ?driven, ?index, ?first, ?bad, ?holdover⟩
  case coasting =>
    intro s late x hready hstate hunloaded hx hlt
    have hguard : s.crossed.speedGuard = s.crossed := speedGuard_unloaded hunloaded
    have hrun : ¬(s.crossed.spn.state = .ramp ∨ s.crossed.spn.state = .atSpeed) := by
      show ¬(s.spn.state = .ramp ∨ s.spn.state = .atSpeed)
      rcases hstate with h | h | h <;> simp [h]
    have hspeed : s.crossSpeed = 16 * 60000000000 / (s.spnPers.polePairs * (s.now - x)) := by
      have hsix : ((s.now :: s.spn.crossings).take 13)[6]? = some x := by simp [hx]
      simp only [State.crossSpeed, hsix, if_pos hlt]
    have heffect : s.zeroCrossing late = s.crossed.modSlot 20 fun x => { x with run := false } := by
      rw [zeroCrossing_eq, if_neg (by rcases hstate with h | h | h <;> simp [h]), hguard]
      exact (if_neg fun h => hrun h.1).trans (if_neg hrun)
    refine gives_only (exec_zeroCrossing late s) hready fun t ht => ?_
    rw [heffect] at ht
    have hsce : t.sce = (s.crossed.modSlot 20 fun x => { x with run := false }).sce := ht .sce (by decide)
    refine ⟨?_, fun n => ?_, by rw [hsce]; rfl, by rw [hsce]; rfl, ?_⟩
    · rw [show t.spn = s.crossedSpn from ht .spn (by decide), State.crossedSpn, hspeed]
    · have hslot : t.slot n = (s.crossed.modSlot 20 fun x => { x with run := false }).slot n := slot_of_sce hsce n
      rw [hslot, slot_modSlot]
      rfl
    · exact only_step (only_step (ps := [.spn, .sce]) (only_mono (only_setSpn s _) (by decide)) (only_modSlot _ _ _)) ht
  case driven =>
    intro s late hready hstate
    have hrun : ¬(!decide (s.spn.state = .ramp ∨ s.spn.state = .atSpeed ∨ s.spn.state = .coast ∨ s.spn.state = .brake ∨
        s.spn.state = .openLoop)) = true := by
      rcases hstate with h | h <;> simp [h]
    have hguard := turnKept_of_only (only_speedGuard s.crossed)
    have hkept : TurnKept s.crossed (s.zeroCrossing late) := by
      rw [zeroCrossing_eq, if_neg hrun]
      exact turnKept_ite (turnKept_trans hguard (turnKept_spnSlotFault _ _ _)) (turnKept_ite (turnKept_trans hguard (turnKept_speedLoop _))
        (turnKept_trans hguard (turnKept_of_only (only_modSlot _ _ _))))
    obtain ⟨honly, hcross, hrotor⟩ := hkept
    refine gives_only (exec_zeroCrossing late s) hready fun t ht => ?_
    have hspn : t.spn = (s.zeroCrossing late).spn := ht .spn (by decide)
    refine ⟨by rw [hspn, hcross]; rfl, by rw [hspn, hrotor]; rfl, ?_⟩
    exact only_step (only_step (ps := motorParts) (only_mono (only_setSpn s _) (by decide)) honly) ht
  case index =>
    intro s late hready hstate hset hnear hgood htarget hoff hcfg hload hchange
    have hseen := only_indexSeen s
    have hidx (q : Nat) (hq : q < 18) := idx_indexSeen s hq
    have hturning : ¬(!decide (s.spn.state = .ramp ∨ s.spn.state = .atSpeed ∨ s.spn.state = .coast)) = true := by simp [hstate]
    have heffect : s.spindleIndex late = (((s.indexSeen).speedIndex.tlIndex late).recomputeDmax).takeTarget := by
      rw [State.spindleIndex, if_neg hturning]
      rfl
    have hfields : s.indexSeen.spn = s.spn ∧ s.indexSeen.regs = s.regs ∧ s.indexSeen.sec = s.sec ∧ s.indexSeen.now = s.now ∧
        s.indexSeen.sce = s.sce ∧ s.indexSeen.pwr.toLoad = s.pwr.toLoad ∧ s.indexSeen.pwr.change = s.pwr.change :=
      ⟨hseen .spn (by decide), hseen .regs (by decide), hseen .sec (by decide), hseen .clock (by decide), hseen .sce (by decide),
        pwr_of_only Pwr.toLoad hseen (by decide), pwr_of_only Pwr.change hseen (by decide)⟩
    generalize s.indexSeen = u at heffect hseen hidx hfields
    obtain ⟨hspn, hregs, hsec, hnow, hsce, htoLoad, hnone⟩ := hfields
    have hrow : ((s.spindleIndex late).loadDue).abortPoint 5 = u.indexReached.recomputeDmax := by
      rw [heffect]
      refine spindleIndex_reached late (by rw [hspn, hstate]) ?_ (by rw [hspn]; exact hnear) (by rw [hspn, hgood]) ?_ (by rw [hspn, hoff]) ?_
        (htoLoad.trans hload) (hnone.trans hchange)
      · rw [setPointNow_congr hspn hnow hsec, hset, hspn]
      · rw [hspn, targetRpm_congr hregs hsec, htarget]
      · rw [hspn, rv_of_regs hregs, hcfg]
    refine gives_only (exec_spindleIndex late s) hready fun t ht => ?_
    rw [hrow] at ht
    have honly : Only [.plc, .pwr] u.indexReached t := only_step (only_recomputeDmax _) ht
    have hreached := only_step (ps := [.spn, .sce, .plc, .pwr]) (only_mono (only_indexReached u) (by decide)) honly
    have htspn : t.spn = u.indexReached.spn := honly .spn (by decide)
    have htsce : t.sce = u.indexReached.sce := honly .sce (by decide)
    have hfollow : GatesFollow s t := gatesFollow_indexReached u hspn hsec (hreached .clock (by decide)) (hreached .sec (by decide)) htspn
    obtain ⟨g, l, h⟩ := indexReached_shape u
    rw [h] at htspn htsce
    refine ⟨by rw [htspn]; rfl, by rw [htspn]; exact hnow, by rw [htspn]; rfl, by rw [htspn]; rfl, fun q hq => ?_, fun n => ?_,
      by rw [htsce, ← hsce]; rfl, by rw [htsce, ← hsce]; rfl, hfollow, ?_⟩
    · rw [show t.seqr q = u.seqr q from congrArg (fun x : Seqs => agetD x.seqs q (idleSeq q)) (hreached .seq (by decide))]
      exact hidx q hq
    · rw [slot_of_sce htsce, slot_modSlot, ← slot_of_sce hsce n]
      rfl
    · exact only_step (only_mono hseen (by decide)) hreached
  case first =>
    intro s hready hfn hfirst hlock
    refine gives_still (exec_syncEdge s) hready rfl (still_of_eq ?_)
    rw [syncEdge_lock hfn, State.tlEdge, if_neg (by simp [syncFn_three hfn]), hfirst]
    exact if_neg hlock
  case bad =>
    intro s x hready hfn hedge hoff
    refine gives_still (exec_syncEdge s) hready rfl (still_of_eq ?_)
    have hbad : ¬decide (1000 * ((s.now : Int) - x - (fld (s.rv .spnTlCfg) 23 16 * 60000000000 / max 1 s.targetRpm : Nat)).natAbs ≤
        fld (s.rv .spnTlCfg) 23 16 * 60000000000 / max 1 s.targetRpm) = true := by
      simpa using hoff
    rw [syncEdge_lock hfn, State.tlEdge, if_neg (by simp [syncFn_three hfn]), hedge]
    exact if_neg hbad
  case holdover =>
    intro s x hready hmode hlock hedge
    have heffect := tlHoldover_eq hmode hlock hedge
    have hspn := spn_advanceTo s (x + 4 * fld s.spn.tlCfg 23 16 * 60000000000 / max 1 s.targetRpm)
    have hflt := flt_advanceTo s (x + 4 * fld s.spn.tlCfg 23 16 * 60000000000 / max 1 s.targetRpm)
    obtain ⟨hqueue, -⟩ := entersFrom_advanceTo s (x + 4 * fld s.spn.tlCfg 23 16 * 60000000000 / max 1 s.targetRpm)
    generalize s.advanceTo (x + 4 * fld s.spn.tlCfg 23 16 * 60000000000 / max 1 s.targetRpm) = u at heffect hspn hflt hqueue ⊢
    refine gives_still (exec_tlHoldover s) hready hqueue ?_
    rw [heffect, ← hspn, ← hflt]
    exact still_lockOver u

end Sys2Proof.Machine
end

section
/-! SUPPORT. The samples of an actuator: an overrun, the end of a load, and the current loop (R203, R236, R238, R247). -/

namespace Sys2Proof.Machine

open Sys2Proof

-- One declaration at a time: proofs elaborated side by side hold a stack each, and the check bounds their sum.
set_option Elab.async false

theorem stream_modStream (s : State) (i j : Nat) (f : Stream → Stream) :
    (s.modStream i f).stream j = if j = i then f (s.stream j) else s.stream j := by
  split
  · rename_i h
    subst h
    exact agetD_acanon_same ..
  · rename_i h
    exact agetD_acanon_other _ _ _ _ h

theorem loop_modLoop (s : State) (i j : Nat) (f : HeadLoop → HeadLoop) :
    (s.modLoop i f).loop j = if j = i then f (s.loop j) else s.loop j := by
  split
  · rename_i h
    subst h
    exact agetD_acanon_same ..
  · rename_i h
    exact agetD_acanon_other _ _ _ _ h

/-! ## The records are taken -/

/-- The records of an actuator's streams are taken. -/
def State.recordsTaken (s : State) (l : List Nat) : State := l.foldl (fun s st => s.modStream st fun x => { x with fresh := none }) s

theorem only_recordsTaken (s : State) (l : List Nat) : Only [.chn] s (s.recordsTaken l) := only_foldl (fun s st => only_modStream s st _) l s

theorem stream_recordsTaken (s : State) (l : List Nat) (st : Nat) :
    (s.recordsTaken l).stream st = if st ∈ l then { s.stream st with fresh := none } else s.stream st := by
  induction l generalizing s with
  | nil => rfl
  | cons k l ih =>
    refine (ih _).trans ?_
    rw [stream_modStream]
    by_cases hk : st = k
    · simp [hk]
    · simp [hk]

/-- The state in which a sample has begun: its records taken, its window closed, its slots marked as not run (R202). -/
def State.sampleBegun (s : State) (a : Nat) : State :=
  let start := s.sampleStart a
  let u := ((s.recordsTaken (streamsOf a)).advanceTo (start + 600)).modAct a fun x => { x with began := some start }
  (a :: (streamsOf a).map (4 + ·)).foldl (fun (s : State) n => s.modSlot n fun x => { x with run := false }) u

/-- The bank switches that wait for a sample take effect (R210). -/
def State.banksSwapped (s : State) (a : Nat) : State := (a :: (streamsOf a).map (4 + ·)).foldl (fun s n => s.swapBank n) s

theorem servoSample_none {s : State} {a : Nat} (late : Bool) (h : s.sampleRecords a = []) :
    s.servoSample a late = s.recordsTaken (streamsOf a) := by
  simp only [State.servoSample, h]
  rfl

theorem servoSample_late {s : State} {a : Nat} (h : s.sampleRecords a ≠ []) : s.servoSample a true = (s.sampleBegun a).overrun a := by
  have hsome : ¬(!(!(s.sampleRecords a).isEmpty)) = true := by simpa using h
  unfold State.servoSample
  rw [if_neg hsome]
  rfl

theorem servoSample_loading {s : State} {a : Nat} (h : s.sampleRecords a ≠ [])
    (hstate : (((s.sampleBegun a).banksSwapped a).act a).state = .loading) :
    s.servoSample a false = ((s.sampleBegun a).banksSwapped a).loadSample a (s.sampleRecords a) := by
  have hsome : ¬(!(!(s.sampleRecords a).isEmpty)) = true := by simpa using h
  unfold State.servoSample
  rw [if_neg hsome, if_neg (by decide)]
  extract_lets u
  have hu : u = (s.sampleBegun a).banksSwapped a := rfl
  rw [← hu] at hstate ⊢
  clear_value u
  simp only [hstate]

/-! ## What a sample that has begun keeps -/

theorem only_slotsMarked (l : List Nat) (s : State) :
    Only [.sce] s (l.foldl (fun (s : State) n => s.modSlot n fun x => { x with run := false }) s) :=
  only_foldl (fun s n => only_modSlot s n _) l s

theorem acts_slotsMarked (l : List Nat) (s : State) :
    (l.foldl (fun (s : State) n => s.modSlot n fun x => { x with run := false }) s).sce.acts = s.sce.acts :=
  foldl_keeps (fun s => s.sce.acts) (fun (s : State) n => s.modSlot n fun x => { x with run := false }) (fun _ _ => rfl) l s

theorem heads_slotsMarked (l : List Nat) (s : State) :
    (l.foldl (fun (s : State) n => s.modSlot n fun x => { x with run := false }) s).sce.heads = s.sce.heads :=
  foldl_keeps (fun s => s.sce.heads) (fun (s : State) n => s.modSlot n fun x => { x with run := false }) (fun _ _ => rfl) l s

theorem swapBank_keeps (s : State) (n : Nat) : (s.swapBank n).sce.acts = s.sce.acts ∧ (s.swapBank n).sce.heads = s.sce.heads := by
  unfold State.swapBank
  dsimp only
  split
  · exact ⟨rfl, rfl⟩
  · split <;> exact ⟨rfl, rfl⟩

theorem only_banksSwapped (s : State) (a : Nat) : Only [.sce, .setupErr] s (s.banksSwapped a) := only_foldl only_swapBank _ s

theorem acts_banksSwapped (s : State) (a : Nat) : (s.banksSwapped a).sce.acts = s.sce.acts :=
  foldl_keeps (fun s => s.sce.acts) _ (fun s n => (swapBank_keeps s n).1) _ s

theorem heads_banksSwapped (s : State) (a : Nat) : (s.banksSwapped a).sce.heads = s.sce.heads :=
  foldl_keeps (fun s => s.sce.heads) _ (fun s n => (swapBank_keeps s n).2) _ s

theorem only_sampleBegun (s : State) (a : Nat) : Only [.clock, .tim, .chn, .sce] s (s.sampleBegun a) := by
  unfold State.sampleBegun
  have htaken : Only [.clock, .tim, .chn, .sce] s ((s.recordsTaken (streamsOf a)).advanceTo (s.sampleStart a + 600)) :=
    only_step (only_mono (only_recordsTaken s _) (by decide)) (only_advanceTo _ _)
  exact only_step (only_step htaken (only_modAct _ _ _)) (only_slotsMarked _ _)

theorem now_sampleBegun (s : State) (a : Nat) : (s.sampleBegun a).now = max s.now (s.sampleStart a + 600) := by
  have hmarked : (s.sampleBegun a).now = _ := only_slotsMarked _ _ .clock (by decide)
  have htaken : (s.recordsTaken (streamsOf a)).now = s.now := only_recordsTaken s _ .clock (by decide)
  exact hmarked.trans ((now_advanceTo _ _).trans (by rw [htaken]))

theorem act_sampleBegun (s : State) (a b : Nat) :
    (s.sampleBegun a).act b = if b = a then { s.act a with began := some (s.sampleStart a) } else s.act b := by
  have htaken : ((s.recordsTaken (streamsOf a)).advanceTo (s.sampleStart a + 600)).sce = s.sce := only_recordsTaken s _ .sce (by decide)
  unfold State.sampleBegun
  rw [act_of_acts (acts_slotsMarked _ _)]
  by_cases hb : b = a
  · subst hb
    rw [act_modAct_same, if_pos rfl, act_of_acts (congrArg Sce.acts htaken)]
  · rw [act_modAct_other _ _ hb, if_neg hb, act_of_acts (congrArg Sce.acts htaken)]

theorem chn_sampleBegun (s : State) (a : Nat) : (s.sampleBegun a).chn = (s.recordsTaken (streamsOf a)).chn := by
  have hmarked : (s.sampleBegun a).chn = _ := only_slotsMarked _ _ .chn (by decide)
  exact hmarked

theorem heads_sampleBegun (s : State) (a : Nat) : (s.sampleBegun a).sce.heads = s.sce.heads := by
  have htaken : ((s.recordsTaken (streamsOf a)).advanceTo (s.sampleStart a + 600)).sce = s.sce := only_recordsTaken s _ .sce (by decide)
  exact (heads_slotsMarked _ _).trans (congrArg Sce.heads htaken :)

theorem stream_of_chn {s t : State} (h : t.chn = s.chn) (st : Nat) : t.stream st = s.stream st := by simp only [State.stream, h]

theorem loop_of_heads {s t : State} (h : t.sce.heads = s.sce.heads) (st : Nat) : t.loop st = s.loop st := by simp only [State.loop, h]

theorem activeStreams_of_readers {s t : State} (h : ∀ st, (t.stream st).readers = (s.stream st).readers) (hregs : t.regs = s.regs)
    (b : Nat) : t.activeStreams b = s.activeStreams b :=
  List.filter_congr fun st _ => by simp only [State.activeHead, h st, rv_of_regs hregs]

theorem activeStreams_congr {s t : State} (h : t.chn = s.chn) (hregs : t.regs = s.regs) (b : Nat) :
    t.activeStreams b = s.activeStreams b := activeStreams_of_readers (fun st => by rw [stream_of_chn h]) hregs b

/-- The active heads do not depend on the records that wait. -/
theorem activeStreams_sampleBegun (s : State) (a b : Nat) : ((s.sampleBegun a).banksSwapped a).activeStreams b = s.activeStreams b := by
  have hregs : ((s.sampleBegun a).banksSwapped a).regs = s.regs :=
    (only_banksSwapped _ a .regs (by decide)).trans (only_sampleBegun s a .regs (by decide))
  have hchn : ((s.sampleBegun a).banksSwapped a).chn = (s.recordsTaken (streamsOf a)).chn :=
    (only_banksSwapped _ a .chn (by decide)).trans (chn_sampleBegun s a)
  refine activeStreams_of_readers (fun st => ?_) hregs b
  rw [stream_of_chn hchn, stream_recordsTaken]
  split <;> rfl

/-! ## The end of a load -/

/-- The valid records of a sample are counted for each active head and give its position (R238). -/
def State.loadCounted (s : State) (a : Nat) (recs : List (Nat × ServoRec)) : State :=
  let s := (s.activeStreams a).foldl (fun s st =>
    let good := recs.any fun e => e.1 == st && validRec e.2
    s.modLoop st fun l => { l with regain := if good then l.regain + 1 else 0 }) s
  recs.foldl (fun s e => if validRec e.2 then s.modLoop e.1 fun l => { l with pos := s.headPos e.2 } else s) s

/-- The set-points that the end of a load takes from its records. -/
def State.loadTargets (s : State) (a : Nat) (recs : List (Nat × ServoRec)) : State :=
  let s := recs.foldl (fun s e =>
    if validRec e.2 then s.setRv (.sceTgt e.1) (BitVec.ofNat 32 (2 ^ 31 + e.2.track % 2 ^ 24)) else s) s
  (s.activeStreams a).foldl (fun s st => s.modLoop st fun l => { l with regain := 0, seen := false }) s

/-- The actuator as a load ends (R238). -/
def State.loadedAct (s : State) (x : Act) : Act := { x with state := .settling, stateSince := s.now, settleRun := 0, headsOn := true, goTime := 0 }

theorem loadSample_ends {s : State} {a : Nat} {recs : List (Nat × ServoRec)}
    (h : ((s.loadCounted a recs).activeStreams a).any (fun st => decide (4 ≤ ((s.loadCounted a recs).loop st).regain)) = true) :
    s.loadSample a recs =
      (let u := (((s.loadCounted a recs).loadTargets a recs).measure a recs).1
      ((u.modAct a u.loadedAct).modAct a fun x => { x with handover := (u.modAct a u.loadedAct).vcmError a recs + x.handover }).recomputeDmax) := by
  unfold State.loadSample
  exact if_pos h

/-- A measurement changes its actuator alone, and not when its sample began. -/
theorem measure_shape (s : State) (a : Nat) (recs : List (Nat × ServoRec)) :
    ∃ f : Act → Act, (s.measure a recs).1 = s.modAct a f ∧ ∀ x, (f x).began = x.began := by
  unfold State.measure
  dsimp only
  split
  · dsimp only
    exact ⟨_, rfl, fun _ => rfl⟩
  · dsimp only
    exact ⟨_, rfl, fun _ => rfl⟩

theorem only_loadCounted (s : State) (a : Nat) (recs : List (Nat × ServoRec)) : Only [.sce] s (s.loadCounted a recs) := by
  unfold State.loadCounted
  refine only_trans (only_foldl (fun s st => only_modLoop s st _) _ s) (only_foldl (fun s e => ?_) _ _)
  exact only_ite (fun _ => only_modLoop s _ _) fun _ => only_refl _ s

theorem acts_loadCounted (s : State) (a : Nat) (recs : List (Nat × ServoRec)) : (s.loadCounted a recs).sce.acts = s.sce.acts := by
  unfold State.loadCounted
  refine (foldl_keeps (fun s => s.sce.acts) _ (fun s e => ?_) _ _).trans (foldl_keeps (fun s => s.sce.acts) _ (by exact fun _ _ => rfl) _ s)
  split <;> rfl

theorem only_loadTargets (s : State) (a : Nat) (recs : List (Nat × ServoRec)) : Only [.regs, .sce] s (s.loadTargets a recs) := by
  unfold State.loadTargets
  refine only_step (ps := [.regs, .sce]) (only_mono (only_foldl (ps := [.regs]) (fun s e => ?_) _ s) (by decide))
    (only_foldl (fun s st => only_modLoop s st _) _ _)
  exact only_ite (fun _ => only_setRv s _ _) fun _ => only_refl _ s

theorem acts_loadTargets (s : State) (a : Nat) (recs : List (Nat × ServoRec)) : (s.loadTargets a recs).sce.acts = s.sce.acts := by
  unfold State.loadTargets
  refine (foldl_keeps (fun s => s.sce.acts) _ (by exact fun _ _ => rfl) _ _).trans (foldl_keeps (fun s => s.sce.acts) _ (fun s e => ?_) _ s)
  split <;> rfl

/-- An active head with a valid record in the sample has one more valid record in a row. -/
theorem regain_loadCounted {s : State} {a st : Nat} {r : ServoRec} {recs : List (Nat × ServoRec)} (hst : st ∈ s.activeStreams a)
    (hmem : (st, r) ∈ recs) (hvalid : validRec r = true) (hregain : (s.loop st).regain = 3) :
    4 ≤ ((s.loadCounted a recs).loop st).regain := by
  have hgood : recs.any (fun e => e.1 == st && validRec e.2) = true := List.any_eq_true.mpr ⟨(st, r), hmem, by simp [hvalid]⟩
  have hcount : ∀ (l : List Nat) (u : State), st ∈ l ∧ 3 ≤ (u.loop st).regain ∨ 4 ≤ (u.loop st).regain →
      4 ≤ ((l.foldl (fun s k => s.modLoop k fun x => { x with
        regain := if recs.any (fun e => e.1 == k && validRec e.2) then x.regain + 1 else 0 }) u).loop st).regain := by
    intro l
    induction l with
    | nil => exact fun u hu => hu.elim (fun h => absurd h.1 List.not_mem_nil) id
    | cons k l ih =>
      refine fun u hu => ih _ ?_
      rw [loop_modLoop]
      by_cases hk : st = k
      · subst hk
        rw [if_pos rfl, if_pos hgood]
        refine .inr ?_
        rcases hu with ⟨-, h⟩ | h
        · exact Nat.succ_le_succ h
        · exact Nat.le_succ_of_le h
      · rw [if_neg hk]
        exact hu.imp (fun h => ⟨(List.mem_cons.mp h.1).resolve_left hk, h.2⟩) id
  have hpos : ∀ (l : List (Nat × ServoRec)) (u : State), ((l.foldl (fun s e =>
      if validRec e.2 then s.modLoop e.1 fun x => { x with pos := s.headPos e.2 } else s) u).loop st).regain = (u.loop st).regain := by
    refine fun l u => foldl_keeps (fun s => (s.loop st).regain) _ (fun s e => ?_) l u
    split
    · rw [loop_modLoop]
      split <;> rfl
    · rfl
  unfold State.loadCounted
  rw [hpos]
  exact hcount (s.activeStreams a) s (.inl ⟨hst, Nat.le_of_eq hregain.symm⟩)

/-! ## The current loop -/

/-- The actuator after a period of the current loop with the command `c` (R236). -/
def State.periodAct (s : State) (a : Nat) (c isense vcoil : Int) (slow : Bool) (now : Nat) (x : Act) : Act :=
  { x with
    current := isense, command := c, integ := (s.act a).integ + (s.actPers a).curKi * (c - isense),
    duty := (s.actPers a).curKp * (c - isense) + ((s.act a).integ + (s.actPers a).curKi * (c - isense)),
    diffRun := if decide (32767 < 10 * (c - isense).natAbs) then x.diffRun + 1 else 0, velocity := s.backEmf a isense vcoil,
    slowSince := if slow then some (x.slowSince.getD now) else none }

theorem modAct_congr (s : State) (a : Nat) {f g : Act → Act} (h : f (s.act a) = g (s.act a)) : s.modAct a f = s.modAct a g := by
  unfold State.modAct
  rw [h]

/-- A period of the current loop that leaves the current near its command raises no fault (R236, R243). -/
theorem currentPeriod_following {s : State} {a : Nat} {isense vcoil : Int} (hon : (s.act a).stageOn = true)
    (hstate : (s.act a).state = .following) (hnear : 10 * ((s.act a).command - isense).natAbs ≤ 32767) :
    s.currentPeriod a isense vcoil = s.modAct a (s.periodAct a (s.act a).command isense vcoil false s.now) := by
  have hzero : (s.periodAct a (s.act a).command isense vcoil false s.now (s.act a)).diffRun = 0 :=
    if_neg (by simpa using hnear)
  unfold State.currentPeriod
  simp only [hon, Bool.not_true, Bool.false_eq_true, if_false, hstate, reduceCtorEq, or_self, false_and, decide_false]
  refine if_neg ?_
  rw [act_modAct_same]
  exact (show ¬ 32 ≤ (s.periodAct a (s.act a).command isense vcoil false s.now (s.act a)).diffRun by rw [hzero]; decide)

/-- The command of the velocity loop of a moving actuator, and whether a limit held it (R236). -/
def State.fed (s : State) (a : Nat) (isense vcoil : Int) : Int × Bool := s.vcmSum a (s.velocityLoop a (s.backEmf a isense vcoil)) 0

/-- The state in which the velocity loop of a moving actuator has given its command (R236). -/
def State.movingCommand (s : State) (a : Nat) (isense vcoil : Int) : State :=
  (s.limitSlot a (s.fed a isense vcoil).2 (s.slot a).satRun).vcmCommand a (s.fed a isense vcoil).1

theorem only_movingCommand (s : State) (a : Nat) (isense vcoil : Int) : Only [.sce] s (s.movingCommand a isense vcoil) := by
  unfold State.movingCommand
  exact only_trans (only_limitSlot s a _ _) (only_modAct _ a _)

theorem acts_limitSlot (s : State) (n : Nat) (limited : Bool) (k : Nat) : (s.limitSlot n limited k).sce.acts = s.sce.acts := by
  unfold State.limitSlot
  split <;> rfl

theorem act_movingCommand_same (s : State) (a : Nat) (isense vcoil : Int) : (s.movingCommand a isense vcoil).act a =
    { s.act a with
      command := (s.fed a isense vcoil).1, commands := ((s.fed a isense vcoil).1 :: (s.act a).commands).take 16 } := by
  unfold State.movingCommand State.vcmCommand
  rw [act_modAct_same, act_of_acts (acts_limitSlot ..)]

theorem act_movingCommand_other (s : State) {a b : Nat} (isense vcoil : Int) (hb : b ≠ a) :
    (s.movingCommand a isense vcoil).act b = s.act b := by
  unfold State.movingCommand State.vcmCommand
  rw [act_modAct_other _ _ hb, act_of_acts (acts_limitSlot ..)]

/-- Whether a moving actuator has slowed down to the end of its unload (R240). -/
def State.slowed (s : State) (a : Nat) (isense vcoil : Int) : Bool :=
  decide (((s.act a).state = .unloading ∨ (s.act a).state = .retract) ∧
    100 * (s.backEmf a isense vcoil).natAbs < 5000 * (s.actPers a).unloadV)

theorem currentPeriod_moving {s : State} {a : Nat} {isense vcoil : Int} (hon : (s.act a).stageOn = true)
    (hstate : (s.act a).state = .loading ∨ (s.act a).state = .unloading ∨ (s.act a).state = .retract) (hrun : (s.act a).diffRun < 31) :
    s.currentPeriod a isense vcoil = (s.movingCommand a isense vcoil).modAct a
      (s.periodAct a (s.fed a isense vcoil).1 isense vcoil (s.slowed a isense vcoil) (s.movingCommand a isense vcoil).now) := by
  have hsmall : ¬ 32 ≤ (((s.movingCommand a isense vcoil).modAct a (s.periodAct a (s.fed a isense vcoil).1 isense vcoil
      (s.slowed a isense vcoil) (s.movingCommand a isense vcoil).now)).act a).diffRun := by
    rw [act_modAct_same, act_movingCommand_same]
    unfold State.periodAct
    dsimp only
    split <;> omega
  unfold State.currentPeriod
  rw [if_neg (by simp [hon])]
  dsimp only
  rw [if_pos hstate, if_pos hstate]
  exact if_neg hsmall

/-! ## What a sample does -/

/-- The state in which the fourth valid record in a row of a load has been counted and its set-points taken. -/
def State.loadReady (s : State) (a : Nat) : State :=
  let u := (s.sampleBegun a).banksSwapped a
  (u.loadCounted a (s.sampleRecords a)).loadTargets a (s.sampleRecords a)

theorem only_loadReady (s : State) (a : Nat) : Only [.clock, .tim, .regs, .setupErr, .chn, .sce] s (s.loadReady a) := by
  unfold State.loadReady
  have hswapped : Only [.clock, .tim, .regs, .setupErr, .chn, .sce] s ((s.sampleBegun a).banksSwapped a) :=
    only_step (only_mono (only_sampleBegun s a) (by decide)) (only_banksSwapped _ a)
  exact only_step (only_step hswapped (only_loadCounted _ a _)) (only_loadTargets _ a _)

theorem act_loadReady (s : State) (a b : Nat) :
    (s.loadReady a).act b = if b = a then { s.act a with began := some (s.sampleStart a) } else s.act b := by
  unfold State.loadReady
  rw [act_of_acts (acts_loadTargets ..), act_of_acts (acts_loadCounted ..), act_of_acts (acts_banksSwapped ..), act_sampleBegun]

theorem now_loadReady (s : State) (a : Nat) : (s.loadReady a).now = max s.now (s.sampleStart a + 600) := by
  have htargets : (s.loadReady a).now = _ := only_loadTargets _ a (s.sampleRecords a) .clock (by decide)
  have hcounted : (((s.sampleBegun a).banksSwapped a).loadCounted a (s.sampleRecords a)).now = _ :=
    only_loadCounted _ a (s.sampleRecords a) .clock (by decide)
  have hswapped : ((s.sampleBegun a).banksSwapped a).now = (s.sampleBegun a).now := only_banksSwapped _ a .clock (by decide)
  rw [htargets, hcounted, hswapped, now_sampleBegun]

/-- The sample with the fourth valid record in a row ends the load (R238). -/
theorem servoSample_loaded {s : State} {a st : Nat} {r : ServoRec} (hstate : (s.act a).state = .loading) (hst : st ∈ s.activeStreams a)
    (hmem : (st, r) ∈ s.sampleRecords a) (hvalid : validRec r = true) (hregain : (s.loop st).regain = 3) :
    s.servoSample a false =
      (let u := ((s.loadReady a).measure a (s.sampleRecords a)).1
      ((u.modAct a u.loadedAct).modAct a fun x =>
        { x with handover := (u.modAct a u.loadedAct).vcmError a (s.sampleRecords a) + x.handover }).recomputeDmax) := by
  have hswapped : (((s.sampleBegun a).banksSwapped a).act a).state = .loading := by
    rw [act_of_acts (acts_banksSwapped ..), act_sampleBegun, if_pos rfl]
    exact hstate
  have hactive : ((s.sampleBegun a).banksSwapped a).activeStreams a = s.activeStreams a := activeStreams_sampleBegun s a a
  have hheads : ((s.sampleBegun a).banksSwapped a).sce.heads = s.sce.heads := (heads_banksSwapped _ a).trans (heads_sampleBegun s a)
  have hcount := regain_loadCounted (s := (s.sampleBegun a).banksSwapped a) (a := a) (by rw [hactive]; exact hst) hmem hvalid
    (by rw [loop_of_heads hheads]; exact hregain)
  rw [servoSample_loading (List.ne_nil_of_mem hmem) hswapped]
  refine loadSample_ends (List.any_eq_true.mpr ⟨st, ?_, decide_eq_true hcount⟩)
  rw [activeStreams_congr (only_loadCounted _ a _ .chn (by decide)) (only_loadCounted _ a _ .regs (by decide)), hactive]
  exact hst

/-- What the end of a load leaves. -/
structure LoadEnded (s : State) (a : Nat) (t : State) : Prop where
  state : (t.act a).state = .settling
  since : (t.act a).stateSince = t.now
  goTime : (t.act a).goTime = 0
  headsOn : (t.act a).headsOn = true
  settleRun : (t.act a).settleRun = 0
  now : t.now = max s.now (s.sampleStart a + 600)
  began : (t.act a).began = some (s.sampleStart a)
  others : ∀ b, b ≠ a → t.act b = s.act b
  only : Only [.clock, .tim, .regs, .setupErr, .chn, .sce, .plc, .pwr] s t

theorem act_recomputeDmax (s : State) (b : Nat) : s.recomputeDmax.act b = s.act b := by
  have hsce : s.recomputeDmax.sce = s.sce := only_recomputeDmax s .sce (by decide)
  exact act_of_acts (congrArg Sce.acts hsce) b

theorem loadEnded (s : State) (a : Nat) {f : Act → Act} (hf : ∀ x, (f x).began = x.began) (y : Int) {u v : State}
    (hu : u = (s.loadReady a).modAct a f)
    (hv : v = ((u.modAct a u.loadedAct).modAct a fun x => { x with handover := y + x.handover }).recomputeDmax) :
    LoadEnded s a v := by
  have hnow : u.now = max s.now (s.sampleStart a + 600) := by
    rw [hu]
    exact now_loadReady s a
  have hbegan : (u.act a).began = some (s.sampleStart a) := by
    rw [hu, act_modAct_same, hf, act_loadReady, if_pos rfl]
  have hact : v.act a = { u.loadedAct (u.act a) with handover := y + (u.loadedAct (u.act a)).handover } := by
    rw [hv, act_recomputeDmax, act_modAct_same, act_modAct_same]
  have hclock : v.now = u.now := by
    rw [hv]
    exact only_recomputeDmax _ .clock (by decide)
  refine ⟨?_, ?_, ?_, ?_, ?_, hclock.trans hnow, ?_, fun b hb => ?_, ?_⟩
  · rw [hact]; rfl
  · rw [hact, hclock]; rfl
  · rw [hact]; rfl
  · rw [hact]; rfl
  · rw [hact]; rfl
  · rw [hact]; exact hbegan
  · rw [hv, act_recomputeDmax, act_modAct_other _ _ hb, act_modAct_other _ _ hb, hu, act_modAct_other _ _ hb, act_loadReady, if_neg hb]
  · rw [hv, hu]
    have hmeasured : Only [.clock, .tim, .regs, .setupErr, .chn, .sce, .plc, .pwr] s ((s.loadReady a).modAct a f) :=
      only_step (only_mono (only_loadReady s a) (by decide)) (only_modAct _ a f)
    exact only_step (only_step (only_step hmeasured (only_modAct _ a _)) (only_modAct _ a _)) (only_recomputeDmax _)

/-- What an overrun leaves (R247). -/
theorem overrun_fields (s : State) (a : Nat) :
    ((s.overrun a).act a).lastFault = 6 ∧ ((s.overrun a).act a).command = (s.act a).command ∧
      (s.overrun a).flt.inbox = joinReports s.now { source := 32 + a, kind := 6, addr := 0, severity := 0 } s.flt.inbox := by
  unfold State.overrun State.servoReport
  rw [act_modAct_same]
  exact ⟨rfl, rfl, rfl⟩

theorem only_overrun (s : State) (a : Nat) : Only [.flt, .sce] s (s.overrun a) := by
  unfold State.overrun State.servoReport
  exact only_step (only_mono (only_report s _ _ _ _) (by decide)) (only_modAct _ a _)

/-- Settles O24: an overrun reports and keeps the command, the fourth record in a row ends a load, and a period of the current loop
changes the actuator alone. -/
theorem servoSamples : Obligations.ServoSamples := by
  unfold Obligations.ServoSamples
  refine ⟨?late, ?empty, ?loaded, ?following, ?moving⟩
  case late =>
    intro s a hready hsome
    refine gives_only (exec_servoSample a true s) hready fun t ht => ?_
    rw [servoSample_late hsome] at ht
    obtain ⟨hfault, hcommand, hinbox⟩ := overrun_fields (s.sampleBegun a) a
    have hsce : t.sce = ((s.sampleBegun a).overrun a).sce := ht .sce (by decide)
    have hflt : t.flt = ((s.sampleBegun a).overrun a).flt := ht .flt (by decide)
    have hchn : t.chn = (s.recordsTaken (streamsOf a)).chn :=
      (ht .chn (by decide)).trans ((only_overrun _ a .chn (by decide)).trans (chn_sampleBegun s a))
    have hact (b : Nat) : t.act b = ((s.sampleBegun a).overrun a).act b := act_of_acts (congrArg Sce.acts hsce) b
    have hnow : t.now = (s.sampleBegun a).now := (ht .clock (by decide)).trans (only_overrun _ a .clock (by decide))
    have hbefore : (s.sampleBegun a).flt = s.flt := only_sampleBegun s a .flt (by decide)
    refine ⟨by rw [hact, hfault], ?_, hnow.trans (now_sampleBegun s a), ?_, fun st hst => ?_, ?_⟩
    · rw [hact, hcommand, act_sampleBegun, if_pos rfl]
    · rw [hflt, hinbox, hnow, hbefore]
    · rw [stream_of_chn hchn, stream_recordsTaken, if_pos hst]
    · exact only_step (only_step (only_mono (only_sampleBegun s a) (by decide)) (only_overrun _ a)) ht
  case empty =>
    intro s a late hready hnone
    refine gives_only (exec_servoSample a late s) hready fun t ht => ?_
    rw [servoSample_none late hnone] at ht
    have hchn : t.chn = (s.recordsTaken (streamsOf a)).chn := ht .chn (by decide)
    refine ⟨fun st hst => ?_, fun st hst => ?_, only_step (only_recordsTaken s _) ht⟩
    · rw [stream_of_chn hchn, stream_recordsTaken, if_pos hst]
    · rw [stream_of_chn hchn, stream_recordsTaken, if_neg hst]
  case loaded =>
    intro s a st r hready hstate hst hmem hvalid hregain
    refine gives_only (exec_servoSample a false s) hready fun t ht => ?_
    obtain ⟨f, hmeasure, hbegan⟩ := measure_shape (s.loadReady a) a (s.sampleRecords a)
    obtain ⟨h1, h2, h3, h4, h5, h6, h7, h8, h9⟩ :=
      loadEnded s a hbegan _ hmeasure (servoSample_loaded hstate hst hmem hvalid hregain)
    have hsce : t.sce = (s.servoSample a false).sce := ht .sce (by decide)
    have hact (b : Nat) : t.act b = (s.servoSample a false).act b := act_of_acts (congrArg Sce.acts hsce) b
    have hnow : t.now = (s.servoSample a false).now := ht .clock (by decide)
    rw [hact, hnow]
    exact ⟨h1, h2, h3, h4, h5, h6, h7, fun b hb => (hact b).trans (h8 b hb), only_step h9 ht⟩
  case following =>
    intro s a isense vcoil hready hon hstate hnear
    refine gives_still (exec_currentLoopPeriod a isense vcoil s) hready rfl ?_
    rw [currentPeriod_following hon hstate hnear]
    refine still_of_eq (modAct_congr s a ?_)
    have hzero : (if decide (32767 < 10 * ((s.act a).command - isense).natAbs) = true then (s.act a).diffRun + 1 else 0) = 0 :=
      if_neg (by simpa using hnear)
    unfold State.periodAct
    rw [hzero]
    rfl
  case moving =>
    intro s a isense vcoil hready hon hstate hrun
    refine gives_only (exec_currentLoopPeriod a isense vcoil s) hready fun t ht => ?_
    rw [currentPeriod_moving hon hstate hrun] at ht
    have hnow : (s.movingCommand a isense vcoil).now = s.now := only_movingCommand s a isense vcoil .clock (by decide)
    have hslow : s.slowed a isense vcoil = decide ((s.act a).state ≠ .loading ∧
        100 * (s.backEmf a isense vcoil).natAbs < 5000 * (s.actPers a).unloadV) := by
      unfold State.slowed
      rcases hstate with h | h | h <;> simp [h]
    have hsce : t.sce = ((s.movingCommand a isense vcoil).modAct a (s.periodAct a (s.fed a isense vcoil).1 isense vcoil
      (s.slowed a isense vcoil) (s.movingCommand a isense vcoil).now)).sce := ht .sce (by decide)
    have hact (b : Nat) : t.act b = _ := act_of_acts (congrArg Sce.acts hsce) b
    refine ⟨?_, fun b hb => ?_, ?_⟩
    · rw [hact, act_modAct_same, act_movingCommand_same, hnow, hslow]
      unfold State.periodAct State.fed
      simp only [decide_eq_true_eq]
    · rw [hact, act_modAct_other _ _ hb, act_movingCommand_other s isense vcoil hb]
    · exact only_step (only_step (only_movingCommand s a isense vcoil) (only_modAct _ a _)) ht

end Sys2Proof.Machine
end

section
/-! SUPPORT. Head switches, front ends and servo wedges: what an inhibit, a link frame and a head switch leave (R80, R82, R107, R134, R139). -/

namespace Sys2Proof.Machine

open Sys2Proof

-- One declaration at a time: proofs elaborated side by side hold a stack each, and the check bounds their sum.
set_option Elab.async false

/-! ## Link frames -/

theorem linkPumpN_keeps (s : State) (a n : Nat) : (s.linkPumpN a n).wrp.heads = s.wrp.heads ∧ (s.linkPumpN a n).evc = s.evc := by
  induction n generalizing s with
  | zero => exact ⟨rfl, rfl⟩
  | succ n ih =>
    unfold State.linkPumpN
    dsimp only
    split
    · exact ⟨rfl, rfl⟩
    · split
      · exact ⟨rfl, rfl⟩
      · exact ih _

theorem heads_linkSend (s : State) (a cmd head data : Nat) : (s.linkSend a cmd head data).wrp.heads = s.wrp.heads :=
  (linkPumpN_keeps _ a 8).1

theorem evc_linkSend (s : State) (a cmd head data : Nat) : (s.linkSend a cmd head data).evc = s.evc := (linkPumpN_keeps _ a 8).2

theorem lhead_of_heads {s t : State} (h : t.wrp.heads = s.wrp.heads) (k : Nat) : t.lhead k = s.lhead k := by simp only [State.lhead, h]

theorem lhead_modHead (s : State) (h k : Nat) (f : LinkHead → LinkHead) :
    (s.modHead h f).lhead k = if k = h then f (s.lhead k) else s.lhead k := by
  split
  · rename_i heq
    subst heq
    exact agetD_acanon_same ..
  · rename_i heq
    exact agetD_acanon_other _ _ _ _ heq

/-- A head changed in its heater and arming alone is as much out of use as before. -/
theorem out_modHead (s : State) (h k : Nat) {f : LinkHead → LinkHead} (hf : ∀ x, (f x).out = x.out) :
    ((s.modHead h f).lhead k).out = (s.lhead k).out := by
  rw [lhead_modHead]
  split
  · exact hf _
  · rfl

theorem out_sweepAbort (s : State) (h k : Nat) : ((s.sweepAbort h).lhead k).out = (s.lhead k).out := by
  unfold State.sweepAbort
  split
  · unfold State.sweepEnd
    rw [lhead_of_heads (heads_linkSend ..)]
    exact out_modHead _ _ k fun _ => rfl
  · rfl

/-! ## Inhibits -/

/-- A stream besides its gate and the sectors of R140. -/
def calmStream (x : Stream) : Stream := { x with
  writeGate := false, gateSyms := [], sticky := 0, failedSectors := [], sinceGood := [], cur := none, inSector := false, inFragment := false }

/-- A sequencer besides the causes that wait. -/
def calmSeq (x : Seq) : Seq := { x with pendingCause := 0 }

/-- What an inhibit of a stream leaves alone: the other streams, the counters, what the stream has of its head and its records, all of the
sequencers but the causes that wait, and which heads are out of use. -/
structure InhibitKept (st : Nat) (s t : State) : Prop where
  others : ∀ k, k ≠ st → t.stream k = s.stream k
  counters : t.chn.counters = s.chn.counters
  failed : t.chn.afFailed = s.chn.afFailed
  own : calmStream (t.stream st) = calmStream (s.stream st)
  seqs : ∀ q, calmSeq (t.seqr q) = calmSeq (s.seqr q)
  out : ∀ k, (t.lhead k).out = (s.lhead k).out

theorem inhibitKept_ite {st : Nat} {p : Prop} [Decidable p] {s t u : State} (h : p → InhibitKept st s t) (k : ¬p → InhibitKept st s u) :
    InhibitKept st s (if p then t else u) := by
  split
  · exact h ‹_›
  · exact k ‹_›

theorem inhibitKept_trans {st : Nat} {s t u : State} (h : InhibitKept st s t) (k : InhibitKept st t u) : InhibitKept st s u where
  others n hn := (k.others n hn).trans (h.others n hn)
  counters := k.counters.trans h.counters
  failed := k.failed.trans h.failed
  own := k.own.trans h.own
  seqs q := (k.seqs q).trans (h.seqs q)
  out n := (k.out n).trans (h.out n)

theorem seqr_of_seq {s t : State} (h : t.seq = s.seq) (q : Nat) : t.seqr q = s.seqr q := by simp only [State.seqr, h]

theorem inhibitKept_of_eq {st : Nat} {s t : State} (hchn : t.chn = s.chn) (hseq : t.seq = s.seq)
    (hout : ∀ k, (t.lhead k).out = (s.lhead k).out) : InhibitKept st s t where
  others k _ := stream_of_chn hchn k
  counters := by rw [hchn]
  failed := by rw [hchn]
  own := by rw [stream_of_chn hchn]
  seqs q := by rw [seqr_of_seq hseq]
  out := hout

theorem inhibitKept_modStream (s : State) (st : Nat) {f : Stream → Stream} (hf : ∀ x, calmStream (f x) = calmStream x) :
    InhibitKept st s (s.modStream st f) where
  others k hk := by rw [stream_modStream, if_neg hk]
  counters := rfl
  failed := rfl
  own := by rw [stream_modStream, if_pos rfl, hf]
  seqs _ := rfl
  out _ := rfl

theorem seqr_cause (s : State) (q c k : Nat) : calmSeq ((s.cause q c).seqr k) = calmSeq (s.seqr k) := by
  unfold State.cause
  split
  · rfl
  · rw [seqr_modSeq]
    split
    · rfl
    · rfl

theorem seqr_causeStream (s : State) (st c k : Nat) : calmSeq ((s.causeStream st c).seqr k) = calmSeq (s.seqr k) := by
  unfold State.causeStream
  split
  · rfl
  · exact seqr_cause ..

theorem inhibitKept_causeStream (s : State) (st i c : Nat) : InhibitKept st s (s.causeStream i c) where
  others k _ := stream_of_chn (only_causeStream s i c .chn (by decide)) k
  counters := congrArg Chn.counters (only_causeStream s i c .chn (by decide))
  failed := congrArg Chn.afFailed (only_causeStream s i c .chn (by decide))
  own := by rw [stream_of_chn (only_causeStream s i c .chn (by decide))]
  seqs q := seqr_causeStream s i c q
  out k := by rw [lhead_of_heads (congrArg Wrp.heads (only_causeStream s i c .wrp (by decide)))]

theorem inhibitKept_writerIdle (s : State) (st : Nat) : InhibitKept st s (s.writerIdle st) := by
  unfold State.writerIdle
  refine inhibitKept_ite (fun _ => ?_) fun _ => inhibitKept_of_eq rfl rfl fun _ => rfl
  refine inhibitKept_trans (t := (s.emit _).emit _) ?_ (inhibitKept_modStream _ st fun _ => rfl)
  exact inhibitKept_of_eq rfl rfl fun _ => rfl

theorem inhibitKept_sweepAbort (s : State) (st h : Nat) : InhibitKept st s (s.sweepAbort h) :=
  inhibitKept_of_eq (only_sweepAbort s h .chn (by decide)) (only_sweepAbort s h .seq (by decide)) (out_sweepAbort s h)

theorem inhibitKept_inhibit (s : State) (st b : Nat) : InhibitKept st s (s.inhibit st b) := by
  have honly : InhibitKept st s (s.inhibitOnly st b) := inhibitKept_trans
    (inhibitKept_trans (inhibitKept_writerIdle s st) (inhibitKept_modStream _ st (by exact fun _ => rfl))) (inhibitKept_causeStream _ st st 0)
  unfold State.inhibit
  split
  · exact honly
  · exact inhibitKept_trans honly (inhibitKept_sweepAbort _ st _)

theorem inhibitKept_setOnTrack (s : State) (st : Nat) (v : Bool) : InhibitKept st s (s.setOnTrack st v) := by
  have hloop : InhibitKept st s (s.modLoop st fun l => { l with onTrack := v, regain := 0 }) := inhibitKept_of_eq rfl rfl fun _ => rfl
  unfold State.setOnTrack
  dsimp only
  split
  · exact inhibitKept_trans hloop (inhibitKept_inhibit _ st 0)
  · exact hloop

theorem onTrack_setOnTrack (s : State) (st : Nat) (v : Bool) : ((s.setOnTrack st v).loop st).onTrack = v := by
  have hloop : ((s.modLoop st fun l => { l with onTrack := v, regain := 0 }).loop st).onTrack = v := by rw [loop_modLoop, if_pos rfl]
  unfold State.setOnTrack
  dsimp only
  split
  · rw [loop_of_heads (congrArg Sce.heads (only_inhibit _ st 0 .sce (by decide)))]
    exact hloop
  · exact hloop

/-! ## A head switch -/

/-- The head that a stream leaves at a switch: its sweep aborted, deselected, off-track (R80, R151, R154). -/
def State.headLeft (s : State) (st : Nat) (w : Word) : State :=
  let x := s.stream st
  let old := headOf st x
  let s := if x.readers ≠ 0 then s.sweepAbort old else s
  let s := if x.readers ≠ 0 && (x.head != fld w 4 0 || fld w 9 8 == 0) then (s.sendDeselect st x.head).modHead old restHead else s
  s.setOnTrack st false

/-- A stream that takes a head at a moment, before it has a profile (R80). -/
def namedStream (y : Stream) (now : Nat) (w : Word) (readers : Nat) : Stream :=
  { y with head := fld w 4 0, readers := readers, pendingHead := none, headReady := now + 150, record := none,
           fresh := none, sync := .none, resync := .none, sectorDone := false, noMark := 0, lastMark := none,
           locked := false, sinceGood := [] }

/-- The stream takes its new head. -/
def State.headNamed (s : State) (st : Nat) (w : Word) (readers : Nat) : State := s.modStream st fun y => namedStream y s.now w readers

/-- The slot and the loop of a stream start afresh (R220). -/
def State.loopRestarted (s : State) (st : Nat) : State :=
  (s.modSlot (4 + st) fun y => { y with states := List.replicate 12 (0, 0) }).modLoop st fun l =>
    { l with command := 0, seen := false, regain := 0 }

/-- The stream with its new head and profile (R80, R86, R220). -/
def State.headEntered (s : State) (st : Nat) (w : Word) (readers : Nat) : State :=
  ((s.headNamed st w readers).loadProfile st ((s.headNamed st w readers).itemZone st (fld w 4 0))).loopRestarted st

theorem headSwitch_eq (s : State) (st : Nat) (w : Word) : s.headSwitch st w =
    (let u := s.headLeft st w
    let readers := if (u.lhead (18 * actOf st + fld w 4 0)).out then 0 else u.usableReaders st (fld w 9 8)
    let v := u.headEntered st w readers
    if readers ≠ 0 then v.sendHeater st 2 else if fld w 9 8 ≠ 0 then v.causeStream st 3 else v) := rfl

theorem only_headLeft (s : State) (st : Nat) (w : Word) : Only [.chn, .seq, .wrp, .sce] s (s.headLeft st w) := by
  unfold State.headLeft
  refine only_step (?_ : Only [.chn, .seq, .wrp, .sce] s _) (only_setOnTrack _ st false)
  refine only_trans (b := if (s.stream st).readers ≠ 0 then s.sweepAbort (headOf st (s.stream st)) else s) ?_ ?_
  · exact only_ite (fun _ => only_mono (only_sweepAbort s _) (by decide)) fun _ => only_refl _ s
  · refine only_ite (fun _ => ?_) fun _ => only_refl _ _
    exact only_mono (only_trans (only_sendDeselect _ _ _) (only_modHead _ _ _)) (by decide)

theorem inhibitKept_refl (st : Nat) (s : State) : InhibitKept st s s := inhibitKept_of_eq rfl rfl fun _ => rfl

theorem inhibitKept_deselect (s : State) (st head old : Nat) : InhibitKept st s ((s.sendDeselect st head).modHead old restHead) := by
  refine inhibitKept_of_eq (only_sendDeselect s st head .chn (by decide)) (only_sendDeselect s st head .seq (by decide)) fun k => ?_
  exact (out_modHead _ old k (f := restHead) fun _ => rfl).trans (congrArg LinkHead.out (lhead_of_heads (heads_linkSend ..) k))

theorem inhibitKept_headLeft (s : State) (st : Nat) (w : Word) : InhibitKept st s (s.headLeft st w) := by
  have hsweep : InhibitKept st s (if (s.stream st).readers ≠ 0 then s.sweepAbort (headOf st (s.stream st)) else s) :=
    inhibitKept_ite (fun _ => inhibitKept_sweepAbort s st _) fun _ => inhibitKept_refl st s
  unfold State.headLeft
  refine inhibitKept_trans (inhibitKept_trans hsweep ?_) (inhibitKept_setOnTrack _ st false)
  exact inhibitKept_ite (fun _ => inhibitKept_deselect _ st _ _) fun _ => inhibitKept_refl st _

theorem only_healProfile (s : State) (k : Nat) : Only [.srm] s (s.healProfile k) := by
  unfold State.healProfile
  exact only_ite (fun _ => only_setSrm s _) fun _ => only_refl _ s

/-- A stream that has loaded the profiles of its head in a zone (R85, R86, R99). -/
def profiledStream (srm : Srm) (st zone : Nat) (x : Stream) : Stream :=
  { x with
    zone := zone, profile := agetD srm.profiles (headOf st x * 64 + zone) 0, wprofile := agetD srm.wprofiles (headOf st x * 64 + zone) 0,
    adapt := startAdapt (agetD srm.profiles (headOf st x * 64 + zone) 0) x.readers, nbrs := [] }

theorem stream_loadProfile (s : State) (st zone k : Nat) : (s.loadProfile st zone).stream k =
    if k = st then profiledStream (s.loadProfile st zone).srm st zone (s.stream st) else s.stream k := by
  have hheal (i : Nat) : (s.healProfile (headOf st (s.stream st) * 64 + zone)).stream i = s.stream i :=
    stream_of_chn (only_healProfile s _ .chn (by decide)) i
  have hsrm : (s.loadProfile st zone).srm = (s.healProfile (headOf st (s.stream st) * 64 + zone)).srm := rfl
  rw [hsrm]
  unfold State.loadProfile
  rw [stream_modStream]
  by_cases hk : k = st
  · rw [if_pos hk, if_pos hk, hk, hheal]
    rfl
  · rw [if_neg hk, if_neg hk, hheal]

theorem only_loadProfile (s : State) (st zone : Nat) : Only [.chn, .srm] s (s.loadProfile st zone) := by
  unfold State.loadProfile
  exact only_step (only_mono (only_healProfile s _) (by decide)) (only_modStream _ _ _)

/-- What a stream has with its new head (R80, R85, R86, R99). -/
structure HeadEntered (s : State) (st : Nat) (w : Word) (readers : Nat) (t : State) : Prop where
  head : (t.stream st).head = fld w 4 0
  pending : (t.stream st).pendingHead = none
  ready : (t.stream st).headReady = s.now + 150
  readers : (t.stream st).readers = readers
  profile : (t.stream st).profile = agetD t.srm.profiles ((18 * actOf st + fld w 4 0) * 64 + (t.stream st).zone) 0
  nbrs : (t.stream st).nbrs = []
  wprofile : (t.stream st).wprofile = agetD t.srm.wprofiles ((18 * actOf st + fld w 4 0) * 64 + (t.stream st).zone) 0
  adapt : (t.stream st).adapt = startAdapt (t.stream st).profile (t.stream st).readers
  record : (t.stream st).record = none
  locked : (t.stream st).locked = false
  onTrack : (t.loop st).onTrack = (s.loop st).onTrack
  states : (t.slot (4 + st)).states = List.replicate 12 (0, 0)
  others : ∀ k, k ≠ st → t.stream k = s.stream k
  only : Only [.sce, .chn, .srm] s t

theorem headEntered (s : State) (st : Nat) (w : Word) (readers : Nat) : HeadEntered s st w readers (s.headEntered st w readers) := by
  have hnamed (k : Nat) : (s.headNamed st w readers).stream k = if k = st then namedStream (s.stream k) s.now w readers else s.stream k := by
    unfold State.headNamed
    rw [stream_modStream]
  have honly : Only [.sce, .chn, .srm] s (s.headNamed st w readers) := only_mono (only_modStream s st _) (by decide)
  have hsame : (s.headNamed st w readers).sce = s.sce := rfl
  unfold State.headEntered
  generalize s.headNamed st w readers = a at hnamed honly hsame ⊢
  have hstream := stream_loadProfile a st (a.itemZone st (fld w 4 0))
  have hload := only_loadProfile a st (a.itemZone st (fld w 4 0))
  generalize a.loadProfile st (a.itemZone st (fld w 4 0)) = b at hstream hload ⊢
  generalize a.itemZone st (fld w 4 0) = z at hstream
  have hb (k : Nat) : (b.loopRestarted st).stream k = _ := hstream k
  have hsrm : (b.loopRestarted st).srm = b.srm := rfl
  have hloop : ((b.loopRestarted st).loop st).onTrack = (b.loop st).onTrack := by
    unfold State.loopRestarted
    rw [loop_modLoop, if_pos rfl]
    rfl
  have hbefore : b.sce = s.sce := (hload .sce (by decide)).trans hsame
  rw [hnamed st, if_pos rfl] at hb
  have hst := hb st
  rw [if_pos rfl] at hst
  have hhead : headOf st (namedStream (s.stream st) s.now w readers) = 18 * actOf st + fld w 4 0 := rfl
  constructor
  case head => rw [hst]; rfl
  case pending => rw [hst]; rfl
  case ready => rw [hst]; rfl
  case readers => rw [hst]; rfl
  case profile => rw [hst, hsrm]; exact congrArg (fun n => agetD b.srm.profiles (n * 64 + z) 0) hhead
  case nbrs => rw [hst]; rfl
  case wprofile => rw [hst, hsrm]; exact congrArg (fun n => agetD b.srm.wprofiles (n * 64 + z) 0) hhead
  case adapt => rw [hst]; rfl
  case record => rw [hst]; rfl
  case locked => rw [hst]; rfl
  case onTrack => rw [hloop, loop_of_heads (congrArg Sce.heads hbefore)]
  case states =>
    have hslot : (b.loopRestarted st).slot (4 + st) =
      (b.modSlot (4 + st) fun y => { y with states := List.replicate 12 (0, 0) }).slot (4 + st) := rfl
    rw [hslot, slot_modSlot_same]
  case others =>
    intro k hk
    rw [hb, if_neg hk, hnamed, if_neg hk]
  case only =>
    exact only_step (only_step (only_step honly hload) (only_modSlot b (4 + st) _)) (only_modLoop _ st _)

theorem only_sendHeater (s : State) (st kind : Nat) : Only [.wrp] s (s.sendHeater st kind) := by
  unfold State.sendHeater
  exact only_trans (only_modHead s _ _) (only_linkSend _ _ _ _ _)

theorem lhead_sendHeater (s : State) (st : Nat) : ((s.sendHeater st 2).lhead (headOf st (s.stream st))).heaterKind = 2 ∧
    ((s.sendHeater st 2).lhead (headOf st (s.stream st))).heater = wprofByte (s.stream st).wprofile 21 := by
  unfold State.sendHeater
  rw [lhead_of_heads (heads_linkSend ..), lhead_modHead, if_pos rfl]
  exact ⟨rfl, rfl⟩

/-- What follows the switch to a head: its idle heater, or the cause of a head that cannot serve (R80, R154). -/
def State.headHeated (v : State) (st readers : Nat) (asked : Bool) : State :=
  if readers ≠ 0 then v.sendHeater st 2 else if asked then v.causeStream st 3 else v

theorem only_headHeated (v : State) (st readers : Nat) (asked : Bool) : Only [.wrp, .seq] v (v.headHeated st readers asked) :=
  only_ite (fun _ => only_mono (only_sendHeater v st 2) (by decide)) fun _ =>
    only_ite (fun _ => only_mono (only_causeStream v st 3) (by decide)) fun _ => only_refl _ v

/-- HEAD_SWITCH: the head left, the head entered, and its heater. -/
theorem headSwitch_shape {s : State} (st : Nat) (w : Word) : ∃ asked, s.headSwitch st w =
    ((s.headLeft st w).headEntered st w (if (s.lhead (18 * actOf st + fld w 4 0)).out then 0 else s.usableReaders st (fld w 9 8))).headHeated
      st (if (s.lhead (18 * actOf st + fld w 4 0)).out then 0 else s.usableReaders st (fld w 9 8)) asked := by
  have hleft := inhibitKept_headLeft s st w
  have hreaders : (s.headLeft st w).usableReaders st (fld w 9 8) = s.usableReaders st (fld w 9 8) := by
    simp only [State.usableReaders, hleft.failed]
  refine ⟨decide (fld w 9 8 ≠ 0), ?_⟩
  rw [headSwitch_eq]
  dsimp only
  rw [hleft.out, hreaders]
  unfold State.headHeated
  simp only [decide_eq_true_eq]

/-- A further front end is out of use (R82, R83). -/
def State.frontEndLost (s : State) (n : Nat) : State :=
  let s := { s with chn := { s.chn with afFailed := n :: s.chn.afFailed } }
  s.report (160 + n) 1 0 2

theorem wakeEvent_seven (s : State) : ∃ (a : Option Activation) (p : Pwr),
    s.wakeEvent 7 = { s with eqt := { s.eqt with activation := a }, pwr := p } := by
  rw [State.wakeEvent, if_pos rfl]
  have hcut : ∃ a, s.cutActivation = { s with eqt := { s.eqt with activation := a }, pwr := s.pwr } := ⟨_, rfl⟩
  obtain ⟨a, hcut⟩ := hcut
  rw [hcut]
  refine ⟨a, ?_⟩
  dsimp only
  split
  · split
    · exact ⟨_, rfl⟩
    · exact ⟨_, rfl⟩
  · exact ⟨_, rfl⟩
  · split
    · exact ⟨_, rfl⟩
    · exact ⟨_, rfl⟩

theorem only_wakeEvent_seven (s : State) : Only [.eqt, .pwr] s (s.wakeEvent 7) := by
  obtain ⟨a, p, h⟩ := wakeEvent_seven s
  rw [h]
  simp [only_iff, State.sess]

theorem evc_setReaders (s : State) (st r : Nat) : (s.setReaders st r).evc = s.evc := by
  have hidle : (s.writerIdle st).evc = s.evc := by
    unfold State.writerIdle
    dsimp only
    split <;> rfl
  have hleft : (((s.writerIdle st).sendDeselect st (s.stream st).head).modHead (headOf st (s.stream st)) restHead).evc = s.evc :=
    (evc_linkSend ..).trans hidle
  have hfinal (u : State) (f : Stream → Stream) : (u.modStream st f).evc = u.evc := rfl
  unfold State.setReaders
  refine (hfinal _ _).trans ?_
  split
  · exact hleft
  · rfl

/-- The state in which a failed front end has been reported and its event raised. -/
def State.frontEndTold (s : State) (n : Nat) : State := ((s.frontEndLost n).evcEdge 8 (BitVec.ofNat 32 n)).wakeEvent 7

theorem only_frontEndTold (s : State) (n : Nat) : Only [.flt, .chn, .pwr, .eqt] s (s.frontEndTold n) := by
  have hlost : Only [.flt, .chn, .pwr, .eqt] s (s.frontEndLost n) := by
    unfold State.frontEndLost
    exact only_step (only_mono (only_setChn s _) (by decide)) (only_report _ _ _ _ _)
  exact only_step (only_step hlost (only_evcEdge _ _ _)) (only_wakeEvent_seven _)

theorem frontEndTold_fields (s : State) (n : Nat) :
    (s.frontEndTold n).chn = { s.chn with afFailed := n :: s.chn.afFailed } ∧
    ((s.frontEndTold n).src 8).value = BitVec.ofNat 32 n ∧
    (s.frontEndTold n).flt.inbox = joinReports s.now { source := 160 + n, kind := 1, addr := 0, severity := 2 } s.flt.inbox := by
  have hedge := only_evcEdge (s.frontEndLost n) 8 (BitVec.ofNat 32 n)
  have hsrc := (src_evcEdge (s.frontEndLost n) 8 (BitVec.ofNat 32 n)).1
  have hchn : ((s.frontEndLost n).evcEdge 8 (BitVec.ofNat 32 n)).chn = { s.chn with afFailed := n :: s.chn.afFailed } :=
    hedge .chn (by decide)
  have hflt : ((s.frontEndLost n).evcEdge 8 (BitVec.ofNat 32 n)).flt = (s.frontEndLost n).flt := hedge .flt (by decide)
  unfold State.frontEndTold
  generalize (s.frontEndLost n).evcEdge 8 (BitVec.ofNat 32 n) = u at hsrc hchn hflt ⊢
  obtain ⟨a, p, h⟩ := wakeEvent_seven u
  rw [h]
  exact ⟨hchn, hsrc, congrArg Flt.inbox hflt⟩

theorem frontEndOut_eq {s : State} {n : Nat} (h : s.chn.afFailed.contains n = false) : s.frontEndOut n =
    if ((s.frontEndTold n).stream (n / 2)).readers ≠ 0 then
      (s.frontEndTold n).setReaders (n / 2) ((s.frontEndTold n).usableReaders (n / 2) ((s.frontEndTold n).stream (n / 2)).readers)
    else s.frontEndTold n := by
  unfold State.frontEndOut State.frontEndTold State.frontEndLost
  rw [h]
  rfl

/-- Readers of a stream after a change without a head switch (R82, R83). -/
structure ReadersSet (s : State) (st readers : Nat) (t : State) : Prop where
  readers : (t.stream st).readers = readers
  head : (t.stream st).head = (s.stream st).head
  others : ∀ k, k ≠ st → t.stream k = s.stream k
  failed : t.chn.afFailed = s.chn.afFailed

theorem readersSet (s : State) (st readers : Nat) : ReadersSet s st readers (s.setReaders st readers) := by
  have hbefore : InhibitKept st s (if (s.stream st).readers ≠ 0 ∧ readers = 0 then
      ((s.writerIdle st).sendDeselect st (s.stream st).head).modHead (headOf st (s.stream st)) restHead else s) :=
    inhibitKept_ite (fun _ => inhibitKept_trans (inhibitKept_writerIdle s st) (inhibitKept_deselect _ st _ _)) fun _ => inhibitKept_refl st s
  unfold State.setReaders
  dsimp only
  generalize (if (s.stream st).readers ≠ 0 ∧ readers = 0 then _ else s) = u at hbefore ⊢
  refine ⟨?_, ?_, fun k hk => ?_, hbefore.failed⟩
  · rw [stream_modStream, if_pos rfl]
  · rw [stream_modStream, if_pos rfl]
    exact (congrArg Stream.head hbefore.own :)
  · rw [stream_modStream, if_neg hk]
    exact hbefore.others k hk

/-- Settles O33: a selection waits for the sector boundary, the switch restarts the stream (`headEntered`), and a front end that fails
leaves its stream the other reader (`readersSet`). -/
theorem headsAndFrontEnds : Obligations.HeadsAndFrontEnds := by
  unfold Obligations.HeadsAndFrontEnds
  refine ⟨?select, ?taken, ?switch, ?waits, ?override, ?refused, ?fails, ?failed⟩
  case select =>
    intro s ag st v hready haccepts
    exact gives_wrote (exec_chnStHeadWrite ag st v s) hready haccepts rfl (still_of_eq rfl)
  case taken =>
    intro s ag st v hready hon hword hasked htaken
    obtain ⟨-, hst⟩ := Bool.and_eq_true_iff.mp hready.1
    refine gives_still (exec_chnStHeadWrite ag st v s) hready (turnedAway_pending ..) (still_of_eq ?_)
    refine setupWrite_of_stateRefused (regAt_regAddr hst) hon rfl hword ?_
    simp [State.stateRefused, hasked, htaken]
  case switch =>
    intro s st w hready hpending hread hwrite hsector hload
    refine gives_only (exec_headSwitch st s) hready fun t ht => ?_
    obtain ⟨asked, hswitch⟩ := headSwitch_shape (s := s) st w
    have hrow : s.headSwitchRow st = s.headSwitch st w := by
      have hlt : st < 16 := of_decide_eq_true hready.1
      simp [State.headSwitchRow, hpending, hread, hwrite, hsector, hlt]
    have hleft := inhibitKept_headLeft s st w
    have hleftOnly := only_headLeft s st w
    have htrack : (((s.headLeft st w).loop st).onTrack) = false := onTrack_setOnTrack _ st false
    have hnow : (s.headLeft st w).now = s.now := hleftOnly .clock (by decide)
    rw [hrow, hswitch] at ht
    generalize hreaders : (if (s.lhead (18 * actOf st + fld w 4 0)).out = true then 0 else s.usableReaders st (fld w 9 8)) = readers at ht
    generalize s.headLeft st w = u at ht hleft hleftOnly htrack hnow
    obtain ⟨h1, h2, h3, h4, h5, h6, h7, h8, h9, h10, h11, h12, h13, h14⟩ := headEntered u st w readers
    generalize u.headEntered st w readers = v at ht h1 h2 h3 h4 h5 h6 h7 h8 h9 h10 h11 h12 h13 h14
    have hheated := only_headHeated v st readers asked
    have hheat : readers ≠ 0 → ((v.headHeated st readers asked).lhead (headOf st (v.stream st))).heaterKind = 2 ∧
        ((v.headHeated st readers asked).lhead (headOf st (v.stream st))).heater = wprofByte (v.stream st).wprofile 21 := by
      intro hne
      rw [State.headHeated, if_pos hne]
      exact lhead_sendHeater v st
    generalize v.headHeated st readers asked = x at ht hheated hheat
    have hquiet : x.pwr.toLoad = [] := by
      have hall : Only [.sce, .chn, .wrp, .seq, .srm] s x :=
        only_step (only_step (only_mono hleftOnly (by decide)) h14) hheated
      rw [pwr_of_only (fun p => p.toLoad) hall (by decide)]
      exact hload
    rw [loadDue_none hquiet] at ht
    have hchn : t.chn = v.chn := (ht .chn (by decide)).trans (hheated .chn (by decide))
    have hsrm : t.srm = v.srm := (ht .srm (by decide)).trans (hheated .srm (by decide))
    have hsce : t.sce = v.sce := (ht .sce (by decide)).trans (hheated .sce (by decide))
    have hwrp : t.wrp = x.wrp := ht .wrp (by decide)
    have hstream (k : Nat) : t.stream k = v.stream k := stream_of_chn hchn k
    rw [hstream, hsrm, loop_of_heads (congrArg Sce.heads hsce), slot_of_sce hsce]
    refine ⟨h1, h2, by rw [h3, hnow], h4, h5, h6, h7, h8, h9, h10, h11.trans htrack, h12, fun hne => ?_, fun k hk => ?_, ?_⟩
    · have hhead : headOf st (v.stream st) = 18 * actOf st + fld w 4 0 := by rw [headOf, h1]
      rw [lhead_of_heads (congrArg Wrp.heads hwrp), ← hhead]
      exact hheat (by rw [← h4]; exact hne)
    · rw [hstream, h13 k hk, hleft.others k hk]
    · exact only_step (only_step (only_step (only_mono hleftOnly (by decide)) h14) hheated) ht
  case waits =>
    intro s st hready hwait hload
    have hrow : s.headSwitchRow st = s := by
      unfold State.headSwitchRow
      dsimp only
      split
      · rfl
      · rename_i w hpending
        refine if_neg ?_
        rcases hwait with h | h | h | h
        · exact absurd (hpending.symm.trans h) (by simp)
        · simp [h]
        · simp [h]
        · simp [h]
    refine gives_still (exec_headSwitch st s) hready rfl (still_of_eq ?_)
    rw [hrow, loadDue_none hload]
  case override =>
    intro s ag n v hready haccepts
    exact gives_wrote (exec_chnAfSelWrite ag n v s) hready haccepts rfl (still_of_eq rfl)
  case refused =>
    intro s ag n v hready hon hword hset hhead
    obtain ⟨-, hn⟩ := Bool.and_eq_true_iff.mp hready.1
    refine gives_still (exec_chnAfSelWrite ag n v s) hready (turnedAway_pending ..) (still_of_eq ?_)
    refine setupWrite_of_stateRefused (regAt_regAddr hn) hon rfl hword ?_
    simp [State.stateRefused, State.afSelRefused, hset, hhead]
  case fails =>
    intro s n hready hused
    have hfail : s.frontEndFail n = s.frontEndOut n := if_pos ⟨of_decide_eq_true hready.1, by rw [hused]; rfl⟩
    refine gives_sources (exec_frontEndFail n s) hready fun t ht hsrc => ?_
    obtain ⟨hchn, hvalue, hinbox⟩ := frontEndTold_fields s n
    have htold := only_frontEndTold s n
    rw [hfail, frontEndOut_eq hused] at ht hsrc
    generalize s.frontEndTold n = u at ht hsrc hchn hvalue hinbox htold
    have hstream (k : Nat) : u.stream k = s.stream k := by simp only [State.stream, hchn]
    rw [hstream] at ht hsrc
    obtain ⟨x, hx, hset, hsame, honly, hevc⟩ : ∃ x, x = (if (s.stream (n / 2)).readers ≠ 0 then
          u.setReaders (n / 2) (u.usableReaders (n / 2) (s.stream (n / 2)).readers) else u) ∧
        ReadersSet u (n / 2) (u.usableReaders (n / 2) (s.stream (n / 2)).readers) x ∧ x.flt = u.flt ∧
        Only [.chn, .wrp] u x ∧ x.evc = u.evc := by
      refine ⟨_, rfl, ?_⟩
      by_cases hzero : (s.stream (n / 2)).readers = 0
      · rw [if_neg fun h => h hzero]
        refine ⟨⟨?_, rfl, fun _ _ => rfl, rfl⟩, rfl, only_refl _ u, rfl⟩
        simp [hstream, hzero, State.usableReaders]
      · rw [if_pos hzero]
        exact ⟨readersSet .., only_setReaders u _ _ .flt (by decide), only_setReaders u _ _, evc_setReaders ..⟩
    rw [← hx] at ht hsrc
    have htchn : t.chn = x.chn := ht .chn (by decide)
    have htflt : t.flt = u.flt := (ht .flt (by decide)).trans hsame
    have hfailed : t.chn.afFailed = u.chn.afFailed := by rw [htchn, hset.failed]
    have husable : t.usableReaders (n / 2) (s.stream (n / 2)).readers = u.usableReaders (n / 2) (s.stream (n / 2)).readers := by
      simp only [State.usableReaders, hfailed]
    rw [stream_of_chn htchn, hset.readers, hset.head, husable, hstream]
    refine ⟨by rw [hfailed, hchn], rfl, rfl, ?_, by rw [htflt, hinbox], fun k hk => ?_, ?_⟩
    · rw [hsrc 8 (.inl (by decide)), ← hvalue]
      simp only [State.src, hevc]
    · rw [stream_of_chn htchn, hset.others k hk, hstream]
    · exact only_step (only_step (only_mono htold (by decide)) honly) ht
  case failed =>
    intro s n hready hout
    refine gives_still (exec_frontEndFail n s) hready rfl (still_of_eq (if_neg fun h => ?_))
    obtain ⟨-, h⟩ := h
    rw [hout] at h
    exact absurd h (by decide)

end Sys2Proof.Machine
end

section
/-! SUPPORT. A servo wedge: the write clock, the record, the counters and the positions of the sequencers (R107, R134, R170). -/

namespace Sys2Proof.Machine

open Sys2Proof

-- One declaration at a time: proofs elaborated side by side hold a stack each, and the check bounds their sum.
set_option Elab.async false

/-! ## The write clock -/

/-- A stream whose write clock has followed a wedge (R134, R135, R136). -/
def State.clockedStream (s : State) (o : WedgeObs) (x : Stream) : Stream :=
  { x with
    noMark := if o.sam then 0 else x.noMark + 1
    writeClock := if o.sam && x.lastMark.isSome then clockStep x.writeClock (s.clockTarget x o.interval) else x.writeClock
    writePhase := if o.sam then s.clockPhase (if o.sam && x.lastMark.isSome then clockStep x.writeClock (s.clockTarget x o.interval)
      else x.writeClock) o.samTime else x.writePhase
    lastMark := if o.sam then some s.now else x.lastMark
    locked := if o.sam && x.lastMark.isSome then !clockOut (s.clockTarget x o.interval)
      else if 2 ≤ (if o.sam then 0 else x.noMark + 1) then false else x.locked }

/-- What the write clock leaves of a state whose stream has followed the wedge. -/
structure Clocked (s : State) (st : Nat) (o : WedgeObs) (t : State) : Prop where
  own : calmStream (t.stream st) = calmStream (s.clockedStream o (s.stream st))
  others : ∀ k, k ≠ st → t.stream k = s.stream k
  counters : t.chn.counters = s.chn.counters
  seqs : ∀ q, calmSeq (t.seqr q) = calmSeq (s.seqr q)
  only : Only [.chn, .seq, .wrp] s t

theorem clocked_inhibit {s u : State} {st : Nat} {o : WedgeObs} (h : Clocked s st o u) (b : Nat) : Clocked s st o (u.inhibit st b) := by
  have hkept := inhibitKept_inhibit u st b
  exact {
    own := hkept.own.trans h.own
    others := fun k hk => (hkept.others k hk).trans (h.others k hk)
    counters := hkept.counters.trans h.counters
    seqs := fun q => (hkept.seqs q).trans (h.seqs q)
    only := only_step h.only (only_inhibit u st b) }

theorem clocked_wedgeClock (s : State) (st : Nat) (o : WedgeObs) : Clocked s st o (s.wedgeClock st o) := by
  unfold State.wedgeClock
  extract_lets x miss target known f u
  have hu : Clocked s st o u := {
    own := by
      have hstream : u.stream st = s.clockedStream o (s.stream st) := (stream_modStream s st st _).trans (if_pos rfl)
      rw [hstream]
    others := fun k hk => (stream_modStream s st k _).trans (if_neg hk)
    counters := rfl
    seqs := fun _ => rfl
    only := only_mono (only_modStream s st _) (by decide) }
  split
  · exact clocked_inhibit hu 1
  · exact hu

/-! ## The record, its count and the positions of the sequencers -/

/-- A stream to which a record is delivered (R107). -/
def deliveredStream (r : ServoRec) (late : Bool) (y : Stream) : Stream := { y with record := some r, fresh := if late then y.fresh else some r }

/-- A wedge's record is delivered to its stream and counted (R107, R108). -/
def State.recordDelivered (s : State) (st : Nat) (o : WedgeObs) (r : ServoRec) (late : Bool) : State :=
  let s := s.modStream st (deliveredStream r late)
  if o.sam then (if o.parity then s else s.count st 13 1) else s.count st 12 1

/-- What follows a wedge's record: the positions of the sequencers, the cause of lost marks, and the index (R170, R268). -/
def State.recordFollowed (s : State) (st : Nat) (r : ServoRec) : State :=
  let s := s.wedgePos st
  let s := if (s.stream st).noMark = 2 ∧ (s.act (actOf st)).state ≠ .loading then s.causeStream st 2 else s
  if validRec r then s.anchor else s

/-- The free value that a record takes where its bursts give no position (R108). -/
def State.pesDrawn (s : State) (st : Nat) (o : WedgeObs) : State :=
  if o.sam && (averagePes (s.readerPositions st o.bursts)).isNone then s.freeUsed else s

theorem servoWedge_eq {s : State} {st : Nat} (o : WedgeObs) (hst : st < 16) (h : (s.stream st).readers ≠ 0) : s.servoWedge st o =
    (let u := (s.pesDrawn st o).wedgeClock st o
    (u.recordDelivered st o (s.servoRecord st o) (u.lateRecord (actOf st))).recordFollowed st (s.servoRecord st o)) := by
  have hhead : ¬(16 ≤ st ∨ (s.stream st).readers = 0) := by omega
  unfold State.servoWedge
  rw [if_neg hhead]
  rfl

theorem only_count (s : State) (st k n : Nat) : Only [.chn] s (s.count st k n) := only_setChn s _

theorem stream_count (s : State) (st k n i : Nat) : (s.count st k n).stream i = s.stream i := rfl

theorem statRaw_count (s : State) (st k n : Nat) (hk : k ≠ 1) :
    (s.count st k n).statRaw (statKey (headOf st (s.stream st)) (s.stream st).zone k) =
      satAdd (s.statRaw (statKey (headOf st (s.stream st)) (s.stream st).zone k)) n 0xFFFFFFFF := by
  unfold State.count
  rw [if_neg hk]
  exact agetD_acanon_same ..

theorem lateRecord_congr {s t : State} (hsce : t.sce = s.sce) (hspn : t.spn = s.spn) (hnow : t.now = s.now) (hsec : t.sec = s.sec) (a : Nat) :
    t.lateRecord a = s.lateRecord a := by
  simp only [State.lateRecord, State.act, State.revNs, hsce, hspn, hnow, hsec] <;> rfl

theorem recordDelivered_stream (s : State) (st k : Nat) (o : WedgeObs) (r : ServoRec) (late : Bool) :
    (s.recordDelivered st o r late).stream k = if k = st then deliveredStream r late (s.stream k) else s.stream k := by
  refine Eq.trans ?_ (stream_modStream s st k (deliveredStream r late))
  unfold State.recordDelivered
  dsimp only
  split
  · split
    · rfl
    · rfl
  · rfl

theorem only_recordDelivered (s : State) (st : Nat) (o : WedgeObs) (r : ServoRec) (late : Bool) :
    Only [.chn] s (s.recordDelivered st o r late) := by
  have hset (f : Stream → Stream) : Only [.chn] s (s.modStream st f) := only_modStream s st f
  unfold State.recordDelivered
  exact only_ite (fun _ => only_ite (fun _ => hset _) fun _ => only_trans (hset _) (only_count _ _ _ _)) fun _ =>
    only_trans (hset _) (only_count _ _ _ _)

/-- The counter of the records that a wedge's record is counted in. -/
theorem recordDelivered_statRaw (s : State) (st : Nat) (o : WedgeObs) (r : ServoRec) (late : Bool) (k : Nat)
    (hk : o.sam = true ∧ o.parity = false ∧ k = 13 ∨ o.sam = false ∧ k = 12) :
    (s.recordDelivered st o r late).statRaw (statKey (headOf st (s.stream st)) (s.stream st).zone k) =
      satAdd (s.statRaw (statKey (headOf st (s.stream st)) (s.stream st).zone k)) 1 0xFFFFFFFF := by
  have hcount (f : Stream → Stream) (hf : ∀ x, (f x).head = x.head ∧ (f x).zone = x.zone) (hne : k ≠ 1) :
      ((s.modStream st f).count st k 1).statRaw (statKey (headOf st (s.stream st)) (s.stream st).zone k) =
        satAdd (s.statRaw (statKey (headOf st (s.stream st)) (s.stream st).zone k)) 1 0xFFFFFFFF := by
    have h := statRaw_count (s.modStream st f) st k 1 hne
    rw [stream_modStream, if_pos rfl, (hf _).2, headOf, (hf _).1] at h
    exact h
  unfold State.recordDelivered
  dsimp only
  rcases hk with ⟨hsam, hparity, rfl⟩ | ⟨hsam, rfl⟩
  · simp only [hsam, hparity, if_true, Bool.false_eq_true, if_false]
    exact hcount _ (fun _ => ⟨rfl, rfl⟩) (by decide)
  · simp only [hsam, Bool.false_eq_true, if_false]
    exact hcount _ (fun _ => ⟨rfl, rfl⟩) (by decide)

/-- The sequencer of a stream that a change leaves but for the causes that wait. -/
theorem seqOf_of_calm {s t : State} (h : ∀ q, calmSeq (t.seqr q) = calmSeq (s.seqr q)) (st : Nat) : t.seqOf st = s.seqOf st := by
  have hstream (q : Nat) : (t.seqr q).stream = (s.seqr q).stream := (congrArg Seq.stream (h q) :)
  have hstate (q : Nat) : (t.seqr q).state = (s.seqr q).state := (congrArg Seq.state (h q) :)
  simp only [State.seqOf, hstream, hstate]

theorem seqr_positions (l : List Nat) (s : State) (q : Nat) :
    (q ∈ l → ((l.foldl (fun s q => s.modSeq q fun x => { x with pos := 0, posAt := s.now, newWedge := true }) s).seqr q).pos = 0 ∧
      ((l.foldl (fun s q => s.modSeq q fun x => { x with pos := 0, posAt := s.now, newWedge := true }) s).seqr q).newWedge = true) := by
  have key : ∀ (l : List Nat) (s : State), q ∈ l ∨ ((s.seqr q).pos = 0 ∧ (s.seqr q).newWedge = true) →
      ((l.foldl (fun s q => s.modSeq q fun x => { x with pos := 0, posAt := s.now, newWedge := true }) s).seqr q).pos = 0 ∧
      ((l.foldl (fun s q => s.modSeq q fun x => { x with pos := 0, posAt := s.now, newWedge := true }) s).seqr q).newWedge = true := by
    intro l
    induction l with
    | nil => exact fun s h => h.elim (fun h => absurd h List.not_mem_nil) id
    | cons k l ih =>
      refine fun s h => ih _ ?_
      rw [seqr_modSeq]
      by_cases hk : q = k
      · rw [if_pos hk]
        exact .inr ⟨rfl, rfl⟩
      · rw [if_neg hk]
        exact h.imp (fun h => (List.mem_cons.mp h).resolve_left hk) id
  exact fun h => key l s (.inl h)

theorem only_wedgePos (s : State) (st : Nat) : Only [.seq] s (s.wedgePos st) := only_foldl (fun s q => only_modSeq s q _) _ s

theorem only_anchor (s : State) : Only [.spn] s s.anchor := by
  unfold State.anchor
  dsimp only
  refine only_ite (fun _ => only_refl _ s) fun _ => only_ite (fun _ => ?_) fun _ => only_modSpn s _
  exact only_trans (only_modSpn s _) (only_trans (only_modSpn _ _) (only_mono (only_evcLevel _ 11) (by decide)))

theorem only_recordFollowed_invalid (s : State) (st : Nat) {r : ServoRec} (h : validRec r = false) : Only [.seq] s (s.recordFollowed st r) := by
  unfold State.recordFollowed
  refine only_ite (fun hvalid => absurd (hvalid.symm.trans h) (by decide)) fun _ => ?_
  exact only_ite (fun _ => only_step (only_wedgePos s st) (only_causeStream _ _ _)) fun _ => only_wedgePos s st

theorem only_recordFollowed (s : State) (st : Nat) (r : ServoRec) : Only [.seq, .spn] s (s.recordFollowed st r) := by
  have hcause : Only [.seq, .spn] s (if ((s.wedgePos st).stream st).noMark = 2 ∧ ((s.wedgePos st).act (actOf st)).state ≠ .loading then
      (s.wedgePos st).causeStream st 2 else s.wedgePos st) :=
    only_ite (fun _ => only_step (only_mono (only_wedgePos s st) (by decide)) (only_causeStream _ _ _)) fun _ =>
      only_mono (only_wedgePos s st) (by decide)
  unfold State.recordFollowed
  exact only_ite (fun _ => only_step hcause (only_anchor _)) fun _ => hcause

/-- A sequencer after a record: as the positions leave it, but for a cause that waits. -/
theorem seqr_recordFollowed (s : State) (st : Nat) (r : ServoRec) (q : Nat) :
    calmSeq ((s.recordFollowed st r).seqr q) = calmSeq ((s.wedgePos st).seqr q) := by
  have hcause : calmSeq ((if ((s.wedgePos st).stream st).noMark = 2 ∧ ((s.wedgePos st).act (actOf st)).state ≠ .loading then
      (s.wedgePos st).causeStream st 2 else s.wedgePos st).seqr q) = calmSeq ((s.wedgePos st).seqr q) := by
    split
    · exact seqr_causeStream ..
    · rfl
  unfold State.recordFollowed
  dsimp only
  split
  · rw [seqr_of_seq (only_anchor _ .seq (by decide))]
    exact hcause
  · exact hcause

theorem mem_wedgePos_own {s : State} {st q : Nat} (h : s.seqOf st = some q) : ((s.wedgePos st).seqr q).pos = 0 ∧
    ((s.wedgePos st).seqr q).newWedge = true :=
  seqr_positions _ s q (by simp [h])

theorem pos_wedgePos_priv {s : State} {st q : Nat} (h : q = 16 ∨ q = 17) (hhead : (s.seqr q).refHead = headOf st (s.stream st)) :
    ((s.wedgePos st).seqr q).pos = 0 := by
  refine (seqr_positions _ s q (List.mem_append_right _ (List.mem_filter.mpr ⟨?_, ?_⟩))).1
  · simpa using h
  · simpa using hhead

/-- What a servo wedge leaves of the other streams, of its own stream, of the counters and of the sequencers. -/
structure WedgePassed (s : State) (st : Nat) (o : WedgeObs) (t : State) : Prop where
  own : calmStream (t.stream st) = calmStream (deliveredStream (s.servoRecord st o) (s.lateRecord (actOf st))
    (s.clockedStream o (s.stream st)))
  others : ∀ k, k ≠ st → t.stream k = s.stream k
  counted : ∀ k, (o.sam = true ∧ o.parity = false ∧ k = 13 ∨ o.sam = false ∧ k = 12) →
    t.statRaw (statKey (headOf st (s.stream st)) (s.stream st).zone k) =
      satAdd (s.statRaw (statKey (headOf st (s.stream st)) (s.stream st).zone k)) 1 0xFFFFFFFF
  stream : ∀ q, s.seqOf st = some q → (t.seqr q).pos = 0 ∧ (t.seqr q).newWedge = true
  priv : ∀ q, q = 16 ∨ q = 17 → (s.seqr q).refHead = headOf st (s.stream st) → (t.seqr q).pos = 0

/-- A wedge under a stream with a head, after the free value its record may have taken. -/
theorem wedgePassed {s d : State} {st : Nat} (o : WedgeObs) (hd : Only [.free] s d) : WedgePassed s st o
    (((d.wedgeClock st o).recordDelivered st o (s.servoRecord st o) ((d.wedgeClock st o).lateRecord (actOf st))).recordFollowed st
      (s.servoRecord st o)) := by
  have hclock := clocked_wedgeClock d st o
  have hstream (k : Nat) : d.stream k = s.stream k := stream_of_chn (hd .chn (by decide)) k
  have hseqr (q : Nat) : d.seqr q = s.seqr q := seqr_of_seq (hd .seq (by decide)) q
  have hlate : (d.wedgeClock st o).lateRecord (actOf st) = s.lateRecord (actOf st) :=
    lateRecord_congr ((hclock.only .sce (by decide)).trans (hd .sce (by decide)))
      ((hclock.only .spn (by decide)).trans (hd .spn (by decide))) ((hclock.only .clock (by decide)).trans (hd .clock (by decide)))
      ((hclock.only .sec (by decide)).trans (hd .sec (by decide))) _
  have hclocked : d.clockedStream o (d.stream st) = s.clockedStream o (s.stream st) := by
    have hnow : d.now = s.now := hd .clock (by decide)
    have hsec : d.sec = s.sec := hd .sec (by decide)
    simp only [State.clockedStream, State.clockTarget, State.zoneTable, State.clockPhase, hstream, hnow, hsec]
  rw [hlate]
  generalize d.wedgeClock st o = u at hclock
  have hseqs (q : Nat) : calmSeq (u.seqr q) = calmSeq (s.seqr q) := (hclock.seqs q).trans (congrArg calmSeq (hseqr q))
  have hown : calmStream (u.stream st) = calmStream (s.clockedStream o (s.stream st)) := by rw [hclock.own, hclocked]
  have hhead : (u.stream st).head = (s.stream st).head := (congrArg Stream.head hown :)
  have hzone : (u.stream st).zone = (s.stream st).zone := (congrArg Stream.zone hown :)
  generalize hv : u.recordDelivered st o (s.servoRecord st o) (s.lateRecord (actOf st)) = v
  have hdelivered (k : Nat) : v.stream k = if k = st then deliveredStream (s.servoRecord st o) (s.lateRecord (actOf st)) (u.stream k)
      else u.stream k := by rw [← hv, recordDelivered_stream]
  have honly : Only [.chn] u v := hv ▸ only_recordDelivered u st o _ _
  have hfollowed := only_recordFollowed v st (s.servoRecord st o)
  have hchn : (v.recordFollowed st (s.servoRecord st o)).chn = v.chn := hfollowed .chn (by decide)
  have hvseq (q : Nat) : calmSeq (v.seqr q) = calmSeq (s.seqr q) :=
    (congrArg calmSeq (seqr_of_seq (honly .seq (by decide)) q)).trans (hseqs q)
  have hvhead : headOf st (v.stream st) = headOf st (s.stream st) := by
    rw [hdelivered, if_pos rfl]
    exact congrArg (18 * actOf st + ·) hhead
  constructor
  case own =>
    rw [stream_of_chn hchn, hdelivered, if_pos rfl]
    have hmask (r : ServoRec) (late : Bool) (x : Stream) :
        calmStream (deliveredStream r late x) = deliveredStream r late (calmStream x) := rfl
    rw [hmask, hown, hmask]
  case others =>
    intro k hk
    rw [stream_of_chn hchn, hdelivered, if_neg hk, hclock.others k hk, hstream]
  case counted =>
    intro k hk
    have hraw : ∀ key, (v.recordFollowed st (s.servoRecord st o)).statRaw key = v.statRaw key := fun key => by
      simp only [State.statRaw, hchn]
    have hcounters (key : Nat) : u.statRaw key = s.statRaw key := by
      simp only [State.statRaw, hclock.counters, show d.chn = s.chn from hd .chn (by decide)]
    have h := recordDelivered_statRaw u st o (s.servoRecord st o) (s.lateRecord (actOf st)) k hk
    rw [hv, hzone, headOf, hhead, hcounters] at h
    rw [hraw]
    exact h
  case stream =>
    intro q hq
    have hown := mem_wedgePos_own (s := v) (st := st) (q := q) (by rw [seqOf_of_calm hvseq, hq])
    have hcalm := seqr_recordFollowed v st (s.servoRecord st o) q
    exact ⟨(congrArg Seq.pos hcalm :).trans hown.1, (congrArg Seq.newWedge hcalm :).trans hown.2⟩
  case priv =>
    intro q hq href
    have hrefHead : (v.seqr q).refHead = headOf st (v.stream st) := (congrArg Seq.refHead (hvseq q) :).trans (href.trans hvhead.symm)
    exact (congrArg Seq.pos (seqr_recordFollowed v st (s.servoRecord st o) q) :).trans (pos_wedgePos_priv hq hrefHead)

theorem only_pesDrawn (s : State) (st : Nat) (o : WedgeObs) : Only [.free] s (s.pesDrawn st o) := by
  refine only_ite (fun _ => ?_) fun _ => only_refl _ s
  simp [State.freeUsed, only_iff, State.sess]

theorem free_pesDrawn {s : State} (st : Nat) {o : WedgeObs} (h : o.sam = true) : (s.pesDrawn st o).free =
    s.free + (if (averagePes (s.readerPositions st o.bursts)).isNone then 1 else 0) := by
  unfold State.pesDrawn
  rw [h, Bool.true_and]
  split
  · rfl
  · rfl

/-- A wedge without a mark draws no free value, and its record is not valid. -/
theorem servoWedge_blind {s : State} {st : Nat} {o : WedgeObs} (hst : st < 16) (h : (s.stream st).readers ≠ 0) (hsam : o.sam = false) :
    s.servoWedge st o = ((s.wedgeClock st o).recordDelivered st o (s.servoRecord st o)
      ((s.wedgeClock st o).lateRecord (actOf st))).recordFollowed st (s.servoRecord st o) := by
  have hdrawn : s.pesDrawn st o = s := if_neg (by simp [hsam])
  rw [servoWedge_eq o hst h, hdrawn]

/-- Settles O34: the record of a wedge is delivered and counted, and the write clock and the positions follow it (`wedgePassed`). -/
theorem servoWedges : Obligations.ServoWedges := by
  unfold Obligations.ServoWedges
  refine ⟨?mark, ?blind, ?headless⟩
  case mark =>
    intro s st o hready hhead hsam
    refine gives_only (exec_servoWedge st o s) hready fun t ht => ?_
    rw [servoWedge_eq o (of_decide_eq_true hready.1) hhead] at ht
    obtain ⟨hown, hothers, hcounted, hstream, hpriv⟩ := wedgePassed (st := st) o (only_pesDrawn s st o)
    have honly : Only [.chn, .seq, .wrp, .free, .spn] s _ :=
      only_step (only_step (only_step (only_mono (only_pesDrawn s st o) (by decide)) (clocked_wedgeClock (s.pesDrawn st o) st o).only)
        (only_recordDelivered _ st o (s.servoRecord st o) (((s.pesDrawn st o).wedgeClock st o).lateRecord (actOf st))))
        (only_recordFollowed _ st (s.servoRecord st o))
    have hfree : (((((s.pesDrawn st o).wedgeClock st o).recordDelivered st o (s.servoRecord st o)
        (((s.pesDrawn st o).wedgeClock st o).lateRecord (actOf st))).recordFollowed st (s.servoRecord st o))).free = (s.pesDrawn st o).free :=
      (only_recordFollowed _ st _ .free (by decide)).trans ((only_recordDelivered _ st o _ _ .free (by decide)).trans
        ((clocked_wedgeClock (s.pesDrawn st o) st o).only .free (by decide)))
    rw [free_pesDrawn st hsam] at hfree
    generalize (((s.pesDrawn st o).wedgeClock st o).recordDelivered st o (s.servoRecord st o)
      (((s.pesDrawn st o).wedgeClock st o).lateRecord (actOf st))).recordFollowed st (s.servoRecord st o) = v
      at ht hown hothers hcounted hstream hpriv honly hfree
    have hchn : t.chn = v.chn := ht .chn (by decide)
    have hseqr (q : Nat) : t.seqr q = v.seqr q := seqr_of_seq (ht .seq (by decide)) q
    have hclock : (v.stream st).writeClock = if (s.stream st).lastMark.isSome then
        clockStep (s.stream st).writeClock (s.clockTarget (s.stream st) o.interval) else (s.stream st).writeClock := by
      refine (congrArg Stream.writeClock hown :).trans ?_
      simp only [calmStream, deliveredStream, State.clockedStream, hsam, Bool.true_and]
    rw [stream_of_chn hchn]
    refine ⟨(congrArg Stream.record hown :), ?_, ?_, ?_, ?_, fun hlast => ⟨?_, ?_⟩, ?_, fun hparity => ?_, fun q hq => ?_, fun q hq href => ?_,
      fun k hk => ?_, only_step (only_mono honly (by decide)) ht⟩
    · exact (congrArg Stream.fresh hown :)
    · refine (congrArg Stream.noMark hown :).trans ?_
      simp only [calmStream, deliveredStream, State.clockedStream, hsam, if_true]
    · refine (congrArg Stream.lastMark hown :).trans ?_
      simp only [calmStream, deliveredStream, State.clockedStream, hsam, if_true]
    · rw [hclock]
      refine (congrArg Stream.writePhase hown :).trans ?_
      simp only [calmStream, deliveredStream, State.clockedStream, hsam, Bool.true_and, if_true]
    · rw [hclock, if_pos hlast]
    · refine (congrArg Stream.locked hown :).trans ?_
      simp only [calmStream, deliveredStream, State.clockedStream, hsam, Bool.true_and, hlast, if_true]
    · exact (show t.free = v.free from ht .free (by decide)).trans hfree
    · simp only [State.statRaw, hchn]
      exact hcounted 13 (.inl ⟨hsam, hparity, rfl⟩)
    · rw [hseqr]
      exact hstream q hq
    · rw [hseqr]
      exact hpriv q hq href
    · rw [stream_of_chn hchn, hothers k hk]
  case blind =>
    intro s st o hready hhead hsam
    refine gives_only (exec_servoWedge st o s) hready fun t ht => ?_
    rw [servoWedge_blind (of_decide_eq_true hready.1) hhead hsam] at ht
    obtain ⟨hown, hothers, hcounted, -, -⟩ := wedgePassed (st := st) o (only_refl [.free] s)
    have hinvalid : validRec (s.servoRecord st o) = false := by simp [validRec, State.servoRecord, hsam]
    have honly : Only [.chn, .wrp, .seq] s _ :=
      only_step (only_step (only_mono (clocked_wedgeClock s st o).only (by decide))
        (only_recordDelivered _ st o (s.servoRecord st o) ((s.wedgeClock st o).lateRecord (actOf st))))
        (only_recordFollowed_invalid _ st hinvalid)
    generalize ((s.wedgeClock st o).recordDelivered st o (s.servoRecord st o)
      ((s.wedgeClock st o).lateRecord (actOf st))).recordFollowed st (s.servoRecord st o) = v at ht hown hothers hcounted honly
    have hchn : t.chn = v.chn := ht .chn (by decide)
    rw [stream_of_chn hchn]
    refine ⟨?_, ?_, ?_, ?_, fun hlost => ?_, ?_, fun k hk => ?_, only_step honly ht⟩
    · refine (congrArg Stream.record hown :).trans ?_
      simp only [calmStream, deliveredStream, State.servoRecord, hsam, Bool.false_eq_true, if_false]
    · refine (congrArg Stream.noMark hown :).trans ?_
      simp only [calmStream, deliveredStream, State.clockedStream, hsam, Bool.false_eq_true, if_false]
    · refine (congrArg Stream.lastMark hown :).trans ?_
      simp only [calmStream, deliveredStream, State.clockedStream, hsam, Bool.false_eq_true, if_false]
    · refine (congrArg Stream.writeClock hown :).trans ?_
      simp only [calmStream, deliveredStream, State.clockedStream, hsam, Bool.false_and, Bool.false_eq_true, if_false]
    · refine (congrArg Stream.locked hown :).trans ?_
      simp only [calmStream, deliveredStream, State.clockedStream, hsam, Bool.false_and, Bool.false_eq_true, if_false, hlost, if_true]
    · simp only [State.statRaw, hchn]
      exact hcounted 12 (.inr ⟨hsam, rfl⟩)
    · rw [stream_of_chn hchn, hothers k hk]
  case headless =>
    intro s st o hready hhead
    exact gives_still (exec_servoWedge st o s) hready rfl (still_of_eq (if_pos (.inr hhead)))

end Sys2Proof.Machine
end

section
/-! SUPPORT. What the life of a session changes: the completion ring, held completions, commands that end, and paths that are lost (R302-R314, R396-R403). -/

namespace Sys2Proof.Machine

open Sys2Proof

-- One declaration at a time: proofs elaborated side by side hold a stack each, and the check bounds their sum.
set_option Elab.async false

/-! ## The host interface alone -/

/-- Only the host interface changes, and no activation begins or ends. -/
def HostKept (s t : State) : Prop := Only [.eqt] s t ∧ t.eqt.activation = s.eqt.activation

theorem hostKept_refl (s : State) : HostKept s s := ⟨only_refl _ s, rfl⟩

theorem hostKept_trans {s t u : State} (h : HostKept s t) (k : HostKept t u) : HostKept s u := ⟨only_trans h.1 k.1, k.2.trans h.2⟩

theorem hostKept_of_still {s t : State} (h : Still s t) : HostKept s t := ⟨only_of_still h, still_eqt_field (fun x => x.activation) h⟩

theorem hostKept_setEqt (s : State) {x : Eqt} (h : x.activation = s.eqt.activation) : HostKept s { s with eqt := x } := ⟨only_setEqt s x, h⟩

theorem hostKept_ite {p : Prop} [Decidable p] {s t u : State} (h : p → HostKept s t) (k : ¬p → HostKept s u) :
    HostKept s (if p then t else u) := by
  split
  · exact h ‹_›
  · exact k ‹_›

theorem hostKept_foldl {β : Type} {f : State → β → State} (h : ∀ s b, HostKept s (f s b)) (l : List β) (s : State) :
    HostKept s (l.foldl f s) := by
  induction l generalizing s with
  | nil => exact hostKept_refl s
  | cons b l ih => exact hostKept_trans (h s b) (ih _)

section Host
variable (s : State) (i : Nat)

theorem hostKept_setSess (x : Session) : HostKept s (s.setSess i x) := hostKept_setEqt s rfl
theorem hostKept_modSess (f : Session → Session) : HostKept s (s.modSess i f) := hostKept_setEqt s rfl
theorem hostKept_modCmd (f : Cmd → Cmd) : HostKept s (s.modCmd i f) := hostKept_setEqt s rfl
theorem hostKept_modLin (f : Lineage → Lineage) : HostKept s (s.modLin i f) := hostKept_setEqt s rfl
theorem hostKept_modPort (f : Port → Port) : HostKept s (s.modPort i f) := hostKept_setEqt s rfl
theorem hostKept_releaseLineage : HostKept s (s.releaseLineage i) := hostKept_setEqt s rfl
theorem hostKept_dropHeld : HostKept s (s.dropHeld i) := hostKept_setEqt s rfl
theorem hostKept_emit (o : Out) : HostKept s (s.emit o) := hostKept_of_still (still_emit s o)
theorem hostKept_sendPkt (p : Pkt) : HostKept s (s.sendPkt i p) := hostKept_of_still (still_sendPkt s i p)
theorem hostKept_request (n : Nat) (k : ReqKind) : HostKept s (s.request i n k) := hostKept_of_still (still_request s i n k)

theorem hostKept_notify (ring : Nat) : HostKept s (s.notify i ring) := by
  unfold State.notify
  refine hostKept_ite (fun _ => ?_) fun _ => hostKept_setSess s i _
  exact hostKept_trans (hostKept_trans (hostKept_setSess s i _) (hostKept_sendPkt _ i _)) (hostKept_request _ i 1 _)

theorem hostKept_sendPending : HostKept s (s.sendPending i) := by
  unfold State.sendPending
  dsimp only
  refine hostKept_ite (fun _ => ?_) fun _ => hostKept_refl s
  have hsess : HostKept s (s.setSess i { s.sess i with pendNotify := false }) := hostKept_setSess s i _
  have hcq : HostKept s (if (s.sess i).cq.fresh then (s.setSess i { s.sess i with pendNotify := false }).notify i 1
      else s.setSess i { s.sess i with pendNotify := false }) :=
    hostKept_ite (fun _ => hostKept_trans hsess (hostKept_notify _ i 1)) fun _ => hsess
  exact hostKept_ite (fun _ => hostKept_trans hcq (hostKept_notify _ i 2)) fun _ => hcq

theorem hostKept_sent (x : Session) (p : Pkt) (k : ReqKind) : HostKept s (((s.setSess i x).sendPkt i p).request i 1 k) :=
  hostKept_trans (hostKept_trans (hostKept_setSess s i x) (hostKept_sendPkt _ i p)) (hostKept_request _ i 1 k)

theorem hostKept_cqWriteOne (it : CqItem) : HostKept s (s.cqWriteOne i it) := by
  unfold State.cqWriteOne
  dsimp only
  split
  · exact hostKept_trans (hostKept_trans (hostKept_sent s i _ _ _) (hostKept_modSess _ i _)) (hostKept_notify _ i 1)
  · exact hostKept_ite (fun _ => hostKept_trans (hostKept_sent s i _ _ _) (hostKept_notify _ i 1)) fun _ => hostKept_sent s i _ _ _

theorem hostKept_cqDrain (n : Nat) : HostKept s (s.cqDrain i n) := by
  induction n generalizing s with
  | zero => exact hostKept_refl s
  | succ n ih =>
    unfold State.cqDrain
    dsimp only
    split
    · split
      · exact hostKept_refl s
      · exact hostKept_trans (hostKept_cqWriteOne s i _) (ih _)
    · exact hostKept_refl s

theorem hostKept_cqPush (it : CqItem) : HostKept s (s.cqPush i it) :=
  hostKept_trans (hostKept_modSess s i _) (hostKept_cqDrain _ i _)

theorem hostKept_hold (l : Nat) (c : Completion) : HostKept s (s.hold l i c) := by
  unfold State.hold
  dsimp only
  split
  · exact hostKept_refl s
  · split
    · exact hostKept_ite (fun _ => hostKept_modLin s l _) fun _ => hostKept_cqPush s _ _
    · exact hostKept_modLin s l _

theorem hostKept_holdUnsettled : HostKept s (s.holdUnsettled i) := by
  unfold State.holdUnsettled
  exact hostKept_trans (hostKept_foldl (fun s c => hostKept_hold s i _ c) _ s) (hostKept_modSess _ i _)

theorem hostKept_freeSess : HostKept s (s.freeSess i) := by
  have hfree := hostKept_setSess s i freeSession
  unfold State.freeSess
  dsimp only
  split
  · exact hfree
  · refine hostKept_ite (fun _ => hostKept_ite (fun _ => ?_) fun _ => ?_) fun _ => hfree
    · exact hostKept_trans hfree (hostKept_releaseLineage _ _)
    · exact hostKept_trans hfree (hostKept_modLin _ _ _)

theorem hostKept_releaseClaimOf : HostKept s (s.releaseClaimOf i) := by
  unfold State.releaseClaimOf
  split
  · exact hostKept_refl s
  · exact hostKept_of_still (still_releaseClaim s _)

theorem hostKept_migrate : HostKept s (s.migrate i) := by
  unfold State.migrate
  dsimp only
  split
  · exact hostKept_refl s
  · refine hostKept_trans (hostKept_trans ?_ (hostKept_sendPending _ i)) (hostKept_cqDrain _ i _)
    split
    · exact hostKept_trans (hostKept_setSess s i _) (hostKept_sendPkt _ i _)
    · exact hostKept_setSess s i _

theorem hostKept_abandon : HostKept s (s.abandon i) := by
  unfold State.abandon
  dsimp only
  refine hostKept_ite (fun _ => ?_) fun _ => hostKept_refl s
  have hfreed : HostKept s ((s.holdUnsettled i).freeSess i) := hostKept_trans (hostKept_holdUnsettled s i) (hostKept_freeSess _ i)
  exact hostKept_ite (fun _ => hostKept_trans hfreed (hostKept_releaseLineage _ _)) fun _ => hfreed

theorem hostKept_quarantine (t : Nat) : HostKept s (s.quarantine i t) := by
  unfold State.quarantine
  exact hostKept_ite (fun _ => hostKept_refl s) fun _ => hostKept_setSess s i _

theorem hostKept_countStatus (status : BitVec 16) : HostKept s (s.countStatus status) :=
  hostKept_ite (fun _ => hostKept_setEqt s rfl) fun _ => hostKept_ite (fun _ => hostKept_setEqt s rfl) fun _ => hostKept_refl s

end Host

/-! ## Commands that end -/

/-- What a command that ends leaves alone: everything but the host interface, the placement, the media queue and the sequencers, where no activation
begins or ends and no piece is added. -/
structure EndKept (s t : State) : Prop where
  only : Only [.eqt, .plc, .orb, .seq] s t
  activation : t.eqt.activation = s.eqt.activation
  pieces : s.orb.pieces = [] → t.orb.pieces = []

theorem endKept_trans {s t u : State} (h : EndKept s t) (k : EndKept t u) : EndKept s u :=
  ⟨only_trans h.only k.only, k.activation.trans h.activation, fun hs => k.pieces (h.pieces hs)⟩

theorem endKept_of_host {s t : State} (h : HostKept s t) : EndKept s t :=
  ⟨only_mono h.1 (by decide), h.2, fun hs => (congrArg Orb.pieces (h.1 .orb (by decide))).trans hs⟩

theorem endKept_refl (s : State) : EndKept s s := endKept_of_host (hostKept_refl s)

theorem endKept_ite {p : Prop} [Decidable p] {s t u : State} (h : p → EndKept s t) (k : ¬p → EndKept s u) :
    EndKept s (if p then t else u) := by
  split
  · exact h ‹_›
  · exact k ‹_›

theorem endKept_foldl {β : Type} {f : State → β → State} (h : ∀ s b, EndKept s (f s b)) (l : List β) (s : State) :
    EndKept s (l.foldl f s) := by
  induction l generalizing s with
  | nil => exact endKept_refl s
  | cons b l ih => exact endKept_trans (h s b) (ih _)

/-- A change of the sequencers alone. -/
theorem endKept_of_seq {s t : State} (h : Only [.seq] s t) : EndKept s t :=
  ⟨only_mono h (by decide), eqt_of_only (fun x => x.activation) h (by decide), fun hs => (congrArg Orb.pieces (h .orb (by decide))).trans hs⟩

section End
variable (s : State) (t : Nat)

theorem only_withdraw (current : Bool) (mine : WorkItem → Bool) : Only [.seq] s (s.withdraw t current mine) := by
  have hcause (p : Prop) [Decidable p] : Only [.seq] s (if p then s.cause t 1 else s) :=
    only_ite (fun _ => only_cause s t 1) fun _ => only_refl _ s
  unfold State.withdraw
  exact only_trans (only_trans (hcause _) (only_modSeq _ t _)) (only_setSeq _ _)

theorem endKept_modTurn (f : Turn → Turn) : EndKept s (s.modTurn t f) := ⟨only_mono (only_setOrb s _) (by decide), rfl, id⟩

theorem endKept_dropPieces (k : PieceKind) : EndKept s (s.dropPieces k t) :=
  ⟨only_mono (only_setOrb s _) (by decide), rfl, fun hs => by simp [State.dropPieces, hs, afilter]⟩

theorem endKept_dropHost (current : Bool) : EndKept s (s.dropHost t current) := by
  unfold State.dropHost
  refine endKept_trans (endKept_trans ?_ (endKept_foldl (fun s a => ?_) _ _)) (endKept_dropPieces _ t _)
  · exact endKept_foldl (fun s q => endKept_of_seq (only_withdraw s q current _)) _ s
  · exact endKept_ite (fun _ => endKept_modTurn s a _) fun _ => endKept_refl s

theorem endKept_dropResv : EndKept s (s.dropResv t) := by
  have hcmd : EndKept s (s.modCmd t fun c => { c with resv := none }) := endKept_of_host (hostKept_modCmd s t _)
  unfold State.dropResv
  exact endKept_trans hcmd ⟨only_mono (only_setPlc _ _) (by decide), rfl, id⟩

theorem endKept_checkHold : EndKept s s.checkHold := by
  have hhold : EndKept s { s with plc := { s.plc with hold := decide (s.pwr.dmax < s.dirty) } } :=
    ⟨only_mono (only_setPlc _ _) (by decide), rfl, id⟩
  exact endKept_trans hhold (endKept_of_host (hostKept_of_still (still_evcLevel _ 2)))

theorem endKept_settleCmd (status : BitVec 16) (result : BitVec 48) (p : Pair) : EndKept s (s.settleCmd t status result p) := by
  unfold State.settleCmd
  split
  · exact endKept_refl s
  · rename_i c _
    have hdrop : EndKept s ((s.dropResv t).quarantine c.sess t) :=
      endKept_trans (endKept_dropResv s t) (endKept_of_host (hostKept_quarantine _ _ t))
    have hcmd (u : State) (f : Cmd → Cmd) : EndKept u (u.modCmd t f) := endKept_of_host (hostKept_modCmd u t f)
    have hcount (u : State) : EndKept u (u.countStatus status) := endKept_of_host (hostKept_countStatus u status)
    exact endKept_trans (endKept_trans (endKept_trans (endKept_trans hdrop (hcmd _ _)) (endKept_dropHost _ t _)) (hcount _))
      (endKept_checkHold _)

theorem endKept_endCmd (status : BitVec 16) (result : BitVec 48) : EndKept s (s.endCmd t status result) := by
  unfold State.endCmd
  split
  · exact endKept_refl s
  · refine endKept_ite (fun _ => endKept_refl s) fun _ => ?_
    split
    · exact endKept_settleCmd s t _ _ _
    · exact endKept_trans (endKept_of_host (hostKept_of_still (still_stamped s))) (endKept_settleCmd _ t _ _ _)

theorem endKept_lossOutcome (c : Cmd) : EndKept s (s.lossOutcome t c) := by
  have hcmd : EndKept s (s.modCmd t fun c => { c with heldEnd := true, claimWait := false }) := endKept_of_host (hostKept_modCmd s t _)
  unfold State.lossOutcome
  refine endKept_ite (fun _ => hcmd) fun _ => endKept_ite (fun _ => endKept_ite (fun _ => hcmd) fun _ => ?_) fun _ =>
    endKept_ite (fun _ => ?_) fun _ => hcmd
  · exact endKept_trans hcmd (endKept_endCmd _ t _ _)
  · exact endKept_trans hcmd (endKept_endCmd _ t _ _)

theorem hostKept_freeCheck : HostKept s (s.freeCheck t) := by
  unfold State.freeCheck
  refine hostKept_ite (fun _ => hostKept_refl s) fun _ => hostKept_ite (fun _ => hostKept_freeSess s t) fun _ =>
    hostKept_ite (fun _ => ?_) fun _ => hostKept_refl s
  exact hostKept_trans (hostKept_trans (hostKept_emit s _) (hostKept_holdUnsettled _ t)) (hostKept_freeSess _ t)

/-- The disconnect request that a session sends as it enters ERROR, on a path still usable (R303). -/
def State.dreqSent (s : State) (i : Nat) : State :=
  if (s.port (s.sess i).path.port).link then s.emit (.cm (s.sess i).path.port (.dreq i))
  else match (s.sess i).alt with
    | some p => if (s.port p.port).link then s.emit (.cm p.port (.dreq i)) else s
    | none => s

theorem hostKept_dreqSent : HostKept s (s.dreqSent t) := by
  unfold State.dreqSent
  refine hostKept_ite (fun _ => hostKept_emit s _) fun _ => ?_
  split
  · exact hostKept_ite (fun _ => hostKept_emit s _) fun _ => hostKept_refl s
  · exact hostKept_refl s

theorem sessionError_eq {s : State} {i : Nat} (h : (s.sess i).state = .active ∨ (s.sess i).state = .closing) : s.sessionError i =
    (let u := ((((s.dreqSent i).modSess i fun y => { y with
      state := .error, pendNotify := true, silentSince := none, ackDue := none, eq := { y.eq with waitingClaim := [] } }).releaseClaimOf
        i).holdUnsettled i)
    ((u.cmdsOf i).foldl (fun s c => s.lossOutcome c.1 c.2) u).freeCheck i) := if_pos h

theorem endKept_sessionError : EndKept s (s.sessionError t) := by
  by_cases h : (s.sess t).state = .active ∨ (s.sess t).state = .closing
  · have hheld (f : Session → Session) : HostKept s ((((s.dreqSent t).modSess t f).releaseClaimOf t).holdUnsettled t) :=
      hostKept_trans (hostKept_trans (hostKept_trans (hostKept_dreqSent s t) (hostKept_modSess _ t f)) (hostKept_releaseClaimOf _ t))
        (hostKept_holdUnsettled _ t)
    rw [sessionError_eq h]
    extract_lets u
    have hu : HostKept s u := hheld _
    clear_value u
    have hloss : EndKept u ((u.cmdsOf t).foldl (fun s c => s.lossOutcome c.1 c.2) u) :=
      endKept_foldl (fun s (c : Nat × Cmd) => endKept_lossOutcome s c.1 c.2) _ u
    exact endKept_trans (endKept_trans (endKept_of_host hu) hloss) (endKept_of_host (hostKept_freeCheck _ t))
  · have hsame : s.sessionError t = s := if_neg h
    rw [hsame]
    exact endKept_refl s

theorem endKept_pathLost : EndKept s (s.pathLost t) := by
  unfold State.pathLost
  exact endKept_ite (fun _ => endKept_ite (fun _ => endKept_of_host (hostKept_migrate s t)) fun _ => endKept_sessionError s t) fun _ =>
    endKept_of_host (hostKept_abandon s t)

theorem endKept_portsOff : EndKept s s.portsOff := by
  unfold State.portsOff
  refine endKept_trans (endKept_trans (endKept_of_host (hostKept_trans (hostKept_trans (hostKept_foldl (fun s p => ?_) _ s)
    (hostKept_dropHeld _ 0)) (hostKept_dropHeld _ 1))) (endKept_foldl (fun s i => endKept_pathLost s i) _ _))
    (endKept_of_host (hostKept_of_still (still_evcLevel _ 5)))
  exact hostKept_modPort s p _

end End

end Sys2Proof.Machine
end

section
/-! SUPPORT. Umbra and the eclipse save: what a save that begins or ends changes, and the power controller's record of it (R528, R534-R540). -/

namespace Sys2Proof.Machine

open Sys2Proof

-- One declaration at a time: proofs elaborated side by side hold a stack each, and the check bounds their sum.
set_option Elab.async false

/-! ## The figures of D_max -/

/-- The power controller besides the figures of D_max and the moment of the quiet clock. -/
def calmPwr (p : Pwr) : Pwr := { p with dmax := 0, tSave := 0, quietSince := none }

/-- The placement besides the hold of admissions. -/
def calmPlc (p : Plc) : Plc := { p with hold := false }

/-- Of the power controller and the placement nothing changes but D_max, its figures and its hold. -/
structure DmaxKept (s t : State) : Prop where
  pwr : calmPwr t.pwr = calmPwr s.pwr
  plc : calmPlc t.plc = calmPlc s.plc

theorem dmaxKept_refl (s : State) : DmaxKept s s := ⟨rfl, rfl⟩

theorem dmaxKept_trans {s t u : State} (h : DmaxKept s t) (k : DmaxKept t u) : DmaxKept s u := ⟨k.pwr.trans h.pwr, k.plc.trans h.plc⟩

theorem dmaxKept_of_only {ps : List Part} {s t : State} (h : Only ps s t) (hpwr : Part.pwr ∉ ps := by decide)
    (hplc : Part.plc ∉ ps := by decide) : DmaxKept s t :=
  ⟨pwr_of_only calmPwr h hpwr, congrArg calmPlc (h .plc hplc)⟩

theorem dmaxKept_recomputeDmax (s : State) : DmaxKept s s.recomputeDmax := by
  refine ⟨pwr_recomputeDmax calmPwr s, ?_⟩
  obtain ⟨d, τ, h, hstill⟩ := recomputeDmax_shape s
  have hplc : s.recomputeDmax.plc = { s.plc with hold := h } := still_plc hstill
  rw [hplc]
  rfl

theorem dmaxKept_retract (s : State) (a : Nat) : DmaxKept s (s.retract a) := by
  have hact (u : State) (f : Act → Act) : DmaxKept u (u.modAct a f) := dmaxKept_of_only (only_modAct u a f)
  have hramp : DmaxKept s (s.toRamp a .retract) :=
    dmaxKept_trans (dmaxKept_trans (dmaxKept_of_only (only_deselectAll s a)) (hact _ _)) (dmaxKept_recomputeDmax _)
  have hlevel (u : State) : DmaxKept u (u.evcLevel 4) := dmaxKept_of_only (only_evcLevel u 4)
  unfold State.retract
  dsimp only
  split
  · exact dmaxKept_refl s
  · exact dmaxKept_trans hramp (hlevel _)

theorem dmaxKept_retractAll (s : State) : DmaxKept s s.retractAll := by
  have key : ∀ (l : List Nat) (s : State), DmaxKept s (l.foldl (fun s a => s.retract a) s) := by
    intro l
    induction l with
    | nil => exact dmaxKept_refl
    | cons a l ih => exact fun s => dmaxKept_trans (dmaxKept_retract s a) (ih _)
  exact key _ s

/-! ## What a save in progress keeps -/

/-- What is fixed of a save when it begins (R534). -/
def saveKey (v : Save) : Save := { v with streams := [], rings := [], steps := [], shares := [], posted := [] }

/-- The power controller besides D_max and the progress of a save. -/
def savePwr (p : Pwr) : Pwr := { calmPwr p with save := p.save.map saveKey }

/-- What the beginning of a save leaves: what the save is of, the ladders and the trailing verifies. -/
structure SaveRun (s t : State) : Prop where
  only : Only [.regs, .flt, .plc, .sce, .chn, .wrp, .seq, .pwr, .srm] s t
  pwr : savePwr t.pwr = savePwr s.pwr
  ladders : t.chn.ladders = s.chn.ladders
  verifies : t.wrp.verifies = s.wrp.verifies

theorem saveRun_trans {s t u : State} (h : SaveRun s t) (k : SaveRun t u) : SaveRun s u :=
  ⟨only_trans h.only k.only, k.pwr.trans h.pwr, k.ladders.trans h.ladders, k.verifies.trans h.verifies⟩

theorem saveRun_refl (s : State) : SaveRun s s := ⟨only_refl _ s, rfl, rfl, rfl⟩

theorem saveRun_ite {p : Prop} [Decidable p] {s t u : State} (h : p → SaveRun s t) (k : ¬p → SaveRun s u) :
    SaveRun s (if p then t else u) := by
  split
  · exact h ‹_›
  · exact k ‹_›

/-- A fold whose steps keep a save where no trailing verify waits. -/
theorem saveRun_foldl_quiet {β : Type} {f : State → β → State} (h : ∀ s b, s.wrp.verifies = [] → SaveRun s (f s b)) (l : List β) (s : State)
    (hs : s.wrp.verifies = []) : SaveRun s (l.foldl f s) := by
  induction l generalizing s with
  | nil => exact saveRun_refl s
  | cons b l ih => exact saveRun_trans (h s b hs) (ih _ ((h s b hs).verifies.trans hs))

theorem saveRun_foldl {β : Type} {f : State → β → State} (h : ∀ s b, SaveRun s (f s b)) (l : List β) (s : State) :
    SaveRun s (l.foldl f s) := by
  induction l generalizing s with
  | nil => exact saveRun_refl s
  | cons b l ih => exact saveRun_trans (h s b) (ih _)

/-- A change of parts that a save does not look at. -/
theorem saveRun_of_only {ps : List Part} {s t : State} (h : Only ps s t)
    (hs : ∀ p ∈ ps, p ∈ [Part.regs, .flt, .plc, .sce, .seq, .srm] := by decide) : SaveRun s t := by
  have hout (p : Part) (hp : p ∉ [Part.regs, .flt, .plc, .sce, .seq, .srm]) : p ∉ ps := fun hmem => hp (hs p hmem)
  refine ⟨only_mono h fun p hp => ?_, pwr_of_only savePwr h (hout _ (by decide)), ?_, ?_⟩
  · exact (by decide : ∀ p ∈ [Part.regs, .flt, .plc, .sce, .seq, .srm], p ∈ [Part.regs, .flt, .plc, .sce, .chn, .wrp, .seq, .pwr, .srm]) p (hs p hp)
  · exact congrArg Chn.ladders (h .chn (hout _ (by decide)))
  · exact congrArg Wrp.verifies (h .wrp (hout _ (by decide)))

theorem saveRun_setChn (s : State) {x : Chn} (h : x.ladders = s.chn.ladders) : SaveRun s { s with chn := x } :=
  ⟨only_mono (only_setChn s x) (by decide), rfl, h, rfl⟩

theorem saveRun_setWrp (s : State) {x : Wrp} (h : x.verifies = s.wrp.verifies) : SaveRun s { s with wrp := x } :=
  ⟨only_mono (only_setWrp s x) (by decide), rfl, rfl, h⟩

section Run
variable (s : State)

theorem saveRun_emit (o : Out) : SaveRun s (s.emit o) := saveRun_of_only (only_emit s o)
theorem saveRun_modStream (i : Nat) (f : Stream → Stream) : SaveRun s (s.modStream i f) := saveRun_setChn s rfl
theorem saveRun_setSlot (st n : Nat) (v : SlotState) : SaveRun s (s.setSlot st n v) := saveRun_setChn s rfl
theorem saveRun_modHead (h : Nat) (f : LinkHead → LinkHead) : SaveRun s (s.modHead h f) := saveRun_setWrp s rfl
theorem saveRun_modLink (a : Nat) (f : Link → Link) : SaveRun s (s.modLink a f) := saveRun_setWrp s rfl
theorem saveRun_setRv (r : Reg) (v : Word) : SaveRun s (s.setRv r v) := saveRun_of_only (only_setRv s r v)
theorem saveRun_modSeq (q : Nat) (f : Seq → Seq) : SaveRun s (s.modSeq q f) := saveRun_of_only (only_modSeq s q f)
theorem saveRun_postItem (q : Nat) (w : WorkItem) : SaveRun s (s.postItem q w) := saveRun_of_only (only_postItem s q w)

theorem saveRun_setPayload (st n : Nat) (v : BitVec 33792) : SaveRun s (s.setPayload st n v) := by
  refine ⟨?_, rfl, rfl, rfl⟩
  simp [State.setPayload, only_iff, State.sess]

theorem saveRun_modSave {f : Save → Save} (hf : ∀ v, saveKey (f v) = saveKey v) : SaveRun s (s.modSave f) := by
  refine ⟨only_mono (only_modSave s f) (by decide), ?_, rfl, rfl⟩
  simp only [State.modSave, savePwr, calmPwr, Option.map_map]
  congr 2
  exact funext hf

theorem saveRun_recomputeDmax : SaveRun s s.recomputeDmax :=
  ⟨only_mono (only_recomputeDmax s) (by decide), pwr_recomputeDmax savePwr s, congrArg Chn.ladders (only_recomputeDmax s .chn (by decide)),
    congrArg Wrp.verifies (only_recomputeDmax s .wrp (by decide))⟩

theorem saveRun_linkPumpN (a n : Nat) : SaveRun s (s.linkPumpN a n) := by
  induction n generalizing s with
  | zero => exact saveRun_refl s
  | succ n ih =>
    unfold State.linkPumpN
    dsimp only
    split
    · exact saveRun_refl s
    · exact saveRun_ite (fun _ => saveRun_refl s) fun _ => saveRun_trans (saveRun_trans (saveRun_modLink s a _) (saveRun_emit _ _)) (ih _)

theorem saveRun_linkSend (a cmd head data : Nat) : SaveRun s (s.linkSend a cmd head data) :=
  saveRun_trans (saveRun_modLink s a _) (saveRun_linkPumpN _ a 8)

theorem saveRun_sweepAbort (h : Nat) : SaveRun s (s.sweepAbort h) := by
  have hsweep (x : Sweep) : SaveRun s { s with wrp := { s.wrp with sweep := x } } := saveRun_setWrp s rfl
  refine saveRun_ite (fun _ => ?_) fun _ => saveRun_refl s
  unfold State.sweepEnd
  exact saveRun_trans (saveRun_trans (hsweep _) (saveRun_modHead _ _ _)) (saveRun_linkSend _ _ _ _ _)

theorem saveRun_writerIdle (st : Nat) : SaveRun s (s.writerIdle st) := by
  unfold State.writerIdle
  exact saveRun_ite (fun _ => saveRun_trans (saveRun_trans (saveRun_emit s _) (saveRun_emit _ _)) (saveRun_modStream _ st _)) fun _ =>
    saveRun_refl s

theorem saveRun_inhibit (st b : Nat) : SaveRun s (s.inhibit st b) := by
  have honly : SaveRun s (s.inhibitOnly st b) :=
    saveRun_trans (saveRun_trans (saveRun_writerIdle s st) (saveRun_modStream _ st _)) (saveRun_of_only (only_causeStream _ st 0))
  unfold State.inhibit
  exact saveRun_ite (fun _ => honly) fun _ => saveRun_trans honly (saveRun_sweepAbort _ _)

theorem saveRun_setOnTrack (st : Nat) (v : Bool) : SaveRun s (s.setOnTrack st v) := by
  have hloop : SaveRun s (s.modLoop st fun l => { l with onTrack := v, regain := 0 }) := saveRun_of_only (only_modLoop s st _)
  unfold State.setOnTrack
  exact saveRun_ite (fun _ => saveRun_trans hloop (saveRun_inhibit _ st 0)) fun _ => hloop

theorem saveRun_supplyStop (v : Bool) : SaveRun s (s.supplyStop v) := by
  have hstop : SaveRun s { s with wrp := { s.wrp with supplyStop := v } } := saveRun_setWrp s rfl
  exact saveRun_ite (fun _ => saveRun_trans hstop (saveRun_foldl (fun s st => saveRun_inhibit s st 5) _ _)) fun _ => hstop

theorem saveRun_modAct (a : Nat) (f : Act → Act) : SaveRun s (s.modAct a f) := saveRun_of_only (only_modAct s a f)

theorem saveRun_modLoops (l : List Nat) (f : HeadLoop → HeadLoop) : SaveRun s (l.foldl (fun s st => s.modLoop st f) s) :=
  saveRun_of_only (only_modLoops s l f)

/-- What both kinds of seek have in common. -/
theorem saveRun_seekBegun (a : Nat) (x y : Act → Act) (l m : List Nat) (f : HeadLoop → HeadLoop) :
    SaveRun s (((m.foldl (fun s st => s.modLoop st f)
      (l.foldl (fun s st => s.setOnTrack st false) (s.modAct a x))).modAct a y).recomputeDmax) :=
  saveRun_trans (saveRun_trans (saveRun_trans (saveRun_trans (saveRun_modAct s a x)
    (saveRun_foldl (fun s st => saveRun_setOnTrack s st false) l _)) (saveRun_modLoops _ m f)) (saveRun_modAct _ a y)) (saveRun_recomputeDmax _)

theorem saveRun_go (a : Nat) (quiet : Bool) : SaveRun s (s.go a quiet) := by
  unfold State.go
  split
  · exact saveRun_refl s
  · unfold State.goTo
    refine saveRun_ite (fun _ => saveRun_seekBegun s a _ _ _ _ _) fun _ => ?_
    generalize State.planSeek _ _ _ _ _ = p
    obtain ⟨tr, peak⟩ := p
    exact saveRun_seekBegun s a _ _ _ _ _

theorem saveRun_closeGates (st : Nat) (rd wr : Bool) : SaveRun s (s.closeGates st rd wr) := by
  have hidle : SaveRun s (if wr then s.writerIdle st else s) := saveRun_ite (fun _ => saveRun_writerIdle s st) fun _ => saveRun_refl s
  unfold State.closeGates
  exact saveRun_trans hidle (saveRun_modStream _ st _)

theorem saveRun_retire (q count result : Nat) : SaveRun s (s.retire q count result) := by
  unfold State.retire
  dsimp only
  split
  · exact saveRun_refl s
  · exact saveRun_trans (saveRun_trans (saveRun_modSeq s q _) (saveRun_modStream _ _ _)) (saveRun_of_only (only_setSeq _ _))

theorem saveRun_force (q vec : Nat) : SaveRun s (s.force q vec) := by
  unfold State.force
  refine saveRun_ite (fun _ => saveRun_refl s) fun _ => ?_
  exact saveRun_trans (saveRun_trans (saveRun_trans (saveRun_trans (saveRun_of_only (only_reportCauses s q _)) (saveRun_closeGates _ _ true true))
    (saveRun_modStream _ _ _)) (saveRun_foldl (fun s _ => saveRun_retire s q 0 2) _ _)) (saveRun_modSeq _ q _)

/-! ## The steps of a save -/

theorem saveRun_eclPost (st n : Nat) : SaveRun s (s.eclPost st n) := by
  unfold State.eclPost
  split
  · dsimp only
    split
    · exact saveRun_refl s
    · refine saveRun_ite (fun _ => saveRun_refl s) fun _ => ?_
      refine saveRun_trans (saveRun_trans (saveRun_modSave s (by exact fun _ => rfl)) (saveRun_foldl (fun s e => ?_) _ _)) (saveRun_postItem _ _ _)
      exact saveRun_trans (saveRun_setSlot s _ _ _) (saveRun_setPayload _ _ _ _)
  · exact saveRun_refl s

theorem saveRun_eclNext (a : Nat) : SaveRun s (s.eclNext a) := by
  unfold State.eclNext
  split
  · exact saveRun_refl s
  · dsimp only
    refine saveRun_trans (saveRun_trans (saveRun_trans (saveRun_trans (saveRun_foldl (fun s st => ?_) _ s) (saveRun_foldl (fun s st => ?_) _ _))
      (saveRun_go _ a false)) (saveRun_modSave _ (by exact fun _ => rfl))) (saveRun_foldl (fun s st => saveRun_eclPost s st _) _ _)
    · exact saveRun_ite (fun _ => saveRun_refl s) fun _ => saveRun_setRv s _ _
    · split
      · exact saveRun_setRv s _ _
      · exact saveRun_refl s

/-- No trailing verify waits, so none is read. -/
theorem eclVerify_quiet {s : State} (a : Nat) (h : s.wrp.verifies = []) : s.eclVerify a = s := by
  unfold State.eclVerify
  split
  · rfl
  · simp only [h, List.find?_nil]

theorem saveRun_saveStep (hs : s.wrp.verifies = []) : SaveRun s s.saveStep := by
  unfold State.saveStep
  split
  · exact saveRun_refl s
  · refine saveRun_ite (fun _ => saveRun_refl s) fun _ => ?_
    refine saveRun_trans (saveRun_modSave s (by exact fun _ => rfl)) (saveRun_foldl_quiet (fun s a hquiet => ?_) _ _ hs)
    dsimp only
    split
    · exact saveRun_refl s
    · refine saveRun_ite (fun _ => saveRun_refl s) fun _ => ?_
      have hend (r : State) (hr : SaveRun s r) (c : Prop) [Decidable c] : SaveRun s (if c then r.eclVerify a else r.eclNext a) :=
        saveRun_ite (fun _ => by rw [eclVerify_quiet a (hr.verifies.trans hquiet)]; exact hr) fun _ => saveRun_trans hr (saveRun_eclNext r a)
      refine hend _ (saveRun_ite (fun _ => saveRun_refl s) fun _ => ?_) _
      split
      · exact saveRun_modSave s fun _ => rfl
      · exact saveRun_refl s

theorem saveRun_saveBegin (hs : s.wrp.verifies = []) : SaveRun s s.saveBegin := by
  unfold State.saveBegin
  split
  · exact saveRun_refl s
  · rename_i v _
    dsimp only
    have hbegun : SaveRun s (((List.range 16).foldl (fun (u : State) q =>
        u.force q (u.vector (if s.saveStreams.contains (u.seqr q).stream then 3 else 0))) s).modSave fun v => { v with
      streams := s.saveStreams, shares := dealShares (actsOf s.saveStreams) ((saveSectors v.blocks v.deltas).map fun e => (e, none)), posted := [] }) :=
      saveRun_trans (saveRun_foldl (fun s q => saveRun_force s q _) _ s) (saveRun_modSave _ (by exact fun _ => rfl))
    exact saveRun_ite (fun _ => hbegun) fun _ => saveRun_trans hbegun (saveRun_saveStep _ (hbegun.verifies.trans hs))

end Run

/-! ## Umbra -/

/-- The save that umbra fixes (R534). -/
def State.fixedSave (s : State) : Save :=
  { pair := s.pair, gen := s.plc.genNo + 1, blocks := s.unplaced, deltas := avals (afilter s.plc.journal fun _ r => !r.onMedia),
    area := s.saveArea, streams := [], rings := [], steps := [], shares := [], posted := [], spots := [], ended := false, outcome := 0 }

/-- The state in which umbra is declared, its save fixed, and reservations, media reads and ladders given up (Table 15.8 steps 1 and 2). -/
def State.umbraFixed (s : State) : State :=
  let s := { s.stamped with pwr := { s.pwr with umbra := true, stageChanged := s.now, save := some s.fixedSave } }
  let s := { s with eqt := { s.eqt with cmds := amapv s.eqt.cmds fun _ c => { c with resv := none } }, plc := { s.plc with resvQueue := [] } }
  { s with
    orb := { s.orb with pieces := [], turns := amapv s.orb.turns fun _ t => { t with busy := false, served := [] } }
    chn := { s.chn with ladders := [], deepQueue := [], deepBusy := [] } }

/-- The trailing verifies are given up. -/
def State.verifiesDropped (s : State) : State := { s with wrp := { s.wrp with verifies := [] } }

theorem umbraBegin_eq {s : State} (hpoint : s.pwr.point = 0) (hact : s.eqt.activation = none) : s.umbraBegin =
    (((s.umbraFixed.dropRows.portsOff.spnCoast.verifiesDropped).supplyStop true).saveBegin).recomputeDmax := by
  have hsaves : (s.pwr.point == 0 || s.pwr.point == 0x10) = true := by rw [hpoint]; rfl
  have hcut : s.stamped.activationCut = s.stamped := by
    have hnone : s.stamped.eqt.activation = none := hact
    rw [State.activationCut, hnone]
  unfold State.umbraBegin
  rw [hsaves, hcut]
  simp only [if_true, Bool.not_true]
  rfl

theorem spnCoast_eq (s : State) : ∃ g l, Still { s with spn := waitSpn { s.spn with
    state := .coast, since := s.now, command := 0, gates := g, gateFree := l, retryDue := none } } s.spnCoast := by
  obtain ⟨g, l, h⟩ := spnEnter_shape s .coast
  refine ⟨g, l, ?_⟩
  unfold State.spnCoast
  rw [h]
  exact still_tlWait _

theorem state_waitSpn (x : Spn) : (waitSpn x).state = x.state := by
  obtain ⟨st, a, b, c, h⟩ := waitSpn_shape x
  rw [h]

/-- What the beginning of umbra leaves in Run. -/
structure UmbraBegun (s t : State) : Prop where
  pwr : savePwr t.pwr = savePwr { s.pwr with umbra := true, stageChanged := s.now, save := some s.fixedSave }
  activation : t.eqt.activation = none
  pieces : t.orb.pieces = []
  ladders : t.chn.ladders = []
  coast : t.spn.state = .coast
  only : Only [.regs, .flt, .eqt, .plc, .orb, .sce, .spn, .chn, .wrp, .seq, .pwr, .srm] s t

theorem only_umbraFixed (s : State) : Only [.pwr, .eqt, .plc, .orb, .chn] s s.umbraFixed := by
  simp [State.umbraFixed, State.stamped, only_iff]

theorem umbraBegun {s : State} (hpoint : s.pwr.point = 0) (hact : s.eqt.activation = none) : UmbraBegun s s.umbraBegin := by
  rw [umbraBegin_eq hpoint hact]
  have hfixed := only_umbraFixed s
  have hpwr : s.umbraFixed.pwr = { s.pwr with umbra := true, stageChanged := s.now, save := some s.fixedSave } := rfl
  have hactivation : s.umbraFixed.eqt.activation = none := hact
  have hpieces : s.umbraFixed.orb.pieces = [] := rfl
  have hladders : s.umbraFixed.chn.ladders = [] := rfl
  generalize s.umbraFixed = a at *
  have hrows := only_dropRows a
  have hrowLadders := ladders_dropRows a
  generalize a.dropRows = b at hrows hrowLadders ⊢
  have hports := endKept_portsOff b
  generalize b.portsOff = c at hports ⊢
  obtain ⟨g, l, hcoast⟩ := spnCoast_eq c
  have hstate : c.spnCoast.spn.state = .coast := by
    rw [still_spn hcoast]
    exact state_waitSpn _
  have hspn : Only [.spn] c c.spnCoast := only_still (only_setSpn c _) hcoast
  generalize c.spnCoast = d at hspn hstate ⊢
  have hdropped : Only [.wrp] d d.verifiesDropped := only_setWrp d _
  have hquiet : d.verifiesDropped.wrp.verifies = [] := rfl
  generalize d.verifiesDropped = e at hdropped hquiet ⊢
  have hstop := saveRun_supplyStop e true
  have hrun : SaveRun e (((e.supplyStop true).saveBegin).recomputeDmax) :=
    saveRun_trans (saveRun_trans hstop (saveRun_saveBegin _ (hstop.verifies.trans hquiet))) (saveRun_recomputeDmax _)
  generalize ((e.supplyStop true).saveBegin).recomputeDmax = t at hrun ⊢
  have hbefore : Only [.chn, .plc, .eqt, .orb, .seq, .spn, .wrp] a e :=
    only_step (only_step (only_step (only_mono hrows (by decide)) hports.only) hspn) hdropped
  have hchn : e.chn = b.chn := (hdropped .chn (by decide)).trans ((hspn .chn (by decide)).trans (hports.only .chn (by decide)))
  have hbact : b.eqt.activation = none := (eqt_of_only (fun x => x.activation) hrows (by decide)).trans hactivation
  have hcact : c.eqt.activation = none := hports.activation.trans hbact
  have hbp : b.orb.pieces = [] := (congrArg Orb.pieces (hrows .orb (by decide))).trans hpieces
  have heorb : e.orb = c.orb := (hdropped .orb (by decide)).trans (hspn .orb (by decide))
  constructor
  case pwr => rw [hrun.pwr, pwr_of_only savePwr hbefore (by decide), hpwr]
  case activation =>
    rw [eqt_of_only (fun x => x.activation) hrun.only (by decide), eqt_of_only (fun x => x.activation) hdropped (by decide),
      eqt_of_only (fun x => x.activation) hspn (by decide)]
    exact hcact
  case pieces =>
    rw [show t.orb = e.orb from hrun.only .orb (by decide), heorb]
    exact hports.pieces hbp
  case ladders => rw [hrun.ladders, hchn, hrowLadders, hladders]
  case coast =>
    rw [show t.spn = e.spn from hrun.only .spn (by decide), show e.spn = d.spn from hdropped .spn (by decide)]
    exact hstate
  case only => exact only_step (only_step (only_mono hfixed (by decide)) hbefore) hrun.only

theorem save_map_of_key {α : Type} {p q : Pwr} (h : savePwr p = savePwr q) (g : Save → α) (hg : ∀ v, g (saveKey v) = g v) :
    p.save.map g = q.save.map g := by
  have hkey : p.save.map saveKey = q.save.map saveKey := (congrArg Pwr.save h :)
  have hmap := congrArg (Option.map g) hkey
  rw [Option.map_map, Option.map_map] at hmap
  have hcomp : g ∘ saveKey = g := funext hg
  rwa [hcomp] at hmap

/-- A wake event other than the recovery from a fault changes the change of point and the wake code alone. -/
theorem wakeEvent_shape (s : State) {k : Nat} (hk : k ≠ 7) : ∃ c w, s.wakeEvent k = { s with pwr := { s.pwr with change := c, wake := w } } := by
  have hsame : s = { s with pwr := { s.pwr with change := s.pwr.change, wake := s.pwr.wake } } := rfl
  simp only [State.wakeEvent, if_neg hk]
  split
  · split
    · exact ⟨_, _, rfl⟩
    · exact ⟨_, _, hsame⟩
  · exact ⟨_, _, hsame⟩
  · split
    · exact ⟨_, _, hsame⟩
    · exact ⟨_, _, rfl⟩

/-- A stage told of: its report, and what the wake event leaves of the change of point and the wake code. -/
def State.stageTold (s : State) (k : Nat) (c : Option PointChange) (w : Nat) : State :=
  { s with
    flt := { s.flt with inbox := joinReports s.now { source := 296, kind := k, addr := 0, severity := 0 } s.flt.inbox }
    pwr := { s.pwr with change := c, wake := w } }

/-- A stage and the moment of the change to it. -/
def State.stageSet (s : State) (k : Nat) : State := { s with pwr := { s.pwr with stage := k, stageChanged := s.now } }

/-- A stage is reported (R528). -/
theorem stageTold_shape (s : State) (k : Nat) : ∃ c w, (s.report 296 k 0 0).wakeEvent 4 = s.stageTold k c w := by
  obtain ⟨c, w, h⟩ := wakeEvent_shape (s.report 296 k 0 0) (k := 4) (by decide)
  exact ⟨c, w, h⟩

/-- What follows the entry to a stage: its cause for both privileged sequencers, D_max and event source 1. -/
def State.stageCaused (s : State) : State := (((s.cause 16 12).cause 17 12).recomputeDmax).evcLevel 1

theorem only_stageCaused (s : State) : Only [.seq, .plc, .pwr] s s.stageCaused :=
  only_step (only_step (only_mono (only_trans (only_cause s 16 12) (only_cause _ 17 12)) (by decide)) (only_recomputeDmax _)) (only_evcLevel _ 1)

theorem dmaxKept_stageCaused (s : State) : DmaxKept s s.stageCaused :=
  dmaxKept_trans (dmaxKept_trans (dmaxKept_of_only (only_trans (only_cause s 16 12) (only_cause _ 17 12))) (dmaxKept_recomputeDmax _))
    (dmaxKept_of_only (only_evcLevel _ 1))

theorem savePwr_of_calm {p q : Pwr} (h : calmPwr p = calmPwr q) : savePwr p = savePwr q := by
  have hsave : p.save = q.save := (congrArg Pwr.save h :)
  simp only [savePwr, h, hsave]

theorem enterStage_umbra (s : State) : s.enterStage 4 = (((s.report 296 4 0 0).wakeEvent 4).umbraBegin).stageCaused := by
  unfold State.enterStage
  generalize (s.report 296 4 0 0).wakeEvent 4 = u
  dsimp only
  rw [if_pos rfl]
  rfl

theorem enterStage_penumbra (s : State) {k : Nat} (hk : k ≠ 4) {u : State} (hu : (s.report 296 k 0 0).wakeEvent 4 = u) :
    s.enterStage k = ((u.stageSet k).shed k).stageCaused := by
  unfold State.enterStage
  rw [hu]
  dsimp only
  rw [if_neg hk]
  rfl

/-- From PN3 umbra is the one stage left to enter (R528). -/
theorem declareUmbra_last {s : State} (humbra : s.pwr.umbra = false) (hstage : s.pwr.stage = 3) : s.declareUmbra = s.enterStage 4 := by
  have hlast : ([1, 2, 3, 4].filter fun k => decide (s.pwr.stage < k)) = [4] := by
    rw [hstage]
    rfl
  rw [State.declareUmbra, if_neg (by simp [humbra]), hlast, List.foldl_cons, List.foldl_nil]

/-- PWRGOOD is low. -/
def State.pwrgoodLow (s : State) : State := { s with pwr := { s.pwr with pwrgood := false } }

/-- The fall of PWRGOOD in PN3 declares umbra at once (R528). -/
theorem pwrgoodFall_eq {s : State} (hruns : s.running = true) (hpoint : s.pwr.point = 0) (humbra : s.pwr.umbra = false)
    (hstage : s.pwr.stage = 3) :
    s.pwrgoodFall = (((s.pwrgoodLow.report 296 4 0 0).wakeEvent 4).umbraBegin).stageCaused := by
  have hpt : s.pwrgoodLow.pwr.point ≠ 0x45 := by
    rw [show s.pwrgoodLow.pwr.point = s.pwr.point from rfl, hpoint]
    decide
  have hon : s.pwrgoodLow.running = true ∧ s.pwrgoodLow.pwr.point ≠ 0x45 := ⟨hruns, hpt⟩
  have hfall : s.pwrgoodFall = s.pwrgoodLow.declareUmbra := if_pos hon
  rw [hfall, declareUmbra_last (s := s.pwrgoodLow) humbra hstage, enterStage_umbra]

/-! ## The end of a save -/

/-- SQP0 stops the writing of a save: its sequencers return to STREAM_ENTRY (R538). -/
def State.savingStopped (s : State) (v : Save) : State :=
  v.streams.foldl (fun s st => match s.seqOf st with
    | some q => s.force q (s.vector 0)
    | none => s) s

theorem only_savingStopped (s : State) (v : Save) : Only [.flt, .chn, .seq] s (s.savingStopped v) := by
  refine only_foldl (fun s st => ?_) _ s
  split
  · exact only_force s _ _
  · exact only_refl _ s

/-- The save recorded with its outcome, and its generation (R538). -/
def State.saveClosed (s : State) (v : Save) (k : Nat) : State :=
  { s with
    wrp := { s.wrp with verifies := afilter s.wrp.verifies fun _ e => e.ecl.isEmpty }
    pwr := { s.pwr with
      save := some { v with ended := true, outcome := k, shares := [], posted := [] },
      lastSave := { gen := v.gen, pair := v.pair, manifest := spotCount v isManifest, eclipse := spotCount v isEclBlock,
                    delta := spotCount v isDelta, outcome := k } }
    plc := { s.plc with
      generations := aput s.plc.generations v.area { pair := v.pair, gen := v.gen, blocks := v.blocks, deltas := v.deltas, spots := v.spots },
      genNo := v.gen } }

theorem only_saveClosed (s : State) (v : Save) (k : Nat) : Only [.wrp, .pwr, .plc] s (s.saveClosed v k) := by
  simp [State.saveClosed, only_iff, State.sess]

theorem umbraCheck_held {s : State} (h : s.pwr.resetPending = true) : s.umbraCheck = s := if_neg (by simp [h])

/-- A save of some block that ends while a reset is pending, with its outcome: nothing ends umbra, and the actuators retract (R538, R539). -/
theorem eclipseSaveEnd_eq {s : State} {v : Save} (hsave : s.pwr.save = some v) (hgoes : v.ended = false)
    (hends : s.saveWhole v = true ∨ (s.spn.speed : Rat) / 16 ≤ sMin s.sec.pers) (hblocks : v.blocks ≠ [])
    (humbra : s.pwr.umbra = true) (hreset : s.pwr.resetPending = true) :
    s.eclipseSaveEnd = ((s.savingStopped v).saveClosed v (if s.saveWhole v then 1 else 2)).retractAll := by
  have hstopped := only_savingStopped s v
  have hu : (s.savingStopped v).pwr.umbra = true := (pwr_of_only (fun p => p.umbra) hstopped (by decide)).trans humbra
  have hr : (s.savingStopped v).pwr.resetPending = true := (pwr_of_only (fun p => p.resetPending) hstopped (by decide)).trans hreset
  have hnot : ¬(v.ended = true ∨ (!s.saveWhole v) = true ∧ (!decide ((s.spn.speed : Rat) / 16 ≤ sMin s.sec.pers)) = true) := by
    rcases hends with h | h
    · simp [hgoes, h]
    · simp [hgoes, h]
  have hsome : ¬(v.blocks = [] ∧ v.deltas = []) := fun h => hblocks h.1
  unfold State.eclipseSaveEnd
  simp only [hsave]
  rw [if_neg hnot, if_neg hsome]
  change (if (((s.savingStopped v).saveClosed v (if s.saveWhole v then 1 else 2)).umbraCheck).pwr.umbra = true then
    (((s.savingStopped v).saveClosed v (if s.saveWhole v then 1 else 2)).umbraCheck).retractAll else
      ((s.savingStopped v).saveClosed v (if s.saveWhole v then 1 else 2)).umbraCheck) = _
  have hheld : ((s.savingStopped v).saveClosed v (if s.saveWhole v then 1 else 2)).umbraCheck =
    (s.savingStopped v).saveClosed v (if s.saveWhole v then 1 else 2) := umbraCheck_held hr
  rw [hheld]
  exact if_pos hu

/-- What a save that has ended leaves. -/
structure SaveEnded (s : State) (v : Save) (k : Nat) (t : State) : Prop where
  last : t.pwr.lastSave = { gen := v.gen, pair := v.pair, manifest := spotCount v isManifest, eclipse := spotCount v isEclBlock,
                            delta := spotCount v isDelta, outcome := k }
  save : t.pwr.save = some { v with ended := true, outcome := k, shares := [], posted := [] }
  umbra : t.pwr.umbra = true
  genNo : t.plc.genNo = v.gen
  area : aget t.plc.generations v.area = some { pair := v.pair, gen := v.gen, blocks := v.blocks, deltas := v.deltas, spots := v.spots }
  others : ∀ k, k ≠ v.area → aget t.plc.generations k = aget s.plc.generations k
  only : Only [.regs, .flt, .plc, .sce, .chn, .wrp, .seq, .pwr] s t

theorem saveEnded {s t : State} {v : Save} (k : Nat) (humbra : s.pwr.umbra = true)
    (ht : Only [] ((s.savingStopped v).saveClosed v k).retractAll t) : SaveEnded s v k t := by
  have hstopped := only_savingStopped s v
  have hu : (s.savingStopped v).pwr.umbra = true := (pwr_of_only (fun p => p.umbra) hstopped (by decide)).trans humbra
  have hplc : (s.savingStopped v).plc = s.plc := hstopped .plc (by decide)
  have hclosed := only_saveClosed (s.savingStopped v) v k
  have hkept := dmaxKept_trans (dmaxKept_retractAll ((s.savingStopped v).saveClosed v k)) (dmaxKept_of_only ht)
  have hgens : t.plc.generations = aput s.plc.generations v.area
      { pair := v.pair, gen := v.gen, blocks := v.blocks, deltas := v.deltas, spots := v.spots } := by
    refine (congrArg Plc.generations hkept.plc :).trans ?_
    show aput (s.savingStopped v).plc.generations v.area _ = _
    rw [hplc]
  constructor
  case last => exact (congrArg Pwr.lastSave hkept.pwr :)
  case save => exact (congrArg Pwr.save hkept.pwr :)
  case umbra => exact (congrArg Pwr.umbra hkept.pwr :).trans hu
  case genNo => exact (congrArg Plc.genNo hkept.plc :)
  case area => rw [hgens, aget_aput_same]
  case others =>
    intro j hj
    rw [hgens, aget_aput_other _ _ hj]
  case only => exact only_step (only_step (only_step (only_mono hstopped (by decide)) hclosed) (only_retractAll _)) ht

/-! ## Samples of the supply -/

/-- The moment since which a condition has held is known exactly while it holds. -/
theorem isSome_heldSince (l : List Nat) (m : Assoc Nat) (now : Nat) (c : Nat → Bool) {k : Nat} (h : k ∈ l ∨ (aget m k).isSome = c k) :
    (aget (l.foldl (fun m j => heldSince m j now (c j)) m) k).isSome = c k := by
  induction l generalizing m with
  | nil => exact h.resolve_left List.not_mem_nil
  | cons j l ih =>
    refine ih _ ?_
    by_cases hk : k = j
    · subst hk
      refine .inr ?_
      unfold heldSince
      dsimp only
      split
      · rename_i hc
        split
        · rename_i hsome
          rw [hsome, hc]
        · rw [aget_aput_same, hc]
          rfl
      · rename_i hc
        rw [aget_adel_same]
        simpa using hc
    · refine h.imp (fun h => (List.mem_cons.mp h).resolve_left hk) fun h => ?_
      unfold heldSince
      dsimp only
      split
      · split
        · exact h
        · rw [aget_aput_other _ _ hk, h]
      · rw [aget_adel_other _ hk, h]

/-! ## Stages -/

/-- Where no sweep runs, PN1 sheds nothing. -/
theorem shed_one {s : State} (h : s.wrp.sweep.busy = false) : s.shed 1 = s := by
  unfold State.shed
  split
  · rfl
  · exact if_neg (by simp [h])

/-- A stage that has been entered: its report, its code and the moment of the change. -/
structure StageEntered (s : State) (k : Nat) (t : State) : Prop where
  stage : t.pwr.stage = k
  umbra : t.pwr.umbra = s.pwr.umbra
  changed : t.pwr.stageChanged = s.now
  inbox : t.flt.inbox = joinReports s.now { source := 296, kind := k, addr := 0, severity := 0 } s.flt.inbox
  only : Only [.flt, .pwr, .plc, .seq] s t

theorem stageEntered_one {s : State} (h : s.wrp.sweep.busy = false) : StageEntered s 1 (s.enterStage 1) := by
  obtain ⟨c, w, hu⟩ := stageTold_shape s 1
  have htold : Only [.flt, .pwr, .plc, .seq] s ((s.stageTold 1 c w).stageSet 1) := by
    simp [State.stageTold, State.stageSet, only_iff, State.sess]
  have hstage : ((s.stageTold 1 c w).stageSet 1).pwr.stage = 1 := rfl
  have humbra : ((s.stageTold 1 c w).stageSet 1).pwr.umbra = s.pwr.umbra := rfl
  have hchanged : ((s.stageTold 1 c w).stageSet 1).pwr.stageChanged = s.now := rfl
  have hflt : ((s.stageTold 1 c w).stageSet 1).flt.inbox =
    joinReports s.now { source := 296, kind := 1, addr := 0, severity := 0 } s.flt.inbox := rfl
  have hbusy : ((s.stageTold 1 c w).stageSet 1).wrp.sweep.busy = false := h
  rw [enterStage_penumbra s (by decide) rfl, hu]
  generalize (s.stageTold 1 c w).stageSet 1 = v at *
  rw [shed_one hbusy]
  have hkept := dmaxKept_stageCaused v
  have hcaused := only_stageCaused v
  generalize v.stageCaused = t at *
  refine ⟨?_, ?_, ?_, ?_, only_step htold hcaused⟩
  · exact (congrArg Pwr.stage hkept.pwr :).trans hstage
  · exact (congrArg Pwr.umbra hkept.pwr :).trans humbra
  · exact (congrArg Pwr.stageChanged hkept.pwr :).trans hchanged
  · rw [show t.flt = v.flt from hcaused .flt (by decide), hflt]

/-- The last four samples, rounded down to 5 mV (R526). -/
def State.lastSamples (s : State) (mv : Nat) : List Nat := (min mv 15000 / 5 * 5 :: s.pwr.samples).take 4

/-- The level after a sample: the mean of the last four. -/
def State.sampleLevel (s : State) (mv : Nat) : Nat := (s.lastSamples mv).sum / (s.lastSamples mv).length

/-- The state in which a sample has been taken now. -/
def State.sampled (s : State) (mv : Nat) : State :=
  { s with pwr := { s.pwr with
      samples := s.lastSamples mv, level := s.sampleLevel mv, minMv := min s.pwr.minMv (s.sampleLevel mv), sampleDue := s.now + 1000,
      belowAt := [1, 2, 3, 4].foldl (fun m k => heldSince m k s.now (decide (s.sampleLevel mv < s.sagMv k))) s.pwr.belowAt,
      aboveAt := [1, 2, 3, 4].foldl (fun m k => heldSince m k s.now (decide (s.sagMv k + s.hystMv ≤ s.sampleLevel mv))) s.pwr.aboveAt } }

theorem supplySample_eq (s : State) (mv : Nat) : s.supplySample mv = (s.advanceTo s.pwr.sampleDue).sampled mv := rfl

theorem only_sampled (s : State) (mv : Nat) : Only [.pwr] s (s.sampled mv) := only_setPwr s _

theorem sampled_held (s : State) (mv : Nat) {k : Nat} (h : k ∈ [1, 2, 3, 4]) :
    (aget (s.sampled mv).pwr.belowAt k).isSome = decide (s.sampleLevel mv < s.sagMv k) ∧
    (aget (s.sampled mv).pwr.aboveAt k).isSome = decide (s.sagMv k + s.hystMv ≤ s.sampleLevel mv) :=
  ⟨isSome_heldSince _ _ s.now (fun k => decide (s.sampleLevel mv < s.sagMv k)) (.inl h),
    isSome_heldSince _ _ s.now (fun k => decide (s.sagMv k + s.hystMv ≤ s.sampleLevel mv)) (.inl h)⟩

theorem sagMv_of_regs {s t : State} (h : t.regs = s.regs) (k : Nat) : t.sagMv k = s.sagMv k := by
  simp only [State.sagMv, State.rv, h]

theorem hystMv_of_regs {s t : State} (h : t.regs = s.regs) : t.hystMv = s.hystMv := by
  simp only [State.hystMv, State.rv, h]

theorem fixedSave_stageTold (s : State) (k : Nat) (c : Option PointChange) (w : Nat) : (s.pwrgoodLow.stageTold k c w).fixedSave = s.fixedSave := rfl

theorem only_stageTold (s : State) (k : Nat) (c : Option PointChange) (w : Nat) : Only [.flt, .pwr] s (s.pwrgoodLow.stageTold k c w) := by
  simp [State.stageTold, State.pwrgoodLow, only_iff, State.sess]

theorem stageCode_zero {s : State} (h : s.stageCode = 0) : s.pwr.umbra = false ∧ s.pwr.stage = 0 := by
  unfold State.stageCode at h
  split at h
  · exact absurd h (by decide)
  · rename_i hno
    exact ⟨by simpa using hno, h⟩

/-- PN1 is left (R527): no target waits for it. -/
theorem stageLeave_one {s : State} {m : Nat} (humbra : s.pwr.umbra = false) (hstage : s.pwr.stage = 1) (habove : aget s.pwr.aboveAt 1 = some m)
    (htarget : s.targetRpm = s.spn.target) : s.stageLeave =
      (((s.advanceTo (max m s.pwr.stageChanged + 1000000 * fld (s.rv .pwrSagTim) 15 0)).stageSet 0).recomputeDmax).evcLevel 1 := by
  have hcode : s.stageCode = 1 := by rw [State.stageCode, humbra, hstage]; rfl
  have hlate := only_advanceTo s (max m s.pwr.stageChanged + 1000000 * fld (s.rv .pwrSagTim) 15 0)
  unfold State.stageLeave
  rw [hcode, if_neg (by decide), habove]
  dsimp only
  rw [if_neg (by simp [humbra])]
  generalize s.advanceTo (max m s.pwr.stageChanged + 1000000 * fld (s.rv .pwrSagTim) 15 0) = u at hlate ⊢
  have hu : u.pwr.umbra = false := (pwr_of_only (fun p => p.umbra) hlate (by decide)).trans humbra
  have hs : u.pwr.stage = 1 := (pwr_of_only (fun p => p.stage) hlate (by decide)).trans hstage
  rw [if_neg (by simp [hu]), hs, if_neg (by decide)]
  have hset : ({ u with pwr := { u.pwr with stage := 1 - 1, stageChanged := u.now } } : State) = u.stageSet 0 := rfl
  rw [hset]
  have hrest : Only [.plc, .pwr] (u.stageSet 0) (((u.stageSet 0).recomputeDmax).evcLevel 1) :=
    only_step (only_recomputeDmax _) (only_evcLevel _ 1)
  have hspn : (((u.stageSet 0).recomputeDmax).evcLevel 1).spn = s.spn := (hrest .spn (by decide)).trans (hlate .spn (by decide))
  have hrpm : (((u.stageSet 0).recomputeDmax).evcLevel 1).targetRpm = s.targetRpm :=
    targetRpm_congr ((hrest .regs (by decide)).trans (hlate .regs (by decide))) ((hrest .sec (by decide)).trans (hlate .sec (by decide)))
  rw [State.takeTarget, hrpm, hspn]
  exact if_pos htarget

/-- Settles O59: umbra fixes the save and gives the rest up (`umbraBegun`), a save that ends becomes a generation (`saveEnded`), and samples
lead the stages. -/
theorem supplyLoss : Obligations.SupplyLoss := by
  unfold Obligations.SupplyLoss
  refine ⟨?falls, ?idle, ?whole, ?cut, ?goesOn, ?none, ?deferred, ?pin, ?pinUmbra, ?sample, ?enter, ?leave⟩
  case falls =>
    intro s hready hruns hpoint humbra hstage hact
    refine gives_only (exec_pwrgoodFall s) hready fun t ht => ?_
    rw [pwrgoodFall_eq hruns hpoint humbra hstage] at ht
    obtain ⟨c, w, htold⟩ := stageTold_shape s.pwrgoodLow 4
    have honly := only_stageTold s 4 c w
    obtain ⟨hpwr, hactivation, hpieces, hladders, hcoast, hbegun⟩ := umbraBegun (s := s.pwrgoodLow.stageTold 4 c w) hpoint hact
    rw [fixedSave_stageTold] at hpwr
    rw [htold] at ht
    have hsaved : savePwr t.pwr = savePwr { (s.pwrgoodLow.stageTold 4 c w).pwr with
        umbra := true, stageChanged := (s.pwrgoodLow.stageTold 4 c w).now, save := some s.fixedSave } := by
      rw [pwr_of_only savePwr ht (by decide), savePwr_of_calm (dmaxKept_stageCaused _).pwr, hpwr]
    have hcaused := only_stageCaused (s.pwrgoodLow.stageTold 4 c w).umbraBegin
    have hlow : (s.pwrgoodLow.stageTold 4 c w).pwr.pwrgood = false := rfl
    have hkept : (s.pwrgoodLow.stageTold 4 c w).pwr.stage = s.pwr.stage := rfl
    generalize s.pwrgoodLow.stageTold 4 c w = u at *
    have hrest : Only [.seq, .plc, .pwr] u.umbraBegin t := only_step hcaused ht
    generalize u.umbraBegin = v at *
    refine ⟨(congrArg Pwr.umbra hsaved :), (congrArg Pwr.pwrgood hsaved :).trans hlow, (congrArg Pwr.stage hsaved :).trans (hkept.trans hstage), ?_,
      ?_, ?_, ?_, ?_, ?_, ?_, ?_, ?_⟩
    · exact (eqt_of_only (fun x => x.activation) hrest (by decide)).trans hactivation
    · exact save_map_of_key hsaved (fun v => (v.pair, v.gen, v.blocks, v.deltas)) fun _ => rfl
    · exact save_map_of_key hsaved (fun v => (v.area, v.ended, v.outcome, v.spots)) fun _ => rfl
    · exact (congrArg Orb.pieces (hrest .orb (by decide))).trans hpieces
    · exact (congrArg Chn.ladders (hrest .chn (by decide))).trans hladders
    · exact (congrArg Spn.state (hrest .spn (by decide))).trans hcoast
    · exact (hrest .clock (by decide)).trans ((hbegun .clock (by decide)).trans (honly .clock (by decide)))
    · rw [tim_of_only (fun x => x.tick) hrest (by decide), tim_of_only (fun x => x.tick) hbegun (by decide),
        tim_of_only (fun x => x.tick) honly (by decide)]
    · exact only_step (only_step (only_mono honly (by decide)) hbegun) hrest
  case idle =>
    intro s hready hidle
    refine gives_still (exec_pwrgoodFall s) hready rfl (still_of_eq (if_neg fun h => ?_))
    obtain ⟨hruns, -⟩ := h
    exact absurd (hruns.symm.trans hidle) (by decide)
  case whole =>
    intro s v hready hsave hgoes hwhole hblocks humbra hreset
    refine gives_only (exec_eclipseSaveEnd s) hready fun t ht => ?_
    rw [eclipseSaveEnd_eq hsave hgoes (.inl hwhole) hblocks humbra hreset, hwhole] at ht
    obtain ⟨h1, h2, h3, h4, h5, h6, h7⟩ := saveEnded 1 humbra ht
    exact ⟨h1, h2, h3, h4, h5, h6, h7⟩
  case cut =>
    intro s v hready hsave hgoes hwhole hslow hblocks humbra hreset
    refine gives_only (exec_eclipseSaveEnd s) hready fun t ht => ?_
    rw [eclipseSaveEnd_eq hsave hgoes (.inr hslow) hblocks humbra hreset, hwhole] at ht
    obtain ⟨h1, h2, h3, h4, h5, h6, h7⟩ := saveEnded 2 humbra ht
    exact ⟨h1, h2, h3, h4, h5, h6, h7⟩
  case goesOn =>
    intro s v hready hsave hgoes hwhole hfast
    refine gives_still (exec_eclipseSaveEnd s) hready rfl (still_of_eq ?_)
    unfold State.eclipseSaveEnd
    simp only [hsave]
    exact if_pos (.inr ⟨by simp [hwhole], by simpa using Rat.not_le.mpr hfast⟩)
  case none =>
    intro s hready hsave
    refine gives_still (exec_eclipseSaveEnd s) hready rfl (still_of_eq ?_)
    unfold State.eclipseSaveEnd
    simp only [hsave]
  case deferred =>
    intro s hready humbra
    exact gives_still (exec_warmReset s) hready rfl (still_of_eq (if_pos humbra))
  case pin =>
    intro s hready hidle
    refine gives_still (exec_resetNFall s) hready rfl (still_of_eq (if_neg fun h => ?_))
    obtain ⟨hruns, -⟩ := h
    exact absurd (hruns.symm.trans hidle) (by decide)
  case pinUmbra =>
    intro s hready hruns hpoint hgood humbra
    refine gives_still (exec_resetNFall s) hready rfl (still_of_eq ?_)
    refine (if_pos ⟨hruns, hpoint, hgood⟩).trans ?_
    exact if_pos humbra
  case sample =>
    intro s mv hready
    refine gives_only (exec_supplySample mv s) hready fun t ht => ?_
    have hlate := only_advanceTo s s.pwr.sampleDue
    have hnow := now_advanceTo s s.pwr.sampleDue
    rw [supplySample_eq] at ht
    generalize s.advanceTo s.pwr.sampleDue = u at *
    have hclock : t.now = u.now := ht .clock (by decide)
    have hdue : t.pwr.sampleDue = u.now + 1000 := pwr_of_only (fun p => p.sampleDue) ht (by decide)
    have hlast : t.pwr.samples = u.lastSamples mv := pwr_of_only (fun p => p.samples) ht (by decide)
    have hlevel : t.pwr.level = u.sampleLevel mv := pwr_of_only (fun p => p.level) ht (by decide)
    have hlowest : t.pwr.minMv = min u.pwr.minMv (u.sampleLevel mv) := pwr_of_only (fun p => p.minMv) ht (by decide)
    have hbelow : t.pwr.belowAt = (u.sampled mv).pwr.belowAt := pwr_of_only (fun p => p.belowAt) ht (by decide)
    have habove : t.pwr.aboveAt = (u.sampled mv).pwr.aboveAt := pwr_of_only (fun p => p.aboveAt) ht (by decide)
    have hsamples : u.pwr.samples = s.pwr.samples := pwr_of_only (fun p => p.samples) hlate (by decide)
    have hmin : u.pwr.minMv = s.pwr.minMv := pwr_of_only (fun p => p.minMv) hlate (by decide)
    have hregs : u.regs = s.regs := hlate .regs (by decide)
    refine ⟨hclock.trans hnow, ?_, ?_, ?_, ?_, fun k hlow hhigh => ?_, only_step (only_mono hlate (by decide)) (only_step (only_sampled u mv) ht)⟩
    · rw [hdue, hclock]
    · rw [hlast, State.lastSamples, hsamples]
    · rw [hlevel, hlast, State.sampleLevel]
    · rw [hlowest, hmin, hlevel]
    · have hk : k ∈ [1, 2, 3, 4] := by simp; omega
      obtain ⟨hbelowHeld, haboveHeld⟩ := sampled_held u mv hk
      rw [hbelow, habove, hlevel, ← sagMv_of_regs hregs k, ← hystMv_of_regs hregs, hbelowHeld, haboveHeld]
      exact ⟨decide_eq_true_iff, decide_eq_true_iff⟩
  case enter =>
    intro s m hready hcode hbelow hquiet
    refine gives_only (exec_stageEnter s) hready fun t ht => ?_
    obtain ⟨humbra, hstage⟩ := stageCode_zero hcode
    have heffect : s.stageEnter = (s.advanceTo (m + 1000 * fld (s.rv .pwrSagTim) 23 16)).enterStage 1 := by
      unfold State.stageEnter
      dsimp only
      rw [hcode, if_neg (by decide), hbelow]
    have hlate := only_advanceTo s (m + 1000 * fld (s.rv .pwrSagTim) 23 16)
    have hnow := now_advanceTo s (m + 1000 * fld (s.rv .pwrSagTim) 23 16)
    rw [heffect] at ht
    generalize s.advanceTo (m + 1000 * fld (s.rv .pwrSagTim) 23 16) = u at *
    have hbusy : u.wrp.sweep.busy = false := (congrArg (fun w : Wrp => w.sweep.busy) (hlate .wrp (by decide))).trans hquiet
    obtain ⟨h1, h2, h3, h4, h5⟩ := stageEntered_one hbusy
    have hclock : t.now = u.now := (ht .clock (by decide)).trans (h5 .clock (by decide))
    refine ⟨(pwr_of_only (fun p => p.stage) ht (by decide)).trans h1, ?_, ?_, hclock.trans hnow, ?_, ?_⟩
    · rw [pwr_of_only (fun p => p.umbra) ht (by decide), h2, pwr_of_only (fun p => p.umbra) hlate (by decide), humbra]
    · rw [pwr_of_only (fun p => p.stageChanged) ht (by decide), h3, hclock]
    · rw [show t.flt = (u.enterStage 1).flt from ht .flt (by decide), h4, hclock, show u.flt = s.flt from hlate .flt (by decide)]
    · exact only_step (only_step (only_mono hlate (by decide)) h5) ht
  case leave =>
    intro s m hready humbra hstage habove htarget
    refine gives_only (exec_stageLeave s) hready fun t ht => ?_
    have hlate := only_advanceTo s (max m s.pwr.stageChanged + 1000000 * fld (s.rv .pwrSagTim) 15 0)
    have hnow := now_advanceTo s (max m s.pwr.stageChanged + 1000000 * fld (s.rv .pwrSagTim) 15 0)
    rw [stageLeave_one humbra hstage habove htarget] at ht
    generalize s.advanceTo (max m s.pwr.stageChanged + 1000000 * fld (s.rv .pwrSagTim) 15 0) = u at *
    have hset : Only [.pwr] u (u.stageSet 0) := only_setPwr u _
    have hzero : (u.stageSet 0).pwr.stage = 0 := rfl
    have hchanged : (u.stageSet 0).pwr.stageChanged = u.now := rfl
    generalize u.stageSet 0 = v at *
    have hrest : Only [.plc, .pwr] v t := only_step (only_step (only_recomputeDmax v) (only_evcLevel _ 1)) ht
    have hkept : DmaxKept v t := dmaxKept_trans (dmaxKept_trans (dmaxKept_recomputeDmax v) (dmaxKept_of_only (only_evcLevel _ 1))) (dmaxKept_of_only ht)
    have hclock : t.now = u.now := (hrest .clock (by decide)).trans (hset .clock (by decide))
    refine ⟨?_, ?_, hclock.trans hnow, ?_⟩
    · exact (congrArg Pwr.stage hkept.pwr :).trans hzero
    · exact ((congrArg Pwr.stageChanged hkept.pwr :).trans hchanged).trans hclock.symm
    · exact only_step (only_step (only_mono hlate (by decide)) hset) hrest

end Sys2Proof.Machine
end

section
/-! SUPPORT. What a command goes through: it is handed on, put to work, accepted, and ends (R349, R364, R399). -/

namespace Sys2Proof.Machine

open Sys2Proof

-- One declaration at a time: proofs elaborated side by side hold a stack each, and the check bounds their sum.
set_option Elab.async false

/-! ## Maps of commands -/

theorem mem_amod {α : Type} {m : Assoc α} {k : Nat} {f : α → α} {e : Nat × α} (h : e ∈ amod m k f) : e.1 = k ∨ e ∈ m := by
  unfold amod at h
  split at h
  · exact .inr h
  · exact (mem_aput h).imp_left fun h => congrArg Prod.fst h

/-- An entry that a test keeps is found where the test keeps every entry of its key. -/
theorem aget_afilter_of_kept {α : Type} {m : Assoc α} {k : Nat} {f : Nat → α → Bool} (h : ∀ v, (k, v) ∈ m → f k v = true) :
    aget (afilter m f) k = aget m k := by
  induction m with
  | nil => rfl
  | cons e m ih =>
    obtain ⟨j, w⟩ := e
    have ih := ih fun v hv => h v (List.mem_cons_of_mem _ hv)
    by_cases hj : j = k
    · subst hj
      have hkeep : f j w = true := h w List.mem_cons_self
      simp [afilter, aget, hkeep]
    · unfold afilter at ih ⊢
      rw [List.filter_cons]
      split
      · simp only [aget, if_neg hj, ih]
      · simp only [aget, if_neg hj, ih]

/-- The entry that is found stays found where a test keeps it. -/
theorem aget_afilter_of_found {α : Type} {m : Assoc α} {k : Nat} {v : α} {f : Nat → α → Bool} (h : aget m k = some v) (hv : f k v = true) :
    aget (afilter m f) k = some v := by
  induction m with
  | nil => exact nomatch h
  | cons e m ih =>
    obtain ⟨j, w⟩ := e
    by_cases hj : j = k
    · subst hj
      simp only [aget, if_true] at h
      obtain rfl := Option.some.inj h
      simp [afilter, aget, hv]
    · simp only [aget, if_neg hj] at h
      have ih := ih h
      unfold afilter at ih ⊢
      rw [List.filter_cons]
      split
      · simp only [aget, if_neg hj, ih]
      · exact ih

theorem filter_aput_other {α : Type} (m : Assoc α) (k : Nat) (v : α) :
    (aput m k v).filter (fun e => e.1 != k) = m.filter fun e => e.1 != k := by
  induction m with
  | nil => simp [aput]
  | cons e m ih =>
    obtain ⟨j, w⟩ := e
    simp only [aput]
    split
    · simp
    · split
      · rename_i hk
        simp [hk]
      · rw [List.filter_cons, ih, List.filter_cons]

/-- The entries of other keys stay as they are, in their order. -/
theorem filter_amod_other {α : Type} (m : Assoc α) (k : Nat) (f : α → α) :
    (amod m k f).filter (fun e => e.1 != k) = m.filter fun e => e.1 != k := by
  unfold amod
  split
  · rfl
  · exact filter_aput_other m k _

theorem cmd_modCmd_same (s : State) (k : Nat) (f : Cmd → Cmd) : (s.modCmd k f).cmd? k = (s.cmd? k).map f := aget_amod_same _ k f

theorem cmd_modCmd_other (s : State) {k j : Nat} (f : Cmd → Cmd) (h : j ≠ k) : (s.modCmd k f).cmd? j = s.cmd? j := aget_amod_other _ f h

theorem cmd_of_cmds {s t : State} (h : t.eqt.cmds = s.eqt.cmds) (k : Nat) : t.cmd? k = s.cmd? k := congrArg (aget · k) h

theorem cmds_of_only {ps : List Part} {s t : State} (h : Only ps s t) (hp : Part.eqt ∉ ps) : t.eqt.cmds = s.eqt.cmds :=
  eqt_of_only (fun x => x.cmds) h hp

theorem calm_of_only {ps : List Part} {s t : State} (h : Only ps s t) (hp : Part.eqt ∉ ps) (i : Nat) :
    calmSession (t.sess i) = calmSession (s.sess i) := (h .eqt hp).2 i

/-- A field that calming a session keeps. -/
theorem sess_field {α : Type} {x y : Session} (f : Session → α) (h : calmSession x = calmSession y)
    (hf : ∀ z, f (calmSession z) = f z := by exact fun _ => rfl) : f x = f y := by rw [← hf x, h, hf y]

/-! ## Nothing but commands -/

theorem onlyCommands_refl (s : State) : OnlyCommands s s := ⟨rfl, fun _ => rfl⟩

theorem onlyCommands_trans {s t u : State} (h : OnlyCommands s t) (k : OnlyCommands t u) : OnlyCommands s u := by
  refine ⟨?_, fun i => (k.2 i).trans (h.2 i)⟩
  have hu : ({ u.eqt with sessions := s.eqt.sessions, held := s.eqt.held, cmds := s.eqt.cmds, firstAccepted := s.eqt.firstAccepted } : Eqt) =
      { t.eqt with sessions := s.eqt.sessions, held := s.eqt.held, cmds := s.eqt.cmds, firstAccepted := s.eqt.firstAccepted } :=
    congrArg (fun x : Eqt => { x with
      sessions := s.eqt.sessions, held := s.eqt.held, cmds := s.eqt.cmds, firstAccepted := s.eqt.firstAccepted }) k.1
  exact hu.trans h.1

theorem onlyCommands_of_only {ps : List Part} {s t : State} (h : Only ps s t) (hp : Part.eqt ∉ ps) : OnlyCommands s t := by
  obtain ⟨hfields, hsess⟩ : Part.eqt.same s t := h .eqt hp
  exact ⟨congrArg (fun x : Eqt => { x with cmds := s.eqt.cmds, firstAccepted := s.eqt.firstAccepted }) hfields, hsess⟩

theorem onlyCommands_setCmds (s : State) (l : Assoc Cmd) : OnlyCommands s { s with eqt := { s.eqt with cmds := l } } := ⟨rfl, fun _ => rfl⟩

theorem onlyCommands_modCmd (s : State) (k : Nat) (f : Cmd → Cmd) : OnlyCommands s (s.modCmd k f) := ⟨rfl, fun _ => rfl⟩

theorem onlyCommands_eqt {α : Type} {s t : State} (f : Eqt → α) (h : OnlyCommands s t)
    (hf : ∀ (x : Eqt) (a : Assoc Session) (b : List (Route × Pkt)) (c : Assoc Cmd) (d : Bool),
      f { x with sessions := a, held := b, cmds := c, firstAccepted := d } = f x := by exact fun _ _ _ _ _ => rfl) : f t.eqt = f s.eqt :=
  (hf t.eqt _ _ _ _).symm.trans (congrArg f h.1)

/-- The same replacement of a session in states that differ in their commands alone. -/
theorem onlyCommands_setSess {s t : State} (h : OnlyCommands s t) (i : Nat) {x y : Session} (hx : calmSession y = calmSession x) :
    OnlyCommands (s.setSess i x) (t.setSess i y) := by
  refine ⟨congrArg (fun z : Eqt => { z with sessions := (s.setSess i x).eqt.sessions }) h.1, fun j => ?_⟩
  rw [sess_setSess, sess_setSess]
  split
  · exact hx
  · exact h.2 j

/-- A session with other grants and another quarantine. -/
def regranted (x : Session) (g : List Grant) (q : List Quarantine) : Session := { x with grants := g, quarantine := q }

theorem calm_regranted {x y : Session} (h : calmSession y = calmSession x) (g : List Grant) (q : List Quarantine) :
    calmSession (regranted y g q) = calmSession (regranted x g q) := congrArg (fun z => regranted z g q) h

theorem onlyCommands_quarantine {s t : State} (h : OnlyCommands s t) (hnow : t.now = s.now) (i k : Nat) :
    OnlyCommands (s.quarantine i k) (t.quarantine i k) := by
  have hgrants : (t.sess i).grants = (s.sess i).grants := sess_field Session.grants (h.2 i)
  have hquar : (t.sess i).quarantine = (s.sess i).quarantine := sess_field Session.quarantine (h.2 i)
  unfold State.quarantine
  dsimp only
  rw [hgrants, hquar, hnow]
  split
  · exact h
  · exact onlyCommands_setSess h i (calm_regranted (h.2 i) _ _)

theorem onlyCommands_countStatus {s t : State} (h : OnlyCommands s t) (status : BitVec 16) :
    OnlyCommands (s.countStatus status) (t.countStatus status) := by
  have hsgl : t.eqt.sglBad = s.eqt.sglBad := onlyCommands_eqt (fun x => x.sglBad) h
  have hpush : t.eqt.pushBad = s.eqt.pushBad := onlyCommands_eqt (fun x => x.pushBad) h
  unfold State.countStatus
  rw [hsgl, hpush]
  split
  · exact ⟨congrArg (fun z : Eqt => { z with sglBad := satInc s.eqt.sglBad 255 }) h.1, h.2⟩
  · split
    · exact ⟨congrArg (fun z : Eqt => { z with pushBad := satInc s.eqt.pushBad 255 }) h.1, h.2⟩
    · exact h

/-! ## The media work of a command -/

/-- Two states have the same media queue and sequencers. -/
def MediaSame (s t : State) : Prop := t.orb = s.orb ∧ t.seq = s.seq

theorem seqr_of_media {s t : State} (h : MediaSame s t) (q : Nat) : t.seqr q = s.seqr q := by simp only [State.seqr, h.2]

theorem turn_of_media {s t : State} (h : MediaSame s t) (a : Nat) : t.turn a = s.turn a := by simp only [State.turn, h.1]

theorem mediaSame_setSeq {s t : State} (h : MediaSame s t) (x : Seqs) : MediaSame { s with seq := x } { t with seq := x } := ⟨h.1, rfl⟩

theorem mediaSame_setOrb {s t : State} (h : MediaSame s t) (x : Orb) : MediaSame { s with orb := x } { t with orb := x } := ⟨rfl, h.2⟩

theorem mediaSame_modSeq {s t : State} (h : MediaSame s t) (q : Nat) (f : Seq → Seq) : MediaSame (s.modSeq q f) (t.modSeq q f) := by
  unfold State.modSeq
  rw [seqr_of_media h, h.2]
  exact mediaSame_setSeq h _

theorem mediaSame_cause {s t : State} (h : MediaSame s t) (q c : Nat) : MediaSame (s.cause q c) (t.cause q c) := by
  unfold State.cause
  rw [seqr_of_media h]
  split
  · exact h
  · exact mediaSame_modSeq h q _

theorem mediaSame_withdraw {s t : State} (h : MediaSame s t) (q : Nat) (current : Bool) (mine : WorkItem → Bool) :
    MediaSame (s.withdraw q current mine) (t.withdraw q current mine) := by
  have hseqr := seqr_of_media h q
  unfold State.withdraw
  dsimp only
  rw [hseqr]
  have hdone {u v : State} (k : MediaSame u v) (x : List WorkDone) :
      MediaSame { u with seq := { u.seq with done := u.seq.done ++ x } } { v with seq := { v.seq with done := v.seq.done ++ x } } :=
    ⟨k.1, congrArg (fun y : Seqs => { y with done := y.done ++ x }) k.2⟩
  split
  · exact hdone (mediaSame_modSeq (mediaSame_cause h q 1) q _) _
  · exact hdone (mediaSame_modSeq h q _) _

theorem mediaSame_foldl {β : Type} {f : State → β → State} (hf : ∀ {s t : State}, MediaSame s t → ∀ b, MediaSame (f s b) (f t b)) (l : List β)
    {s t : State} (h : MediaSame s t) : MediaSame (l.foldl f s) (l.foldl f t) := by
  induction l generalizing s t with
  | nil => exact h
  | cons b l ih => exact ih (hf h b)

theorem itemOf_of_media {s t : State} (h : MediaSame s t) (k q : Nat) : t.itemOf k q = s.itemOf k q := by
  funext w
  simp only [State.itemOf, turn_of_media h, seqr_of_media h]

theorem mediaSame_modTurn {s t : State} (h : MediaSame s t) (a : Nat) (f : Turn → Turn) : MediaSame (s.modTurn a f) (t.modTurn a f) := by
  unfold State.modTurn
  rw [turn_of_media h, h.1]
  exact mediaSame_setOrb h _

theorem mediaSame_dropPieces {s t : State} (h : MediaSame s t) (k : PieceKind) (owner : Nat) :
    MediaSame (s.dropPieces k owner) (t.dropPieces k owner) := by
  unfold State.dropPieces
  rw [h.1]
  exact mediaSame_setOrb h _

theorem mediaSame_dropHost {s t : State} (h : MediaSame s t) (k : Nat) (current : Bool) :
    MediaSame (s.dropHost k current) (t.dropHost k current) := by
  have hlist : (below 16 fun q => (t.seqr q).items.any (t.itemOf k q)) = below 16 fun q => (s.seqr q).items.any (s.itemOf k q) := by
    simp only [seqr_of_media h, itemOf_of_media h]
  unfold State.dropHost
  dsimp only
  rw [hlist]
  refine mediaSame_dropPieces (mediaSame_foldl (fun {u v} k a => ?_) _ (mediaSame_foldl (fun {u v} k q => ?_) _ h)) .host k
  · rw [turn_of_media k]
    split
    · exact mediaSame_modTurn k a _
    · exact k
  · rw [itemOf_of_media k]
    exact mediaSame_withdraw k q current _

/-- Dropping the media work of a command touches the media queue and the sequencers alone. -/
theorem dropHost_shape (s : State) (k : Nat) (current : Bool) : ∃ x y, s.dropHost k current = { s with orb := x, seq := y } := by
  have hwithdraw (u : State) (q : Nat) (mine : WorkItem → Bool) : ∃ y, u.withdraw q current mine = { u with seq := y } := by
    unfold State.withdraw State.cause
    dsimp only
    split
    · split
      · exact ⟨_, rfl⟩
      · exact ⟨_, rfl⟩
    · exact ⟨_, rfl⟩
  have hall (l : List Nat) (f : Nat → State → WorkItem → Bool) (u : State) :
      ∃ y, l.foldl (fun s q => s.withdraw q current (f q s)) u = { u with seq := y } := by
    induction l generalizing u with
    | nil => exact ⟨_, rfl⟩
    | cons q l ih =>
      obtain ⟨y, hy⟩ := hwithdraw u q (f q u)
      obtain ⟨z, hz⟩ := ih { u with seq := y }
      exact ⟨z, by rw [List.foldl_cons, hy, hz]⟩
  have hturns (l : List Nat) (g : Turn → Bool) (f : Turn → Turn) (u : State) :
      ∃ x, l.foldl (fun s a => if g (s.turn a) then s.modTurn a f else s) u = { u with orb := x } := by
    induction l generalizing u with
    | nil => exact ⟨_, rfl⟩
    | cons a l ih =>
      rw [List.foldl_cons]
      split
      · obtain ⟨x, hx⟩ := ih (u.modTurn a f)
        exact ⟨x, hx⟩
      · exact ih u
  unfold State.dropHost
  dsimp only
  obtain ⟨y, hy⟩ := hall (below 16 fun q => (s.seqr q).items.any (s.itemOf k q)) (fun q s => s.itemOf k q) s
  rw [hy]
  obtain ⟨x, hx⟩ := hturns (List.range 4) (fun x => (avals x.served).any fun p => p.kind == .host && p.owner == k)
    (fun x => { x with served := afilter x.served fun _ p => !(p.kind == .host && p.owner == k) }) { s with seq := y }
  rw [hx]
  exact ⟨_, _, rfl⟩

/-! ## A command that ends -/

/-- The dirty total rests on the landing area, the journal and the commands alone. -/
theorem dirty_congr {s t : State} (hland : t.plc.landing = s.plc.landing) (hjrn : t.plc.journal = s.plc.journal)
    (hcmds : t.eqt.cmds = s.eqt.cmds) : t.dirty = s.dirty := by
  simp only [State.dirty, State.headroom, State.journalBytes, hland, hjrn, hcmds]

/-- A command as it waits for its completion. -/
def endedCmd (c : Cmd) (status : BitVec 16) (result : BitVec 48) (p : Pair) : Cmd :=
  { c with phase := .done, status := status, result := result, endPair := p, bound := [], arrived := [], protArrived := [],
           payload := [], chain := none, segs := [] }

/-- What a command that ends changes beside what `Ends` says of it. -/
structure Settled (k : Nat) (c : Cmd) (status : BitVec 16) (result : BitVec 48) (p : Pair) (s t : State) : Prop where
  ends : Ends k c status result p s t
  cmd : t.cmd? k = some (endedCmd { c with resv := none } status result p)
  first : t.eqt.firstAccepted = s.eqt.firstAccepted
  only : Only [.eqt, .plc, .orb, .seq] s t
  pkts : PktsKept s t
  src : ∀ n, n ≠ 2 ∨ (s.src n).state ≠ .idle → t.src n = s.src n

/-- The state in which a command has ended, before its media work goes. -/
def State.cmdEnded (s : State) (k i : Nat) (status : BitVec 16) (result : BitVec 48) (p : Pair) : State :=
  ((s.dropResv k).quarantine i k).modCmd k fun c => endedCmd c status result p

theorem settleCmd_eq {s : State} {k : Nat} {c : Cmd} (h : s.cmd? k = some c) (status : BitVec 16) (result : BitVec 48) (p : Pair) :
    s.settleCmd k status result p =
      (((s.cmdEnded k c.sess status result p).dropHost k (status == 0x0008)).countStatus status).checkHold := by
  unfold State.settleCmd
  rw [h]
  rfl

theorem quarantine_shape (s : State) (i k : Nat) : ∃ l, s.quarantine i k = { s with eqt := { s.eqt with sessions := l } } := by
  unfold State.quarantine
  dsimp only
  split
  · exact ⟨_, rfl⟩
  · exact ⟨_, rfl⟩

theorem countStatus_shape (s : State) (status : BitVec 16) :
    ∃ a b, s.countStatus status = { s with eqt := { s.eqt with sglBad := a, pushBad := b } } := by
  unfold State.countStatus
  split
  · exact ⟨_, _, rfl⟩
  · split
    · exact ⟨_, _, rfl⟩
    · exact ⟨_, _, rfl⟩

theorem cmdEnded_shape (s : State) (k i : Nat) (status : BitVec 16) (result : BitVec 48) (p : Pair) : ∃ l m,
    s.cmdEnded k i status result p = { s with
      eqt := { s.eqt with sessions := l, cmds := m }, plc := { s.plc with resvQueue := s.plc.resvQueue.filter (· != k) } } := by
  obtain ⟨l, hl⟩ := quarantine_shape (s.dropResv k) i k
  unfold State.cmdEnded
  rw [hl]
  exact ⟨_, _, rfl⟩

theorem cmd_cmdEnded_same {s : State} {k : Nat} {c : Cmd} (h : s.cmd? k = some c) (i : Nat) (status : BitVec 16) (result : BitVec 48) (p : Pair) :
    (s.cmdEnded k i status result p).cmd? k = some (endedCmd { c with resv := none } status result p) := by
  obtain ⟨l, hl⟩ := quarantine_shape (s.dropResv k) i k
  have hresv : (s.dropResv k).cmd? k = some { c with resv := none } := by
    rw [show (s.dropResv k).cmd? k = (s.cmd? k).map fun c => { c with resv := none } from cmd_modCmd_same s k _, h]
    rfl
  unfold State.cmdEnded
  rw [cmd_modCmd_same, hl, show ({ s.dropResv k with eqt := { (s.dropResv k).eqt with sessions := l } } : State).cmd? k = _ from hresv]
  rfl

theorem cmd_cmdEnded_other (s : State) {k j : Nat} (h : j ≠ k) (i : Nat) (status : BitVec 16) (result : BitVec 48) (p : Pair) :
    (s.cmdEnded k i status result p).cmd? j = s.cmd? j := by
  obtain ⟨l, hl⟩ := quarantine_shape (s.dropResv k) i k
  unfold State.cmdEnded
  rw [cmd_modCmd_other _ _ h, hl]
  exact cmd_modCmd_other s _ h

theorem onlyCommands_cmdEnded (s : State) (k i : Nat) (status : BitVec 16) (result : BitVec 48) (p : Pair) :
    OnlyCommands (s.quarantine i k) (s.cmdEnded k i status result p) := by
  have hdrop : OnlyCommands s (s.dropResv k) := ⟨rfl, fun _ => rfl⟩
  exact onlyCommands_trans (onlyCommands_quarantine hdrop rfl i k) (onlyCommands_modCmd _ k _)

/-- The state in which admission hold has been looked at again, before event source 2 is. -/
def State.heldNow (s : State) : State := { s with plc := { s.plc with hold := decide (s.pwr.dmax < s.dirty) } }

theorem checkHold_eq (s : State) : s.checkHold = s.heldNow.evcLevel 2 := rfl

theorem only_heldNow (s : State) : Only [.plc] s s.heldNow := only_setPlc s _

theorem src_checkHold (s : State) {n : Nat} (h : n ≠ 2 ∨ (s.src n).state ≠ .idle) : s.checkHold.src n = s.src n := by
  have hsrc : s.heldNow.src n = s.src n := rfl
  rw [checkHold_eq]
  rcases h with h | h
  · rw [src_evcLevel_other _ h, hsrc]
  · by_cases hn : n = 2
    · subst hn
      rw [State.evcLevel, if_neg fun k => h k.1, hsrc]
    · rw [src_evcLevel_other _ hn, hsrc]

theorem settled_settleCmd {s : State} {k : Nat} {c : Cmd} (h : s.cmd? k = some c) (status : BitVec 16) (result : BitVec 48) (p : Pair) :
    Settled k c status result p s (s.settleCmd k status result p) := by
  have hkept := endKept_settleCmd s k status result p
  rw [settleCmd_eq h] at hkept ⊢
  obtain ⟨l, m, hended⟩ := cmdEnded_shape s k c.sess status result p
  have hsame := cmd_cmdEnded_same h c.sess status result p
  have hother (j : Nat) (hj : j ≠ k) := cmd_cmdEnded_other s hj c.sess status result p
  have honly := onlyCommands_cmdEnded s k c.sess status result p
  have hmedia : MediaSame s (s.cmdEnded k c.sess status result p) := by rw [hended]; exact ⟨rfl, rfl⟩
  have hdropped := mediaSame_dropHost hmedia k (status == 0x0008)
  have hplc : (s.cmdEnded k c.sess status result p).plc = { s.plc with resvQueue := s.plc.resvQueue.filter (· != k) } := by rw [hended]
  have hfirst : (s.cmdEnded k c.sess status result p).eqt.firstAccepted = s.eqt.firstAccepted := by rw [hended]
  have hpkts : PktsKept s (s.cmdEnded k c.sess status result p) := pktsKept_of_eq (by rw [hended]) (by rw [hended])
  have hevc : (s.cmdEnded k c.sess status result p).evc = s.evc := by rw [hended]
  generalize s.cmdEnded k c.sess status result p = u at *
  obtain ⟨x, y, hdrop⟩ := dropHost_shape u k (status == 0x0008)
  have hcommands : OnlyCommands u (u.dropHost k (status == 0x0008)) := by rw [hdrop]; exact ⟨rfl, fun _ => rfl⟩
  rw [hdrop] at hkept hdropped hcommands ⊢
  have hcount := onlyCommands_countStatus (onlyCommands_trans honly hcommands) status
  obtain ⟨a, b, hstatus⟩ := countStatus_shape { u with orb := x, seq := y } status
  rw [hstatus] at hkept hcount ⊢
  generalize hv : ({ { u with orb := x, seq := y } with
    eqt := { { u with orb := x, seq := y }.eqt with sglBad := a, pushBad := b } } : State) = v at *
  have hcmds : v.eqt.cmds = u.eqt.cmds := by rw [← hv]
  have hvplc : v.plc = u.plc := by rw [← hv]
  have hheld := only_heldNow v
  have hstill : Still v.heldNow v.checkHold := still_evcLevel _ 2
  have hlevel : v.checkHold.eqt.cmds = v.heldNow.eqt.cmds := still_eqt_field (fun x => x.cmds) hstill
  have hfinal : v.checkHold.plc = { v.plc with hold := decide (v.pwr.dmax < v.dirty) } := still_plc hstill
  have hdmax : v.checkHold.pwr.dmax = v.heldNow.pwr.dmax := still_pwr_field (fun p => p.dmax) hstill
  have hdirty : v.checkHold.dirty = v.dirty := dirty_congr (by rw [hfinal]) (by rw [hfinal]) hlevel
  have hcmd : v.checkHold.cmd? k = some (endedCmd { c with resv := none } status result p) := by
    rw [cmd_of_cmds (hlevel.trans hcmds), hsame]
  refine ⟨⟨?_, fun j hj => ?_, ?_, ?_, ?_, ?_⟩, hcmd, ?_, hkept.only, ?_, fun n hn => ?_⟩
  · rw [hcmd]
    rfl
  · rw [cmd_of_cmds (hlevel.trans hcmds), hother j hj]
  · exact onlyCommands_trans hcount (onlyCommands_trans (onlyCommands_of_only hheld (by decide))
      (onlyCommands_of_only (ps := []) (only_of_still hstill) (by decide)))
  · rw [hfinal, hdmax, hdirty, hvplc, hplc]
    rfl
  · have horb : v.heldNow.orb = x := by rw [← hv]; rfl
    exact (still_orb hstill).trans (horb.trans hdropped.1)
  · have hseq : v.heldNow.seq = y := by rw [← hv]; rfl
    exact (still_seq hstill).trans (hseq.trans hdropped.2)
  · have hheldFirst : v.heldNow.eqt.firstAccepted = u.eqt.firstAccepted := by rw [← hv]; rfl
    exact (still_eqt_field (fun x => x.firstAccepted) hstill).trans (hheldFirst.trans hfirst)
  · have huv : PktsKept u v := pktsKept_of_eq (by rw [← hv]) (by rw [← hv])
    exact pktsKept_trans (pktsKept_trans hpkts huv) (pktsKept_trans (pktsKept_of_eq (t := v.heldNow) rfl rfl) (pktsKept_evcLevel _ 2))
  · have hsrc : v.src n = s.src n := by
      rw [← hv]
      simp only [State.src, hevc]
    rw [src_checkHold v (by rw [hsrc]; exact hn), hsrc]

/-- What ends a command whose state was reached from another with its other commands, placement and media queue ends it there. -/
theorem settled_from {s u t : State} {k : Nat} {c d : Cmd} {status : BitVec 16} {result : BitVec 48} {p : Pair}
    (h : Settled k d status result p u t) (hsess : d.sess = c.sess) (hcmds : ∀ j, j ≠ k → u.cmd? j = s.cmd? j) (heqt : OnlyCommands s u)
    (hnow : u.now = s.now) (hplc : u.plc = s.plc) (hmedia : MediaSame s u) : Ends k c status result p s t := by
  obtain ⟨hcmd, hothers, hcommands, hp, horb, hseq⟩ := h.ends
  have hdrop := mediaSame_dropHost hmedia k (status == 0x0008)
  refine ⟨hcmd, fun j hj => (hothers j hj).trans (hcmds j hj), ?_, by rw [hp, hplc], horb.trans hdrop.1, hseq.trans hdrop.2⟩
  rw [hsess] at hcommands
  exact onlyCommands_trans (onlyCommands_countStatus (onlyCommands_quarantine heqt hnow _ k) status) hcommands

theorem settled_endCmd {s : State} {k : Nat} {c : Cmd} (h : s.cmd? k = some c) (hphase : c.phase ≠ .done) (status : BitVec 16)
    (result : BitVec 48) : Settled k c status result (c.accept.getD s.pair) s (s.endCmd k status result) := by
  unfold State.endCmd
  rw [h]
  dsimp only
  rw [if_neg hphase]
  split
  · rename_i p hp
    rw [hp]
    exact settled_settleCmd h status result p
  · rename_i hp
    rw [hp]
    have hstamp : Settled k c status result s.pair s.stamped (s.stamped.settleCmd k status result s.pair) :=
      settled_settleCmd (s := s.stamped) h status result s.pair
    exact ⟨settled_from hstamp rfl (fun _ _ => rfl) ⟨rfl, fun _ => rfl⟩ rfl rfl ⟨rfl, rfl⟩, hstamp.cmd, hstamp.first,
      only_trans (only_of_still (still_stamped s)) hstamp.only, pktsKept_trans (pktsKept_of_eq rfl rfl) hstamp.pkts, hstamp.src⟩

/-- What a command that ends leaves stands through event records. -/
theorem ends_only {s u t : State} {k : Nat} {c : Cmd} {status : BitVec 16} {result : BitVec 48} {p : Pair}
    (h : Ends k c status result p s u) (ht : Only [] u t) : Ends k c status result p s t := by
  obtain ⟨hcmd, hothers, hcommands, hp, horb, hseq⟩ := h
  have hcmds : t.eqt.cmds = u.eqt.cmds := cmds_of_only ht (by decide)
  have hplc : t.plc = u.plc := ht .plc (by decide)
  have hdmax : t.pwr.dmax = u.pwr.dmax := pwr_of_only (fun p => p.dmax) ht (by decide)
  refine ⟨by rw [cmd_of_cmds hcmds, hcmd], fun j hj => by rw [cmd_of_cmds hcmds, hothers j hj],
    onlyCommands_trans hcommands (onlyCommands_of_only ht (by decide)), ?_, (ht .orb (by decide)).trans horb, (ht .seq (by decide)).trans hseq⟩
  rw [hplc, hdmax, dirty_congr (by rw [hplc]) (by rw [hplc]) hcmds, hp]

/-! ## Handing on and accepting -/

/-- A command put to work. -/
def waitingCmd (c : Cmd) : Cmd := { c with phase := .waiting }

/-- The state in which a command has been put to work. -/
def State.handedOn (s : State) (k : Nat) : State := s.modCmd k waitingCmd

/-- An entry that passes every check is put to work, and goes on at once (R349). -/
theorem cmdRow_handed {s : State} {k o : Nat} {c : Cmd} {first later : State → State} (h : s.cmd? k = some c) (hphase : c.phase = .handed)
    (hop : eOp c.entry = o) (hold : s.oldestHanded k c = true) (hid : s.idInUse k c = false)
    (hrec : s.recordOf c.lineage (eCmdId c.entry) = none) (hcheck : s.checkEntry c.sess c.entry = none) :
    s.cmdRow k o first later = later (first (s.handedOn k)) := by
  have hrow : c.phase = .handed ∧ (opIs c o || !isListedOp (eOp c.entry)) = true := ⟨hphase, by simp [opIs, hop]⟩
  have hhand : s.hand k c = s.handedOn k := by
    unfold State.hand
    rw [if_neg (by simp [hphase, hold]), if_neg (by simp [hid])]
    dsimp only
    rw [hrec]
    dsimp only
    rw [hcheck]
    rfl
  have hwaits : (s.handedOn k).cmd? k = some (waitingCmd c) := by rw [State.handedOn, cmd_modCmd_same, h]; rfl
  unfold State.cmdRow
  rw [h]
  dsimp only
  rw [if_pos hrow, hhand, hwaits]
  exact if_pos rfl

/-- A command that is at work goes on. -/
theorem cmdRow_atWork {s : State} {k o : Nat} {c : Cmd} {first later : State → State} (h : s.cmd? k = some c)
    (hphase : c.phase = .waiting ∨ c.phase = .accepted) (hop : eOp c.entry = o) : s.cmdRow k o first later = later s := by
  have hwork : inWork c = true := by
    unfold inWork
    rcases hphase with h | h
    · simp [h]
    · simp [h]
  unfold State.cmdRow
  rw [h]
  dsimp only
  rw [if_neg fun hrow => ?_, if_pos (by simp [opIs, hop, hwork])]
  obtain ⟨hhanded, -⟩ := hrow
  rcases hphase with h | h
  · exact absurd (h.symm.trans hhanded) (by decide)
  · exact absurd (h.symm.trans hhanded) (by decide)

/-- What an acceptance leaves beside `Accepted` (R364). -/
structure Taken (k : Nat) (c : Cmd) (s t : State) : Prop where
  stands : Stands k { c with phase := .accepted, accept := some s.pair } s t
  accepted : Accepted s t
  shape : ∃ q x m, t = { s with
    tim := { s.tim with seq := q }, eqt := { s.eqt with cmds := m, firstAccepted := true }, sec := x }
  pair : t.pair = s.stamped.pair
  secs : ∃ f, t.sec = { s.sec with fuses := f }
  rest : t.eqt.cmds.filter (fun e => e.1 != k) = s.eqt.cmds.filter fun e => e.1 != k

theorem taken_accept {s : State} {k : Nat} {c : Cmd} (h : s.cmd? k = some c) : Taken k c s (s.accept k) := by
  unfold State.accept
  dsimp only
  have hsame : (s.stamped.modCmd k fun c => { c with phase := .accepted, accept := some s.pair }).cmd? k =
      some { c with phase := .accepted, accept := some s.pair } := by
    rw [cmd_modCmd_same, show s.stamped.cmd? k = some c from h]
    rfl
  have hother (j : Nat) (hj : j ≠ k) : (s.stamped.modCmd k fun c => { c with phase := .accepted, accept := some s.pair }).cmd? j = s.cmd? j :=
    cmd_modCmd_other s.stamped _ hj
  split
  · rename_i hfirst
    have hfirst : (s.eqt.firstAccepted || s.stageCode != 0) = true := hfirst
    exact ⟨⟨hsame, hother⟩, ⟨rfl, (if_pos hfirst).symm⟩, ⟨_, _, _, rfl⟩, rfl, ⟨_, rfl⟩, filter_amod_other _ _ _⟩
  · rename_i hfirst
    have hfirst : ¬(s.eqt.firstAccepted || s.stageCode != 0) = true := hfirst
    exact ⟨⟨hsame, hother⟩, ⟨rfl, (if_neg hfirst).symm⟩, ⟨_, _, _, rfl⟩, rfl, ⟨_, rfl⟩, filter_amod_other _ _ _⟩

/-- A command that is put to work and accepted at once. -/
theorem taken_handed {s : State} {k : Nat} {c : Cmd} (h : s.cmd? k = some c) : Taken k c s ((s.handedOn k).accept k) := by
  have hwaits : (s.handedOn k).cmd? k = some (waitingCmd c) := by rw [State.handedOn, cmd_modCmd_same, h]; rfl
  have htaken := taken_accept hwaits
  obtain ⟨q, x, m, hshape⟩ := htaken.shape
  exact ⟨⟨htaken.stands.1, fun j hj => (htaken.stands.2 j hj).trans (cmd_modCmd_other s _ hj)⟩, htaken.accepted, ⟨q, x, m, hshape⟩, htaken.pair,
    htaken.secs, htaken.rest.trans (filter_amod_other _ _ _)⟩

section Taken
variable {k : Nat} {c : Cmd} {s t : State} (h : Taken k c s t)
include h

theorem taken_commands : OnlyCommands s t := by
  obtain ⟨q, x, m, rfl⟩ := h.shape
  exact ⟨rfl, fun _ => rfl⟩

theorem taken_only : Only [.eqt, .sec] s t := by
  obtain ⟨q, x, m, rfl⟩ := h.shape
  simp [only_iff]

theorem taken_media : MediaSame s t := by
  obtain ⟨q, x, m, rfl⟩ := h.shape
  exact ⟨rfl, rfl⟩

theorem taken_evc : t.evc = s.evc := by
  obtain ⟨q, x, m, rfl⟩ := h.shape
  rfl

theorem taken_sess (i : Nat) : t.sess i = s.sess i := by
  obtain ⟨q, x, m, rfl⟩ := h.shape
  rfl

theorem taken_plc : t.plc = s.plc := by
  obtain ⟨q, x, m, rfl⟩ := h.shape
  rfl

theorem taken_now : t.now = s.now := by
  obtain ⟨q, x, m, rfl⟩ := h.shape
  rfl

theorem taken_pkts : PktsKept s t := by
  obtain ⟨q, x, m, rfl⟩ := h.shape
  exact pktsKept_of_eq rfl rfl

/-- An acceptance that stands with what follows it, where that brings the mark of the first acceptance and the roots along. -/
theorem taken_accepted {u : State} (hfirst : u.eqt.firstAccepted = t.eqt.firstAccepted) (hsec : u.sec = t.sec) : Accepted s u :=
  ⟨hfirst.trans h.accepted.1, hsec.trans h.accepted.2⟩

/-- A command that ends after it was accepted ends with its acceptance pair (R399). -/
theorem taken_ends {u : State} {status : BitVec 16} {result : BitVec 48}
    (hu : Settled k { c with phase := .accepted, accept := some s.pair } status result s.pair t u) : Ends k c status result s.pair s u :=
  settled_from hu rfl (fun j hj => h.stands.2 j hj) (taken_commands h) (taken_now h) (taken_plc h) (taken_media h)

end Taken

/-- Accepting a command that is put to work and ending it: the row of a command without work of its own. -/
structure TakenEnds (k : Nat) (c : Cmd) (status : BitVec 16) (result : BitVec 48) (s t : State) : Prop where
  ends : Ends k c status result s.pair s t
  accepted : Accepted s t
  only : Only [.eqt, .sec, .plc, .orb, .seq] s t

theorem settled_accepted {k : Nat} {c : Cmd} {status : BitVec 16} {result : BitVec 48} {p : Pair} {s t : State}
    (h : Settled k c status result p s t) : t.eqt.firstAccepted = s.eqt.firstAccepted ∧ t.sec = s.sec := ⟨h.first, h.only .sec (by decide)⟩

theorem takenEnds_only {k : Nat} {c : Cmd} {status : BitVec 16} {result : BitVec 48} {s u t : State} (h : TakenEnds k c status result s u)
    (ht : Only [] u t) : TakenEnds k c status result s t :=
  ⟨ends_only h.ends ht, ⟨(eqt_of_only (fun x => x.firstAccepted) ht (by decide)).trans h.accepted.1, (ht .sec (by decide)).trans h.accepted.2⟩,
    only_step h.only ht⟩

/-- A command accepted in one state that ends from a later one, where nothing but commands and event records changed between. -/
theorem takenEnds_of {k : Nat} {c d : Cmd} {status : BitVec 16} {result : BitVec 48} {s t u v : State} (h : Taken k c s t)
    (hu : Only [.eqt] t u) (heqt : OnlyCommands t u) (hmark : u.eqt.firstAccepted = t.eqt.firstAccepted) (hd : u.cmd? k = some d)
    (hdone : d.phase ≠ .done) (haccept : d.accept = some s.pair) (hsess : d.sess = c.sess) (hother : ∀ j, j ≠ k → u.cmd? j = t.cmd? j)
    (hv : u.endCmd k status result = v) : TakenEnds k c status result s v := by
  have hsettled := settled_endCmd hd hdone status result
  rw [hv, haccept] at hsettled
  obtain ⟨hfirst, hsec⟩ := settled_accepted hsettled
  have hmedia : MediaSame t u := ⟨hu .orb (by decide), hu .seq (by decide)⟩
  refine ⟨settled_from hsettled hsess (fun j hj => (hother j hj).trans (h.stands.2 j hj)) (onlyCommands_trans (taken_commands h) heqt)
      ((hu .clock (by decide)).trans (taken_now h)) ((hu .plc (by decide)).trans (taken_plc h))
      ⟨hmedia.1.trans (taken_media h).1, hmedia.2.trans (taken_media h).2⟩,
    taken_accepted h (hfirst.trans hmark) (hsec.trans (hu .sec (by decide))),
    only_step (only_step (only_mono (taken_only h) (by decide)) hu) hsettled.only⟩

theorem takenEnds_at {k : Nat} {c : Cmd} {status : BitVec 16} {result : BitVec 48} {s t v : State} (h : Taken k c s t)
    (hv : t.endCmd k status result = v) : TakenEnds k c status result s v :=
  takenEnds_of h (only_refl _ t) (onlyCommands_refl t) rfl h.stands.1 (fun h => nomatch h) rfl rfl (fun _ _ => rfl) hv

/-! ## Rows with all that their events leave alone -/

/-- A row completes with what holds of every state that is its effect but for records of level sources that had still to be raised. -/
theorem gives_answered {c : Instr} {need : Need} {s : State} {f : State → State} {P : State → Prop} (hc : exec c s = row c need s f)
    (hready : c.wf = true ∧ s.has need = true)
    (h : ∀ t, Only [] (f s) t → PktsKept (f s) t → (∀ n, LevelRaised (f s) n ∨ evcIsLevel n = false → t.src n = (f s).src n) → P t) :
    Gives c s P := by
  refine gives_noted hc hready (h _ ?_ ?_ fun n hn => ?_)
  · exact only_answer (only_refl _ _) (still_pending (still_trans (still_noteLevels _) (still_noteQuiet _)) _)
  · exact pktsKept_trans (pktsKept_noteLevels _) (pktsKept_trans (pktsKept_noteQuiet _) (pktsKept_of_eq rfl rfl))
  · have hquiet : ({ (f s).noteLevels.noteQuiet with pending := s.pending } : State).src n = (f s).noteLevels.src n := by
      unfold State.noteQuiet
      split
      · split
        · rfl
        · rfl
      · rfl
    rw [hquiet]
    rcases hn with hn | hn
    · exact src_noteLevels_raised hn
    · exact src_noteLevels_edge _ fun hmem => by simp [evcIsLevel_of_mem hmem] at hn

theorem levelRaised_of_busy {s : State} {n : Nat} (h : (s.src n).state ≠ .idle) : LevelRaised s n := fun k => h k.1

end Sys2Proof.Machine
end

section
/-! SUPPORT. Where a statement about claims fails: the commands in flight listed out of order. -/

namespace Sys2Proof.Machine

open Sys2Proof

-- One declaration at a time: proofs elaborated side by side hold a stack each, and the check bounds their sum.
set_option Elab.async false

/-- A command with landing space for 256 blocks in its hands, 1 MiB of the dirty total (R54). -/
def reservedClaim : Cmd :=
  { newCmd 0 0 0 witClaimEntry zeroPair with resv := some { witResv with blocks := 256 } }

/-- Session 0 is ACTIVE and admission hold, source 2, is PENDING for it; the commands in flight are not listed in the order of their tags,
as no accepted fetch lists them. -/
def unorderedClaim : State :=
  let s := State.setRv (State.modSess (witHanded witClaimEntry) 0 fun x => { x with state := .active, group := 1 }) (.evcMaskLo 2) 2
  let s := State.setSrc s 2 { idleSource with state := .pending, count := 1, value := 5 }
  { s with eqt := { s.eqt with cmds := [(9, newCmd 0 0 0 witClaimEntry { zeroPair with time := 1 }), (7, reservedClaim)] } }

theorem cmds_of_answer {u t : State} {p : List Instr} (h : Still { u with pending := p } t) : t.eqt.cmds = u.eqt.cmds := by
  have hcmds : t.eqt.cmds = ({ u with pending := p } : State).eqt.cmds := still_eqt_field (fun x => x.cmds) h
  exact hcmds

/-- Refutes O51: its clause on CLAIM_EVENT answers the snapshot of source 2 in the state before. In `unorderedClaim` the change of the
command is listed in front, so that its reservation counts twice in the dirty total which the snapshot shows (Table 2.7). -/
theorem not_queuesAndCompletions : ¬ Obligations.QueuesAndCompletions := by
  rintro ⟨-, -, -, -, -, hclaim, -⟩
  have hready : Ready (.claimEvent 7) unorderedClaim := by decide +kernel
  obtain ⟨t, ⟨⟨hends, -⟩, -⟩, hmodel⟩ :=
    gives_model (hclaim unorderedClaim 7 2 reservedClaim hready (by decide +kernel) (by decide +kernel) (by decide +kernel)
      (by decide +kernel) (by decide +kernel) (by decide +kernel) (by decide +kernel) (by decide +kernel) (by decide +kernel)
      (by decide +kernel)) (exec_claimEvent 7 unorderedClaim) hready
  rw [cmd_of_cmds (cmds_of_answer hmodel)] at hends
  revert hends
  decide +kernel

end Sys2Proof.Machine
end

section
/-! SUPPORT. Where a statement about a namespace's deletion fails: its command was never stamped, and admission hold begins with it. -/

namespace Sys2Proof.Machine

open Sys2Proof

-- One declaration at a time: proofs elaborated side by side hold a stack each, and the check bounds their sum.
set_option Elab.async false

/-- An NS_DELETE at work that carries no acceptance pair, as no acceptance leaves it. -/
def unstampedDelete : Cmd := { witDeleting with accept := none }

/-- That command alone, with a journal record on its way to media above D_max, and session 0 ACTIVE with room in its event ring for the
record that admission hold, source 2, brings. -/
def unstampedDeleting : State :=
  let s := State.modSess (witAny .deleting unstampedDelete) 0 fun x =>
    { x with state := .active, events := true, eq := { emptyEventRing with log2 := 4 } }
  let s := State.setSrc s 2 idleSource
  let r : JRec := { pair := zeroPair, size := 1, effect := .zoneReset 2 0, stackA := 0, stackB := 1, missing := false, onMedia := false,
                    spots := [], owner := none }
  { s with pwr := { s.pwr with dmax := 0 }, plc := { s.plc with journal := [(0, r)] } }

/-- Refutes O48: its clause on NS_DELETE_DONE ends a command that carries no acceptance pair with the pair of the state before. In
`unstampedDeleting` the release of the landing data has admission hold judged first, and its RAISED record takes that pair (R13). -/
theorem not_zonesAndNamespaces : ¬ Obligations.ZonesAndNamespaces := by
  rintro ⟨-, -, -, -, -, -, -, -, -, -, -, -, -, -, hdelete, -⟩
  have hready : Ready (.nsDeleteDone 7) unstampedDeleting := by decide +kernel
  obtain ⟨t, ⟨hends, -⟩, hmodel⟩ :=
    gives_model (hdelete unstampedDeleting 7 unstampedDelete hready (by decide +kernel) (by decide +kernel) (by decide +kernel)
      (by decide +kernel) (by decide +kernel) (by decide +kernel) (by decide +kernel)) (exec_nsDeleteDone 7 unstampedDeleting) hready
  rw [cmd_of_cmds (cmds_of_answer hmodel)] at hends
  revert hends
  decide +kernel

end Sys2Proof.Machine
end

section
/-! SUPPORT. Sessions that event records cannot reach, and a session that becomes FREE (R291-R302, R412). -/

namespace Sys2Proof.Machine

open Sys2Proof

-- One declaration at a time: proofs elaborated side by side hold a stack each, and the check bounds their sum.
set_option Elab.async false

/-! ## Sessions that event records cannot reach -/

theorem sess_sendPkt (s : State) (i : Nat) (p : Pkt) (j : Nat) : (s.sendPkt i p).sess j = s.sess j := by
  unfold State.sendPkt
  dsimp only
  split
  · rfl
  · rfl

theorem sess_request_other (s : State) {i j : Nat} (n : Nat) (k : ReqKind) (h : j ≠ i) : (s.request i n k).sess j = s.sess j :=
  sess_setSess_other s _ h

theorem sess_notify_other (s : State) {i j : Nat} (ring : Nat) (h : j ≠ i) : (s.notify i ring).sess j = s.sess j := by
  unfold State.notify
  dsimp only
  split
  · rw [sess_request_other _ _ _ h, sess_sendPkt, sess_setSess_other _ _ h]
  · exact sess_setSess_other s _ h

theorem sess_evSent_other (s : State) {i j : Nat} (e : EventRec) (h : j ≠ i) : (s.evSent i e).sess j = s.sess j := by
  unfold State.evSent State.evPlaced
  rw [sess_request_other _ _ _ h, sess_sendPkt, sess_setSess_other _ _ h]
  rfl

theorem sess_evWrite_other (s : State) {i j : Nat} (e : EventRec) (h : j ≠ i) : (s.evWrite i e).sess j = s.sess j := by
  rw [evWrite_eq]
  split
  · rw [sess_notify_other _ 2 h, sess_evSent_other s e h]
  · exact sess_evSent_other s e h

theorem sess_evRaised_other (s : State) {i j : Nat} (n c : Nat) (v : BitVec 64) (h : j ≠ i) : (s.evRaised i n c v).sess j = s.sess j := by
  unfold State.evRaised
  dsimp only
  split
  · exact sess_evWrite_other s _ h
  · exact sess_setSess_other s _ h

/-- A session that is not ACTIVE is eligible for no source, so it takes no record (R412). -/
theorem sess_enterPending {s : State} {j : Nat} (n : Nat) (v : BitVec 32) (h : (s.sess j).state ≠ .active) :
    (s.enterPending n v).sess j = s.sess j := by
  have key (c : State → Nat) (v : BitVec 64) : ∀ (l : List Nat) (u : State), j ∉ l →
      (l.foldl (fun s i => s.evRaised i n (c s) v) u).sess j = u.sess j := by
    intro l
    induction l with
    | nil => exact fun _ _ => rfl
    | cons i l ih =>
      intro u hl
      rw [List.foldl_cons, ih _ fun hmem => hl (List.mem_cons_of_mem i hmem)]
      exact sess_evRaised_other u n _ v fun hj => hl (hj ▸ List.mem_cons_self)
  unfold State.enterPending
  refine key (fun _ => if evcIsLevel n then 0 else (s.src n).count) (v.setWidth 64) _ _ fun hmem => h ?_
  unfold State.evTargets at hmem
  obtain ⟨-, heligible⟩ := List.mem_filter.mp hmem
  simp only [State.eligible, Bool.and_eq_true, beq_iff_eq] at heligible
  exact heligible.1.1

theorem sess_evcLevel {s : State} {j : Nat} (n : Nat) (h : (s.sess j).state ≠ .active) : (s.evcLevel n).sess j = s.sess j := by
  unfold State.evcLevel
  split
  · exact sess_enterPending n _ h
  · rfl

theorem sess_noteLevels {s : State} {j : Nat} (h : (s.sess j).state ≠ .active) : s.noteLevels.sess j = s.sess j := by
  have key : ∀ (l : List Nat) (u : State), u.sess j = s.sess j → (l.foldl State.evcLevel u).sess j = s.sess j := by
    intro l
    induction l with
    | nil => exact fun _ hu => hu
    | cons n l ih => exact fun u hu => ih _ ((sess_evcLevel n (by rw [hu]; exact h)).trans hu)
  unfold State.noteLevels
  split
  · exact key levelSources s rfl
  · rfl

/-- A row completes with what holds of every state that is its effect but for the records of the sessions that are ACTIVE, and for none where
every level source has been raised. -/
theorem gives_reached {c : Instr} {need : Need} {s : State} {f : State → State} {P : State → Prop} (hc : exec c s = row c need s f)
    (hready : c.wf = true ∧ s.has need = true)
    (h : ∀ t, Only [] (f s) t → PktsKept (f s) t → (∀ j, ((f s).sess j).state ≠ .active → t.sess j = (f s).sess j) →
      (LevelsRaised (f s) → t.eqt = (f s).eqt) → P t) : Gives c s P := by
  have heqt : ({ (f s).noteLevels.noteQuiet with pending := s.pending } : State).eqt = (f s).noteLevels.eqt := noteQuiet_eqt _
  refine gives_noted hc hready (h _ ?_ ?_ (fun j hj => ?_) fun hraised => ?_)
  · exact only_answer (only_refl _ _) (still_pending (still_trans (still_noteLevels _) (still_noteQuiet _)) _)
  · exact pktsKept_trans (pktsKept_noteLevels _) (pktsKept_trans (pktsKept_noteQuiet _) (pktsKept_of_eq rfl rfl))
  · rw [State.sess, heqt]
    exact sess_noteLevels hj
  · rw [heqt, noteLevels_of_raised hraised]

theorem sess_of_eqt {s t : State} (h : t.eqt = s.eqt) (j : Nat) : t.sess j = s.sess j := by simp only [State.sess, h]

/-- The conditions of the level sources, their masks and their states do not rest on what a session holds. -/
theorem levelsRaised_setSess {s : State} (i : Nat) (x : Session) (h : LevelsRaised s) : LevelsRaised (s.setSess i x) := by
  have hholds (n : Nat) : (s.setSess i x).levelHolds n = s.levelHolds n := by
    simp only [State.levelHolds]
    rfl
  intro hbooted n hn
  rw [hholds]
  exact h hbooted n hn

/-! ## Changes of one session -/

/-- Of the host interface only the session i changes, and event records. -/
structure SessionOnly (i : Nat) (s t : State) : Prop where
  others : ∀ j, j ≠ i → calmSession (t.sess j) = calmSession (s.sess j)
  lineages : t.eqt.lineages = s.eqt.lineages
  cmds : t.eqt.cmds = s.eqt.cmds
  only : Only [.eqt] s t

theorem sessionOnly_trans {i : Nat} {s t u : State} (h : SessionOnly i s t) (k : SessionOnly i t u) : SessionOnly i s u :=
  ⟨fun j hj => (k.others j hj).trans (h.others j hj), k.lineages.trans h.lineages, k.cmds.trans h.cmds, only_trans h.only k.only⟩

theorem sessionOnly_of_only {s t : State} (i : Nat) (h : Only [] s t) : SessionOnly i s t :=
  ⟨fun j _ => calm_of_only h (by decide) j, eqt_of_only (fun x => x.lineages) h (by decide), cmds_of_only h (by decide), only_mono h (by decide)⟩

theorem sessionOnly_refl (i : Nat) (s : State) : SessionOnly i s s := sessionOnly_of_only i (only_refl [] s)

theorem sessionOnly_setSess (s : State) (i : Nat) (x : Session) : SessionOnly i s (s.setSess i x) :=
  ⟨fun _ hj => congrArg calmSession (sess_setSess_other s x hj), rfl, rfl, only_setEqt s _⟩

theorem sessionOnly_modSess (s : State) (i : Nat) (f : Session → Session) : SessionOnly i s (s.modSess i f) := sessionOnly_setSess s i _

theorem sessionOnly_emit (s : State) (i : Nat) (o : Out) : SessionOnly i s (s.emit o) := sessionOnly_of_only i (only_emit s o)

/-- A session of which nothing is on the way to its host, or waits for a slot. -/
def Calm (x : Session) : Prop := x.reqs = [] ∧ x.cq.waiting = []

/-- A session of which nothing is to be held any more. -/
def settledSess (y : Session) : Session := { y with cq := { y.cq with waiting := [] }, reqs := [] }

theorem holdUnsettled_calm {s : State} {i : Nat} (h : Calm (s.sess i)) : s.holdUnsettled i = s.modSess i settledSess := by
  have hnone : unsettled (s.sess i) = [] := by simp [unsettled, h.1, h.2]
  unfold State.holdUnsettled
  dsimp only
  rw [hnone]
  rfl

/-! ## A session becomes FREE -/

/-- What is left when the session i becomes FREE: its lineage l is released or unbound, and nothing else of the host interface changes. -/
structure Freed (i l : Nat) (s t : State) : Prop where
  sess : t.sess i = freeSession
  others : ∀ j, j ≠ i → calmSession (t.sess j) = calmSession (s.sess j)
  lineages : ∀ k, k ≠ l → aget t.eqt.lineages k = aget s.eqt.lineages k
  cmds : t.eqt.cmds = s.eqt.cmds
  only : Only [.eqt] s t

theorem freed_from {i l : Nat} {s t u : State} (h : SessionOnly i s t) (k : Freed i l t u) : Freed i l s u :=
  ⟨k.sess, fun j hj => (k.others j hj).trans (h.others j hj), fun n hn => (k.lineages n hn).trans (by rw [h.lineages]), k.cmds.trans h.cmds,
    only_trans h.only k.only⟩

/-- The change of a lineage, or its release, after its session became FREE. -/
theorem freed_setLineages {i l : Nat} {s t : State} (h : Freed i l s t) {m : Assoc Lineage}
    (hm : ∀ k, k ≠ l → aget m k = aget t.eqt.lineages k) : Freed i l s { t with eqt := { t.eqt with lineages := m } } :=
  ⟨h.sess, h.others, fun k hk => (hm k hk).trans (h.lineages k hk), h.cmds, only_trans h.only (only_setEqt t _)⟩

theorem freed_setSess (s : State) (i l : Nat) : Freed i l s (s.setSess i freeSession) :=
  ⟨sess_setSess_same s i _, fun _ hj => congrArg calmSession (sess_setSess_other s _ hj), fun _ _ => rfl, rfl, only_setEqt s _⟩

theorem freed_freeSess (s : State) (i : Nat) : Freed i (s.sess i).lineage s (s.freeSess i) := by
  have hfree := freed_setSess s i (s.sess i).lineage
  unfold State.freeSess
  dsimp only
  split
  · exact hfree
  · split
    · split
      · exact freed_setLineages hfree fun k hk => aget_adel_other _ hk
      · exact freed_setLineages hfree fun k hk => aget_amod_other _ _ hk
    · exact hfree

/-- A lineage as the end of its session leaves it, to be held for LINEAGE_HOLD (R300). -/
def unboundAt (s : State) (l : Lineage) : Lineage :=
  { l with bound := none, holdUntil := s.now + 1000000000 * fld (s.rv .eqtSessCfg) 31 16 }

/-- The lineage bound to a session that becomes FREE is released, or unbound (R300). -/
theorem lineage_freeSess {s : State} {i : Nat} {l : Lineage} (h : aget s.eqt.lineages (s.sess i).lineage = some l) (hbound : l.bound = some i) :
    aget (s.freeSess i).eqt.lineages (s.sess i).lineage = if (s.sess i).releaseLineage then none else some (unboundAt s l) := by
  unfold State.freeSess
  dsimp only
  have hsame : aget (s.setSess i freeSession).eqt.lineages (s.sess i).lineage = some l := h
  rw [hsame]
  dsimp only
  rw [if_pos hbound]
  split
  · exact aget_adel_same _ _
  · exact (aget_amod_same _ _ _).trans (congrArg (Option.map _) hsame)

/-- An answer after a session became FREE. -/
theorem freed_answer {i l : Nat} {s t u : State} (h : Freed i l s t) (hu : Only [] t u)
    (hsess : ∀ j, (t.sess j).state ≠ .active → u.sess j = t.sess j) : Freed i l s u := by
  have hlineages : u.eqt.lineages = t.eqt.lineages := eqt_of_only (fun x => x.lineages) hu (by decide)
  refine ⟨?_, fun j hj => (calm_of_only hu (by decide) j).trans (h.others j hj), fun k hk => by rw [hlineages, h.lineages k hk],
    (cmds_of_only hu (by decide)).trans h.cmds, only_trans h.only (only_mono hu (by decide))⟩
  rw [hsess i (by rw [h.sess]; exact fun hstate => nomatch hstate), h.sess]

section Calm
variable {s u : State} {i : Nat} (h : SessionOnly i s u) (hcalm : Calm (u.sess i)) (hlin : (u.sess i).lineage = (s.sess i).lineage)
include h hcalm hlin

/-- A session that becomes FREE with nothing on its way to its host. -/
theorem freed_of_calm : Freed i (s.sess i).lineage s ((u.holdUnsettled i).freeSess i) := by
  have hfreed := freed_freeSess (u.modSess i settledSess) i
  have hsame : ((u.modSess i settledSess).sess i).lineage = (s.sess i).lineage :=
    (congrArg Session.lineage (sess_setSess_same u i _)).trans hlin
  rw [hsame] at hfreed
  rw [holdUnsettled_calm hcalm]
  exact freed_from (sessionOnly_trans h (sessionOnly_modSess u i _)) hfreed

theorem lineage_of_calm {l : Lineage} (hl : aget s.eqt.lineages (s.sess i).lineage = some l) (hbound : l.bound = some i) :
    aget ((u.holdUnsettled i).freeSess i).eqt.lineages (s.sess i).lineage =
      if (u.sess i).releaseLineage then none else some (unboundAt s l) := by
  have hsess : (u.modSess i settledSess).sess i = settledSess (u.sess i) := sess_setSess_same u i _
  have hsame : ((u.modSess i settledSess).sess i).lineage = (s.sess i).lineage := (congrArg Session.lineage hsess).trans hlin
  have hfound : aget (u.modSess i settledSess).eqt.lineages ((u.modSess i settledSess).sess i).lineage = some l := by
    rw [hsame, ← hl]
    exact congrArg (aget · _) h.lineages
  have hleft : unboundAt (u.modSess i settledSess) l = unboundAt s l := by
    have hnow : u.now = s.now := h.only .clock (by decide)
    have hrv : u.rv .eqtSessCfg = s.rv .eqtSessCfg := rv_of_regs (h.only .regs (by decide)) _
    show ({ l with bound := none, holdUntil := u.now + 1000000000 * fld (u.rv .eqtSessCfg) 31 16 } : Lineage) = _
    rw [hnow, hrv]
    rfl
  have hkey := lineage_freeSess hfound hbound
  rw [hleft, hsame, hsess] at hkey
  rw [holdUnsettled_calm hcalm]
  exact hkey

end Calm

/-- A session in ADMITTING of which nothing is on its way returns to FREE, and the lineage that its admission created is released (R296). -/
theorem freed_abandon {s : State} {i : Nat} (hstate : (s.sess i).state = .admitting) (hcalm : Calm (s.sess i))
    (hcreated : (s.sess i).createdLineage = true) :
    Freed i (s.sess i).lineage s (s.abandon i) ∧ aget (s.abandon i).eqt.lineages (s.sess i).lineage = none := by
  have habandon : s.abandon i = ((s.holdUnsettled i).freeSess i).releaseLineage (s.sess i).lineage := by
    unfold State.abandon
    dsimp only
    rw [if_pos hstate, if_pos hcreated]
  rw [habandon]
  exact ⟨freed_setLineages (freed_of_calm (sessionOnly_refl i s) hcalm rfl) fun k hk => aget_adel_other _ hk, aget_adel_same _ _⟩

/-! ## Disconnect requests -/

/-- A session that the host has asked to end. -/
def closingSess (x : Session) (release : Bool) : Session :=
  { x with state := .closing, releaseLineage := release, reqs := x.reqs.map noFetch }

theorem dreq_eq {s : State} {i : Nat} (h : (s.sess i).state = .active) (release : Bool) :
    s.dreq i release = ((s.setSess i (closingSess (s.sess i) release)).releaseClaimOf i).freeCheck i := if_pos h

theorem releaseClaimOf_none {s : State} {i : Nat} (h : s.heldSource i = none) : s.releaseClaimOf i = s := by
  unfold State.releaseClaimOf
  rw [h]

theorem still_releaseClaimOf (s : State) (i : Nat) : Still s (s.releaseClaimOf i) := by
  unfold State.releaseClaimOf
  split
  · exact still_refl s
  · exact still_releaseClaim s _

theorem freeCheck_busy {s : State} {i : Nat} (h : s.cmdsOf i ≠ []) : s.freeCheck i = s := by
  unfold State.freeCheck
  dsimp only
  exact if_pos (by simpa using h)

theorem freeCheck_closing {s : State} {i : Nat} (h : s.cmdsOf i = []) (hstate : (s.sess i).state = .closing) :
    s.freeCheck i = ((s.emit (.cm (s.sess i).path.port (.drep i))).holdUnsettled i).freeSess i := by
  unfold State.freeCheck
  dsimp only
  rw [if_neg (by simp [h]), if_neg (by rw [hstate]; exact fun h => nomatch h), if_pos hstate]

theorem cmdsOf_of_cmds {s t : State} (h : t.eqt.cmds = s.eqt.cmds) (i : Nat) : t.cmdsOf i = s.cmdsOf i := by
  simp only [State.cmdsOf, h]

/-- A DREQ of a session without commands frees it at once. -/
theorem dreq_freed {s : State} {i : Nat} {release : Bool} {l : Lineage} (hstate : (s.sess i).state = .active) (hcmds : s.cmdsOf i = [])
    (hcalm : Calm (s.sess i)) (hheld : s.heldSource i = none) (hl : aget s.eqt.lineages (s.sess i).lineage = some l)
    (hbound : l.bound = some i) : Freed i (s.sess i).lineage s (s.dreq i release) ∧
      aget (s.dreq i release).eqt.lineages (s.sess i).lineage = if release then none else some (unboundAt s l) := by
  have hsess : (s.setSess i (closingSess (s.sess i) release)).sess i = closingSess (s.sess i) release := sess_setSess_same s i _
  have hone : SessionOnly i s (s.setSess i (closingSess (s.sess i) release)) := sessionOnly_setSess s i _
  have hdreq : s.dreq i release = (s.setSess i (closingSess (s.sess i) release)).freeCheck i := by
    rw [dreq_eq hstate, releaseClaimOf_none (s := s.setSess i _) hheld]
  have hquiet : (s.setSess i (closingSess (s.sess i) release)).cmdsOf i = [] := hcmds
  rw [hdreq]
  generalize s.setSess i (closingSess (s.sess i) release) = u at hsess hone hquiet ⊢
  rw [freeCheck_closing hquiet (by rw [hsess]; rfl)]
  generalize Out.cm (u.sess i).path.port (CmOut.drep i) = o
  have hemit : (u.emit o).sess i = closingSess (s.sess i) release := hsess
  have hcalm : Calm ((u.emit o).sess i) := by
    rw [hemit]
    exact ⟨by simp [closingSess, hcalm.1], hcalm.2⟩
  have hlin : ((u.emit o).sess i).lineage = (s.sess i).lineage := by rw [hemit]; rfl
  have hwhole : SessionOnly i s (u.emit o) := sessionOnly_trans hone (sessionOnly_emit u i o)
  have hkey := lineage_of_calm hwhole hcalm hlin hl hbound
  rw [hemit] at hkey
  exact ⟨freed_of_calm hwhole hcalm hlin, hkey⟩

/-- A DREQ of a session with commands in flight stops it, and it is freed later. -/
theorem dreq_closing {s : State} {i : Nat} (release : Bool) (hstate : (s.sess i).state = .active) (hcmds : s.cmdsOf i ≠ []) :
    Still (s.setSess i (closingSess (s.sess i) release)) (s.dreq i release) := by
  have hstill := still_releaseClaimOf (s.setSess i (closingSess (s.sess i) release)) i
  have hsame : ((s.setSess i (closingSess (s.sess i) release)).releaseClaimOf i).cmdsOf i = s.cmdsOf i :=
    cmdsOf_of_cmds (still_eqt_field (fun x => x.cmds) hstill) i
  rw [dreq_eq hstate, freeCheck_busy (by rw [hsame]; exact hcmds)]
  exact hstill

/-! ## Admissions -/

theorem wakeEvent_run {s : State} {k : Nat} (hk : k ≠ 7) (hpoint : s.pwr.point = 0) (hchange : s.pwr.change = none) : s.wakeEvent k = s := by
  unfold State.wakeEvent
  rw [if_neg hk]
  dsimp only
  rw [hchange]
  exact if_pos (.inl hpoint)

/-- Whether a REQ finds an activation at work (R295). -/
def State.admissionsHeld (s : State) : Bool := match s.eqt.activation with | some a => within a.step 1 4 | none => false

/-- A REQ that arrives in the operating point Run, over a port with its link. -/
theorem req_eq {s : State} {port : Nat} (m : ReqMsg) (hport : port < 2) (hlink : (s.port port).link = true) (hpoint : s.pwr.point = 0)
    (hchange : s.pwr.change = none) : s.req port m =
      if s.admissionsHeld then
        ({ s with eqt := { s.eqt with mraQueue := s.eqt.mraQueue ++ [(port, m)] } } : State).emit (.cm port .mra)
      else match s.admCheck m with
        | some (reason, status) => s.emit (.cm port (.rej reason status))
        | none => match s.reqPaths m with
          | some (p, alt) => s.admitReq m p alt
          | none => s := by
  have hwhere : ¬(2 ≤ port ∨ (!(s.port port).link) = true) := by simp [hlink, hport]
  unfold State.req
  dsimp only
  rw [if_neg hwhere, wakeEvent_run (by decide) hpoint hchange]
  rfl

theorem admissionsHeld_none {s : State} (h : s.eqt.activation = none) : s.admissionsHeld = false := by
  unfold State.admissionsHeld
  rw [h]

/-- The lineage that an admission creates (R297). -/
def State.newLineage (s : State) (m : ReqMsg) : Lineage :=
  { token := (Config.random s.free).setWidth 128, group := adm m 2 1, bound := none, holdUntil := 0, held := [], memory := [], oldPending := 0 }

/-- The state in which an admission has created its lineage. -/
def State.lineageMade (s : State) (m : ReqMsg) : State :=
  { s with
    free := s.free + 1,
    eqt := { s.eqt with lineages := aput s.eqt.lineages s.eqt.nextLineage (s.newLineage m), nextLineage := s.eqt.nextLineage + 1 } }

/-- The lineage that an admission binds to its session. -/
def State.boundLineage (s : State) (m : ReqMsg) (i : Nat) : Lineage :=
  { s.newLineage m with
    bound := some i, held := [], oldPending := (s.eqt.cmds.filter fun c => c.2.lineage == s.eqt.nextLineage).length }

/-- What a REP leaves of an admission that creates its lineage. -/
structure Admitted (m : ReqMsg) (p : Path) (alt : Option Path) (s t : State) : Prop where
  sess : calmSession (t.sess (freeKey s.eqt.sessions 0)) = calmSession (s.newSession m p alt s.eqt.nextLineage true)
  others : ∀ j, j ≠ freeKey s.eqt.sessions 0 → calmSession (t.sess j) = calmSession (s.sess j)
  next : t.eqt.nextLineage = s.eqt.nextLineage + 1
  lineage : aget t.eqt.lineages s.eqt.nextLineage = some (s.boundLineage m (freeKey s.eqt.sessions 0))
  lineages : ∀ l, l ≠ s.eqt.nextLineage → aget t.eqt.lineages l = aget s.eqt.lineages l
  free : t.free = s.free + 1
  cmds : t.eqt.cmds = s.eqt.cmds
  only : Only [.free, .eqt] s t

theorem only_lineageMade (s : State) (m : ReqMsg) : Only [.free, .eqt] s (s.lineageMade m) := by
  unfold State.lineageMade
  simp [only_iff]

/-- The state in which an admission has bound its lineage to its session, before the REP leaves. -/
def State.sessionMade (s : State) (m : ReqMsg) (p : Path) (alt : Option Path) : State :=
  ((s.lineageMade m).setSess (freeKey s.eqt.sessions 0) (s.newSession m p alt s.eqt.nextLineage true)).modLin s.eqt.nextLineage fun y =>
    { y with
      bound := some (freeKey s.eqt.sessions 0), held := [],
      oldPending := (s.eqt.cmds.filter fun c => c.2.lineage == s.eqt.nextLineage).length }

/-- A REP to an admission that creates its lineage. -/
theorem admitReq_eq {s : State} {m : ReqMsg} (p : Path) (alt : Option Path) (hresume : admResume m = false) :
    ∃ o, s.admitReq m p alt = ((s.sessionMade m p alt).stamped).emit o := by
  have htake : s.takeLineage m = (s.lineageMade m, s.eqt.nextLineage) := by
    unfold State.takeLineage
    rw [if_neg (by simp [hresume])]
    rfl
  have hfound : aget (s.lineageMade m).eqt.lineages s.eqt.nextLineage = some (s.newLineage m) := aget_aput_same _ _ _
  unfold State.admitReq
  dsimp only
  rw [htake]
  dsimp only
  rw [hfound]
  dsimp only
  rw [hresume]
  exact ⟨_, rfl⟩

theorem admitted_sessionMade (s : State) (m : ReqMsg) (p : Path) (alt : Option Path) : Admitted m p alt s (s.sessionMade m p alt) := by
  have hlineage : aget (s.sessionMade m p alt).eqt.lineages s.eqt.nextLineage = some (s.boundLineage m (freeKey s.eqt.sessions 0)) :=
    (aget_amod_same _ _ _).trans (congrArg (Option.map _) (aget_aput_same s.eqt.lineages s.eqt.nextLineage (s.newLineage m)))
  have hother (l : Nat) (hl : l ≠ s.eqt.nextLineage) : aget (s.sessionMade m p alt).eqt.lineages l = aget s.eqt.lineages l :=
    (aget_amod_other _ _ hl).trans (aget_aput_other s.eqt.lineages (s.newLineage m) hl)
  have hsess (j : Nat) : (s.sessionMade m p alt).sess j = ((s.lineageMade m).setSess (freeKey s.eqt.sessions 0)
      (s.newSession m p alt s.eqt.nextLineage true)).sess j := rfl
  refine ⟨?_, fun j hj => ?_, rfl, hlineage, hother, rfl, rfl, ?_⟩
  · rw [hsess, sess_setSess_same]
  · rw [hsess, sess_setSess_other _ _ hj]
    rfl
  · exact only_step (only_step (only_lineageMade s m) (only_setEqt (s.lineageMade m) _)) (only_setEqt _ _)

theorem admitted_answer {m : ReqMsg} {p : Path} {alt : Option Path} {s t u : State} (h : Admitted m p alt s t) (hu : Only [] t u) :
    Admitted m p alt s u := by
  have hlineages : u.eqt.lineages = t.eqt.lineages := eqt_of_only (fun x => x.lineages) hu (by decide)
  exact ⟨(calm_of_only hu (by decide) _).trans h.sess, fun j hj => (calm_of_only hu (by decide) j).trans (h.others j hj),
    (eqt_of_only (fun x => x.nextLineage) hu (by decide)).trans h.next, by rw [hlineages, h.lineage],
    fun l hl => by rw [hlineages, h.lineages l hl], (hu .free (by decide)).trans h.free, (cmds_of_only hu (by decide)).trans h.cmds,
    only_trans h.only (only_mono hu (by decide))⟩

theorem admitted_admitReq {s : State} {m : ReqMsg} (p : Path) (alt : Option Path) (hresume : admResume m = false) :
    Admitted m p alt s (s.admitReq m p alt) := by
  obtain ⟨o, h⟩ := admitReq_eq (s := s) p alt hresume
  rw [h]
  exact admitted_answer (admitted_sessionMade s m p alt) (only_step (only_stamped _) (only_emit _ o))

/-- Settles O43: a session that becomes FREE is not eligible for event records, so it stands as the row leaves it. -/
theorem sessionsAndLineages : Obligations.SessionsAndLineages := by
  unfold Obligations.SessionsAndLineages
  refine ⟨?_, ?_, ?_, ?_, ?_, ?_, ?_, ?_, ?_, ?_, ?_, ?_, ?_, ?_, ?_, ?_, ?_, ?_⟩
  · intro s port m hready hlink
    exact gives_still (exec_req port m s) hready rfl (still_of_eq (if_pos (.inr (by simp [hlink]))))
  · intro s port m x hready hlink hact hone hfour hpoint hchange
    have hport : port < 2 := of_decide_eq_true hready.1
    have hbusy : s.admissionsHeld = true := by simp [State.admissionsHeld, hact, within, hone, hfour]
    refine gives_still (exec_req port m s) hready rfl (still_of_eq ?_)
    rw [req_eq m hport hlink hpoint hchange, hbusy]
    rfl
  · intro s port reason status m hready hlink hact hpoint hchange hcheck
    have hport : port < 2 := of_decide_eq_true hready.1
    refine gives_still (exec_req port m s) hready rfl (still_of_eq ?_)
    rw [req_eq m hport hlink hpoint hchange, admissionsHeld_none hact, hcheck]
    rfl
  · intro s port m p alt hready hlink hact hpoint hchange hcheck hpaths hresume
    have hport : port < 2 := of_decide_eq_true hready.1
    have hadmit : s.req port m = s.admitReq m p alt := by
      rw [req_eq m hport hlink hpoint hchange, admissionsHeld_none hact, hcheck, hpaths]
      rfl
    refine gives_only (exec_req port m s) hready fun t ht => ?_
    rw [hadmit] at ht
    have h := admitted_answer (admitted_admitReq p alt hresume) ht
    exact ⟨h.sess, h.others, h.next, h.lineage, h.lineages, h.free, h.cmds, h.only⟩
  · intro s ix hready hraised hstate hcq
    have hrtu : s.rtu ix = s.setSess ix { s.sess ix with state := .active, rateStep := s.now } := by
      unfold State.rtu
      dsimp only
      rw [if_pos hstate, hcq]
      rfl
    refine gives_reached (exec_rtu ix s) hready fun t honly _ _ hall => ?_
    rw [hrtu] at honly hall
    have heqt := hall (levelsRaised_setSess ix _ hraised)
    have hsess := sess_of_eqt heqt
    refine ⟨?_, fun i hi => ?_, by rw [heqt]; rfl, by rw [heqt]; rfl, only_trans (only_setEqt s _) (only_mono honly (by decide))⟩
    · rw [hsess, sess_setSess_same]
    · rw [hsess, sess_setSess_other _ _ hi]
  · intro s ix hready hstate
    exact gives_still (exec_rtu ix s) hready rfl (still_of_eq (if_neg hstate))
  · intro s ix release l hready hstate hcmds hreqs hcq hl hbound hheld
    obtain ⟨hfreed, hlineage⟩ := dreq_freed (release := release) hstate hcmds ⟨hreqs, hcq⟩ hheld hl hbound
    refine gives_reached (exec_dreq ix release s) hready fun t honly _ hkept _ => ?_
    have h := freed_answer hfreed honly hkept
    have hlineages : t.eqt.lineages = (s.dreq ix release).eqt.lineages := eqt_of_only (fun x => x.lineages) honly (by decide)
    exact ⟨h.sess, h.others, (congrArg (aget · _) hlineages).trans hlineage, h.lineages, h.cmds, h.only⟩
  · intro s ix release hready hstate hcmds
    refine gives_only (exec_dreq ix release s) hready fun t ht => ?_
    have honly := only_step (only_of_still (ps := []) (dreq_closing release hstate hcmds)) ht
    have h := sessionOnly_trans (sessionOnly_setSess s ix (closingSess (s.sess ix) release)) (sessionOnly_of_only ix honly)
    have hsess := calm_of_only honly (by decide) ix
    rw [sess_setSess_same] at hsess
    exact ⟨sess_field Session.state hsess, sess_field Session.releaseLineage hsess, h.others, h.cmds, h.lineages, h.only⟩
  · intro s ix release hready hstate
    exact gives_still (exec_dreq ix release s) hready rfl (still_of_eq (if_neg hstate))
  · intro s ix hready
    exact gives_still (exec_drep ix s) hready rfl (still_refl s)
  · intro s ix r q hready hstate hpath hport
    refine gives_still (exec_lap ix r s) hready rfl (still_of_eq ?_)
    unfold State.lap
    dsimp only
    rw [if_pos hstate, hpath]
    dsimp only
    rw [if_pos hport]
  · intro s ix r hready hstate hpath
    refine gives_still (exec_lap ix r s) hready rfl (still_of_eq ?_)
    unfold State.lap
    dsimp only
    rw [if_pos hstate, hpath]
  · intro s ix hready hstate hreqs hcq hcreated
    obtain ⟨hfreed, hlineage⟩ := freed_abandon hstate ⟨hreqs, hcq⟩ hcreated
    refine gives_reached (exec_rej ix s) hready fun t honly _ hkept _ => ?_
    have h := freed_answer hfreed honly hkept
    have hlineages : t.eqt.lineages = (s.abandon ix).eqt.lineages := eqt_of_only (fun x => x.lineages) honly (by decide)
    exact ⟨h.sess, h.others, (congrArg (aget · _) hlineages).trans hlineage, h.lineages, h.cmds, h.only⟩
  · intro s ix hready hstate
    exact gives_still (exec_rej ix s) hready rfl (still_of_eq (if_neg hstate))
  · intro s ix hready hstate hreqs hcq hcreated
    have htimeout : s.admitTimeout ix = (s.advanceTo (s.sess ix).admitDeadline).abandon ix := if_pos hstate
    have hlater := only_advanceTo s (s.sess ix).admitDeadline
    have hclock : (s.advanceTo (s.sess ix).admitDeadline).now = max s.now (s.sess ix).admitDeadline := now_advanceTo s _
    have heqt : (s.advanceTo (s.sess ix).admitDeadline).eqt = s.eqt := rfl
    refine gives_reached (exec_admitTimeout ix s) hready fun t honly _ hkept _ => ?_
    rw [htimeout] at honly hkept
    generalize s.advanceTo (s.sess ix).admitDeadline = u at hlater hclock heqt honly hkept
    have hsess := sess_of_eqt heqt
    obtain ⟨hfreed, hlineage⟩ := freed_abandon (s := u) (i := ix) (by rw [hsess, hstate]) (by rw [hsess]; exact ⟨hreqs, hcq⟩)
      (by rw [hsess, hcreated])
    have h := freed_answer hfreed honly hkept
    have hlineages : t.eqt.lineages = (u.abandon ix).eqt.lineages := eqt_of_only (fun x => x.lineages) honly (by decide)
    rw [← hlineages, hsess] at hlineage
    refine ⟨h.sess, fun j hj => (h.others j hj).trans (by rw [hsess]), hlineage, fun k hk => ?_, h.cmds.trans (by rw [heqt]),
      (h.only .clock (by decide)).trans hclock, only_step (only_mono hlater (by decide)) h.only⟩
    rw [h.lineages k (by rw [hsess]; exact hk), heqt]
  · intro s ix hready hstate
    exact gives_still (exec_admitTimeout ix s) hready rfl (still_of_eq (if_neg hstate))
  · intro s l x hready hl hbound
    refine gives_still (exec_lineageRelease l s) hready rfl (still_of_eq ?_)
    unfold State.lineageRelease
    rw [hl]
    dsimp only
    rw [if_pos (by rw [hbound]; rfl)]
    rfl
  · intro s l x hready hl hbound
    refine gives_still (exec_lineageRelease l s) hready rfl (still_of_eq ?_)
    unfold State.lineageRelease
    rw [hl]
    dsimp only
    rw [if_neg]
    cases hb : x.bound with
    | none => rw [hb] at hbound; exact nomatch hbound
    | some j => simp


end Sys2Proof.Machine
end

section
/-! SUPPORT. What writing into the completion ring leaves of a session, and the requests of a session as the host answers them (R288-R292, R396-R403). -/

namespace Sys2Proof.Machine

open Sys2Proof

-- One declaration at a time: proofs elaborated side by side hold a stack each, and the check bounds their sum.
set_option Elab.async false

theorem dropWhile_eq_nil {α : Type} {p : α → Bool} {l : List α} (h : ∀ x ∈ l, p x = true) : l.dropWhile p = [] := by
  induction l with
  | nil => rfl
  | cons x l ih =>
    rw [List.dropWhile_cons_of_pos (h x List.mem_cons_self)]
    exact ih fun y hy => h y (List.mem_cons_of_mem x hy)

/-! ## A session but for its completion ring -/

/-- What a session holds besides its rings, the requests on their way to its host, and the moments of its grants. -/
def coreSession (x : Session) : Session :=
  { calmSession x with cq := emptyCompRing, grants := x.grants.map fun g => { g with notified := false, deadline := 0 } }

/-- Of the host interface only the rings of the session i and the requests on their way to its host change. -/
structure RingOnly (i : Nat) (s t : State) : Prop where
  session : SessionOnly i s t
  core : coreSession (t.sess i) = coreSession (s.sess i)

theorem ringOnly_trans {i : Nat} {s t u : State} (h : RingOnly i s t) (k : RingOnly i t u) : RingOnly i s u :=
  ⟨sessionOnly_trans h.session k.session, k.core.trans h.core⟩

theorem coreSession_of_calm {x y : Session} (h : calmSession x = calmSession y) : coreSession x = coreSession y :=
  congrArg (fun z : Session => ({ z with
    cq := emptyCompRing, grants := z.grants.map fun g => { g with notified := false, deadline := 0 } } : Session)) h

theorem ringOnly_of_only {s t : State} (i : Nat) (h : Only [] s t) : RingOnly i s t :=
  ⟨sessionOnly_of_only i h, coreSession_of_calm (calm_of_only h (by decide) i)⟩

theorem core_setRing (x : Session) (q : CompRing) : coreSession { x with cq := q } = coreSession x := rfl

theorem ringOnly_refl (i : Nat) (s : State) : RingOnly i s s := ringOnly_of_only i (only_refl [] s)

theorem ringOnly_setSess {s : State} {i : Nat} {x : Session} (h : coreSession x = coreSession (s.sess i)) : RingOnly i s (s.setSess i x) :=
  ⟨sessionOnly_setSess s i x, by rw [sess_setSess_same, h]⟩

theorem ringOnly_ite {i : Nat} {p : Prop} [Decidable p] {s t u : State} (h : p → RingOnly i s t) (k : ¬p → RingOnly i s u) :
    RingOnly i s (if p then t else u) := by
  split
  · exact h ‹_›
  · exact k ‹_›

section Ring
variable (s : State) (i : Nat)

theorem ringOnly_sendPkt (p : Pkt) : RingOnly i s (s.sendPkt i p) := ringOnly_of_only i (only_of_still (still_sendPkt s i p))

theorem ringOnly_request (n : Nat) (k : ReqKind) : RingOnly i s (s.request i n k) := ringOnly_of_only i (only_of_still (still_request s i n k))

theorem ringOnly_sent {x : Session} (p : Pkt) (k : ReqKind) (h : coreSession x = coreSession (s.sess i)) :
    RingOnly i s (((s.setSess i x).sendPkt i p).request i 1 k) :=
  ringOnly_trans (ringOnly_trans (ringOnly_setSess h) (ringOnly_sendPkt _ i p)) (ringOnly_request _ i 1 k)

theorem ringOnly_notify (ring : Nat) : RingOnly i s (s.notify i ring) := by
  unfold State.notify
  dsimp only
  refine ringOnly_ite (fun _ => ringOnly_sent s i _ _ ?_) fun _ => ringOnly_setSess ?_
  · split
    · rfl
    · rfl
  · split
    · rfl
    · rfl

theorem ringOnly_sendPending : RingOnly i s (s.sendPending i) := by
  have hclear : RingOnly i s (s.setSess i { s.sess i with pendNotify := false }) := ringOnly_setSess rfl
  unfold State.sendPending
  dsimp only
  refine ringOnly_ite (fun _ => ?_) fun _ => ringOnly_refl i s
  have hcq : RingOnly i s (if (s.sess i).cq.fresh then (s.setSess i { s.sess i with pendNotify := false }).notify i 1
      else s.setSess i { s.sess i with pendNotify := false }) :=
    ringOnly_ite (fun _ => ringOnly_trans hclear (ringOnly_notify _ i 1)) fun _ => hclear
  exact ringOnly_ite (fun _ => ringOnly_trans hcq (ringOnly_notify _ i 2)) fun _ => hcq

/-- A grant is notified when its entry is written. -/
theorem ringOnly_grantSent (id : BitVec 64) : RingOnly i s (s.modSess i fun y => { y with grants := y.grants.map fun h =>
    if h.entry.cmdId = id then { h with notified := true, deadline := s.now + h.tmo } else h }) := by
  refine ringOnly_setSess ?_
  simp only [coreSession, List.map_map]
  congr 1
  refine List.map_congr_left fun g _ => ?_
  simp only [Function.comp_apply]
  split
  · rfl
  · rfl

theorem ringOnly_cqWriteOne (it : CqItem) : RingOnly i s (s.cqWriteOne i it) := by
  unfold State.cqWriteOne
  dsimp only
  split
  · exact ringOnly_trans (ringOnly_trans (ringOnly_sent s i _ _ (core_setRing _ _)) (ringOnly_grantSent _ i _)) (ringOnly_notify _ i 1)
  · have hsent (p : Pkt) (k : ReqKind) (q : CompRing) := ringOnly_sent s i p k (core_setRing (s.sess i) q)
    exact ringOnly_ite (fun _ => ringOnly_trans (hsent _ _ _) (ringOnly_notify _ i 1)) fun _ => hsent _ _ _

theorem ringOnly_cqDrain (n : Nat) : RingOnly i s (s.cqDrain i n) := by
  induction n generalizing s with
  | zero => exact ringOnly_refl i s
  | succ n ih =>
    unfold State.cqDrain
    dsimp only
    split
    · split
      · exact ringOnly_refl i s
      · exact ringOnly_trans (ringOnly_cqWriteOne s i _) (ih _)
    · exact ringOnly_refl i s

theorem ringOnly_cqPush (it : CqItem) : RingOnly i s (s.cqPush i it) :=
  ringOnly_trans (ringOnly_setSess (core_setRing (s.sess i) _)) (ringOnly_cqDrain _ i _)

end Ring

/-! ## Migration -/

/-- A session that has taken its alternate path. -/
def migrated (x : Session) (p : Path) (now : Nat) : Session :=
  { x with
    path := p, alt := none, silentSince := if x.reqs.isEmpty then none else some now,
    reqs := x.reqs.map fun r => { r with tries := 0, rnrTries := 0, deadline := now + ackTimeout x } }

/-- A migration changes the path alone, beside what it sends. -/
theorem ringOnly_migrate {s : State} {i : Nat} {p : Path} (h : (s.sess i).alt = some p) :
    RingOnly i (s.setSess i (migrated (s.sess i) p s.now)) (s.migrate i) := by
  unfold State.migrate
  dsimp only
  rw [h]
  dsimp only
  refine ringOnly_trans (ringOnly_trans ?_ (ringOnly_sendPending _ i)) (ringOnly_cqDrain _ i _)
  split
  · exact ringOnly_sendPkt _ i _
  · exact ringOnly_refl i _

/-- A field that neither the rings of a session nor what it sends rest on. -/
theorem core_field {α : Type} {x y : Session} (f : Session → α) (h : coreSession x = coreSession y)
    (hf : ∀ z, f (coreSession z) = f z := by exact fun _ => rfl) : f x = f y := by rw [← hf x, h, hf y]

/-! ## The host's answers -/

theorem setSess_setSess (s : State) (i : Nat) (x y : Session) : (s.setSess i x).setSess i y = s.setSess i y := by
  simp only [State.setSess, acanon_acanon]

theorem modSess_setSess (s : State) (i : Nat) (x : Session) (f : Session → Session) : (s.setSess i x).modSess i f = s.setSess i (f x) := by
  rw [State.modSess, sess_setSess_same, setSess_setSess]

/-- A session that has heard from the host, with the requests that stay. -/
def answeredSess (x : Session) (l : List DevReq) (now : Nat) : Session :=
  { x with reqs := l, silentSince := if l.isEmpty then none else some now }

theorem heard_setSess (s : State) (i : Nat) (x : Session) (l : List DevReq) :
    (s.setSess i { x with reqs := l }).heard i = s.setSess i (answeredSess x l s.now) := modSess_setSess s i _ _

theorem still_answered (s : State) (i : Nat) (l : List DevReq) : Still s (s.setSess i (answeredSess (s.sess i) l s.now)) :=
  still_setSess s i _ rfl

theorem freeCheck_active {s : State} {i : Nat} (h : (s.sess i).state = .active) : s.freeCheck i = s := by
  unfold State.freeCheck
  dsimp only
  rw [if_neg (c := (s.sess i).state = .error) (by rw [h]; exact fun h => nomatch h),
    if_neg (c := (s.sess i).state = .closing) (by rw [h]; exact fun h => nomatch h)]
  split
  · rfl
  · rfl

theorem pump_idle {s : State} {i : Nat} (h : s.readerOf i = none) : s.pump i = s := by
  unfold State.pump State.pumpReads
  split
  · rfl
  · rw [h]

/-- The entries of a fetch arrive on a session that is ACTIVE. -/
theorem readResponse_fetch {s : State} {i slot n : Nat} {r : DevReq} {rest : List DevReq} (bytes : List Byte) (bad : Nat)
    (hstate : (s.sess i).state = .active) (hreqs : (s.sess i).reqs = r :: rest) (hkind : r.kind = .fetch slot n) :
    s.readResponse i bytes bad =
      (((s.setSess i (answeredSess (s.sess i) rest s.now)).fetchArrived i slot n bytes).pump i).freeCheck i := by
  have hread : isRead r.kind = true := by rw [hkind]; rfl
  have hlive : ¬((s.sess i).state ≠ .active ∧ (s.sess i).state ≠ .closing) := fun h => h.1 hstate
  have hdrop : ((s.sess i).reqs.dropWhile fun r => !isRead r.kind) = r :: rest := by simp [hreqs, hread]
  unfold State.readResponse
  dsimp only
  rw [if_neg hlive, hdrop]
  dsimp only
  rw [hkind, heard_setSess]

/-- A fetch that has been answered is none of the requests that a command waits for. -/
theorem nextRead_answered {x : Session} {r : DevReq} {rest : List DevReq} {slot n : Nat} (hreqs : x.reqs = r :: rest)
    (hkind : r.kind = .fetch slot n) (now t : Nat) (c : Cmd) : nextRead (answeredSess x rest now) t c = nextRead x t c := by
  have hlist : (x.reqs.any fun r => r.kind == .rangeList t) = rest.any fun r => r.kind == .rangeList t := by simp [hreqs, hkind]
  have hchain : (x.reqs.any fun r => r.kind == .chain t) = rest.any fun r => r.kind == .chain t := by simp [hreqs, hkind]
  have hleft : (answeredSess x rest now).reqs = rest := rfl
  simp only [nextRead, hleft, hlist, hchain]

theorem readerOf_answered {s : State} {i : Nat} {r : DevReq} {rest : List DevReq} {slot n : Nat} (hreqs : (s.sess i).reqs = r :: rest)
    (hkind : r.kind = .fetch slot n) : (s.setSess i (answeredSess (s.sess i) rest s.now)).readerOf i = s.readerOf i := by
  unfold State.readerOf
  rw [sess_setSess_same]
  simp only [nextRead_answered hreqs hkind]
  rfl

/-- The only command of a session, just handed on, needs no read. -/
theorem readerOf_handed {s : State} {i : Nat} (h : ∀ e ∈ s.cmdsOf i, e.2.phase = .handed) : s.readerOf i = none := by
  have hnone : ((s.cmdsOf i).filter fun e => (nextRead (s.sess i) e.1 e.2).isSome) = [] := by
    refine List.filter_eq_nil_iff.mpr fun e he => ?_
    have hwork : inWork e.2 = false := by simp [inWork, h e he]
    simp [nextRead, hwork]
  unfold State.readerOf
  rw [hnone]
  rfl

/-- One entry arrives on a session without commands: it gets the lowest free tag and is the only command. -/
theorem readResponse_entry {s : State} {i slot : Nat} {r : DevReq} {rest : List DevReq} (bytes : List Byte) (bad : Nat)
    (hstate : (s.sess i).state = .active) (hreqs : (s.sess i).reqs = r :: rest) (hkind : r.kind = .fetch slot 1)
    (hfetch : (s.sess i).stopFetch = false) (hnone : s.cmdsOf i = []) : s.readResponse i bytes bad =
      (s.setSess i (answeredSess (s.sess i) rest s.now)).entryArrived i slot (BitVec.ofNat 512 (leAt bytes 0 64)) := by
  have hsess : (s.setSess i (answeredSess (s.sess i) rest s.now)).sess i = answeredSess (s.sess i) rest s.now := sess_setSess_same s i _
  have hquiet : (s.setSess i (answeredSess (s.sess i) rest s.now)).cmdsOf i = [] := hnone
  rw [readResponse_fetch bytes bad hstate hreqs hkind]
  generalize s.setSess i (answeredSess (s.sess i) rest s.now) = u at hsess hquiet ⊢
  have harrived : u.fetchArrived i slot 1 bytes = u.entryArrived i slot (BitVec.ofNat 512 (leAt bytes 0 64)) := by
    unfold State.fetchArrived
    rw [if_neg (by rw [hsess]; simp [answeredSess, hfetch])]
    rfl
  have hhanded : ∀ e ∈ (u.entryArrived i slot (BitVec.ofNat 512 (leAt bytes 0 64))).cmdsOf i, e.2.phase = .handed := by
    intro e he
    obtain ⟨hmem, hown⟩ := List.mem_filter.mp he
    rcases mem_aput hmem with rfl | hold
    · rfl
    · have : e ∈ u.cmdsOf i := List.mem_filter.mpr ⟨hold, hown⟩
      rw [hquiet] at this
      exact nomatch this
  have hactive : ((u.entryArrived i slot (BitVec.ofNat 512 (leAt bytes 0 64))).sess i).state = .active := by
    show (u.sess i).state = .active
    rw [hsess]
    exact hstate
  rw [harrived, pump_idle (readerOf_handed hhanded), freeCheck_active hactive]

/-- The deadlines of the requests that are sent again. -/
def resentSess (x : Session) (now : Nat) : Session := { x with reqs := x.reqs.map fun r => { r with deadline := now + ackTimeout x } }

theorem resendFrom_setSess (s : State) (i : Nat) (x : Session) (psn : BitVec 24) :
    (s.setSess i x).resendFrom i psn = (s.setSess i (resentSess x s.now)).sendPkt i (.resend psn true) := by
  unfold State.resendFrom
  rw [modSess_setSess]
  rfl

/-- What a request sent again leaves. -/
structure Resent (i : Nat) (psn : BitVec 24) (x : Session) (s t : State) : Prop where
  sess : t.sess i = x
  others : ∀ j, j ≠ i → t.sess j = s.sess j
  sent : PktsKept ((s.setSess i x).sendPkt i (.resend psn true)) t
  still : calmSession x = calmSession (s.sess i) → Still s t
  src : t.evc = s.evc

theorem resent_sendPkt (s : State) (i : Nat) (psn : BitVec 24) (x : Session) :
    Resent i psn x s ((s.setSess i x).sendPkt i (.resend psn true)) := by
  have hevc : ((s.setSess i x).sendPkt i (.resend psn true)).evc = s.evc := by
    unfold State.sendPkt
    dsimp only
    split
    · rfl
    · rfl
  refine ⟨?_, fun j hj => ?_, pktsKept_refl _, fun h => still_trans (still_setSess s i x h) (still_sendPkt _ i _), hevc⟩
  · rw [sess_sendPkt, sess_setSess_same]
  · rw [sess_sendPkt, sess_setSess_other _ _ hj]

/-- The packet of a request sent again has been sent, on the path of its session. -/
theorem sent_of_resent {i : Nat} {psn : BitVec 24} {x : Session} {s t u : State} (h : Resent i psn x s t) (hpath : x.path = (s.sess i).path)
    (hu : PktsKept t u) : Sent i (.resend psn true) s u :=
  sent_of_sendPkt (u := s.setSess i x) (fun _ => rfl) (by rw [sess_setSess_same, hpath]) (pktsKept_trans h.sent hu)

theorem levelsRaised_of_evc {s t : State} (h : Still s t) (hevc : t.evc = s.evc) (hs : LevelsRaised s) : LevelsRaised t :=
  levelsRaised_of_still h (fun n _ => by simp only [State.src, hevc]) hs

/-! ## The end of a session -/

/-- A session as it enters ERROR (R303). -/
def errorSess (x : Session) : Session :=
  { x with state := .error, pendNotify := true, silentSince := none, ackDue := none, eq := { x.eq with waitingClaim := [] } }

theorem only_dreqSent (s : State) (i : Nat) : Only [] s (s.dreqSent i) := by
  unfold State.dreqSent
  refine only_ite (fun _ => only_emit s _) fun _ => ?_
  split
  · exact only_ite (fun _ => only_emit s _) fun _ => only_refl _ s
  · exact only_refl _ s

theorem dreqSent_keeps (s : State) (i : Nat) : (s.dreqSent i).eqt = s.eqt ∧ (s.dreqSent i).evc = s.evc := by
  unfold State.dreqSent
  split
  · exact ⟨rfl, rfl⟩
  · split
    · split
      · exact ⟨rfl, rfl⟩
      · exact ⟨rfl, rfl⟩
    · exact ⟨rfl, rfl⟩

/-- What becomes of the commands of a session in ERROR, and of the session itself (R305). -/
def State.commandsLost (s : State) (i : Nat) : State := ((s.cmdsOf i).foldl (fun s c => s.lossOutcome c.1 c.2) s).freeCheck i

theorem sessionError_lost {s : State} {i : Nat} (h : (s.sess i).state = .active ∨ (s.sess i).state = .closing) :
    s.sessionError i = ((((s.dreqSent i).modSess i errorSess).releaseClaimOf i).holdUnsettled i).commandsLost i := sessionError_eq h

/-- A session without commands that ends is freed at once, and its lineage is kept for a new session (R305). -/
theorem sessionError_freed {s : State} {i : Nat} {l : Lineage} (hstate : (s.sess i).state = .active ∨ (s.sess i).state = .closing)
    (hcmds : s.cmdsOf i = []) (hheld : s.heldSource i = none) (hcalm : Calm (s.sess i)) (hrelease : (s.sess i).releaseLineage = false)
    (hl : aget s.eqt.lineages (s.sess i).lineage = some l) (hbound : l.bound = some i) :
    Freed i (s.sess i).lineage s (s.sessionError i) ∧
      aget (s.sessionError i).eqt.lineages (s.sess i).lineage = some (unboundAt s l) := by
  obtain ⟨heqt, hevc⟩ := dreqSent_keeps s i
  have hone : SessionOnly i s ((s.dreqSent i).modSess i errorSess) :=
    sessionOnly_trans (sessionOnly_of_only i (only_dreqSent s i)) (sessionOnly_modSess _ i _)
  have hsess : ((s.dreqSent i).modSess i errorSess).sess i = errorSess (s.sess i) := by
    rw [State.modSess, sess_setSess_same, sess_of_eqt heqt]
  have hclaim : ((s.dreqSent i).modSess i errorSess).heldSource i = none := by
    rw [← hheld]
    exact congrArg (fun e : Assoc EvSource => (e.find? fun e => e.2.state == .claimed && e.2.holder == i).map Prod.fst) hevc
  rw [sessionError_lost hstate]
  rw [releaseClaimOf_none hclaim]
  have hnocmds : ((s.dreqSent i).modSess i errorSess).cmdsOf i = [] := (cmdsOf_of_cmds hone.cmds i).trans hcmds
  generalize (s.dreqSent i).modSess i errorSess = u at hone hsess hnocmds
  have hquiet : Calm (u.sess i) := by
    rw [hsess]
    exact hcalm
  have hlin : (u.sess i).lineage = (s.sess i).lineage := by rw [hsess]; rfl
  have hrel : (u.sess i).releaseLineage = false := by rw [hsess]; exact hrelease
  have hheldNone : (u.holdUnsettled i).cmdsOf i = [] := by
    rw [holdUnsettled_calm hquiet]
    exact hnocmds
  have herror : ((u.holdUnsettled i).sess i).state = .error := by
    rw [holdUnsettled_calm hquiet, State.modSess, sess_setSess_same, hsess]
    rfl
  have hkey := lineage_of_calm hone hquiet hlin hl hbound
  rw [hrel] at hkey
  have hfree : (u.holdUnsettled i).freeCheck i = (u.holdUnsettled i).freeSess i := by
    unfold State.freeCheck
    dsimp only
    rw [if_neg (by simp [hheldNone]), if_pos herror]
  rw [State.commandsLost, hheldNone, List.foldl_nil, hfree]
  exact ⟨freed_of_calm hone hquiet hlin, hkey⟩

/-! ## Requests sent again -/

theorem calm_resentSess (x : Session) (now : Nat) : calmSession (resentSess x now) = calmSession x := rfl

theorem calm_answeredSess (x : Session) (l : List DevReq) (now : Nat) : calmSession (answeredSess x l now) = calmSession x := rfl

theorem calm_setReqs (x : Session) (l : List DevReq) : calmSession { x with reqs := l } = calmSession x := rfl

/-- A session is live: ACTIVE, or CLOSING. -/
abbrev Live (x : Session) : Prop := x.state = .active ∨ x.state = .closing

theorem not_dead {x : Session} (h : Live x) : ¬(x.state ≠ .active ∧ x.state ≠ .closing) := fun k => h.elim k.1 k.2

section Live
variable {s : State} {i : Nat} (h : Live (s.sess i))
include h

theorem ackReceive_ack (psn : BitVec 24) : s.ackReceive i .ack psn =
    (s.setSess i (answeredSess (s.sess i) (ackedBy psn (s.sess i).reqs) s.now)).freeCheck i := by
  unfold State.ackReceive
  dsimp only
  rw [if_neg (not_dead h), heard_setSess]

theorem ackReceive_nakSeq (psn : BitVec 24) : s.ackReceive i .nakSeq psn =
    (s.setSess i (resentSess (answeredSess (s.sess i) (ackedBy (psn - 1) (s.sess i).reqs) s.now) s.now)).sendPkt i (.resend psn true) := by
  unfold State.ackReceive
  dsimp only
  rw [if_neg (not_dead h), heard_setSess, resendFrom_setSess]

theorem ackReceive_nak {k : AckKind} (hk : k = .nakAccess ∨ k = .nakOperational ∨ k = .nakInvalid) (psn : BitVec 24) :
    s.ackReceive i k psn = s.sessionError i := by
  unfold State.ackReceive
  dsimp only
  rw [if_neg (not_dead h)]
  rcases hk with rfl | rfl | rfl
  · rfl
  · rfl
  · rfl

variable {r : DevReq} {rest : List DevReq} (hreqs : (s.sess i).reqs = r :: rest)
include hreqs

theorem rnrNak_again (hretry : (s.sess i).rnrRetry = 7 ∨ r.rnrTries < (s.sess i).rnrRetry) : s.rnrNak i =
    (s.setSess i (resentSess (answeredSess (s.sess i) ({ r with rnrTries := r.rnrTries + 1 } :: rest) s.now) s.now)).sendPkt i
      (.resend r.psn true) := by
  have hmore : ¬((s.sess i).rnrRetry < 7 ∧ (s.sess i).rnrRetry ≤ r.rnrTries) := by omega
  unfold State.rnrNak
  dsimp only
  rw [if_neg (not_dead h), hreqs]
  dsimp only
  rw [if_neg hmore, heard_setSess, resendFrom_setSess]

theorem retryTimeout_again (hretry : r.tries < (s.sess i).retry) : s.retryTimeout i =
    ((s.advanceTo r.deadline).setSess i (resentSess { s.sess i with reqs := { r with tries := r.tries + 1 } :: rest }
      (s.advanceTo r.deadline).now)).sendPkt i (.resend r.psn true) := by
  unfold State.retryTimeout
  dsimp only
  rw [if_neg (not_dead h), hreqs]
  dsimp only
  rw [if_neg (by omega), resendFrom_setSess]

theorem retryTimeout_migrate {q : Path} (hretry : (s.sess i).retry ≤ r.tries) (halt : (s.sess i).alt = some q)
    (hlink : (s.port q.port).link = true) : s.retryTimeout i = (s.advanceTo r.deadline).migrate i := by
  have husable : (s.advanceTo r.deadline).altUsable i = true := by
    show s.altUsable i = true
    simp [State.altUsable, halt, hlink]
  unfold State.retryTimeout
  dsimp only
  rw [if_neg (not_dead h), hreqs]
  dsimp only
  rw [if_pos hretry]
  exact if_pos husable

end Live

/-- A session as a CNP leaves it: its rate halved, at most once in 50 µs (R287). -/
theorem cnpReceive_eq {s : State} {i : Nat} (h : Live (s.sess i)) : s.cnpReceive i =
    s.setSess i (if ((s.sess i).cnpTaken.map fun u => decide (s.now < u + 50000)).getD false then
      { s.sess i with rateStep := s.now } else { s.sess i with rate := (s.sess i).rate / 2, cnpTaken := some s.now, rateStep := s.now }) := by
  unfold State.cnpReceive
  dsimp only
  rw [if_pos h]
  cases hcnp : (s.sess i).cnpTaken with
  | none => rfl
  | some u =>
    by_cases hearly : s.now < u + 50000
    · have hbusy : ¬u + 50000 ≤ s.now := by omega
      simp only [hbusy, Option.map_some, hearly, decide_true, decide_false, Option.getD_some, if_true, Bool.false_eq_true, if_false]
    · have hfree : u + 50000 ≤ s.now := by omega
      simp [hearly, hfree]

/-! ## Fetches and grants -/

/-- The entries that a fetch takes (R326, R327). -/
def State.fetchSize (s : State) (i : Nat) : Nat :=
  min (min (entriesWaiting (s.sess i)) (fld (s.rv .eqtFetchCfg) 6 0)) (min (2 ^ (s.sess i).sqLog - (s.sess i).fetchPos)
    (min (if s.tagsOf i < 16 then 16 - s.tagsOf i else fld (s.rv .eqtFetchCfg) 31 16 - s.tagsOf i) s.tagsFree))

/-- The address of the first entry that a session's next fetch takes. -/
def fetchAddr (x : Session) : BitVec 64 := x.sqAddr + BitVec.ofNat 64 (64 * x.fetchPos)

/-- The state in which a fetch has been issued, before it is another session's turn. -/
def State.fetchSent (s : State) (i n : Nat) : State :=
  (s.readReq i (fetchAddr (s.sess i)) (s.sess i).sqRkey (64 * n) (.fetch (s.sess i).fetchPos n)).modSess i fun y =>
    { y with fetchPos := ((s.sess i).fetchPos + n) % 2 ^ (s.sess i).sqLog }

theorem fetchIssue_eq {s : State} {i : Nat} (h : s.fetchChoice = some i) :
    s.fetchIssue = { s.fetchSent i (s.fetchSize i) with eqt := { (s.fetchSent i (s.fetchSize i)).eqt with rrNext := i + 1 } } := by
  unfold State.fetchIssue
  rw [h]
  rfl

theorem sessionOnly_fetchSent (s : State) (i n : Nat) : SessionOnly i s (s.fetchSent i n) := by
  unfold State.fetchSent State.readReq
  exact sessionOnly_trans (sessionOnly_trans (ringOnly_sendPkt s i _).session (ringOnly_request _ i _ _).session) (sessionOnly_modSess _ i _)

theorem fetchPos_fetchSent (s : State) (i n : Nat) :
    ((s.fetchSent i n).sess i).fetchPos = ((s.sess i).fetchPos + n) % 2 ^ (s.sess i).sqLog := by
  unfold State.fetchSent
  rw [State.modSess, sess_setSess_same]

/-- A fetch takes no more entries than wait, than the batch allows, than the ring has left, and than tags are free (R326, R327). -/
theorem fetchSize_bounds (s : State) (i : Nat) :
    s.fetchSize i ≤ entriesWaiting (s.sess i) ∧ s.fetchSize i ≤ fld (s.rv .eqtFetchCfg) 6 0 ∧
      (s.sess i).fetchPos + s.fetchSize i ≤ max (s.sess i).fetchPos (2 ^ (s.sess i).sqLog) ∧ s.fetchSize i ≤ s.tagsFree := by
  unfold State.fetchSize
  omega

/-- A grant on its way to the host. -/
def newGrant (k : Nat) (g : GrantEntry) (tmo : Nat) : Grant := { tag := k, entry := g, written := [], tmo := tmo, notified := false, deadline := 0 }

/-- A session that has got one grant more. -/
def grantedSess (x : Session) (k : Nat) (g : GrantEntry) (tmo : Nat) : Session :=
  { x with grantEnd := g.winOfs + g.len, grants := x.grants ++ [newGrant k g tmo] }

/-- A command that has got one grant more. -/
def grantedCmd (c : Cmd) : Cmd := { c with grantNo := c.grantNo + 1 }

/-- The state in which a grant is to be written into the completion ring. -/
def State.grantMade (s : State) (k i : Nat) (g : GrantEntry) : State :=
  (s.setSess i (grantedSess (s.sess i) k g (1000000 * fld (s.rv .eqtPushCfg) 23 16))).modCmd k grantedCmd

theorem grantIssue_eq {s : State} {k o : Nat} {c : Cmd} {r : Resv} (h : s.cmd? k = some c) (hop : eOp c.entry = 2) (hpush : ePush c.entry = true)
    (hphase : c.phase = .waiting) (hwalked : c.walked = true) (hresv : c.resv = some r) (hgranted : r.granted = true)
    (hissued : c.issued < dataLen c) (hnone : (s.sess c.sess).grants.any (fun g => g.tag == k) = false)
    (hstate : (s.sess c.sess).state = .active ∨ (s.sess c.sess).state = .closing)
    (hspot : ((windowSpot (s.sess c.sess) (s.sess c.sess).grantEnd (min (s.pieceMax c) (dataLen c - c.issued))).or
      (windowSpot (s.sess c.sess) 0 (min (s.pieceMax c) (dataLen c - c.issued)))) = some o) :
    ∃ g : GrantEntry, g.dataOfs = c.issued ∧ g.len = min (s.pieceMax c) (dataLen c - c.issued) ∧ g.winOfs = o ∧ g.grantNo = c.grantNo ∧
      s.grantIssue k = (s.grantMade k c.sess g).cqPush c.sess (.grant g) := by
  have hmatch : (match windowSpot (s.sess c.sess) (s.sess c.sess).grantEnd (min (s.pieceMax c) (dataLen c - c.issued)) with
      | some o => some o
      | none => windowSpot (s.sess c.sess) 0 (min (s.pieceMax c) (dataLen c - c.issued))) = some o := by
    rw [← hspot]
    cases windowSpot (s.sess c.sess) (s.sess c.sess).grantEnd (min (s.pieceMax c) (dataLen c - c.issued)) <;> rfl
  refine ⟨{
    cmdId := eCmdId c.entry, dataOfs := c.issued, len := min (s.pieceMax c) (dataLen c - c.issued), winOfs := o, grantNo := c.grantNo,
    regrant := c.regranted, last := decide (c.issued + min (s.pieceMax c) (dataLen c - c.issued) = dataLen c) }, rfl, rfl, rfl, rfl, ?_⟩
  unfold State.grantIssue
  rw [h]
  dsimp only
  rw [hresv]
  dsimp only
  rw [if_pos ⟨hop, hpush, hphase, hwalked, hgranted, hissued, by rw [hnone]; rfl, hstate⟩]
  split
  · rename_i hno
    exact nomatch hno.symm.trans hmatch
  · rename_i o' ho'
    obtain rfl : o' = o := Option.some.inj (ho'.symm.trans hmatch)
    rfl

/-- What a grant says of itself in a landing window. -/
def grantRow (g : Grant) : Nat × Nat × Nat × Nat × Nat := (g.tag, g.entry.dataOfs, g.entry.len, g.entry.winOfs, g.entry.grantNo)

theorem grantRow_core {x y : Session} (h : coreSession x = coreSession y) : x.grants.map grantRow = y.grants.map grantRow :=
  core_field (fun z => z.grants.map grantRow) h fun z => by
    simp only [coreSession, List.map_map]
    rfl

/-- What a grant that is issued leaves. -/
structure Granted (k i : Nat) (c : Cmd) (g : GrantEntry) (s t : State) : Prop where
  rows : (t.sess i).grants.map grantRow = (s.sess i).grants.map grantRow ++ [(k, g.dataOfs, g.len, g.winOfs, g.grantNo)]
  last : (t.sess i).grantEnd = g.winOfs + g.len
  cmd : t.cmd? k = some (grantedCmd c)
  cmds : ∀ j, j ≠ k → t.cmd? j = s.cmd? j
  others : ∀ j, j ≠ i → calmSession (t.sess j) = calmSession (s.sess j)
  only : Only [.eqt] s t

theorem granted_grantMade {s : State} {k : Nat} {c : Cmd} (h : s.cmd? k = some c) (i : Nat) (g : GrantEntry) :
    Granted k i c g s (s.grantMade k i g) := by
  have hsess : (s.grantMade k i g).sess i = grantedSess (s.sess i) k g (1000000 * fld (s.rv .eqtPushCfg) 23 16) := sess_setSess_same s i _
  refine ⟨?_, by rw [hsess]; rfl, ?_, fun j hj => cmd_modCmd_other _ _ hj, fun j hj => congrArg calmSession (sess_setSess_other s _ hj), ?_⟩
  · rw [hsess, grantedSess, List.map_append]
    rfl
  · exact (cmd_modCmd_same _ k grantedCmd).trans (congrArg (Option.map grantedCmd) h)
  · exact only_trans (only_setEqt s _) (only_setEqt _ _)

theorem granted_ring {k i : Nat} {c : Cmd} {g : GrantEntry} {s t u : State} (h : Granted k i c g s t) (hu : RingOnly i t u) :
    Granted k i c g s u :=
  ⟨(grantRow_core hu.core).trans h.rows, (core_field Session.grantEnd hu.core).trans h.last, (cmd_of_cmds hu.session.cmds k).trans h.cmd,
    fun j hj => (cmd_of_cmds hu.session.cmds j).trans (h.cmds j hj), fun j hj => (hu.session.others j hj).trans (h.others j hj),
    only_trans h.only hu.session.only⟩

/-! ## A grant that is not used in time -/

/-- The status of a command whose grant has not been used in time (R341). -/
def pushStatus (g : Grant) : BitVec 16 := if g.entry.regrant then 0x0214 else 0x0213

theorem pushTimeout_eq {s : State} {k : Nat} {c : Cmd} {g : Grant} (h : s.cmd? k = some c) (hgrants : (s.sess c.sess).grants = [g])
    (htag : g.tag = k) (hnotified : g.notified = true) : s.pushTimeout k = (s.advanceTo g.deadline).endCmd k (pushStatus g) 0 := by
  unfold State.pushTimeout
  rw [h]
  dsimp only
  rw [hgrants, List.find?_cons_of_pos (by simp [htag, hnotified])]
  rfl

/-- The only grant of a session goes into quarantine with its command (R342). -/
theorem quarantine_only {s : State} {i k : Nat} {g : Grant} (hgrants : (s.sess i).grants = [g]) (htag : g.tag = k) :
    (s.quarantine i k).sess i = { s.sess i with
      grants := [], quarantine := (s.sess i).quarantine ++ [{ ofs := g.entry.winOfs, len := g.entry.len, until_ := s.now + g.tmo }] } := by
  have hgone : (s.sess i).grants.filter (·.tag == k) = [g] := by simp [hgrants, htag]
  have hleft : (s.sess i).grants.filter (·.tag != k) = [] := by simp [hgrants, htag]
  unfold State.quarantine
  dsimp only
  rw [hgone, hleft, if_neg (by simp), sess_setSess_same]
  rfl

theorem sess_countStatus (s : State) (status : BitVec 16) (i : Nat) : (s.countStatus status).sess i = s.sess i := by
  obtain ⟨a, b, h⟩ := countStatus_shape s status
  rw [h]
  rfl

theorem pushBad_countStatus (s : State) (g : Grant) : (s.countStatus (pushStatus g)).eqt.pushBad = satInc s.eqt.pushBad 255 := by
  unfold pushStatus State.countStatus
  split
  · rw [if_neg (by decide), if_pos (by decide)]
  · rw [if_neg (by decide), if_pos (by decide)]

theorem pushBad_quarantine (s : State) (i k : Nat) : (s.quarantine i k).eqt.pushBad = s.eqt.pushBad := by
  obtain ⟨l, h⟩ := quarantine_shape s i k
  rw [h]

/-- What a command leaves whose only grant was not used in time. -/
structure PushLost (k : Nat) (c : Cmd) (g : Grant) (s t : State) : Prop where
  cmd : (t.cmd? k).map Cmd.phase = some .done ∧ (t.cmd? k).map Cmd.status = some (pushStatus g)
  count : t.eqt.pushBad = satInc s.eqt.pushBad 255
  grants : (t.sess c.sess).grants = []
  quarantine : (t.sess c.sess).quarantine = (s.sess c.sess).quarantine ++
    [{ ofs := g.entry.winOfs, len := g.entry.len, until_ := s.now + g.tmo }]
  cmds : ∀ j, j ≠ k → t.cmd? j = s.cmd? j
  only : Only [.eqt, .plc, .orb, .seq] s t

theorem pushLost_endCmd {s : State} {k : Nat} {c : Cmd} {g : Grant} (h : s.cmd? k = some c) (hphase : c.phase = .waiting)
    (hgrants : (s.sess c.sess).grants = [g]) (htag : g.tag = k) : PushLost k c g s (s.endCmd k (pushStatus g) 0) := by
  have hsettled := settled_endCmd h (by rw [hphase]; exact fun h => nomatch h) (pushStatus g) 0
  generalize s.endCmd k (pushStatus g) 0 = t at hsettled ⊢
  obtain ⟨-, hothers, hcommands, -, -, -⟩ := hsettled.ends
  have hsess := hcommands.2 c.sess
  rw [sess_countStatus, quarantine_only hgrants htag] at hsess
  have hbad : t.eqt.pushBad = _ := onlyCommands_eqt (fun x => x.pushBad) hcommands
  refine ⟨?_, ?_, sess_field Session.grants hsess, sess_field Session.quarantine hsess, hothers, hsettled.only⟩
  · rw [hsettled.cmd]
    exact ⟨rfl, rfl⟩
  · rw [hbad, pushBad_countStatus, pushBad_quarantine]

theorem pushLost_answer {k : Nat} {c : Cmd} {g : Grant} {s t u : State} (h : PushLost k c g s t) (hu : Only [] t u) : PushLost k c g s u := by
  have hcmds := cmds_of_only hu (by decide)
  have hsess := calm_of_only hu (by decide) c.sess
  refine ⟨?_, (eqt_of_only (fun x => x.pushBad) hu (by decide)).trans h.count, (sess_field Session.grants hsess).trans h.grants,
    (sess_field Session.quarantine hsess).trans h.quarantine, fun j hj => (cmd_of_cmds hcmds j).trans (h.cmds j hj), only_step h.only hu⟩
  rw [cmd_of_cmds hcmds]
  exact h.cmd

/-- Settles O44: what is written into a completion ring leaves the path, the state and the grants of its session, and a NAK of a session without
commands frees it as a DREQ does. -/
theorem requestsAndGrants : Obligations.RequestsAndGrants := by
  unfold Obligations.RequestsAndGrants
  refine ⟨?_, ?_, ?_, ?_, ?_, ?_, ?_, ?_, ?_, ?_, ?_, ?_, ?_, ?_, ?_, ?_, ?_, ?_, ?_⟩
  · intro s ix slot n bytes bad r rest hready hstate hreqs hkind hstop hreader
    have hactive : ((s.setSess ix (answeredSess (s.sess ix) rest s.now)).sess ix).state = .active := by
      rw [sess_setSess_same]
      exact hstate
    have hstopped : (s.setSess ix (answeredSess (s.sess ix) rest s.now)).fetchArrived ix slot n bytes =
        s.setSess ix (answeredSess (s.sess ix) rest s.now) := if_pos (by rw [sess_setSess_same]; exact hstop)
    have hquiet : s.readResponse ix bytes bad = s.setSess ix (answeredSess (s.sess ix) rest s.now) := by
      rw [readResponse_fetch bytes bad hstate hreqs hkind, hstopped, pump_idle ((readerOf_answered hreqs hkind).trans hreader),
        freeCheck_active hactive]
    refine gives_only (exec_rdmaReadResponse ix bytes bad s) hready fun t ht => ?_
    rw [hquiet] at ht
    have honly : Only [] s t := only_trans (only_of_still (still_answered s ix rest)) ht
    have h := sessionOnly_of_only ix honly
    exact ⟨calm_of_only honly (by decide) ix, h.others, h.cmds, h.lineages, h.only⟩
  · intro s ix slot bytes bad r rest hready hstate hreqs hkind hstop hcmds
    refine gives_only (exec_rdmaReadResponse ix bytes bad s) hready fun t ht => ?_
    rw [readResponse_entry bytes bad hstate hreqs hkind hstop hcmds] at ht
    have hlineage : ((s.setSess ix (answeredSess (s.sess ix) rest s.now)).sess ix).lineage = (s.sess ix).lineage := by
      rw [sess_setSess_same]
      rfl
    have hcalm (j : Nat) : calmSession (t.sess j) = calmSession (s.sess j) :=
      (calm_of_only ht (by decide) j).trans ((still_answered s ix rest).2.1 j)
    have hall : t.eqt.cmds = aput s.eqt.cmds (freeKey s.eqt.cmds 0)
        (newCmd ix (s.sess ix).lineage slot (BitVec.ofNat 512 (leAt bytes 0 64)) s.pair) := by
      rw [← hlineage]
      exact cmds_of_only ht (by decide)
    have harrive (u : State) (e : BitVec 512) : Only [.eqt] u (u.entryArrived ix slot e) :=
      only_trans (only_mono (only_stamped u) (by decide)) (only_setEqt _ _)
    have hlineages : t.eqt.lineages = ((s.setSess ix (answeredSess (s.sess ix) rest s.now)).entryArrived ix slot
      (BitVec.ofNat 512 (leAt bytes 0 64))).eqt.lineages := eqt_of_only (fun x => x.lineages) ht (by decide)
    refine ⟨by rw [hall, aget_aput_same], fun k hk => by rw [hall, aget_aput_other _ _ hk], ?_, hcalm, ?_⟩
    · exact hlineages
    · exact only_trans (only_trans (only_of_still (still_answered s ix rest)) (harrive _ _)) (only_mono ht (by decide))
  · intro s ix bytes bad hready hdead
    refine gives_still (exec_rdmaReadResponse ix bytes bad s) hready rfl (still_of_eq ?_)
    unfold State.readResponse
    dsimp only
    rcases hdead with hdead | hdead
    · exact if_pos (not_or.mp hdead)
    · have hdrop : ((s.sess ix).reqs.dropWhile fun r => !isRead r.kind) = [] := by
        refine dropWhile_eq_nil fun r hr => ?_
        simpa using List.any_eq_false.mp hdead r hr
      rw [hdrop]
      split
      · rfl
      · rfl
  · intro s ix psn hready hraised hstate
    have hack : s.ackReceive ix .ack psn = s.setSess ix (answeredSess (s.sess ix) (ackedBy psn (s.sess ix).reqs) s.now) := by
      rw [ackReceive_ack (.inl hstate), freeCheck_active]
      rw [sess_setSess_same]
      exact hstate
    refine gives_reached (exec_roceAckReceive ix .ack psn s) hready fun t honly _ _ hall => ?_
    rw [hack] at honly hall
    have heqt := hall (levelsRaised_setSess ix _ hraised)
    have hsess := sess_of_eqt heqt
    have hfrom : Only [] s t := only_trans (only_of_still (still_answered s ix _)) honly
    refine ⟨?_, calm_of_only hfrom (by decide) ix, fun i hi => ?_, by rw [heqt]; rfl, by rw [heqt]; rfl, hfrom⟩
    · rw [hsess, sess_setSess_same]
      rfl
    · rw [hsess, sess_setSess_other _ _ hi]
  · intro s ix psn hready hstate
    have hcalm := calm_resentSess (answeredSess (s.sess ix) (ackedBy (psn - 1) (s.sess ix).reqs) s.now) s.now
    have hpath : (resentSess (answeredSess (s.sess ix) (ackedBy (psn - 1) (s.sess ix).reqs) s.now) s.now).path = (s.sess ix).path := rfl
    rw [calm_answeredSess] at hcalm
    refine gives_reached (exec_roceAckReceive ix .nakSeq psn s) hready fun t honly hkept _ _ => ?_
    rw [ackReceive_nakSeq hstate] at honly hkept
    generalize resentSess (answeredSess (s.sess ix) (ackedBy (psn - 1) (s.sess ix).reqs) s.now) s.now = x at *
    have hresent := resent_sendPkt s ix psn x
    have hfrom : Only [] s t := only_trans (only_of_still (hresent.still hcalm)) honly
    have h := sessionOnly_of_only ix hfrom
    exact ⟨sent_of_resent hresent hpath hkept, fun j => calm_of_only hfrom (by decide) j, h.cmds, h.lineages, hfrom⟩
  · intro s ix k psn l hready hk hstate hcmds hheld hreqs hcq hrelease hl hbound
    have herror := ackReceive_nak hstate hk psn
    obtain ⟨hfreed, hlineage⟩ := sessionError_freed hstate hcmds hheld ⟨hreqs, hcq⟩ hrelease hl hbound
    refine gives_reached (exec_roceAckReceive ix k psn s) hready fun t honly _ hkept _ => ?_
    rw [herror] at honly hkept
    have h := freed_answer hfreed honly hkept
    have hlineages : t.eqt.lineages = (s.sessionError ix).eqt.lineages := eqt_of_only (fun x => x.lineages) honly (by decide)
    exact ⟨h.sess, h.others, (congrArg (aget · _) hlineages).trans hlineage, h.lineages, h.cmds, h.only⟩
  · intro s ix k psn hready hactive hclosing
    exact gives_still (exec_roceAckReceive ix k psn s) hready rfl (still_of_eq (if_pos ⟨hactive, hclosing⟩))
  · intro s ix r rest hready hraised hstate hreqs hretry
    have hx := rnrNak_again hstate hreqs hretry
    have hcalm := calm_resentSess (answeredSess (s.sess ix) ({ r with rnrTries := r.rnrTries + 1 } :: rest) s.now) s.now
    have hpath : (resentSess (answeredSess (s.sess ix) ({ r with rnrTries := r.rnrTries + 1 } :: rest) s.now) s.now).path =
      (s.sess ix).path := rfl
    have htries : (resentSess (answeredSess (s.sess ix) ({ r with rnrTries := r.rnrTries + 1 } :: rest) s.now) s.now).reqs.head?.map
      DevReq.rnrTries = some (r.rnrTries + 1) := rfl
    have hlength : (resentSess (answeredSess (s.sess ix) ({ r with rnrTries := r.rnrTries + 1 } :: rest) s.now) s.now).reqs.length =
      (s.sess ix).reqs.length := by simp [resentSess, answeredSess, hreqs]
    rw [calm_answeredSess] at hcalm
    generalize resentSess (answeredSess (s.sess ix) ({ r with rnrTries := r.rnrTries + 1 } :: rest) s.now) s.now = x at *
    have hresent := resent_sendPkt s ix r.psn x
    refine gives_reached (exec_rnrNakReceive ix s) hready fun t honly hkept _ hall => ?_
    rw [hx] at honly hkept hall
    have heqt := hall (levelsRaised_of_evc (hresent.still hcalm) hresent.src hraised)
    have hsess := sess_of_eqt heqt
    have hfrom : Only [] s t := only_trans (only_of_still (hresent.still hcalm)) honly
    have h := sessionOnly_of_only ix hfrom
    have hix : t.sess ix = x := (hsess ix).trans hresent.sess
    exact ⟨by rw [hix, htries], by rw [hix, hlength], sent_of_resent hresent hpath hkept, by rw [hix, hcalm],
      fun i hi => (hsess i).trans (hresent.others i hi), h.cmds, h.lineages, hfrom⟩
  · intro s ix r rest hready hstate hreqs hretry
    have hlater := only_advanceTo s r.deadline
    have hclock : (s.advanceTo r.deadline).now = max s.now r.deadline := now_advanceTo s _
    have heqt : (s.advanceTo r.deadline).eqt = s.eqt := rfl
    refine gives_reached (exec_requestRetryTimeout ix s) hready fun t honly hkept _ _ => ?_
    rw [retryTimeout_again hstate hreqs hretry] at honly hkept
    generalize s.advanceTo r.deadline = u at hlater hclock heqt honly hkept
    have hcalm := (calm_resentSess { s.sess ix with reqs := { r with tries := r.tries + 1 } :: rest } u.now).trans (calm_setReqs (s.sess ix) _)
    have hpath : (resentSess { s.sess ix with reqs := { r with tries := r.tries + 1 } :: rest } u.now).path = (s.sess ix).path := rfl
    generalize resentSess { s.sess ix with reqs := { r with tries := r.tries + 1 } :: rest } u.now = x at *
    have hsess := sess_of_eqt heqt
    have hresent := resent_sendPkt u ix r.psn x
    have hcalm : calmSession x = calmSession (u.sess ix) := by rw [hsess, hcalm]
    have hfrom : Only [] u t := only_trans (only_of_still (hresent.still hcalm)) honly
    have h := sessionOnly_of_only ix hfrom
    have hport (n : Nat) : u.port n = s.port n := by simp only [State.port, heqt]
    have hsent := sent_of_sendPkt (s := s) (u := u.setSess ix x) hport (by rw [sess_setSess_same, hpath])
      (pktsKept_trans hresent.sent hkept)
    exact ⟨hsent, (hfrom .clock (by decide)).trans hclock, fun j => (calm_of_only hfrom (by decide) j).trans (by rw [hsess]),
      h.cmds.trans (by rw [heqt]), h.lineages.trans (by rw [heqt]), only_step hlater hfrom⟩
  · intro s ix r rest q hready hstate hreqs hretry halt hlink
    have hlive : ¬((s.sess ix).state ≠ .active ∧ (s.sess ix).state ≠ .closing) := fun h => hstate.elim h.1 h.2
    have hlater := only_advanceTo s r.deadline
    have hclock : (s.advanceTo r.deadline).now = max s.now r.deadline := now_advanceTo s _
    have heqt : (s.advanceTo r.deadline).eqt = s.eqt := rfl
    have hmove := retryTimeout_migrate hstate hreqs hretry halt hlink
    refine gives_only (exec_requestRetryTimeout ix s) hready fun t ht => ?_
    rw [hmove] at ht
    generalize s.advanceTo r.deadline = u at hlater hclock heqt ht
    have hsess := sess_of_eqt heqt
    have hring := ringOnly_trans (ringOnly_migrate (s := u) (i := ix) (p := q) (by rw [hsess, halt])) (ringOnly_of_only ix ht)
    have hcore := hring.core
    rw [sess_setSess_same] at hcore
    have h := sessionOnly_trans (sessionOnly_setSess u ix _) hring.session
    exact ⟨core_field Session.path hcore, core_field Session.alt hcore, (core_field Session.state hcore).trans (by rw [hsess]; rfl),
      (h.only .clock (by decide)).trans hclock, fun j hj => (h.others j hj).trans (by rw [hsess]), h.cmds.trans (by rw [heqt]),
      h.lineages.trans (by rw [heqt]), only_step (only_mono hlater (by decide)) h.only⟩
  · intro s ix hready hstate
    exact gives_still (exec_cnpReceive ix s) hready rfl (still_of_eq (cnpReceive_eq hstate))
  · intro s ix hready hstate
    have hlater := only_advanceTo s ((s.sess ix).rateStep + 55000)
    have hclock : (s.advanceTo ((s.sess ix).rateStep + 55000)).now = max s.now ((s.sess ix).rateStep + 55000) := now_advanceTo s _
    have heqt : (s.advanceTo ((s.sess ix).rateStep + 55000)).eqt = s.eqt := rfl
    have hraise : s.rateIncrease ix = (s.advanceTo ((s.sess ix).rateStep + 55000)).setSess ix { s.sess ix with
        rate := min (s.portRate (s.sess ix).path.port) ((s.sess ix).rate + s.portRate (s.sess ix).path.port / 16),
        rateStep := (s.advanceTo ((s.sess ix).rateStep + 55000)).now } := if_pos hstate
    refine gives_only (exec_rateIncrease ix s) hready fun t ht => ?_
    rw [hraise] at ht
    generalize s.advanceTo ((s.sess ix).rateStep + 55000) = u at hlater hclock heqt ht
    have h := sessionOnly_trans (sessionOnly_setSess u ix _) (sessionOnly_of_only ix ht)
    have hsess := calm_of_only ht (by decide) ix
    rw [sess_setSess_same] at hsess
    have hnow : t.now = u.now := h.only .clock (by decide)
    exact ⟨sess_field Session.rate hsess, hnow.trans hclock, (sess_field Session.rateStep hsess).trans hnow.symm,
      fun j hj => (h.others j hj).trans (by rw [sess_of_eqt heqt]), h.cmds.trans (by rw [heqt]), h.lineages.trans (by rw [heqt]),
      only_step (only_mono hlater (by decide)) h.only⟩
  · intro s hready hnone
    refine gives_still (exec_fetchIssue s) hready rfl (still_of_eq ?_)
    unfold State.fetchIssue
    rw [hnone]
  · intro s i hready hchoice
    refine gives_answered (exec_fetchIssue s) hready fun t honly hkept _ => ?_
    rw [fetchIssue_eq hchoice] at honly hkept
    obtain ⟨hwaiting, hbatch, hring, hfree⟩ := fetchSize_bounds s i
    generalize s.fetchSize i = n at *
    have hsent := sessionOnly_fetchSent s i n
    have hpos := fetchPos_fetchSent s i n
    have hpkts : PktsKept (s.sendPkt i (.readReq (s.sess i).spsn (fetchAddr (s.sess i)) (s.sess i).sqRkey (64 * n))) (s.fetchSent i n) :=
      pktsKept_trans (pktsKept_request _ _ _ _) (pktsKept_setSess _ _ _)
    generalize s.fetchSent i n = u at *
    have hturn : PktsKept u { u with eqt := { u.eqt with rrNext := i + 1 } } := pktsKept_of_eq rfl rfl
    have hcalm (j : Nat) : calmSession (t.sess j) = calmSession (u.sess j) := calm_of_only honly (by decide) j
    have hcmds : t.eqt.cmds = ({ u with eqt := { u.eqt with rrNext := i + 1 } } : State).eqt.cmds := cmds_of_only honly (by decide)
    have hnext : t.eqt.rrNext = ({ u with eqt := { u.eqt with rrNext := i + 1 } } : State).eqt.rrNext :=
      eqt_of_only (fun x => x.rrNext) honly (by decide)
    refine ⟨n, hwaiting, hbatch, hring, hfree, (sess_field Session.fetchPos (hcalm i)).trans hpos, ?_, ?_,
      fun j hj => (hcalm j).trans (hsent.others j hj), hcmds.trans hsent.cmds, ?_⟩
    · exact sent_of_sendPkt (fun _ => rfl) rfl (pktsKept_trans (pktsKept_trans hpkts hturn) hkept)
    · exact hnext
    · exact only_step (only_trans hsent.only (only_setEqt u _)) honly
  · intro s k o c r hready hcmd hop hpush hphase hwalked hresv hgranted hissued hnone hstate hspot
    obtain ⟨g, hofs, hlen, hwin, hno, hissue⟩ :=
      grantIssue_eq hcmd hop hpush hphase hwalked hresv hgranted hissued hnone hstate hspot
    refine gives_only (exec_grantIssue k s) hready fun t ht => ?_
    rw [hissue] at ht
    have h := granted_ring (granted_grantMade hcmd c.sess g) (ringOnly_trans (ringOnly_cqPush _ c.sess (.grant g)) (ringOnly_of_only c.sess ht))
    have hrows := h.rows
    rw [hofs, hlen, hwin, hno] at hrows
    exact ⟨hrows, by rw [h.last, hwin, hlen], by rw [h.cmd]; rfl, h.cmds, h.others, h.only⟩
  · intro s k hready hnone
    refine gives_still (exec_grantIssue k s) hready rfl (still_of_eq ?_)
    unfold State.grantIssue
    rw [hnone]
  · intro s k c g hready hcmd hphase _ hgrants htag hnotified
    have hlater := only_advanceTo s g.deadline
    have hclock : (s.advanceTo g.deadline).now = max s.now g.deadline := now_advanceTo s _
    have heqt : (s.advanceTo g.deadline).eqt = s.eqt := rfl
    refine gives_only (exec_pushTimeout k s) hready fun t ht => ?_
    rw [pushTimeout_eq hcmd hgrants htag hnotified] at ht
    generalize s.advanceTo g.deadline = u at hlater hclock heqt ht
    have hsess := sess_of_eqt heqt
    have hcmds (j : Nat) : u.cmd? j = s.cmd? j := cmd_of_cmds (by rw [heqt]) j
    have h := pushLost_answer (pushLost_endCmd (by rw [hcmds, hcmd]) hphase (by rw [hsess, hgrants]) htag) ht
    have hnow : t.now = u.now := h.only .clock (by decide)
    refine ⟨hnow.trans hclock, h.cmd.1, h.cmd.2, h.count.trans (by rw [heqt]), h.grants, ?_, fun j hj => (h.cmds j hj).trans (hcmds j),
      only_step (only_mono hlater (by decide)) h.only⟩
    rw [h.quarantine, hsess, hnow]
  · intro s ix q rest hready hq
    refine gives_still (exec_quarantineEnd ix s) hready rfl (still_of_eq ?_)
    unfold State.quarantineEnd
    rw [hq]
    rfl
  · intro s ix hready hq
    refine gives_still (exec_quarantineEnd ix s) hready rfl (still_of_eq ?_)
    unfold State.quarantineEnd
    rw [hq]


end Sys2Proof.Machine
end

section
/-! SUPPORT. The escalation ladder: its decodes, its re-reads, its rebuild and its end (R105-R122, R657). -/

namespace Sys2Proof.Machine

open Sys2Proof

-- One declaration at a time: proofs elaborated side by side hold a stack each, and the check bounds their sum.
set_option Elab.async false

/-! ## Deep decodes -/

/-- What names a deep decode: its ladder, its member, and whether it is of the first pass. -/
def jobName (d : DeepJob) : Nat × Option Nat × Bool := (d.ladder, d.member, d.first)

/-- The deep decodes that are queued or running. -/
def State.deepJobs (s : State) : List (Nat × Option Nat × Bool) := (s.chn.deepQueue ++ s.chn.deepBusy).map jobName

/-- The state in which other deep decodes are queued and running. -/
def State.setJobs (s : State) (q b : List DeepJob) : State := { s with chn := { s.chn with deepQueue := q, deepBusy := b } }

/-- The deep decoders take work from the queue, and no decode is lost. -/
theorem deepPump_shape (s : State) (n : Nat) :
    ∃ q b, s.deepPump n = s.setJobs q b ∧ ((q ++ b).map jobName).Perm ((s.chn.deepQueue ++ s.chn.deepBusy).map jobName) := by
  induction n generalizing s with
  | zero => exact ⟨_, _, rfl, List.Perm.refl _⟩
  | succ n ih =>
    unfold State.deepPump
    split
    · dsimp only
      split
      · exact ⟨_, _, rfl, List.Perm.refl _⟩
      · rename_i j l hl
        have hmem : j ∈ s.chn.deepQueue := by
          have : j ∈ (s.chn.deepQueue.filter fun j => !j.first) ++
              s.chn.deepQueue.filter fun j => j.first && decide (s.stageCode < 2) := hl ▸ List.mem_cons_self
          exact (List.mem_append.mp this).elim (fun h => (List.mem_filter.mp h).1) fun h => (List.mem_filter.mp h).1
        obtain ⟨q, b, hpump, hperm⟩ := ih (s.setJobs (s.chn.deepQueue.erase j) (s.chn.deepBusy ++ [{ j with begun := s.now }]))
        refine ⟨q, b, hpump, hperm.trans ?_⟩
        have hqueue : (s.chn.deepQueue.map jobName).Perm (jobName j :: (s.chn.deepQueue.erase j).map jobName) :=
          (List.perm_cons_erase hmem).map jobName
        have hlast : (s.chn.deepBusy ++ [{ j with begun := s.now }]).map jobName = s.chn.deepBusy.map jobName ++ [jobName j] := by
          simp [jobName]
        show ((s.chn.deepQueue.erase j ++ (s.chn.deepBusy ++ [{ j with begun := s.now }])).map jobName).Perm _
        rw [List.map_append, hlast, List.map_append, ← List.append_assoc]
        exact (List.perm_append_singleton _ _).trans (hqueue.append_right _).symm
    · exact ⟨_, _, rfl, List.Perm.refl _⟩

/-! ## What the steps of one ladder leave alone -/

/-- The streams and their sector buffers are the same. -/
def FrontSame (s t : State) : Prop :=
  t.chn.streams = s.chn.streams ∧ t.chn.slots = s.chn.slots ∧ t.chn.slotData = s.chn.slotData

theorem frontSame_trans {s t u : State} (h : FrontSame s t) (k : FrontSame t u) : FrontSame s u :=
  ⟨k.1.trans h.1, k.2.1.trans h.2.1, k.2.2.trans h.2.2⟩

/-- Of the read channel only the ladder i changes, with its pieces and the order of the deep decodes. -/
structure LadderKept (i : Nat) (s t : State) : Prop where
  others : ∀ j, j ≠ i → aget t.chn.ladders j = aget s.chn.ladders j
  soft : t.chn.soft = s.chn.soft
  next : t.chn.nextLadder = s.chn.nextLadder
  jobs : t.deepJobs.Perm s.deepJobs
  front : FrontSame s t
  only : Only [.orb, .chn] s t

theorem ladderKept_refl (i : Nat) (s : State) : LadderKept i s s := ⟨fun _ _ => rfl, rfl, rfl, List.Perm.refl _, ⟨rfl, rfl, rfl⟩, only_refl _ s⟩

theorem ladderKept_trans {i : Nat} {s t u : State} (h : LadderKept i s t) (k : LadderKept i t u) : LadderKept i s u :=
  ⟨fun j hj => (k.others j hj).trans (h.others j hj), k.soft.trans h.soft, k.next.trans h.next, k.jobs.trans h.jobs, frontSame_trans h.front k.front, only_trans h.only k.only⟩

theorem ladderKept_modLadder (s : State) (i : Nat) (f : Ladder → Ladder) : LadderKept i s (s.modLadder i f) :=
  ⟨fun _ hj => aget_amod_other _ _ hj, rfl, rfl, List.Perm.refl _, ⟨rfl, rfl, rfl⟩, only_mono (only_setChn s _) (by decide)⟩

theorem ladderKept_addPiece (s : State) (i : Nat) (p : Piece) : LadderKept i s (s.addPiece p) :=
  ⟨fun _ _ => rfl, rfl, rfl, List.Perm.refl _, ⟨rfl, rfl, rfl⟩, only_mono (only_addPiece s p) (by decide)⟩

theorem ladderKept_countAt (s : State) (i h z k n : Nat) : LadderKept i s (s.countAt h z k n) :=
  ⟨fun _ _ => rfl, rfl, rfl, List.Perm.refl _, ⟨rfl, rfl, rfl⟩, only_mono (only_setChn s _) (by decide)⟩

theorem ladderKept_deepPump (s : State) (i n : Nat) : LadderKept i s (s.deepPump n) := by
  obtain ⟨q, b, h, hperm⟩ := deepPump_shape s n
  rw [h]
  exact ⟨fun _ _ => rfl, rfl, rfl, hperm, ⟨rfl, rfl, rfl⟩, only_mono (only_setChn s _) (by decide)⟩

theorem ladder_modLadder {s : State} {i : Nat} {l : Ladder} (h : aget s.chn.ladders i = some l) (f : Ladder → Ladder) :
    aget (s.modLadder i f).chn.ladders i = some (f l) := (aget_amod_same _ i f).trans (congrArg (Option.map f) h)

theorem ladder_deepPump (s : State) (n : Nat) : (s.deepPump n).chn.ladders = s.chn.ladders := by
  obtain ⟨q, b, h, -⟩ := deepPump_shape s n
  rw [h]
  rfl

/-! ## Re-reads and rebuild reads -/

theorem issueReread_kept {s : State} {i : Nat} {l : Ladder} (h : aget s.chn.ladders i = some l) :
    LadderKept i s (s.issueReread i) ∧ aget (s.issueReread i).chn.ladders i = some { l with rereadDue := true } := by
  have hpiece : ∃ p, s.issueReread i = (s.modLadder i fun l => { l with rereadDue := true }).addPiece p := by
    unfold State.issueReread
    rw [h]
    exact ⟨_, rfl⟩
  obtain ⟨p, hp⟩ := hpiece
  rw [hp]
  exact ⟨ladderKept_trans (ladderKept_modLadder s i _) (ladderKept_addPiece _ i p), ladder_modLadder h _⟩

theorem issueMember_kept {s : State} {i : Nat} {l : Ladder} (h : aget s.chn.ladders i = some l) (m : Ladder) (k : Nat) :
    LadderKept i s (s.issueMember i m k) ∧ ∃ is, aget (s.issueMember i m k).chn.ladders i = some { l with issued := is } := by
  unfold State.issueMember
  split
  · exact ⟨ladderKept_refl i s, _, h⟩
  · exact ⟨ladderKept_trans (ladderKept_modLadder s i _) (ladderKept_addPiece _ i _), _, ladder_modLadder h _⟩

theorem issueRebuild_kept {s : State} {i : Nat} {l : Ladder} (h : aget s.chn.ladders i = some l) :
    LadderKept i s (s.issueRebuild i) ∧ ∃ is, aget (s.issueRebuild i).chn.ladders i = some { l with rebuild := true, issued := is } := by
  have key : ∀ (ks : List Nat) (u : State) (m : Ladder), aget u.chn.ladders i = some m →
      LadderKept i u (ks.foldl (fun s k => s.issueMember i l k) u) ∧
        ∃ is, aget (ks.foldl (fun s k => s.issueMember i l k) u).chn.ladders i = some { m with issued := is } := by
    intro ks
    induction ks with
    | nil => exact fun u m hm => ⟨ladderKept_refl i u, _, hm⟩
    | cons k ks ih =>
      intro u m hm
      obtain ⟨hkept, is, hone⟩ := issueMember_kept hm l k
      obtain ⟨hrest, js, hlast⟩ := ih _ _ hone
      exact ⟨ladderKept_trans hkept hrest, js, hlast⟩
  unfold State.issueRebuild
  rw [h]
  dsimp only
  obtain ⟨hkept, is, hlast⟩ := key (((((s.modLadder i fun l => { l with rebuild := true }).rebuildMembers l).filter fun k =>
    !l.issued.contains k)).take ((s.modLadder i fun l => { l with rebuild := true }).rebuildNeed l - (l.issued.length - l.refused.length)))
    _ _ (ladder_modLadder h fun l => { l with rebuild := true })
  exact ⟨ladderKept_trans (ladderKept_modLadder s i _) hkept, is, hlast⟩

/-! ## What a ladder does next -/

theorem healthyHeads_of_only {ps : List Part} {s t : State} (h : Only ps s t) (hsce : Part.sce ∉ ps) (hwrp : Part.wrp ∉ ps) (surface : Nat) :
    t.healthyHeads surface = s.healthyHeads surface := by
  have h1 : t.sce = s.sce := h .sce hsce
  have h2 : t.wrp = s.wrp := h .wrp hwrp
  simp only [State.healthyHeads, State.act, State.lhead, h1, h2]

/-- A further re-read is made where one is left and nothing of the ladder is decoded. -/
theorem ladderNext_reread {s : State} {i : Nat} {l : Ladder} (h : aget s.chn.ladders i = some l)
    (hheads : (s.healthyHeads l.surface).isEmpty = false) (hdeep : l.deep = false) (hdue : l.rereadDue = false)
    (hleft : l.reads < ladRereads l) : s.ladderNext i = s.issueReread i := by
  unfold State.ladderNext
  rw [h]
  dsimp only
  exact if_pos (by simp [hheads, hdeep, hdue, hleft])

/-- A ladder of which a decode runs, or a re-read is due, waits for it; its rebuild begins where no step before it is left. -/
theorem ladderNext_waits {s : State} {i : Nat} {l : Ladder} (h : aget s.chn.ladders i = some l)
    (hbusy : l.deep = true ∨ l.rereadDue = true ∧ (s.healthyHeads l.surface).isEmpty = false) :
    LadderKept i s (s.ladderNext i) ∧ ∃ is, aget (s.ladderNext i).chn.ladders i =
      some { l with rebuild := l.rebuild || s.readsOver i l || (s.healthyHeads l.surface).isEmpty, issued := is } := by
  have hfirst : ¬(!(s.healthyHeads l.surface).isEmpty && !l.deep && !l.rereadDue && decide (l.reads < ladRereads l)) = true := by
    rcases hbusy with hdeep | ⟨hdue, -⟩
    · simp [hdeep]
    · simp [hdue]
  have hstay (a b : Bool) : ¬(a && !l.deep && (!l.rereadDue || !!(s.healthyHeads l.surface).isEmpty) && b) = true := by
    rcases hbusy with hdeep | ⟨hdue, hheads⟩
    · simp [hdeep]
    · simp [hdue, hheads]
  unfold State.ladderNext
  rw [h]
  dsimp only
  rw [if_neg hfirst]
  by_cases hrebuild : (l.rebuild || s.readsOver i l || !!(s.healthyHeads l.surface).isEmpty) = true
  · obtain ⟨hkept, is, hladder⟩ := issueRebuild_kept h
    rw [if_pos hrebuild, hladder]
    dsimp only
    rw [if_neg (hstay _ _), hladder]
    rw [Bool.not_not] at hrebuild
    rw [hrebuild]
    exact ⟨hkept, is, rfl⟩
  · rw [if_neg hrebuild, h]
    dsimp only
    rw [if_neg (hstay _ _), h]
    rw [Bool.not_not, Bool.not_eq_true] at hrebuild
    have hnot : l.rebuild = false := by
      rw [Bool.or_eq_false_iff, Bool.or_eq_false_iff] at hrebuild
      exact hrebuild.1.1
    rw [hrebuild, ← hnot]
    exact ⟨ladderKept_refl i s, l.issued, rfl⟩

/-! ## What an outcome leaves (R52, R64, R113) -/

/-- The commands with their reads of a sector obtained, or lost. -/
def readsMarked (cmds : Assoc Cmd) (n m p : Nat) (good : Bool) : Assoc Cmd :=
  amapv cmds fun _ c => { c with bound := c.bound.map fun b =>
    if b.onMedia && !b.got && b.spot == some (n, m, p) then (if good then { b with got := true } else { b with lost := true }) else b }

/-- An outcome of a sector marks the reads bound to it; a copy that was to be placed again still is. -/
theorem mediaOutcome_shape (s : State) (n m p : Nat) (good : Bool) : ∃ w x, s.mediaOutcome n m p good =
    { s with
      plc := { s.plc with rewriting := w }, chn := { s.chn with recovered := x },
      eqt := { s.eqt with cmds := readsMarked s.eqt.cmds n m p good } } := by
  unfold State.mediaOutcome
  dsimp only
  split
  · exact ⟨s.plc.rewriting, s.chn.recovered, rfl⟩
  · split
    · exact ⟨_, _, rfl⟩
    · exact ⟨_, _, rfl⟩

/-- The soft-retain records once a slot is free. -/
def softFreed (m : Assoc SoftRec) (slot : Option Nat) : Assoc SoftRec := match slot with | none => m | some k => adel m k

/-- The state in which a ladder has gone, before the deep decoders take further work. -/
def State.ladderGone (s : State) (i : Nat) (soft : Assoc SoftRec) : State :=
  { s with
    chn := { s.chn with
      ladders := adel s.chn.ladders i, deepQueue := s.chn.deepQueue.filter fun j => j.ladder != i,
      deepBusy := s.chn.deepBusy.filter fun j => j.ladder != i, soft := soft },
    orb := { s.orb with pieces := afilter s.orb.pieces fun _ p => !(p.kind == .ladder && p.owner == i) } }

theorem ladderDrop_eq (s : State) (i : Nat) (keep : Bool) : s.ladderDrop i keep =
    (s.ladderGone i (if keep then s.chn.soft else softFreed s.chn.soft ((aget s.chn.ladders i).bind (·.slot)))).deepPump 4 := by
  unfold State.ladderDrop
  dsimp only
  cases keep with
  | true => rfl
  | false =>
    cases (aget s.chn.ladders i).bind (·.slot) with
    | none => rfl
    | some k => rfl

/-- What the end of a ladder leaves. -/
structure LadderEnded (i : Nat) (soft : Assoc SoftRec) (s t : State) : Prop where
  gone : aget t.chn.ladders i = none
  others : ∀ j, j ≠ i → aget t.chn.ladders j = aget s.chn.ladders j
  decodes : ∀ d ∈ t.chn.deepQueue ++ t.chn.deepBusy, d.ladder ≠ i
  soft : t.chn.soft = soft
  recovered : t.chn.recovered = s.chn.recovered
  front : FrontSame s t
  only : Only [.orb, .chn] s t

theorem ladderEnded_drop (s : State) (i : Nat) (keep : Bool) :
    LadderEnded i (if keep then s.chn.soft else softFreed s.chn.soft ((aget s.chn.ladders i).bind (·.slot))) s (s.ladderDrop i keep) := by
  rw [ladderDrop_eq]
  generalize (if keep then s.chn.soft else softFreed s.chn.soft ((aget s.chn.ladders i).bind (·.slot))) = m
  obtain ⟨q, b, h, hperm⟩ := deepPump_shape (s.ladderGone i m) 4
  rw [h]
  refine ⟨aget_adel_same _ i, fun j hj => aget_adel_other _ hj, fun d hd hi => ?_, rfl, rfl, ⟨rfl, rfl, rfl⟩, ?_⟩
  · have hname : jobName d ∈ ((s.ladderGone i m).chn.deepQueue ++ (s.ladderGone i m).chn.deepBusy).map jobName :=
      hperm.mem_iff.mp (List.mem_map_of_mem hd)
    obtain ⟨e, he, heq⟩ := List.mem_map.mp hname
    have hladder : e.ladder = i := (congrArg Prod.fst heq).trans hi
    rcases List.mem_append.mp he with he | he
    · simpa [hladder] using (List.mem_filter.mp he).2
    · simpa [hladder] using (List.mem_filter.mp he).2
  · have hgone : Only [.orb, .chn] s (s.ladderGone i m) := by simp [only_iff, State.ladderGone, State.sess]
    exact only_step hgone (only_setChn _ _)

/-! ## A ladder that recovers its sector, and one that does not -/

/-- The place of a ladder's sector has been read, and its block is placed again from RELOC_STEP on (R106, R115). -/
def State.sectorRead (s : State) (l : Ladder) (step : Nat) : State :=
  match l.row with
  | none => s
  | some (r, m, pos) =>
    match s.blockAt r m pos with
    | none => s.mediaOutcome r m pos true
    | some key =>
      if fld l.cfg 11 8 ≤ step ∧ (aget (s.mediaOutcome r m pos true).chn.recovered key).isNone then
        (s.mediaOutcome r m pos true).placeCopy key none
      else s.mediaOutcome r m pos true

/-- The state in which a ladder that recovers its sector is about to end. -/
def State.recoveredRead (s : State) (l : Ladder) (step : Nat) : State :=
  (s.ladCount l (if step = 0 then 2 else if step = 1 then 5 else if step = 2 then 6 else 7) 1).sectorRead l step

theorem blockAt_mediaOutcome (s : State) (n m p : Nat) (good : Bool) (a b c : Nat) :
    (s.mediaOutcome n m p good).blockAt a b c = s.blockAt a b c := by
  obtain ⟨w, x, h⟩ := mediaOutcome_shape s n m p good
  rw [h]
  rfl

theorem ladderRecovered_eq {s : State} {i : Nat} {l : Ladder} (h : aget s.chn.ladders i = some l) (step : Nat) :
    s.ladderRecovered i step = (s.recoveredRead l step).ladderDrop i false := by
  unfold State.ladderRecovered State.recoveredRead
  rw [h]
  dsimp only
  generalize s.ladCount l (if step = 0 then 2 else if step = 1 then 5 else if step = 2 then 6 else 7) 1 = u
  unfold State.sectorRead
  cases l.row with
  | none => rfl
  | some e =>
    obtain ⟨r, m, pos⟩ := e
    dsimp only
    rw [blockAt_mediaOutcome] <;> cases u.blockAt r m pos <;> rfl

/-- What an outcome of a sector leaves of the read channel: only the copies to be placed again change. -/
structure ChannelKept (s t : State) : Prop where
  ladders : t.chn.ladders = s.chn.ladders
  soft : t.chn.soft = s.chn.soft
  next : t.chn.nextLadder = s.chn.nextLadder
  queue : t.chn.deepQueue = s.chn.deepQueue
  busy : t.chn.deepBusy = s.chn.deepBusy
  front : FrontSame s t
  only : Only [.eqt, .plc, .chn] s t

theorem channelKept_refl (s : State) : ChannelKept s s := ⟨rfl, rfl, rfl, rfl, rfl, ⟨rfl, rfl, rfl⟩, only_refl _ s⟩

theorem channelKept_trans {s t u : State} (h : ChannelKept s t) (k : ChannelKept t u) : ChannelKept s u :=
  ⟨k.ladders.trans h.ladders, k.soft.trans h.soft, k.next.trans h.next, k.queue.trans h.queue, k.busy.trans h.busy,
    frontSame_trans h.front k.front, only_trans h.only k.only⟩

theorem channelKept_countAt (s : State) (h z k n : Nat) : ChannelKept s (s.countAt h z k n) :=
  ⟨rfl, rfl, rfl, rfl, rfl, ⟨rfl, rfl, rfl⟩, only_mono (only_setChn s _) (by decide)⟩

theorem channelKept_placeCopy (s : State) (k : Nat) (x : Option Nat) : ChannelKept s (s.placeCopy k x) :=
  ⟨rfl, rfl, rfl, rfl, rfl, ⟨rfl, rfl, rfl⟩, only_mono (only_setChn s _) (by decide)⟩

theorem channelKept_mediaOutcome (s : State) (n m p : Nat) (good : Bool) : ChannelKept s (s.mediaOutcome n m p good) := by
  obtain ⟨w, x, h⟩ := mediaOutcome_shape s n m p good
  rw [h]
  refine ⟨rfl, rfl, rfl, rfl, rfl, ⟨rfl, rfl, rfl⟩, ?_⟩
  simp [only_iff, State.sess]

theorem channelKept_sectorRead (s : State) (l : Ladder) (step : Nat) : ChannelKept s (s.sectorRead l step) := by
  unfold State.sectorRead
  split
  · exact channelKept_refl s
  · split
    · exact channelKept_mediaOutcome s _ _ _ true
    · split
      · exact channelKept_trans (channelKept_mediaOutcome s _ _ _ true) (channelKept_placeCopy _ _ _)
      · exact channelKept_mediaOutcome s _ _ _ true

/-- What the end of a ladder leaves stands with an outcome before it. -/
theorem ladderEnded_from {i : Nat} {soft : Assoc SoftRec} {s t u : State} (h : ChannelKept s t) (k : LadderEnded i soft t u) :
    aget u.chn.ladders i = none ∧ (∀ j, j ≠ i → aget u.chn.ladders j = aget s.chn.ladders j) ∧
      (∀ d ∈ u.chn.deepQueue ++ u.chn.deepBusy, d.ladder ≠ i) ∧ u.chn.soft = soft ∧ FrontSame s u ∧ Only [.eqt, .plc, .orb, .chn] s u :=
  ⟨k.gone, fun j hj => (k.others j hj).trans (by rw [h.ladders]), k.decodes, k.soft, frontSame_trans h.front k.front,
    only_step (only_mono h.only (by decide)) k.only⟩

theorem channelKept_recoveredRead (s : State) (l : Ladder) (step : Nat) : ChannelKept s (s.recoveredRead l step) :=
  channelKept_trans (channelKept_countAt s _ _ _ _) (channelKept_sectorRead _ l step)

/-- A block that is read at RELOC_STEP or later is to be placed again (R115). -/
theorem recovered_recoveredRead {s : State} {l : Ladder} {step n m p key : Nat} (hrow : l.row = some (n, m, p)) (hblock : s.blockAt n m p = some key)
    (hreloc : fld l.cfg 11 8 ≤ step) : (aget (s.recoveredRead l step).chn.recovered key).isSome = true := by
  have hcount (u : State) (k : Nat) : (u.ladCount l k 1).blockAt n m p = u.blockAt n m p := rfl
  unfold State.recoveredRead
  generalize hu : s.ladCount l (if step = 0 then 2 else if step = 1 then 5 else if step = 2 then 6 else 7) 1 = u
  have hat : u.blockAt n m p = some key := by rw [← hu, hcount, hblock]
  unfold State.sectorRead
  rw [hrow]
  dsimp only
  rw [hat]
  dsimp only
  by_cases hnone : (aget (u.mediaOutcome n m p true).chn.recovered key).isNone
  · rw [if_pos ⟨hreloc, hnone⟩]
    show (aget (aput _ key _) key).isSome = true
    rw [aget_aput_same]
    rfl
  · rw [if_neg fun h => hnone h.2]
    exact Option.isSome_iff_ne_none.mpr (by simpa using hnone)

/-- The state in which a ladder that has not recovered its sector is about to end (R113). -/
def State.sectorLost (s : State) (l : Ladder) : State :=
  match l.row with
  | none => (s.ladCount l 8 1).report (192 + l.stream) 1 (l.track % 2 ^ 24 * 1024 + l.sector % 1024) 2
  | some (r, m, pos) => ((s.ladCount l 8 1).report (192 + l.stream) 1 (l.track % 2 ^ 24 * 1024 + l.sector % 1024) 2).mediaOutcome r m pos false

theorem ladderLost_eq {s : State} {i : Nat} {l : Ladder} (h : aget s.chn.ladders i = some l) :
    s.ladderLost i = (s.sectorLost l).ladderDrop i true := by
  cases hrow : l.row <;> simp only [State.ladderLost, State.sectorLost, h, hrow]

/-- What the loss of a sector leaves of the read channel, and what it reports. -/
structure SectorLost (l : Ladder) (s t : State) : Prop where
  ladders : t.chn.ladders = s.chn.ladders
  soft : t.chn.soft = s.chn.soft
  front : FrontSame s t
  inbox : t.flt.inbox = joinReports s.now
    { source := 192 + l.stream, kind := 1, addr := l.track % 2 ^ 24 * 1024 + l.sector % 1024, severity := 2 } s.flt.inbox
  only : Only [.flt, .eqt, .plc, .chn] s t

theorem sectorLost_kept (s : State) (l : Ladder) : SectorLost l s (s.sectorLost l) := by
  have hreport : SectorLost l s ((s.ladCount l 8 1).report (192 + l.stream) 1 (l.track % 2 ^ 24 * 1024 + l.sector % 1024) 2) :=
    ⟨rfl, rfl, ⟨rfl, rfl, rfl⟩, rfl, only_step (only_mono (channelKept_countAt s _ _ _ _).only (by decide)) (only_report _ _ _ _ _)⟩
  unfold State.sectorLost
  split
  · exact hreport
  · rename_i r m pos _
    have hkept := channelKept_mediaOutcome ((s.ladCount l 8 1).report (192 + l.stream) 1 (l.track % 2 ^ 24 * 1024 + l.sector % 1024) 2)
      r m pos false
    exact ⟨hkept.ladders.trans hreport.ladders, hkept.soft.trans hreport.soft, frontSame_trans hreport.front hkept.front,
      (congrArg Flt.inbox (hkept.only .flt (by decide))).trans hreport.inbox, only_step hreport.only hkept.only⟩

/-! ## Streams and sector buffers stand -/

/-- Streams and sector buffers stand, and so does what the read channel cannot reach. -/
structure FrontKept (s t : State) : Prop where
  front : FrontSame s t
  only : Only [.flt, .eqt, .plc, .orb, .chn] s t

theorem frontKept_refl (s : State) : FrontKept s s := ⟨⟨rfl, rfl, rfl⟩, only_refl _ s⟩

theorem frontKept_trans {s t u : State} (h : FrontKept s t) (k : FrontKept t u) : FrontKept s u :=
  ⟨frontSame_trans h.front k.front, only_trans h.only k.only⟩

theorem frontKept_ite {p : Prop} [Decidable p] {s t u : State} (h : p → FrontKept s t) (k : ¬p → FrontKept s u) :
    FrontKept s (if p then t else u) := by
  split
  · exact h ‹_›
  · exact k ‹_›

theorem frontKept_of_ladder {i : Nat} {s t : State} (h : LadderKept i s t) : FrontKept s t := ⟨h.front, only_mono h.only (by decide)⟩

theorem frontKept_of_channel {s t : State} (h : ChannelKept s t) : FrontKept s t := ⟨h.front, only_mono h.only (by decide)⟩

theorem frontKept_of_only {s t : State} (h : Only [] s t) : FrontKept s t := by
  have hchn : t.chn = s.chn := h .chn (by decide)
  exact ⟨⟨by rw [hchn], by rw [hchn], by rw [hchn]⟩, only_mono h (by decide)⟩

section Front
variable (s : State) (i : Nat)

theorem frontKept_issueReread : FrontKept s (s.issueReread i) := by
  cases h : aget s.chn.ladders i with
  | none =>
    have hsame : s.issueReread i = s := by rw [State.issueReread, h]
    rw [hsame]
    exact frontKept_refl s
  | some l => exact frontKept_of_ladder (issueReread_kept h).1

theorem frontKept_issueRebuild : FrontKept s (s.issueRebuild i) := by
  cases h : aget s.chn.ladders i with
  | none =>
    have hsame : s.issueRebuild i = s := by rw [State.issueRebuild, h]
    rw [hsame]
    exact frontKept_refl s
  | some l => exact frontKept_of_ladder (issueRebuild_kept h).1

theorem frontKept_ladderDrop (keep : Bool) : FrontKept s (s.ladderDrop i keep) := by
  have h := ladderEnded_drop s i keep
  exact ⟨h.front, only_mono h.only (by decide)⟩

theorem frontKept_ladderLost : FrontKept s (s.ladderLost i) := by
  cases h : aget s.chn.ladders i with
  | none =>
    have hsame : s.ladderLost i = s := by rw [State.ladderLost, h]
    rw [hsame]
    exact frontKept_refl s
  | some l =>
    have hlost := sectorLost_kept s l
    rw [ladderLost_eq h]
    exact frontKept_trans ⟨hlost.front, only_mono hlost.only (by decide)⟩ (frontKept_ladderDrop _ i true)

theorem frontKept_ladderNext : FrontKept s (s.ladderNext i) := by
  unfold State.ladderNext
  split
  · exact frontKept_refl s
  · dsimp only
    refine frontKept_ite (fun _ => frontKept_issueReread s i) fun _ => ?_
    have hstart (p : Bool) : FrontKept s (if p then s.issueRebuild i else s) :=
      frontKept_ite (fun _ => frontKept_issueRebuild s i) fun _ => frontKept_refl s
    split
    · exact hstart _
    · exact frontKept_ite (fun _ => frontKept_trans (hstart _) (frontKept_ladderLost _ i)) fun _ => hstart _

theorem frontKept_memberRead (k : Nat) (got : Option (BitVec 33792)) : FrontKept s (s.memberRead i k got) := by
  unfold State.memberRead
  split
  · exact frontKept_of_ladder (ladderKept_modLadder s i _)
  · exact frontKept_trans (frontKept_of_ladder (ladderKept_modLadder s i _)) (frontKept_ladderNext _ i)

end Front

/-- A deep decode that is queued: its ladder shows one of its own sector. -/
theorem deepAdd_kept (s : State) (j : DeepJob) :
    (∀ k, k ≠ j.ladder → aget (s.deepAdd j).chn.ladders k = aget s.chn.ladders k) ∧ (s.deepAdd j).chn.soft = s.chn.soft ∧
      (s.deepAdd j).chn.nextLadder = s.chn.nextLadder ∧ (s.deepAdd j).deepJobs.Perm (jobName j :: s.deepJobs) ∧
      FrontSame s (s.deepAdd j) ∧ Only [.chn] s (s.deepAdd j) ∧
      (s.deepAdd j).chn.ladders = amod s.chn.ladders j.ladder fun l => if j.member.isNone then { l with deep := true } else l := by
  unfold State.deepAdd
  dsimp only
  generalize hu : (({ s with chn := { s.chn with deepQueue := s.chn.deepQueue ++ [j] } } : State).modLadder j.ladder fun l =>
    if j.member.isNone then { l with deep := true } else l) = u
  obtain ⟨q, b, h, hperm⟩ := deepPump_shape u 4
  rw [h]
  subst hu
  refine ⟨fun k hk => aget_amod_other _ _ hk, rfl, rfl, ?_, ⟨rfl, rfl, rfl⟩, ?_, rfl⟩
  · refine hperm.trans ?_
    show (((s.chn.deepQueue ++ [j]) ++ s.chn.deepBusy).map jobName).Perm (jobName j :: (s.chn.deepQueue ++ s.chn.deepBusy).map jobName)
    rw [List.append_assoc]
    exact (List.perm_middle (a := j) (l₁ := s.chn.deepQueue) (l₂ := s.chn.deepBusy)).map jobName
  · exact only_trans (only_trans (only_setChn s _) (only_setChn _ _)) (only_setChn _ _)

theorem frontKept_deepAdd (s : State) (j : DeepJob) : FrontKept s (s.deepAdd j) := by
  obtain ⟨-, -, -, -, hfront, honly, -⟩ := deepAdd_kept s j
  exact ⟨hfront, only_mono honly (by decide)⟩

theorem frontKept_memberOutcome (s : State) (surface track sector how : Nat) (word : BitVec 41216) :
    FrontKept s (s.memberOutcome surface track sector how word) := by
  have key (f : State → Nat × Ladder → State) (hf : ∀ s e, FrontKept s (f s e)) (l : List (Nat × Ladder)) (u : State) :
      FrontKept u (l.foldl f u) := by
    induction l generalizing u with
    | nil => exact frontKept_refl u
    | cons e l ih => exact frontKept_trans (hf u e) (ih _)
  unfold State.memberOutcome
  refine key _ (fun u e => ?_) _ s
  split
  · exact frontKept_refl u
  · refine frontKept_ite (fun _ => frontKept_memberRead u _ _ _) fun _ => ?_
    exact frontKept_ite (fun _ => frontKept_deepAdd u _) fun _ => frontKept_memberRead u _ _ _

/-! ## A ladder that starts (R109, R117, R120) -/

/-- A ladder's settings: ECLIPSE sectors are re-read twice while the map is not rebuilt. -/
def State.ladderCfg (s : State) (r : Reading) : Word :=
  if (match s.zoneOf r.surface r.track with | some z => z.eclipse | none => false) && !s.plc.rebuilt then
    s.rv .chnEscCfg &&& ~~~3#32 ||| 2#32 else s.rv .chnEscCfg

/-- The ladder of a sector that has failed its first pass. -/
def State.newLadder (s : State) (st : Nat) (r : Reading) : Ladder :=
  { surface := r.surface, track := r.track, sector := r.sector, head := 18 * actOf st + r.surface, stream := st,
    code := s.codeOf r.surface r.track, pair := s.pair, cfg := s.ladderCfg r, step := 0, reads := 0, slot := s.softRoom, rereadDue := false,
    rebuild := false, issued := [], gathered := [], refused := [], row := s.rowOf r.surface r.track r.sector, deep := false }

/-- The record of its channel values. -/
def State.newRecord (s : State) (st : Nat) (r : Reading) (missed mis : Bool) (values : List Int) (unsat : Nat) : SoftRec :=
  { pair := s.pair, stream := st, head := 18 * actOf st + r.surface, code := s.codeOf r.surface r.track, reads := 1,
    band := (s.bandAt r.surface r.track).getD (bandId r.surface 0), track := r.track, sector := r.sector, step := 0, nac := r.nac,
    oneReader := r.one, missed := missed, miscorrect := mis, unsat := unsat, snr := r.snr,
    values := if missed then List.replicate (codeBits (s.codeOf r.surface r.track)) 0 else values,
    spot := s.rowOf r.surface r.track r.sector }

/-- The state in which a ladder and its record stand. -/
def State.ladderPut (s : State) (l : Ladder) (x : SoftRec) : State :=
  { s.stamped with chn := { s.chn with
    ladders := aput s.chn.ladders s.chn.nextLadder l, nextLadder := s.chn.nextLadder + 1,
    soft := match s.softRoom with | some k => aput s.chn.soft k x | none => s.chn.soft } }

/-- The first deep decode of a ladder is queued, unless its mark was missed or the queue is full (R105). -/
def State.firstDecode (s : State) (i : Nat) (l : Ladder) (missed : Bool) : State :=
  if missed then s
  else if s.chn.deepQueue.length < 64 then s.deepAdd { ladder := i, member := none, first := true, begun := 0 }
  else s.ladCount l 4 1

/-- The steps that a ladder begins with. -/
def State.firstSteps (s : State) (i : Nat) (l : Ladder) : State :=
  (if ladEarly l then (if 1 ≤ ladRereads l then s.issueReread i else s).issueRebuild i
    else if 1 ≤ ladRereads l then s.issueReread i else s).ladderNext i

theorem ladderStart_eq {s : State} (st : Nat) {r : Reading} (missed mis : Bool) (values : List Int) (unsat : Nat)
    (h : (s.chn.ladders.any fun l => l.2.surface == r.surface && l.2.track == r.track && l.2.sector == r.sector) = false) :
    s.ladderStart st r missed mis values unsat =
      ((if s.softRoom.isSome then s.ladderPut (s.newLadder st r) (s.newRecord st r missed mis values unsat)
        else (s.ladderPut (s.newLadder st r) (s.newRecord st r missed mis values unsat)).ladCount (s.newLadder st r) 14 1).firstDecode
          s.chn.nextLadder (s.newLadder st r) missed).firstSteps s.chn.nextLadder (s.newLadder st r) := by
  unfold State.ladderStart
  rw [if_neg (by rw [h]; exact Bool.false_ne_true)]
  rfl

theorem ladderStart_known {s : State} (st : Nat) {r : Reading} (missed mis : Bool) (values : List Int) (unsat : Nat)
    (h : (s.chn.ladders.any fun l => l.2.surface == r.surface && l.2.track == r.track && l.2.sector == r.sector) = true) :
    s.ladderStart st r missed mis values unsat = s := if_pos h

/-- A ladder whose first decode is queued or running has not ended the steps before its rebuild. -/
theorem readsOver_early {s : State} {i : Nat} {l : Ladder} (hdue : l.rereadDue = decide (1 ≤ ladRereads l))
    (hjob : 1 ≤ ladRereads l ∨ (i, none, true) ∈ s.deepJobs) : s.readsOver i l = false := by
  by_cases hread : 1 ≤ ladRereads l
  · have htrue : l.rereadDue = true := by rw [hdue, decide_eq_true hread]
    simp [State.readsOver, htrue]
  · obtain ⟨d, hd, hname⟩ := List.mem_map.mp (hjob.resolve_left hread)
    obtain ⟨hladder, hmember, -⟩ : d.ladder = i ∧ d.member = none ∧ d.first = true := by simpa [jobName] using hname
    have hzero : ladRereads l = 0 := by omega
    have hany : ((s.chn.deepQueue ++ s.chn.deepBusy).any fun d => d.ladder == i && d.member.isNone && (!d.first || ladRereads l == 0)) = true :=
      List.any_eq_true.mpr ⟨d, hd, by simp [hladder, hmember, hzero]⟩
    unfold State.readsOver
    rw [hany]
    simp

/-- A new ladder's re-read is due where one is made, and its rebuild begins with EARLY_REBUILD or without a healthy head (R109, R657). -/
theorem firstSteps_kept {s : State} {i : Nat} {l : Ladder} (h : aget s.chn.ladders i = some l) {m : Ladder} (hcfg : m.cfg = l.cfg)
    (hdue : l.rereadDue = false) (hrebuild : l.rebuild = false)
    (hbusy : l.deep = true ∨ 1 ≤ ladRereads l ∧ (s.healthyHeads l.surface).isEmpty = false)
    (hjob : 1 ≤ ladRereads l ∨ (i, none, true) ∈ s.deepJobs) :
    LadderKept i s (s.firstSteps i m) ∧ ∃ is, aget (s.firstSteps i m).chn.ladders i = some { l with
      rereadDue := decide (1 ≤ ladRereads l), rebuild := ladEarly l || (s.healthyHeads l.surface).isEmpty, issued := is } := by
  have hreads : ladRereads m = ladRereads l := by simp only [ladRereads, hcfg]
  have hearly : ladEarly m = ladEarly l := by simp only [ladEarly, hcfg]
  have hread : LadderKept i s (if 1 ≤ ladRereads l then s.issueReread i else s) ∧
      aget (if 1 ≤ ladRereads l then s.issueReread i else s).chn.ladders i = some { l with rereadDue := decide (1 ≤ ladRereads l) } := by
    by_cases hone : 1 ≤ ladRereads l
    · rw [if_pos hone, decide_eq_true hone]
      exact issueReread_kept h
    · rw [if_neg hone, decide_eq_false hone, ← hdue]
      exact ⟨ladderKept_refl i s, h⟩
  unfold State.firstSteps
  rw [hreads, hearly]
  generalize (if 1 ≤ ladRereads l then s.issueReread i else s) = u at hread
  obtain ⟨hkept, hladder⟩ := hread
  have hbuild : LadderKept i u (if ladEarly l then u.issueRebuild i else u) ∧
      ∃ is, aget (if ladEarly l then u.issueRebuild i else u).chn.ladders i =
        some { l with rereadDue := decide (1 ≤ ladRereads l), rebuild := ladEarly l, issued := is } := by
    by_cases hone : ladEarly l = true
    · rw [if_pos hone, hone]
      exact issueRebuild_kept hladder
    · rw [if_neg hone, Bool.eq_false_iff.mpr hone]
      refine ⟨ladderKept_refl i u, l.issued, ?_⟩
      rw [hladder, ← hrebuild]
  generalize (if ladEarly l then u.issueRebuild i else u) = v at hbuild
  obtain ⟨hkept', is, hladder'⟩ := hbuild
  have hsv := ladderKept_trans hkept hkept'
  have hheads : (v.healthyHeads l.surface).isEmpty = (s.healthyHeads l.surface).isEmpty := by
    rw [healthyHeads_of_only hsv.only (by decide) (by decide)]
  have hover : v.readsOver i { l with rereadDue := decide (1 ≤ ladRereads l), rebuild := ladEarly l, issued := is } = false :=
    readsOver_early rfl (hjob.imp_right hsv.jobs.mem_iff.mpr)
  obtain ⟨hnext, js, hlast⟩ := ladderNext_waits hladder'
    (hbusy.imp_right fun k => ⟨decide_eq_true k.1, hheads.trans k.2⟩)
  refine ⟨ladderKept_trans hsv hnext, js, ?_⟩
  rw [hlast, hover, hheads, Bool.or_false]

/-- What a ladder that starts leaves. -/
structure Started (l : Ladder) (x : SoftRec) (deep : Bool) (s t : State) : Prop where
  next : t.chn.nextLadder = s.chn.nextLadder + 1
  ladder : ∃ is, aget t.chn.ladders s.chn.nextLadder = some { l with
    deep := deep, rereadDue := decide (1 ≤ ladRereads l), rebuild := ladEarly l || (s.healthyHeads l.surface).isEmpty, issued := is }
  soft : t.chn.soft = match s.softRoom with | some k => aput s.chn.soft k x | none => s.chn.soft
  others : ∀ i, i ≠ s.chn.nextLadder → aget t.chn.ladders i = aget s.chn.ladders i
  only : Only [.orb, .chn] s t

/-- A ladder and its record stand, beside a count. -/
structure Put (l : Ladder) (x : SoftRec) (s t : State) : Prop where
  ladders : t.chn.ladders = aput s.chn.ladders s.chn.nextLadder l
  next : t.chn.nextLadder = s.chn.nextLadder + 1
  soft : t.chn.soft = match s.softRoom with | some k => aput s.chn.soft k x | none => s.chn.soft
  queue : t.chn.deepQueue = s.chn.deepQueue
  only : Only [.chn] s t

theorem put_ladderPut (s : State) (l : Ladder) (x : SoftRec) : Put l x s (s.ladderPut l x) :=
  ⟨rfl, rfl, rfl, rfl, only_trans (only_mono (only_stamped s) (by decide)) (only_setChn s.stamped _)⟩

/-- The state in which a ladder stands, counted where no slot was left for its values. -/
theorem put_counted (s : State) (l : Ladder) (x : SoftRec) :
    Put l x s (if s.softRoom.isSome then s.ladderPut l x else (s.ladderPut l x).ladCount l 14 1) := by
  have h := put_ladderPut s l x
  split
  · exact h
  · exact ⟨h.ladders, h.next, h.soft, h.queue, only_trans h.only (only_setChn _ _)⟩

theorem started_from {s u t : State} {l : Ladder} {x : SoftRec} {deep : Bool} (hnext : u.chn.nextLadder = s.chn.nextLadder + 1)
    (hothers : ∀ i, i ≠ s.chn.nextLadder → aget u.chn.ladders i = aget s.chn.ladders i)
    (hsoft : u.chn.soft = match s.softRoom with | some k => aput s.chn.soft k x | none => s.chn.soft) (honly : Only [.chn] s u)
    (h : LadderKept s.chn.nextLadder u t) (hladder : ∃ is, aget t.chn.ladders s.chn.nextLadder = some { l with
      deep := deep, rereadDue := decide (1 ≤ ladRereads l), rebuild := ladEarly l || (u.healthyHeads l.surface).isEmpty, issued := is }) :
    Started l x deep s t := by
  obtain ⟨is, hladder⟩ := hladder
  rw [healthyHeads_of_only honly (by decide) (by decide)] at hladder
  exact ⟨h.next.trans hnext, ⟨is, hladder⟩, h.soft.trans hsoft, fun i hi => (h.others i hi).trans (hothers i hi),
    only_step (only_mono honly (by decide)) h.only⟩

/-- A ladder starts with a deep decode of its sector. -/
theorem started_decoded {s : State} (st : Nat) {r : Reading} (mis : Bool) (values : List Int) (unsat : Nat)
    (h : (s.chn.ladders.any fun l => l.2.surface == r.surface && l.2.track == r.track && l.2.sector == r.sector) = false)
    (hroom : s.chn.deepQueue.length < 64) : Started (s.newLadder st r) (s.newRecord st r false mis values unsat) true s
      (s.ladderStart st r false mis values unsat) := by
  rw [ladderStart_eq st false mis values unsat h]
  have hput := put_counted s (s.newLadder st r) (s.newRecord st r false mis values unsat)
  generalize (if s.softRoom.isSome then s.ladderPut (s.newLadder st r) (s.newRecord st r false mis values unsat)
    else (s.ladderPut (s.newLadder st r) (s.newRecord st r false mis values unsat)).ladCount (s.newLadder st r) 14 1) = v at hput ⊢
  have hfirst : v.firstDecode s.chn.nextLadder (s.newLadder st r) false =
      v.deepAdd { ladder := s.chn.nextLadder, member := none, first := true, begun := 0 } := by
    unfold State.firstDecode
    rw [if_neg Bool.false_ne_true, hput.queue, if_pos hroom]
  rw [hfirst]
  obtain ⟨hothers, hsoft, hnext, hjobs, -, honly, hladders⟩ :=
    deepAdd_kept v { ladder := s.chn.nextLadder, member := none, first := true, begun := 0 }
  generalize v.deepAdd _ = u at hothers hsoft hnext hjobs honly hladders ⊢
  have hdeep : aget u.chn.ladders s.chn.nextLadder = some { s.newLadder st r with deep := true } := by
    rw [hladders, hput.ladders]
    exact (aget_amod_same _ _ _).trans (congrArg (Option.map _) (aget_aput_same _ _ _))
  obtain ⟨hkept, is, hlast⟩ := firstSteps_kept hdeep (m := s.newLadder st r) rfl rfl rfl (.inl rfl)
    (.inr (hjobs.mem_iff.mpr List.mem_cons_self))
  refine started_from (hnext.trans hput.next) (fun i hi => ?_) (hsoft.trans hput.soft) (only_trans hput.only honly) hkept ⟨is, hlast⟩
  rw [hothers i hi, hput.ladders, aget_aput_other _ _ hi]

/-- A ladder starts with a re-read where its mark was missed. -/
theorem started_missed {s : State} (st : Nat) {r : Reading} (mis : Bool) (values : List Int) (unsat : Nat)
    (h : (s.chn.ladders.any fun l => l.2.surface == r.surface && l.2.track == r.track && l.2.sector == r.sector) = false)
    (hread : 1 ≤ ladRereads (s.newLadder st r)) (hheads : (s.healthyHeads r.surface).isEmpty = false) :
    Started (s.newLadder st r) (s.newRecord st r true mis values unsat) false s (s.ladderStart st r true mis values unsat) := by
  rw [ladderStart_eq st true mis values unsat h]
  have hput := put_counted s (s.newLadder st r) (s.newRecord st r true mis values unsat)
  generalize (if s.softRoom.isSome then s.ladderPut (s.newLadder st r) (s.newRecord st r true mis values unsat)
    else (s.ladderPut (s.newLadder st r) (s.newRecord st r true mis values unsat)).ladCount (s.newLadder st r) 14 1) = u at hput ⊢
  have hfirst : u.firstDecode s.chn.nextLadder (s.newLadder st r) true = u := if_pos rfl
  have hladder : aget u.chn.ladders s.chn.nextLadder = some (s.newLadder st r) := by rw [hput.ladders, aget_aput_same]
  have hheads' : (u.healthyHeads r.surface).isEmpty = false := by
    rw [healthyHeads_of_only hput.only (by decide) (by decide), hheads]
  rw [hfirst]
  obtain ⟨hkept, is, hlast⟩ := firstSteps_kept hladder (m := s.newLadder st r) rfl rfl rfl (.inr ⟨hread, hheads'⟩) (.inl hread)
  refine started_from hput.next (fun i hi => ?_) hput.soft hput.only hkept ⟨is, hlast⟩
  rw [hput.ladders, aget_aput_other _ _ hi]

theorem frontKept_ladderStart (s : State) (st : Nat) (r : Reading) (missed mis : Bool) (values : List Int) (unsat : Nat) :
    FrontKept s (s.ladderStart st r missed mis values unsat) := by
  cases h : s.chn.ladders.any fun l => l.2.surface == r.surface && l.2.track == r.track && l.2.sector == r.sector with
  | true =>
    rw [ladderStart_known st missed mis values unsat h]
    exact frontKept_refl s
  | false =>
    have hcount (u : State) (l : Ladder) (k : Nat) : FrontKept u (u.ladCount l k 1) := frontKept_of_channel (channelKept_countAt u _ _ _ _)
    have hput (l : Ladder) (x : SoftRec) : FrontKept s (s.ladderPut l x) :=
      ⟨⟨rfl, rfl, rfl⟩, only_mono (put_ladderPut s l x).only (by decide)⟩
    have hdecode (u : State) (i : Nat) (l : Ladder) : FrontKept u (u.firstDecode i l missed) :=
      frontKept_ite (fun _ => frontKept_refl u) fun _ => frontKept_ite (fun _ => frontKept_deepAdd u _) fun _ => hcount u l 4
    have hread (u : State) (i n : Nat) : FrontKept u (if 1 ≤ n then u.issueReread i else u) :=
      frontKept_ite (fun _ => frontKept_issueReread u i) fun _ => frontKept_refl u
    have hsteps (u : State) (i : Nat) (l : Ladder) : FrontKept u (u.firstSteps i l) := by
      unfold State.firstSteps
      refine frontKept_trans (frontKept_ite (fun _ => ?_) fun _ => hread u i _) (frontKept_ladderNext _ i)
      exact frontKept_trans (hread u i _) (frontKept_issueRebuild _ i)
    rw [ladderStart_eq st missed mis values unsat h]
    refine frontKept_trans (frontKept_trans (frontKept_ite (fun _ => hput _ _) fun _ => ?_) (hdecode _ _ _)) (hsteps _ _ _)
    exact frontKept_trans (hput _ _) (hcount _ _ 14)


end Sys2Proof.Machine
end

section
/-! SUPPORT. What the end of a decode leaves (R103-R106, R112). -/

namespace Sys2Proof.Machine

open Sys2Proof

-- One declaration at a time: proofs elaborated side by side hold a stack each, and the check bounds their sum.
set_option Elab.async false

/-! ## The end of a stream decode -/

/-- Whether a stream decode ends by its deadline, before its iterations are made (R103). -/
def State.decodeLate (s : State) (st : Nat) (o : DecodeObs) (r : Reading) : Bool :=
  decide (s.stopHow r o = 1) && decide (o.iter < s.iterLimit st r)

/-- The channel values of a sector, at the scale of its profile. -/
def State.scaledValues (s : State) (st : Nat) (o : DecodeObs) : List Int := o.values.map (scaledValue (s.stream st).profile)

/-- The corrected bits of a sector. -/
def State.correctedOf (s : State) (st : Nat) (o : DecodeObs) (r : Reading) : Nat :=
  if s.stopHow r o < 3 then
    correctedBits (scramble r.track r.sector (s.codeOf r.surface r.track) o.word) (s.scaledValues st o) else 0

/-- A stream whose oldest decode has stopped (Table 3.11, R97). -/
def State.stoppedStream (s : State) (st : Nat) (o : DecodeObs) (r : Reading) (rest : List Reading) (x : Stream) : Stream :=
  { x with
    decoding := rest,
    last := State.lastWord (lastOutcome (s.stopHow r o)) (if 3 ≤ s.stopHow r o then 0 else max 1 (min o.iter (s.iterLimit st r)))
      (s.correctedOf st o r) r.snr,
    lastAt := (r.surface, r.track, r.sector),
    nbrs := if s.stopHow r o < 3 then
        putNeighbour x.nbrs r.surface (18 * actOf st + r.surface) r.track r.sector
          (neighbourValues (s.stopHow r o == 0) (codeBits (s.codeOf r.surface r.track))
            (scramble r.track r.sector (s.codeOf r.surface r.track) o.word) (s.scaledValues st o))
      else x.nbrs }

/-- The moment at which a stream decode stops. -/
def State.decodeTime (s : State) (st : Nat) (o : DecodeObs) (r : Reading) (rest : List Reading) : State :=
  if s.decodeLate st o r then s.advanceTo (s.decodeDeadline r rest) else s

/-- The state in which a stream decode has been counted and shown, before its payload is put down. -/
def State.decodeShown (s : State) (st : Nat) (o : DecodeObs) (r : Reading) (rest : List Reading) : State :=
  ((((s.decodeTime st o r rest).decodeCounts st r (s.stopHow r o) (s.correctedOf st o r) (s.decodeLate st o r)
    ((profByte (s.stream st).profile 16).testBit 0)).modStream st (s.stoppedStream st o r rest)).setSlot st r.slot
      (if s.stopHow r o = 0 then .decoded else .failed))

/-- The state that the end of a stream decode leaves, before those that wait for it take its outcome. -/
def State.decodeLeft (s : State) (st : Nat) (o : DecodeObs) (r : Reading) (rest : List Reading) : State :=
  if s.stopHow r o = 0 then
    (s.decodeShown st o r rest).setPayload st r.slot ((s.decodeShown st o r rest).openPayload (wordPayload o.word))
  else s.decodeShown st o r rest

/-- Those that wait for a decode take its outcome. -/
def State.decodeTaken (s : State) (st : Nat) (o : DecodeObs) (r : Reading) (how : Nat) (values : List Int) (unsat : Nat) : State :=
  if r.kind = 5 then s.memberOutcome r.surface r.track r.sector how o.word
  else if r.kind = 3 then s.verifyOutcome r how o.word
  else if r.flags.testBit 1 then s
  else s.readOutcome st r how values unsat

theorem decodeStop_eq {s : State} {st : Nat} {r : Reading} {rest : List Reading} (o : DecodeObs) (h : (s.stream st).decoding = r :: rest)
    (hend : r.missed ≠ 0 ∨ r.endAt.isSome = true) : s.decodeStop st o = (s.decodeLeft st o r rest).decodeTaken st o r (s.stopHow r o)
      (s.scaledValues st o) (if s.stopHow r o < 3 then unsatisfied (s.codeOf r.surface r.track) o.word else 0) := by
  have hgo : ¬(r.missed = 0 ∧ r.endAt.isNone = true) := by
    rintro ⟨hmissed, hnone⟩
    rcases hend with hend | hend
    · exact hend hmissed
    · rw [Option.isNone_iff_eq_none] at hnone
      rw [hnone] at hend
      exact nomatch hend
  unfold State.decodeStop
  rw [h]
  dsimp only
  rw [if_neg hgo]
  rfl

/-- Counting a decode changes the counters alone. -/
theorem decodeCounts_shape (s : State) (st : Nat) (r : Reading) (how corr : Nat) (late enabled : Bool) :
    ∃ c, s.decodeCounts st r how corr late enabled = { s with chn := { s.chn with counters := c } } := by
  have hone (u : State) (p : Prop) [Decidable p] (h z k n : Nat) (hu : ∃ c, u = { s with chn := { s.chn with counters := c } }) :
      ∃ c, (if p then u.countAt h z k n else u) = { s with chn := { s.chn with counters := c } } := by
    obtain ⟨c, rfl⟩ := hu
    split
    · exact ⟨_, rfl⟩
    · exact ⟨c, rfl⟩
  have htwo (u : State) (h z : Nat) (hu : ∃ c, u = { s with chn := { s.chn with counters := c } }) :
      ∃ c, (if how = 3 then u.countAt h z 10 1 else if how = 4 then u.countAt h z 11 1 else u) = { s with chn := { s.chn with counters := c } } := by
    obtain ⟨c, rfl⟩ := hu
    split
    · exact ⟨_, rfl⟩
    · split
      · exact ⟨_, rfl⟩
      · exact ⟨c, rfl⟩
  unfold State.decodeCounts
  refine hone _ _ _ _ _ _ (htwo _ _ _ (hone _ _ _ _ _ _ (hone _ _ _ _ _ _ ?_)))
  split
  · exact ⟨_, rfl⟩
  · exact ⟨_, rfl⟩

/-- The moment at which a stream decode stops, and what the time that has passed leaves alone. -/
theorem decodeTime_kept (s : State) (st : Nat) (o : DecodeObs) (r : Reading) (rest : List Reading) :
    Only [.clock, .tim] s (s.decodeTime st o r rest) ∧ (s.stopHow r o ≠ 1 → s.decodeTime st o r rest = s) ∧
      (s.decodeTime st o r rest).now =
        (if s.stopHow r o = 1 ∧ o.iter < s.iterLimit st r then max s.now (s.decodeDeadline r rest) else s.now) := by
  have hlate : s.decodeLate st o r = true ↔ s.stopHow r o = 1 ∧ o.iter < s.iterLimit st r := by
    simp [State.decodeLate]
  unfold State.decodeTime
  refine ⟨only_ite (fun _ => only_advanceTo s _) fun _ => only_refl _ s, fun hhow => if_neg fun h => hhow (hlate.mp h).1, ?_⟩
  by_cases h : s.decodeLate st o r = true
  · rw [if_pos h, if_pos (hlate.mp h), now_advanceTo]
  · rw [if_neg h, if_neg fun k => h (hlate.mpr k)]

/-- What the end of a stream decode leaves, before its outcome is taken. -/
structure DecodeLeft (st : Nat) (o : DecodeObs) (r : Reading) (rest : List Reading) (s t : State) : Prop where
  stream : t.stream st = s.stoppedStream st o r rest (s.stream st)
  streams : ∀ k, k ≠ st → t.stream k = s.stream k
  slot : t.slotState st r.slot = (if s.stopHow r o = 0 then .decoded else .failed)
  payload : s.stopHow r o = 0 → t.slotPayload st r.slot = s.openPayload (wordPayload o.word)
  now : t.now = (if s.stopHow r o = 1 ∧ o.iter < s.iterLimit st r then max s.now (s.decodeDeadline r rest) else s.now)
  ladders : t.chn.ladders = s.chn.ladders
  soft : t.chn.soft = s.chn.soft
  next : t.chn.nextLadder = s.chn.nextLadder
  queue : t.chn.deepQueue = s.chn.deepQueue
  only : Only [.clock, .tim, .chn, .srm] s t
  failed : s.stopHow r o ≠ 0 → Only [.clock, .tim, .chn] s t
  soon : s.stopHow r o ≠ 1 → Only [.chn, .srm] s t

/-- The state in which a stream decode has been shown. -/
theorem decodeShown_shape (s : State) (st : Nat) (o : DecodeObs) (r : Reading) (rest : List Reading) : ∃ c m v,
    s.decodeShown st o r rest = { s.decodeTime st o r rest with
      chn := { (s.decodeTime st o r rest).chn with counters := c, streams := m, slots := v } } := by
  unfold State.decodeShown
  obtain ⟨c, hc⟩ := decodeCounts_shape (s.decodeTime st o r rest) st r (s.stopHow r o) (s.correctedOf st o r) (s.decodeLate st o r)
    ((profByte (s.stream st).profile 16).testBit 0)
  rw [hc]
  exact ⟨_, _, _, rfl⟩

theorem stream_setSlot (s : State) (st n : Nat) (v : SlotState) (k : Nat) : (s.setSlot st n v).stream k = s.stream k := rfl

theorem stream_decodeCounts (s : State) (st : Nat) (r : Reading) (how corr : Nat) (late enabled : Bool) (k : Nat) :
    (s.decodeCounts st r how corr late enabled).stream k = s.stream k := by
  obtain ⟨c, h⟩ := decodeCounts_shape s st r how corr late enabled
  rw [h]
  rfl

theorem slotState_setSlot (s : State) (st n : Nat) (v : SlotState) : (s.setSlot st n v).slotState st n = v := agetD_acanon_same _ _ _ _

theorem slotPayload_setPayload (s : State) (st n : Nat) (v : BitVec 33792) : (s.setPayload st n v).slotPayload st n = v :=
  agetD_acanon_same _ _ _ _

theorem openPayload_congr {s t : State} (h : t.plc = s.plc) (p : BitVec 33792) : t.openPayload p = s.openPayload p := by
  simp only [State.openPayload, State.ns, h]

theorem only_setPayload (s : State) (st n : Nat) (v : BitVec 33792) : Only [.chn, .srm] s (s.setPayload st n v) := by
  simp [only_iff, State.setPayload, State.sess]

theorem decodeLeft_shown (s : State) (st : Nat) (o : DecodeObs) (r : Reading) (rest : List Reading) :
    Only [.clock, .tim, .chn] s (s.decodeShown st o r rest) ∧ (s.stopHow r o ≠ 1 → Only [.chn] s (s.decodeShown st o r rest)) := by
  obtain ⟨honly, hsoon, -⟩ := decodeTime_kept s st o r rest
  obtain ⟨c, m, v, h⟩ := decodeShown_shape s st o r rest
  rw [h]
  refine ⟨only_step (only_mono honly (by decide)) (only_setChn _ _), fun hhow => ?_⟩
  rw [hsoon hhow]
  exact only_setChn s _

theorem stream_decodeShown (s : State) (st : Nat) (o : DecodeObs) (r : Reading) (rest : List Reading) (k : Nat) :
    (s.decodeShown st o r rest).stream k = if k = st then s.stoppedStream st o r rest (s.stream st) else s.stream k := by
  have hchn : (s.decodeTime st o r rest).chn = s.chn := (decodeTime_kept s st o r rest).1 .chn (by decide)
  unfold State.decodeShown
  rw [stream_setSlot, stream_modStream, stream_decodeCounts, stream_of_chn hchn]
  by_cases hk : k = st
  · rw [hk]
  · rw [if_neg hk, if_neg hk]

theorem decodeLeft_kept (s : State) (st : Nat) (o : DecodeObs) (r : Reading) (rest : List Reading) :
    DecodeLeft st o r rest s (s.decodeLeft st o r rest) := by
  obtain ⟨htime, -, hnow⟩ := decodeTime_kept s st o r rest
  have hchn : (s.decodeTime st o r rest).chn = s.chn := htime .chn (by decide)
  have hslot : (s.decodeShown st o r rest).slotState st r.slot = (if s.stopHow r o = 0 then .decoded else .failed) :=
    slotState_setSlot _ _ _ _
  have hstream := stream_decodeShown s st o r rest
  obtain ⟨honly, hsoon⟩ := decodeLeft_shown s st o r rest
  obtain ⟨c, m, v, hshape⟩ := decodeShown_shape s st o r rest
  have hlater : (s.decodeShown st o r rest).now = (s.decodeTime st o r rest).now := by rw [hshape]
  have hladders : (s.decodeShown st o r rest).chn.ladders = s.chn.ladders := by rw [hshape, ← hchn]
  have hsoft : (s.decodeShown st o r rest).chn.soft = s.chn.soft := by rw [hshape, ← hchn]
  have hnext : (s.decodeShown st o r rest).chn.nextLadder = s.chn.nextLadder := by rw [hshape, ← hchn]
  have hqueue : (s.decodeShown st o r rest).chn.deepQueue = s.chn.deepQueue := by rw [hshape, ← hchn]
  have hopen := openPayload_congr (honly .plc (by decide)) (wordPayload o.word)
  unfold State.decodeLeft
  generalize s.decodeShown st o r rest = u at *
  by_cases hhow : s.stopHow r o = 0
  · rw [if_pos hhow]
    have hpay := only_setPayload u st r.slot (u.openPayload (wordPayload o.word))
    exact ⟨(hstream st).trans (if_pos rfl), fun k hk => (hstream k).trans (if_neg hk), hslot,
      fun _ => (slotPayload_setPayload _ _ _ _).trans hopen, hlater.trans hnow, hladders, hsoft, hnext, hqueue,
      only_step (only_mono honly (by decide)) hpay, fun hne => absurd hhow hne, fun hne => only_step (only_mono (hsoon hne) (by decide)) hpay⟩
  · rw [if_neg hhow]
    exact ⟨(hstream st).trans (if_pos rfl), fun k hk => (hstream k).trans (if_neg hk), hslot, fun h => absurd h hhow, hlater.trans hnow,
      hladders, hsoft, hnext, hqueue, only_mono honly (by decide), fun _ => honly, fun hne => only_mono (hsoon hne) (by decide)⟩

/-- Those that take the outcome of a decode leave the streams and the sector buffers. -/
theorem decodeTaken_kept (s : State) (st : Nat) (o : DecodeObs) (r : Reading) (how : Nat) (values : List Int) (unsat : Nat) :
    FrontSame s (s.decodeTaken st o r how values unsat) ∧ Only [.flt, .eqt, .plc, .orb, .chn, .wrp] s (s.decodeTaken st o r how values unsat) := by
  have hfront {t : State} (h : FrontKept s t) : FrontSame s t ∧ Only [.flt, .eqt, .plc, .orb, .chn, .wrp] s t :=
    ⟨h.front, only_mono h.only (by decide)⟩
  unfold State.decodeTaken
  split
  · exact hfront (frontKept_memberOutcome s _ _ _ _ _)
  · split
    · exact ⟨⟨rfl, rfl, rfl⟩, only_mono (only_setWrp s _) (by decide)⟩
    · split
      · exact hfront (frontKept_refl s)
      · unfold State.readOutcome
        split
        · split
          · exact hfront (frontKept_of_channel (channelKept_mediaOutcome s _ _ _ true))
          · exact hfront (frontKept_refl s)
        · exact hfront (frontKept_ladderStart s st r _ _ _ _)

/-- The outcome of a read of a row's sector that has converged. -/
theorem decodeTaken_read {s : State} {st : Nat} {o : DecodeObs} {r : Reading} {n m p : Nat} (hmember : r.kind ≠ 5) (hverify : r.kind ≠ 3)
    (hflag : r.flags.testBit 1 = false) (hrow : s.rowOf r.surface r.track r.sector = some (n, m, p)) (values : List Int) (unsat : Nat) :
    s.decodeTaken st o r 0 values unsat = s.mediaOutcome n m p true := by
  unfold State.decodeTaken
  rw [if_neg hmember, if_neg hverify, if_neg (by rw [hflag]; exact Bool.false_ne_true)]
  unfold State.readOutcome
  rw [if_pos rfl, hrow]

/-- The outcome of a read that has failed: its sector enters the ladder (R109). -/
theorem decodeTaken_failed {s : State} {st : Nat} {o : DecodeObs} {r : Reading} {how : Nat} (hmember : r.kind ≠ 5) (hverify : r.kind ≠ 3)
    (hflag : r.flags.testBit 1 = false) (hhow : how ≠ 0) (values : List Int) (unsat : Nat) :
    s.decodeTaken st o r how values unsat = s.ladderStart st r (decide (3 ≤ how)) (how == 2) values unsat := by
  unfold State.decodeTaken
  rw [if_neg hmember, if_neg hverify, if_neg (by rw [hflag]; exact Bool.false_ne_true)]
  exact if_neg hhow

/-! ## The end of a deep decode -/

/-- The deep decoders once the decode at a place has ended. -/
def State.decoderFreed (s : State) (k : Nat) : State := (s.setJobs s.chn.deepQueue (s.chn.deepBusy.eraseIdx k)).deepPump 4

theorem decoderFreed_shape (s : State) (k : Nat) : ∃ q b, s.decoderFreed k = s.setJobs q b ∧
    ((q ++ b).map jobName).Perm ((s.chn.deepQueue ++ s.chn.deepBusy.eraseIdx k).map jobName) :=
  deepPump_shape (s.setJobs s.chn.deepQueue (s.chn.deepBusy.eraseIdx k)) 4

/-- Whether a decode of a ladder's own sector is queued or runs does not rest on their order. -/
theorem decodes_of_perm {l m : List DeepJob} (h : (l.map jobName).Perm (m.map jobName)) {i : Nat}
    (hm : (m.any fun d => d.ladder == i && d.member.isNone) = false) : (l.any fun d => d.ladder == i && d.member.isNone) = false := by
  refine List.any_eq_false.mpr fun d hd => ?_
  obtain ⟨e, he, hname⟩ := List.mem_map.mp (h.mem_iff.mp (List.mem_map_of_mem hd))
  obtain ⟨hladder, hmember, -⟩ : e.ladder = d.ladder ∧ e.member = d.member ∧ e.first = d.first := by simpa [jobName] using hname
  rw [← hladder, ← hmember]
  exact List.any_eq_false.mp hm e he

/-- A deep decode that ends, of a ladder that stands. -/
theorem deepDecodeDone_eq {s : State} {k : Nat} {j : DeepJob} {l : Ladder} (word : BitVec 41216) (h : s.chn.deepBusy[k]? = some j)
    (hl : aget s.chn.ladders j.ladder = some l) : s.deepDecodeDone k word =
      (let u := (if wordOutcome l.code word = 0 then s else s.advanceTo (j.begun + s.deepLimit l)).decoderFreed k
      match j.member with
      | some m => u.memberRead j.ladder m (if wordOutcome l.code word = 0 then some (wordPayload word) else none)
      | none =>
        if wordOutcome l.code word = 0 then
          (if j.first then u.lastDeep l else u).ladderRecovered j.ladder (if j.first then 0 else l.reads)
        else
          (((((if wordOutcome l.code word = 2 then u.ladCount l 9 1 else u).modLadder j.ladder fun y => { y with
            deep := ((if wordOutcome l.code word = 2 then u.ladCount l 9 1 else u).chn.deepQueue ++
              (if wordOutcome l.code word = 2 then u.ladCount l 9 1 else u).chn.deepBusy).any fun d =>
                d.ladder == j.ladder && d.member.isNone }).modSoft l.slot fun r =>
            { r with miscorrect := r.miscorrect || wordOutcome l.code word == 2, unsat := unsatisfied l.code word }).ladderBoundary
              j.ladder).ladderNext j.ladder)) := by
  have hladder (u : State) (hu : u.chn.ladders = s.chn.ladders) : aget (u.decoderFreed k).chn.ladders j.ladder = some l := by
    obtain ⟨q, b, hq, -⟩ := decoderFreed_shape u k
    rw [hq]
    exact (congrArg (aget · j.ladder) hu).trans hl
  have htime : (if wordOutcome l.code word = 0 then s else s.advanceTo (j.begun + s.deepLimit l)).chn.ladders = s.chn.ladders := by
    split
    · rfl
    · rfl
  unfold State.deepDecodeDone
  rw [h]
  dsimp only
  rw [hl]
  dsimp only
  rw [show aget ((({ (if wordOutcome l.code word = 0 then s else s.advanceTo (j.begun + s.deepLimit l)) with
    chn := { (if wordOutcome l.code word = 0 then s else s.advanceTo (j.begun + s.deepLimit l)).chn with
      deepBusy := (if wordOutcome l.code word = 0 then s else s.advanceTo (j.begun + s.deepLimit l)).chn.deepBusy.eraseIdx k } } :
        State).deepPump 4)).chn.ladders j.ladder = some l from hladder _ htime]
  rfl

/-- The state in which a deep decode has recovered a sector, shown where it was of the first pass. -/
theorem lastDeep_kept (s : State) (l : Ladder) (first : Bool) :
    (if first then s.lastDeep l else s).chn.ladders = s.chn.ladders ∧ (if first then s.lastDeep l else s).chn.soft = s.chn.soft ∧
      Only [.chn] s (if first then s.lastDeep l else s) := by
  split
  · exact ⟨rfl, rfl, only_modStream s _ _⟩
  · exact ⟨rfl, rfl, only_refl _ s⟩

/-- What the recovery of a sector by its own deep decode leaves. -/
theorem deepRecovered {s : State} {k : Nat} {j : DeepJob} {l : Ladder} {word : BitVec 41216} (h : s.chn.deepBusy[k]? = some j)
    (hmember : j.member = none) (hl : aget s.chn.ladders j.ladder = some l) (hgood : wordOutcome l.code word = 0) :
    aget (s.deepDecodeDone k word).chn.ladders j.ladder = none ∧
      (∀ i, i ≠ j.ladder → aget (s.deepDecodeDone k word).chn.ladders i = aget s.chn.ladders i) ∧
      (∀ d ∈ (s.deepDecodeDone k word).chn.deepQueue ++ (s.deepDecodeDone k word).chn.deepBusy, d.ladder ≠ j.ladder) ∧
      (s.deepDecodeDone k word).chn.soft = softFreed s.chn.soft l.slot ∧ Only [.eqt, .plc, .orb, .chn] s (s.deepDecodeDone k word) := by
  rw [deepDecodeDone_eq word h hl, hmember]
  dsimp only
  rw [if_pos hgood, if_pos hgood]
  obtain ⟨q, b, hq, -⟩ := decoderFreed_shape s k
  rw [hq]
  have hjobs : (s.setJobs q b).chn.ladders = s.chn.ladders ∧ (s.setJobs q b).chn.soft = s.chn.soft ∧ Only [.chn] s (s.setJobs q b) :=
    ⟨rfl, rfl, only_setChn s _⟩
  obtain ⟨hladders, hsoft, honly⟩ := lastDeep_kept (s.setJobs q b) l j.first
  generalize (if j.first then (s.setJobs q b).lastDeep l else s.setJobs q b) = u at hladders hsoft honly ⊢
  have hu : aget u.chn.ladders j.ladder = some l := by rw [hladders, hjobs.1, hl]
  rw [ladderRecovered_eq hu]
  have hread := channelKept_recoveredRead u l (if j.first then 0 else l.reads)
  generalize u.recoveredRead l (if j.first then 0 else l.reads) = v at hread ⊢
  have hended := ladderEnded_drop v j.ladder false
  rw [if_neg Bool.false_ne_true, hread.ladders, hu, hread.soft, hsoft, hjobs.2.1] at hended
  obtain ⟨hgone, hothers, hdecodes, hleft, -, hkept⟩ := ladderEnded_from hread hended
  exact ⟨hgone, fun i hi => (hothers i hi).trans (by rw [hladders, hjobs.1]), hdecodes, hleft,
    only_step (only_mono (only_trans hjobs.2.2 honly) (by decide)) hkept⟩

theorem modSoft_kept (s : State) (slot : Option Nat) (f : SoftRec → SoftRec) :
    (s.modSoft slot f).chn.ladders = s.chn.ladders ∧ (s.modSoft slot f).chn.deepQueue = s.chn.deepQueue ∧
      (s.modSoft slot f).chn.deepBusy = s.chn.deepBusy ∧ Only [.chn] s (s.modSoft slot f) := by
  unfold State.modSoft
  split
  · exact ⟨rfl, rfl, rfl, only_refl _ s⟩
  · exact ⟨rfl, rfl, rfl, only_setChn s _⟩

/-- A ladder of a sector outside the rows is never abandoned. -/
theorem ladderBoundary_noRow {s : State} {i : Nat} {l : Ladder} (h : aget s.chn.ladders i = some l) (hrow : l.row = none) :
    s.ladderBoundary i = s := by
  have hneeded : s.ladderNeeded l = true := by
    unfold State.ladderNeeded
    rw [hrow]
  unfold State.ladderBoundary
  rw [h]
  exact if_pos hneeded

/-- A deep decode that has not recovered its sector leads to the next re-read. -/
theorem deepFailed {s : State} {k : Nat} {j : DeepJob} {l : Ladder} {word : BitVec 41216} (h : s.chn.deepBusy[k]? = some j)
    (hmember : j.member = none) (hl : aget s.chn.ladders j.ladder = some l) (hbad : wordOutcome l.code word ≠ 0) (hrow : l.row = none)
    (hdue : l.rereadDue = false) (hreads : l.reads < ladRereads l) (hheads : (s.healthyHeads l.surface).isEmpty = false)
    (hnone : ((s.chn.deepQueue ++ s.chn.deepBusy.eraseIdx k).any fun d => d.ladder == j.ladder && d.member.isNone) = false) :
    aget (s.deepDecodeDone k word).chn.ladders j.ladder = some { l with deep := false, rereadDue := true } ∧
      (∀ i, i ≠ j.ladder → aget (s.deepDecodeDone k word).chn.ladders i = aget s.chn.ladders i) ∧
      (s.deepDecodeDone k word).now = max s.now (j.begun + s.deepLimit l) ∧ Only [.clock, .tim, .orb, .chn] s (s.deepDecodeDone k word) := by
  rw [deepDecodeDone_eq word h hl, hmember]
  dsimp only
  rw [if_neg hbad, if_neg hbad]
  have hlater := only_advanceTo s (j.begun + s.deepLimit l)
  have hclock : (s.advanceTo (j.begun + s.deepLimit l)).now = max s.now (j.begun + s.deepLimit l) := now_advanceTo s _
  have hchn : (s.advanceTo (j.begun + s.deepLimit l)).chn = s.chn := rfl
  generalize s.advanceTo (j.begun + s.deepLimit l) = u at *
  obtain ⟨q, b, hq, hperm⟩ := decoderFreed_shape u k
  rw [hchn] at hperm
  rw [hq]
  have hjobs : (u.setJobs q b).chn.ladders = s.chn.ladders ∧ ((u.setJobs q b).chn.deepQueue ++ (u.setJobs q b).chn.deepBusy) = q ++ b ∧
      Only [.chn] u (u.setJobs q b) := ⟨by rw [← hchn]; rfl, rfl, only_setChn u _⟩
  generalize u.setJobs q b = v at hjobs ⊢
  have hcount : (if wordOutcome l.code word = 2 then v.ladCount l 9 1 else v).chn.ladders = v.chn.ladders ∧
      ((if wordOutcome l.code word = 2 then v.ladCount l 9 1 else v).chn.deepQueue ++
        (if wordOutcome l.code word = 2 then v.ladCount l 9 1 else v).chn.deepBusy) = v.chn.deepQueue ++ v.chn.deepBusy ∧
      Only [.chn] v (if wordOutcome l.code word = 2 then v.ladCount l 9 1 else v) := by
    split
    · exact ⟨rfl, rfl, only_setChn v _⟩
    · exact ⟨rfl, rfl, only_refl _ v⟩
  generalize (if wordOutcome l.code word = 2 then v.ladCount l 9 1 else v) = w at hcount ⊢
  rw [hcount.2.1, hjobs.2.1, decodes_of_perm hperm hnone]
  have hw : aget w.chn.ladders j.ladder = some l := by rw [hcount.1, hjobs.1, hl]
  have hdeep := ladder_modLadder hw fun y => { y with deep := false }
  have hmod := ladderKept_modLadder w j.ladder fun y => { y with deep := false }
  generalize (w.modLadder j.ladder fun y => { y with deep := false }) = x at hdeep hmod ⊢
  obtain ⟨hladders, -, -, hsoft⟩ := modSoft_kept x l.slot fun r =>
    { r with miscorrect := r.miscorrect || wordOutcome l.code word == 2, unsat := unsatisfied l.code word }
  generalize x.modSoft l.slot _ = y at hladders hsoft ⊢
  have hy : aget y.chn.ladders j.ladder = some { l with deep := false } := by rw [hladders, hdeep]
  have honly : Only [.clock, .tim, .orb, .chn] s y := only_step (only_step (only_step (only_step (only_mono hlater (by decide)) hjobs.2.2)
    hcount.2.2) hmod.only) hsoft
  have hheads' : (y.healthyHeads l.surface).isEmpty = false := by
    rw [healthyHeads_of_only honly (by decide) (by decide), hheads]
  obtain ⟨hkept, hlast⟩ := issueReread_kept hy
  rw [ladderBoundary_noRow hy hrow, ladderNext_reread hy hheads' rfl hdue hreads]
  refine ⟨hlast, fun i hi => ?_, ?_, only_step honly hkept.only⟩
  · rw [hkept.others i hi, hladders, hmod.others i hi, hcount.1, hjobs.1]
  · rw [hkept.only .clock (by decide), hsoft .clock (by decide), hmod.only .clock (by decide), hcount.2.2 .clock (by decide),
      hjobs.2.2 .clock (by decide), hclock]

/-- A member of a rebuild that has been decoded. -/
theorem deepGathered {s : State} {k m : Nat} {j : DeepJob} {l : Ladder} {word : BitVec 41216} (h : s.chn.deepBusy[k]? = some j)
    (hmember : j.member = some m) (hl : aget s.chn.ladders j.ladder = some l) (hgood : wordOutcome l.code word = 0) :
    aget (s.deepDecodeDone k word).chn.ladders j.ladder = some { l with gathered := l.gathered ++ [(m, wordPayload word)] } ∧
      (∀ i, i ≠ j.ladder → aget (s.deepDecodeDone k word).chn.ladders i = aget s.chn.ladders i) ∧
      (s.deepDecodeDone k word).chn.soft = s.chn.soft ∧ Only [.chn] s (s.deepDecodeDone k word) := by
  rw [deepDecodeDone_eq word h hl, hmember]
  dsimp only
  rw [if_pos hgood, if_pos hgood]
  obtain ⟨q, b, hq, -⟩ := decoderFreed_shape s k
  rw [hq]
  exact ⟨ladder_modLadder (s := s.setJobs q b) hl _, fun i hi => aget_amod_other _ _ hi, rfl,
    only_trans (only_setChn s _) (only_setChn (s.setJobs q b) _)⟩

/-! ## Re-reads and rebuilds -/

theorem ladderStep_eq {s : State} {i : Nat} {l : Ladder} (h : aget s.chn.ladders i = some l) (step : Nat) :
    s.ladderStep i step = (s.modLadder i fun l => { l with step := step }).modSoft l.slot fun r => { r with step := step } := by
  unfold State.ladderStep
  rw [h]

theorem soft_modSoft_none (s : State) (f : SoftRec → SoftRec) : s.modSoft none f = s := rfl

theorem soft_modSoft_some (s : State) (k : Nat) (f : SoftRec → SoftRec) : (s.modSoft (some k) f).chn.soft = amod s.chn.soft k f := rfl

/-- The state in which a re-read of a ladder has ended: its first-pass decode that has not begun is dropped (R106). -/
def State.firstDropped (s : State) (i : Nat) : State :=
  s.setJobs (s.chn.deepQueue.filter fun j => !(j.ladder == i && j.member.isNone && j.first)) s.chn.deepBusy

/-- The state in which the piece of a re-read has left the queue. -/
def State.rereadOut (s : State) (i n : Nat) : State :=
  { s with orb := { s.orb with pieces := afilter s.orb.pieces fun _ p => !(p.kind == PieceKind.ladder && p.owner == i && p.items == [n]) } }

theorem rereadDone_eq {s : State} {i : Nat} {l : Ladder} (values : List Int) (h : aget s.chn.ladders i = some l) (hdue : l.rereadDue = true) :
    s.rereadDone i false values =
      ((((((s.firstDropped i).modLadder i fun y => { y with
        reads := y.reads + 1, rereadDue := false,
        deep := ((s.firstDropped i).chn.deepQueue ++ (s.firstDropped i).chn.deepBusy).any fun d => d.ladder == i && d.member.isNone }).ladderStep
          i (l.reads + 1)).rereadOut i l.reads).modSoft l.slot fun r =>
            { r with values := addValues r.values values, reads := r.reads + 1 }).deepAdd
              { ladder := i, member := none, first := false, begun := 0 }) := by
  unfold State.rereadDone
  rw [h]
  dsimp only
  rw [if_neg (by simp [hdue])]
  rfl

/-- A record that a re-read has been added to, at the step that it ends. -/
def reread (values : List Int) (step : Nat) (x : SoftRec) : SoftRec :=
  { x with values := addValues x.values values, reads := x.reads + 1, step := step }

/-- A re-read that has been added to its ladder's record is decoded deep (R111). -/
theorem rereadDone_kept {s : State} {i : Nat} {l : Ladder} (values : List Int) (h : aget s.chn.ladders i = some l) (hdue : l.rereadDue = true) :
    aget (s.rereadDone i false values).chn.ladders i =
        some { l with reads := l.reads + 1, step := l.reads + 1, rereadDue := false, deep := true } ∧
      (∃ d ∈ (s.rereadDone i false values).chn.deepQueue ++ (s.rereadDone i false values).chn.deepBusy,
        d.ladder = i ∧ d.member = none ∧ d.first = false) ∧
      (∀ n, l.slot = some n → aget (s.rereadDone i false values).chn.soft n = (aget s.chn.soft n).map (reread values (l.reads + 1))) ∧
      (∀ j, j ≠ i → aget (s.rereadDone i false values).chn.ladders j = aget s.chn.ladders j) ∧
      Only [.orb, .chn] s (s.rereadDone i false values) := by
  rw [rereadDone_eq values h hdue]
  have hdrop : (s.firstDropped i).chn.ladders = s.chn.ladders ∧ (s.firstDropped i).chn.soft = s.chn.soft ∧
      Only [.orb, .chn] s (s.firstDropped i) := ⟨rfl, rfl, only_mono (only_setChn s _) (by decide)⟩
  generalize s.firstDropped i = u at hdrop ⊢
  generalize ((u.chn.deepQueue ++ u.chn.deepBusy).any fun d => d.ladder == i && d.member.isNone) = more
  obtain ⟨hladders, hsoft, honly⟩ := hdrop
  have hu : aget u.chn.ladders i = some l := by rw [hladders, h]
  have hread := ladder_modLadder hu fun y => { y with reads := y.reads + 1, rereadDue := false, deep := more }
  have hmod := ladderKept_modLadder u i fun y => { y with reads := y.reads + 1, rereadDue := false, deep := more }
  generalize (u.modLadder i fun y => { y with reads := y.reads + 1, rereadDue := false, deep := more }) = v at hread hmod ⊢
  rw [ladderStep_eq hread]
  have hstep := ladder_modLadder hread fun y => { y with step := l.reads + 1 }
  have hmod' := ladderKept_trans hmod (ladderKept_modLadder v i fun y => { y with step := l.reads + 1 })
  generalize (v.modLadder i fun y => { y with step := l.reads + 1 }) = w at hstep hmod' ⊢
  obtain ⟨hl1, -, -, hone⟩ := modSoft_kept w l.slot fun r => { r with step := l.reads + 1 }
  have hs1 (n : Nat) (hn : l.slot = some n) : (w.modSoft l.slot fun r => { r with step := l.reads + 1 }).chn.soft =
      amod w.chn.soft n fun r => { r with step := l.reads + 1 } := by
    rw [hn]
    rfl
  dsimp only
  generalize (w.modSoft l.slot fun r => { r with step := l.reads + 1 }) = x at hl1 hone hs1 ⊢
  have hout : (x.rereadOut i l.reads).chn = x.chn ∧ Only [.orb] x (x.rereadOut i l.reads) := ⟨rfl, only_setOrb x _⟩
  generalize x.rereadOut i l.reads = y at hout ⊢
  obtain ⟨hl2, -, -, htwo⟩ := modSoft_kept y l.slot fun r => { r with values := addValues r.values values, reads := r.reads + 1 }
  have hs2 (n : Nat) (hn : l.slot = some n) : (y.modSoft l.slot fun r =>
      { r with values := addValues r.values values, reads := r.reads + 1 }).chn.soft =
        amod y.chn.soft n fun r => { r with values := addValues r.values values, reads := r.reads + 1 } := by
    rw [hn]
    rfl
  generalize (y.modSoft l.slot fun r => { r with values := addValues r.values values, reads := r.reads + 1 }) = z at hl2 htwo hs2 ⊢
  obtain ⟨hothers, hkeep, -, hjobs, -, hadd, hlast⟩ := deepAdd_kept z { ladder := i, member := none, first := false, begun := 0 }
  have hz : z.chn.ladders = w.chn.ladders := by rw [hl2, hout.1, hl1]
  refine ⟨?_, ?_, fun n hn => ?_, fun j hj => ?_, ?_⟩
  · rw [hlast, hz]
    exact (aget_amod_same _ _ _).trans (congrArg (Option.map _) hstep)
  · have hmem : jobName { ladder := i, member := none, first := false, begun := 0 } ∈
        (z.deepAdd { ladder := i, member := none, first := false, begun := 0 }).deepJobs := hjobs.mem_iff.mpr List.mem_cons_self
    obtain ⟨d, hd, hname⟩ := List.mem_map.mp hmem
    exact ⟨d, hd, by simpa [jobName] using hname⟩
  · rw [hkeep, hs2 n hn, hout.1, hs1 n hn, aget_amod_same, aget_amod_same, hmod'.soft, hsoft, Option.map_map]
    rfl
  · rw [hothers j hj, hz, hmod'.others j hj, hladders]
  · exact only_step (only_step (only_step (only_step (only_trans honly hmod'.only) hone) hout.2) htwo) hadd

theorem rebuildDone_eq {s : State} {i : Nat} {l : Ladder} (h : aget s.chn.ladders i = some l) (hrebuild : l.rebuild = true)
    (hneed : s.rebuildNeed l ≤ l.gathered.length) : s.rebuildDone i =
      if (s.ladderStep i 3).rebuildGood l then (s.ladderStep i 3).ladderRecovered i 3
      else ((s.ladderStep i 3).modLadder i fun y => { y with refused := (s.ladderStep i 3).rebuildMembers l }).ladderNext i := by
  unfold State.rebuildDone
  rw [h]
  exact if_pos (by simp [hrebuild, hneed])

/-- A ladder that reaches its rebuild step. -/
structure Rebuilding (i : Nat) (l : Ladder) (s t : State) : Prop where
  ladder : aget t.chn.ladders i = some { l with step := 3 }
  others : ∀ j, j ≠ i → aget t.chn.ladders j = aget s.chn.ladders j
  soft : t.chn.soft = match l.slot with | some k => amod s.chn.soft k fun r => { r with step := 3 } | none => s.chn.soft
  only : Only [.chn] s t

theorem rebuilding_ladderStep {s : State} {i : Nat} {l : Ladder} (h : aget s.chn.ladders i = some l) : Rebuilding i l s (s.ladderStep i 3) := by
  rw [ladderStep_eq h]
  have hstep := ladder_modLadder h fun l => { l with step := 3 }
  have hother (j : Nat) (hj : j ≠ i) := (ladderKept_modLadder s i fun l => { l with step := 3 }).others j hj
  obtain ⟨hladders, -, -, honly⟩ := modSoft_kept (s.modLadder i fun l => { l with step := 3 }) l.slot fun r => { r with step := 3 }
  refine ⟨by rw [hladders, hstep], fun j hj => by rw [hladders, hother j hj], ?_, only_trans (only_setChn s _) honly⟩
  cases l.slot with
  | none => rfl
  | some k => rfl

theorem rebuildGood_of_plc {s t : State} (h : t.plc = s.plc) (l : Ladder) : t.rebuildGood l = s.rebuildGood l := by
  simp only [State.rebuildGood, h]

theorem rebuildMembers_congr {s t : State} (h : t.plc = s.plc) {l m : Ladder}
    (hl : m.row = l.row ∧ m.surface = l.surface ∧ m.track = l.track ∧ m.sector = l.sector) : t.rebuildMembers m = s.rebuildMembers l := by
  obtain ⟨hrow, hsurface, htrack, hsector⟩ := hl
  have hcopy : t.otherCopy l.surface l.track l.sector = s.otherCopy l.surface l.track l.sector := by simp only [State.otherCopy, h]
  unfold State.rebuildMembers
  rw [hrow, hsurface, htrack, hsector, hcopy, h]

/-- A rebuild that gives the sector recovers its block, to be placed again (R78, R112). -/
theorem rebuildDone_good {s : State} {i n m p key : Nat} {l : Ladder} (h : aget s.chn.ladders i = some l) (hrebuild : l.rebuild = true)
    (hneed : s.rebuildNeed l ≤ l.gathered.length) (hgood : s.rebuildGood l = true) (hrow : l.row = some (n, m, p))
    (hblock : s.blockAt n m p = some key) (hreloc : fld l.cfg 11 8 ≤ 3) :
    aget (s.rebuildDone i).chn.ladders i = none ∧ (aget (s.rebuildDone i).chn.recovered key).isSome = true ∧
      (∀ j, j ≠ i → aget (s.rebuildDone i).chn.ladders j = aget s.chn.ladders j) ∧
      (s.rebuildDone i).chn.soft = (match l.slot with | some k => adel (amod s.chn.soft k fun r => { r with step := 3 }) k | none => s.chn.soft) ∧
      Only [.eqt, .plc, .orb, .chn] s (s.rebuildDone i) := by
  have hbuild := rebuilding_ladderStep h
  rw [rebuildDone_eq h hrebuild hneed]
  generalize s.ladderStep i 3 = u at hbuild ⊢
  have hplc : u.plc = s.plc := hbuild.only .plc (by decide)
  have hat : u.blockAt n m p = some key := by
    rw [← hblock]
    simp only [State.blockAt, hplc]
  have hplaced := recovered_recoveredRead (l := { l with step := 3 }) (step := 3) hrow hat hreloc
  have hread := channelKept_recoveredRead u { l with step := 3 } 3
  rw [if_pos ((rebuildGood_of_plc hplc l).trans hgood), ladderRecovered_eq hbuild.ladder]
  generalize u.recoveredRead { l with step := 3 } 3 = v at hplaced hread ⊢
  have hended := ladderEnded_drop v i false
  rw [if_neg Bool.false_ne_true, hread.ladders, hbuild.ladder, hread.soft] at hended
  have hrecovered := hended.recovered
  obtain ⟨hgone, hothers, -, hsoft, -, honly⟩ := ladderEnded_from hread hended
  refine ⟨hgone, by rw [hrecovered, hplaced], fun j hj => (hothers j hj).trans (hbuild.others j hj), ?_,
    only_step (only_mono hbuild.only (by decide)) honly⟩
  rw [hsoft, hbuild.soft, Option.bind_some]
  cases l.slot with
  | none => rfl
  | some k => rfl

/-- A ladder whose rebuild has refused every member, and of which nothing else runs, ends unrecovered (R113). -/
theorem ladderNext_lost {s : State} {i : Nat} {l : Ladder} (h : aget s.chn.ladders i = some l) (hdeep : l.deep = false)
    (hdue : l.rereadDue = false) (hreads : ladRereads l ≤ l.reads) (hrebuild : l.rebuild = true)
    (hrefused : ∀ k ∈ s.rebuildMembers l, k ∈ l.refused) : s.ladderNext i = (s.issueRebuild i).ladderLost i := by
  obtain ⟨hkept, is, hladder⟩ := issueRebuild_kept h
  have hplc : (s.issueRebuild i).plc = s.plc := hkept.only .plc (by decide)
  have hleft : ((s.issueRebuild i).rebuildMembers { l with rebuild := true, issued := is }).filter (fun k => !l.refused.contains k) = [] := by
    rw [rebuildMembers_congr hplc ⟨rfl, rfl, rfl, rfl⟩]
    exact List.filter_eq_nil_iff.mpr fun k hk => by simp [hrefused k hk]
  have hpos (n : Nat) : 0 < max 1 n := by omega
  unfold State.ladderNext
  rw [h]
  dsimp only
  rw [if_neg (by simp; omega), if_pos (by simp [hrebuild]), hladder]
  dsimp only
  rw [hleft]
  exact if_pos (by simp [hdeep, hdue, hpos])

/-- A rebuild that does not give the sector, with nothing left of its ladder, reports it as lost (R113). -/
theorem rebuildDone_lost {s : State} {i : Nat} {l : Ladder} (h : aget s.chn.ladders i = some l) (hrebuild : l.rebuild = true)
    (hneed : s.rebuildNeed l ≤ l.gathered.length) (hbad : s.rebuildGood l = false) (hdeep : l.deep = false) (hdue : l.rereadDue = false)
    (hreads : ladRereads l ≤ l.reads) :
    aget (s.rebuildDone i).chn.ladders i = none ∧ (∀ j, j ≠ i → aget (s.rebuildDone i).chn.ladders j = aget s.chn.ladders j) ∧
      (s.rebuildDone i).flt.inbox = joinReports s.now
        { source := 192 + l.stream, kind := 1, addr := l.track % 2 ^ 24 * 1024 + l.sector % 1024, severity := 2 } s.flt.inbox ∧
      (∀ k, (aget (s.rebuildDone i).chn.soft k).map (·.values) = (aget s.chn.soft k).map (·.values)) ∧
      Only [.flt, .eqt, .plc, .orb, .chn] s (s.rebuildDone i) := by
  have hbuild := rebuilding_ladderStep h
  rw [rebuildDone_eq h hrebuild hneed]
  generalize s.ladderStep i 3 = u at hbuild ⊢
  have hplc : u.plc = s.plc := hbuild.only .plc (by decide)
  have hvalues (k : Nat) : (aget u.chn.soft k).map (·.values) = (aget s.chn.soft k).map (·.values) := by
    rw [hbuild.soft]
    cases l.slot with
    | none => rfl
    | some n =>
      by_cases hk : k = n
      · rw [hk]
        dsimp only
        rw [aget_amod_same, Option.map_map]
        rfl
      · exact congrArg (Option.map _) (aget_amod_other _ _ hk)
  rw [if_neg (by rw [rebuildGood_of_plc hplc, hbad]; exact Bool.false_ne_true)]
  generalize hall : u.rebuildMembers l = all
  have hrefuse := ladder_modLadder hbuild.ladder fun y => { y with refused := all }
  have hmod := ladderKept_modLadder u i fun y => { y with refused := all }
  generalize (u.modLadder i fun y => { y with refused := all }) = v at hrefuse hmod ⊢
  have hvplc : v.plc = u.plc := hmod.only .plc (by decide)
  have hmembers : ∀ k ∈ v.rebuildMembers { l with step := 3, refused := all }, k ∈ all := fun k hk => by
    rw [rebuildMembers_congr hvplc (l := l) (m := { l with step := 3, refused := all }) ⟨rfl, rfl, rfl, rfl⟩, hall] at hk
    exact hk
  rw [ladderNext_lost hrefuse hdeep hdue hreads hrebuild hmembers]
  obtain ⟨hissue, is, hladder⟩ := issueRebuild_kept hrefuse
  have hkept := ladderKept_trans hmod hissue
  generalize v.issueRebuild i = w at hladder hkept ⊢
  rw [ladderLost_eq hladder]
  have hlost := sectorLost_kept w { l with step := 3, refused := all, rebuild := true, issued := is }
  generalize w.sectorLost { l with step := 3, refused := all, rebuild := true, issued := is } = x at hlost ⊢
  have hended := ladderEnded_drop x i true
  rw [if_pos rfl, hlost.soft] at hended
  have hnow : w.now = s.now := (hkept.only .clock (by decide)).trans (hbuild.only .clock (by decide))
  have hflt : w.flt = s.flt := (hkept.only .flt (by decide)).trans (hbuild.only .flt (by decide))
  refine ⟨hended.gone, fun j hj => ?_, ?_, fun k => ?_, ?_⟩
  · rw [hended.others j hj, hlost.ladders, hkept.others j hj, hbuild.others j hj]
  · rw [hended.only .flt (by decide), hlost.inbox, hnow, hflt]
  · rw [hended.soft, hkept.soft, hvalues]
  · exact only_step (only_step (only_step (only_mono hbuild.only (by decide)) hkept.only) hlost.only) hended.only


end Sys2Proof.Machine
end

section
/-! SUPPORT. Decode outcomes and the escalation ladder, settled. -/

namespace Sys2Proof.Machine

open Sys2Proof

-- One declaration at a time: proofs elaborated side by side hold a stack each, and the check bounds their sum.
set_option Elab.async false

theorem ite_cases {α : Type} {p : Prop} [Decidable p] (a b : α) : (if p then a else b) = a ∨ (if p then a else b) = b := by
  by_cases h : p
  · exact .inl (if_pos h)
  · exact .inr (if_neg h)

/-- A sector whose settings allow a re-read gets one, with the settings of an ECLIPSE sector too. -/
theorem ladRereads_newLadder {s : State} (st : Nat) (r : Reading) (h : 1 ≤ fld (s.rv .chnEscCfg) 1 0) : 1 ≤ ladRereads (s.newLadder st r) := by
  have htwo (w : Word) : fld (w &&& ~~~3#32 ||| 2#32) 1 0 = 2 := by
    have hbits : (w &&& ~~~3#32 ||| 2#32).extractLsb' 0 2 = 2#2 := by
      ext i hi
      obtain rfl | rfl : i = 0 ∨ i = 1 := by omega
      · simp
      · simp
    rw [fld_eq_extract]
    exact congrArg BitVec.toNat hbits
  have hcfg : s.ladderCfg r = s.rv .chnEscCfg &&& ~~~3#32 ||| 2#32 ∨ s.ladderCfg r = s.rv .chnEscCfg := ite_cases _ _
  show 1 ≤ fld (s.ladderCfg r) 1 0
  rcases hcfg with hcfg | hcfg
  · rw [hcfg, htwo]
    decide
  · rw [hcfg]
    exact h

theorem softRoom_of_soft {s t : State} (h : t.chn.soft = s.chn.soft) : t.softRoom = s.softRoom := by simp only [State.softRoom, h]

theorem codeOf_of_sec {s t : State} (h : t.sec = s.sec) (surface track : Nat) : t.codeOf surface track = s.codeOf surface track := by
  simp only [State.codeOf, State.zoneOf, State.zoneTable, h]

/-- What a ladder that starts shows once its first decode has ended in a failure. -/
structure LadderShown (st : Nat) (r : Reading) (deep mis : Bool) (values : List Int) (s t : State) : Prop where
  next : t.chn.nextLadder = s.chn.nextLadder + 1
  ladder : ∃ l, aget t.chn.ladders s.chn.nextLadder = some l ∧ l.surface = r.surface ∧ l.track = r.track ∧ l.sector = r.sector ∧
    l.head = 18 * actOf st + r.surface ∧ l.step = 0 ∧ l.reads = 0 ∧ l.deep = deep ∧ l.rereadDue = decide (1 ≤ ladRereads l) ∧
    l.rebuild = (ladEarly l || (s.healthyHeads r.surface).isEmpty) ∧ l.slot = s.softRoom
  soft : ∀ k, s.softRoom = some k → (aget t.chn.soft k).map (fun x => (x.values, x.reads, x.step, x.missed, x.miscorrect, x.snr)) =
    some (values, 1, 0, !deep, mis, r.snr)
  others : ∀ i, i ≠ s.chn.nextLadder → aget t.chn.ladders i = aget s.chn.ladders i
  only : Only [.clock, .tim, .orb, .chn] s t

/-- A ladder that starts from a state with the ladders, the records and the heads of another. -/
theorem ladderShown_of_started {st : Nat} {r : Reading} {deep mis : Bool} {values : List Int} {unsat : Nat} {s u t : State}
    (h : Started (u.newLadder st r) (u.newRecord st r (!deep) mis values unsat) deep u t) (honly : Only [.clock, .tim, .chn] s u)
    (hladders : u.chn.ladders = s.chn.ladders) (hsoft : u.chn.soft = s.chn.soft) (hnext : u.chn.nextLadder = s.chn.nextLadder) :
    LadderShown st r deep mis (if !deep then List.replicate (codeBits (s.codeOf r.surface r.track)) 0 else values) s t := by
  obtain ⟨hn, ⟨is, hladder⟩, hrecord, hothers, hkept⟩ := h
  have hroom := softRoom_of_soft hsoft
  have hcode := codeOf_of_sec (honly .sec (by decide)) r.surface r.track
  rw [hnext] at hladder hothers hn
  rw [healthyHeads_of_only honly (by decide) (by decide)] at hladder
  refine ⟨hn, ⟨_, hladder, rfl, rfl, rfl, rfl, rfl, rfl, rfl, rfl, rfl, hroom⟩, fun k hk => ?_, fun i hi => ?_,
    only_step (only_mono honly (by decide)) hkept⟩
  · rw [hrecord, hroom, hk]
    dsimp only
    rw [aget_aput_same, ← hcode]
    rfl
  · rw [hothers i hi, hladders]

theorem ladderShown_answer {st : Nat} {r : Reading} {deep mis : Bool} {values : List Int} {s t u : State}
    (h : LadderShown st r deep mis values s t) (hu : Only [] t u) : LadderShown st r deep mis values s u := by
  have hchn : u.chn = t.chn := hu .chn (by decide)
  exact ⟨by rw [hchn, h.next], by rw [hchn]; exact h.ladder, by rw [hchn]; exact h.soft, by rw [hchn]; exact h.others, only_step h.only hu⟩

/-- A verify read brings its result to its run, as it would have before its decode was shown (R158). -/
theorem verifyOutcome_wrp {s t : State} (hwrp : t.wrp = s.wrp) (hplc : t.plc = s.plc) (r : Reading) (how : Nat) (word : BitVec 41216) :
    (t.verifyOutcome r how word).wrp = (s.verifyOutcome r how word).wrp := by
  have hpayload (n : Nat) (x : Row) (k p : Nat) : t.rowPayload n x k p = s.rowPayload n x k p := by
    simp only [State.rowPayload, State.rowStored, State.memberStored, State.storedForm, State.ns, hplc]
  simp only [State.verifyOutcome, hwrp, hplc, hpayload]

/-- Settles O35: what a decode outcome reaches is a ladder, its record, its pieces and its decodes, and none of them is a stream. -/
theorem decodingAndLadder : Obligations.DecodingAndLadder := by
  unfold Obligations.DecodingAndLadder
  refine ⟨?_, ?_, ?_, ?_, ?_, ?_, ?_, ?_, ?_, ?_, ?_, ?_, ?_, ?_, ?_, ?_⟩
  · intro s st o r rest hready hdec hend h v w
    have hleft := decodeLeft_kept s st o r rest
    refine gives_only (exec_decodeStop st o s) hready fun t ht => ?_
    rw [decodeStop_eq o hdec hend] at ht
    generalize s.decodeLeft st o r rest = u at hleft ht
    obtain ⟨hfront, htaken⟩ := decodeTaken_kept u st o r (s.stopHow r o) (s.scaledValues st o)
      (if s.stopHow r o < 3 then unsatisfied (s.codeOf r.surface r.track) o.word else 0)
    have honly := only_step htaken ht
    have hchn : t.chn = _ := ht .chn (by decide)
    obtain ⟨hstreams, hslots, hdata⟩ := hfront
    rw [← hchn] at hstreams hslots hdata
    have hstream (k : Nat) : t.stream k = u.stream k := by simp only [State.stream, hstreams]
    have hstop := (hstream st).trans hleft.stream
    refine ⟨congrArg Stream.decoding hstop, congrArg Stream.lastAt hstop, congrArg Stream.last hstop, congrArg Stream.nbrs hstop, ?_,
      fun hh => ?_, (honly .clock (by decide)).trans hleft.now, fun k hk => (hstream k).trans (hleft.streams k hk),
      only_step (only_mono hleft.only (by decide)) honly⟩
    · simpa only [State.slotState, hslots] using hleft.slot
    · simpa only [State.slotPayload, hdata] using hleft.payload hh
  · intro s st o r rest hready hdec hmissed hend
    refine gives_still (exec_decodeStop st o s) hready rfl (still_of_eq ?_)
    unfold State.decodeStop
    rw [hdec]
    exact if_pos ⟨hmissed, by rw [hend]; rfl⟩
  · intro s st o hready hdec
    refine gives_still (exec_decodeStop st o s) hready rfl (still_of_eq ?_)
    unfold State.decodeStop
    rw [hdec]
  · intro s st o r rest n m p hready hdec hend hmember hverify hflag hhow hrow
    have hleft := decodeLeft_kept s st o r rest
    refine gives_only (exec_decodeStop st o s) hready fun t ht => ?_
    rw [decodeStop_eq o hdec hend, hhow] at ht
    generalize s.decodeLeft st o r rest = u at hleft ht
    have hsoon := hleft.soon (by rw [hhow]; decide)
    have hplc : u.plc = s.plc := hsoon .plc (by decide)
    have hspot : u.rowOf r.surface r.track r.sector = some (n, m, p) := by
      rw [← hrow]
      simp only [State.rowOf, hplc]
    rw [decodeTaken_read hmember hverify hflag hspot] at ht
    have hkept := channelKept_mediaOutcome u n m p true
    have hcmds : (u.mediaOutcome n m p true).eqt.cmds = readsMarked s.eqt.cmds n m p true := by
      obtain ⟨x, y, h⟩ := mediaOutcome_shape u n m p true
      rw [h]
      exact congrArg (fun l => readsMarked l n m p true) (cmds_of_only hsoon (by decide))
    refine ⟨?_, (cmds_of_only ht (by decide)).trans hcmds, only_step (only_step (only_mono hsoon (by decide)) hkept.only) ht⟩
    rw [ht .chn (by decide), hkept.ladders, hleft.ladders]
  · intro s st o r rest hready hdec hend hmember hverify hflag hhow hnew hroom
    have hnonzero : s.stopHow r o ≠ 0 := by omega
    have hearly : decide (3 ≤ s.stopHow r o) = false := decide_eq_false (by omega)
    have hleft := decodeLeft_kept s st o r rest
    refine gives_only (exec_decodeStop st o s) hready fun t ht => ?_
    rw [decodeStop_eq o hdec hend, decodeTaken_failed hmember hverify hflag hnonzero, hearly] at ht
    generalize s.decodeLeft st o r rest = u at hleft ht
    have hstart := started_decoded (s := u) st (s.stopHow r o == 2) (s.scaledValues st o)
      (if s.stopHow r o < 3 then unsatisfied (s.codeOf r.surface r.track) o.word else 0) (by rw [hleft.ladders, hnew])
      (by rw [hleft.queue]; exact hroom)
    have h := ladderShown_answer (ladderShown_of_started (deep := true) hstart (hleft.failed hnonzero) hleft.ladders hleft.soft hleft.next) ht
    exact ⟨h.next, h.ladder, h.soft, h.others, h.only⟩
  · intro s st o r rest hready hdec hend hmember hverify hflag hhow hnew hreads hheads
    have hnonzero : s.stopHow r o ≠ 0 := by omega
    have hlate : decide (3 ≤ s.stopHow r o) = true := decide_eq_true hhow
    have hmis : (s.stopHow r o == 2) = false := beq_eq_false_iff_ne.mpr (by omega)
    have hleft := decodeLeft_kept s st o r rest
    refine gives_only (exec_decodeStop st o s) hready fun t ht => ?_
    rw [decodeStop_eq o hdec hend, decodeTaken_failed hmember hverify hflag hnonzero, hlate, hmis] at ht
    generalize s.decodeLeft st o r rest = u at hleft ht
    have honly := hleft.failed hnonzero
    have hrv : u.rv .chnEscCfg = s.rv .chnEscCfg := rv_of_regs (honly .regs (by decide)) _
    have hstart := started_missed (s := u) st false (s.scaledValues st o)
      (if s.stopHow r o < 3 then unsatisfied (s.codeOf r.surface r.track) o.word else 0) (by rw [hleft.ladders, hnew])
      (ladRereads_newLadder st r (by rw [hrv]; exact hreads)) (by rw [healthyHeads_of_only honly (by decide) (by decide), hheads])
    have h := ladderShown_answer (ladderShown_of_started (deep := false) hstart honly hleft.ladders hleft.soft hleft.next) ht
    obtain ⟨l, hl, hsurface, htrack, hsector, hhead, hstep, hr, hdeep, hdue, hrebuild, hslot⟩ := h.ladder
    rw [hheads, Bool.or_false] at hrebuild
    exact ⟨h.next, ⟨l, hl, hsurface, htrack, hsector, hhead, hstep, hr, hdeep, hdue, hrebuild, hslot⟩, h.soft, h.others, h.only⟩
  · intro s st o r rest hready hdec hend hmember hverify hflag hhow hknown
    have hleft := decodeLeft_kept s st o r rest
    refine gives_only (exec_decodeStop st o s) hready fun t ht => ?_
    rw [decodeStop_eq o hdec hend, decodeTaken_failed hmember hverify hflag hhow] at ht
    generalize s.decodeLeft st o r rest = u at hleft ht
    rw [ladderStart_known st _ _ _ _ (by rw [hleft.ladders, hknown])] at ht
    rw [ht .chn (by decide)]
    exact ⟨hleft.ladders, hleft.next, hleft.queue, only_step (hleft.failed hhow) ht⟩
  · intro s st o r rest hready hdec hend hverify
    have hleft := decodeLeft_kept s st o r rest
    refine gives_only (exec_decodeStop st o s) hready fun t ht => ?_
    have htaken (u : State) (how : Nat) (values : List Int) (n : Nat) : u.decodeTaken st o r how values n = u.verifyOutcome r how o.word := by
      unfold State.decodeTaken
      rw [if_neg (by rw [hverify]; decide), if_pos hverify]
    rw [decodeStop_eq o hdec hend, htaken] at ht
    generalize s.decodeLeft st o r rest = u at hleft ht
    have hwrp := verifyOutcome_wrp (hleft.only .wrp (by decide)) (hleft.only .plc (by decide)) r (s.stopHow r o) o.word
    have hchn : t.chn = u.chn := ht .chn (by decide)
    refine ⟨(ht .wrp (by decide)).trans hwrp, by rw [hchn, hleft.ladders], by rw [hchn, hleft.queue],
      only_step (only_step (only_mono hleft.only (by decide)) (only_setWrp u _)) ht⟩
  · intro s k w hready hnone
    refine gives_still (exec_deepDecodeDone k w s) hready rfl (still_of_eq ?_)
    unfold State.deepDecodeDone
    rw [hnone]
  · intro s k w j l hready hbusy hmember hl hgood
    obtain ⟨hgone, hothers, hdecodes, hsoft, honly⟩ := deepRecovered hbusy hmember hl hgood
    refine gives_only (exec_deepDecodeDone k w s) hready fun t ht => ?_
    rw [ht .chn (by decide)]
    refine ⟨hgone, hothers, hdecodes, hsoft.trans ?_, only_step honly ht⟩
    cases l.slot <;> rfl
  · intro s k w j l hready hbusy hmember hl hbad hrow hdue hreads hheads hnone
    obtain ⟨hladder, hothers, hnow, honly⟩ := deepFailed hbusy hmember hl hbad hrow hdue hreads hheads hnone
    refine gives_only (exec_deepDecodeDone k w s) hready fun t ht => ?_
    rw [ht .chn (by decide), ht .clock (by decide)]
    exact ⟨⟨_, hladder, rfl, rfl, rfl⟩, hothers, hnow, only_step honly ht⟩
  · intro s k m w j l hready hbusy hmember hl hgood
    obtain ⟨hladder, hothers, hsoft, honly⟩ := deepGathered hbusy hmember hl hgood
    refine gives_only (exec_deepDecodeDone k w s) hready fun t ht => ?_
    rw [ht .chn (by decide)]
    exact ⟨hladder, hothers, hsoft, only_step honly ht⟩
  · intro s ix missed values l hready hl hdue
    refine gives_still (exec_rereadDone ix missed values s) hready rfl (still_of_eq ?_)
    unfold State.rereadDone
    rw [hl]
    exact if_pos (by rw [hdue]; rfl)
  · intro s ix values l hready hl hdue
    obtain ⟨hladder, hjob, hsoft, hothers, honly⟩ := rereadDone_kept values hl hdue
    refine gives_only (exec_rereadDone ix false values s) hready fun t ht => ?_
    rw [ht .chn (by decide)]
    exact ⟨hladder, hjob, hsoft, hothers, only_step honly ht⟩
  · intro s ix l n m p key hready hl hrebuild hrow hneed hgood hblock hreloc
    obtain ⟨hgone, hplaced, hothers, hsoft, honly⟩ := rebuildDone_good hl hrebuild hneed hgood hrow hblock hreloc
    refine gives_only (exec_rebuildDone ix s) hready fun t ht => ?_
    rw [ht .chn (by decide)]
    exact ⟨hgone, hplaced, hothers, hsoft, only_step honly ht⟩
  · intro s ix l n m p hready hl hrebuild _ hneed hbad hdeep hdue hreads
    obtain ⟨hgone, hothers, hinbox, hvalues, honly⟩ := rebuildDone_lost hl hrebuild hneed hbad hdeep hdue hreads
    refine gives_only (exec_rebuildDone ix s) hready fun t ht => ?_
    rw [ht .chn (by decide), ht .flt (by decide)]
    exact ⟨hgone, hothers, hinbox, hvalues, only_step honly ht⟩


end Sys2Proof.Machine
end

section
/-! SUPPORT. What a byte of the DMA address map reads after a write, and which bus errors an address gives. -/

namespace Sys2Proof.Machine

open Sys2Proof

-- One declaration at a time: proofs elaborated side by side hold a stack each, and the check bounds their sum.
set_option Elab.async false

/-! ## A line of the cache -/

/-- Bit n of a line with byte i replaced. -/
theorem lineByte_bit (v : BitVec 1024) (i n : Nat) (b : Byte) (hn : n < 1024) :
    (lineByte v i b).getLsbD n = if 8 * i ≤ n ∧ n < 8 * i + 8 then b.getLsbD (n - 8 * i) else v.getLsbD n := by
  have h255 : ∀ m, BitVec.getLsbD 0xFF#1024 m = decide (m < 8) := by
    intro m
    have hbits : Nat.testBit 255 m = decide (m < 8) := Nat.testBit_two_pow_sub_one 8 m
    rw [BitVec.getLsbD_ofNat, hbits]
    by_cases hm : m < 8
    · simp [hm, show m < 1024 by omega]
    · simp [hm]
  simp only [lineByte, BitVec.getLsbD_or, BitVec.getLsbD_and, BitVec.getLsbD_not, BitVec.getLsbD_shiftLeft, BitVec.getLsbD_setWidth, h255,
    hn, decide_true, Bool.true_and]
  have hsmall : n - 8 * i < 1024 := by omega
  by_cases hlow : 8 * i ≤ n
  · by_cases hhigh : n < 8 * i + 8
    · have hin : n - 8 * i < 8 := by omega
      simp [hlow, hhigh, hin, hsmall, Nat.not_lt.mpr hlow]
    · have hout : ¬ n - 8 * i < 8 := by omega
      simp [hhigh, hout, BitVec.getLsbD_of_ge b (n - 8 * i) (by omega)]
  · simp [hlow, show n < 8 * i by omega]

/-- A byte of a line reads as written, every other byte of it as before. -/
theorem extract_lineByte (v : BitVec 1024) (i j : Nat) (b : Byte) (hj : j < 128) :
    (lineByte v i b).extractLsb' (8 * j) 8 = if j = i then b else v.extractLsb' (8 * j) 8 := by
  apply BitVec.eq_of_getLsbD_eq
  intro k hk
  rw [BitVec.getLsbD_extractLsb', lineByte_bit v i (8 * j + k) b (by omega)]
  by_cases h : j = i
  · subst h
    rw [if_pos (by omega), if_pos rfl]
    simp [hk]
  · rw [if_neg (by omega), if_neg h, BitVec.getLsbD_extractLsb']

/-! ## HBM -/

/-- What HBM itself holds depends on HBM alone. -/
theorem hbmRaw_congr {s t : State} (h : t.hbm = s.hbm) (a : Nat) : t.hbmRaw a = s.hbmRaw a := by
  cases s
  cases t
  cases h
  rfl

theorem hbmByte_congr {s t : State} {a : Nat} (hlines : t.cch.lines = s.cch.lines) (hvictims : t.cch.victims = s.cch.victims)
    (hside : t.cch.side = s.cch.side) (hraw : t.hbmRaw a = s.hbmRaw a) : t.hbmByte a = s.hbmByte a := by
  simp only [State.hbmByte, hlines, hvictims, hside, hraw]

/-- A write leaves no byte in the side buffer that it has not found there. -/
theorem hbmWrite_side (s : State) (a : Nat) (b : Byte) (hside : s.cch.side = []) : (s.hbmWrite a b).cch.side = [] := by
  simp only [State.hbmWrite]
  split
  · split <;> exact hside
  · split <;> exact congrArg (adel · (a / 128)) hside

/-- A byte of HBM, once written, reads as written. -/
theorem hbmByte_hbmWrite_same (s : State) (a : Nat) (b : Byte) : (s.hbmWrite a b).hbmByte a = b := by
  have hmod : a % 128 < 128 := Nat.mod_lt _ (by decide)
  cases hline : aget s.cch.lines (a / 128) with
  | some x =>
    have hnew : ∃ y, aget (s.hbmWrite a b).cch.lines (a / 128) = some y ∧ y.bytes = lineByte x.bytes (a % 128) b := by
      simp only [State.hbmWrite, hline]
      split <;> exact ⟨_, aget_aput_same _ _ _, rfl⟩
    obtain ⟨y, hy, hbytes⟩ := hnew
    simp only [State.hbmByte, hy, hbytes]
    rw [extract_lineByte _ _ _ _ hmod, if_pos rfl]
  | none =>
    cases hvictim : aget s.cch.victims (a / 128) with
    | some v =>
      simp only [State.hbmWrite, State.hbmByte, hline, hvictim, aget_aput_same]
      rw [extract_lineByte _ _ _ _ hmod, if_pos rfl]
    | none =>
      simp only [State.hbmWrite, State.hbmByte, hline, hvictim, State.hbmPut_cch, aget_adel_same]
      rw [hbmRaw_hbmPut, if_pos rfl]

/-- With an empty side buffer every other byte of HBM reads as before. -/
theorem hbmByte_hbmWrite_other (s : State) {a c : Nat} (b : Byte) (hside : s.cch.side = []) (h : c ≠ a) :
    (s.hbmWrite a b).hbmByte c = s.hbmByte c := by
  have hmod : c % 128 < 128 := Nat.mod_lt _ (by decide)
  have hraw (u : State) : (u.hbmPut a b).hbmRaw c = u.hbmRaw c := by rw [hbmRaw_hbmPut, if_neg h]
  have hsame : c / 128 = a / 128 → c % 128 ≠ a % 128 := by omega
  cases hline : aget s.cch.lines (a / 128) with
  | some x =>
    have hnew : ∃ y, (s.hbmWrite a b).cch = { s.cch with lines := aput s.cch.lines (a / 128) y } ∧ y.bytes = lineByte x.bytes (a % 128) b := by
      simp only [State.hbmWrite, hline]
      split <;> exact ⟨_, rfl, rfl⟩
    have hkept : (s.hbmWrite a b).hbmRaw c = s.hbmRaw c := by
      simp only [State.hbmWrite, hline]
      split
      · exact (hraw _).trans (hbmRaw_congr (by rfl) c)
      · exact hbmRaw_congr (by rfl) c
    obtain ⟨y, hy, hbytes⟩ := hnew
    by_cases hl : c / 128 = a / 128
    · simp only [State.hbmByte, hy, hl, hline, aget_aput_same, hbytes]
      rw [extract_lineByte _ _ _ _ hmod, if_neg (hsame hl)]
    · simp only [State.hbmByte, hy, aget_aput_other _ _ hl, hkept]
  | none =>
    cases hvictim : aget s.cch.victims (a / 128) with
    | some v =>
      by_cases hl : c / 128 = a / 128
      · simp only [State.hbmWrite, State.hbmByte, hl, hline, hvictim, aget_aput_same]
        rw [extract_lineByte _ _ _ _ hmod, if_neg (hsame hl)]
      · simp only [State.hbmWrite, State.hbmByte, hline, hvictim, aget_aput_other _ _ hl, hside]
        rfl
    | none =>
      simp only [State.hbmWrite, State.hbmByte, hline, hvictim, State.hbmPut_cch, hraw, hside]
      rfl

/-! ## SRAM -/

theorem sramPart_slot {o n k : Nat} (h : sramPart o = .slot n k) : o = 0x1000000 + 8192 * n + k ∧ k < 4224 := by
  simp only [sramPart] at h
  split at h
  · cases h
    omega
  · split at h
    · cases h
    · split at h
      · cases h
      · split at h <;> cases h

theorem sramPart_profile {o n k : Nat} (h : sramPart o = .profile n k) : o = 0x3800000 + 128 * n + k ∧ k < 128 := by
  simp only [sramPart] at h
  split at h
  · cases h
  · split at h
    · cases h
      omega
    · split at h
      · cases h
      · split at h <;> cases h

theorem sramPart_wprofile {o n k : Nat} (h : sramPart o = .wprofile n k) : o = 0x3890000 + 32 * n + k ∧ k < 32 := by
  simp only [sramPart] at h
  split at h
  · cases h
  · split at h
    · cases h
    · split at h
      · cases h
        omega
      · split at h <;> cases h

theorem sramPart_diag {o k : Nat} (h : sramPart o = .diag k) : o = 0x3FFE000 + k := by
  simp only [sramPart] at h
  split at h
  · cases h
  · split at h
    · cases h
    · split at h
      · cases h
      · split at h
        · have hk := SramPart.diag.inj h
          omega
        · cases h

/-- A stored SRAM byte with the check bits of its data reads as its data. -/
theorem byteData_fresh (b : Byte) : byteData { data := b, check := Config.srmCheck b } = b := by
  have hclean : byteOutcome { data := b, check := Config.srmCheck b } ≠ 1 := by
    rw [byteOutcome, if_pos rfl]
    decide
  rw [byteData, if_pos (.inl hclean)]

/-- A byte of an entry of a map of bit vectors, after one byte of one entry was written. -/
theorem byteOf_acanon {w : Nat} (m : Assoc (BitVec w)) (n k i j : Nat) (b : Byte) (hj : 8 * j + 8 ≤ w) :
    byteOf (agetD (acanon m n 0 (withByte (agetD m n 0) k b)) i 0) j = if i = n ∧ j = k then b else byteOf (agetD m i 0) j := by
  rw [agetD_acanon]
  by_cases hi : i = n
  · subst hi
    rw [if_pos rfl, byteOf_withByte _ _ _ _ hj]
    simp only [true_and]
  · rw [if_neg hi, if_neg fun h => hi h.1]

/-- A byte of SRAM, once written, reads as written; every other byte reads as before. -/
theorem sramByte_sramPut (s : State) (o c : Nat) (b : Byte) : (s.sramPut o b).sramByte c = if c = o then b else s.sramByte c := by
  have hdiffer (h : sramPart c ≠ sramPart o) : c ≠ o := fun hc => h (congrArg sramPart hc)
  cases ho : sramPart o with
  | plain =>
    cases hc : sramPart c with
    | plain =>
      simp only [State.sramByte, State.sramPut, ho, hc, agetD_acanon]
    | _ =>
      rw [if_neg (hdiffer (by rw [ho, hc]; exact nofun))]
      simp only [State.sramByte, State.sramPut, ho, hc, State.diagByte]
  | slot n k =>
    cases hc : sramPart c with
    | slot i j =>
      obtain ⟨hoff, hk⟩ := sramPart_slot ho
      obtain ⟨hat, hj⟩ := sramPart_slot hc
      simp only [State.sramByte, State.sramPut, ho, hc]
      rw [byteOf_acanon _ _ _ _ _ _ (by omega)]
      exact ite_congr (propext (by omega)) (fun _ => rfl) fun _ => rfl
    | _ =>
      rw [if_neg (hdiffer (by rw [ho, hc]; exact nofun))]
      simp only [State.sramByte, State.sramPut, ho, hc, State.diagByte]
  | profile n k =>
    cases hc : sramPart c with
    | profile i j =>
      obtain ⟨hoff, hk⟩ := sramPart_profile ho
      obtain ⟨hat, hj⟩ := sramPart_profile hc
      simp only [State.sramByte, State.sramPut, ho, hc]
      rw [byteOf_acanon _ _ _ _ _ _ (by omega)]
      exact ite_congr (propext (by omega)) (fun _ => rfl) fun _ => rfl
    | _ =>
      rw [if_neg (hdiffer (by rw [ho, hc]; exact nofun))]
      simp only [State.sramByte, State.sramPut, ho, hc, State.diagByte]
  | wprofile n k =>
    cases hc : sramPart c with
    | wprofile i j =>
      obtain ⟨hoff, hk⟩ := sramPart_wprofile ho
      obtain ⟨hat, hj⟩ := sramPart_wprofile hc
      simp only [State.sramByte, State.sramPut, ho, hc]
      rw [byteOf_acanon _ _ _ _ _ _ (by omega)]
      exact ite_congr (propext (by omega)) (fun _ => rfl) fun _ => rfl
    | _ =>
      rw [if_neg (hdiffer (by rw [ho, hc]; exact nofun))]
      simp only [State.sramByte, State.sramPut, ho, hc, State.diagByte]
  | diag k =>
    cases hc : sramPart c with
    | diag j =>
      have hoff := sramPart_diag ho
      have hat := sramPart_diag hc
      simp only [State.sramByte, State.sramPut, ho, hc, State.diagByte]
      by_cases hj : j = k
      · rw [if_pos (by omega), hj, agetD_aput_same, byteData_fresh]
      · rw [if_neg (by omega), agetD_aput_other _ _ _ hj]
    | _ =>
      rw [if_neg (hdiffer (by rw [ho, hc]; exact nofun))]
      simp only [State.sramByte, State.sramPut, ho, hc]

theorem sramByte_congr {s t : State} (hsrm : t.srm = s.srm) (hslots : t.chn.slotData = s.chn.slotData) (o : Nat) :
    t.sramByte o = s.sramByte o := by simp only [State.sramByte, State.diagByte, hsrm, hslots]

/-! ## The DMA address map -/

theorem only_hbmWrite (s : State) (a : Nat) (b : Byte) : Only [.hbm, .cch] s (s.hbmWrite a b) := by
  simp only [State.hbmWrite]
  split
  · refine only_ite (fun _ => ?_) fun _ => only_mono (only_setCch s _) (by decide)
    exact only_step (only_mono (only_setCch s _) (by decide)) (only_hbmPut _ _ _)
  · split
    · exact only_mono (only_setCch s _) (by decide)
    · exact only_step (only_mono (only_setCch s _) (by decide)) (only_hbmPut _ _ _)

theorem only_sramPut (s : State) (o : Nat) (b : Byte) : Only [.srm, .chn] s (s.sramPut o b) := by
  simp only [State.sramPut]
  split <;> simp [only_iff, State.sess]

/-- The parts of the state that hold bytes of the DMA address map. -/
def memoryParts : List Part := [.hbm, .srm, .cch, .chn]

theorem only_dmaPut (s : State) (a : Nat) (b : Byte) : Only memoryParts s (s.dmaPut a b) :=
  only_ite (fun _ => only_mono (only_hbmWrite s a b) (by decide)) fun _ => only_mono (only_sramPut s _ b) (by decide)

theorem only_dmaPutAll (s : State) (a : Nat) (bs : List Byte) : Only memoryParts s (s.dmaPutAll a bs) := by
  induction bs generalizing s a with
  | nil => exact only_refl _ s
  | cons b bs ih => exact only_trans (only_dmaPut s _ b) (ih _ _)

theorem dmaPut_side (s : State) (a : Nat) (b : Byte) (hside : s.cch.side = []) : (s.dmaPut a b).cch.side = [] := by
  simp only [State.dmaPut]
  split
  · exact hbmWrite_side s a b hside
  · rw [(only_sramPut s _ b) .cch (by decide)]
    exact hside

/-- What a byte of the map reads depends on what HBM, the cache, SRAM and the slots hold. -/
theorem dmaByte_congr {s t : State} {a : Nat} (hraw : t.hbmRaw a = s.hbmRaw a) (hlines : t.cch.lines = s.cch.lines)
    (hvictims : t.cch.victims = s.cch.victims) (hside : t.cch.side = s.cch.side) (hsrm : t.srm = s.srm)
    (hslots : t.chn.slotData = s.chn.slotData) : t.dmaByte a = s.dmaByte a := by
  simp only [State.dmaByte, hbmByte_congr hlines hvictims hside hraw, sramByte_congr hsrm hslots]

/-- A byte of the map, once written, reads as written. -/
theorem dmaByte_dmaPut_same (s : State) (a : Nat) (b : Byte) : (s.dmaPut a b).dmaByte a = b := by
  by_cases ha : a < sramBase
  · simp only [State.dmaPut, State.dmaByte, ha, if_true]
    exact hbmByte_hbmWrite_same s a b
  · simp only [State.dmaPut, State.dmaByte, ha, if_false]
    rw [sramByte_sramPut, if_pos rfl]

/-- With an empty side buffer every other byte of the map reads as before. -/
theorem dmaByte_dmaPut_other (s : State) {a c : Nat} (b : Byte) (hside : s.cch.side = []) (h : c ≠ a) :
    (s.dmaPut a b).dmaByte c = s.dmaByte c := by
  by_cases ha : a < sramBase
  · have honly : Only [.hbm, .cch] s (s.hbmWrite a b) := only_hbmWrite s a b
    have hchn : (s.hbmWrite a b).chn = s.chn := honly .chn (by decide)
    simp only [State.dmaPut, State.dmaByte, ha, if_true, hbmByte_hbmWrite_other s b hside h,
      sramByte_congr (honly .srm (by decide)) (congrArg Chn.slotData hchn)]
  · have honly : Only [.srm, .chn] s (s.sramPut (a - sramBase) b) := only_sramPut s _ b
    have hcch : (s.sramPut (a - sramBase) b).cch = s.cch := honly .cch (by decide)
    have hhbm : (s.sramPut (a - sramBase) b).hbm = s.hbm := honly .hbm (by decide)
    simp only [State.dmaPut, State.dmaByte, ha, if_false]
    by_cases hc : c < sramBase
    · rw [if_pos hc, if_pos hc]
      exact hbmByte_congr (congrArg Cch.lines hcch) (congrArg Cch.victims hcch) (congrArg Cch.side hcch) (hbmRaw_congr hhbm c)
    · rw [if_neg hc, if_neg hc, sramByte_sramPut, if_neg (by omega)]

/-- Bytes written from an address on, below the end of the map, read as written. -/
theorem dmaByte_dmaPutAll (s : State) (a c : Nat) (bs : List Byte) (hside : s.cch.side = []) (hend : a + bs.length ≤ 2 ^ 48) :
    (s.dmaPutAll a bs).dmaByte c = if a ≤ c then bs.getD (c - a) (s.dmaByte c) else s.dmaByte c := by
  induction bs generalizing s a with
  | nil => simp [State.dmaPutAll]
  | cons b bs ih =>
    rw [List.length_cons] at hend
    have hmod : a % 2 ^ 48 = a := Nat.mod_eq_of_lt (by omega)
    rw [State.dmaPutAll, hmod, ih (s.dmaPut a b) (a + 1) (dmaPut_side s a b hside) (by omega)]
    by_cases hc : c = a
    · subst hc
      rw [if_neg (by omega), if_pos (Nat.le_refl _), dmaByte_dmaPut_same, Nat.sub_self, List.getD_cons_zero]
    · rw [dmaByte_dmaPut_other s b hside hc]
      by_cases hlt : a ≤ c
      · have hsub : c - a = (c - (a + 1)) + 1 := by omega
        rw [if_pos (by omega), if_pos hlt, hsub, List.getD_cons_succ]
      · rw [if_neg (by omega), if_neg hlt]

/-! ## Ranges -/

theorem dmaBytes_congr {s t : State} (h : ∀ a, t.dmaByte a = s.dmaByte a) (a len : Nat) : t.dmaBytes a len = s.dmaBytes a len := by
  simp only [State.dmaBytes, h]

@[simp] theorem length_dmaBytes (s : State) (a len : Nat) : (s.dmaBytes a len).length = len := by simp [State.dmaBytes]

theorem getD_dmaBytes (s : State) (a len i : Nat) (d : Byte) :
    (s.dmaBytes a len).getD i d = if i < len then s.dmaByte ((a + i) % 2 ^ 48) else d := by
  simp only [State.dmaBytes, List.getD_eq_getElem?_getD, List.getElem?_map]
  by_cases hi : i < len
  · rw [if_pos hi, List.getElem?_range hi]
    rfl
  · rw [if_neg hi, List.getElem?_eq_none (by simpa using hi)]
    rfl

theorem only_landBytes (s : State) (dst : Nat) (bs : List Byte) : Only memoryParts s (s.landBytes dst bs) := by
  have hheal : Only memoryParts s ((s.dmaPutAll dst bs).healGranules dst bs.length) :=
    only_step (only_dmaPutAll s dst bs) (only_setHbm _ _)
  exact only_ite (fun _ => only_step hheal (only_setChn _ _)) fun _ => hheal

/-- Healing granules and marking a slot leave every byte. -/
theorem dmaByte_landBytes (s : State) (dst a : Nat) (bs : List Byte) :
    (s.landBytes dst bs).dmaByte a = (s.dmaPutAll dst bs).dmaByte a := by
  have hheal : ((s.dmaPutAll dst bs).healGranules dst bs.length).dmaByte a = (s.dmaPutAll dst bs).dmaByte a :=
    dmaByte_congr (by rfl) (by rfl) (by rfl) (by rfl) (by rfl) (by rfl)
  simp only [State.landBytes]
  split
  · exact (dmaByte_congr (by rfl) (by rfl) (by rfl) (by rfl) (by rfl) (by rfl)).trans hheal
  · exact hheal

/-- What lands is the bytes, and every byte outside the destination reads as before. -/
theorem dmaByte_landed (s : State) (dst len a : Nat) {bs : List Byte} (hlen : bs.length = len) (hside : s.cch.side = [])
    (hend : dst + len ≤ 2 ^ 48) :
    (s.landBytes dst bs).dmaByte a = if dst ≤ a then bs.getD (a - dst) (s.dmaByte a) else s.dmaByte a := by
  rw [dmaByte_landBytes, dmaByte_dmaPutAll s dst a bs hside (by omega)]

/-! ## Bus errors -/

theorem addrFault_congr {s t : State} (hunits : ∀ u, t.unitStack u = s.unitStack u) (a : Nat) : t.addrFault a = s.addrFault a := by
  simp only [State.addrFault, hunits]

theorem unitStack_congr {s t : State} (h : t.hbm = s.hbm) (u : Nat) : t.unitStack u = s.unitStack u := by
  simp only [State.unitStack, h]

theorem sramOutcome_congr {s t : State} (h : t.srm = s.srm) (o : Nat) : t.sramOutcome o = s.sramOutcome o := by
  simp only [State.sramOutcome, State.diagByte, h]

/-- The bus error of a read depends on HBM and SRAM alone. -/
theorem readFault_congr {s t : State} (hhbm : t.hbm = s.hbm) (hsrm : t.srm = s.srm) (a : Nat) : t.readFault a = s.readFault a := by
  have hpoison : t.poisonAt a = s.poisonAt a := by simp only [State.poisonAt, granOutcome_congr hhbm, sramOutcome_congr hsrm]
  simp only [State.readFault, addrFault_congr (unitStack_congr hhbm), hpoison]

theorem firstFault_congr {s t : State} (hhbm : t.hbm = s.hbm) (hsrm : t.srm = s.srm) (a len : Nat) (rd : Bool) :
    t.firstFault a len rd = s.firstFault a len rd := by
  simp only [State.firstFault, readFault_congr hhbm hsrm, addrFault_congr (unitStack_congr hhbm)]

theorem moveFault_congr {s t : State} (hhbm : t.hbm = s.hbm) (hsrm : t.srm = s.srm) (src dst len : Nat) (fab : Option Nat) :
    t.moveFault src dst len fab = s.moveFault src dst len fab := by
  simp only [State.moveFault, firstFault_congr hhbm hsrm]

/-- A write changes no mapping of a unit. -/
theorem unitStack_hbmPut (s : State) (a u : Nat) (b : Byte) : (s.hbmPut a b).unitStack u = s.unitStack u := by
  cases hkey : diagKeyAt a with
  | none => simp only [State.unitStack, State.hbmPut, hkey]
  | some k => simp only [State.unitStack, State.hbmPut, hkey]

theorem unitStack_dmaPut (s : State) (a u : Nat) (b : Byte) : (s.dmaPut a b).unitStack u = s.unitStack u := by
  by_cases ha : a < sramBase
  · simp only [State.dmaPut, ha, if_true, State.hbmWrite]
    split
    · split
      · exact unitStack_hbmPut _ a u b
      · rfl
    · split
      · rfl
      · exact unitStack_hbmPut _ a u b
  · simp only [State.dmaPut, ha, if_false]
    exact unitStack_congr (only_sramPut s _ b .hbm (by decide)) u

theorem unitStack_landBytes (s : State) (dst u : Nat) (bs : List Byte) : (s.landBytes dst bs).unitStack u = s.unitStack u := by
  have hput (t : State) (a : Nat) : (t.dmaPutAll a bs).unitStack u = t.unitStack u := by
    induction bs generalizing t a with
    | nil => rfl
    | cons b bs ih => exact (ih _ _).trans (unitStack_dmaPut t _ u b)
  simp only [State.landBytes]
  split <;> exact hput s dst

end Sys2Proof.Machine
end

section
/-! SUPPORT. DMA fetches and MOVE, settled. -/

namespace Sys2Proof.Machine

open Sys2Proof

-- One declaration at a time: proofs elaborated side by side hold a stack each, and the check bounds their sum.
set_option Elab.async false

/-! ## Fetches -/

/-- A running channel stands at an instruction that it can fetch, and whose bytes are no bad encoding. -/
structure StandsAt (s : State) (c : Nat) (b : List Byte) : Prop where
  channel : c < 32
  running : (s.ch c).state = .running
  inside : (s.ch c).pc ≤ 1023
  fetched : s.firstFault (s.rv64 (.dmaChProgLo c) (.dmaChProgHi c) + 32 * (s.ch c).pc) 32 true = none
  bytes : s.dmaInstr c = b
  good : s.dmaBadProg c b = false

section Fetch
variable {s : State} {c : Nat} (k : List Byte → Bool) (act : List Byte → State)

theorem dmaAt_idle (h : 32 ≤ c ∨ (s.ch c).state ≠ .running) : s.dmaAt c k act = s :=
  if_neg fun hrun => h.elim (fun hc => absurd hrun.1 (by omega)) (absurd hrun.2)

theorem dmaAt_outside (hc : c < 32) (hrun : (s.ch c).state = .running) (hpc : 1023 < (s.ch c).pc) : s.dmaAt c k act = s.dmaHalt c 1 := by
  simp only [State.dmaAt, hc, hrun, hpc, and_self, if_true]

theorem dmaAt_unfetched (hc : c < 32) (hrun : (s.ch c).state = .running) (hpc : (s.ch c).pc ≤ 1023)
    (hfault : (s.firstFault (s.rv64 (.dmaChProgLo c) (.dmaChProgHi c) + 32 * (s.ch c).pc) 32 true).isSome = true) :
    s.dmaAt c k act = s.dmaHalt c 2 := by
  simp only [State.dmaAt, hc, hrun, Nat.not_lt.mpr hpc, hfault, and_self, if_true, if_false]

theorem dmaAt_bad (hc : c < 32) (hrun : (s.ch c).state = .running) (hpc : (s.ch c).pc ≤ 1023)
    (hfetch : s.firstFault (s.rv64 (.dmaChProgLo c) (.dmaChProgHi c) + 32 * (s.ch c).pc) 32 true = none)
    (hbad : s.dmaBadProg c (s.dmaInstr c) = true) : s.dmaAt c k act = s.dmaHalt c 1 := by
  simp [State.dmaAt, hc, hrun, Nat.not_lt.mpr hpc, hfetch, hbad]

theorem dmaAt_other {b : List Byte} (h : StandsAt s c b) (hkind : k b = false) : s.dmaAt c k act = s := by
  simp [State.dmaAt, h.channel, h.running, Nat.not_lt.mpr h.inside, h.fetched, h.bytes, h.good, hkind]

theorem dmaAt_acts {b : List Byte} (h : StandsAt s c b) (hkind : k b = true) : s.dmaAt c k act = act b := by
  simp [State.dmaAt, h.channel, h.running, Nat.not_lt.mpr h.inside, h.fetched, h.bytes, h.good, hkind]

end Fetch

/-- The seven rows of the DMA engine that act at the instruction of a channel differ in the kind of instruction and in what it does. -/
theorem exec_at {i : Instr} {c : Nat} {fab : Option (Nat × Nat)}
    (h : i ∈ [Instr.moveIndex c fab, .moveTwoDimensional c fab, .loop c, .wait c, .waitSlot c, .signal c, .flagWrite c]) :
    ∃ (k : List Byte → Bool) (act : State → List Byte → State), ∀ s, exec i s = row i i.need s fun s => s.dmaAt c k (act s) := by
  simp only [List.mem_cons, List.not_mem_nil, or_false] at h
  rcases h with rfl | rfl | rfl | rfl | rfl | rfl | rfl
  · exact ⟨_, _, fun s => exec_moveIndex c fab s⟩
  · exact ⟨_, _, fun s => exec_moveTwoDimensional c fab s⟩
  · exact ⟨_, _, fun s => exec_loop c s⟩
  · exact ⟨_, _, fun s => exec_wait c s⟩
  · exact ⟨_, _, fun s => exec_waitSlot c s⟩
  · exact ⟨_, _, fun s => exec_signal c s⟩
  · exact ⟨_, _, fun s => exec_flagWrite c s⟩

/-- A channel that halts is in ERROR with its cause, and its report names the instruction. -/
theorem dmaHalt_eq (s : State) (c cause : Nat) : s.dmaHalt c cause =
    { s.modCh c fun x => { x with state := .error, cause := cause, waitOn := none } with
      flt := { s.flt with
        inbox := joinReports s.now {
          source := 256 + c, kind := 16 + cause, addr := (s.rv64 (.dmaChProgLo c) (.dmaChProgHi c) + 32 * (s.ch c).pc) % 2 ^ 40,
          severity := 2 } s.flt.inbox } } := by
  simp only [State.dmaHalt, ch_modCh_same]
  rfl

/-- A row that halts its channel. -/
theorem gives_halt {i : Instr} {s : State} {c cause : Nat} {f : State → State} (hexec : exec i s = row i i.need s f)
    (hready : Ready i s) (h : f s = s.dmaHalt c cause) :
    Gives i s (Still
      { s.modCh c fun x => { x with state := .error, cause := cause, waitOn := none } with
        flt := { s.flt with
          inbox := joinReports s.now {
            source := 256 + c, kind := 16 + cause, addr := (s.rv64 (.dmaChProgLo c) (.dmaChProgHi c) + 32 * (s.ch c).pc) % 2 ^ 40,
            severity := 2 } s.flt.inbox } }) :=
  gives_still hexec hready rfl (still_of_eq (h.trans (dmaHalt_eq s c cause)))

/-! ## The fabric's grants -/

/-- Nothing changes but the runs of full-line stores that the cache counts (R476). -/
def StoresOnly (s t : State) : Prop := ∃ x, t = { s with cch := { s.cch with stores := x } }

theorem storesOnly_trans {a b c : State} (h : StoresOnly a b) (k : StoresOnly b c) : StoresOnly a c := by
  obtain ⟨x, rfl⟩ := h
  obtain ⟨y, rfl⟩ := k
  exact ⟨y, rfl⟩

theorem storesOnly_foldl {β : Type} {f : State → β → State} (h : ∀ u i, StoresOnly u (f u i)) (l : List β) (s : State) :
    StoresOnly s (l.foldl f s) := by
  induction l generalizing s with
  | nil => exact ⟨s.cch.stores, rfl⟩
  | cons i l ih => exact storesOnly_trans (h s i) (ih _)

theorem storesOnly_noteMove (s : State) (c src dst len : Nat) : StoresOnly s (s.noteMove c src dst len) := by
  have hread : StoresOnly s (if src < sramBase then { s with cch := { s.cch with stores := adel s.cch.stores (16 + c) } } else s) := by
    split
    · exact ⟨_, rfl⟩
    · exact ⟨s.cch.stores, rfl⟩
  simp only [State.noteMove]
  split
  · exact hread
  · exact storesOnly_trans hread (storesOnly_foldl (fun u i => ⟨_, rfl⟩) _ _)

/-- A MOVE is granted its blocks: no byte, no register and no channel changes. -/
theorem granted_shape (s : State) (c n src dst len : Nat) : ∃ (arb : Arb) (stores : Assoc (Nat × Nat)),
    (s.grants c n).noteMove c src dst len =
      { s with dma := { s.dma with arb := arb }, cch := { s.cch with stores := stores } } := by
  obtain ⟨stores, hstores⟩ := storesOnly_noteMove (s.grants c n) c src dst len
  exact ⟨_, stores, hstores.trans rfl⟩

theorem only_modCh (s : State) (c : Nat) (f : DmaCh → DmaCh) : Only [.dma] s (s.modCh c f) := only_setDma s _

theorem only_grantsEnd (s : State) (c : Nat) : Only [.dma] s (s.grantsEnd c) := only_setDma s _

theorem only_granted (s : State) (c n src dst len : Nat) : Only [.dma, .cch] s ((s.grants c n).noteMove c src dst len) := by
  obtain ⟨arb, stores, hshape⟩ := granted_shape s c n src dst len
  rw [hshape]
  exact only_step (only_mono (only_setDma s { s.dma with arb := arb }) (by decide)) (only_setCch _ _)

theorem dmaByte_granted (s : State) (c n src dst len a : Nat) : ((s.grants c n).noteMove c src dst len).dmaByte a = s.dmaByte a := by
  obtain ⟨arb, stores, hshape⟩ := granted_shape s c n src dst len
  rw [hshape]
  exact dmaByte_congr (by rfl) (by rfl) (by rfl) (by rfl) (by rfl) (by rfl)

theorem moveFault_granted (s : State) (c n src dst len a b m : Nat) (fab : Option Nat) :
    ((s.grants c n).noteMove c src dst len).moveFault a b m fab = s.moveFault a b m fab :=
  moveFault_congr (only_granted s c n src dst len .hbm (by decide)) (only_granted s c n src dst len .srm (by decide)) a b m fab

/-- What the engine keeps of its channels reads no byte. -/
theorem dmaByte_of_only {ps : List Part} {s t : State} (h : Only ps s t) (hp : ∀ p ∈ memoryParts, p ∉ ps) (a : Nat) :
    t.dmaByte a = s.dmaByte a := by
  have hcch : t.cch = s.cch := h .cch (hp .cch (by decide))
  have hchn : t.chn = s.chn := h .chn (hp .chn (by decide))
  exact dmaByte_congr (hbmRaw_congr (h .hbm (hp .hbm (by decide))) a) (congrArg Cch.lines hcch) (congrArg Cch.victims hcch)
    (congrArg Cch.side hcch) (h .srm (hp .srm (by decide))) (congrArg Chn.slotData hchn)

/-! ## The channel of a row -/

/-- Of the channels one alone may have changed, and holds what is given. -/
structure ChanIs (c : Nat) (x : DmaCh) (s t : State) : Prop where
  same : t.ch c = x
  other : ∀ d, d ≠ c → t.ch d = s.ch d

theorem chanIs_chans {c : Nat} {x : DmaCh} {s u t : State} (h : ChanIs c x s u) (hchans : t.dma.chans = u.dma.chans) : ChanIs c x s t := by
  have hch (d : Nat) : t.ch d = u.ch d := congrArg (agetD · d idleCh) hchans
  exact ⟨(hch c).trans h.same, fun d hd => (hch d).trans (h.other d hd)⟩

theorem chanIs_only {c : Nat} {x : DmaCh} {ps : List Part} {s u t : State} (h : ChanIs c x s u) (honly : Only ps u t)
    (hp : Part.dma ∉ ps) : ChanIs c x s t := by
  have hdma : t.dma = u.dma := honly .dma hp
  exact chanIs_chans h (congrArg Dma.chans hdma)

theorem chanIs_modCh {c : Nat} {x : DmaCh} {s u : State} (h : ChanIs c x s u) (f : DmaCh → DmaCh) : ChanIs c (f x) s (u.modCh c f) :=
  ⟨(ch_modCh_same u c f).trans (congrArg f h.same), fun d hd => (agetD_acanon_other _ _ _ _ hd).trans (h.other d hd)⟩

theorem chanIs_refl (s : State) (c : Nat) : ChanIs c (s.ch c) s s := ⟨rfl, fun _ _ => rfl⟩

/-- An instruction without END completes: its channel goes on. -/
theorem dmaDone_next {s : State} {c : Nat} (pc : Nat) (hrun : (s.ch c).state = .running) :
    s.dmaDone c pc false = s.modCh c fun x => { x with progress := s.now, waitOn := none, pc := pc } := by
  simp only [State.dmaDone, Bool.not_false, if_true, modCh_modCh]
  exact congrArg (fun st => ({ s with dma := { s.dma with
    chans := acanon s.dma.chans c idleCh { s.ch c with progress := s.now, waitOn := none, pc := pc, state := st } } } : State)) hrun.symm

theorem ch_grantsEnd (s : State) (c k : Nat) : (s.grantsEnd c).ch k = s.ch k := rfl

/-- The end of a MOVE's grants and a change of a channel do not meet. -/
theorem modCh_grantsEnd (s : State) (c k : Nat) (f : DmaCh → DmaCh) : (s.grantsEnd c).modCh k f = (s.modCh k f).grantsEnd c := rfl

/-! ## One transfer -/

theorem transfer_lands {s : State} {src dst len : Nat} (h : s.moveFault src dst len none = none) :
    s.transfer src dst len none = (s.landBytes dst (s.dmaBytes src len), none) := by
  simp only [State.transfer, h]

theorem transfer_faults {s : State} {src dst len o kind a : Nat} (h : s.moveFault src dst len none = some (o, kind, a)) :
    s.transfer src dst len none =
      (((s.landBytes dst ((s.dmaBytes src len).take (s.freeVal % (o + 1)))).freeUsed).fabricFault kind, some (o, kind, a)) := by
  simp only [State.transfer, h]

/-- The bytes of a source stand at a destination, and no other byte has changed. -/
structure Moved (c : Nat) (x : DmaCh) (src dst len : Nat) (s t : State) : Prop where
  chan : ChanIs c x s t
  landed : ∀ i, i < len → t.dmaByte (dst + i) = s.dmaByte ((src + i) % 2 ^ 48)
  kept : ∀ a, a < dst ∨ dst + len ≤ a → t.dmaByte a = s.dmaByte a
  only : Only [.dma, .hbm, .srm, .cch, .chn] s t

/-- A change outside memory leaves what has been moved; the channel may be changed by it. -/
theorem moved_step {c : Nat} {x y : DmaCh} {src dst len : Nat} {s u t : State} (h : Moved c x src dst len s u) (honly : Only [.dma] u t)
    (hchan : ChanIs c y s t) : Moved c y src dst len s t where
  chan := hchan
  landed i hi := (dmaByte_of_only honly (by decide) _).trans (h.landed i hi)
  kept a ha := (dmaByte_of_only honly (by decide) a).trans (h.kept a ha)
  only := only_step h.only honly

/-- A transfer that is granted its blocks and meets no bus error. -/
theorem moved_landing {s : State} (c src dst len : Nat) (f : DmaCh → DmaCh) (hside : s.cch.side = []) (hend : dst + len ≤ 2 ^ 48) :
    Moved c (f (s.ch c)) src dst len s
      ((((s.modCh c f).grants c len).noteMove c src dst len).landBytes dst (s.dmaBytes src len)) := by
  obtain ⟨arb, stores, hshape⟩ := granted_shape (s.modCh c f) c len src dst len
  have hbyte (a : Nat) : (((s.modCh c f).grants c len).noteMove c src dst len).dmaByte a = s.dmaByte a :=
    (dmaByte_granted _ c len src dst len a).trans (dmaByte_of_only (only_modCh s c f) (by decide) a)
  have honly := only_granted (s.modCh c f) c len src dst len
  generalize hp : ((s.modCh c f).grants c len).noteMove c src dst len = p at hshape hbyte honly
  have hpside : p.cch.side = [] := by
    rw [hshape]
    exact hside
  have hchans : p.dma.chans = (s.modCh c f).dma.chans := by rw [hshape]
  have hland := only_landBytes p dst (s.dmaBytes src len)
  have hread (a : Nat) := dmaByte_landed p dst len a (length_dmaBytes s src len) hpside hend
  refine ⟨chanIs_only (chanIs_chans (chanIs_modCh (chanIs_refl s c) f) hchans) hland (by decide), fun i hi => ?_, fun a ha => ?_, ?_⟩
  · rw [hread, if_pos (by omega), Nat.add_sub_cancel_left, getD_dmaBytes, if_pos hi]
  · rw [hread, getD_dmaBytes, hbyte]
    by_cases hlow : dst ≤ a
    · rw [if_pos hlow, if_neg (by omega)]
    · rw [if_neg hlow]
  · exact only_step (only_step (only_mono (only_modCh s c f) (by decide)) honly) hland

/-- A MOVE that has moved its bytes completes. -/
theorem moved_done {c : Nat} {x : DmaCh} {src dst len : Nat} {s u : State} (pc : Nat)
    (h : Moved c x src dst len s u) (hrun : x.state = .running) :
    Moved c { x with progress := s.now, waitOn := none, pc := pc } src dst len s ((u.grantsEnd c).dmaDone c pc false) := by
  have hnow : (u.grantsEnd c).now = s.now := h.only .clock (by decide)
  have hended : ChanIs c x s (u.grantsEnd c) := chanIs_chans h.chan rfl
  rw [dmaDone_next pc ((congrArg DmaCh.state hended.same).trans hrun), hnow]
  exact moved_step h (only_trans (only_grantsEnd u c) (only_modCh _ _ _))
    (chanIs_modCh hended fun z => { z with progress := s.now, waitOn := none, pc := pc })

theorem moved_answer {c : Nat} {x : DmaCh} {src dst len : Nat} {s u t : State} (h : Moved c x src dst len s u) (ht : Only [] u t) :
    Moved c x src dst len s t := moved_step h (only_mono ht fun _ hp => nomatch hp) (chanIs_only h.chan ht (by decide))

/-! ## A bus error -/

/-- A transfer has met a bus error: it is counted at its channel and reported, and one free value has set how much of the transfer
landed (R499). -/
structure Erred (c : Nat) (x : DmaCh) (kind a : Nat) (s t : State) : Prop where
  chan : ChanIs c x s t
  inbox : t.flt.inbox = joinReports s.now { source := 256 + c, kind := kind, addr := a % 2 ^ 40, severity := 1 } s.flt.inbox
  free : t.free = s.free + 1
  units : ∀ u, t.unitStack u = s.unitStack u
  only : Only [.free, .dma, .hbm, .srm, .cch, .chn, .flt] s t

/-- A change of memory or of the channels leaves what a bus error has left. -/
theorem erred_step {c : Nat} {x y : DmaCh} {kind a : Nat} {ps : List Part} {s u t : State} (h : Erred c x kind a s u) (honly : Only ps u t)
    (hunits : ∀ k, t.unitStack k = u.unitStack k) (hchan : ChanIs c y s t) (hfree : Part.free ∉ ps := by decide)
    (hflt : Part.flt ∉ ps := by decide) (hps : ∀ p ∈ ps, p ∈ [Part.free, .dma, .hbm, .srm, .cch, .chn, .flt] := by decide) :
    Erred c y kind a s t := by
  have hsame : t.flt = u.flt := honly .flt hflt
  exact ⟨hchan, (congrArg Flt.inbox hsame).trans h.inbox, Eq.trans (honly .free hfree) h.free, fun k => (hunits k).trans (h.units k),
    only_step h.only honly hps⟩

theorem only_fabricFault (s : State) (kind : Nat) : Only [.srm] s (s.fabricFault kind) :=
  only_ite (fun _ => only_setSrm s _) fun _ => only_refl _ s

theorem erred_transfer (s : State) (c n src dst len kind a : Nat) (f : DmaCh → DmaCh) (bs : List Byte) :
    Erred c { f (s.ch c) with badCnt := satInc (f (s.ch c)).badCnt 0xFFFF, lastKind := kind, eaddr := a } kind a s
      (((((((s.modCh c f).grants c n).noteMove c src dst len).landBytes dst bs).freeUsed).fabricFault kind).busError c kind a) := by
  obtain ⟨arb, stores, hshape⟩ := granted_shape (s.modCh c f) c n src dst len
  rw [hshape]
  have hgranted : ChanIs c (f (s.ch c)) s
      { s.modCh c f with dma := { (s.modCh c f).dma with arb := arb }, cch := { (s.modCh c f).cch with stores := stores } } :=
    chanIs_chans (chanIs_modCh (chanIs_refl s c) f) rfl
  have hstart : Only [.dma, .cch] s
      { s.modCh c f with dma := { (s.modCh c f).dma with arb := arb }, cch := { (s.modCh c f).cch with stores := stores } } :=
    only_step (only_mono (only_setDma s { (s.modCh c f).dma with arb := arb }) (by decide)) (only_setCch _ _)
  have hunits (k : Nat) : ({ s.modCh c f with
      dma := { (s.modCh c f).dma with arb := arb }, cch := { (s.modCh c f).cch with stores := stores } } : State).unitStack k = s.unitStack k := rfl
  generalize ({ s.modCh c f with
    dma := { (s.modCh c f).dma with arb := arb }, cch := { (s.modCh c f).cch with stores := stores } } : State) = p at hgranted hstart hunits
  have hland := only_landBytes p dst bs
  have hlanded (k : Nat) : (p.landBytes dst bs).unitStack k = s.unitStack k := (unitStack_landBytes p dst k bs).trans (hunits k)
  have hkept : Only [.dma, .hbm, .srm, .cch, .chn] s (p.landBytes dst bs) := only_step (only_mono hstart (by decide)) hland
  have hfree : (p.landBytes dst bs).free = s.free := hkept .free (by decide)
  have hchan : ChanIs c (f (s.ch c)) s (p.landBytes dst bs) := chanIs_only hgranted hland (by decide)
  generalize p.landBytes dst bs = u at hlanded hkept hfree hchan
  have hused : Only [.free] u u.freeUsed := by simp [State.freeUsed, only_iff, State.sess]
  have hfab := only_fabricFault u.freeUsed kind
  have hall : Only [.free, .dma, .hbm, .srm, .cch, .chn] s (u.freeUsed.fabricFault kind) := only_step (only_step (only_mono hkept (by decide)) hused) hfab
  have hflt : (u.freeUsed.fabricFault kind).flt = s.flt := hall .flt (by decide)
  have hnow : (u.freeUsed.fabricFault kind).now = s.now := hall .clock (by decide)
  have hcount : (u.freeUsed.fabricFault kind).free = s.free + 1 := Eq.trans (hfab .free (by decide)) (congrArg (· + 1) hfree)
  have hmap (k : Nat) : (u.freeUsed.fabricFault kind).unitStack k = s.unitStack k :=
    (unitStack_congr (hfab .hbm (by decide)) k).trans (hlanded k)
  have hchan' : ChanIs c (f (s.ch c)) s (u.freeUsed.fabricFault kind) := chanIs_only (chanIs_only hchan hused (by decide)) hfab (by decide)
  generalize u.freeUsed.fabricFault kind = v at hall hflt hnow hcount hmap hchan'
  have hcounted := chanIs_modCh hchan' fun z => { z with badCnt := satInc z.badCnt 0xFFFF, lastKind := kind, eaddr := a }
  refine ⟨chanIs_chans hcounted rfl, ?_, hcount, hmap, ?_⟩
  · show joinReports v.now _ v.flt.inbox = _
    rw [hnow, hflt]
  · exact only_step (only_step (only_mono hall (by decide)) (only_modCh v c _)) (only_report _ _ _ _ _)

theorem getLsbD_or_bit (b : Byte) (k : Nat) (hk : k < 8) : (b ||| BitVec.ofNat 8 (2 ^ k)).getLsbD k = true := by
  rw [BitVec.getLsbD_or, BitVec.getLsbD_ofNat, Nat.testBit_two_pow_self, decide_eq_true hk, Bool.and_self, Bool.or_true]

/-- Where the address of the BAD bit gives no bus error, the bit is set. -/
theorem markBad_marks {s : State} (c k : Nat) {a : Nat} (h : s.addrFault (a % 2 ^ 48) = none) (hk : k < 8) :
    Only memoryParts s (s.markBad c a k) ∧ (∀ u, (s.markBad c a k).unitStack u = s.unitStack u) ∧
    ((s.markBad c a k).dmaByte (a % 2 ^ 48)).getLsbD k = true := by
  have hmark : s.markBad c a k = s.dmaPut (a % 2 ^ 48) (s.dmaByte (a % 2 ^ 48) ||| BitVec.ofNat 8 (2 ^ k)) := by
    simp only [State.markBad, h, Option.isSome_none, Bool.false_eq_true, if_false]
  rw [hmark]
  exact ⟨only_dmaPut s _ _, fun u => unitStack_dmaPut s _ u _, by rw [dmaByte_dmaPut_same, getLsbD_or_bit _ k hk]⟩

/-- The BAD bit of a transfer that has met a bus error is set. -/
theorem erred_markBad {c m k kind a : Nat} {x : DmaCh} {s u : State} (h : Erred c x kind a s u) (hat : s.addrFault (m % 2 ^ 48) = none)
    (hk : k < 8) : Erred c x kind a s (u.markBad c m k) ∧ ((u.markBad c m k).dmaByte (m % 2 ^ 48)).getLsbD k = true := by
  obtain ⟨honly, hunits, hbit⟩ := markBad_marks c k ((addrFault_congr h.units _).trans hat) hk
  exact ⟨erred_step h honly hunits (chanIs_only h.chan honly (by decide)), hbit⟩

theorem erred_grantsEnd {c kind a : Nat} {x : DmaCh} {s u : State} (h : Erred c x kind a s u) : Erred c x kind a s (u.grantsEnd c) :=
  erred_step h (only_grantsEnd u c) (fun _ => rfl) (chanIs_chans h.chan rfl)

theorem erred_done {c kind a : Nat} {x : DmaCh} {s u : State} (pc : Nat) (h : Erred c x kind a s u)
    (hrun : x.state = .running) :
    Erred c { x with progress := s.now, waitOn := none, pc := pc } kind a s (u.dmaDone c pc false) := by
  have hnow : u.now = s.now := h.only .clock (by decide)
  rw [dmaDone_next pc ((congrArg DmaCh.state h.chan.same).trans hrun), hnow]
  exact erred_step h (only_modCh _ _ _) (fun _ => rfl)
    (chanIs_modCh h.chan fun z => { z with progress := s.now, waitOn := none, pc := pc })

theorem erred_answer {c kind a : Nat} {x : DmaCh} {s u t : State} (h : Erred c x kind a s u) (ht : Only [] u t) : Erred c x kind a s t :=
  erred_step (ps := []) h ht (unitStack_congr (ht .hbm (by decide))) (chanIs_only h.chan ht (by decide))

theorem dmaByte_dmaDone {s : State} {c : Nat} (pc : Nat) (hrun : (s.ch c).state = .running) (a : Nat) :
    (s.dmaDone c pc false).dmaByte a = s.dmaByte a := by
  rw [dmaDone_next pc hrun]
  exact dmaByte_of_only (only_modCh _ _ _) (by decide) a

theorem dmaByte_grantsEnd (s : State) (c a : Nat) : (s.grantsEnd c).dmaByte a = s.dmaByte a :=
  dmaByte_of_only (only_grantsEnd s c) (by decide) a

theorem dmaByte_answer {s t : State} (h : Only [] s t) (a : Nat) : t.dmaByte a = s.dmaByte a := dmaByte_of_only h (by decide) a

/-! ## Index moves -/

/-- The instruction at which a channel stands is an index MOVE of one descriptor, of which none has been moved. -/
structure IndexMove (s : State) (c pc : Nat) (b d : List Byte) : Prop where
  stands : StandsAt s c b
  op : diOp b = 1
  mode : diMode b = 0
  count : diCount b = 1
  goesOn : diEnd b = false
  at_ : (s.ch c).pc = pc
  first : agetD (s.ch c).cursors pc 0 = 0
  fetched : s.firstFault (leAt b 8 8) 16 true = none
  bytes : s.dmaBytes (leAt b 8 8) 16 = d

section Index
variable {s : State} {c pc : Nat} {b d : List Byte}

/-- The row of an index MOVE is its one descriptor, and then the next instruction. -/
theorem dmaMoveIndex_eq (h : IndexMove s c pc b d) (hrun : ((s.moveDescs c b pc 0 none 1).ch c).state = .running) :
    s.dmaMoveIndex c none = ((s.moveDescs c b pc 0 none 1).grantsEnd c).dmaDone c (pc + 1) false := by
  have hkind : (diOp b == 1 && diMode b == 0) = true := by simp [h.op, h.mode]
  have hch : (((s.moveDescs c b pc 0 none 1).grantsEnd c).ch c).state = .running := hrun
  rw [State.dmaMoveIndex, dmaAt_acts _ _ h.stands hkind]
  simp only [h.at_, h.first, h.count, h.goesOn, hch, if_true]

/-- The state in which a descriptor is moved: the cursor of its instruction stands behind it. -/
def State.cursorAt (s : State) (c pc k : Nat) : State := s.modCh c fun x => { x with cursors := aput x.cursors pc k }

/-- Granted its blocks there, a transfer meets the bus error that it would meet before. -/
theorem moveFault_cursorAt (s : State) (c pc k n src dst len a e m : Nat) :
    (((s.cursorAt c pc k).grants c n).noteMove c src dst len).moveFault a e m none = s.moveFault a e m none := by
  rw [moveFault_granted]
  exact moveFault_congr (State.modCh_hbm s c _) (State.modCh_srm s c _) a e m none

theorem dmaBytes_cursorAt (s : State) (c pc k n src dst len a m : Nat) :
    (((s.cursorAt c pc k).grants c n).noteMove c src dst len).dmaBytes a m = s.dmaBytes a m :=
  dmaBytes_congr (fun e => (dmaByte_granted _ c n src dst len e).trans (dmaByte_of_only (only_modCh s c _) (by decide) e)) a m

theorem moveDescs_zero (s : State) (c : Nat) (b : List Byte) (idx k : Nat) (fab : Option (Nat × Nat)) : s.moveDescs c b idx k fab 0 = s := rfl

theorem moveDescs_marked (h : IndexMove s c pc b d) (hbad : (leAt d 15 1).testBit 0 = true) :
    s.moveDescs c b pc 0 none 1 = (s.cursorAt c pc 1).modCh c fun x => { x with badCnt := satInc x.badCnt 0xFFFF } := by
  unfold State.moveDescs
  simp only [h.stands.running, h.fetched, h.bytes, hbad, Nat.mul_zero, Nat.add_zero, Option.isSome_none, Bool.false_eq_true, ne_eq,
    not_true_eq_false, if_false, if_true, moveDescs_zero]
  rfl

theorem moveDescs_lands {src dst len : Nat} {u : State} (h : IndexMove s c pc b d) (hplain : leAt d 15 1 = 0)
    (hsrc : (leAt b 16 8 + leAt d 0 6) % 2 ^ 48 = src) (hdst : (leAt b 24 8 + leAt d 6 6) % 2 ^ 48 = dst) (hlen : leAt d 12 3 = len)
    (hpos : 0 < len) (hmove : (((s.cursorAt c pc 1).grants c len).noteMove c src dst len).transfer src dst len none = (u, none)) :
    s.moveDescs c b pc 0 none 1 = u := by
  have hne : ¬ (len = 0 ∨ 4 ≤ (0 : Nat)) := by omega
  unfold State.cursorAt at hmove
  unfold State.moveDescs
  simp only [h.stands.running, h.fetched, h.bytes, hplain, hsrc, hdst, hlen, Nat.mul_zero, Nat.add_zero, Nat.zero_testBit,
    Option.isSome_none, Bool.false_eq_true, ne_eq, not_true_eq_false, if_false, if_neg hne, Nat.zero_add, hmove, moveDescs_zero]

theorem moveDescs_errs {src dst len o kind a : Nat} {u : State} (h : IndexMove s c pc b d) (hplain : leAt d 15 1 = 0)
    (hsrc : (leAt b 16 8 + leAt d 0 6) % 2 ^ 48 = src) (hdst : (leAt b 24 8 + leAt d 6 6) % 2 ^ 48 = dst) (hlen : leAt d 12 3 = len)
    (hpos : 0 < len)
    (hmove : (((s.cursorAt c pc 1).grants c len).noteMove c src dst len).transfer src dst len none = (u, some (o, kind, a))) :
    s.moveDescs c b pc 0 none 1 = (u.busError c kind a).markBad c (leAt b 8 8 + 15) 0 := by
  have hne : ¬ (len = 0 ∨ 4 ≤ (0 : Nat)) := by omega
  unfold State.cursorAt at hmove
  unfold State.moveDescs
  simp only [h.stands.running, h.fetched, h.bytes, hplain, hsrc, hdst, hlen, Nat.mul_zero, Nat.add_zero, Nat.zero_testBit,
    Option.isSome_none, Bool.false_eq_true, ne_eq, not_true_eq_false, if_false, if_neg hne, Nat.zero_add, hmove, moveDescs_zero]

/-- A descriptor that meets no bus error: its bytes are moved. -/
theorem indexMove_moves {src dst len : Nat} (h : IndexMove s c pc b d) (hplain : leAt d 15 1 = 0)
    (hsrc : (leAt b 16 8 + leAt d 0 6) % 2 ^ 48 = src) (hdst : (leAt b 24 8 + leAt d 6 6) % 2 ^ 48 = dst) (hlen : leAt d 12 3 = len)
    (hpos : 0 < len) (hmeets : s.moveFault src dst len none = none) (hend : dst + len ≤ 2 ^ 48) (hside : s.cch.side = []) :
    Moved c { s.ch c with cursors := aput (s.ch c).cursors pc 1, pc := pc + 1, progress := s.now, waitOn := none } src dst len s
      (s.dmaMoveIndex c none) := by
  have hgranted : (((s.cursorAt c pc 1).grants c len).noteMove c src dst len).moveFault src dst len none = none :=
    (moveFault_cursorAt s c pc 1 len src dst len src dst len).trans hmeets
  have htransfer := transfer_lands hgranted
  rw [dmaBytes_cursorAt] at htransfer
  have hmoved := moved_landing c src dst len (fun x => { x with cursors := aput x.cursors pc 1 }) hside hend
  have heq := moveDescs_lands h hplain hsrc hdst hlen hpos htransfer
  have hmove : Moved c { s.ch c with cursors := aput (s.ch c).cursors pc 1 } src dst len s (s.moveDescs c b pc 0 none 1) := heq ▸ hmoved
  rw [dmaMoveIndex_eq h ((congrArg DmaCh.state hmove.chan.same).trans h.stands.running)]
  exact moved_done (pc + 1) hmove h.stands.running

/-- A descriptor that is marked is counted and skipped. -/
theorem indexMove_skips (h : IndexMove s c pc b d) (hbad : (leAt d 15 1).testBit 0 = true) :
    s.dmaMoveIndex c none =
      (s.modCh c fun x => { x with
        cursors := aput x.cursors pc 1, badCnt := satInc x.badCnt 0xFFFF, pc := pc + 1, progress := s.now, waitOn := none }).grantsEnd c := by
  have hskip : s.moveDescs c b pc 0 none 1 =
      s.modCh c fun x => { x with cursors := aput x.cursors pc 1, badCnt := satInc x.badCnt 0xFFFF } :=
    (moveDescs_marked h hbad).trans (modCh_modCh s c _ _)
  have hrun : ((s.moveDescs c b pc 0 none 1).ch c).state = .running := by
    rw [hskip, ch_modCh_same]
    exact h.stands.running
  have hended : (((s.moveDescs c b pc 0 none 1).grantsEnd c).ch c).state = .running := hrun
  rw [dmaMoveIndex_eq h hrun, dmaDone_next (pc + 1) hended, modCh_grantsEnd, hskip, modCh_modCh]
  rfl

/-- A descriptor that meets a bus error is counted, reported and marked. -/
theorem indexMove_errs {src dst len o kind a : Nat} (h : IndexMove s c pc b d) (hplain : leAt d 15 1 = 0)
    (hsrc : (leAt b 16 8 + leAt d 0 6) % 2 ^ 48 = src) (hdst : (leAt b 24 8 + leAt d 6 6) % 2 ^ 48 = dst) (hlen : leAt d 12 3 = len)
    (hpos : 0 < len) (hmeets : s.moveFault src dst len none = some (o, kind, a))
    (hmark : s.addrFault ((leAt b 8 8 + 15) % 2 ^ 48) = none) :
    Erred c { s.ch c with
        cursors := aput (s.ch c).cursors pc 1, pc := pc + 1, progress := s.now, waitOn := none, badCnt := satInc (s.ch c).badCnt 0xFFFF,
        lastKind := kind, eaddr := a } kind a s (s.dmaMoveIndex c none) ∧
      ((s.dmaMoveIndex c none).dmaByte ((leAt b 8 8 + 15) % 2 ^ 48)).getLsbD 0 = true := by
  have hgranted : (((s.cursorAt c pc 1).grants c len).noteMove c src dst len).moveFault src dst len none = some (o, kind, a) :=
    (moveFault_cursorAt s c pc 1 len src dst len src dst len).trans hmeets
  have heq := moveDescs_errs h hplain hsrc hdst hlen hpos (transfer_faults hgranted)
  obtain ⟨herred, hbit⟩ := erred_markBad (k := 0) (erred_transfer s c len src dst len kind a (fun x => { x with cursors := aput x.cursors pc 1 })
    ((((((s.cursorAt c pc 1).grants c len).noteMove c src dst len).dmaBytes src len).take
      ((((s.cursorAt c pc 1).grants c len).noteMove c src dst len).freeVal % (o + 1))))) hmark (by decide)
  have hmarked : Erred c { s.ch c with
      cursors := aput (s.ch c).cursors pc 1, badCnt := satInc (s.ch c).badCnt 0xFFFF, lastKind := kind, eaddr := a } kind a s
      (s.moveDescs c b pc 0 none 1) := heq ▸ herred
  have hset : ((s.moveDescs c b pc 0 none 1).dmaByte ((leAt b 8 8 + 15) % 2 ^ 48)).getLsbD 0 = true := heq ▸ hbit
  have hrun : ((s.moveDescs c b pc 0 none 1).ch c).state = .running := (congrArg DmaCh.state hmarked.chan.same).trans h.stands.running
  rw [dmaMoveIndex_eq h hrun]
  refine ⟨erred_done (pc + 1) (erred_grantsEnd hmarked) h.stands.running, ?_⟩
  have hended : (((s.moveDescs c b pc 0 none 1).grantsEnd c).ch c).state = .running := hrun
  rw [dmaByte_dmaDone (pc + 1) hended, dmaByte_grantsEnd]
  exact hset

end Index

/-! ## Two-dimensional moves -/

theorem leNat_lt (bs : List Byte) : leNat bs < 256 ^ bs.length := by
  induction bs with
  | nil => decide
  | cons b bs ih =>
    have hb : b.toNat < 256 := b.isLt
    rw [leNat, List.length_cons, Nat.pow_succ]
    omega

theorem leAt_lt (bs : List Byte) (ofs len : Nat) : leAt bs ofs len < 256 ^ len := by
  have hlength : (sliceBytes bs ofs len).length = len := by
    simp only [sliceBytes, List.length_append, List.length_take, List.length_drop, List.length_replicate]
    omega
  exact Nat.lt_of_lt_of_eq (leNat_lt _) (congrArg (256 ^ ·) hlength)

/-- The first line of a move stands at its base, whatever the stride. -/
theorem lineAddr_first {base : Nat} (stride : Int) (h : base < 2 ^ 48) : lineAddr base stride 0 = base := by
  rw [lineAddr, wrapBits, Int.natCast_zero, Int.mul_zero, Int.add_zero]
  omega

/-- The instruction at which a channel stands is a two-dimensional MOVE of which no line has been moved. -/
structure LineMove (s : State) (c pc : Nat) (b : List Byte) : Prop where
  stands : StandsAt s c b
  op : diOp b = 1
  mode : diMode b = 1
  goesOn : diEnd b = false
  at_ : (s.ch c).pc = pc
  first : agetD (s.ch c).cursors pc 0 = 0

section Lines
variable {s : State} {c pc : Nat} {b : List Byte}

/-- A move that is marked is counted and skipped. -/
theorem lineMove_skips (h : LineMove s c pc b) (hbad : diBad b = true) :
    s.dmaMove2d c none =
      (s.modCh c fun x => { x with
        cursors := aput x.cursors pc (diTarget b), badCnt := satInc x.badCnt 0xFFFF, pc := pc + 1, progress := s.now,
        waitOn := none }).grantsEnd c := by
  have hkind : (diOp b == 1 && diMode b == 1) = true := by simp [h.op, h.mode]
  have hrun : (((s.modCh c fun x => { x with
      cursors := aput x.cursors pc (diTarget b), badCnt := satInc x.badCnt 0xFFFF }).grantsEnd c).ch c).state = .running := by
    rw [ch_grantsEnd, ch_modCh_same]
    exact h.stands.running
  rw [State.dmaMove2d, dmaAt_acts _ _ h.stands hkind]
  simp only [h.at_, h.first, h.goesOn, hbad, if_true, Nat.zero_add, modCh_modCh]
  rw [dmaDone_next (pc + 1) hrun, modCh_grantsEnd, modCh_modCh]
  rfl

/-- The one line of a move, transferred from the data read before. -/
theorem moveLines_plain {u : State} {src dst len : Nat} (ss ds : Int) (hsrc : src < 2 ^ 48) (hdst : dst < 2 ^ 48)
    (hmeets : u.moveFault src dst len none = none) :
    u.moveLines u c src dst len ss ds 0 none 1 = (((u.grants c len).noteMove c src dst len).landBytes dst (u.dmaBytes src len), false) := by
  unfold State.moveLines
  simp only [lineAddr_first _ hsrc, lineAddr_first _ hdst, hmeets]
  rfl

theorem moveLines_faults {u : State} {src dst len o kind a : Nat} (ss ds : Int) (hsrc : src < 2 ^ 48) (hdst : dst < 2 ^ 48)
    (hmeets : u.moveFault src dst len none = some (o, kind, a)) :
    u.moveLines u c src dst len ss ds 0 none 1 =
      ((((((u.grants c (o + 1)).noteMove c src dst (o + 1)).landBytes dst ((u.dmaBytes src len).take
        (u.freeVal % (o + 1)))).freeUsed).fabricFault kind).busError c kind a, true) := by
  unfold State.moveLines
  simp only [lineAddr_first _ hsrc, lineAddr_first _ hdst, hmeets]

/-- The row of a two-dimensional MOVE of one line is that line, its BAD bit where it met a bus error, and then the next instruction. -/
theorem dmaMove2d_eq (h : LineMove s c pc b) (hgood : diBad b = false) (htarget : diTarget b = 1) {u v : State} {bad : Bool}
    (hlines : (s.cursorAt c pc 1).moveLines (s.cursorAt c pc 1) c (leAt b 8 6) (leAt b 24 6) (diCount b) (signed 32 (leAt b 16 4))
      (signed 32 (leAt b 20 4)) 0 none 1 = (u, bad))
    (hmark : (if bad then (u.grantsEnd c).markBad c (s.rv64 (.dmaChProgLo c) (.dmaChProgHi c) + 32 * pc + 1) 1 else u.grantsEnd c) = v)
    (hrun : (v.ch c).state = .running) : s.dmaMove2d c none = v.dmaDone c (pc + 1) false := by
  have hkind : (diOp b == 1 && diMode b == 1) = true := by simp [h.op, h.mode]
  unfold State.cursorAt at hlines
  rw [State.dmaMove2d, dmaAt_acts _ _ h.stands hkind]
  simp only [h.at_, h.first, h.goesOn, hgood, htarget, Nat.zero_add, hlines, hmark, hrun, Bool.false_eq_true, if_false, if_true]

/-- A line that meets no bus error: its bytes are moved. -/
theorem lineMove_moves {src dst len : Nat} (h : LineMove s c pc b) (hgood : diBad b = false) (htarget : diTarget b = 1)
    (hsrc : leAt b 8 6 = src) (hdst : leAt b 24 6 = dst) (hlen : diCount b = len) (hmeets : s.moveFault src dst len none = none)
    (hend : dst + len ≤ 2 ^ 48) (hside : s.cch.side = []) :
    Moved c { s.ch c with cursors := aput (s.ch c).cursors pc 1, pc := pc + 1, progress := s.now, waitOn := none } src dst len s
      (s.dmaMove2d c none) := by
  have hfault : (s.cursorAt c pc 1).moveFault src dst len none = none :=
    (moveFault_congr (State.modCh_hbm s c _) (State.modCh_srm s c _) src dst len none).trans hmeets
  have hbytes : (s.cursorAt c pc 1).dmaBytes src len = s.dmaBytes src len :=
    dmaBytes_congr (fun a => dmaByte_of_only (only_modCh s c _) (by decide) a) src len
  have hlines := moveLines_plain (c := c) (signed 32 (leAt b 16 4)) (signed 32 (leAt b 20 4)) (hsrc ▸ leAt_lt b 8 6) (hdst ▸ leAt_lt b 24 6) hfault
  rw [hbytes] at hlines
  subst hsrc hdst hlen
  have hmoved := moved_landing c (leAt b 8 6) (leAt b 24 6) (diCount b) (fun x => { x with cursors := aput x.cursors pc 1 }) hside hend
  rw [dmaMove2d_eq h hgood htarget hlines rfl ((congrArg DmaCh.state hmoved.chan.same).trans h.stands.running)]
  exact moved_done (pc + 1) hmoved h.stands.running

/-- A line that meets a bus error is counted and reported, and its instruction marked. -/
theorem lineMove_errs {src dst len o kind a : Nat} (h : LineMove s c pc b) (hgood : diBad b = false) (htarget : diTarget b = 1)
    (hsrc : leAt b 8 6 = src) (hdst : leAt b 24 6 = dst) (hlen : diCount b = len)
    (hmeets : s.moveFault src dst len none = some (o, kind, a))
    (hat : s.addrFault ((s.rv64 (.dmaChProgLo c) (.dmaChProgHi c) + 32 * pc + 1) % 2 ^ 48) = none) :
    Erred c { s.ch c with
        cursors := aput (s.ch c).cursors pc 1, pc := pc + 1, progress := s.now, waitOn := none, badCnt := satInc (s.ch c).badCnt 0xFFFF,
        lastKind := kind, eaddr := a } kind a s (s.dmaMove2d c none) ∧
      ((s.dmaMove2d c none).dmaByte ((s.rv64 (.dmaChProgLo c) (.dmaChProgHi c) + 32 * pc + 1) % 2 ^ 48)).getLsbD 1 = true := by
  have hfault : (s.cursorAt c pc 1).moveFault src dst len none = some (o, kind, a) :=
    (moveFault_congr (State.modCh_hbm s c _) (State.modCh_srm s c _) src dst len none).trans hmeets
  have hlines := moveLines_faults (c := c) (signed 32 (leAt b 16 4)) (signed 32 (leAt b 20 4)) (hsrc ▸ leAt_lt b 8 6) (hdst ▸ leAt_lt b 24 6) hfault
  have herred := erred_transfer s c (o + 1) src dst (o + 1) kind a (fun x => { x with cursors := aput x.cursors pc 1 })
    (((s.cursorAt c pc 1).dmaBytes src len).take ((s.cursorAt c pc 1).freeVal % (o + 1)))
  subst hsrc hdst hlen
  obtain ⟨hmarked, hbit⟩ := erred_markBad (k := 1) (erred_grantsEnd herred) hat (by decide)
  have hrun := (congrArg DmaCh.state hmarked.chan.same).trans h.stands.running
  rw [dmaMove2d_eq h hgood htarget hlines rfl hrun]
  refine ⟨erred_done (pc + 1) hmarked h.stands.running, ?_⟩
  exact (congrArg (fun z : Byte => z.getLsbD 1) (dmaByte_dmaDone (pc + 1) hrun _)).trans hbit

end Lines

/-! ## The obligation -/

section Rows
variable {s : State} {i : Instr} {c : Nat} {fab : Option (Nat × Nat)}

theorem fetch_idle (hready : Ready i s)
    (hmem : i ∈ [Instr.moveIndex c fab, .moveTwoDimensional c fab, .loop c, .wait c, .waitSlot c, .signal c, .flagWrite c])
    (hidle : 32 ≤ c ∨ (s.ch c).state ≠ .running) : Gives i s (Still s) := by
  obtain ⟨k, act, hexec⟩ := exec_at hmem
  exact gives_still (hexec s) hready rfl (still_of_eq (dmaAt_idle k (act s) hidle))

/-- A fetch that halts its channel does so in each of the seven rows. -/
theorem fetch_halts {cause : Nat} (hready : Ready i s)
    (hmem : i ∈ [Instr.moveIndex c fab, .moveTwoDimensional c fab, .loop c, .wait c, .waitSlot c, .signal c, .flagWrite c])
    (hhalt : ∀ k act, s.dmaAt c k act = s.dmaHalt c cause) :
    Gives i s (Still
      { s.modCh c fun x => { x with state := .error, cause := cause, waitOn := none } with
        flt := { s.flt with
          inbox := joinReports s.now {
            source := 256 + c, kind := 16 + cause, addr := (s.rv64 (.dmaChProgLo c) (.dmaChProgHi c) + 32 * (s.ch c).pc) % 2 ^ 40,
            severity := 2 } s.flt.inbox } }) := by
  obtain ⟨k, act, hexec⟩ := exec_at hmem
  exact gives_halt (hexec s) hready (hhalt k (act s))

end Rows

/-- What a row that moves bytes claims. -/
theorem gives_moved {i : Instr} {s : State} {c src dst len : Nat} {x : DmaCh} {f : State → State} (hexec : exec i s = row i i.need s f)
    (hready : Ready i s) (h : Moved c x src dst len s (f s)) :
    Gives i s fun t =>
      t.ch c = x ∧ (∀ d, d ≠ c → t.ch d = s.ch d) ∧ (∀ k, k < len → t.dmaByte (dst + k) = s.dmaByte ((src + k) % 2 ^ 48)) ∧
      (∀ a, a < dst ∨ dst + len ≤ a → t.dmaByte a = s.dmaByte a) ∧ Only [.dma, .hbm, .srm, .cch, .chn] s t :=
  gives_only hexec hready fun _ ht =>
    have hmoved := moved_answer h ht
    ⟨hmoved.chan.same, hmoved.chan.other, hmoved.landed, hmoved.kept, hmoved.only⟩

/-- Settles O55: a fetch answers the same in each of the seven rows (`exec_at`); a transfer lands the bytes read before it
(`moved_landing`), or a part of them with the bus error reported and the BAD bit set (`erred_transfer`, `erred_markBad`); a MOVE that is
marked moves nothing. -/
theorem dmaMoves : Obligations.DmaMoves := by
  unfold Obligations.DmaMoves
  refine ⟨?idle, ?outside, ?unfetched, ?bad, ?otherOp, ?index, ?marked, ?indexError, ?line, ?lineMarked, ?lineError⟩
  case idle =>
    intro s i c fab hready hmem hidle
    exact fetch_idle hready hmem hidle
  case outside =>
    intro s i c fab hready hmem hc hrun hpc
    exact fetch_halts hready hmem fun k act => dmaAt_outside k act hc hrun hpc
  case unfetched =>
    intro s i c fab hready hmem hc hrun hpc hfault
    exact fetch_halts hready hmem fun k act => dmaAt_unfetched k act hc hrun hpc hfault
  case bad =>
    rintro s i c fab b hready hmem hc hrun hpc hfetch rfl hbad
    exact fetch_halts hready hmem fun k act => dmaAt_bad k act hc hrun hpc hfetch hbad
  case otherOp =>
    intro s c b hready hc hrun hpc hfetch hbytes hgood hop
    refine gives_still (exec_loop c s) hready rfl (still_of_eq ?_)
    exact dmaAt_other _ _ ⟨hc, hrun, hpc, hfetch, hbytes, hgood⟩ (by simpa using hop)
  case index =>
    intro s c pc src dst len b d hready hc hrun hpc hfetch hbytes hgood hop hmode hcount hat hfirst hdesc hd hplain hsrc hdst hlen hpos
      hmeets hend hside hgoes
    have hmove : IndexMove s c pc b d := ⟨⟨hc, hrun, hpc, hfetch, hbytes, hgood⟩, hop, hmode, hcount, hgoes, hat, hfirst, hdesc, hd⟩
    exact gives_moved (exec_moveIndex c none s) hready (indexMove_moves hmove hplain hsrc hdst hlen hpos hmeets hend hside)
  case marked =>
    intro s c pc b d hready hc hrun hpc hfetch hbytes hgood hop hmode hcount hat hfirst hdesc hd hbad hgoes
    have hmove : IndexMove s c pc b d := ⟨⟨hc, hrun, hpc, hfetch, hbytes, hgood⟩, hop, hmode, hcount, hgoes, hat, hfirst, hdesc, hd⟩
    exact gives_still (exec_moveIndex c none s) hready rfl (still_of_eq (indexMove_skips hmove hbad))
  case indexError =>
    intro s c pc src dst len o kind a b d hready hc hrun hpc hfetch hbytes hgood hop hmode hcount hat hfirst hdesc hd hplain hsrc hdst hlen
      hpos hmeets hmark hgoes
    have hmove : IndexMove s c pc b d := ⟨⟨hc, hrun, hpc, hfetch, hbytes, hgood⟩, hop, hmode, hcount, hgoes, hat, hfirst, hdesc, hd⟩
    obtain ⟨herred, hbit⟩ := indexMove_errs hmove hplain hsrc hdst hlen hpos hmeets hmark
    refine gives_only (exec_moveIndex c none s) hready fun t ht => ?_
    have h := erred_answer herred ht
    refine ⟨h.chan.same, ?_, h.free, h.inbox, h.chan.other, h.only⟩
    rw [dmaByte_answer ht]
    exact hbit
  case line =>
    intro s c pc src dst len b hready hc hrun hpc hfetch hbytes hgood hop hmode hat hfirst hplain htarget hsrc hdst hlen hmeets hend hside hgoes
    have hmove : LineMove s c pc b := ⟨⟨hc, hrun, hpc, hfetch, hbytes, hgood⟩, hop, hmode, hgoes, hat, hfirst⟩
    exact gives_moved (exec_moveTwoDimensional c none s) hready (lineMove_moves hmove hplain htarget hsrc hdst hlen hmeets hend hside)
  case lineMarked =>
    intro s c pc b hready hc hrun hpc hfetch hbytes hgood hop hmode hat hfirst hbad hgoes
    have hmove : LineMove s c pc b := ⟨⟨hc, hrun, hpc, hfetch, hbytes, hgood⟩, hop, hmode, hgoes, hat, hfirst⟩
    exact gives_still (exec_moveTwoDimensional c none s) hready rfl (still_of_eq (lineMove_skips hmove hbad))
  case lineError =>
    intro s c pc src dst len o kind a b hready hc hrun hpc hfetch hbytes hgood hop hmode hat hfirst hplain htarget hsrc hdst hlen hmeets
      hmark hgoes
    subst hat
    have hmove : LineMove s c (s.ch c).pc b := ⟨⟨hc, hrun, hpc, hfetch, hbytes, hgood⟩, hop, hmode, hgoes, rfl, hfirst⟩
    obtain ⟨herred, hbit⟩ := lineMove_errs hmove hplain htarget hsrc hdst hlen hmeets hmark
    refine gives_only (exec_moveTwoDimensional c none s) hready fun t ht => ?_
    have h := erred_answer herred ht
    refine ⟨h.chan.same, ?_, h.inbox, h.chan.other, h.only⟩
    rw [dmaByte_answer ht]
    exact hbit

end Sys2Proof.Machine
end
